-- ==== Sys2Proof/Word.lean ====
section
/-!
DEFINITION. Words, bytes, bit masks and the sparse tables that the state is made of (spec/00_scope.md R3, R4, Table SCOPE-2).
-/

namespace Sys2Proof

/-- One byte of memory, a mailbox, a frame or a record. -/
abbrev Byte := BitVec 8

/-- A 32-bit host-visible register or word. -/
abbrev Word := BitVec 32

/-- A set of the 64 paths (or 64 receive beams): bit p stands for path p. -/
abbrev Mask64 := BitVec 64

/-- A complex value, I followed by Q (R4), in the integer units of its format. -/
structure Cplx where
  i : Int
  q : Int
deriving DecidableEq, Repr

/-- The complex value zero. -/
def Cplx.zero : Cplx := ⟨0, 0⟩

/-- A sparse table: an index that is not listed holds the table's default. -/
abbrev Tab (α : Type) := List (Nat × α)

/-- The entry listed for `k`, if one is. -/
def Tab.find? {α : Type} : Tab α → Nat → Option α
  | [], _ => none
  | (j, v) :: r, k => if j = k then some v else Tab.find? r k

/-- The value at `k`, the default `d` where none is listed. -/
def Tab.get {α : Type} (t : Tab α) (k : Nat) (d : α) : α :=
  (Tab.find? t k).getD d

/-- `t` with `v` at `k`; a table built by `set` alone lists its indices in rising order. -/
def Tab.set {α : Type} : Tab α → Nat → α → Tab α
  | [], k, v => [(k, v)]
  | (j, w) :: r, k, v =>
    if k < j then (k, v) :: (j, w) :: r
    else if k = j then (k, v) :: r
    else (j, w) :: Tab.set r k v

/-- `t` without an entry for `k`. -/
def Tab.erase {α : Type} : Tab α → Nat → Tab α
  | [], _ => []
  | (j, w) :: r, k => if j = k then Tab.erase r k else (j, w) :: Tab.erase r k

/-- `t` with `f` applied to the value at every index of `ks`. -/
def Tab.update {α : Type} (t : Tab α) (ks : List Nat) (d : α) (f : Nat → α → α) : Tab α :=
  ks.foldl (fun acc k => Tab.set acc k (f k (Tab.get t k d))) t

/-- `t` with `f` applied to every listed value. -/
def Tab.mapVals {α : Type} (t : Tab α) (f : Nat → α → α) : Tab α :=
  List.map (fun p => (p.1, f p.1 p.2)) t

/-- The indices of the set bits of a mask, in rising order. -/
def bitsOf {w : Nat} (m : BitVec w) : List Nat :=
  (List.range w).filter (fun k => m.getLsbD k)

/-- The mask whose only set bit is bit `k` (no bit, where `k` is not below the width). -/
def bitAt (w k : Nat) : BitVec w := BitVec.ofNat w (2 ^ k)

/-- A mask with the bits of the listed indices set. -/
def maskOf (w : Nat) (ks : List Nat) : BitVec w :=
  ks.foldl (fun acc k => acc ||| bitAt w k) 0#w

/-- Saturating increment of a counter of `w` bits. -/
def satAdd (w a b : Nat) : Nat := Nat.min (a + b) (2 ^ w - 1)

/-- A counter of `w` bits that wraps. -/
def wrapAdd (w a b : Nat) : Nat := (a + b) % 2 ^ w

end Sys2Proof
end

