-- ==== Sys2Proof/Syntax.lean ====
section
/-!
DEFINITION. The commands and events of the block (spec/opcode_table.json), and the plain types of their operands.
Every time operand `t` is an instant of local time in units of 1/384 ns.
-/

namespace Sys2Proof

/-- A position in a mailbox number, 0 to 3. -/
abbrev MbxIndex := Fin 4

/-- A leasable resource (R351). -/
inductive Resource where
  | engine (n : Nat)
  | processor (n : Nat)
  | dmaChannel (n : Nat)
  /-- A fabric lock: a word of the shared scratch pool. -/
  | lock (address : Nat)
  /-- A memory region of the packet pool, staging and scratch. -/
  | region (base length : Nat)
deriving DecidableEq, Repr

/-- What one queued record write puts into non-volatile memory (R405). -/
inductive NvRecord where
  | channelEntry (syn index : Nat)
  | regulatory
  | calChannel (entry : Nat)
  | calStep (step : Nat)
  | chainSettings
  | serviceRecord
  | dutyHistory
  | oemKey
  | sealRecord
  | debugLock
deriving DecidableEq, Repr


/-- How a host operation on non-volatile memory ends (R411): done, with the sectors it remapped; stopped because the
temperature left the range, or because a sector failed with no spare left, each with the bytes written before. -/
inductive HostOpEnd where
  | done (remapped : Nat)
  | tempStop (written : Nat)
  | verifyFail (written : Nat)
deriving DecidableEq, Repr

/-- One raw detection of an epoch (R180): metric in 0.01 dB, frequency offset in Hz, the stamp of the alignment's first
reference sample as a local instant. -/
structure RawDetection where
  profile : Nat
  beam : Nat
  bin : Nat
  metric : Int
  offsetHz : Int
  time : Nat
deriving DecidableEq, Repr

/-- A PHR as a context decoded it (R204): what the checks of Table DMD-2 and the record read. -/
structure PhrInfo where
  decoded : Bool
  hcsOk : Bool
  modeSwitch : Bool
  /-- Rate mode or MCS. -/
  submode : Nat
  mdsss : Bool
  /-- FSK: the FCS type bit says 4 octets. -/
  fcs4 : Bool
  whitened : Bool
  /-- SUN O-QPSK and SUN OFDM: the decoding used FEC, and deinterleaving. -/
  coded : Bool
  interleaved : Bool
  length : Nat
  bits : Word
deriving DecidableEq, Repr

/-- What the back end of an engine found for one reception (Table DMD-5, R216): FCS result, PSDU de-whitened with its FCS,
CFO in Hz, RSSI in 0.01 dBm, SNR in 0.01 dB, TOA sigma in 0.1 ns, corrected bits, and whether a saturation fell on it. -/
structure BackEnd where
  fcsOk : Bool
  psdu : List Byte
  cfo : Int
  rssi : Int
  snr : Int
  toaSigma : Nat
  fecCorrections : Nat
  saturated : Bool
deriving DecidableEq, Repr

/-- Per-path figures of a calibration step (Table CAL-5): phase and gain sigma with the step made, or a level in `a`. -/
structure CalFigure where
  path : Nat
  a : Nat
  b : Nat
  phaseStep : Int
  gainStep : Int
deriving DecidableEq, Repr

/-- What a calibration step measured (R281, R282): since when, the bins it used (RX_IQ), the values it would write by unit (path,
observation receiver or synthesiser), RESIDUAL and SIGMA, whether the sigma is at or below one trim step, per-path figures,
and for RX_BW the corner that its trims give, in kHz. -/
structure CalStep where
  since : Nat
  bins : List Nat
  writes : List (Nat × Int × Int)
  residual : Nat
  sigma : Nat
  settled : Bool
  figures : List CalFigure
  cornerKHz : Option Nat
deriving DecidableEq, Repr

/-- One device's part of a cross-device snapshot (R292): the SNR of the manager's and of its own partial sum in 1/65,536, and
their complex ratio in Q2.14. -/
structure XdevPart where
  position : Nat
  rhoManager : Nat
  rhoDevice : Nat
  ratioI : Int
  ratioQ : Int
deriving DecidableEq, Repr


/-- What training observed on one lane (R310): the first LANE_SLIP from 0 to 65 at which 1,024 blocks showed no invalid header and at
least 64 TRAIN blocks in either polarity, whether they were inverted, their LANE field, the eye margin in mUI, and the AMK
block that arrived: MARKER_COUNT and its arrival in blocks. -/
structure LaneTrain where
  slip : Option Nat
  inverted : Bool
  field : Nat
  margin : Nat
  arrival : Option (Nat × Nat)
deriving DecidableEq, Repr

/-- What the two ends of a hop exchange and measure at a join (R310, R313, R314, R325): of the lower end whether it has reset since
it last joined, whether it boots from the cascade, and its reference delays (on the lower end: the manager's); the hop's
one-way delay and trigger link delay; and for the lower end its position, D_CFG, its summed trigger delay, and the master
clock at which it restarts its count. -/
structure JoinInfo where
  fresh : Bool
  bootsCascade : Bool
  rxRef : Nat
  txRef : Nat
  oneWayPs : Nat
  trigPs : Nat
  position : Nat
  dCfg : Nat
  trigSumPs : Nat
  gridAt : Nat
deriving DecidableEq, Repr

/-- One exchange of PROBE blocks (R313), in ps of the end that stamped. -/
structure Probe where
  t1 : Int
  t2 : Int
  t3 : Int
  t4 : Int
deriving DecidableEq, Repr

/-- A PTP Announce as received: the sender's clockIdentity and port number, its grandmaster's clockClass, the UTC offset, the dataset
that the best master comparison reads, its domain and logMessageInterval. -/
structure Announce where
  id : Nat
  sport : Nat
  clockClass : Nat
  utcOffset : Int
  dataset : List Byte
  domain : Nat
  logInterval : Int
deriving DecidableEq, Repr

/-- What the boot ROM finds in a stage (R488): an uncorrectable ROM word; the sensor reading in 0.01 degree C and its excitation check;
whether the crystal oscillator started within 2 ms and REF_IN_FREQ as measured (0 none); whether every failing word could be
repaired, the repair map's check word held, and the spare rows and columns each macro uses; the failed links (axis, row or
column, link) and units (kind, unit); and the records whose check word fails. -/
structure BootFacts where
  romEcc : Bool
  tj : Int
  sensorOk : Bool
  crystal : Bool
  refIn : Fin 4
  repaired : Bool
  mapOk : Bool
  macros : List (Nat × Nat)
  links : List (Nat × Nat × Nat)
  units : List (Nat × Nat)
  badRecords : List NvRecord
deriving DecidableEq, Repr

/-- What the receive samples of one AGC window showed: overranges by path, this device's 64 first and then those that the chain's
workers reported (R56, R64); the highest filtered magnitude in 0.01 dBFS (R62); saturated samples of the receive filters by path
(R125); and saturations of the beam engine by beam, of the partial sum and of the output (R141). -/
structure WindowStats where
  ovr : List Nat
  peak : Int
  rxSats : List (Nat × Nat) := []
  beamSats : List (Nat × Nat × Nat) := []
deriving DecidableEq, Repr

/-- What the samples of one burst showed, by path: saturated DAC samples (R66), saturated samples of the transmit filters (R125),
saturations of the precoder (R159) and of the pre-distorter (R257). -/
structure BurstStats where
  clips : List (Nat × Nat) := []
  txSats : List (Nat × Nat) := []
  precoderSats : List (Nat × Nat) := []
  dpdSats : List (Nat × Nat) := []
deriving DecidableEq, Repr

/-- An instruction of the IEEE 1149.1 port (R499): the four that always execute, and the debug accesses that an unlocked device gives
to device memory and the fuses (bit 0 the seal, bit 1 DEBUG_LOCK). -/
inductive TapInstr where
  | bypass | idcode | sample | extest
  | readMemory (address : Nat)
  | writeMemory (address : Nat) (value : BitVec 8)
  | readFuses
  | burnFuse (bit : Fin 2)
deriving DecidableEq, Repr

/-- The commands and events of the block: one constructor per row of spec/opcode_table.json. A command of the mailbox
table carries no operand: its header and payload stand in the state, where SYSC copied them. -/
inductive Instr where
  /-- SYS_ECHO (R409): Command that returns its request payload unchanged. -/
  | sysEcho
  /-- SYS_GET_INFO (R409): Command that returns identification, role, boot and firmware state. -/
  | sysGetInfo
  /-- SYS_RESET (R409): Command that checks KEY and SCOPE and schedules a reset of the device or of the chain after DELAY_MS. -/
  | sysReset
  /-- SYS_SET_EVENT_FILTER (R409): Command that sets the lowest severity produced for each event group. -/
  | sysSetEventFilter
  /-- SYS_NV_GET_INFO (R410): Command that returns non-volatile write counts, spare sectors and writer state. -/
  | sysNvGetInfo
  /-- SYS_NV_WRITE (R411): Deferred command that copies staging data into the host area of non-volatile memory and verifies it by read-back. -/
  | sysNvWrite
  /-- SYS_FW_INSTALL (R412): Deferred command that authenticates a staged image, writes it into a bank and authenticates the bank. -/
  | sysFwInstall
  /-- SYS_FW_ACTIVATE (R413): Command that sets a one-time trial mark for a bank and schedules a reset. -/
  | sysFwActivate
  /-- SYS_FW_CONFIRM (R414): Deferred command that copies the running trial image into the first bank of the strap order. -/
  | sysFwConfirm
  /-- SYS_FABRIC_GET_STATUS (R359): Command that returns fabric monitor readings, band, spare links and ZENITH figures. -/
  | sysFabricGetStatus
  /-- SYS_MEM_GET_ECC (R359): Command that returns the ECC counts of each memory pool. -/
  | sysMemGetEcc
  /-- SYS_LEASE_GET (R359): Command that returns lease counts and the last 16 revocations. -/
  | sysLeaseGet
  /-- SYS_PROC_GET_STATUS (R359): Command that returns the state and work of each array signal processor. -/
  | sysProcGetStatus
  /-- SYN_SET_STATE (R95): Command that schedules a change of the base radio state and sets TX_LINGER. -/
  | synSetState
  /-- SYN_SET_MODE (R105): Command that sets RESTART or COMMIT mode and TEMP_WINDOW of one synthesiser. -/
  | synSetMode
  /-- SYN_TUNE (R100): Command that tunes or stages a synthesiser by frequency or channel entry. -/
  | synTune
  /-- SYN_COMMIT (R104): Command that copies staged synthesiser settings into a pending commit at an instant. -/
  | synCommit
  /-- SYN_SWITCH (R110): Command that schedules making the second synthesiser active. -/
  | synSwitch
  /-- SYN_STORE_ENTRY (R102): Deferred command that stores or erases a channel entry in non-volatile memory. -/
  | synStoreEntry
  /-- SYN_READ_ENTRY (R100): Command that returns one channel entry. -/
  | synReadEntry
  /-- SYN_SET_CLKOUT (R115): Command that enables, divides or delays a clock output. -/
  | synSetClkout
  /-- SYN_SET_REFERENCE (R118): Command that sets the primary reference, failover and freewheel limit. -/
  | synSetReference
  /-- SYN_GET_STATUS (R122): Command that returns radio state, synthesiser and reference status. -/
  | synGetStatus
  /-- PATH_SET_ENABLE (R69): Command that sets the receive and transmit path masks. -/
  | pathSetEnable
  /-- PATH_SET_GAIN (R59): Command that schedules or applies a common receive gain step in a pending slot. -/
  | pathSetGain
  /-- PATH_SET_AGC (R63): Command that configures, enables or disables the array AGC. -/
  | pathSetAgc
  /-- PATH_SET_TX_ATTEN (R67): Command that sets driver attenuation for a path mask. -/
  | pathSetTxAtten
  /-- PATH_SET_FE_TIMING (R72): Command that sets TRSW_LEAD, TRSW_LAG and RX_BLANK. -/
  | pathSetFeTiming
  /-- PATH_SET_OBS (R75): Command that sets observation attenuation for a receiver mask. -/
  | pathSetObs
  /-- PATH_GET_STATUS (R88): Command that returns gain, masks, overrange counts and clears transmit clip counts. -/
  | pathGetStatus
  /-- PATH_AUX_ADC_CONFIG (R79): Command that configures one monitor ADC channel. -/
  | pathAuxAdcConfig
  /-- PATH_AUX_ADC_READ (R88): Command that returns the latest monitor results of selected channels. -/
  | pathAuxAdcRead
  /-- PATH_AUX_DAC_SET (R85): Command that sets mode, code, slew and safe code of one auxiliary DAC channel. -/
  | pathAuxDacSet
  /-- PATH_AUX_DAC_SINE (R85): Command that starts, changes or stops the sine of one auxiliary DAC channel. -/
  | pathAuxDacSine
  /-- FILT_LOAD_SET (R127): Command that stages the coefficients of one filter set. -/
  | filtLoadSet
  /-- FILT_ASSIGN (R127): Command that stages path membership of one filter set. -/
  | filtAssign
  /-- FILT_APPLY (R128): Command that checks reference delays and schedules the staged filter changes at an instant. -/
  | filtApply
  /-- FILT_SET_DETECTOR (R133): Command that configures one threshold detector for a path mask. -/
  | filtSetDetector
  /-- FILT_GET_STATUS (R137): Command that returns sets, delays, detector states and clears saturation counts. -/
  | filtGetStatus
  /-- BEAM_SET_GEOMETRY (R145): Command that loads element positions into the geometry table. -/
  | beamSetGeometry
  /-- BEAM_SET_GRID (R146): Command that loads grid directions and the design frequency. -/
  | beamSetGrid
  /-- BEAM_SET_RX_SOURCE (R144): Command that stages receive beam sources, grid indices, tapers and neighbours. -/
  | beamSetRxSource
  /-- BEAM_LOAD_BANK (R150): Command that writes EXPLICIT weights into the inactive receive bank. -/
  | beamLoadBank
  /-- BEAM_SWAP (R153): Command that schedules or cancels a host receive swap. -/
  | beamSwap
  /-- BEAM_SET_ADAPTIVE (R148): Command that sets UPDATE_MS, COV_LOG2, LOAD_DB and SIG_MAX_AGE. -/
  | beamSetAdaptive
  /-- BEAM_SET_SCALE (R143): Command that stages a new BEAM_SHIFT. -/
  | beamSetScale
  /-- BEAM_SIG_PIN (R166): Command that pins or unpins a signature cache entry. -/
  | beamSigPin
  /-- BEAM_SIG_READ (R166): Command that returns a signature and its metadata. -/
  | beamSigRead
  /-- BEAM_GET_STATUS (R171): Command that returns banks, epochs, pending swaps, slice map and clears saturation counts. -/
  | beamGetStatus
  /-- HZN_SET_PROFILE (R198): Command that sets and enables or disables one search profile at the next epoch boundary. -/
  | hznSetProfile
  /-- HZN_SET_NOISE (R182): Command that sets NOISE_LOG2. -/
  | hznSetNoise
  /-- HZN_READ_NOISE (R197): Command that returns one beam's noise estimates. -/
  | hznReadNoise
  /-- HZN_GET_STATUS (R197): Command that returns enabled profiles, free banks and settings. -/
  | hznGetStatus
  /-- HZN_GET_COUNTERS (R199): Command that returns and optionally clears the Horizon counters. -/
  | hznGetCounters
  /-- DMD_SET_CONTROL (R223): Command that sets one profile's demodulation control settings. -/
  | dmdSetControl
  /-- DMD_GET_CONTROL (R223): Command that returns one profile's control settings. -/
  | dmdGetControl
  /-- DMD_GET_COUNTERS (R222): Command that returns and optionally clears the demodulation counters. -/
  | dmdGetCounters
  /-- DMD_GET_CONTEXTS (R223): Command that returns the context map and free contexts per engine. -/
  | dmdGetContexts
  /-- TX_SUBMIT (R231): Command that submits a transmit request for admission to the launch queue. -/
  | txSubmit
  /-- TX_CANCEL (R235): Command that cancels a queued request before its preparation. -/
  | txCancel
  /-- TX_SET_RAMP (R230): Command that sets the ramp duration and table for later admissions. -/
  | txSetRamp
  /-- TX_SET_COEX (R245): Command that sets coexistence enable, busy mode, lead and grant filter. -/
  | txSetCoex
  /-- TX_GET_STATUS (R255): Command that returns queue, duty and outcome counts. -/
  | txGetStatus
  /-- TX_REG_READ (R541): Command that returns the stored regulatory record. -/
  | txRegRead
  /-- TX_REG_SUPERSEDE (R243): Deferred command that replaces the sealed regulatory record with a newer signed one. -/
  | txRegSupersede
  /-- DPD_SET_MODE (R258): Command that sets pre-distortion modes and adaptation settings. -/
  | dpdSetMode
  /-- DPD_LOAD_TABLES (R259): Command that loads one branch of one path into the pending table set. -/
  | dpdLoadTables
  /-- DPD_READ_TABLES (R278): Command that returns the active tables of one branch. -/
  | dpdReadTables
  /-- DPD_GET_STATUS (R278): Command that returns per-path pre-distortion and mismatch state and clears saturation counts. -/
  | dpdGetStatus
  /-- DPD_SET_MISMATCH (R267): Command that sets mismatch measurement, offsets and RFFE clock. -/
  | dpdSetMismatch
  /-- DPD_SET_TUNER_MAP (R270): Command that describes the aerial tuners of paths. -/
  | dpdSetTunerMap
  /-- DPD_TUNE_WINDOW (R271): Command that opens or cancels a tuning window. -/
  | dpdTuneWindow
  /-- DPD_SET_TUNER (R274): Command that writes explicit tuner codes inside an open window. -/
  | dpdSetTuner
  /-- DPD_RFFE_XFER (R277): Command that queues one host RFFE transaction on a bus. -/
  | dpdRffeXfer
  /-- CAL_RUN (R286): Command that schedules calibration runs of named kinds on a path mask. -/
  | calRun
  /-- CAL_SET_SUPERVISOR (R286): Command that sets AUTO_MASK, triggers and limits of the calibration supervisor. -/
  | calSetSupervisor
  /-- CAL_GET_STATUS (R298): Command that returns the state of each calibration kind. -/
  | calGetStatus
  /-- CAL_GET_PATH_STATS (R298): Command that returns per-path and per-device calibration statistics. -/
  | calGetPathStats
  /-- CAL_STORE (R296): Deferred command that stores the channel and step calibration sets. -/
  | calStore
  /-- CAL_RESTORE (R297): Command that restores calibration kinds from factory, stored or previous values. -/
  | calRestore
  /-- CAL_READ_SET (R294): Command that returns a calibration set. -/
  | calReadSet
  /-- CAL_SET_COUPLER (R290): Command that loads COUPLER_PHASE for every path. -/
  | calSetCoupler
  /-- FH_SET_PORT (R441): Command that enables a fronthaul port and sets FEC, tag, addresses and board delays. -/
  | fhSetPort
  /-- FH_SET_STREAM (R431): Command that configures one IQ stream slot after a rate check. -/
  | fhSetStream
  /-- FH_SET_RECORDS (R426): Command that sets PORT_ORDER and REC_HOLD_US for record delivery. -/
  | fhSetRecords
  /-- FH_SET_PTP (R441): Command that sets the PTP port, profile and servo limits. -/
  | fhSetPtp
  /-- FH_GET_TIME (R440): Command that returns device time, time state and PTP statistics. -/
  | fhGetTime
  /-- FH_GET_PORT_STATUS (R441): Command that returns and optionally clears per-port status and counts. -/
  | fhGetPortStatus
  /-- LCL_SET_CHAIN (R327): Deferred command that stores EXPECTED and sets rejoin, relay timeout and margin. -/
  | lclSetChain
  /-- LCL_GET_STATUS (R327): Command that returns the chain state. -/
  | lclGetStatus
  /-- LCL_RETRAIN (R326): Command that breaks and retrains one hop. -/
  | lclRetrain
  /-- LCL_GET_LINK (R327): Command that returns one hop's lanes and counts. -/
  | lclGetLink
  /-- LCL_LAST_RELAY (R319): Command that returns per-position status of a mailbox's last broadcast. -/
  | lclLastRelay
  /-- HALO_ARM (R443): Command that configures and arms a capture slot. -/
  | haloArm
  /-- HALO_DISARM (R454): Command that stops a capture slot, optionally freezing triggered segments. -/
  | haloDisarm
  /-- HALO_TRIGGER (R449): Command that gives a command trigger to a set of slots at an instant. -/
  | haloTrigger
  /-- HALO_SET_MASK (R455): Command that loads a spectral or envelope mask. -/
  | haloSetMask
  /-- HALO_GET_CAPTURE (R447): Command that returns a slot's state and segments. -/
  | haloGetCapture
  /-- HALO_READ (R460): Command that returns up to 4,080 bytes of the capture pool. -/
  | haloRead
  /-- HALO_SNAPSHOT (R459): Command that strobes a pinned snapshot now or at an instant. -/
  | haloSnapshot
  /-- HALO_SNAP_READ (R458): Command that returns and optionally releases a snapshot. -/
  | haloSnapRead
  /-- HALO_SET_TRIG_OUT (R453): Command that sets TRIG_OUT_MASK and TRIG_OUT_WIDTH. -/
  | haloSetTrigOut
  /-- PWR_SLEEP (R472): Command that checks the refusers and starts sleep entry. -/
  | pwrSleep
  /-- PWR_GET_STATUS (R486): Command that returns power state, temperature and thermal conditions. -/
  | pwrGetStatus
  /-- PWR_GET_WAKE (R465): Command that returns and optionally clears the wake record. -/
  | pwrGetWake
  /-- SPARE_GET_STATUS (R516): Command that returns spare inventory, retirements and service record. -/
  | spareGetStatus
  /-- SPARE_SET_WINDOW (R507): Command that opens or cancels a maintenance window. -/
  | spareSetWindow
  /-- SPARE_RETIRE_PATH (R511): Deferred command that retires paths in the named directions. -/
  | spareRetirePath
  /-- SPARE_RESTORE_PATH (R512): Deferred command that clears path retirement in the named directions. -/
  | spareRestorePath
  /-- SEC_BOOT_LOAD (R495): Command that authenticates a host-staged image in WAIT_HOST and starts it. -/
  | secBootLoad
  /-- SEC_GET_STATE (R500): Command that returns provisioning and boot state. -/
  | secGetState
  /-- SEC_SET_OEM_KEY (R498): Deferred command that stores the OEM key and programs its fuse. -/
  | secSetOemKey
  /-- SEC_SEAL_RECORD (R498): Deferred command that stores and seals the regulatory record. -/
  | secSealRecord
  /-- SEC_LOCK_DEBUG (R498): Deferred command that programs the debug lock fuse. -/
  | secLockDebug
  /-- MBX_DOORBELL_RING (R388): Host write of RING that submits a mailbox command, making it PENDING. -/
  | mbxDoorbellRing (t : Nat) (ringBits : BitVec 4)
  /-- MBX_RESPONSE_RELEASE (R388): Host write clearing DONE that releases a mailbox to IDLE. -/
  | mbxResponseRelease (t : Nat) (doneBits : BitVec 4)
  /-- HOST_RESET (R382): Host write with KEY 0xA5 and SOFT_RESET that resets the device. -/
  | hostReset (t : Nat) (v : Word)
  /-- DMA_START (R365): Host write of START that runs a register-mode transfer or a descriptor chain. -/
  | dmaStart (t : Nat) (c : Fin 8) (v : Word) (read : List Byte)
  /-- DMA_STOP (R369): Host write of STOP that requests a stop after the descriptor in progress. -/
  | dmaStop (t : Nat) (c : Fin 8) (v : Word)
  /-- EVQ_ENABLE (R392): Host write setting ENABLE that starts the event ring. -/
  | evqEnable (t : Nat) (v : Word)
  /-- EVQ_DISABLE (R392): Host write clearing ENABLE that stops the event ring after the record in progress. -/
  | evqDisable (t : Nat) (v : Word)
  /-- EVQ_CONS_WRITE (R393): Host write of the consumer index that releases ring slots or sets CONS_ERR. -/
  | evqConsWrite (t : Nat) (v : Word)
  /-- MSIX_VECTOR_UNMASK (R386): Host unmask of an MSI-X vector that sends a held pending message. -/
  | msixVectorUnmask (t : Nat) (v : Fin 32)
  /-- REGISTER_WRITE (R6): Host write to any register or mailbox area without a row of its own, including W1C bits and overrun marking. -/
  | registerWrite (t off : Nat) (data : List (Option Byte))
  /-- MAILBOX_SCAN (R389): SYSC scan of the doorbells that takes every pending mailbox in index order. -/
  | mailboxScan (t : Nat)
  /-- RELAY_RESPONSE (R319): Arrival of a worker's response to a relayed command, completing it when all have answered. -/
  | relayResponse (t : Nat) (mbx : Fin 4) (tag pos status : Nat) (payload : List Byte)
  /-- RELAY_RESEND (R319): Expiry of 1 ms without response, which resends the relayed command once. -/
  | relayResend (mbx : Fin 4)
  /-- RELAY_TIMEOUT (R319): Expiry of the relay timeout, ending the command TIMEOUT or PARTIAL. -/
  | relayTimeout (mbx : Fin 4)
  /-- WORKER_COMMAND_RECEIVE (R319): A worker receives a relayed command, executing it or treating it as a repeat. -/
  | workerCommandReceive (t : Nat) (mbx : Fin 4) (bytes : List Byte) (reached : Nat)
  /-- DEFERRED_COMMAND_COMPLETE (R403): Completion of a deferred command, writing its response and raising the mailbox vector. -/
  | deferredCommandComplete (t : Nat) (mbx : Fin 4) (cascade : Bool) (out : HostOpEnd)
  /-- BARRIER_RELEASE (R404): A BARRIER command starts once every earlier command has its response written. -/
  | barrierRelease (t : Nat)
  /-- NV_RECORD_WRITE_DONE (R405): Completion of one queued non-volatile record write, after which the next queued write starts. -/
  | nvRecordWriteDone (t : Nat) (ok : Bool)
  /-- VDD_AON_POWER_ON (R28): End of the VDD_AON power-on reset: Dawn samples WADDR, arms default wake sources and starts power-up. -/
  | vddAonPowerOn (t : Nat) (waddr : BitVec 2)
  /-- VDD_AON_REMOVED (R463): Removal of VDD_AON, taking the device to OFF and losing Dawn state. -/
  | vddAonRemoved (t : Nat)
  /-- PWR_GOOD_RISE (R31): Board raises PWR_GOOD when every rail is within range. -/
  | pwrGoodRise (t : Nat)
  /-- PWR_GOOD_TIMEOUT (R32): Expiry of 100 ms without PWR_GOOD, which drops PWR_EN and returns to SLEEP. -/
  | pwrGoodTimeout
  /-- PWR_GOOD_FALL (R35): Loss of PWR_GOOD while PWR_EN is high, resetting every domain except Dawn and restarting power. -/
  | pwrGoodFall (t : Nat)
  /-- PWR_EN_RESTART (R37): End of the minimum off-time, after which Dawn asserts PWR_EN again, replaying a latched wake. -/
  | pwrEnRestart
  /-- RESET_L_ASSERT (R34): RESET_L driven low with PWR_GOOD high, resetting every domain except Dawn. -/
  | resetLAssert (t : Nat)
  /-- RESET_L_RELEASE (R26): Rising edge of RESET_L that samples the straps and starts the boot ROM. -/
  | resetLRelease (t : Nat) (role bootsrc : BitVec 2)
  /-- PERST (R374): PERST_L assertion, resetting the PCI Express endpoint, host DMA channels, mailboxes and ring registers. -/
  | perst (t : Nat)
  /-- FUNCTION_LEVEL_RESET (R374): Function Level Reset of the endpoint, with the same host-interface effects as PERST_L but the link kept up. -/
  | functionLevelReset (t : Nat)
  /-- BOOT_STAGE_END (R488): Completion of a boot ROM stage, moving to the next stage or recording a boot fault. -/
  | bootStageEnd (t : Nat) (x : BootFacts)
  /-- CASCADE_IMAGE_RECEIVE (R496): A worker in WAIT_CASCADE receives the manager's image and authenticates it. -/
  | cascadeImageReceive (t : Nat) (image : List Byte)
  /-- FIRMWARE_READY (R415): Firmware completes initialisation, raises READY, enters STANDBY and produces EV_SYS_READY. -/
  | firmwareReady (t : Nat)
  /-- I2C_ADDRESS_MATCH (R467): The Dawn matcher acknowledges its address, which is a wake event when I2C is armed. -/
  | i2cAddressMatch (t : Nat)
  /-- WAKE_L_LOW (R468): WAKE_L held low for 2 us, which is a wake event when armed. -/
  | wakeLLow (t : Nat) (low : Bool)
  /-- SLEEP_TIMER_EXPIRY (R469): The armed sleep timer reaches TIMER_TICKS and raises a wake event. -/
  | sleepTimerExpiry
  /-- SLEEP_REQUEST (R472): Firmware hands a sleep request to Dawn, which grants it at the point of no return or refuses it for a prior wake. -/
  | sleepRequest (t : Nat)
  /-- SLEEP_PWR_EN_DROP (R472): 10 us after the grant Dawn deasserts PWR_EN and the device enters SLEEP. -/
  | sleepPwrEnDrop
  /-- SLEEP_READY_REPORT (R476): A prepared worker's ready report reaches the manager during chain sleep entry. -/
  | sleepReadyReport (t : Nat) (pos : Fin 16)
  /-- SLEEP_GO (R476): A prepared worker receives GO and continues sleep entry. -/
  | sleepGo (t : Nat)
  /-- SLEEP_ABANDON (R476): A prepared worker receives ABANDON and leaves sleep entry. -/
  | sleepAbandon (t : Nat)
  /-- SLEEP_REPORT_TIMEOUT (R476): Expiry of 100 ms at the manager without every worker's report, which refuses WORKER_AWAKE and sends ABANDON. -/
  | sleepReportTimeout
  /-- WORKER_SLEEP_TIMEOUT (R476): Expiry of 200 ms at a prepared worker without GO or ABANDON, which leaves sleep entry. -/
  | workerSleepTimeout
  /-- THERMAL_SAMPLE (R478): Millisecond sensor reading that sets or clears thermal conditions. -/
  | thermalSample (tj : Int) (ok : Bool)
  /-- TRANSMIT_TRIP (R479): Arrival of the ZENITH trip at the sample plane, aborting bursts ABORTED_THERMAL and moving safe DAC channels. -/
  | transmitTrip (t : Nat)
  /-- SHUTDOWN_POWER_OFF (R480): 10 us after a shutdown signal Dawn resets the domains and deasserts PWR_EN. -/
  | shutdownPowerOff
  /-- THERMAL_HOLDOFF_END (R480): End of the 60 s no-wake span after a shutdown, acting on a latched wake. -/
  | thermalHoldoffEnd
  /-- VCORE_RECOMMEND (R485): Ten-second computation of the recommended VDD_CORE, raising EV_PWR_VCORE on change. -/
  | vcoreRecommend (t : Nat)
  /-- FABRIC_SPEED_MONITOR (R341): Millisecond reading of router cycle-time monitors, raising EV_SYS_FABRIC_SLOW. -/
  | fabricSpeedMonitor (t : Nat) (readings : List Nat)
  /-- FABRIC_LINK_FAILURE (R331): Declaration of a failed fabric link, switching in the spare link set. -/
  | fabricLinkFailure (t : Nat) (axis : Fin 2) (index : Fin 6) (link : Fin 5)
  /-- FABRIC_FAULT_RESET (R332): 1 ms after a fabric fault, reset of every domain except Dawn. -/
  | fabricFaultReset
  /-- MEMORY_SCRUB (R345): Scrubber read of SRAM words, correcting single-bit errors. -/
  | memoryScrub (t : Nat) (pool : Fin 10) (addr : Nat) (outcome : Option Bool) (rec : Option NvRecord)
  /-- MAINTENANCE_RING_POLL (R352): 50 us poll of every unit over the maintenance ring, declaring units that miss two polls failed. -/
  | maintenanceRingPoll (t : Nat) (missed : List Nat)
  /-- UNIT_HANDSHAKE_STALL (R352): A unit's internal handshake outstanding for 20 us, declaring it failed. -/
  | unitHandshakeStall (t owner : Nat)
  /-- UNIT_RETURN_TO_SERVICE (R353): Completion of a failed unit's reset, returning it to service or holding it out. -/
  | unitReturnToService (t owner : Nat)
  /-- LEASE_RELEASE (R354): A unit releases a lease, returning the resource to its pool. -/
  | leaseRelease (t owner : Nat) (r : Resource)
  /-- WATCHDOG_RESTART (R356): SYSC restarts the hardware watchdog through the maintenance ring. -/
  | watchdogRestart (t : Nat)
  /-- WATCHDOG_EXPIRY (R357): Watchdog expiry, starting abort ramp-down on every burst. -/
  | watchdogExpiry (t : Nat)
  /-- WATCHDOG_RESET (R357): 10 us after expiry, reset of every domain except Dawn with the boot cause recorded. -/
  | watchdogReset
  /-- SYS_RESET_DELAY_EXPIRY (R409): End of DELAY_MS after SYS_RESET, resetting the device or chain. -/
  | sysResetDelayExpiry
  /-- FW_TRIAL_RESET (R413): 1 ms after SYS_FW_ACTIVATE, reset into the trial bank. -/
  | fwTrialReset
  /-- REFERENCE_LOST (R117): Declaration of reference loss, freezing the clock ADPLL into FREEWHEEL and entering holdover. -/
  | referenceLost (t : Nat) (src reason : Fin 2)
  /-- REFERENCE_VALID (R117): A source passes 10 ms of good checks, becoming valid and allowing re-acquisition. -/
  | referenceValid (t : Nat) (src : Fin 2) (freq : Fin 4)
  /-- REFERENCE_REACQUIRED (R119): End of clock ADPLL re-acquisition, raising EV_SYN_REF_ACQUIRED and incrementing ACQ_COUNT. -/
  | referenceReacquired (t : Nat)
  /-- FREEWHEEL_LIMIT (R119): FREEWHEEL lasts FREEWHEEL_LIMIT without a valid source, making device time invalid. -/
  | freewheelLimit
  /-- SYN_ACQUISITION_START (R101): A postponed, committed or STANDBY-exit acquisition starts, judging the entry and temperature window. -/
  | synAcquisitionStart (k : Fin 3)
  /-- SYN_LOCK (R100): A synthesiser acquisition completes with lock, raising EV_SYN_LOCK and ending the LO gap. -/
  | synLock (t : Nat) (k : Fin 3) (band gain tdcNorm kp ki : Nat)
  /-- SYN_UNLOCK (R109): Loop phase error beyond 30 degrees for 1 us, freezing the word and scheduling re-acquisition. -/
  | synUnlock (t : Nat) (k : Fin 3)
  /-- SYN_COMMIT_INSTANT (R104): A pending commit reaches its instant and starts acquisition of the committed synthesisers. -/
  | synCommitInstant
  /-- SYN_SWITCH_APPLY (R110): A pending switch applies when its target is locked and no protected interval blocks it. -/
  | synSwitchApply (chain : Bool) (blankNs : Nat)
  /-- SYN_SWITCH_ABANDON (R110): The switch deadline passes unapplied, raising EV_SYN_SWITCH with RESULT 1. -/
  | synSwitchAbandon
  /-- BASE_STATE_CHANGE (R95): A scheduled base-state change reaches its instant and takes effect. -/
  | baseStateChange
  /-- RADIO_TRANSITION_DONE (R93): A radio state transition completes and the new state is fully in force. -/
  | radioTransitionDone (t : Nat)
  /-- GAIN_CHANGE_APPLY (R60): A scheduled or decided gain change applies on its first ADC sample, moving the epoch and flagging samples. -/
  | gainChangeApply
  /-- AGC_WINDOW_END (R62): End of a 10 ms AGC decision window, deciding a step change. -/
  | agcWindowEnd (x : WindowStats)
  /-- PATH_RX_ENABLE_SETTLE (R70): 8 us after a path is put in the receive mask it starts feeding samples. -/
  | pathRxEnableSettle (p : Fin 64)
  /-- AUX_ADC_CONVERSION (R80): A monitor channel's conversion falls due and reports a result and limit events. -/
  | auxAdcConversion (t : Nat) (c : Fin 16) (raw : BitVec 12)
  /-- AUX_OPEN_TEST (R81): Once-per-second open-wire test of a monitor channel. -/
  | auxOpenTest (t : Nat) (c : Fin 16) (up down : BitVec 12)
  /-- STUCK_ADC (R511): An ADC word unchanged for 10 ms of RX time retires the path from receive. -/
  | stuckAdc (t : Nat) (p : Fin 64)
  /-- FILT_APPLY_INSTANT (R129): Staged filter changes take effect on the applied sample. -/
  | filtApplyInstant
  /-- DETECTOR_ASSERT (R133): A threshold detector's dwell count completes and it asserts. -/
  | detectorAssert (t : Nat) (p : Fin 64) (lower : Bool) (level : Int)
  /-- DETECTOR_RELEASE (R133): A threshold detector's release dwell count completes and it releases. -/
  | detectorRelease (t : Nat) (p : Fin 64) (lower : Bool) (level : Int)
  /-- BEAM_SWAP_FREEZE (R154): The freeze point 20 us before a swap fixes which staged changes it activates. -/
  | beamSwapFreeze
  /-- BEAM_SWAP_APPLY (R151): A host or internal receive swap activates the inactive bank and corrections. -/
  | beamSwapApply
  /-- GRID_RECOMPUTE_DONE (R146): Completion of a GRID weight recomputation, staging the result. -/
  | gridRecomputeDone (t : Nat)
  /-- ADAPTIVE_UPDATE (R148): UPDATE_MS expiry starts covariance estimation and adaptive weight solving. -/
  | adaptiveUpdate
  /-- ADAPTIVE_SOLVE_DONE (R149): Completion of an adaptive update, staging weights for an internal swap or holding them. -/
  | adaptiveSolveDone (t : Nat) (few ill : Bool) (sols : List (Nat × List Cplx))
  /-- SIGNATURE_STORE (R162): A processor completes a packet's signature, cache write and angle of arrival. -/
  | signatureStore (t order : Nat) (mant : List Cplx) (exponent : Nat) (az el : Int) (sigAz sigEl : Nat)
  /-- SEARCH_EPOCH (R180): Ten-microsecond epoch boundary: detections, merging and noise updates. -/
  | searchEpoch (t : Nat) (raws : List RawDetection) (powers : List (Nat × Nat)) (sats : Nat)
  /-- DETECTION_RESUME (R182): End of the 64 suspended epochs after RX entry or a gap, restarting noise estimates. -/
  | detectionResume
  /-- CANDIDATE_HOLD_END (R186): A candidate's hold count ends and it is classified and arbitrated. -/
  | candidateHoldEnd (running : List (Nat × Int))
  /-- CONTEXT_CLAIM (R201): A granted claim reaches its context, which enters SYNC. -/
  | contextClaim (t : Nat) (ctx : Fin 1024)
  /-- CAPTURE_HANDOFF (R209): A capture hand-off reaches a context, ending or dropping its reception and restarting on the candidate. -/
  | captureHandoff (t : Nat) (ctx : Fin 1024)
  /-- CONTEXT_RELEASE (R190): A context's release reaches the free-context map. -/
  | contextRelease (t : Nat) (ctx : Fin 1024)
  /-- SFD_FOUND (R203): A context finds its SFD or LTF and enters HEADER. -/
  | sfdFound (t : Nat) (ctx : Fin 1024) (sfd1 : Bool) (sub : Nat)
  /-- SFD_WINDOW_EXPIRY (R203): The SFD search window ends without an SFD, releasing the context with SFD_FAIL. -/
  | sfdWindowExpiry (t : Nat) (ctx : Fin 1024)
  /-- HEADER_DECODED (R204): A context finishes its PHR and applies the header checks. -/
  | headerDecoded (t : Nat) (ctx : Fin 1024) (phr : PhrInfo)
  /-- LAST_AIR_SYMBOL (R201): A context reaches the last air symbol and leaves its reception to the back end. -/
  | lastAirSymbol (t : Nat) (ctx : Fin 1024) (running : Int)
  /-- LOST_SYNC (R221): The running metric stays low for LOSS_SYMBOLS, ending the reception. -/
  | lostSync (t : Nat) (ctx : Fin 1024) (running : Int)
  /-- RECORD_COMPLETE (R218): The back end completes FEC, FCS and record assembly and writes the record to the packet pool. -/
  | recordComplete (t order : Nat) (x : BackEnd)
  /-- FH_LINK_CHANGE (R417): A fronthaul port goes up or down, raising EV_FH_LINK. -/
  | fhLinkChange (t : Nat) (p : Fin 4) (up : Bool) (cause : Fin 3)
  /-- FH_FRAME_RECEIVE (R418): An ingress frame is accepted or discarded and counted. -/
  | fhFrameReceive (t : Nat) (p : Fin 4) (fcsOk : Bool) (length dest etherType : Nat) (fragment : Bool) (fec : Fin 3)
  /-- RTC_TRANSMIT_REQUEST (R424): A real-time control message with a transmit request is stamped and admitted. -/
  | rtcTransmitRequest (t : Nat) (p : Fin 4) (rtcId seqId : Nat) (body : List Byte)
  /-- RTC_BEAM_SWAP (R424): A real-time control message scheduling a swap, answered with a control result. -/
  | rtcBeamSwap (t : Nat) (p : Fin 4) (rtcId seqId : Nat) (body : List Byte)
  /-- RTC_TRANSMIT_CANCEL (R424): A real-time control message cancelling a request, answered with a control result. -/
  | rtcTransmitCancel (t : Nat) (p : Fin 4) (rtcId seqId : Nat) (body : List Byte)
  /-- ECPRI_UNSUPPORTED (R422): An unsupported eCPRI message type is discarded and fault 0x400 raised. -/
  | ecpriUnsupported (t : Nat) (p : Fin 4) (typ : Nat)
  /-- ECPRI_DELAY_REQUEST (R432): A type-5 Request is answered with a Response carrying its arrival stamp. -/
  | ecpriDelayRequest (t : Nat) (p : Fin 4) (action id : Nat)
  /-- ECPRI_REMOTE_REQUEST (R432): A type-5 Remote Request causes the device to send a Request. -/
  | ecpriRemoteRequest (t : Nat) (p : Fin 4) (id : Nat)
  /-- ECPRI_SYNC_REQUEST (R433): A type-7 Synchronization Request is answered with acknowledge, raised faults and end. -/
  | ecpriSyncRequest (t : Nat) (p : Fin 4)
  /-- ECPRI_FAULT_ACK (R433): A Fault Indication Acknowledge is accepted without action. -/
  | ecpriFaultAck (t : Nat) (p : Fin 4)
  /-- ECPRI_FAULT_CEASE (R433): 1 s without recurrence of a raised fault sends its ceasing indication. -/
  | ecpriFaultCease (p : Fin 4)
  /-- RECORD_FRAME_SEND (R426): A record frame is closed when full or after REC_HOLD_US and queued for egress. -/
  | recordFrameSend
  /-- IQ_FRAME_COMPLETE (R428): An IQ stream frame is complete and queued, or dropped when the port buffer is full. -/
  | iqFrameComplete (t : Nat) (slot : Fin 32) (count stamp gainEpoch weightEpoch : Nat) (samples : List Cplx)
  /-- IQ_FRAME_LAUNCH (R430): A timed IQ frame reaches its launch time and becomes eligible. -/
  | iqFrameLaunch (p : Fin 4)
  /-- EGRESS_FRAME_END (R419): A frame finishes on a port and the next frame is selected by class. -/
  | egressFrameEnd (p : Fin 4)
  /-- OUTCOME_SEND (R254): A transmit outcome leaves as an outcome record or EV_TX_OUTCOME. -/
  | outcomeSend (t : Nat)
  /-- PTP_SYNC (R436): Receipt of a Sync message, measuring offset and driving time-state transitions. -/
  | ptpSync (t : Nat) (p : Fin 4) (id sport seqId : Nat) (twoStep : Bool) (originPs correctionPs : Int)
  /-- PTP_FOLLOW_UP (R435): Receipt of a Follow_Up completing a two-step Sync. -/
  | ptpFollowUp (t : Nat) (p : Fin 4) (id sport seqId : Nat) (originPs correctionPs : Int)
  /-- PTP_ANNOUNCE (R435): Receipt of an Announce message, used for master selection. -/
  | ptpAnnounce (t : Nat) (p : Fin 4) (x : Announce)
  /-- PTP_DELAY_RESP (R435): Receipt of a Delay_Resp, updating the mean path delay. -/
  | ptpDelayResp (t : Nat) (p : Fin 4) (id sport seqId : Nat) (receivePs correctionPs : Int)
  /-- PTP_DELAY_REQ_SEND (R435): Periodic transmission of a Delay_Req. -/
  | ptpDelayReqSend
  /-- PTP_MASTER_LOST (R435): Announce or Sync timeout declaring the master lost. -/
  | ptpMasterLost
  /-- HOLDOVER_LIMIT_EXPIRY (R436): HOLDOVER_LIMIT_S passes in HOLDOVER, making time INVALID. -/
  | holdoverLimitExpiry
  /-- TX_PREPARATION (R234): At L minus 150 us a request is rechecked, given transmit beams and its weights loaded. -/
  | txPreparation
  /-- COEX_REQUEST_ASSERT (R245): COEX_REQ and COEX_PRI rise at L minus COEX_LEAD. -/
  | coexRequestAssert
  /-- CAL_YIELD (R112): At L minus 23 us yieldable calibration steps are told to stop and restore trims. -/
  | calYield
  /-- TX_STATE_ENTRY (R94): At L minus 20 us the device begins the change to TX. -/
  | txStateEntry
  /-- LAUNCH_DECISION (R113): From L minus 12 us the launch is decided as on time, delayed or LATE. -/
  | launchDecision (t : Nat)
  /-- TRSW_TRANSMIT (R72): At t0 TRSW of participating quadrants switches to transmit. -/
  | trswTransmit
  /-- COEX_GRANT_SAMPLE (R246): COEX_GNT and COEX_BUSY sampled 16 master clocks before launch, denying or allowing the burst. -/
  | coexGrantSample (gnt busy : Bool)
  /-- BURST_LAUNCH (R15): At the launch time PAEN rises, the ramp-up begins and pending DPD tables activate. -/
  | burstLaunch
  /-- FRAME_END (R72): The last frame sample leaves and the ramp-down begins. -/
  | frameEnd
  /-- BURST_RAMP_DOWN_END (R72): At t4 the ramp-down ends, PAEN falls and deferred mask, attenuation and filter changes apply. -/
  | burstRampDownEnd (x : BurstStats)
  /-- TRSW_RETURN (R72): At t5 TRSW returns to receive and the device stays in TX or returns to the base state. -/
  | trswReturn
  /-- RX_BLANK_END (R72): At t6 receive samples of the quadrant become valid again. -/
  | rxBlankEnd
  /-- TX_LINGER_EXPIRY (R94): No launch is due within TX_LINGER, so the device returns to the base state. -/
  | txLingerExpiry
  /-- COEX_WITHDRAWAL (R247): A grant withdrawal held for GNT_FILTER aborts bursts ABORTED_COEX. -/
  | coexWithdrawal (t : Nat) (busy : Bool)
  /-- DUTY_HISTORY_SAVE (R242): Once-per-second save of each sub-band's duty history. -/
  | dutyHistorySave
  /-- OBS_SELECTION_GRANT (R77): The observation selection is granted to the highest-ranked waiting user. -/
  | obsSelectionGrant (t : Nat) (m : BitVec 2) (dir : BitVec 1)
  /-- DPD_ADAPT_CAPTURE (R261): An adaptation capture of a selection completes during a burst. -/
  | dpdAdaptCapture (t : Nat) (nmse : List (Nat × Int))
  /-- DPD_SOLVE_DONE (R262): A pre-distortion solve completes and new tables become pending. -/
  | dpdSolveDone (t : Nat) (p : Fin 64) (tables : List (List Cplx)) (freqHz : Int)
  /-- DPD_STALE (R265): STALE_MS of transmit activity without an update raises EV_DPD_STALE. -/
  | dpdStale (t : Nat) (p : Fin 64)
  /-- MISMATCH_MEASUREMENT (R267): A forward and reverse coupler measurement of a selection completes and is judged. -/
  | mismatchMeasurement (t : Nat) (readings : List (Nat × Int × Int))
  /-- TUNE_WINDOW_START (R271): A tuning window opens and reads the present tuner codes. -/
  | tuneWindowStart
  /-- TUNER_TRIAL (R273): One coordinate-descent trial code is written and measured during a burst. -/
  | tunerTrial (t : Nat) (ratios : List (Nat × Int))
  /-- TUNE_WINDOW_END (R275): The window ends, best codes are written back and changed paths recalibrated. -/
  | tuneWindowEnd (t : Nat)
  /-- RFFE_TRANSACTION_DONE (R276): An RFFE transaction completes with data or a parity failure. -/
  | rffeTransactionDone (t : Nat) (bus : Fin 16) (data : List Byte) (parityOk : Bool)
  /-- CAL_RUN_TRIGGER (R286): A temperature or interval trigger starts a calibration run. -/
  | calRunTrigger (t : Nat) (k : Fin 10)
  /-- CAL_STEP_COMPLETE (R282): A calibration step finishes its measurement and writes or discards its update. -/
  | calStepComplete (t : Nat) (k : Fin 10) (x : CalStep)
  /-- CAL_STARVED (R287): A run ends after STARVE_S without a usable step, raising EV_CAL_STARVED. -/
  | calStarved (k : Fin 10) (lacking : Fin 4)
  /-- XDEV_SNAPSHOT_EVAL (R292): The manager evaluates a kept cross-device snapshot after its record. -/
  | xdevSnapshotEval (t : Nat) (recordOk : Bool) (snr : Int) (inside : Bool) (span : Nat) (parts : List XdevPart)
  /-- CAL_AUTO_STORE (R296): The supervisor stores converged calibration sets. -/
  | calAutoStore (t : Nat)
  /-- HOP_TRAINING (R310): A hop starts training its lanes after the clock ADPLL locks. -/
  | hopTraining (t : Nat) (h : Fin 16)
  /-- HOP_JOIN (R310): Training and alignment complete and the lower segment joins. -/
  | hopJoin (t : Nat) (h : Fin 16) (lanes : List LaneTrain) (x : JoinInfo)
  /-- HOP_REJOIN (R325): TRAIN blocks reappear and the upper end retrains the hop under AUTO_REJOIN. -/
  | hopRejoin (t : Nat) (h : Fin 15)
  /-- DELAY_MEASUREMENT (R313): Once-per-second probe exchange measuring hop delay and clock offset. -/
  | delayMeasurement (t : Nat) (h : Fin 15) (probes : List Probe) (trigPs : Nat)
  /-- TIME_MESSAGE_SEND (R315): The manager sends a TIME message every 1 ms. -/
  | timeMessageSend
  /-- TIME_MESSAGE_RECEIVE (R315): A worker sets its device time from a TIME message. -/
  | timeMessageReceive (t : Nat) (device : Int) (mstate : Fin 3)
  /-- TIME_MESSAGE_TIMEOUT (R315): 10 ms without TIME makes a worker's time invalid. -/
  | timeMessageTimeout
  /-- HEARTBEAT_SEND (R322): A worker sends a heartbeat every 1 ms. -/
  | heartbeatSend
  /-- HEARTBEAT_TIMEOUT (R322): 10 ms without a heartbeat breaks the hop. -/
  | heartbeatTimeout (h : Fin 15)
  /-- LANE_LOCK_LOSS (R322): A lane shows 16 invalid headers in 64 blocks, breaking the hop. -/
  | laneLockLoss (t : Nat) (h : Fin 15) (lane : Fin 12) (headers groups : Nat)
  /-- TRIGGER_WORD (R316): A trigger word is decoded, re-emitted and immediate codes act. -/
  | triggerWord (t : Nat) (code : Fin 16) (parityOk : Bool)
  /-- TRIGGER_WORD_ACTION (R316): A timed trigger code acts 1 us after the manager's start edge. -/
  | triggerWordAction
  /-- CUT (R324): Loss of the reverse link or receipt of CUT aborts bursts, discards launches and holds PAEN low. -/
  | cut (t : Nat) (received : Bool)
  /-- CASCADE_MESSAGE (R318): A complete MSG-channel message is received and CRC-checked. -/
  | cascadeMessage (t src dst kind : Nat) (crcOk : Bool) (body : List Byte)
  /-- WORKER_EVENT_RELAY (R320): A worker event reaches the manager and is written into its ring. -/
  | workerEventRelay (t : Nat) (pos : Fin 16) (bytes : List Byte)
  /-- EVENT_RING_WRITE (R394): A produced event is written to the ring or dropped, with EV_SYS_OVERFLOW first after drops. -/
  | eventRingWrite (t : Nat) (stall : Bool)
  /-- EVENT_NOTIFY_TIMER (R396): MOD_US passes since the first unnotified record, sending vector 0. -/
  | eventNotifyTimer
  /-- DMA_TRANSFER_DONE (R364): A register-mode transfer completes and the channel goes idle. -/
  | dmaTransferDone (t : Nat) (c : Fin 8) (read : List Byte)
  /-- DMA_HALF_NOTIFY (R370): Half of a transfer or descriptor has been written, raising a half notification. -/
  | dmaHalfNotify (t : Nat) (c : Fin 8) (read : List Byte)
  /-- DMA_DESCRIPTOR_DONE (R366): A descriptor completes, writing back STATUS and following NEXT or starting the tail check. -/
  | dmaDescriptorDone (t : Nat) (c : Fin 8) (read nextDesc : List Byte)
  /-- DMA_TAIL_RECHECK (R371): The re-read of the tail's CONTROL completes, continuing or ending CHAIN_END. -/
  | dmaTailRecheck (t : Nat) (c : Fin 8) (tail nextDesc : List Byte)
  /-- DMA_ERROR (R373): A transfer meets a fault and the channel ends in ERROR. -/
  | dmaError (t : Nat) (c : Fin 8) (cause written addr : Nat) (read : List Byte)
  /-- HALO_ARMING_COMPLETE (R446): A slot completes arming and starts writing its first segment. -/
  | haloArmingComplete (slot : Fin 4)
  /-- HALO_TRIG_IN (R449): A rising edge on TRIG_IN offers a trigger to slots. -/
  | haloTrigIn (t highNs : Nat)
  /-- HALO_TRIGGER_ACCEPT (R451): A decided trigger is accepted or ignored as early by a slot. -/
  | haloTriggerAccept (t : Nat) (slot : Fin 4)
  /-- SEGMENT_COMPLETE (R452): A segment's post-trigger part is written, raising EV_HALO_SEGMENT or ending the slot. -/
  | segmentComplete (slot : Fin 4) (data : List Byte)
  /-- HALO_HOLDOFF_END (R452): The hold-off ends by time or count and the next segment starts writing. -/
  | haloHoldoffEnd (slot : Fin 4)
  /-- MASK_FRAME_TEST (R455): A spectral or envelope mask test of a frame completes and acts on failure. -/
  | maskFrameTest (t : Nat) (slot : Fin 4) (receiver : Fin 16) (meas : List (Int × Int))
  /-- TRIG_OUT_PULSE_END (R453): TRIG_OUT_WIDTH expires and TRIG_OUT falls. -/
  | trigOutPulseEnd
  /-- SNAPSHOT_STROBE (R457): A snapshot strobe latches sample-plane state or merges with the previous one. -/
  | snapshotStrobe (phaseErr : Int)
  /-- SNAPSHOT_LATCH_COMPLETE (R457): The last clockless block latches for a snapshot. -/
  | snapshotLatchComplete (t : Nat)
  /-- SPARE_FAILURE_DECLARED (R502): A unit is declared failed and replaced live, held for a window or held out. -/
  | spareFailureDeclared (t : Nat) (kind : Fin 9) (unit : Nat)
  /-- SPARE_WINDOW_OPEN (R508): A maintenance window opens and pending replacements start in order. -/
  | spareWindowOpen
  /-- SPARE_REPLACEMENT_DONE (R509): A replacement completes and the next one starts. -/
  | spareReplacementDone (t interruptUs : Nat)
  /-- ENGINE_DRAIN_TIMEOUT (R509): 2 ms after an engine leaves the map, its active contexts end ABORTED. -/
  | engineDrainTimeout
  /-- SPARE_WEAR (R513): A wear indicator condition is met and EV_SPARE_WEAR raised. -/
  | spareWear (t : Nat) (indicator : Fin 5) (kind value : Nat)
  /-- SERVICE_RECORD_UPDATE (R514): Hourly update of operating and temperature-band hours in the service record. -/
  | serviceRecordUpdate
  /-- HOP_TRAINING_FAIL (R310): Training of a hop ends without enough locked lanes or with misaligned markers, failing the hop as a break at its lower position. -/
  | hopTrainingFail (t : Nat) (h : Fin 16) (lanes : List LaneTrain)
  /-- MAINTENANCE_WINDOW_END (R507): A maintenance window reaches START plus DURATION_MS and closes, leaving unstarted replacements for the next window. -/
  | maintenanceWindowEnd
  /-- TIME_MARK_SEND (R316): At each whole second of device time the manager sends a TIME_MARK word on the trigger bus. -/
  | timeMarkSend
  /-- UNIT_PARITY_FAULT (R352): A unit reports an internal parity fault, and SYSC declares it failed and revokes its leases. -/
  | unitParityFault (t owner : Nat)
  /-- PCIE_LINK_CHANGE (R395): The PCI Express link trains up or goes down, stopping or resuming event writes held in the pending store. -/
  | pcieLinkChange (t : Nat) (up : Bool)
  /-- PCIE_D3HOT_CHANGE (R379): The host moves the function between D0 and D3hot by a configuration write, suspending or resuming BAR access and event writes. -/
  | pcieD3hotChange (t : Nat) (d3hot : Bool)
  /-- PCIE_CREDIT_RETURN (R395): PCI Express credits return to the device, and event writes that stalled in STATE STALLED proceed. -/
  | pcieCreditReturn (t : Nat)
  /-- BAR2_WRITE (R384): A host write through BAR2 changes device memory, or is discarded and logged as an Unsupported Request when it targets a read-only or unmapped region. -/
  | bar2Write (t off : Nat) (data : List (Option Byte))
  /-- TAP_INSTRUCTION (R499): An instruction shifted into the IEEE 1149.1 port executes, with full access or only BYPASS, IDCODE, SAMPLE/PRELOAD and EXTEST once DEBUG_LOCK is committed. -/
  | tapInstruction (t : Nat) (x : TapInstr)
deriving DecidableEq, Repr

end Sys2Proof
end

