-- ==== Sys2Proof/Decode.lean ====
section
/-!
DEFINITION. The command that a word of opcode-table bits spells. No row of spec/opcode_table.json gives its command any bits.
-/

namespace Sys2Proof

/-- The command that the `nbits` low bits `w` spell by the opcode table: none, since no row of the table gives bits. -/
def decodeTableWord (_nbits _w : Nat) : Option Instr := none

end Sys2Proof
end

