-- ==== Sys2Proof/Machine/Memory.lean ====
section
/-!
DEFINITION. Byte memory as a list of cells in one canonical form: addresses strictly rising, no cell equal to what an
unlisted address reads as. The unlisted byte is a parameter: zero for device and host memory, the erased byte for the
host area of non-volatile memory.
-/

namespace Sys2Proof.Machine

open Sys2Proof

/-- What a byte of device memory or host memory that nothing has written reads as. -/
def unlisted : Byte := 0#8

/-- What an erased byte of non-volatile memory reads as. -/
def erased : Byte := 0xFF#8

/-- The byte at an address. -/
def memRead (d : Byte) : List Host.Cell → Nat → Byte
  | [], _ => d
  | (b, v) :: r, a => if b = a then v else memRead d r a

/-- Write one byte, keeping the canonical form. -/
def memWrite (d : Byte) : List Host.Cell → Nat → Byte → List Host.Cell
  | [], a, v => if v = d then [] else [(a, v)]
  | (b, w) :: r, a, v =>
    if a < b then (if v = d then (b, w) :: r else (a, v) :: (b, w) :: r)
    else if a = b then (if v = d then r else (a, v) :: r)
    else (b, w) :: memWrite d r a v

/-- Write a byte string at successive addresses. -/
def memWriteBytes (d : Byte) (m : List Host.Cell) (a : Nat) : List Byte → List Host.Cell
  | [] => m
  | v :: r => memWriteBytes d (memWrite d m a v) (a + 1) r

/-- Write the enabled bytes of a string (none: the byte enable is off). -/
def memWriteEnabled (d : Byte) (m : List Host.Cell) (a : Nat) : List (Option Byte) → List Host.Cell
  | [] => m
  | none :: r => memWriteEnabled d m (a + 1) r
  | some v :: r => memWriteEnabled d (memWrite d m a v) (a + 1) r

/-- Read `n` bytes at successive addresses. -/
def memReadBytes (d : Byte) (m : List Host.Cell) (a : Nat) : Nat → List Byte
  | 0 => []
  | n + 1 => memRead d m a :: memReadBytes d m (a + 1) n

/-- Every address of the list is above `lo`, addresses rise strictly, and no cell holds the unlisted byte. -/
def memWfFrom (d : Byte) : Option Nat → List Host.Cell → Bool
  | _, [] => true
  | lo, (a, v) :: r =>
    (match lo with | none => true | some l => decide (l < a)) && v != d && memWfFrom d (some a) r

/-- The canonical form. -/
def Memory.wf (d : Byte) (m : List Host.Cell) : Bool := memWfFrom d none m

end Sys2Proof.Machine
end

