-- ==== Sys2Proof/Config.lean ====
section
/-!
DEFINITION. What the part fixes (identity, time units, sizes) and the free values: the values the spec leaves open,
as constants without a body, so that no proof can rest on one of them.
-/

namespace Sys2Proof.Config

/-- Device identifier (spec/00_scope.md R1, Table HOST-3). -/
def deviceId : Nat := 0x6440

/-- Silicon stepping B1 (R1). -/
def stepping : Nat := 0x21

/-- Firmware release 4.1 as SYS_FW_RELEASE reads it: MAJOR 4, MINOR 1, BUILD 0 (R1, Table HOST-3). -/
def release41 : Nat := 0x0004_0100

/-! Time: the model counts in units of 1/384 ns, the largest in which a master sample clock (1/614.4 MHz), a
nanosecond and every sample period of the manual are whole numbers (R7). -/

/-- Units in one nanosecond. -/
def ns : Nat := 384
/-- Units in one microsecond. -/
def us : Nat := 384_000
/-- Units in one millisecond. -/
def ms : Nat := 384_000_000
/-- Units in one second. -/
def sec : Nat := 384_000_000_000
/-- Units in one master sample clock, 1/614.4 MHz. -/
def masterClock : Nat := 625
/-- Units in one ADC sample, 1/153.6 MHz. -/
def adcSample : Nat := 2500
/-- Units in one output sample, 1/38.4 MHz. -/
def outSample : Nat := 10_000
/-- Units in one search epoch, 10 us. -/
def epoch : Nat := 3_840_000

/-! Free values. -/

/-- A value that the spec leaves open, as a function of a fresh count that the step advances (State.free). -/
opaque freeNat : Nat → Nat

/-- The fused 64-bit unique die identifier (Table HOST-3 gives no value). -/
opaque uid : BitVec 64

/-- FW_KEY_HASH, which Stavith fuses at manufacture (R493). -/
opaque fwKeyHash : List (BitVec 8)

/-- ECDSA P-256 verification of a signature over a digest under a public key (R493, R497): the standard's function, which the
spec does not restate. -/
opaque ecdsaVerify : (key digest signature : List (BitVec 8)) → Bool

/-- The factory channel set and the 16 factory step sets, which production writes (R294): bytes of Table CAL-3. -/
opaque factoryChannelSet : List (BitVec 8)

/-- Factory step set of a gain step. -/
opaque factoryStepSet : Nat → List (BitVec 8)

/-- Air time in units of 1/384 ns of a frame whose length the standard gives and the spec does not restate (R227): SUN O-QPSK,
SUN OFDM and coded SUN FSK. Arguments: PHY, MODE, SUBMODE, SCHEME, interleaving or FEC bits, preamble octets, PSDU octets with
the FCS. -/
opaque frameUnits : (phy mode submode scheme coding preamble octets : Nat) → Nat

/-- Start of the SFD or LTF after the preamble's start by the standard (R203), in units of 1/384 ns, by PHY and mode. -/
opaque preambleUnits : (phy mode : Nat) → Nat

/-- The best master comparison of the PTP profile in use (R435): whether the second dataset is better than the first. -/
opaque betterMaster : (profile localPriority : Nat) → (current candidate : List (BitVec 8)) → Bool

/-- The fixed transceiver latencies of both ends of a hop that R313 takes off a measured delay, in ps. -/
opaque transceiverPs : Nat

/-- Where Dawn's RC oscillator runs within the 3 % of R465: an offset in ppm above -3 %, taken modulo 60,001. -/
opaque dawnOffset : Nat

/-- A router reading in M transfers per second, projected by the device's stored characterisation to a temperature in degree C and a
VDD_CORE in mV (R485). -/
opaque projectedSpeed : (reading tj mv : Nat) → Nat

/-- The image of release 4.1 that a device is shipped with (R539), whose bytes the spec does not give. -/
opaque shippedImage : List (BitVec 8)

/-- The number of SRAM macros, each with 2 spare rows and 2 spare columns (Table SPARE-1 does not give it). -/
opaque sramMacros : Nat

end Sys2Proof.Config
end

