-- ==== Sys2Proof/Machine/Operands.lean ====
section
/-!
DEFINITION. Operand forms: little-endian fields of payloads (R3), two's complement, rounding and saturation (R125), CRC-32,
and the fixed-point functions that rules of the spec name by formula.
-/

namespace Sys2Proof.Machine

open Sys2Proof

/-! ### Fields of a payload, little-endian (R3) -/

/-- The byte at offset `o` of a payload, zero past its end. -/
def u8 (p : List Byte) (o : Nat) : Nat := (p.getD o 0#8).toNat

/-- 16-bit field. -/
def u16 (p : List Byte) (o : Nat) : Nat := u8 p o + 256 * u8 p (o + 1)

/-- 32-bit field. -/
def u32 (p : List Byte) (o : Nat) : Nat := u16 p o + 65536 * u16 p (o + 2)

/-- 64-bit field. -/
def u64 (p : List Byte) (o : Nat) : Nat := u32 p o + 4294967296 * u32 p (o + 4)

/-- A field of `w` bits read as two's complement. -/
def signed (w v : Nat) : Int := if v < 2 ^ (w - 1) then (v : Int) else (v : Int) - 2 ^ w

/-- Signed 8-bit field. -/
def s8 (p : List Byte) (o : Nat) : Int := signed 8 (u8 p o)

/-- Signed 16-bit field. -/
def s16 (p : List Byte) (o : Nat) : Int := signed 16 (u16 p o)

/-- Signed 32-bit field. -/
def s32 (p : List Byte) (o : Nat) : Int := signed 32 (u32 p o)

/-- Signed 64-bit field. -/
def s64 (p : List Byte) (o : Nat) : Int := signed 64 (u64 p o)

/-- A 64-bit mask field. -/
def mask64 (p : List Byte) (o : Nat) : Mask64 := BitVec.ofNat 64 (u64 p o)

/-- `n` bytes of a payload from offset `o`, zero past its end. -/
def bytesAt (p : List Byte) (o n : Nat) : List Byte :=
  (List.range n).map (fun k => p.getD (o + k) 0#8)

/-- The `n` low bytes of `v`, least significant first. -/
def le : Nat → Nat → List Byte
  | 0, _ => []
  | n + 1, v => BitVec.ofNat 8 v :: le n (v / 256)

/-- The `n` low bytes of `v`, most significant first (frames, R3). -/
def be (n v : Nat) : List Byte := (le n v).reverse

/-- A signed value in `n` bytes of two's complement, least significant first. -/
def leS (n : Nat) (v : Int) : List Byte := le n (v.emod (2 ^ (8 * n))).toNat

/-- `n` zero bytes. -/
def zeros (n : Nat) : List Byte := List.replicate n 0#8

/-- `n` bytes read most significant first. -/
def beNat (p : List Byte) (o n : Nat) : Nat :=
  (List.range n).foldl (fun acc k => acc * 256 + u8 p (o + k)) 0

/-- A byte list cut or filled with zeros to exactly `n` bytes. -/
def fit (n : Nat) (p : List Byte) : List Byte := (p ++ zeros n).take n

/-- The response byte of a Bool. -/
def b8 (b : Bool) : List Byte := [if b then 1#8 else 0#8]

/-- `v` lies in `lo` to `hi`. -/
def inRange (lo v hi : Nat) : Bool := decide (lo ≤ v) && decide (v ≤ hi)

/-- `v` lies in `lo` to `hi`, signed. -/
def inRangeZ (lo v hi : Int) : Bool := decide (lo ≤ v) && decide (v ≤ hi)

/-- Saturating conversion to `n` unsigned bytes. -/
def leSat (n v : Nat) : List Byte := le n (Nat.min v (2 ^ (8 * n) - 1))

/-! ### Checks in order: the first that fails gives the status (R408) -/

/-- The first check of the list that fails gives its status. -/
def firstFailure : List (Bool × Nat) → Option Nat
  | [] => none
  | (ok, st) :: r => if ok then firstFailure r else some st

/-! ### Rounding and saturation -/

/-- `x / 2^n` rounded to the nearest integer, halves to even (convergent rounding, R125). -/
def roundShift (x : Int) (n : Nat) : Int :=
  let d : Int := 2 ^ n
  let fl := x.ediv d
  let r := x.emod d
  if 2 * r < d then fl
  else if 2 * r > d then fl + 1
  else if fl.emod 2 = 0 then fl else fl + 1

/-- `a / b` rounded to the nearest integer, halves to even, for positive `b`. -/
def roundDiv (a : Int) (b : Nat) : Int :=
  let fl := a.ediv b
  let r := a.emod b
  if 2 * r < b then fl
  else if 2 * r > b then fl + 1
  else if fl.emod 2 = 0 then fl else fl + 1

/-- The mean of some values, rounded; none of no values. -/
def meanOf (l : List Int) : Option Int := if l.isEmpty then none else some (roundDiv (l.foldl (fun a b => a + b) 0) l.length)

/-- Symmetric saturation to `w` bits: the range is −(2^(w−1) − 1) to 2^(w−1) − 1 (R125). -/
def satSym (w : Nat) (x : Int) : Int :=
  let m : Int := 2 ^ (w - 1) - 1
  if x > m then m else if x < -m then -m else x

/-- The value was changed by symmetric saturation. -/
def saturated (w : Nat) (x : Int) : Bool := satSym w x != x

/-- Absolute value as a natural number. -/
def absZ (x : Int) : Nat := x.natAbs

/-- Integer square root by bits, from bit `n` down. -/
def isqrtFrom : Nat → Nat → Nat → Nat
  | 0, acc, _ => acc
  | n + 1, acc, v =>
    let c := acc + 2 ^ n
    if c * c ≤ v then isqrtFrom n c v else isqrtFrom n acc v

/-- Integer square root of a value below 2^128. -/
def isqrt (v : Nat) : Nat := isqrtFrom 64 0 v

/-! ### CRC-32 (IEEE 802.3: reflected polynomial 0xEDB88320, all ones in and out) -/

/-- One bit of the CRC-32 register. -/
def crcBit (c : BitVec 32) : BitVec 32 :=
  if c.getLsbD 0 then (c >>> 1) ^^^ 0xEDB88320#32 else c >>> 1

/-- One byte. -/
def crcByte (c : BitVec 32) (b : Byte) : BitVec 32 :=
  crcBit (crcBit (crcBit (crcBit (crcBit (crcBit (crcBit (crcBit (c ^^^ b.setWidth 32))))))))

/-- The CRC-32 of a byte string. -/
def crc32 (p : List Byte) : Nat := ((p.foldl crcByte 0xFFFFFFFF#32) ^^^ 0xFFFFFFFF#32).toNat

/-! ### Fixed-point sine, cosine, decibels

Angles are turns of 2^32. The series run in integers scaled by 2^60; each result is rounded once. -/

/-- The scale of the fixed-point functions. -/
def fxOne : Int := 2 ^ 60

/-- Pi, scaled. -/
def fxPi : Int := 3622009729038561421

/-- Product of two scaled values. -/
def fxMul (a b : Int) : Int := (a * b).ediv fxOne

/-- Terms of the sine series: `n` terms after `term` at odd degree `k`. -/
def sinTerms : Nat → Int → Int → Nat → Int
  | 0, _, _, _ => 0
  | n + 1, x2, term, k =>
    let t := (-(fxMul term x2)).ediv ((k + 1) * (k + 2))
    t + sinTerms n x2 t (k + 2)

/-- Sine of a scaled angle in radians within a quarter turn of zero. -/
def fxSinSmall (x : Int) : Int := x + sinTerms 14 (fxMul x x) x 1

/-- Sine of an angle of `a` / 2^32 turns, scaled by 2^60. -/
def fxSin (a : Int) : Int :=
  let t := a.emod (2 ^ 32)
  -- fold into the first quarter: q quarter turns and a remainder
  let q := t.ediv (2 ^ 30)
  let r := t.emod (2 ^ 30)
  let rad := fun (v : Int) => (v * 2 * fxPi).ediv (2 ^ 32)
  if q = 0 then fxSinSmall (rad r)
  else if q = 1 then fxSinSmall (rad (2 ^ 30 - r))
  else if q = 2 then -(fxSinSmall (rad r))
  else -(fxSinSmall (rad (2 ^ 30 - r)))

/-- Cosine of an angle of `a` / 2^32 turns, scaled by 2^60. -/
def fxCos (a : Int) : Int := fxSin (a + 2 ^ 30)

/-- One binary digit of a base-2 logarithm: `m` in [1, 2) scaled by 2^60. -/
def log2Digits : Nat → Int → Int
  | 0, _ => 0
  | n + 1, m =>
    let sq := fxMul m m
    if sq ≥ 2 * fxOne then 2 ^ n + log2Digits n (sq.ediv 2) else log2Digits n sq

/-- Base-2 logarithm of a positive integer, scaled by 2^40. -/
def fxLog2 (v : Nat) : Int :=
  let e := Nat.log2 v
  (e : Int) * 2 ^ 40 + log2Digits 40 (((v : Int) * fxOne).ediv (2 ^ e))

/-- 10 log10 (a / b) in units of 0.01 dB, rounded to the nearest, for positive `a` and `b`
(10 log10 2 = 3.01029995663981). -/
def centiDb (a b : Nat) : Int :=
  roundDiv ((fxLog2 a - fxLog2 b) * 301029995663981) (2 ^ 40 * 1000000000000)

/-- Terms of the exponential series after `term` at degree `k`, for a scaled `x`. -/
def expTerms : Nat → Int → Int → Nat → Int
  | 0, _, _, _ => 0
  | n + 1, x, term, k =>
    let t := (fxMul term x).ediv (k + 1)
    t + expTerms n x t (k + 1)

/-- ln 2 scaled by 2^60, and log2 10 scaled by 2^60. -/
def fxLn2 : Int := 799144290325165979
/-- log2 10, scaled by 2^60. -/
def fxLog2Ten : Int := 3829922337353294528

/-- 10^(n/d) scaled by 2^60, for positive `d`: 2^(n log2 10 / d), its fraction by the exponential series. -/
def pow10 (n : Int) (d : Nat) : Int :=
  let e := (n * fxLog2Ten).ediv d
  let whole := e.ediv fxOne
  let x := fxMul (e.emod fxOne) fxLn2
  let m := fxOne + expTerms 24 x fxOne 0
  if 0 ≤ whole then m * 2 ^ whole.toNat else m.ediv (2 ^ (-whole).toNat)

/-! ### Masks and groups -/

/-- Paths of quadrant `q` (Table SCOPE-2). -/
def quadrantMask (q : Nat) : Mask64 := BitVec.ofNat 64 (0xFFFF * 2 ^ (16 * q))

/-- The quadrants that hold a path of the mask. -/
def quadrantsOf (m : Mask64) : BitVec 4 :=
  maskOf 4 ((List.range 4).filter (fun q => (m &&& quadrantMask q) != 0#64))

/-- The number of set bits. -/
def popcount {w : Nat} (m : BitVec w) : Nat := (bitsOf m).length

end Sys2Proof.Machine
end

