-- ==== Sys2Proof/Machine/State.lean ====
section
/-!
DEFINITION. The state of the block as plain data: every register, FIFO, buffer, counter, mode and pin the spec gives it, and the
queue of waiting commands. Each structure names the chapter of spec/ it comes from; its field defaults are the reset values.
-/

namespace Sys2Proof.Machine

open Sys2Proof

/-- One write of the device to host memory or one message it sent on MSI-X: what the PCI Express link carried. -/
structure MsixMessage where
  vector : Nat
  address : Nat
  data : Word
deriving DecidableEq, Repr

/-- One entry of the MSI-X table in BAR0 (R386). -/
structure MsixEntry where
  addrLo : Word := 0#32
  addrHi : Word := 0#32
  data : Word := 0#32
  /-- Vector control: 1 masks the vector. -/
  control : Word := 1#32
deriving DecidableEq, Repr

/-- The states of a mailbox (R388), numbered as MBX_STATE.STATE. -/
inductive MbxState where
  | idle | pending | executing | response
deriving DecidableEq, Repr

/-- One mailbox MBXn (R387, Table HOST-8): its area of BAR0 (bytes past the end of the list are zero) and state. -/
structure Mailbox where
  area : List Byte := []
  state : MbxState := .idle
  overrun : Bool := false
deriving DecidableEq, Repr

/-- The PCI Express endpoint and the BAR0 registers that belong to no other unit (spec/15). -/
structure HostIf where
  /-- The link has trained (R381, R395). -/
  linkUp : Bool := false
  /-- The function is in D3hot (R379). -/
  d3hot : Bool := false
  /-- Posted credits are available to event writes (R395). -/
  credits : Bool := true
  /-- PERST_L is held low (R374, Table HOST-5). -/
  perstLow : Bool := false
  scratch : Word := 0#32
  intStatus : BitVec 32 := 0#32
  msix : Tab MsixEntry := []
  msixPending : BitVec 32 := 0#32
  /-- MSI-X messages sent, oldest first. -/
  sent : List MsixMessage := []
  mbx : Tab Mailbox := []
  /-- Unsupported Requests logged as advisory non-fatal errors (R384). -/
  unsupported : Nat := 0
deriving DecidableEq, Repr

/-- One event record (Table HOST-12), its payload at most 16 bytes, unused bytes zero. -/
structure EvRec where
  typ : Nat
  severity : Nat
  source : Nat
  seq : Nat
  seconds : Nat
  nanos : Nat
  payload : List Byte
deriving DecidableEq, Repr

/-- The event ring and the pending store (spec/15 R391 to R398, Table HOST-9). -/
structure EventRing where
  base : BitVec 64 := 0#64
  prodAddr : BitVec 64 := 0#64
  /-- EVQ_CTRL as written: ENABLE, SIZE_LOG2, MOD_US, MOD_COUNT. -/
  ctrl : Word := 0x0001_000C#32
  /-- EVQ_STATUS.STATE is not DISABLED: an enable has taken effect (R392, R395). -/
  running : Bool := false
  prod : Nat := 0
  cons : Nat := 0
  consErr : Bool := false
  /-- Events produced and neither written nor dropped, in Sequence order. -/
  store : List EvRec := []
  dropped : Nat := 0
  seqNext : Nat := 0
  /-- Records dropped since the last EV_SYS_OVERFLOW, the Sequence of the first and the last of them, and how many
  were FATAL (R398). -/
  owed : Nat := 0
  owedFirst : Nat := 0
  owedLast : Nat := 0
  owedFatal : Nat := 0
  /-- Records written since the last notification, and when the first of them was written (R396). -/
  unnotified : Nat := 0
  firstUnnotified : Option Nat := none
  /-- SYS_STATUS.FATAL: a FATAL event has been produced since RESET_L. -/
  fatal : Bool := false
  /-- Event filter: lowest severity produced, for each group 0x01 to 0x0F (R409). -/
  filter : Tab Nat := []
deriving DecidableEq, Repr

/-- A command as SYSC copied it from its mailbox (Table CMD-1). -/
structure Cmd where
  opcode : Nat
  tag : Nat
  flags : Nat
  length : Nat
  target : Nat
  payload : List Byte
deriving DecidableEq, Repr

/-- A response: a status code (Table CMD-3) and the response payload. -/
structure Reply where
  status : Nat
  payload : List Byte
deriving DecidableEq, Repr

/-- A relay in progress (R319). -/
structure Relay where
  broadcast : Bool
  /-- Positions the command went to and the status of each that has answered. -/
  targets : List Nat
  answers : Tab Nat := []
  /-- The single worker's response. -/
  reply : Option Reply := none
  resent : Bool := false
  sentAt : Nat
  deadline : Nat
deriving DecidableEq, Repr

/-- Where a taken command stands (R403, R404). -/
inductive CmdPhase where
  /-- Taken, not started. -/
  | ready
  /-- BARRIER is set and a command taken earlier has no response yet (R404). -/
  | barrier
  /-- Deferred, its work in progress; the reply that its completion will write. -/
  | deferred (own : Reply)
  /-- Relayed: the manager's own reply (none for a single target) and the relay. -/
  | relayed (own : Option Reply) (r : Relay)
deriving DecidableEq, Repr

/-- A command that SYSC has taken and not answered. -/
structure Running where
  mbx : Nat
  /-- On a worker: the command came over the cascade. -/
  cascade : Bool := false
  /-- The mailbox was reset meanwhile: the response is discarded (R388). -/
  orphan : Bool := false
  cmd : Cmd
  /-- Place in the order of taking, all mailboxes. -/
  order : Nat
  /-- The instant at which the command reached SYSC (R402). -/
  reached : Nat
  phase : CmdPhase := .ready
deriving DecidableEq, Repr

/-- On a worker: the last command received on one mailbox's channel and its stored response (R319). -/
structure RelayIn where
  tag : Nat
  stored : Option Reply := none
deriving DecidableEq, Repr

/-- On the manager: the per-position status of a mailbox's last broadcast (Table LCL-6). -/
structure LastRelay where
  opcode : Nat := 0
  tag : Nat := 0
  status : Tab Nat := []
deriving DecidableEq, Repr

/-- A reset that a command has scheduled (R409, R413). -/
structure PendingReset where
  due : Nat
  /-- The chain's reset: every joined worker resets at `due`, the manager 10 ms later. -/
  chain : Bool
deriving DecidableEq, Repr

/-- SYSC's command unit (spec/16). -/
structure CmdUnit where
  running : List Running := []
  nextOrder : Nat := 0
  /-- COMMANDS of SYS_GET_INFO, modulo 2^32. -/
  taken : Nat := 0
  relayIn : Tab RelayIn := []
  lastRelay : Tab LastRelay := []
  sysReset : Option PendingReset := none
  fwReset : Option PendingReset := none
deriving DecidableEq, Repr

/-- One queued record write: what, for which taken command (its order number; none for the device's own). -/
structure NvJob where
  record : NvRecord
  data : List Byte := []
  owner : Option Nat := none
deriving DecidableEq, Repr

/-- One firmware bank (R410 to R414): whether its image is valid, its release, length and bytes. -/
structure Bank where
  valid : Bool := false
  release : Nat := 0
  length : Nat := 0
  image : List Byte := []
deriving DecidableEq, Repr

/-- The host operations that exclude each other (R405), numbered as WRITER of SYS_NV_GET_INFO. -/
inductive NvWriter where
  | idle | nvWrite | fwInstall | fwConfirm
deriving DecidableEq, Repr

/-- Non-volatile memory: what survives every reset (R410), and its single writer. -/
structure Nv where
  /-- As shipped, bank A holds release 4.1 (R539). -/
  bankA : Bank := { valid := true, release := 0x0004_0100 }
  bankB : Bank := {}
  hostWrites : Nat := 0
  spareTotal : Nat := 48
  spareUsed : Nat := 0
  writer : NvWriter := .idle
  writerStart : Nat := 0
  queue : List NvJob := []
  /-- Host area: bytes that differ from the erased byte, by window offset. -/
  hostArea : List Host.Cell := []
  /-- Channel entries as stored (Table SYN-4), by 256 * synthesiser + index. -/
  entries : Tab (List Byte) := []
  /-- The sealed regulatory record (Table TX-5). -/
  regRecord : Option (List Byte) := none
  oemKey : Option (List Byte) := none
  /-- Channel calibration sets by entry, step sets by step (Table CAL-3). -/
  calChannel : Tab (List Byte) := []
  calStep : Tab (List Byte) := []
  /-- EXPECTED of LCL_SET_CHAIN. -/
  expected : Nat := 0
  /-- Records whose check word fails (R491). -/
  bad : List NvRecord := []
  /-- The service record (R511, R514): retirements with their direction, operating hours, and hours by Tj band. -/
  rxRetired : Mask64 := 0#64
  txRetired : Mask64 := 0#64
  hours : Nat := 0
  tjHours : Tab Nat := []
  /-- The projected router reading stored at the first READY (R513). -/
  firstReading : Option Nat := none
  /-- The saved duty history (R242): for each sub-band its slots, counted back from the newest. -/
  duty : Option (Tab (Tab Nat)) := none
deriving DecidableEq, Repr

/-- The role that the ROLE strap gives the device (Table BALL-3). -/
inductive Role where
  | standalone | manager | worker | invalid
deriving DecidableEq, Repr

/-- The levels of the balls that rules of the spec act on (spec/02). Table BALL-6 gives the state of every output from
these and the power state. -/
structure Pins where
  /-- PWR_GOOD is high. -/
  pwrGood : Bool := false
  /-- RESET_L is high. -/
  resetL : Bool := false
  paen : BitVec 4 := 0#4
  trsw : BitVec 4 := 0#4
  obssel : BitVec 2 := 0#2
  obsdir : BitVec 1 := 0#1
  coexReq : Bool := false
  coexPri : Bool := false
  trigOut : Bool := false
  /-- WAKE_L has been low for 2 us and has not gone high since (R468). -/
  wakeLow : Bool := false
deriving DecidableEq, Repr

/-- One-time fuses (R497), each present only once its commit bit is burned. -/
structure Fuses where
  /-- OEM_KEY_HASH. -/
  oemKeyHash : Option (List Byte) := none
  sealBit : Bool := false
  debugLock : Bool := false
deriving DecidableEq, Repr

/-- The boot ROM and what firmware knows of its own start (spec/20). -/
structure Boot where
  /-- Straps as sampled at the last rising edge of RESET_L (R26). -/
  role : BitVec 2 := 0#2
  bootsrc : BitVec 2 := 0#2
  stage : Nat := 0
  fault : Nat := 0
  /-- LAST_FAULT of this boot (Table BOOT-5). -/
  lastFault : Nat := 0
  /-- The instant of the last release of RESET_L. -/
  releasedAt : Nat := 0
  /-- Origin of the sample counts of R124: the release of RESET_L, or on a worker the master clock that the join named (R314). -/
  gridAt : Nat := 0
  ready : Bool := false
  /-- BOOT_SOURCE: 0 bank A, 1 bank B, 2 host staging, 3 cascade. -/
  source : Nat := 0
  trial : Bool := false
  /-- SYS_FW_RELEASE; zero until firmware is authenticated. -/
  release : Nat := 0
  digest : List Byte := []
  imageLength : Nat := 0
  nvFailed : Nat := 0
  keyFault : Bool := false
  /-- The bank that failed before another ran, and the status of its failure (R494). -/
  bankFailed : Option (Nat × Nat) := none
  /-- Failures of a worker's cascade image in this boot (R496). -/
  cascadeRejects : Nat := 0
  /-- The watchdog's last restart, and its expiry (R356, R357). -/
  watchdogAt : Nat := 0
  watchdogExpired : Option Nat := none
  /-- The expiry came from an uncorrectable word in SYSC SRAM (R357). -/
  syscEcc : Bool := false
  /-- A fabric fault has been raised, and when (R332). -/
  fabricFaultAt : Option Nat := none
deriving DecidableEq, Repr

/-- Power states as Dawn holds them; STANDBY and ACTIVE of Table PWR-1 are both `running`, told apart by the radio state. -/
inductive PowerState where
  | off | sleep | boot | running
deriving DecidableEq, Repr

/-- Wake sources (Table PWR-2, bits [7:4]). -/
inductive WakeSource where
  | i2c | timer | wakeL
deriving DecidableEq, Repr

/-- One entry of the refusal log (R475). -/
structure RefusalEntry where
  code : Nat
  position : Nat
  ticks : Nat
deriving DecidableEq, Repr

/-- The Dawn island: reset only by the VDD_AON power-on reset (spec/19, R34). -/
structure Dawn where
  /-- VDD_AON is present. -/
  aon : Bool := false
  /-- The end of the VDD_AON power-on reset. -/
  aonAt : Nat := 0
  waddr : BitVec 2 := 0#2
  power : PowerState := .off
  pwrEn : Bool := false
  pwrEnRose : Nat := 0
  pwrEnFell : Nat := 0
  /-- When PWR_EN is to be asserted again: not before the end of the minimum off-time (R37). -/
  restart : Option Nat := none
  /-- When PWR_EN falls after a grant (R472 step 5). -/
  dropAt : Option Nat := none
  /-- The first wake event that came while sleep entry was under way, before the grant (R473). -/
  entryWake : Option WakeSource := none
  /-- Bits of WAKE_PENDING whose event firmware has still to raise (R470). -/
  announce : BitVec 3 := 0#3
  bootCause : BitVec 8 := 0#8
  /-- SOURCES_SEEN: bit 0 I2C, bit 1 timer, bit 2 WAKE_L. -/
  sourcesSeen : BitVec 3 := 0#3
  /-- PRIOR: bit 0 POWER_TIMEOUT, 1 THERMAL_SHUTDOWN, 2 SENSOR_FAULT, 3 POWER_FAULT_HELD. -/
  prior : BitVec 4 := 0#4
  wakeMask : BitVec 3 := 0#3
  timerTicks : Nat := 0
  /-- The last point of no return: the grant of a sleep request (R472), from which the timer counts (R469). -/
  grantAt : Option Nat := none
  /-- The first wake event after the point of no return has come (SLEPT_TICKS is fixed). -/
  slept : Bool := false
  sleptTicks : Nat := 0
  wakePending : BitVec 3 := 0#3
  latched : Option WakeSource := none
  /-- End of the span without wakes after a thermal shutdown (R480). -/
  holdoffEnd : Option Nat := none
  /-- A shutdown signal has come, and when (R480). -/
  shutdownAt : Option Nat := none
  /-- The last loss of PWR_GOOD under R35. -/
  lossAt : Option Nat := none
  refusals : Nat := 0
  /-- Newest first, at most 8. -/
  log : List RefusalEntry := []
  /-- Times of the boots whose cause was WATCHDOG or SYSC_ECC (R490). -/
  faultBoots : List Nat := []
  /-- The one-time trial mark and the bank it names (R413). -/
  trialMark : Option Nat := none
deriving DecidableEq, Repr

/-- Where sleep entry stands (R472, R476). -/
inductive SleepPhase where
  | awake
  /-- Steps 1 and 2 done or under way; the arming and the number of requests ended at step 1. -/
  | preparing (mask : BitVec 3) (ticks ended : Nat)
  /-- A manager waits for the ready reports of its workers. -/
  | collecting (mask : BitVec 3) (ticks guard : Nat) (waiting : List Nat) (since : Nat)
  /-- A prepared worker waits for GO or ABANDON. -/
  | prepared (mask : BitVec 3) (ticks ended : Nat) (since : Nat)
deriving DecidableEq, Repr

/-- The thermal monitor (R477 to R485). Temperatures in 0.01 degree C. -/
structure Thermal where
  tj : Int := 0
  /-- Readings before the last one, newest first, at most 1,000. -/
  history : List Int := []
  sampledAt : Nat := 0
  sensorOk : Bool := true
  warn : Bool := false
  throttle : Bool := false
  trip : Bool := false
  rateWarn : Bool := false
  rateTrip : Bool := false
  /-- Successive samples below 108.0 degree C, above 2 degree C/s, above 6 degree C/s, at or below 2 degree C/s. -/
  belowTrip : Nat := 0
  overTwo : Nat := 0
  overSix : Nat := 0
  underTwo : Nat := 0
  tjMax : Int := 0
  trips : Nat := 0
  /-- A trip is on its way to the sample plane (R479). -/
  tripDue : Bool := false
  vcoreMv : Nat := 850
  /-- BAND: 0 COLD, 1 MID, 2 HOT (R484). -/
  band : Nat := 1
  sleep : SleepPhase := .awake
deriving DecidableEq, Repr

/-- The IEEE 1149.1 port (R499): the instruction in force, and what it captured for shifting out. -/
structure Tap where
  instr : TapInstr := .idcode
  captured : Nat := 0
deriving DecidableEq, Repr

/-- Device time states (Table FH-11), numbered as SYS_STATUS.TIME_STATE. -/
inductive TimeState where
  | invalid | valid | holdover
deriving DecidableEq, Repr


/-- A pending gain change (R59): its local instant on the ADC sample grid, the device time it was asked for, the step. -/
structure GainSlot where
  due : Nat
  device : Int
  immediate : Bool
  step : Nat
deriving DecidableEq, Repr

/-- A span of local time that something flags: start and end. -/
structure Span where
  start : Nat
  stop : Nat
deriving DecidableEq, Repr

/-- One monitor ADC channel (R79 to R82). -/
structure AuxAdc where
  enable : Bool := false
  avgLog2 : Nat := 0
  openTest : Bool := false
  periodUs : Nat := 10000
  limitLo : Nat := 0
  limitHi : Nat := 4095
  /-- Conversions gathered for the next result: their sum and number. -/
  sum : Nat := 0
  count : Nat := 0
  code : Nat := 0
  valid : Bool := false
  isOpen : Bool := false
  low : Bool := false
  high : Bool := false
  /-- The event for the low or the high limit has been raised since a result last lay inside the limits (R82). -/
  lowTold : Bool := false
  highTold : Bool := false
deriving DecidableEq, Repr

/-- Modes of an auxiliary DAC (R85). -/
inductive DacMode where
  | highZ | static | sine
deriving DecidableEq, Repr

/-- One auxiliary DAC channel (R83 to R87): settings, and the output as it stood at `outAt`. -/
structure AuxDac where
  mode : DacMode := .highZ
  code : Nat := 0
  slew : Nat := 64
  safeCode : Nat := 0
  safeOnTrip : Bool := false
  /-- Moved to SAFE_CODE by a trip; holds until the next command for the channel (R87). -/
  safe : Bool := false
  freq : Nat := 0
  amplitude : Nat := 0
  /-- The 24-bit phase accumulator. -/
  phase : Nat := 0
  out : Nat := 0
  outAt : Nat := 0
  clamped : Nat := 0
deriving DecidableEq, Repr

/-- The users of the observation selection, in rank order (R77). -/
inductive ObsUser where
  | halo | mismatch | dpd | cal
deriving DecidableEq, Repr

/-- Transceiver paths and converters (spec/03). -/
structure PathUnit where
  step : Nat := 15
  epoch : Nat := 0
  slots : Tab GainSlot := []
  /-- An AGC decision, or a joining worker's step, that waits for its sample: instant, step and CAUSE (R58, R62). -/
  decided : Option (Nat × Nat × Nat) := none
  /-- Intervals of air time flagged by gain changes (R60), newest first. -/
  flagged : List Span := []
  agcEnable : Bool := true
  stepMin : Nat := 0
  stepMax : Nat := 15
  decSteps : Nat := 2
  ovrLimit : Nat := 16
  headroomDb : Nat := 12
  incHold : Nat := 10
  windowStart : Nat := 0
  hold : Nat := 0
  /-- Time in radio state RX within the window, up to `rxSince`, and since when the device has been in RX (R62). -/
  rxTime : Nat := 0
  rxSince : Option Nat := none
  /-- Overrange counts of the last complete window. -/
  ovrCounts : Tab Nat := []
  rxMask : Mask64 := 0#64
  txMask : Mask64 := 0#64
  /-- A transmit mask that waits for the end of a ramp-down (R70). -/
  txMaskNext : Option Mask64 := none
  /-- Paths put in during RX and the instant from which each feeds samples (R70). -/
  settling : Tab Nat := []
  /-- Driver attenuation by path, and values that wait for the end of a burst (R68). -/
  atten : Tab Nat := []
  attenNext : Tab Nat := []
  /-- Paths whose driver attenuation is raised by 6 dB (DERATE, R269), and the mask that waits for the end of a burst. -/
  derate : Mask64 := 0#64
  derateNext : Option Mask64 := none
  txClip : Tab Nat := []
  /-- TRSW_LEAD, TRSW_LAG and RX_BLANK in units of 100 ns. -/
  trswLead : Nat := 20
  trswLag : Nat := 10
  rxBlank : Nat := 20
  /-- Observation attenuation codes; 10 is 20 dB. -/
  obsAtten : Tab Nat := []
  obsOwner : Option ObsUser := none
  obsWaiting : List ObsUser := []
  /-- When the present holder took the selection. -/
  obsSince : Nat := 0
  adc : Tab AuxAdc := []
  dac : Tab AuxDac := []
deriving DecidableEq, Repr


/-- The radio states (R92), numbered as RADIO_STATE. -/
inductive RadioState where
  | standby | loReady | rx | tx
deriving DecidableEq, Repr

/-- Base states (R94), numbered as STATE of SYN_SET_STATE. -/
inductive BaseState where
  | standby | loReady | rx
deriving DecidableEq, Repr

/-- What a SYN_TUNE asks of a synthesiser: the frequency in Hz with its divider and FCW (R97, R98), and the entry it names. -/
structure LoSetting where
  freqHz : Nat
  divider : Nat
  fcw : Nat
  byEntry : Option Nat := none
  forceCold : Bool := false
deriving DecidableEq, Repr

/-- Where a loop stands (SYN_STATE of Table SYN-7); `frozen` is unlocked, its word held until re-acquisition starts (R109). -/
inductive LoopState where
  | off | acquiring | locked | frozen
deriving DecidableEq, Repr

/-- What a lock found (Tables SYN-3 and SYN-4): the trims and the loop settings that the acquisition settled at. -/
structure LoopTrims where
  band : Nat := 0
  gain : Nat := 0
  tdcNorm : Nat := 0
  kp : Nat := 0
  ki : Nat := 0
deriving DecidableEq, Repr

/-- One synthesiser (R96 to R109). -/
structure Synth where
  commitMode : Bool := false
  /-- TEMP_WINDOW in degree C. -/
  tempWindow : Nat := 30
  loop : LoopState := .off
  /-- The setting that the loop runs on or acquires. -/
  setting : Option LoSetting := none
  staged : Option LoSetting := none
  /-- A setting whose acquisition has not started: recorded in STANDBY (no instant) or postponed to an instant (R101, R111). -/
  waiting : Option (LoSetting × Option Nat) := none
  /-- When the command of the waiting acquisition reached SYSC. -/
  waitingSince : Nat := 0
  entryUsed : Option Nat := none
  /-- KIND of EV_SYN_LOCK for the running or last acquisition. -/
  kind : Nat := 1
  acqStart : Nat := 0
  trims : LoopTrims := {}
deriving DecidableEq, Repr

/-- A pending commit (R104): the settings by synthesiser, its instant, and when its command reached SYSC. -/
structure Commit where
  settings : Tab LoSetting
  due : Nat
  since : Nat
  /-- Scheduled, and not immediate: discarded when time becomes invalid (R540). -/
  scheduled : Bool
deriving DecidableEq, Repr

/-- A pending switch (R110). -/
structure Switch where
  target : Nat
  /-- INSTANT as honoured. -/
  instant : Nat
  /-- The earliest sample at which it may apply: INSTANT, or the end of a protected interval that it waits out. -/
  due : Nat
  deadline : Nat
  since : Nat
  scheduled : Bool
deriving DecidableEq, Repr

/-- When a pending base-state change takes effect (R95). -/
inductive BaseDue where
  | instant (t : Nat)
  /-- At t5 of the burst that the device is in TX for. -/
  | atT5
  | atLock
deriving DecidableEq, Repr

/-- A pending change of the base state. -/
structure BaseChange where
  base : BaseState
  linger : Nat
  due : BaseDue
  scheduled : Bool
deriving DecidableEq, Repr

/-- CLK_STATE of Table SYN-7. -/
inductive ClockState where
  | locked | freewheel | slewing
deriving DecidableEq, Repr

/-- One clock output (R115). -/
structure ClkOut where
  enable : Bool := false
  divider : Nat := 1
  delay : Nat := 0
deriving DecidableEq, Repr

/-- Synthesis and radio states (spec/04). -/
structure Radio where
  state : RadioState := .standby
  /-- The state that a transition in progress leads to. -/
  moving : Option RadioState := none
  base : BaseState := .standby
  /-- The device serves launches: it is to be in TX (R94). -/
  wantTx : Bool := false
  /-- TX_LINGER in us. -/
  linger : Nat := 100
  /-- t5 of the last burst, while the device stays in TX after it. -/
  lingerFrom : Option Nat := none
  pending : Option BaseChange := none
  active : Nat := 0
  second : Option Nat := some 1
  syn : Tab Synth := []
  commit : Option Commit := none
  switch : Option Switch := none
  /-- The active synthesiser unlocked during a burst: re-acquisition starts at its t4 (R109). -/
  relock : Bool := false
  acqCount : Nat := 0
  /-- Start of the LO gap (R108). -/
  gapSince : Option Nat := none
  /-- The instant from which the active synthesiser has been ready for a launch (R113). -/
  readySince : Nat := 0
  /-- Spans in which all paths were blanked and flagged: LO gaps and switches (R108, R110), newest first. -/
  blanked : List Span := []
  clock : ClockState := .locked
  /-- 0 crystal, 1 REF_IN. -/
  refSource : Nat := 0
  refInFreq : Nat := 0
  /-- PRIMARY: the source chosen at reset, until SYN_SET_REFERENCE names one (R40, R118). -/
  primary : Nat := 0
  failover : Bool := true
  freewheelLimitMs : Nat := 1000
  crystalValid : Bool := false
  refInValid : Bool := false
  /-- Start of FREEWHEEL, until re-acquisition ends. -/
  freewheelAt : Option Nat := none
  /-- The freewheel limit of the present FREEWHEEL has been reported. -/
  limitTold : Bool := false
  clkOut : Tab ClkOut := []
deriving DecidableEq, Repr

/-- One coefficient set (R126): reference delay in 1/256 sample, coefficients in Q2.16. -/
structure FirSet where
  taps : Nat := 1
  symmetric : Bool := true
  refDelay : Nat := 0
  coefs : List Int := [65536]
deriving DecidableEq, Repr

/-- The sets and the membership of one direction, or changes staged to them (only the listed ones). -/
structure FirBank where
  sets : Tab FirSet := []
  member : Tab Nat := []
deriving DecidableEq, Repr

/-- A scheduled apply (R127, R129): the staged changes that it takes. -/
structure FiltApply where
  rx : Option FirBank
  tx : Option FirBank
  due : Nat
  scheduled : Bool
deriving DecidableEq, Repr

/-- One threshold detector (R133, R136). LEVEL and HYST in 0.1 dB. -/
structure Detector where
  enable : Bool := false
  event : Bool := false
  avgLog2 : Nat := 4
  level : Int
  hyst : Nat := 30
  dwell : Nat := 38
  holdoffMs : Nat := 100
  asserted : Bool := false
  suppressed : Nat := 0
  eventAt : Option Nat := none
deriving DecidableEq, Repr

/-- Path filters and threshold detectors (spec/05). -/
structure Filt where
  rx : FirBank := {}
  tx : FirBank := {}
  stagedRx : FirBank := {}
  stagedTx : FirBank := {}
  applies : List FiltApply := []
  /-- A transmit apply that waits for t4 of the burst in progress. -/
  txWaiting : Option FiltApply := none
  /-- Output spans flagged by applies (R129) with the paths concerned, newest first. -/
  flagged : List (Mask64 × Span) := []
  upper : Tab Detector := []
  lower : Tab Detector := []
  patternUpper : Mask64 := BitVec.allOnes 64
  patternLower : Mask64 := 0#64
  rxSat : Tab Nat := []
  txSat : Tab Nat := []
  /-- The trimmed baseband-filter corner fc in kHz (R131). -/
  cornerKHz : Nat := 17500
deriving DecidableEq, Repr

/-- Sources of a receive beam (R144), numbered as SOURCE. -/
inductive RxSource where
  | off | grid | mvdr | zf | explicit
deriving DecidableEq, Repr

/-- What the host set of one receive beam (R144, R147). -/
structure BeamDef where
  source : RxSource := .grid
  gridIndex : Nat := 0
  hann : Bool := false
  /-- 0 to 8, or 0xFF automatic. -/
  neighCount : Nat := 0xFF
  neigh : List Nat := []
deriving DecidableEq, Repr

/-- What GRID weights are computed from (R145, R146): element positions by 64 * position + path in 10 um, directions by grid
index in 0.01 degree, and the design frequency in Hz (zero when none is known). -/
structure GridBasis where
  geometry : Tab (Int × Int × Int) := []
  grid : Tab (Int × Int) := []
  freqHz : Nat := 0
deriving DecidableEq, Repr

/-- Changes that the host staged for one host swap (R154). -/
structure Staging where
  sources : Tab BeamDef := []
  loads : Tab (List Cplx) := []
  shift : Option Nat := none
deriving DecidableEq, Repr

/-- A pending receive swap (R151 to R154). -/
structure BeamSwap where
  instant : Nat
  scheduled : Bool
  /-- Causes as EV_BEAM_SWAP codes them. -/
  cause : Nat
  /-- The freeze point has passed; the GRID weights staged then. -/
  frozen : Option GridBasis := none
  /-- On a worker: the SWAP word has come (R317). -/
  marked : Bool := false
deriving DecidableEq, Repr

/-- Metadata of one signature-cache entry (R163); the mantissas stand in the signature-cache pool of device memory. -/
structure Signature where
  gen : Nat := 0
  valid : Bool := false
  pinned : Bool := false
  /-- Admitted requests that hold the entry (R164). -/
  held : Nat := 0
  exponent : Nat := 0
  gainEpoch : Nat := 0
  acqCount : Nat := 0
  ownOnly : Bool := false
  toa : Int := 0
  seconds : Nat := 0
  nanos : Nat := 0
  centre : Nat := 0
deriving DecidableEq, Repr

/-- The beam engine (spec/06). -/
structure BeamUnit where
  /-- The geometry, grid and F as the host set them; `gridStaged` is what the last finished recomputation used. -/
  geometry : Tab (Int × Int × Int) := []
  grid : Tab (Int × Int) := []
  /-- F in kHz; 0 follows the active LO. -/
  fKHz : Nat := 0
  /-- A recomputation of the GRID weights runs since this instant. -/
  recomputing : Option Nat := none
  gridStaged : GridBasis := {}
  /-- Beams as set; an unlisted beam b is GRID with direction b. -/
  beams : Tab BeamDef := []
  next : Staging := {}
  following : Staging := {}
  /-- 0 bank A, 1 bank B. -/
  bank : Nat := 0
  /-- Active weights by beam, 64 each; an unlisted beam has zero weights. -/
  weights : Tab (List Cplx) := []
  /-- The same before renormalisation and the zeroing of slices (R158). -/
  raw : Tab (List Cplx) := []
  /-- Adaptive solutions staged for an internal swap (R148). -/
  adaptiveStaged : Tab (List Cplx) := []
  /-- Receive corrections in force and staged: 16 values by path, unity where unlisted (Q2.14). -/
  corr : Tab (List Cplx) := []
  corrStaged : Tab (List Cplx) := []
  /-- Transmit corrections T by path (Q2.14), unity where unlisted. -/
  txCorr : Tab Cplx := []
  shift : Nat := 1
  epoch : Nat := 0
  host : Option BeamSwap := none
  internal : Option BeamSwap := none
  /-- On a manager: own-only (R157), since when, and the earlier spans, newest first. -/
  ownOnly : Bool := false
  ownFrom : Nat := 0
  ownSpans : List Span := []
  /-- Paths whose retirement waits for its renormalisation, by direction. -/
  renormRx : Mask64 := 0#64
  /-- Transmit slices to be zeroed at t4 of the burst in progress (R158). -/
  txZeroNext : Mask64 := 0#64
  /-- Instants at which effective weights changed, with the beams concerned (R156), newest first. -/
  changes : List (Nat × Mask64) := []
  updateMs : Nat := 100
  covLog2 : Nat := 16
  loadDb : Int := -20
  sigMaxAgeMs : Nat := 10000
  /-- The last expiry of UPDATE_MS, and whether an update is being solved. -/
  updateAt : Nat := 0
  solving : Bool := false
  holdEventAt : Option Nat := none
  satBeam : Tab Nat := []
  satPre : Tab Nat := []
  /-- The last EV_BEAM_SATURATION. -/
  satEventAt : Option Nat := none
  sigs : Tab Signature := []
  lastSig : Option Nat := none
  slices : Tab Nat := []
  spareSlices : BitVec 4 := 0xF#4
  /-- Transmit beams in use, and the weights of each beam's active and inactive bank. -/
  txUse : BitVec 16 := 0#16
  txWeights : Tab (List Cplx) := []
  txNext : Tab (List Cplx) := []
deriving DecidableEq, Repr

/-- One search profile (Table HZN-5); MODE_PARAMS as the 16 bytes of Table HZN-6. THRESHOLD and CAPTURE_MARGIN in 0.1 dB. -/
structure Profile where
  enable : Bool := false
  phy : Nat := 0
  priority : Nat := 0
  threshold : Nat := 150
  margin : Nat := 60
  maxPsdu : Nat := 2047
  params : List Byte := [4#8, 0#8, 100#8, 0#8, 0#8, 2#8, 2#8, 0#8, 0x4E#8, 0x90#8, 0x4F#8, 0x6F#8, 0#8, 0#8, 0#8, 0#8]
  beamMask : Mask64 := BitVec.allOnes 64
  binMask : BitVec 384 := 0#384
deriving DecidableEq, Repr

/-- Control settings of one profile (Table DMD-10). -/
structure Control where
  report : BitVec 2 := 0#2
  sfdWindow : Nat := 256
  fcsLen : Nat := 4
  lossSymbols : Nat := 32
deriving DecidableEq, Repr

/-- A candidate in hold (R185 to R187). Metric in 0.01 dB, frequency offset in Hz, time as a local instant (stamp). -/
structure Candidate where
  profile : Nat
  beam : Nat
  bin : Nat
  metric : Int
  offsetHz : Int
  time : Nat
  /-- The epoch in which its hold began, and its place among the heads of that epoch. -/
  began : Nat
  order : Nat
  /-- Epochs of the hold that are left. -/
  left : Nat
  /-- The highest metric seen on each beam at each bin, by 384 * beam + bin. -/
  seen : Tab Int := []
deriving DecidableEq, Repr

/-- A candidate on its way to a context: a granted claim or a capture hand-off. -/
structure Grant where
  context : Nat
  cand : Candidate
  profile : Profile
  dual : Bool
  handoff : Bool
  /-- COARSE_AZ and COARSE_EL in 0.01 degree. -/
  coarse : Option (Int × Int)
  /-- The control settings in force, the instant and the epoch of the grant or hand-off. -/
  control : Control
  granted : Nat
  epoch : Nat
deriving DecidableEq, Repr

/-- The counters of one profile (Table HZN-8), modulo 2^32. -/
structure HznCounts where
  raw : Nat := 0
  merged : Nat := 0
  absorbed : Nat := 0
  dual : Nat := 0
  capture : Nat := 0
  claimed : Nat := 0
  noContext : Nat := 0
  evicted : Nat := 0
deriving DecidableEq, Repr

/-- Horizon (spec/07). Noise powers are mean I² + Q² of a bin, scaled by 2^16. -/
structure Hzn where
  profiles : Tab Profile := []
  /-- Settings that wait for the next epoch boundary (R198). -/
  waiting : Tab Profile := []
  /-- Settings that the last boundary applies, once its candidates are classified. -/
  applying : Tab Profile := []
  noiseLog2 : Nat := 10
  noise : Tab Nat := []
  /-- Epochs of suspended detection left (none: not suspended), and the powers gathered in them: sum and number (R182). -/
  suspended : Option Nat := none
  suspendSum : Tab (Nat × Nat) := []
  /-- Number of the epoch under way: epochs since the release of RESET_L. -/
  epoch : Nat := 0
  held : List Candidate := []
  /-- Candidates whose hold has ended on the last boundary. -/
  ended : List Candidate := []
  /-- Contexts that the map as sampled at the last boundary does not show free. -/
  mapBusy : List Nat := []
  grants : List Grant := []
  counts : Tab HznCounts := []
  overload : Nat := 0
  chanSat : Nat := 0
  noContextSince : Tab Nat := []
  noContextAt : Option Nat := none
  overloadSince : Nat := 0
  overloadAt : Option Nat := none
  /-- When each bin last saw a raw detection (R196). -/
  busyAt : Tab Nat := []
deriving DecidableEq, Repr

/-- States of a context (Table DMD-1); `ended` holds the slot no longer, its release has not reached the map (R190, R201). -/
inductive CtxState where
  | sync | header | payload | ended
deriving DecidableEq, Repr

/-- One context that is not FREE. -/
structure Context where
  state : CtxState := .sync
  profileIx : Nat
  profile : Profile
  control : Control
  beam : Nat
  bin : Nat
  metric : Int
  running : Int
  time : Nat
  /-- The instant and the epoch of the claim or hand-off. -/
  claimedAt : Nat
  claimEpoch : Nat
  dual : Bool
  captureStart : Bool
  coarse : Option (Int × Int)
  /-- TOA: the SFD stamp as a local instant, its fraction in 1/65,536 ns; and what stood at the SFD. -/
  toa : Nat := 0
  toaSub : Nat := 0
  sfd1 : Bool := false
  /-- SUN FSK: the SFD found is the coded one. -/
  coded : Bool := false
  gainEpoch : Nat := 0
  weightEpoch : Nat := 0
  acqCount : Nat := 0
  loHz : Nat := 0
  phr : Option PhrInfo := none
  /-- When the context entered PAYLOAD. -/
  payloadAt : Nat := 0
deriving DecidableEq, Repr

/-- A reception that has ended with a record to come (R201, R213): its context's last state and how it ended. -/
structure Ended where
  order : Nat
  number : Nat
  ctx : Context
  /-- Table DMD-4. -/
  status : Nat
  /-- End of the air interval. -/
  stop : Nat
  psdu : List Byte
  handle : Option Nat := none
  /-- AZ, EL, SIGMA_AZ, SIGMA_EL as the record carries them. -/
  angle : Option (Int × Int × Nat × Nat) := none
deriving DecidableEq, Repr

/-- The counters of one profile (Table DMD-9), modulo 2^32. -/
structure DmdCounts where
  ok : Nat := 0
  fcsFail : Nat := 0
  sfdFail : Nat := 0
  headerFail : Nat := 0
  modeSwitch : Nat := 0
  rateReject : Nat := 0
  duplicate : Nat := 0
  capturedReported : Nat := 0
  capturedSilent : Nat := 0
  lostSync : Nat := 0
  aborted : Nat := 0
  poolFull : Nat := 0
deriving DecidableEq, Repr

/-- Demodulation and packet records (spec/08). -/
structure Dmd where
  controls : Tab Control := []
  /-- Settings that wait for the next epoch boundary, and those that the last boundary applies (R223). -/
  waiting : Tab Control := []
  applying : Tab Control := []
  contexts : Tab Context := []
  ended : List Ended := []
  nextOrder : Nat := 0
  /-- The packet pool: records by their offset in it, oldest first, and the offset of the next. -/
  pool : List (Nat × List Byte) := []
  poolNext : Nat := 0
  sequence : Nat := 0
  counts : Tab DmdCounts := []
  lostSince : Nat := 0
  lostAt : Option Nat := none
deriving DecidableEq, Repr

/-- KIND of a beam entry (Table TX-2). -/
inductive BeamKind where
  | grid | mrt | phaseOnly | explicit
deriving DecidableEq, Repr

/-- One beam entry of a request (Table TX-2); an explicit vector holds its weights in path order. -/
structure BeamEntry where
  kind : BeamKind
  /-- LEVEL in 0.01 dBFS. -/
  level : Int
  index : Nat
  vector : List Cplx := []
deriving DecidableEq, Repr

/-- Where a request came from and where its outcome goes (R225, R254). -/
inductive TxOrigin where
  | mailbox
  | port (p : Nat)
deriving DecidableEq, Repr

/-- A transmit request as parsed (Table TX-1). -/
structure TxRequest where
  id : Nat
  coexPri : Bool
  outcomeEvent : Bool
  fcs4 : Bool
  whiten : Bool
  fec : Bool
  interleave : Bool
  /-- LAUNCH_TIME as given: seconds and nanoseconds. -/
  launchS : Nat
  launchN : Nat
  tolUs : Nat
  phy : Nat
  mode : Nat
  submode : Nat
  scheme : Nat
  modIndex : Nat
  preamble : Nat
  sfd : Nat
  centre : Nat
  psdu : List Byte
  beams : List BeamEntry
deriving DecidableEq, Repr

/-- Where an admitted request stands. -/
inductive TxPhase where
  | queued | prepared
  /-- R113 has decided the launch; COEX_GNT has not been sampled. -/
  | decided
  /-- The grant was given: the launch follows. -/
  | granted
  /-- From L to the end of the frame. -/
  | frame
  /-- From the last frame sample, or the abort decision, to t4. -/
  | rampDown
deriving DecidableEq, Repr

/-- An admitted request in the launch queue (R233), until its outcome. -/
structure Launch where
  req : TxRequest
  origin : TxOrigin
  /-- Place in the order of admission. -/
  order : Nat
  admittedAt : Nat
  /-- L in device time, units of 1/384 ns. -/
  device : Int
  /-- L or L2 as a local instant, once the launch is decided (R113). -/
  fixed : Option Nat := none
  /-- Tr in units of 0.1 us, and the ramp table, as in force at admission (R230). -/
  rampTenths : Nat
  ramp : List Nat
  /-- Frame duration in time units. -/
  frame : Nat
  /-- COEX_LEAD at admission, us. -/
  coexLead : Nat
  phase : TxPhase := .queued
  /-- Transmit beams given at preparation. -/
  beams : List Nat := []
  /-- COEX_REQ is being driven for it. -/
  coexOn : Bool := false
  subband : Nat := 0xFF
  /-- L2 − L, zero when not delayed. -/
  delay : Nat := 0
  ownOnly : Bool := false
  cutOff : Bool := false
  /-- On a worker: V = 0, since its record differs or the manager is own-only (R157, R252). -/
  muted : Bool := false
  dutyUsed : Nat := 0
  margin : Int := 0
  /-- t0 has passed: TRSW_LEAD, TRSW_LAG and RX_BLANK of the burst, and its quadrants (R72). -/
  lines : Option (Nat × Nat × Nat × BitVec 4) := none
  /-- Start of the ramp-down: E, or the abort decision. -/
  downAt : Option Nat := none
  /-- Outcome and cause of an abort. -/
  abort : Option (Nat × Nat) := none
deriving DecidableEq, Repr

/-- What follows a burst's t4: t5 and t6, its quadrants, and which of the two has passed. -/
structure BurstTail where
  t4 : Nat
  t5 : Nat
  t6 : Nat
  quadrants : BitVec 4
  returned : Bool := false
deriving DecidableEq, Repr

/-- An outcome that has been decided and not reported (Tables TX-7 and TX-9). -/
structure TxOutcome where
  id : Nat
  origin : TxOrigin
  event : Bool
  outcome : Nat
  cause : Nat
  subband : Nat
  flags : Nat
  seconds : Nat
  nanos : Nat
  delayNs : Nat
  radiatedNs : Nat
  dutyUsed : Nat
  margin : Int
  seq : Nat
  /-- Decided at admission: it takes a shared entry of the outcome queue (R349). -/
  shared : Bool := false
deriving DecidableEq, Repr

/-- One sub-band of the regulatory record (Table TX-6). -/
structure Subband where
  chLow : Nat
  chHigh : Nat
  loLowKHz : Nat
  loHighKHz : Nat
  maxLevel : Int
  dutyMax : Nat
  windowS : Nat
  minOffUs : Nat
deriving DecidableEq, Repr

/-- The air-time history of one sub-band (R239): slots of W/1,024 that hold air time, and the recent air intervals. -/
structure DutyHistory where
  slots : Tab Nat := []
  spans : List Span := []
  /-- When EV_TX_DUTY was last raised (R256). -/
  eventAt : Option Nat := none
deriving DecidableEq, Repr

/-- Transmission (spec/09). -/
structure TxUnit where
  queue : List Launch := []
  nextOrder : Nat := 0
  tails : List BurstTail := []
  outcomes : List TxOutcome := []
  outcomeSeq : Nat := 0
  counts : Tab Nat := []
  /-- Receive blanking of a burst, by quadrant: spans flagged from t0 to t6 (R73), newest first. -/
  blanked : List (BitVec 4 × Span) := []
  rampTenths : Nat := 40
  /-- The ramp table that the host gave; none is the raised cosine. -/
  rampTable : Option (List Nat) := none
  coexEnable : Bool := true
  busyMode : Bool := false
  coexLead : Nat := 100
  gntFilter : Nat := 100
  /-- The levels of COEX_GNT and COEX_BUSY as last sampled. -/
  gnt : Bool := false
  busy : Bool := false
  /-- The record in force: VERSION and sub-bands; none without a valid record (R244). -/
  record : Option (Nat × List Subband) := none
  duty : Tab DutyHistory := []
  dutySavedAt : Nat := 0
  /-- Transmit corrections that workers report (R251), by 64 * position + path; unity where none. -/
  workerT : Tab Cplx := []
  /-- Workers whose record differs from the manager's (R252). -/
  mismatch : List Nat := []
  /-- End of the protected intervals of bursts that have passed t4 (R111, R113). -/
  guardUntil : Nat := 0
deriving DecidableEq, Repr

/-- Mismatch states of a path (Table DPD-1), numbered as MISMATCH. -/
inductive Mismatch where
  | normal | warn | derate | retired
deriving DecidableEq, Repr

/-- The 16 tables of one path, by 4 * branch + tap, 64 Q2.14 entries each; an unlisted table is that of the identity (R257). -/
abbrev DpdTables := Tab (List Cplx)

/-- One path's pre-distorter and aerial (R257 to R269). NMSE in 0.01 dB; RL in 0.01 dB, newest first. -/
structure DpdPath where
  /-- 0 BYPASS, 1 HOLD, 2 ADAPT. -/
  mode : Nat := 2
  modeNext : Option Nat := none
  tables : DpdTables := []
  /-- The pending set as it stands, and whether it is eligible for activation (R259). -/
  pending : Option DpdTables := none
  eligible : Bool := false
  /-- The tables of the pending set are an adaptation of the device's own (R265). -/
  adapted : Bool := false
  previous : DpdTables := []
  sat : Nat := 0
  captures : Nat := 0
  nmse : List Int := []
  /-- Mean NMSE before the last update, and the captures measured since it. -/
  nmseBefore : Option Int := none
  since : Nat := 0
  rl : List Int := []
  mismatch : Mismatch := .normal
  /-- Transmit activity in which the path took part since its last update, in time units. -/
  age : Nat := 0
  staleTold : Bool := false
  reverted : Nat := 0
  clipped : Nat := 0
deriving DecidableEq, Repr

/-- A path's tuner (R270). -/
structure Tuner where
  usid : Nat
  aux : Nat
  regs : List Nat
  codeMax : List Nat
deriving DecidableEq, Repr

/-- The search of one covered path (R273). Reflection ratios in 0.01 dB. -/
structure TunePath where
  start : List Nat
  code : List Nat
  best : Option Int := none
  step : List Nat
  element : Nat := 0
  /-- The direction under trial is −1. -/
  down : Bool := false
  /-- An improvement was kept in the direction under trial. -/
  moved : Bool := false
  improved : Bool := false
  stopped : Bool := false
  /-- The start codes have been read. -/
  read : Bool := false
deriving DecidableEq, Repr

/-- The tuning window (R271). -/
structure TuneWindow where
  mask : Mask64
  start : Nat
  durationMs : Nat
  search : Bool
  dither : Bool
  scheduled : Bool
  opened : Bool := false
  paths : Tab TunePath := []
  trials : Nat := 0
  fault : Bool := false
deriving DecidableEq, Repr

/-- One RFFE transaction (R276) and the taken command that waits for it (none for the device's own). -/
structure RffeXfer where
  kind : Nat
  usid : Nat
  count : Nat
  address : Nat
  data : List Byte
  owner : Option Nat := none
  /-- A tuner read of this path. -/
  tunerRead : Option Nat := none
deriving DecidableEq, Repr

/-- Pre-distortion and aerials (spec/10). -/
structure Dpd where
  paths : Tab DpdPath := []
  envDelay : List Nat := [0, 1, 2, 3]
  envNext : Option (List Nat) := none
  snapCount : Nat := 16
  captureUs : Nat := 100
  staleMs : Nat := 500
  peakExp : Nat := 30
  selection : Nat := 0
  /-- Captures taken at the present selection. -/
  taken : Nat := 0
  /-- Start of the last adaptation capture (R262) and of the last mismatch measurement, and the selection of the next (R267). -/
  captureAt : Option Nat := none
  mismatchAt : Option Nat := none
  mismatchSel : Nat := 0
  mismatchOn : Bool := true
  revAtten : Nat := 5
  periodMs : Nat := 100
  sclkMHz : Nat := 26
  offsets : Tab Int := []
  tuners : Tab Tuner := []
  window : Option TuneWindow := none
  /-- Paths excluded from the receive sums by a tuning window, up to an instant once the window has ended (R272). -/
  excluded : Mask64 := 0#64
  excludedEnd : Option Nat := none
  /-- For each path whose codes a window changed: the device time of that window's end (R275). -/
  tunedAt : Tab Int := []
  parity : Nat := 0
  buses : Tab (List RffeXfer) := []
deriving DecidableEq, Repr

/-- A run of a calibration kind: its cause (Table CAL-7), its paths, when it last had a usable step. -/
structure CalRun where
  cause : Nat
  paths : Mask64
  /-- A SYN run of the host includes the active synthesiser (R99). -/
  activeSyn : Bool := false
  usefulAt : Nat
deriving DecidableEq, Repr

/-- One calibration kind (Tables CAL-1, CAL-5). -/
structure CalKind where
  /-- Converging, converged; neither before the first run. -/
  ran : Bool := false
  converged : Bool := false
  /-- 0 factory, 1 stored set, 2 estimated, 3 restored. -/
  source : Nat := 0
  updates : Nat := 0
  updatedAt : Option Nat := none
  tjLast : Int := 0
  residual : Nat := 0
  sigma : Nat := 0
  starved : Nat := 0
  starvedAt : Option Nat := none
  run : Option CalRun := none
  /-- The last completed run: when, and at what temperature. -/
  runAt : Option (Nat × Int) := none
  /-- A step of the kind that began measuring at or before this instant is discarded (R112, R282). -/
  stopAt : Nat := 0
  /-- What the last update changed, as it stood before: (byte offset, old bytes) of the set in force. -/
  before : List (Nat × List Byte) := []
deriving DecidableEq, Repr

/-- The statistics of one path (Table CAL-5). -/
structure CalPathStats where
  phaseSigma : Nat := 0
  gainSigma : Nat := 0
  phaseStep : Int := 0
  gainStep : Int := 0
  rxImage : Nat := 0
  txLeak : Nat := 0
  txImage : Nat := 0
  dc : Nat := 0
deriving DecidableEq, Repr

/-- The cross-device estimate of one position (R292), gathered since the last acquisition: Σ 1/σ² in 1/65,536 per square radian,
and Σ ratio/σ² with ratios in Q2.14. -/
structure XdevEstimate where
  weight : Nat := 0
  sum : Cplx := ⟨0, 0⟩
  packets : Nat := 0
  /-- X_d in Q2.14 as last activated. -/
  factor : Cplx := ⟨16384, 0⟩
deriving DecidableEq, Repr

/-- Calibration (spec/11). The sets in force are kept as bytes in the layouts of Table CAL-3; none is the factory set. -/
structure Cal where
  autoMask : BitVec 10 := BitVec.allOnes 10
  starveS : Nat := 60
  storeIntervalS : Nat := 600
  xdevSnrMin : Nat := 15
  deltaT : Tab Nat := []
  intervalS : Tab Nat := []
  coupler : Tab Int := []
  kinds : Tab CalKind := []
  stats : Tab CalPathStats := []
  /-- The last gain change, acquisition or receive filter apply: steps that began before it are discarded (R282). -/
  disturbedAt : Nat := 0
  /-- The channel set and the step sets in force where they differ from the factory's. -/
  channel : Option (List Byte) := none
  steps : Tab (List Byte) := []
  /-- The channel entry whose set is in force. -/
  entry : Option Nat := none
  /-- When each slot was last written: 0 to 255 channel slots, 256 + n step slots. -/
  storedAt : Tab Nat := []
  /-- X_d of this device. -/
  xd : Cplx := ⟨16384, 0⟩
  xdev : Tab XdevEstimate := []
  xdevConverged : Bool := false
  xdevPackets : Nat := 0
  strobeAt : Option Nat := none
deriving DecidableEq, Repr

/-- A message of the cascade (Table LCL-4) as sent: destination, kind and body. -/
structure LclMessage where
  dst : Nat
  kind : Nat
  body : List Byte
deriving DecidableEq, Repr

/-- The states of a lane (Table LCL-6). -/
inductive LaneState where
  | unused | inUse | spare | failed | orderFault
deriving DecidableEq, Repr

/-- One lane of a hop: 0 to 8 forward, 9 to 11 reverse. -/
structure Lane where
  state : LaneState := .unused
  /-- Position in the stream; 0xFF when not in use. -/
  logical : Nat := 0xFF
  slip : Nat := 0
  inverted : Bool := false
  hdrErr : Nat := 0
  margin : Nat := 0
  delay : Nat := 0
deriving DecidableEq, Repr

/-- One hop. -/
structure Hop where
  /-- Both ends send TRAIN blocks (R310). -/
  training : Bool := false
  /-- Lanes whose margin at the last training lay below MARGIN_MIN: the next training leaves them out (R311). -/
  weak : List Nat := []
  lanes : Tab Lane := []
  oneWayPs : Nat := 0
  trigPs : Nat := 0
  groupErr : Nat := 0
  msgCrcErr : Nat := 0
  trigErr : Nat := 0
  strobeMiss : Nat := 0
  heartbeatAt : Nat := 0
deriving DecidableEq, Repr

/-- States of a position as the manager sees it (Table LCL-6). -/
inductive PosState where
  | absent | training | joined | cutOff
deriving DecidableEq, Repr

/-- One position of the chain as the manager holds it. -/
structure Position where
  state : PosState := .absent
  /-- Reset since its last join. -/
  fresh : Bool := true
  bootsCascade : Bool := false
  relayErr : Nat := 0
  timeOffsetPs : Int := 0
  joinedOnce : Bool := false
  /-- Images that the worker has rejected since it joined (R496). -/
  imageRejects : Nat := 0
  /-- The receive reference delay that the worker last reported, staged changes included (R130). -/
  rxRef : Option Nat := none
deriving DecidableEq, Repr

/-- A word of the trigger bus that has been decoded and acts at an instant (R316). -/
structure TrigAction where
  code : Nat
  due : Nat
deriving DecidableEq, Repr

/-- The Lemila cascade (spec/12). -/
structure Lcl where
  /-- EXPECTED as stored in non-volatile memory stands in Nv; this is D_CFG (R302). -/
  dCfg : Nat := 0
  /-- The device's own position. -/
  position : Nat := 0
  extra : Nat := 0
  /-- EXPECTED is 0 and the end of the chain has not been found: D_CFG is the count so far (R302). -/
  discovering : Bool := false
  autoRejoin : Bool := true
  relayTimeoutMs : Nat := 100
  marginMin : Nat := 150
  positions : Tab Position := []
  /-- Hops by their distance below the manager (0 is its own); on a worker, hop 0 is the one above it. -/
  hops : Tab Hop := []
  /-- On a worker: its upper hop has joined. -/
  joined : Bool := false
  /-- On a worker: reset since it last joined. -/
  fresh : Bool := true
  /-- On a worker: CUT is in force; PAEN is held low (R324). -/
  cut : Bool := false
  /-- On a worker: arrival of the last TIME message; none once 10 ms have passed without one, until it rejoins. -/
  timeMsgAt : Option Nat := none
  /-- The last heartbeat sent and TIME message sent. -/
  heartbeatSent : Option Nat := none
  timeSent : Option Nat := none
  /-- On a worker: the summed trigger delay from the manager (R316). -/
  trigSumPs : Nat := 0
  /-- Timed trigger codes that wait for their instant. -/
  actions : List TrigAction := []
  /-- Trigger words that this device has put on TRIG_COUT, oldest first: code and start edge. -/
  words : List (Nat × Nat) := []
  /-- TRIG_ERR and STROBE_MISS counted by this device. -/
  trigErr : Nat := 0
  strobeMiss : Nat := 0
  /-- On a worker: events not yet sent, at most 256, and how many were dropped since the last report (R320). -/
  events : List EvRec := []
  eventsLost : Nat := 0
  /-- On a worker: the manager's receive and transmit reference delays (R325). -/
  refDelays : Option (Nat × Nat) := none
  /-- Messages sent, oldest first. -/
  sent : List LclMessage := []
deriving DecidableEq, Repr

/-- A lease: the resource and the owner identifier of the unit that holds it (R351). -/
structure Lease where
  resource : Resource
  owner : Nat
deriving DecidableEq, Repr

/-- A decided revocation whose unit has not returned (R353). -/
structure Revocation where
  owner : Nat
  cause : Nat
  leases : Nat
  decided : Nat
deriving DecidableEq, Repr

/-- What the lease table knows of one unit, named by its owner identifier. -/
structure FabUnit where
  /-- Consecutive polls missed (R352). -/
  missed : Nat := 0
  /-- Times of its revocations (R355). -/
  revoked : List Nat := []
  /-- Isolated and being reset. -/
  restarting : Option Revocation := none
  heldOut : Bool := false
  revocations : Nat := 0
deriving DecidableEq, Repr

/-- ECC counts of one pool (R345, R346), and when its last event was raised. -/
structure EccCount where
  corrected : Nat := 0
  uncorrected : Nat := 0
  lastAddress : Nat := 0
  eventAt : Option Nat := none
deriving DecidableEq, Repr

/-- The Stratus fabric, memory protection and the lease table (spec/13). -/
structure Fabric where
  /-- Last reading of each router's monitor, M transfers per second. -/
  monitors : Tab Nat := []
  /-- EV_SYS_FABRIC_SLOW of each level is armed, and since when every reading has stayed above its threshold. -/
  slowArmed0 : Bool := true
  slowArmed1 : Bool := true
  above0 : Option Nat := none
  above1 : Option Nat := none
  /-- Failed links: by 6 * axis + index, the position of the link the spare replaced. -/
  spared : Tab Nat := []
  /-- ZENITH_MAX_NS and ZENITH_HELD as last reported (R339). -/
  zenithMaxNs : Nat := 0
  zenithHeld : Nat := 0
  ecc : Tab EccCount := []
  /-- Addresses of the 8-byte words that hold poison. -/
  poison : List Nat := []
  leases : List Lease := []
  units : Tab FabUnit := []
  revocations : Nat := 0
  /-- The last 16 revocations, newest first: revocation and held out. -/
  lastRevoked : List (Revocation × Bool) := []
deriving DecidableEq, Repr


/-- The states of a host DMA channel (DMA_STATUS.STATE). -/
inductive DmaState where
  | idle | running | stopping
deriving DecidableEq, Repr

/-- The transfer that a channel runs: a register-mode transfer, or a descriptor as fetched (Table DMA-2). -/
structure Transfer where
  src : Nat
  dst : Nat
  count : Nat
  last : Bool := true
  half : Bool := false
  full : Bool := false
  next : Nat := 0
  /-- Bytes already moved, in the order of R368. -/
  moved : Nat := 0
  halfDone : Bool := false
deriving DecidableEq, Repr

/-- One host channel (Table DMA-1). -/
structure Channel where
  src : BitVec 64 := 0#64
  dst : BitVec 64 := 0#64
  count : Nat := 0
  /-- DMA_CTRL without START and STOP, which read zero. -/
  ctrl : Word := 0#32
  desc : BitVec 64 := 0#64
  state : DmaState := .idle
  tailCheck : Bool := false
  endCause : Nat := 0
  errCause : Nat := 0
  half : Bool := false
  full : Bool := false
  doneBytes : Nat := 0
  cur : Nat := 0
  lastDesc : Nat := 0
  job : Option Transfer := none
deriving DecidableEq, Repr


/-- What an egress frame carries (R421, Tables FH-3 to FH-7). -/
inductive FrameBody where
  | delayReq (seqId : Nat)
  /-- eCPRI type 5: Response (2) or Request (0) with its id and, for a Response, the timestamp: seconds and nanoseconds. -/
  | oneWay (action id : Nat) (stamp : Nat × Nat)
  /-- Type 3: PC_ID, the count of SEQ_ID, and the records. -/
  | generic (pcId seq : Nat) (records : List (List Byte))
  /-- Type 0: slot, PC_ID, SEQ_ID octet, and the header of Table FH-7 before its samples. -/
  | iq (slot pcId seq : Nat) (header : List Byte) (samples : List Byte)
  /-- Type 7: Event Type, fault number (0 where none), raise or cease. -/
  | event (eventType fault : Nat) (raise : Bool)
deriving DecidableEq, Repr

/-- One egress frame: class of Table FH-2, length from destination address to FCS, and for a timed frame its launch time. -/
structure Frame where
  cls : Nat
  length : Nat
  launch : Option Nat := none
  /-- It holds a shared entry of the outcome queue (R349). -/
  shared : Bool := false
  body : FrameBody
deriving DecidableEq, Repr

/-- A frame that has started on the line: port, the instant at the PCS/PMA boundary, its addresses, tag (0 untagged) and EtherType,
and its message as sent. -/
structure SentFrame where
  port : Nat
  start : Nat
  cls : Nat
  dst : Nat
  src : Nat
  tag : Nat
  etherType : Nat
  bytes : List Byte
deriving DecidableEq, Repr

/-- An outcome record or control result that waits for a port that is up (R349, R426). -/
structure PortResult where
  port : Nat
  pcId : Nat
  shared : Bool
  record : List Byte
deriving DecidableEq, Repr

/-- A type-2 message that waits in a port's ingress buffer (R349): its arrival, ACTION, ids, and body. -/
structure RtcMessage where
  port : Nat
  arrived : Nat
  action : Nat
  rtcId : Nat
  seqId : Nat
  body : List Byte
deriving DecidableEq, Repr

/-- The counts of a port (Table FH-13), modulo 2^32. -/
structure PortCounts where
  rxFrames : Nat := 0
  rxFcsErr : Nat := 0
  rxDiscard : Nat := 0
  rxUnsupported : Nat := 0
  txFrames : Nat := 0
  iqDropped : Nat := 0
  iqLate : Nat := 0
  fecCorrected : Nat := 0
  fecUncorrected : Nat := 0
  linkDowns : Nat := 0
  rtcAccepted : Nat := 0
  rtcLate : Nat := 0
deriving DecidableEq, Repr

/-- One fronthaul port. -/
structure Port where
  enable : Bool := true
  fec : Bool := false
  vlan : Nat := 0
  /-- SRC_MAC once the host has set it; before that 02-00, SYS_UID[23:0], port. -/
  srcMac : Option Nat := none
  dstMac : Nat := 0xFFFFFFFFFFFF
  boardTxPs : Nat := 0
  boardRxPs : Nat := 0
  up : Bool := false
  counts : PortCounts := {}
  /-- Frames that wait, in the order of arrival. -/
  queue : List Frame := []
  /-- The frame on the line. -/
  sending : Option Frame := none
  sendingAt : Nat := 0
  /-- SEQ_ID counts of type-3 content 1, 2 and 3. -/
  seqIds : Tab Nat := []
  /-- Raised eCPRI faults and the last occurrence of each (R433). -/
  faults : Tab Nat := []
  /-- IQ frames dropped and late since the last EV_FH_IQ_DROP, and when that was (R442). -/
  dropSince : Nat := 0
  lateSince : Nat := 0
  dropEventAt : Option Nat := none
deriving DecidableEq, Repr

/-- One stream slot (R428). -/
structure Stream where
  enable : Bool := false
  kind : Nat := 0
  format : Nat := 0
  port : Nat := 0
  instants : Nat := 0
  sources : Mask64 := 0#64
  firstBin : Nat := 0
  binCount : Nat := 0
  latencyUs : Nat := 0
  pcId : Nat := 0
  seq : Nat := 0
deriving DecidableEq, Repr

/-- A frame of packet records under assembly (R426). -/
structure RecordFrame where
  records : List (List Byte) := []
  bytes : Nat := 0
  /-- When the oldest record in it left the pool. -/
  since : Nat := 0
deriving DecidableEq, Repr

/-- Fronthaul (spec/17). -/
structure Fh where
  ports : Tab Port := []
  streams : Tab Stream := []
  /-- PORT_ORDER, four entries, 0xFF ends the list. -/
  portOrder : List Nat := [0, 1, 2, 3]
  recHoldUs : Nat := 2
  assembling : Option RecordFrame := none
  /-- Outcomes and control results that wait for a port. -/
  results : List PortResult := []
  /-- Type-2 messages that wait for a shared entry of the outcome queue, in the order of arrival. -/
  ingress : List RtcMessage := []
  /-- Frames that have left, oldest first. -/
  sent : List SentFrame := []
deriving DecidableEq, Repr

/-- The selected PTP master. -/
structure Master where
  id : Nat
  port : Nat
  clockClass : Nat
  utcOffset : Int
  /-- The dataset that the best master comparison reads, as the Announce carried it. -/
  dataset : List Byte
deriving DecidableEq, Repr

/-- A two-step Sync that waits for its Follow_Up (R435). -/
structure SyncWait where
  seqId : Nat
  arrivalPs : Int
  correctionPs : Int
deriving DecidableEq, Repr

/-- Device time and its PTP clock (R434 to R441). -/
structure TimeUnit where
  state : TimeState := .invalid
  /-- Device time is `base` at local instant `baseAt` and runs at `ratePpb` from there (units of 1/384 ns). -/
  base : Int := 0
  baseAt : Nat := 0
  ratePpb : Int := 0
  steps : Nat := 0
  /-- Time has been stepped since the last entry into INVALID, and by how much. -/
  stepped : Bool := false
  stepPs : Int := 0
  offsetPs : Int := 0
  pathDelayPs : Option Int := none
  /-- Offset (t2 - t1) of the last complete Sync, for the mean path delay. -/
  masterToSlavePs : Option Int := none
  holdoverAt : Option Nat := none
  lockCount : Nat := 0
  bigCount : Nat := 0
  master : Option Master := none
  announceAt : Nat := 0
  announceLog : Int := 0
  syncAt : Nat := 0
  wait : Option SyncWait := none
  delayReqSeq : Nat := 0
  /-- When the last Delay_Req was queued. -/
  delayReqAt : Option Nat := none
  /-- The outstanding Delay_Req: its sequence id and departure time in ps of device time. -/
  delayReq : Option (Nat × Int) := none
  ptpPort : Nat := 0
  profile : Nat := 0
  domain : Nat := 24
  dest : Nat := 0
  localPriority : Nat := 128
  delayReqLog : Int := -4
  lockNs : Nat := 100
  stepThresholdNs : Nat := 1000
  holdoverLimitS : Nat := 300
  asymmetryPs : Int := 0
deriving DecidableEq, Repr

/-- States of a capture slot, numbered as STATE of Table HALO-6. -/
inductive SlotState where
  | idle | arming | filling | post | holdoff | done | frozen | disarmed
deriving DecidableEq, Repr

/-- A completed or accepted segment (Table HALO-6). Stamps are local instants. -/
structure HaloSeg where
  trigger : Nat
  sources : Nat
  flags : Nat := 0
  oldest : Nat := 0
  triggerOffset : Nat := 0
  bytes : Nat := 0
  first : Nat := 0
deriving DecidableEq, Repr

/-- What HALO_ARM set (Table HALO-4). -/
structure HaloCfg where
  kind : Nat := 0
  cascadeOut : Bool := false
  obsSel : BitVec 3 := 0#3
  offset : Nat := 0
  length : Nat := 0
  segments : Nat := 0
  preFraction : Nat := 0
  sources : Mask64 := 0#64
  firstBin : Nat := 0
  binCount : Nat := 0
  trig : BitVec 7 := 0#7
  patternMode : Nat := 0
  byCount : Bool := false
  maskId : Nat := 0xFF
  holdoff : Nat := 1
  patternValue : Mask64 := 0#64
  patternCare : Mask64 := 0#64
  hznProfiles : BitVec 8 := 0#8
  launchQuads : BitVec 4 := 0#4
  minMetric : Nat := 0
  binLow : Nat := 32
  binHigh : Nat := 351
  beamMask : Mask64 := 0#64
deriving DecidableEq, Repr

/-- A capture slot (R443 to R456). -/
structure HaloSlot where
  state : SlotState := .idle
  cfg : HaloCfg := {}
  /-- The instant at which arming completes, for kinds other than OBS (R446). -/
  armDue : Nat := 0
  /-- The stamp of the first sample written to the current segment. -/
  firstSample : Nat := 0
  /-- The trigger accepted for the current segment, and its sources. -/
  trigger : Option (Nat × Nat) := none
  done : Nat := 0
  segs : Tab HaloSeg := []
  ignored : Nat := 0
  heldOff : Nat := 0
  /-- Conditions held off since the last trigger. -/
  held : Nat := 0
  /-- The pattern condition on the last sample (R450). -/
  patternTrue : Bool := false
deriving DecidableEq, Repr

/-- A trigger that has been decided and not yet judged by its slot (R449, R451). -/
structure TrigOffer where
  slot : Nat
  stamp : Nat
  /-- Bit number in TRIG_SOURCES. -/
  source : Nat
  decidedAt : Nat
  /-- A command trigger at a given time: discarded when time becomes invalid (R437). -/
  scheduled : Bool := false
deriving DecidableEq, Repr

/-- One segment of a mask (Table HALO-5). -/
structure MaskSeg where
  start : Int
  stop : Int
  upper : Int
  lower : Int
deriving DecidableEq, Repr

/-- A mask (R455, R456). -/
structure HaloMask where
  envelope : Bool
  action : BitVec 3
  avgLog2 : Nat
  segs : List MaskSeg
  eventAt : Option Nat := none
deriving DecidableEq, Repr

/-- One snapshot (Table HALO-7): `bytes` from 0x10 to 0x3F latched at the strobe, `late` from 0x40 to 0x51. -/
structure Snapshot where
  id : Nat
  origin : Nat
  merged : Bool := false
  pinned : Bool := false
  timeInvalid : Bool
  spread : Nat := 0
  strobe : Nat
  seconds : Nat
  nanos : Nat
  bytes : List Byte
  late : Option (List Byte) := none
deriving DecidableEq, Repr

/-- A strobe that is due (R457). -/
structure Strobe where
  due : Nat
  origin : Nat
  pin : Bool
  scheduled : Bool
deriving DecidableEq, Repr

/-- Halo capture and snapshots (spec/18). -/
structure Halo where
  slots : Tab HaloSlot := []
  masks : Tab HaloMask := []
  offers : List TrigOffer := []
  trigOutMask : BitVec 4 := 0#4
  trigOutWidth : Nat := 100
  trigOutUntil : Option Nat := none
  /-- The OBS slot that holds the observation selection. -/
  obsSlot : Option Nat := none
  /-- Snapshots, newest first, at most eight. -/
  snaps : List Snapshot := []
  nextSnap : Nat := 0
  snapMerged : Nat := 0
  strobes : List Strobe := []
  /-- On a worker: strobe stamps (seconds, nanoseconds) whose snapshot a relayed HALO_SNAPSHOT pins (R459). -/
  pinAt : List (Nat × Nat) := []
deriving DecidableEq, Repr

/-- A replacement in progress (R508). -/
structure Replacement where
  kind : Nat
  unit : Nat
  spare : Nat
  since : Nat
deriving DecidableEq, Repr

/-- The maintenance window (R507). -/
structure Maintenance where
  start : Nat
  durationMs : Nat
  scheduled : Bool
  opened : Bool := false
  /-- The highest kind whose turn has come in this window (R508). -/
  turn : Nat := 0
deriving DecidableEq, Repr

/-- Spares and service life (spec/21). -/
structure Spare where
  /-- Spares in service by kind. -/
  used : Tab Nat := []
  /-- Units out of service with no spare, by kind. -/
  heldOut : Tab Nat := []
  /-- Spare rows and columns used by each macro, by 4 * macro (rows) and 4 * macro + 1 (columns). -/
  macros : Tab Nat := []
  /-- Failed units that wait for a window: kind and unit. -/
  waiting : List (Nat × Nat) := []
  current : Option Replacement := none
  window : Option Maintenance := none
  /-- Engines that have left the free map, and engines and processors that serve another's index. -/
  drained : List Nat := []
  engineMap : Tab Nat := []
  procMap : Tab Nat := []
  /-- Correlator banks in service that work, and the bank of each enabled profile (R179, R505). -/
  banks : List Nat := [0, 1, 2, 3, 4, 5, 6, 7]
  bankOf : Tab Nat := []
  /-- Paths retired, by direction, and those whose slice has failed with no spare left. -/
  rxRetired : Mask64 := 0#64
  txRetired : Mask64 := 0#64
  sliceLost : Mask64 := 0#64
  /-- Paths whose failed slice is zeroed until the window (excluded, not retired). -/
  sliceFailed : Mask64 := 0#64
  synFailed : List Nat := []
  /-- A service-record write that the temperature has put off (R511). -/
  recordDue : Bool := false
  /-- When the hours of the service record were last brought up to date (R514). -/
  hourAt : Nat := 0
  /-- Indicators raised this boot, by 256 * indicator + kind (255 for none). -/
  wear : List Nat := []
deriving DecidableEq, Repr

/-- Why the block stops. No rule of the spec stops it, so the type has the one reason that no meaning raises today. -/
inductive Fault where
  /-- Raised by nothing: an access outside the device address map is answered by the rules of its own unit. Safe. -/
  | outsideMap
deriving DecidableEq, Repr

/-- Why a command has no meaning. -/
inductive Refusal where
  /-- An arm of exec whose meaning is not written yet; raised by Dispatch alone. Safe: nothing can be proved of it. -/
  | notModelled (mnemonic : String)
deriving DecidableEq, Repr

/-- The whole state. -/
structure State where
  /-- Local time since the release of RESET_L, in units of 1/384 ns. -/
  now : Nat := 0
  /-- The commands that wait, first in, first out. -/
  pending : List Instr := []
  /-- The model's own count of free values drawn (no state of the spec). -/
  free : Nat := 0
  /-- Device memory (Table STR-4): bytes that differ from zero, addresses rising. -/
  mem : List Host.Cell := []
  /-- The host memory that the device writes (event ring, DMA): bytes that differ from zero, addresses rising. -/
  hostMem : List Host.Cell := []
  host : HostIf := {}
  evq : EventRing := {}
  cmd : CmdUnit := {}
  nv : Nv := {}
  pins : Pins := {}
  fuses : Fuses := {}
  boot : Boot := {}
  dawn : Dawn := {}
  thermal : Thermal := {}
  tap : Tap := {}
  lcl : Lcl := {}
  fh : Fh := {}
  time : TimeUnit := {}
  fab : Fabric := {}
  dma : Tab Channel := []
  path : PathUnit := {}
  radio : Radio := {}
  filt : Filt := {}
  beam : BeamUnit := {}
  hzn : Hzn := {}
  dmd : Dmd := {}
  tx : TxUnit := {}
  dpd : Dpd := {}
  halo : Halo := {}
  cal : Cal := {}
  spare : Spare := {}
deriving DecidableEq, Repr

/-- The machine right after reset. -/
def State.reset : State := {}


end Sys2Proof.Machine
end

