-- ==== Sys2Proof/Machine/Ops.lean ====
section
/-!
DEFINITION. Shared operations: time, MSI-X, events, memory, and taking, answering and deferring a Malette command.
-/

namespace Sys2Proof.Machine

open Sys2Proof

/-! ### Status codes (Table CMD-3) -/

namespace Status
def ok : Nat := 0x0000
def busy : Nat := 0x0001
def badOpcode : Nat := 0x0002
def badParam : Nat := 0x0003
def notPermitted : Nat := 0x0004
def timeInvalid : Nat := 0x0005
def tempRange : Nat := 0x0006
def noResource : Nat := 0x0007
def wrongState : Nat := 0x0008
def authFail : Nat := 0x0009
def timeout : Nat := 0x000A
def partialDone : Nat := 0x000B
def nvProtected : Nat := 0x0101
def imageInvalid : Nat := 0x0102
def runningBank : Nat := 0x0103
def nvVerifyFail : Nat := 0x0104
def notLocked : Nat := 0x0201
def synNotInService : Nat := 0x0202
def entryInvalid : Nat := 0x0203
def loUnreachable : Nat := 0x0204
def pathRetired : Nat := 0x0301
def filtDelayMismatch : Nat := 0x0302
def sigStale : Nat := 0x0401
def noGeometry : Nat := 0x0402
def modeUnsupported : Nat := 0x0501
def regNotNewer : Nat := 0x0701
def regNotSealed : Nat := 0x0702
def noRequest : Nat := 0x0703
def notInWindow : Nat := 0x0801
def rffeParity : Nat := 0x0802
def setInvalid : Nat := 0x0901
def noEntry : Nat := 0x0902
def rateExceeded : Nat := 0x0A01
def portDisabled : Nat := 0x0A02
def noDevice : Nat := 0x0B01
def chainBusy : Nat := 0x0B02
def capRate : Nat := 0x0C01
def regionOverlap : Nat := 0x0C02
def snapGone : Nat := 0x0C03
def sleepRefused : Nat := 0x0D01
def noSpare : Nat := 0x0E01
def keyAbsent : Nat := 0x0F01
def provisionIncomplete : Nat := 0x0F02
def fuseFail : Nat := 0x0F03
end Status

/-! ### Identity -/

/-- The role by the sampled strap (Table BALL-3). -/
def State.role (s : State) : Role :=
  if s.boot.role = 0#2 then .standalone
  else if s.boot.role = 1#2 then .manager
  else if s.boot.role = 2#2 then .worker
  else .invalid

/-- The device is a worker. -/
def State.isWorker (s : State) : Bool := s.role == .worker

/-- The device's own cascade position; 0 on STANDALONE. -/
def State.position (s : State) : Nat :=
  match s.role with
  | .manager | .worker => s.lcl.position
  | _ => 0

/-- Positions of the joined workers, ascending. -/
def State.joinedWorkers (s : State) : List Nat :=
  (List.range s.lcl.position).filter (fun p => (Tab.get s.lcl.positions p {}).state == .joined)

/-! ### Messages of the cascade (R318) -/

/-- Send a message to a position; on a worker the manager's is D_CFG − 1. -/
def State.message (s : State) (dst kind : Nat) (body : List Byte) : State :=
  { s with lcl := { s.lcl with sent := s.lcl.sent ++ [⟨dst, kind, body⟩] } }

/-- A worker's message to the manager. -/
def State.toManager (s : State) (kind : Nat) (body : List Byte) : State := s.message (s.lcl.dCfg - 1) kind body

/-- The same message to each of some positions. -/
def State.messages (s : State) (ps : List Nat) (kind : Nat) (body : List Byte) : State :=
  ps.foldl (fun s p => s.message p kind body) s

/-! ### Time (R8, R434) -/

/-- Local time moves to `t`; it never runs back. -/
def State.advance (s : State) (t : Nat) : State := { s with now := Nat.max s.now t }

/-- Device time at a local instant, in units of 1/384 ns. -/
def TimeUnit.deviceAt (u : TimeUnit) (t : Nat) : Int :=
  let d : Int := (t : Int) - (u.baseAt : Int)
  u.base + d + (d * u.ratePpb).ediv 1000000000

/-- The first local instant whose device time is at or after `d`. -/
def TimeUnit.localOf (u : TimeUnit) (d : Int) : Nat :=
  let x := d - u.base
  ((u.baseAt : Int) - (-(x * 1000000000)).ediv (1000000000 + u.ratePpb)).toNat

/-- Device time now. -/
def State.deviceNow (s : State) : Int := s.time.deviceAt s.now

/-- Time is VALID or HOLDOVER. -/
def State.timeUsable (s : State) : Bool := s.time.state != .invalid

/-- TS64 of a local instant: seconds modulo 2^32, and nanoseconds with bit 31 set while time is invalid (R391, R434). -/
def State.ts64 (s : State) (t : Nat) : Nat × Nat :=
  let d := (s.time.deviceAt t).toNat
  (d / Config.sec % 2 ^ 32,
   d % Config.sec / Config.ns + (if s.time.state = .invalid then 2 ^ 31 else 0))

/-- TS64 as eight little-endian bytes. -/
def State.ts64Bytes (s : State) (t : Nat) : List Byte :=
  le 4 (s.ts64 t).1 ++ le 4 (s.ts64 t).2

/-- TS64 as eight bytes in network order. -/
def State.ts64Be (s : State) (t : Nat) : List Byte :=
  be 4 (s.ts64 t).1 ++ be 4 (s.ts64 t).2

/-- Fraction of a nanosecond of a local instant, in 1/65,536 ns (R8). -/
def State.subNs (s : State) (t : Nat) : Nat :=
  (s.time.deviceAt t).toNat % Config.ns * 65536 / Config.ns

/-- A device time given as 48-bit seconds and nanoseconds, in units of 1/384 ns. -/
def deviceUnits (seconds nanos : Nat) : Int := ((seconds * Config.sec + nanos * Config.ns : Nat) : Int)

/-- One draw of a free value: the value and the advanced count. -/
def State.draw (s : State) : Nat × State := (Config.freeNat s.free, { s with free := s.free + 1 })

/-! ### MSI-X (R382, R386) -/

/-- The entry of a vector. -/
def HostIf.entry (h : HostIf) (v : Nat) : MsixEntry := Tab.get h.msix v {}

/-- Send a vector's message, or hold it pending where the vector is masked. -/
def HostIf.sendVector (h : HostIf) (v : Nat) : HostIf :=
  let e := h.entry v
  if e.control.getLsbD 0 then { h with msixPending := h.msixPending ||| bitAt 32 v }
  else { h with sent := h.sent ++ [⟨v, e.addrLo.toNat + 2 ^ 32 * e.addrHi.toNat, e.data⟩] }

/-- Send a vector and set its bit of HOST_INT_STATUS. -/
def HostIf.notify (h : HostIf) (v bit : Nat) : HostIf :=
  { h.sendVector v with intStatus := h.intStatus ||| bitAt 32 bit }

/-- `notify` on the whole state. -/
def State.notify (s : State) (v bit : Nat) : State := { s with host := s.host.notify v bit }

/-! ### Events (R391 to R396, R409) -/

/-- Severities (Table HOST-12). -/
inductive Severity where
  | info | notice | warn | error | fatal
deriving DecidableEq, Repr

/-- The code of a severity. -/
def Severity.code : Severity → Nat
  | .info => 0 | .notice => 1 | .warn => 2 | .error => 3 | .fatal => 4

/-- Ring size S (Table HOST-9: 6 to 16, other values act as 6). -/
def EventRing.size (q : EventRing) : Nat :=
  let n := (q.ctrl >>> 1).toNat % 32
  if 6 ≤ n ∧ n ≤ 16 then 2 ^ n else 64

/-- F = EVQ_PROD − EVQ_CONS modulo 2^32 (R394). -/
def EventRing.fill (q : EventRing) : Nat := (q.prod + 2 ^ 32 - q.cons) % 2 ^ 32

/-- MOD_US. -/
def EventRing.modUs (q : EventRing) : Nat := (q.ctrl >>> 6).toNat % 1024

/-- MOD_COUNT, 0 acting as 1. -/
def EventRing.modCount (q : EventRing) : Nat := Nat.max 1 ((q.ctrl >>> 16).toNat % 256)

/-- ENABLE of EVQ_CTRL. -/
def EventRing.enabled (q : EventRing) : Bool := q.ctrl.getLsbD 0

/-- The ring can be written now: READY, running, link up, D0, credits (R395). -/
def State.ringOpen (s : State) : Bool :=
  s.boot.ready && s.evq.running && s.host.linkUp && !s.host.d3hot && s.host.credits

/-- Count one dropped record (R394, R398). -/
def EventRing.noteDrop (q : EventRing) (r : EvRec) : EventRing :=
  { q with
    dropped := wrapAdd 32 q.dropped 1
    owed := q.owed + 1
    owedFirst := if q.owed = 0 then r.seq else Nat.min q.owedFirst r.seq
    owedLast := if q.owed = 0 then r.seq else Nat.max q.owedLast r.seq
    owedFatal := if r.severity = 4 then Nat.min 255 (q.owedFatal + 1) else q.owedFatal }

/-- Remove the oldest event of the store that is not FATAL. -/
def dropOldest : List EvRec → Option (EvRec × List EvRec)
  | [] => none
  | r :: rest =>
    if r.severity = 4 then (dropOldest rest).map (fun p => (p.1, r :: p.2)) else some (r, rest)

/-- Put a record into the pending store (R395): a full store drops it, or for a FATAL record the oldest that is not. -/
def EventRing.keep (q : EventRing) (isOpen : Bool) (r : EvRec) : EventRing :=
  if isOpen || q.store.length < 256 then { q with store := q.store ++ [r] }
  else if r.severity = 4 then
    match dropOldest q.store with
    | some (old, rest) => { q.noteDrop old with store := rest ++ [r] }
    | none => q.noteDrop r
  else q.noteDrop r

/-- The record of an event produced now, with the next Sequence. -/
def State.record (s : State) (typ sev : Nat) (payload : List Byte) : EvRec :=
  let ts := s.ts64 s.now
  { typ := typ, severity := sev, source := typ / 256 % 16 + 16 * (s.position % 16), seq := s.evq.seqNext,
    seconds := ts.1, nanos := ts.2, payload := fit 16 payload }

/-- Payload of EV_SYS_OVERFLOW (Table HOST-11). -/
def EventRing.overflowPayload (q : EventRing) : List Byte :=
  le 4 q.owed ++ le 4 q.owedFirst ++ le 4 q.owedLast ++ le 1 q.owedFatal

/-- Produce EV_SYS_OVERFLOW for every record dropped since the last one. -/
def State.takeOverflow (s : State) : EvRec × State :=
  let r := s.record 0x0101 2 s.evq.overflowPayload
  (r, { s with evq := { s.evq with seqNext := wrapAdd 32 s.evq.seqNext 1, owed := 0, owedFirst := 0, owedLast := 0,
                                   owedFatal := 0 } })

/-- EV_SYS_OVERFLOW is due and may be written (R394). -/
def State.overflowDue (s : State) : Bool :=
  decide (0 < s.evq.owed) && s.ringOpen && decide (s.evq.fill < s.evq.size - 4)

/-- Put a record with the next Sequence into the store. -/
def State.produce (s : State) (typ sev : Nat) (payload : List Byte) : State :=
  let r := s.record typ sev payload
  { s with evq := ({ s.evq with seqNext := wrapAdd 32 s.evq.seqNext 1 }.keep s.ringOpen r) }

/-- The 32 bytes of a record (Table HOST-12). -/
def EvRec.bytes (r : EvRec) : List Byte :=
  le 2 r.typ ++ le 1 r.severity ++ le 1 r.source ++ le 4 r.seq ++ le 4 r.seconds ++ le 4 r.nanos ++ fit 16 r.payload

/-- A worker's event: sent to the manager while joined, else held, at most 256 (R320). -/
def State.workerEvent (s : State) (r : EvRec) : State :=
  let s1 := { s with evq := { s.evq with seqNext := wrapAdd 32 s.evq.seqNext 1 } }
  if s.lcl.joined then s1.toManager 2 r.bytes
  else if s.lcl.events.length < 256 then { s1 with lcl := { s1.lcl with events := s1.lcl.events ++ [r] } }
  else { s1 with lcl := { s1.lcl with eventsLost := s1.lcl.eventsLost + 1 } }

/-- The lowest severity produced for a group (R409). -/
def EventRing.minSeverity (q : EventRing) (group : Nat) : Nat := Tab.get q.filter group 0

/-- Raise an event: filtered by group, given the next Sequence, and held for the ring or for the manager. -/
def State.raiseEvent (s : State) (typ : Nat) (sev : Severity) (payload : List Byte) : State :=
  if sev.code < 4 && decide (sev.code < s.evq.minSeverity (typ / 256)) && typ != 0x0101 then s
  else
    let s := if sev.code = 4 then { s with evq := { s.evq with fatal := true } } else s
    if s.isWorker then s.workerEvent (s.record typ sev.code payload)
    else
      let s :=
        if s.overflowDue && decide (sev.code < 4) && s.evq.store.isEmpty then
          let p := s.takeOverflow
          { p.2 with evq := { p.2.evq with store := p.2.evq.store ++ [p.1] } }
        else s
      s.produce typ sev.code payload

/-! ### Mailboxes (R387, R388, R399) -/

/-- Mailbox n. -/
def HostIf.mailbox (h : HostIf) (n : Nat) : Mailbox := Tab.get h.mbx n {}

/-- `new` written over `old` from offset 0. -/
def overlay (old new : List Byte) : List Byte := new ++ old.drop new.length

/-- The header of a response (R399). -/
def responseHeader (c : Cmd) (status len : Nat) : List Byte :=
  le 2 c.opcode ++ le 2 c.tag ++ le 2 (c.flags ||| 1) ++ le 2 len ++ le 2 status ++ le 2 c.target ++ zeros 4

/-- Remove a command from the list of those without a response. -/
def CmdUnit.drop (u : CmdUnit) (order : Nat) : CmdUnit :=
  { u with running := u.running.filter (fun r => r.order != order) }

/-- Replace the phase of a command. -/
def CmdUnit.setPhase (u : CmdUnit) (order : Nat) (p : CmdPhase) : CmdUnit :=
  { u with running := u.running.map (fun r => if r.order = order then { r with phase := p } else r) }

/-- Write a command's response (R388 step 3, R399, R401): into its mailbox with DONE and its vector; on a worker, as a
message to the manager and kept for a repeat (R319). A discarded response leaves its effects (R388). -/
def State.respond (s : State) (r : Running) (rep : Reply) : State :=
  let s1 := { s with cmd := s.cmd.drop r.order }
  let bytes := responseHeader r.cmd rep.status rep.payload.length ++ rep.payload
  if r.cascade then
    ({ s1 with cmd := { s1.cmd with relayIn := Tab.set s1.cmd.relayIn r.mbx ⟨r.cmd.tag, some rep⟩ } }).toManager 1 bytes
  else if r.orphan then s1
  else
    let b := s1.host.mailbox r.mbx
    let b' : Mailbox := { b with area := overlay b.area bytes, state := .response }
    let h : HostIf := { s1.host with mbx := Tab.set s1.host.mbx r.mbx b' }
    { s1 with host := h.notify (1 + r.mbx) (1 + r.mbx) }

/-! ### Commands as bytes (Table CMD-1) -/

/-- The command in a mailbox area (Table CMD-1). -/
def cmdOf (area : List Byte) : Cmd :=
  { opcode := u16 area 0, tag := u16 area 2, flags := u16 area 4, length := u16 area 6, target := u16 area 10,
    payload := bytesAt area 0x10 (Nat.min (u16 area 6) 4096) }

/-- The opcodes of release 4.1 (Table CMD-4 and the command tables of the chapters). -/
def opcodeKnown (op : Nat) : Bool :=
  inRange 0x0101 op 0x0104 || inRange 0x0110 op 0x0111 || inRange 0x0120 op 0x0122 || inRange 0x0140 op 0x0143 ||
  inRange 0x0201 op 0x020A || inRange 0x0301 op 0x0310 || inRange 0x0401 op 0x040A || inRange 0x0501 op 0x0505 ||
  inRange 0x0601 op 0x0604 || inRange 0x0701 op 0x0707 || inRange 0x0801 op 0x0809 || inRange 0x0901 op 0x0908 ||
  inRange 0x0A01 op 0x0A06 || inRange 0x0B01 op 0x0B05 || inRange 0x0C01 op 0x0C09 || inRange 0x0D01 op 0x0D03 ||
  inRange 0x0E01 op 0x0E04 || inRange 0x0F01 op 0x0F05

/-! ### Running a command (R402 to R408) -/

/-- Which devices may run a command in a cascade (Table CMD-2). -/
inductive TargetRule where
  /-- Any target. -/
  | anyTarget
  /-- On a manager, target 0xFFFF only. -/
  | allOnly
  /-- Not on a worker; target 0xFFFF runs it on the manager alone (R407). -/
  | managerOnly
deriving DecidableEq, Repr

/-- What the envelope checks of a command read: opcode, payload length its layout needs, and target rule. -/
structure CmdSpec where
  opcode : Nat
  minLen : List Byte → Nat := fun _ => 0
  rule : TargetRule := .anyTarget
  /-- Longest duration beyond RELAY_TIMEOUT_MS when relayed (R407), in time units. -/
  longest : List Byte → Nat := fun _ => 0
  /-- Payloads with which the manager runs a broadcast alone. -/
  noRelay : List Byte → Bool := fun _ => false
  /-- The relay starts only once the manager's own deferred work is done (R412). -/
  relayLater : Bool := false

/-- What a command does on this device: the state after it, its reply, and whether the reply waits for its completion. -/
structure CmdEffect where
  state : State
  reply : Reply
  defer : Bool := false

/-- A command that ends with a status and no payload, the state as given. -/
def CmdEffect.status (s : State) (st : Nat) : CmdEffect := { state := s, reply := ⟨st, []⟩ }

/-- A command that ends OK with a payload. -/
def CmdEffect.ok (s : State) (payload : List Byte) : CmdEffect := { state := s, reply := ⟨Status.ok, payload⟩ }

/-- A deferred command that will end OK with a payload. -/
def CmdEffect.later (s : State) (payload : List Byte) : CmdEffect :=
  { state := s, reply := ⟨Status.ok, payload⟩, defer := true }

/-- A command's RFFE transaction has not ended: DPD_RFFE_XFER is immediate, so later commands wait for it (R277, R403). -/
def State.xferPending (s : State) (order : Option Nat) : Bool :=
  s.dpd.buses.any (fun p => p.2.any (fun x => x.owner.isSome && (order.isNone || x.owner == order)))

/-- The next command to start: the first taken that waits for nothing (R403, R404). -/
def State.nextCommand (s : State) : Option Running :=
  if s.xferPending none then none else s.cmd.running.find? (fun r => r.phase == .ready)

/-- Check 3 of R408: the cascade target (R407). -/
def State.targetCheck (s : State) (r : Running) : Option Nat :=
  let t := r.cmd.target
  if r.cascade then none
  else match s.role with
    | .manager =>
      if t = 0xFFFF || t = s.lcl.position then none
      else if t > s.lcl.position then some Status.badParam
      else if (Tab.get s.lcl.positions t {}).state == .joined then none
      else some Status.noDevice
    | _ => if t = 0 || t = 0xFFFF then none else some Status.badParam

/-- Check 4 of R408: role and target (Table CMD-2). -/
def State.ruleCheck (s : State) (rule : TargetRule) (r : Running) : Option Nat :=
  match rule with
  | .anyTarget => none
  | .allOnly => if s.role == .manager && r.cmd.target != 0xFFFF then some Status.notPermitted else none
  | .managerOnly =>
    if s.isWorker || (s.role == .manager && r.cmd.target != 0xFFFF && r.cmd.target != s.lcl.position) then
      some Status.notPermitted
    else none

/-- Checks 2 to 4 of R408. -/
def State.envelopeCheck (s : State) (sp : CmdSpec) (r : Running) : Option Nat :=
  if r.cmd.length > 4096 || r.cmd.length < sp.minLen r.cmd.payload then some Status.badParam
  else match s.targetCheck r with
    | some st => some st
    | none => s.ruleCheck sp.rule r

/-- The worker positions a command goes to besides, or instead of, this device (R319). -/
def State.relayTargets (s : State) (sp : CmdSpec) (r : Running) : List Nat :=
  if s.role != .manager || r.cascade || sp.rule == .managerOnly then []
  else if r.cmd.target = 0xFFFF then (if sp.noRelay r.cmd.payload then [] else s.joinedWorkers)
  else if r.cmd.target = s.lcl.position then []
  else [r.cmd.target]

/-- The device itself runs the command. -/
def State.runsHere (s : State) (r : Running) : Bool :=
  s.role != .manager || r.cascade || r.cmd.target = 0xFFFF || r.cmd.target = s.lcl.position

/-- The bytes of a command as relayed. -/
def relayBytes (c : Cmd) : List Byte :=
  le 2 c.opcode ++ le 2 c.tag ++ le 2 c.flags ++ le 2 c.length ++ le 2 0 ++ le 2 c.target ++ zeros 4 ++ c.payload

/-- A command as the manager relays it: HALO_SNAPSHOT carries the strobe stamp of the manager's own response as its INSTANT
(R459), every other command the host's payload. -/
def Cmd.toRelay (c : Cmd) (own : Option Reply) : Cmd :=
  match own with
  | none => c
  | some o => if c.opcode = 0x0C07 then { c with payload := c.payload.take 8 ++ o.payload.take 8 ++ c.payload.drop 16 } else c

/-- Start the relay of a command (R319): one message to each position, and the deadline. -/
def State.startRelay (s : State) (sp : CmdSpec) (r : Running) (own : Option Reply) (targets : List Nat) : State :=
  let rel : Relay :=
    { broadcast := r.cmd.target = 0xFFFF
      targets := targets
      sentAt := s.now
      deadline := s.now + s.lcl.relayTimeoutMs * Config.ms + sp.longest r.cmd.payload }
  { s with
    lcl := { s.lcl with sent := s.lcl.sent ++ targets.map (fun p => ⟨p, 0, relayBytes (r.cmd.toRelay own)⟩) }
    cmd := s.cmd.setPhase r.order (.relayed own rel) }

/-- Finish a command that ran here alone. -/
def State.finish (e : CmdEffect) (r : Running) : State :=
  if e.defer then { e.state with cmd := e.state.cmd.setPhase r.order (.deferred e.reply) }
  else e.state.respond r e.reply

/-- A command's own effect here has been computed from the state `s`: it is answered or deferred where nothing is relayed,
and otherwise its relay starts (R319). -/
def State.close (s : State) (sp : CmdSpec) (r : Running) (e : CmdEffect) : State :=
  let targets := s.relayTargets sp r
  if e.reply.status != Status.ok || targets.isEmpty || (e.defer && sp.relayLater) then State.finish e r
  else e.state.startRelay sp r (some e.reply) targets

/-- A command on a state (R319, R403, R408): the envelope checks, then its own effect here, then its relay. -/
def State.execute (s : State) (sp : CmdSpec) (body : Running → State → CmdEffect) (r : Running) : State :=
  match s.envelopeCheck sp r with
  | some st => s.respond r ⟨st, []⟩
  | none => if s.runsHere r then s.close sp r (body r s) else s.startRelay sp r none (s.relayTargets sp r)

/-- One row of the command table: SYSC starts the next command it has taken, when it is this one. -/
def runCommand (sp : CmdSpec) (body : Running → State → CmdEffect) (s : State) :
    Host.Outcome State Fault Refusal :=
  match s.nextCommand with
  | some r => if r.cmd.opcode = sp.opcode then .next (s.execute sp body r) else .next s
  | none => .next s

/-! ### Non-volatile record writes (R405, R483) -/

/-- A non-volatile write may start: the reading lies from 0 to 100 degree C. -/
def State.nvTempOk (s : State) : Bool := inRangeZ 0 s.thermal.tj 10000

/-- Queue one record write. -/
def State.nvEnqueue (s : State) (j : NvJob) : State := { s with nv := { s.nv with queue := s.nv.queue ++ [j] } }

/-- A write of the device's own: skipped outside the temperature range (R483). -/
def State.nvOwnWrite (s : State) (rec : NvRecord) (data : List Byte) : State :=
  if s.nvTempOk then s.nvEnqueue { record := rec, data := data } else s

end Sys2Proof.Machine
end

