-- ==== Sys2Proof/Machine/Shared.lean ====
section
/-!
DEFINITION. Operations that several chapters share: resets, time becoming invalid, aborts.
-/

namespace Sys2Proof.Machine

open Sys2Proof

/-- The temperature band of a reading (R342, R484): 0 COLD below 0, 1 MID to 70, 2 HOT above 70 degree C. -/
def bandOf (tj : Int) : Nat := if tj < 0 then 0 else if tj ≤ 7000 then 1 else 2

/-- Every domain except Dawn at its reset values (R34). What survives: Dawn, non-volatile memory, fuses, the levels of
input balls, host memory, local time, the queue of commands, the model's free count, and the record of what left the
device. Channels that were running end RESET (R374). -/
def State.domainReset (s : State) : State :=
  { ({} : State) with
    now := s.now
    pending := s.pending
    free := s.free
    hostMem := s.hostMem
    dawn := s.dawn
    nv := { s.nv with writer := .idle, queue := [], bad := [] }
    fuses := s.fuses
    pins := { pwrGood := s.pins.pwrGood, resetL := s.pins.resetL, wakeLow := s.pins.wakeLow }
    dma := s.dma.filterMap (fun p => if p.2.state = .idle then none else some (p.1, { endCause := 5 }))
    host := { sent := s.host.sent }
    fh := { sent := s.fh.sent }
    lcl := { sent := s.lcl.sent, words := s.lcl.words } }

/-- The boot ROM starts: stage STRAPS, the device time counter at zero (R434, R488). -/
def State.startRom (s : State) : State :=
  { s with
    boot := { s.boot with stage := 0x01, releasedAt := s.now, gridAt := s.now, watchdogAt := s.now }
    time := { s.time with base := 0, baseAt := s.now } }

/-- A reset from inside, "as RESET_L does" (R382, R357, R409): the straps stay as sampled (R26), the cause is Dawn's record
where the rule gives one, and the boot ROM starts. -/
def State.internalReset (s : State) (cause : Option Nat) : State :=
  let r := s.domainReset
  let faults :=
    match cause with
    | some 0x04 => []
    | _ => s.dawn.faultBoots
  ({ r with
    boot := { r.boot with role := s.boot.role, bootsrc := s.boot.bootsrc }
    dawn := { s.dawn with
      power := .boot
      faultBoots := faults
      entryWake := none
      bootCause := match cause with | some c => BitVec.ofNat 8 c | none => s.dawn.bootCause } }).startRom

/-- Owner identifier of a unit: class in bits [15:8], index in [7:0]. -/
def ownerId (cls idx : Nat) : Nat := 256 * cls + idx

/-- Class of an owner identifier. -/
def ownerClass (o : Nat) : Nat := o / 256 % 256
/-- Index of an owner identifier. -/
def ownerIndex (o : Nat) : Nat := o % 256

/-- What is known of a unit. -/
def State.fabUnit (s : State) (o : Nat) : FabUnit := Tab.get s.fab.units o {}

/-- Replace what is known of a unit. -/
def State.setUnit (s : State) (o : Nat) (u : FabUnit) : State :=
  { s with fab := { s.fab with units := Tab.set s.fab.units o u } }

/-- The unit that serves an engine index: its own, or the spare that replaced it (R504). -/
def State.engineUnit (s : State) (e : Nat) : Nat := Tab.get s.spare.engineMap e e

/-- The engine index that a physical engine serves; none for a spare not in service and for a unit that was replaced. -/
def State.engineServed (s : State) (u : Nat) : Option Nat :=
  match List.find? (fun (x : Nat × Nat) => x.2 == u) s.spare.engineMap with
  | some x => some x.1
  | none => if u < 32 ∧ (Tab.find? s.spare.engineMap u).isNone then some u else none

/-- An engine contributes no free contexts: drained, being reset, or held out (R353, R355, R508). -/
def State.engineOut (s : State) (e : Nat) : Bool :=
  let u := s.fabUnit (ownerId 3 (s.engineUnit e))
  s.spare.drained.contains e || u.restarting.isSome || u.heldOut

/-- Bytes of the packet pool (Table STR-4). -/
def poolSize : Nat := 0x60_0000

/-- Free bytes in the packet pool. -/
def State.poolFree (s : State) : Nat := poolSize - s.dmd.pool.foldl (fun n r => n + r.2.length) 0

/-! ### Calibration runs (R286) -/

/-- One kind. -/
def Cal.kind (c : Cal) (k : Nat) : CalKind := Tab.get c.kinds k {}

/-- Change one kind. -/
def State.setKind (s : State) (k : Nat) (f : CalKind → CalKind) : State :=
  { s with cal := { s.cal with kinds := Tab.set s.cal.kinds k (f (s.cal.kind k)) } }

/-- A kind may be run by the supervisor. -/
def Cal.auto (c : Cal) (k : Nat) : Bool := c.autoMask.getLsbD k

/-- Start runs of kinds over paths: those of AUTO_MASK, or those a host names. A kind that runs goes on under its run. -/
def State.startRuns (s : State) (cause : Nat) (kinds : List Nat) (paths : Mask64) (activeSyn : Bool) : State :=
  kinds.foldl (fun s k =>
    if (cause = 2 ∨ s.cal.auto k) ∧ (s.cal.kind k).run.isNone then
      s.setKind k (fun c => { c with ran := true,
                                     run := some { cause := cause, paths := paths, activeSyn := activeSyn, usefulAt := s.now } })
    else s) s

end Sys2Proof.Machine
end

