-- ==== Sys2Proof/Machine/Timing.lean ====
section
/-!
DEFINITION. Instants: the sample grids since the release of RESET_L (R124, R239), TS64 fields of commands, the time-base rules
of R540, and the instants of a burst (Tables PATH-2 and ARCH-3).
-/

namespace Sys2Proof.Machine

open Sys2Proof

/-! ### Grids and scheduled instants -/

/-- The first sample of period `g` at or after local instant `t`; samples count from the release of RESET_L (R124, R314). -/
def State.sampleAt (s : State) (t g : Nat) : Nat :=
  let r := s.boot.gridAt
  if t ≤ r then r else r + ((t - r + g - 1) / g) * g

/-- The first sample of period `g` after now: the earliest that an immediate command reaches. -/
def State.nextSample (s : State) (g : Nat) : Nat := s.sampleAt (s.now + 1) g

/-- A TS64 field of a payload in device-time units. The 32 bits of seconds stand for the time nearest to the present one. -/
def State.instantOf (s : State) (p : List Byte) (o : Nat) : Int :=
  let nowS : Int := (s.deviceNow).ediv Config.sec
  let lo : Int := (u32 p o : Int)
  let d := (lo - nowS).emod (2 ^ 32)
  let d' := if d < 2 ^ 31 then d else d - 2 ^ 32
  (nowS + d') * Config.sec + ((u32 p (o + 4) % 2 ^ 30 : Nat) : Int) * Config.ns

/-- An instant lies inside the lead that a command needs: less than `lead` after it reached SYSC (R402, R540 item 3). -/
def State.tooSoon (s : State) (r : Running) (d : Int) (lead : Nat) : Bool :=
  decide (d < s.time.deviceAt (r.reached + lead))

/-- The sample at which a command acts (R540 items 3 and 4): immediate or inside the lead, the earliest that can be reached. -/
def State.dueInstant (s : State) (r : Running) (imm : Bool) (d : Int) (lead g : Nat) : Nat :=
  if imm || s.tooSoon r d lead then s.nextSample g else s.sampleAt (s.time.localOf d) g

/-- The usual lead of R540. -/
def lead100 : Nat := 100 * Config.us

/-! ### The trigger bus (R316, R317) -/

/-- The manager sends a word from `t` on: it takes the first word slot after the words already sent. Answers the start edge. -/
def State.sendWord (s : State) (code t : Nat) : Nat × State :=
  let slot := 8 * Config.masterClock
  let free := s.lcl.words.foldl (fun m w => Nat.max m (w.2 + slot)) 0
  let start := Nat.max (s.sampleAt (Nat.max t s.now) Config.masterClock) free
  (start, { s with lcl := { s.lcl with words := s.lcl.words ++ [(code, start)] } })

/-- A timed word of the manager: its start edge, and the action 1.000 us later on this device too. -/
def State.sendTimed (s : State) (code t : Nat) : Nat × State :=
  let w := s.sendWord code t
  let due := w.1 + Config.us
  (due, { w.2 with lcl := { w.2.lcl with actions := w.2.lcl.actions ++ [{ code := code, due := due }] } })

/-! ### Bursts -/

/-- L, or L2 once decided, as a local instant on the master clock. -/
def State.launchAt (s : State) (b : Launch) : Nat :=
  match b.fixed with
  | some t => t
  | none => s.sampleAt (s.time.localOf b.device) Config.masterClock

/-- Tr in time units. -/
def Launch.tr (b : Launch) : Nat := b.rampTenths * (Config.us / 10)

/-- TRSW_LEAD, TRSW_LAG and RX_BLANK in time units, as they stand for a burst (R72). -/
def State.lineTimes (s : State) (b : Launch) : Nat × Nat × Nat :=
  match b.lines with
  | some (lead, lag, blank, _) => (lead, lag, blank)
  | none =>
    let u := Config.us / 10
    (s.path.trswLead * u, s.path.trswLag * u, s.path.rxBlank * u)

/-- t0 of Table PATH-2. -/
def State.t0 (s : State) (b : Launch) : Nat := s.launchAt b - (s.lineTimes b).1

/-- E: the last frame sample. -/
def State.frameEnd (s : State) (b : Launch) : Nat := s.launchAt b + b.tr + b.frame

/-- t4: the end of the ramp-down, which an abort shortens to the lesser of Tr and 4 us (R74). -/
def State.t4 (s : State) (b : Launch) : Nat :=
  match b.downAt, b.abort with
  | some d, some _ => d + Nat.min b.tr (4 * Config.us)
  | some d, none => d + b.tr
  | none, _ => s.frameEnd b + b.tr

/-- t5 of Table PATH-2. -/
def State.t5 (s : State) (b : Launch) : Nat := s.t4 b + (s.lineTimes b).2.1

/-- A burst lies between its launch and t4. -/
def TxPhase.radiating : TxPhase → Bool
  | .frame | .rampDown => true
  | _ => false

/-- The launch has been decided and t4 has not come (R109, R113). -/
def TxPhase.committed : TxPhase → Bool
  | .decided | .granted | .frame | .rampDown => true
  | _ => false

/-- Some burst is in progress. -/
def State.burstInProgress (s : State) : Bool := s.tx.queue.any (fun b => b.phase.radiating)

/-- The quadrants that take part in a burst launched with the present transmit mask (R71). -/
def State.quadrants (s : State) : BitVec 4 := quadrantsOf s.path.txMask

/-- A burst is in progress on path k. -/
def State.burstOnPath (s : State) (k : Nat) : Bool := s.burstInProgress && s.path.txMask.getLsbD k

/-- The device receives: radio state RX. -/
def State.receiving (s : State) : Bool := s.radio.state == .rx

/-! ### Protected intervals (R111, R113) -/

/-- The protected interval of a burst: L − 23 us to t5 + 10 us. -/
def State.protectedSpan (s : State) (b : Launch) : Span :=
  { start := s.launchAt b - 23 * Config.us, stop := s.t5 b + 10 * Config.us }

/-- A disturbance scheduled at `since` may not start at `t` because of this burst: it was accepted earlier, or its launch is
decided. -/
def State.protects (s : State) (b : Launch) (since t : Nat) : Bool :=
  let p := s.protectedSpan b
  if b.phase.committed then decide (t < p.stop)
  else decide (b.admittedAt < since) && decide (p.start ≤ t) && decide (t < p.stop)

/-- The first instant from `t` on that no burst protects, passing through at most `n` intervals. -/
def State.clearFrom (s : State) (since : Nat) : Nat → Nat → Nat
  | 0, t => t
  | n + 1, t =>
    match s.tx.queue.find? (fun b => s.protects b since t) with
    | none => t
    | some b => s.clearFrom since n (s.protectedSpan b).stop

/-- When a disturbance of the LO tree scheduled at `since` may start, from `t` on (R111). -/
def State.disturbAt (s : State) (since t : Nat) : Nat :=
  s.clearFrom since s.tx.queue.length (Nat.max t s.tx.guardUntil)

/-! ### Counts by path -/

/-- Counts of paths grow by some samples; each stops at 65,535 (R66, R125). -/
def countUp (more : List (Nat × Nat)) (t : Tab Nat) : Tab Nat :=
  more.foldl (fun t p => Tab.set t p.1 (Nat.min 65535 (Tab.get t p.1 0 + p.2))) t

/-! ### Flagged samples -/

/-- Two spans overlap. -/
def overlaps (a b : Span) : Bool := decide (a.start < b.stop) && decide (b.start < a.stop)

/-- The span of an LO gap or a switch, and of receive blanking around bursts, that overlaps `x` (R73, R108): any of them. -/
def State.blankedIn (s : State) (x : Span) : Bool :=
  s.radio.blanked.any (overlaps x) || s.tx.blanked.any (fun p => overlaps x p.2) ||
    (match s.radio.gapSince with | some t => decide (t < x.stop) | none => false) ||
    s.tx.queue.any (fun b => match b.lines with
      | some (lead, _, _, q) => q != 0#4 && decide (s.launchAt b - lead < x.stop)
      | none => false) ||
    s.tx.tails.any (fun t => t.quadrants != 0#4 && decide (x.start < t.t6))

/-- The largest tap count of the receive sets in use (R60). -/
def State.maxRxTaps (s : State) : Nat :=
  (List.range 64).foldl (fun n p => Nat.max n (Tab.get s.filt.rx.sets (Tab.get s.filt.rx.member p 0) {}).taps) 1

end Sys2Proof.Machine
end

