-- ==== Sys2Proof/Machine/BeamOps.lean ====
section
/-!
DEFINITION. What several chapters do to contexts and beams: aborting receptions (R211), grid weights and neighbours (R146, R147),
renormalisation, internal swaps (R153), combining modes (R157) and the retirement of a path (R158, R511).
-/

namespace Sys2Proof.Machine

open Sys2Proof

/-! ### Aborting receptions (R211) -/

/-- A context is active: it holds its slot. -/
def Context.active (c : Context) : Bool := c.state != .ended

/-- CENTRE_FREQ_HZ: the bin's centre (R9) at the LO of the SFD: LO − 19.2 MHz + (bin + 1/2) · 100 kHz. -/
def Context.centreHz (x : Context) : Nat := x.loHz + x.bin * 100000 + 50000 - 19200000

/-- One profile's counters of Table DMD-9. -/
def State.dmdCount (s : State) (p : Nat) (f : DmdCounts → DmdCounts) : State :=
  { s with dmd := { s.dmd with counts := Tab.set s.dmd.counts p (f (Tab.get s.dmd.counts p {})) } }

/-- End every active context that `sel` picks, without a record; EV_DMD_ABORT once, if one ended. -/
def State.abortContexts (s : State) (sel : Nat → Bool) (cause engine : Nat) : State :=
  let hit := s.dmd.contexts.filter (fun p => sel p.1 && p.2.active)
  if hit.isEmpty then s
  else
    let s := { s with dmd := { s.dmd with
      contexts := Tab.mapVals s.dmd.contexts (fun k c => if sel k && c.active then { c with state := .ended } else c) } }
    let s := hit.foldl (fun s p => s.dmdCount p.2.profileIx (fun c => { c with aborted := wrapAdd 32 c.aborted 1 })) s
    s.raiseEvent 0x0602 .notice (le 1 cause ++ le 1 engine ++ le 2 hit.length ++ zeros 4 ++ s.ts64Bytes s.now)

/-- All contexts end: an acquisition or a switch (cause 0), or receive stopping (cause 1). -/
def State.abortReceptions (s : State) (cause : Nat) : State := s.abortContexts (fun _ => true) cause 0xFF

/-- The contexts of logical engine e end (cause 2). -/
def State.abortEngine (s : State) (e : Nat) : State := s.abortContexts (fun c => c / 32 == e) 2 e

/-! ### Grid weights (R145, R146) -/

/-- The unit vector of a direction in 0.01 degree, scaled by 2^60. -/
def unitVector (az el : Int) : Int × Int × Int :=
  let turn := fun (v : Int) => (v * 2 ^ 32).ediv 36000
  let ce := fxCos (turn el)
  (fxMul ce (fxCos (turn az)), fxMul ce (fxSin (turn az)), fxSin (turn el))

/-- F · (k · r) / c as an angle of 2^32 per turn, for r in 10 um. -/
def arrivalAngle (freqHz : Nat) (k r : Int × Int × Int) : Int :=
  let dot := k.1 * r.1 + k.2.1 * r.2.1 + k.2.2 * r.2.2
  roundDiv (dot * freqHz) (299792458 * 100000 * 2 ^ 28)

/-- Squared distance times n² of an element from the centroid of the n present elements. -/
def centroidDist (geo : Tab (Int × Int × Int)) (r : Int × Int × Int) : Nat :=
  let n : Int := geo.length
  let sum := geo.foldl (fun (a : Int × Int × Int) e => (a.1 + e.2.1, a.2.1 + e.2.2.1, a.2.2 + e.2.2.2)) (0, 0, 0)
  let x := n * r.1 - sum.1
  let y := n * r.2.1 - sum.2.1
  let z := n * r.2.2 - sum.2.2
  (x * x + y * y + z * z).toNat

/-- Taper A of an element, scaled by 2^60. -/
def taper (geo : Tab (Int × Int × Int)) (hann : Bool) (r : Int × Int × Int) : Int :=
  if !hann then fxOne
  else
    let dmax := geo.foldl (fun m e => Nat.max m (centroidDist geo e.2)) 0
    if dmax = 0 then fxOne
    else
      let d := isqrt (centroidDist geo r * 2 ^ 32)
      let m := isqrt (dmax * 2 ^ 32)
      -- pi d / (1.1 dmax) is d / (2.2 dmax) of a turn
      (fxOne + fxCos (((d * 10 * 2 ^ 32 : Nat) : Int).ediv (22 * m))).ediv 2

/-- A scaled value times 2^14, rounded convergently. -/
def toQ14 (v : Int) : Int := roundShift v 46

/-- The grid weight of one element: round(16,384 · A · exp(−jφ)). -/
def gridWeight (b : GridBasis) (hann : Bool) (k r : Int × Int × Int) : Cplx :=
  let a := taper b.geometry hann r
  let ph := arrivalAngle b.freqHz k r
  ⟨toQ14 (fxMul a (fxCos ph)), -(toQ14 (fxMul a (fxSin ph)))⟩

/-- The 64 grid weights of this device (cascade position `pos`) for a grid direction; zeros without geometry or direction. -/
def gridWeights (b : GridBasis) (hann : Bool) (pos index : Nat) : List Cplx :=
  match Tab.find? b.grid index with
  | none => List.replicate 64 Cplx.zero
  | some dir =>
    let k := unitVector dir.1 dir.2
    (List.range 64).map (fun p =>
      match Tab.find? b.geometry (64 * pos + p) with
      | none => Cplx.zero
      | some r => gridWeight b hann k r)

/-- The definition of receive beam b in force. -/
def BeamUnit.defOf (u : BeamUnit) (b : Nat) : BeamDef := Tab.get u.beams b { gridIndex := b }

/-- A source has a grid direction (R144). -/
def RxSource.onGrid : RxSource → Bool
  | .grid | .mvdr | .zf => true
  | _ => false

/-- The active LO in Hz, zero where the active synthesiser was never given a frequency. -/
def State.loHz (s : State) : Nat :=
  match (Tab.get s.radio.syn s.radio.active {}).setting with
  | some x => x.freqHz
  | none => 0

/-- What GRID weights would be computed from now. -/
def State.gridBasis (s : State) : GridBasis :=
  { geometry := s.beam.geometry, grid := s.beam.grid,
    freqHz := if s.beam.fKHz = 0 then s.loHz else s.beam.fKHz * 1000 }

/-- Start a recomputation of the GRID weights (R146). -/
def State.recomputeGrid (s : State) : State := { s with beam := { s.beam with recomputing := some s.now } }

/-! ### Neighbours (R147) -/

/-- |Σ A² exp(j2πF((k_j − k_i)·r)/c)|² and (Σ A²)², scaled alike. -/
def correlation (b : GridBasis) (hann : Bool) (ki kj : Int × Int × Int) : Nat × Nat :=
  let dk := (kj.1 - ki.1, kj.2.1 - ki.2.1, kj.2.2 - ki.2.2)
  let acc := b.geometry.foldl (fun (a : Int × Int × Int) e =>
    let w := taper b.geometry hann e.2
    let w2 := fxMul w w
    let ph := arrivalAngle b.freqHz dk e.2
    (a.1 + fxMul w2 (fxCos ph), a.2.1 + fxMul w2 (fxSin ph), a.2.2 + w2)) (0, 0, 0)
  ((acc.1 * acc.1 + acc.2.1 * acc.2.1).toNat, (acc.2.2 * acc.2.2).toNat)

/-- Insert by falling value, ties by rising index. -/
def rankInsert (x : Nat × Nat) : List (Nat × Nat) → List (Nat × Nat)
  | [] => [x]
  | y :: r => if x.2 > y.2 ∨ (x.2 = y.2 ∧ x.1 < y.1) then x :: y :: r else y :: rankInsert x r

/-- The neighbour list of receive beam i. -/
def State.neighbours (s : State) (i : Nat) : List Nat :=
  let d := s.beam.defOf i
  if d.neighCount ≠ 0xFF then d.neigh.take d.neighCount
  else if !d.source.onGrid then []
  else
    let b := s.beam.gridStaged
    match Tab.find? b.grid d.gridIndex with
    | none => []
    | some di =>
      let ki := unitVector di.1 di.2
      let cand := (List.range 64).filterMap (fun j =>
        let dj := s.beam.defOf j
        if j = i || !dj.source.onGrid then none
        else match Tab.find? b.grid dj.gridIndex with
          | none => none
          | some dir =>
            let c := correlation b d.hann ki (unitVector dir.1 dir.2)
            if 4 * c.1 ≥ c.2 ∧ 0 < c.2 then some (j, c.1) else none)
      ((cand.foldl (fun l x => rankInsert x l) []).take 8).map (fun x => x.1)

/-! ### Saturation counts (R66, R125, R141, R159) -/

/-- The entry with the most saturations, the first of equals. -/
def mostOf (l : List (Nat × Nat)) : Nat × Nat := l.foldl (fun m p => if p.2 > m.2 then p else m) (0, 0)

/-- EV_BEAM_SATURATION for the beam, or the path of the precoder, with the most saturations; at most once per second. -/
def State.saturationEvent (s : State) (unit stage count : Nat) : State :=
  let told := match s.beam.satEventAt with | some t => decide (s.now < t + Config.sec) | none => false
  if told then s
  else ({ s with beam := { s.beam with satEventAt := some s.now } }).raiseEvent 0x0403 .warn
    (le 1 unit ++ le 1 stage ++ leSat 2 count ++ zeros 12)

/-- The receive saturations of a window are counted. -/
def State.countRx (s : State) (x : WindowStats) : State :=
  let beams := x.beamSats.map (fun p => (p.1, p.2.1 + p.2.2))
  let top := mostOf beams
  let s := { s with
    filt := { s.filt with rxSat := countUp x.rxSats s.filt.rxSat }
    beam := { s.beam with satBeam := countUp beams s.beam.satBeam } }
  if top.2 = 0 then s
  else
    let stage := match x.beamSats.find? (fun p => p.1 == top.1) with
      | some p => if p.2.2 > p.2.1 then 1 else 0
      | none => 0
    s.saturationEvent top.1 stage (Tab.get s.beam.satBeam top.1 0)

/-- The transmit saturations of a burst are counted, of the paths that took part. -/
def State.countTx (s : State) (x : BurstStats) : State :=
  let mine := fun (p : Nat × Nat) => s.path.txMask.getLsbD p.1
  let top := mostOf (x.precoderSats.filter mine)
  let s := { s with
    path := { s.path with txClip := countUp (x.clips.filter mine) s.path.txClip }
    filt := { s.filt with txSat := countUp (x.txSats.filter mine) s.filt.txSat }
    beam := { s.beam with satPre := countUp (x.precoderSats.filter mine) s.beam.satPre }
    dpd := { s.dpd with paths := (x.dpdSats.filter mine).foldl (fun t p =>
      let d := Tab.get t p.1 {}
      Tab.set t p.1 { d with sat := Nat.min 65535 (d.sat + p.2) }) s.dpd.paths } }
  if top.2 = 0 then s else s.saturationEvent top.1 2 (Tab.get s.beam.satPre top.1 0)

/-! ### Renormalisation (R158) -/

/-- Magnitude of a weight, scaled by 2^16. -/
def cplxMag (c : Cplx) : Nat := isqrt ((c.i * c.i + c.q * c.q).toNat * 2 ^ 32)

/-- Larger of the absolute components. -/
def cplxPeak (c : Cplx) : Nat := Nat.max c.i.natAbs c.q.natAbs

/-- Weights with the paths of `out` zeroed. -/
def zeroPaths (out : Mask64) (w : List Cplx) : List Cplx :=
  (List.range w.length).zip w |>.map (fun (p : Nat × Cplx) => if out.getLsbD p.1 then Cplx.zero else p.2)

/-- A weight times n / d, rounded convergently. -/
def cplxScale (c : Cplx) (n d : Nat) : Cplx := ⟨roundDiv (c.i * n) d, roundDiv (c.q * n) d⟩

/-- A vector scaled down until its largest component is ±32,767, and the shortfall in 0.01 dB. -/
def fitBeam (w : List Cplx) : List Cplx × Nat :=
  let m := w.foldl (fun m c => Nat.max m (cplxPeak c)) 0
  if m ≤ 32767 then (w, 0) else (w.map (fun c => cplxScale c 32767 m), (centiDb (m * m) (32767 * 32767)).toNat)

/-- Renormalisation of a GRID or EXPLICIT beam without the paths of `out`: the vector and its shortfall. -/
def renormalise (out : Mask64) (w : List Cplx) : List Cplx × Nat :=
  let all := w.foldl (fun n c => n + cplxMag c) 0
  let kept := zeroPaths out w
  let rest := kept.foldl (fun n c => n + cplxMag c) 0
  if rest = 0 ∨ rest = all then (kept, 0) else fitBeam (kept.map (fun c => cplxScale c all rest))

/-- Paths that renormalisation leaves out of the receive beams: retired from receive, or with a failed slice. -/
def State.rxOut (s : State) : Mask64 := s.spare.rxRetired ||| s.spare.sliceFailed ||| s.spare.sliceLost

/-! ### Swaps (R151 to R155) -/

/-- The device works in a running cascade. -/
def State.inCascade (s : State) : Bool :=
  (s.role == .manager && !s.joinedWorkers.isEmpty) || (s.isWorker && s.lcl.joined)

/-- Schedule an internal swap of a cause (bit of EV_BEAM_SWAP) at or after `t` (R153): it joins a pending internal swap, or a
pending host swap whose freeze point and instant enclose it. -/
def State.internalSwapAt (s : State) (cause t : Nat) : State :=
  let t := s.sampleAt t Config.outSample
  let u := s.beam
  match u.internal with
  | some w => { s with beam := { u with internal := some { w with cause := w.cause ||| cause } } }
  | none =>
    match u.host with
    | some h =>
      if h.instant - 20 * Config.us ≤ t ∧ t ≤ h.instant then
        { s with beam := { u with host := some { h with cause := h.cause ||| cause } } }
      else { s with beam := { u with internal := some { instant := t, scheduled := false, cause := cause } } }
    | none => { s with beam := { u with internal := some { instant := t, scheduled := false, cause := cause } } }

/-- An internal swap decided now. -/
def State.internalSwap (s : State) (cause : Nat) : State :=
  s.internalSwapAt cause (s.now + (if s.inCascade then 200 else 100) * Config.us)

/-- Receive beams whose active weight on a path of `m` is not zero. -/
def State.beamsUsing (s : State) (m : Mask64) : Mask64 :=
  maskOf 64 ((s.beam.weights.filter (fun p =>
    (bitsOf m).any (fun k => p.2.getD k Cplx.zero != Cplx.zero))).map (fun p => p.1))

/-- Zero the slices of the paths of `m` in the active weights, and note the change (R156, R158). -/
def State.zeroSlices (s : State) (m : Mask64) : State :=
  { s with beam := { s.beam with
    changes := (s.now, s.beamsUsing m) :: s.beam.changes
    weights := s.beam.weights.map (fun (p : Nat × List Cplx) => (p.1, zeroPaths m p.2)) } }

/-- Renormalisation falls due at the next swap, or at one of cause RETIRE after 1 ms (R158). -/
def State.renormLater (s : State) (m : Mask64) : State :=
  let s := { s with beam := { s.beam with renormRx := s.beam.renormRx ||| m } }
  if s.beam.host.isSome || s.beam.internal.isSome then s else s.internalSwapAt 8 (s.now + Config.ms)

/-! ### Combining (R157) -/

/-- A change of the combining mode scales every noise estimate by the ratio of the chain's Σ|W·C|² to the manager's own, beam by
beam (R182). The workers' part is not the manager's to know, so each ratio is a free value (in 1/65,536). -/
def State.freeNoiseScale (s : State) : State :=
  let n := s.free
  { s with
    free := n + 64
    hzn := { s.hzn with noise := Tab.mapVals s.hzn.noise (fun k v => v * Config.freeNat (n + k / 384) / 65536) } }

/-- The manager enters own-only, at an acquisition counted under R107 anywhere in the chain; coherence is pending. -/
def State.enterOwnOnly (s : State) : State :=
  if s.role != .manager then s
  else
    let s := if s.beam.ownOnly then s else s.freeNoiseScale
    let s := { s with
      beam := { s.beam with
        ownOnly := true, ownFrom := if s.beam.ownOnly then s.beam.ownFrom else s.now
        changes := if s.beam.ownOnly then s.beam.changes else (s.now, BitVec.allOnes 64) :: s.beam.changes }
      cal := { s.cal with
        xdevConverged := false, xdevPackets := 0
        disturbedAt := s.now
        xdev := s.cal.xdev.map (fun (p : Nat × XdevEstimate) => (p.1, { factor := p.2.factor })) } }
    let s := s.startRuns 3 [9] 0#64 false
    s.raiseEvent 0x0904 .notice (b8 false ++ le 1 1 ++ leSat 2 0xFFFF ++ le 4 0 ++ s.ts64Bytes s.now)

/-- The manager was own-only at some sample of the span. -/
def State.ownOnlyIn (s : State) (x : Span) : Bool :=
  (s.beam.ownOnly && decide (s.beam.ownFrom < x.stop)) || s.beam.ownSpans.any (overlaps x)

/-- One count of ACQ_COUNT (R107), with what follows in a chain (R157). -/
def State.countAcquisition (s : State) : State :=
  let s := { s with
    radio := { s.radio with acqCount := wrapAdd 16 s.radio.acqCount 1 }
    cal := { s.cal with disturbedAt := s.now } }
  s.enterOwnOnly

/-! ### Retirement (R158, R511) -/

/-- The service record is written, or put off by the temperature (R483, R511). -/
def State.writeServiceRecord (s : State) : State :=
  if s.nvTempOk then (s.nvEnqueue { record := .serviceRecord }) else { s with spare := { s.spare with recordDue := true } }

/-- One EV_SPARE_PATH_RETIRED: direction bits, state and cause. -/
def State.pathRetiredEvent (s : State) (p dir state cause : Nat) : State :=
  s.raiseEvent 0x0E03 .warn (le 1 p ++ le 1 dir ++ le 1 state ++ le 1 cause ++ zeros 4 ++ s.ts64Bytes s.now)

/-- The captures that paths of `m` have accumulated are discarded (R263). -/
def State.discardCaptures (s : State) (m : Mask64) : State :=
  { s with dpd := { s.dpd with paths := Tab.mapVals s.dpd.paths (fun p d => if m.getLsbD p then { d with captures := 0 } else d) } }

/-- Retire the paths of `m` in the directions of `dir` (bit 0 receive, bit 1 transmit). A path already retired in a direction
stays so. -/
def State.retirePaths (s : State) (m : Mask64) (dir cause : Nat) : State :=
  let rx := if dir % 2 = 1 then m &&& ~~~s.spare.rxRetired else 0#64
  let tx := if dir / 2 % 2 = 1 then m &&& ~~~s.spare.txRetired else 0#64
  if rx = 0#64 ∧ tx = 0#64 then s
  else
    let s := { s with spare := { s.spare with
      rxRetired := s.spare.rxRetired ||| rx, txRetired := s.spare.txRetired ||| tx } }
    let s := if rx = 0#64 then s
      else (({ s with path := { s.path with
          rxMask := s.path.rxMask &&& ~~~rx, settling := s.path.settling.filter (fun p => !rx.getLsbD p.1) } }).zeroSlices
        rx).renormLater rx
    let s := if tx = 0#64 then s else s.discardCaptures tx
    let s := if tx = 0#64 then s
      else if s.burstInProgress then
        { s with
          path := { s.path with txMaskNext := some ((s.path.txMaskNext.getD s.path.txMask) &&& ~~~tx) }
          beam := { s.beam with txZeroNext := s.beam.txZeroNext ||| tx } }
      else { s with
        path := { s.path with txMask := s.path.txMask &&& ~~~tx, txMaskNext := s.path.txMaskNext.map (fun n => n &&& ~~~tx) }
        beam := { s.beam with txWeights := s.beam.txWeights.map (fun (p : Nat × List Cplx) => (p.1, zeroPaths tx p.2)) } }
    let s := s.writeServiceRecord
    (bitsOf (rx ||| tx)).foldl (fun s p =>
      s.pathRetiredEvent p ((if rx.getLsbD p then 1 else 0) + (if tx.getLsbD p then 2 else 0)) 1 cause) s

end Sys2Proof.Machine
end

