-- ==== Sys2Proof/Machine/CalOps.lean ====
section
/-!
DEFINITION. What several chapters do to calibration: sets in force and loaded (R288, R294, R295), staged corrections, triggers
(R286), and the offset of Horizon's noise estimates (R182).
-/

namespace Sys2Proof.Machine

open Sys2Proof

/-! ### Sets (Table CAL-3) -/

/-- Length of a channel set and of a step set. -/
def channelSetLen : Nat := 1664
/-- Length of a step set. -/
def stepSetLen : Nat := 576

/-- A stored set is whole: its length, FORMAT, TYPE and CRC32 are right. -/
def setValid (n typ : Nat) (b : List Byte) : Bool :=
  b.length == n && u16 b 0 == 1 && u8 b 2 == typ && crc32 (b.take (n - 4)) == u32 b (n - 4)

/-- The channel set in force. -/
def Cal.channelBytes (c : Cal) : List Byte := c.channel.getD Config.factoryChannelSet

/-- The step set in force for a gain step. -/
def Cal.stepBytes (c : Cal) (g : Nat) : List Byte := (Tab.find? c.steps g).getD (Config.factoryStepSet g)

/-- A complex value of two signed 16-bit fields. -/
def pairAt (b : List Byte) (o : Nat) : Cplx := ⟨s16 b o, s16 b (o + 2)⟩

/-- Exact complex product. -/
def cplxMul (a b : Cplx) : Cplx := ⟨a.i * b.i - a.q * b.q, a.i * b.q + a.q * b.i⟩

/-- A component rounded convergently by 2^n and kept in 16 bits. -/
def cplxRound (n : Nat) (a : Cplx) : Cplx := ⟨satSym 16 (roundShift a.i n), satSym 16 (roundShift a.q n)⟩

/-- C_p,g = C_BASE,p · DELTA_C_p,g · X_d (R288), Q2.14; DELTA_C at step 15 is unity. -/
def Cal.rxCorr (c : Cal) (p g : Nat) : Cplx :=
  let base := pairAt c.channelBytes (0x30 + 24 * p)
  let delta : Cplx := if g = 15 then ⟨16384, 0⟩ else pairAt (c.stepBytes g) (0x24 + 8 * p)
  cplxRound 28 (cplxMul (cplxMul base delta) c.xd)

/-- T_p with X_d (R292), Q2.14. -/
def Cal.txCorr (c : Cal) (p : Nat) : Cplx := cplxRound 14 (cplxMul (pairAt c.channelBytes (0x34 + 24 * p)) c.xd)

/-- The sets in force are the factory's, with no cross-device factor. -/
def Cal.factory (c : Cal) : Bool := c.channel.isNone && c.steps.isEmpty && c.xd == ⟨16384, 0⟩

/-- Combined sigma of a position in 0.001 degree: (180,000 / pi) / sqrt(Σ 1/σ²); 0xFFFF before any packet. -/
def XdevEstimate.sigma (x : XdevEstimate) : Nat :=
  if x.weight = 0 then 0xFFFF else Nat.min 0xFFFF (isqrt (3282806350 * 65536 / x.weight))

/-- The worst combined sigma. -/
def Cal.worstSigma (c : Cal) : Nat := c.xdev.foldl (fun m p => Nat.max m p.2.sigma) 0

/-- Stage the receive corrections of the sets in force (R291). -/
def State.stageCorr (s : State) : State :=
  { s with beam := { s.beam with
    corrStaged := if s.cal.factory then []
      else (List.range 64).map (fun p => (p, (List.range 16).map (fun g => s.cal.rxCorr p g))) } }

/-- The transmit correction in force of path p. -/
def State.txCorrOf (s : State) (p : Nat) : Cplx :=
  match Tab.find? s.beam.txCorr p with
  | some c => c
  | none => pairAt Config.factoryChannelSet (0x34 + 24 * p)

/-- The receive correction in force of path p at gain step g. -/
def State.rxCorrOf (s : State) (p g : Nat) : Cplx :=
  match Tab.find? s.beam.corr p with
  | some l => l.getD g ⟨16384, 0⟩
  | none => ({} : Cal).rxCorr p g

/-- Kinds that a channel set holds: RX_IQ, RX_BW, TX_LO, TX_IQ, OBS_IL, PATH_MATCH, TX_MATCH. -/
def channelKinds : List Nat := [1, 2, 3, 4, 5, 7, 8]

/-- EV_CAL_SET_INVALID. -/
def State.setInvalid (s : State) (typ idx : Nat) : State :=
  s.raiseEvent 0x0902 .error (le 1 typ ++ zeros 1 ++ le 2 idx ++ zeros 12)

/-- Take the channel set of an entry (R295): the stored set, else the factory's; its corrections are staged. -/
def State.takeChannelSet (s : State) (e : Nat) : State :=
  let rec' := (Tab.find? s.nv.calChannel e).filter (fun b => !b.isEmpty)
  let good := match rec' with
    | some b => setValid channelSetLen 0 b && !s.nv.bad.contains (.calChannel e)
    | none => false
  let s := if rec'.isSome && !good then s.setInvalid 0 e else s
  let s := { s with cal := { s.cal with channel := if good then rec' else none, entry := some e } }
  let s := channelKinds.foldl (fun s k => s.setKind k (fun c => { c with source := if good then 1 else 0 })) s
  s.stageCorr

/-- The staged receive corrections and the transmit corrections of the sets in force take effect (R291, R292). -/
def State.activateCorr (s : State) : State :=
  let s := { s with beam := { s.beam with
    corr := s.beam.corrStaged
    txCorr := if s.cal.factory then [] else (List.range 64).map (fun p => (p, s.cal.txCorr p)) } }
  -- a worker reports its transmit corrections (R251)
  if s.isWorker ∧ s.lcl.joined = true then
    s.toManager 5 (le 1 12 ++ (List.range 64).flatMap (fun p => leS 2 (s.txCorrOf p).i ++ leS 2 (s.txCorrOf p).q))
  else s

/-- Load the channel set of an entry at the start of an acquisition; its corrections wait for a CORRECTION swap. -/
def State.loadChannelSet (s : State) (e : Nat) : State := (s.takeChannelSet e).internalSwap 4

/-- Load the step set of a gain step (R60, R295), alongside its corrections. -/
def State.gainStepSets (s : State) (g : Nat) : State :=
  let rec' := (Tab.find? s.nv.calStep g).filter (fun b => !b.isEmpty)
  let good := match rec' with
    | some b => setValid stepSetLen 1 b && !s.nv.bad.contains (.calStep g)
    | none => false
  let s := if rec'.isSome && !good then s.setInvalid 1 g else s
  let s := { s with cal := { s.cal with
    steps := match (if good then rec' else none) with
      | some b => Tab.set s.cal.steps g b
      | none => Tab.erase s.cal.steps g } }
  let s := s.setKind 0 (fun c => { c with source := if good then 1 else 0 })
  if s.cal.factory && s.beam.corr.isEmpty then s
  else
    -- the corrections of this step are in force from its sample, and in what is staged
    let put := fun (t : Tab (List Cplx)) => (List.range 64).map (fun p =>
      (p, (List.range 16).map (fun k =>
        if k = g then s.cal.rxCorr p g
        else match Tab.find? t p with
          | some l => l.getD k ⟨16384, 0⟩
          | none => ({} : Cal).rxCorr p k)))
    { s with beam := { s.beam with corr := put s.beam.corr, corrStaged := put s.beam.corrStaged } }

/-! ### Triggers (R286) -/

/-- Kinds of a path: all but OBS_IL, SYN and XDEV. -/
def pathKinds : List Nat := [0, 1, 2, 3, 4, 7, 8]

/-- Every enabled path. -/
def State.enabledPaths (s : State) : Mask64 := s.path.rxMask ||| s.path.txMask

/-- Paths newly enabled: their kinds run (R286, cause 4). -/
def State.pathsEnabled (s : State) (m : Mask64) : State :=
  if m = 0#64 then s else s.startRuns 4 pathKinds m false

/-- A cold acquisition: every kind but SYN and XDEV becomes unconverged and runs (R286, cause 3). -/
def State.coldAcquired (s : State) : State :=
  let ks := [0, 1, 2, 3, 4, 5, 7, 8]
  let s := ks.foldl (fun s k => s.setKind k (fun c => { c with converged := false })) s
  s.startRuns 3 ks s.enabledPaths false

/-- Steps that measure while a gain change, an acquisition or a filter apply falls discard their data (R282). -/
def State.discardSteps (s : State) : State :=
  { s with cal := { s.cal with disturbedAt := s.now } }

/-! ### Noise estimates (R182) -/

/-- Scale every noise estimate by a gain difference in 0.01 dB. -/
def State.offsetNoise (s : State) (cdb : Int) : State :=
  let f := pow10 cdb 1000
  { s with hzn := { s.hzn with noise := Tab.mapVals s.hzn.noise (fun _ v => (fxMul v f).toNat) } }

/-- On entry into RX and after an LO gap, detection is suspended for 64 epochs and the estimates restart (R182). -/
def State.suspendDetection (s : State) : State :=
  { s with hzn := { s.hzn with suspended := some 64, suspendSum := [] } }

end Sys2Proof.Machine
end

