-- ==== Sys2Proof/Machine/RadioOps.lean ====
section
/-!
DEFINITION. Radio states and synthesisers as several chapters use them: the LO plan (R97, R98), transitions (R92 to R95),
acquisitions (R99 to R101, R106 to R109), and the effective driver attenuation (R269).
-/

namespace Sys2Proof.Machine

open Sys2Proof

/-- Code of the radio state (Table SYN-7). -/
def RadioState.code : RadioState → Nat
  | .standby => 0 | .loReady => 1 | .rx => 2 | .tx => 3

/-! ### LO plan (R97, R98) -/

/-- D for a frequency in Hz (Table SYN-2). -/
def loDivider (f : Nat) : Option Nat :=
  if inRange 380000000 f 700000000 then some 8
  else if inRange 750000000 f 1400000000 then some 4
  else if inRange 1500000000 f 2700000000 then some 2
  else none

/-- FCW = f · D · 2^24 / 153.6 MHz, rounded convergently. -/
def loFcw (f d : Nat) : Nat := (roundDiv ((f * d * 2 ^ 24 : Nat) : Int) 153600000).toNat

/-- The LO in uHz that an FCW gives: FCW · 153.6 MHz / (D · 2^24). -/
def loMicroHz (fcw d : Nat) : Nat := (roundDiv ((fcw * 153600000 * 1000000 : Nat) : Int) (d * 2 ^ 24)).toNat

/-- The setting for a frequency, where Table SYN-2 has a row for it. -/
def loSetting (f : Nat) (byEntry : Option Nat) (cold : Bool) : Option LoSetting :=
  (loDivider f).map (fun d => { freqHz := f, divider := d, fcw := loFcw f d, byEntry := byEntry, forceCold := cold })

/-- Synthesiser k. -/
def Radio.synth (r : Radio) (k : Nat) : Synth := Tab.get r.syn k {}

/-- Change synthesiser k. -/
def State.setSyn (s : State) (k : Nat) (f : Synth → Synth) : State :=
  { s with radio := { s.radio with syn := Tab.set s.radio.syn k (f (s.radio.synth k)) } }

/-- A synthesiser is in service: active or second (R96). -/
def Radio.inService (r : Radio) (k : Nat) : Bool := k == r.active || r.second == some k

/-- ACTUAL_LO_UHZ of a synthesiser; zero without a setting. -/
def Synth.microHz (y : Synth) : Nat :=
  match y.setting with
  | some x => loMicroHz x.fcw x.divider
  | none => 0

/-! ### Channel entries (R100, R101) -/

/-- The stored bytes of an entry; an entry that was never written reads as zeros. -/
def State.entryBytes (s : State) (k i : Nat) : List Byte := fit 32 ((Tab.find? s.nv.entries (256 * k + i)).getD [])

/-- VALID is 1. -/
def State.entryMarked (s : State) (k i : Nat) : Bool := u8 (s.entryBytes k i) 0x13 == 1

/-- The entry's CRC32 matches. -/
def State.entryWhole (s : State) (k i : Nat) : Bool :=
  let b := s.entryBytes k i
  crc32 (b.take 28) == u32 b 28 && !s.nv.bad.contains (.channelEntry k i)

/-- The entry is valid (R101). -/
def State.entryValid (s : State) (k i : Nat) : Bool := s.entryMarked k i && s.entryWhole k i

/-- The entry that a tune would use: a valid one, or the failing one that it met. -/
def State.entryFor (s : State) (k : Nat) (x : LoSetting) : Option Nat :=
  match x.byEntry with
  | some i => if s.entryMarked k i then some i else none
  | none =>
    let hits := (List.range 256).filter (fun i =>
      (Tab.find? s.nv.entries (256 * k + i)).isSome && s.entryMarked k i && u32 (s.entryBytes k i) 0 == x.freqHz)
    match hits.find? (fun i => s.entryValid k i) with
    | some i => some i
    | none => hits.head?

/-- The die temperature lies within TEMP_WINDOW of TJ_STORED. -/
def State.inTempWindow (s : State) (k i : Nat) : Bool :=
  let d := s.thermal.tj - 100 * s8 (s.entryBytes k i) 0x12
  decide (d.natAbs ≤ 100 * (s.radio.synth k).tempWindow)

/-- How an acquisition would run now: KIND, ENTRY_USED, and an entry found failing (R100, R101). -/
def State.judgeEntry (s : State) (k : Nat) (x : LoSetting) : Nat × Option Nat × Option Nat :=
  if x.forceCold then (1, none, none)
  else match s.entryFor k x with
    | none => (1, none, none)
    | some i =>
      if !s.entryWhole k i then (1, none, some i)
      else if s.inTempWindow k i then (0, some i, none) else (2, none, none)

/-! ### Radio transitions (R92 to R95) -/

/-- Where the device is to go: TX to serve launches, else the base state; LO_READY at most during an LO gap (R108). -/
def State.radioGoal (s : State) : RadioState :=
  let r := s.radio
  match r.base with
  | .standby => .standby
  | .loReady => if r.wantTx && r.gapSince.isNone then .tx else .loReady
  | .rx => if r.gapSince.isSome then .loReady else if r.wantTx then .tx else .rx

/-- The next state on the way: changes without a row in Table SYN-1 go through LO_READY (R93). -/
def nextHop (start goal : RadioState) : RadioState :=
  match start, goal with
  | .standby, _ => .loReady
  | .rx, .standby => .loReady
  | .tx, .standby => .loReady
  | _, g => g

/-- Time in RX ends for the AGC window under way (R62). -/
def PathUnit.leaveRx (q : PathUnit) (t : Nat) : PathUnit :=
  match q.rxSince with
  | none => q
  | some a => { q with rxTime := q.rxTime + (t - Nat.max a q.windowStart), rxSince := none }

/-- Begin the next transition towards the goal, when none is in progress. Receive stops when the device makes for LO_READY or
STANDBY (R211). -/
def State.pursue (s : State) : State :=
  if s.radio.moving.isSome then s
  else
    let g := s.radioGoal
    if s.radio.state = g then s
    else
      let h := nextHop s.radio.state g
      let s := if s.radio.state = .rx then { s with path := s.path.leaveRx s.now } else s
      let s := { s with radio := { s.radio with moving := some h } }
      if (h = .loReady ∨ h = .standby) ∧ s.radio.state ≠ .standby then s.abortReceptions 1 else s

/-- The state `x` is fully in force. -/
def State.arrive (s : State) (x : RadioState) : State :=
  let start := s.radio.state
  let s := { s with radio := { s.radio with state := x, moving := none } }
  match x with
  | .standby =>
    { s with radio := { s.radio with
        syn := Tab.mapVals s.radio.syn (fun _ y => { y with loop := .off })
        gapSince := none, relock := false } }
  | .rx =>
    let s := { s with path := { s.path with rxSince := some s.now } }
    if start = .loReady then s.suspendDetection else s
  | _ => s

/-! ### Acquisitions (R99 to R101, R108) -/

/-- A disturbance is in progress, or the active synthesiser is not locked: the device is not ready for a launch (R113). -/
def State.activeLocked (s : State) : Bool := (s.radio.synth s.radio.active).loop == .locked

/-- Start an acquisition of synthesiser k: entry, CRC32 and temperature are judged now (R101). A relock after an unlock keeps
KIND 3. The active synthesiser opens an LO gap (R108), and its receptions end (R211). -/
def State.acquire (s : State) (k : Nat) (x : LoSetting) (relock : Bool) : State :=
  let j := s.judgeEntry k x
  let s := s.setSyn k (fun y => { y with
    loop := .acquiring, setting := some x, waiting := none, entryUsed := j.2.1
    kind := if relock then 3 else j.1, acqStart := s.now })
  let s := match j.2.2 with
    | some i => s.raiseEvent 0x0207 .warn (le 1 k ++ zeros 1 ++ le 2 i ++ zeros 12)
    | none => s
  if k ≠ s.radio.active then s
  else
    let s := { s with radio := { s.radio with gapSince := some (s.radio.gapSince.getD s.now) } }
    let s := s.abortReceptions 0
    let s := s.discardSteps
    -- a stored entry's channel set is loaded at the start (R295)
    let s := match j.2.1 with
      | some i => s.loadChannelSet i
      | none => { s with cal := { s.cal with entry := none } }
    s.pursue

/-- What a tune by no entry leaves to the supervisor (R286). -/
def State.afterAcquisition (s : State) (k : Nat) : State :=
  if k = s.radio.active ∧ (s.radio.synth k).entryUsed.isNone then s.coldAcquired else s

/-- Put an acquisition off: wanted from `t` on, or at the exit from STANDBY where no instant is given (R96, R111). -/
def State.postpone (s : State) (k : Nat) (x : LoSetting) (since : Nat) (t : Option Nat) : State :=
  s.setSyn k (fun y => { y with waiting := some (x, t), waitingSince := since })

/-- Start an acquisition or postpone it: recorded in STANDBY, put off by protected intervals on the active synthesiser. -/
def State.acquireOrWait (s : State) (k : Nat) (x : LoSetting) (since : Nat) : State :=
  if s.radio.base = .standby ∧ s.radio.state = .standby then s.postpone k x since none
  else if k = s.radio.active then
    if s.disturbAt since s.now = s.now then s.acquire k x false else s.postpone k x since (some s.now)
  else s.acquire k x false

/-! ### Attenuation (R67, R68, R269) -/

/-- Effective driver attenuation of a path in dB. -/
def State.attenOf (s : State) (p : Nat) : Nat :=
  let a := Tab.get s.path.atten p 0
  if s.path.derate.getLsbD p then Nat.min 15 (a + 6) else a

/-- Set the paths in DERATE: in force at once, or at the end of the burst's ramp-down on a path that radiates (R68). -/
def State.setDerate (s : State) (p : Nat) (on : Bool) : State :=
  let upd := fun (m : Mask64) => if on then m ||| bitAt 64 p else m &&& ~~~(bitAt 64 p)
  if s.burstOnPath p then
    { s with path := { s.path with derateNext := some (upd (s.path.derateNext.getD s.path.derate)) } }
  else { s with path := { s.path with derate := upd s.path.derate, derateNext := s.path.derateNext.map upd } }

end Sys2Proof.Machine
end

