-- ==== Sys2Proof/Machine/TxOps.lean ====
section
/-!
DEFINITION. Transmit requests as several chapters use them: the layout and its ranges (Tables TX-1 and TX-2), air time, sub-bands
(R236), weights (R161, R164), levels (R237), duty and off-time (R238 to R241), and the end of a request (R253, R254).
-/

namespace Sys2Proof.Machine

open Sys2Proof

/-! ### Fields in either byte order (R225) -/

/-- 16-bit field, network order when `net`. -/
def f16 (net : Bool) (p : List Byte) (o : Nat) : Nat := if net then beNat p o 2 else u16 p o

/-- 32-bit field. -/
def f32 (net : Bool) (p : List Byte) (o : Nat) : Nat := if net then beNat p o 4 else u32 p o

/-! ### PHY modes (Tables HZN-1 to HZN-3, TX-4) -/

/-- Symbol rate of a SUN FSK RATE. -/
def fskSymbolRate (rate : Nat) : Nat :=
  [2400, 4800, 9600, 19200, 50000, 100000, 150000, 200000, 300000, 100000, 150000, 200000].getD rate 0

/-- The RATE is 4-FSK. -/
def fsk4 (rate : Nat) : Bool := inRange 9 rate 11

/-- MOD_INDEX fits the RATE (R177): 0.25 to 2.50 in steps of 0.05 for 2-FSK, 0.33 for 4-FSK. -/
def modIndexOk (rate h : Nat) : Bool := if fsk4 rate then h == 33 else inRange 25 h 250 && h % 5 == 0

/-- The chip rate in kchip/s of a CHIP_RATE. -/
def chipRate (c : Nat) : Nat := [100, 1000, 2000].getD c 0

/-- MCS accepted by an OFDM option (Table HZN-3), as bits. -/
def ofdmMcs (opt : Nat) : BitVec 7 :=
  if opt = 1 then 0x0F#7 else if opt = 2 then 0x3F#7 else if opt = 3 then 0x7E#7 else if opt = 4 then 0x7C#7 else 0#7

/-- Nominal bandwidth of an OFDM option in Hz. -/
def ofdmBandwidth (opt : Nat) : Nat := [0, 1094000, 552000, 281000, 156000].getD opt 0

/-- B of SUN FSK in Hz (R177), for a modulation index in 0.01. -/
def fskBandwidth (rate h : Nat) : Nat :=
  fskSymbolRate rate * (100 + (if fsk4 rate then 3 * h else h)) / 100

/-- B of Table TX-4 in Hz. -/
def TxRequest.bandwidth (r : TxRequest) : Nat :=
  if r.phy = 0 then fskBandwidth r.mode r.modIndex
  else if r.phy = 1 then chipRate r.mode * 1500
  else ofdmBandwidth r.mode

/-- Octets with the FCS. -/
def TxRequest.octets (r : TxRequest) : Nat := r.psdu.length + (if r.fcs4 then 4 else 2)

/-- Frame duration in time units: uncoded 2-FSK from its bits, the others as the standard gives them. -/
def TxRequest.frameUnits (r : TxRequest) : Nat :=
  if r.phy = 0 ∧ r.fec = false ∧ fsk4 r.mode = false then
    (8 * r.preamble + 32 + 8 * r.octets) * (Config.sec / fskSymbolRate r.mode)
  else
    Config.frameUnits r.phy r.mode r.submode r.scheme ((if r.fec then 1 else 0) + (if r.interleave then 2 else 0))
      r.preamble r.octets

/-! ### The request (Tables TX-1 and TX-2) -/

/-- Kind of a beam entry. -/
def beamKind (k : Nat) : Option BeamKind :=
  if k = 0 then some .grid else if k = 1 then some .mrt else if k = 2 then some .phaseOnly
  else if k = 3 then some .explicit else none

/-- Beam entry i of a request, for a chain of `d` devices; none where a field is out of range. -/
def beamEntry (net : Bool) (p : List Byte) (d phy len i : Nat) : Option BeamEntry :=
  let o := 0x30 + 16 * i
  let level := signed 16 (f16 net p (o + 2))
  let index := f16 net p (o + 4)
  let vec := f16 net p (o + 6)
  match beamKind (u8 p o) with
  | none => none
  | some k =>
    if !inRangeZ (-4000) level (if phy = 2 then -900 else 0) then none
    else match k with
      | .grid => if index ≤ 255 then some { kind := k, level := level, index := index } else none
      | .explicit =>
        if 0x30 ≤ vec ∧ vec + 256 * d ≤ len then
          some { kind := k, level := level, index := 0,
                 vector := (List.range (64 * d)).map (fun j =>
                   ⟨signed 16 (f16 net p (vec + 4 * j)), signed 16 (f16 net p (vec + 4 * j + 2))⟩) }
        else none
      | _ => some { kind := k, level := level, index := index }

/-- All values of a list of options, when each has one. -/
def allSome {α : Type} : List (Option α) → Option (List α)
  | [] => some []
  | none :: _ => none
  | some a :: r => (allSome r).map (fun l => a :: l)

/-- The mode fields lie in their ranges. -/
def TxRequest.modeOk (r : TxRequest) : Bool :=
  if r.phy = 0 then
    decide (r.mode ≤ 11) && decide (r.scheme ≤ 1) && modIndexOk r.mode r.modIndex && inRange 4 r.preamble 1000 &&
      (!r.interleave || r.scheme == 1)
  else if r.phy = 1 then
    decide (r.mode ≤ 2) && decide (r.submode ≤ 3) && decide (r.scheme ≤ 1) &&
      (r.scheme == 0 || (decide (1 ≤ r.mode) && decide (2 ≤ r.submode)))
  else r.phy == 2 && inRange 1 r.mode 4 && decide (r.submode ≤ 6) && (ofdmMcs r.mode).getLsbD r.submode

/-- A request as parsed, for a chain of `d` devices: none where check 1 of Table TX-3 fails. -/
def parseRequest (net : Bool) (d : Nat) (p : List Byte) : Option TxRequest :=
  let len := f16 net p 4
  let fl := u8 p 7
  let count := u8 p 0x22
  let off := f16 net p 0x24
  let n := f16 net p 0x20
  let phy := u8 p 0x12
  let r : TxRequest :=
    { id := f32 net p 0, coexPri := fl % 2 == 1, outcomeEvent := fl / 2 % 2 == 1, fcs4 := fl / 4 % 2 == 1,
      whiten := fl / 8 % 2 == 1, fec := fl / 16 % 2 == 1, interleave := fl / 32 % 2 == 1,
      launchS := f32 net p 8, launchN := f32 net p 12, tolUs := f16 net p 0x10, phy := phy, mode := u8 p 0x13,
      submode := u8 p 0x14, scheme := u8 p 0x15, modIndex := f16 net p 0x16, preamble := f16 net p 0x18,
      sfd := f16 net p 0x1A, centre := f32 net p 0x1C, psdu := bytesAt p off n, beams := [] }
  if len = p.length ∧ 0x30 ≤ len ∧ u8 p 6 = 1 ∧ r.launchN < 1000000000 ∧ r.tolUs ≤ 1000 ∧ r.modeOk = true ∧
      1 ≤ count ∧ count ≤ 4 ∧ 0x30 + 16 * count ≤ off ∧ off + n ≤ len ∧ 1 ≤ r.octets ∧ r.octets ≤ 2047 then
    (allSome ((List.range count).map (beamEntry net p d phy len))).map (fun bs => { r with beams := bs })
  else none

/-- Devices of the chain (1 on STANDALONE). -/
def State.chainLength (s : State) : Nat := if s.role == .manager then s.joinedWorkers.length + 1 else 1

/-! ### Channel and sub-band (R232, R236) -/

/-- The occupied channel lies within lo ± 16.0 MHz. -/
def inPassband (lo : Nat) (r : TxRequest) : Bool :=
  decide (0 < lo) && decide (2 * r.centre + r.bandwidth ≤ 2 * lo + 32000000) &&
    decide (2 * lo ≤ 2 * r.centre - r.bandwidth + 32000000) && decide (r.bandwidth ≤ 2 * r.centre)

/-- A sub-band's channel range holds the whole occupied channel. -/
def Subband.holds (b : Subband) (r : TxRequest) : Bool :=
  decide (2 * b.chLow + r.bandwidth ≤ 2 * r.centre) && decide (2 * r.centre + r.bandwidth ≤ 2 * b.chHigh)

/-- A sub-band's LO range holds the active LO. -/
def Subband.holdsLo (b : Subband) (lo : Nat) : Bool :=
  decide (b.loLowKHz * 1000 ≤ lo) && decide (lo ≤ b.loHighKHz * 1000)

/-- The lowest-numbered sub-band of a request, or the cause NO_SUBBAND or LO_OUTSIDE. -/
def findSubband (bands : List Subband) (lo : Nat) (r : TxRequest) : Except Nat (Nat × Subband) :=
  let ix := (List.range bands.length).zip bands
  match ix.find? (fun x => x.2.holds r && x.2.holdsLo lo) with
  | some x => .ok x
  | none => if bands.any (fun b => b.holds r) then .error 0x11 else .error 0x10

/-! ### Signatures as requests use them (R164) -/

/-- Index of a handle. -/
def handleIndex (h : Nat) : Nat := h % 4096
/-- GEN of a handle. -/
def handleGen (h : Nat) : Nat := h / 4096

/-- The entry of a handle. -/
def BeamUnit.sig (u : BeamUnit) (i : Nat) : Signature := Tab.get u.sigs i {}

/-- The handle matches its entry (R163). -/
def BeamUnit.matchesSig (u : BeamUnit) (h : Nat) : Bool :=
  let e := u.sig (handleIndex h)
  e.valid && e.gen == handleGen h

/-- The signature of a handle is current for a launch at device time `l`: GEN matches and its age is within SIG_MAX_AGE. -/
def State.sigCurrent (s : State) (h : Nat) (l : Int) : Bool :=
  s.beam.matchesSig h &&
    decide (l - (s.beam.sig (handleIndex h)).toa ≤ ((s.beam.sigMaxAgeMs * Config.ms : Nat) : Int))

/-- Handles that a request names. -/
def TxRequest.handles (r : TxRequest) : List Nat :=
  r.beams.filterMap (fun b => match b.kind with | .mrt | .phaseOnly => some b.index | _ => none)

/-- Change the hold count of the entries that a request names. -/
def State.holdSigs (s : State) (r : TxRequest) (f : Nat → Nat) : State :=
  { s with beam := { s.beam with
    sigs := (r.handles.map handleIndex).foldl (fun t i =>
      let e := Tab.get t i {}
      Tab.set t i { e with held := f e.held }) s.beam.sigs } }

/-- The base address of the signature-cache pool (Table STR-4). -/
def sigPool : Nat := 0x1200_0000

/-- The 64 mantissas of an entry on this device. -/
def State.sigMantissas (s : State) (i : Nat) : List Cplx :=
  let b := memReadBytes unlisted s.mem (sigPool + 256 * i) 256
  (List.range 64).map (fun p => pairAt b (4 * p))

/-! ### Transmit weights (R160, R161, R164) -/

/-- Paths that a signature-derived vector leaves out: retired from transmit, outside the transmit mask, or retuned since the
signature (R275). -/
def State.sigOut (s : State) (toa : Int) : Mask64 :=
  s.spare.txRetired ||| ~~~s.path.txMask |||
    maskOf 64 ((s.dpd.tunedAt.filter (fun p => decide (toa < p.2))).map (fun p => p.1))

/-- Conjugate. -/
def cplxConj (c : Cplx) : Cplx := ⟨c.i, -c.q⟩

/-- MRT: the conjugate scaled so that the largest component is ±32,767. -/
def mrtVector (w : List Cplx) : List Cplx :=
  let m := w.foldl (fun m c => Nat.max m (cplxPeak c)) 0
  if m = 0 then w else w.map (fun c => cplxConj (cplxScale c 32767 m))

/-- PHASE_ONLY: 32,767 · exp(−j arg). -/
def phaseVector (w : List Cplx) : List Cplx :=
  w.map (fun c => if cplxMag c = 0 then Cplx.zero else cplxConj (cplxScale c (32767 * 65536) (cplxMag c)))

/-- V of one beam entry on this device's 64 paths, for a launch at channel centre `centre`. -/
def State.beamVector (s : State) (centre : Nat) (e : BeamEntry) : List Cplx :=
  let pos := s.position
  match e.kind with
  | .grid =>
    let b : GridBasis := { s.gridBasis with freqHz := centre }
    (gridWeights b false pos e.index).map cplxConj
  | .explicit => (List.range 64).map (fun p => e.vector.getD (64 * pos + p) Cplx.zero)
  | .mrt =>
    let i := handleIndex e.index
    mrtVector (zeroPaths (s.sigOut (s.beam.sig i).toa) (s.sigMantissas i))
  | .phaseOnly =>
    let i := handleIndex e.index
    zeroPaths (s.sigOut (s.beam.sig i).toa) (phaseVector (s.sigMantissas i))

/-- V of one beam entry on the 64 paths of a worker at `pos`, as far as the manager holds it: grid directions and explicit
vectors. -/
def State.workerVector (s : State) (centre pos : Nat) (e : BeamEntry) : List Cplx :=
  match e.kind with
  | .grid => (gridWeights { s.gridBasis with freqHz := centre } false pos e.index).map cplxConj
  | .explicit => (List.range 64).map (fun p => e.vector.getD (64 * pos + p) Cplx.zero)
  | _ => []

/-! ### Levels (R237) -/

/-- g of one path, scaled by 2^89: Σ V · T · 10^(LEVEL/20). -/
def pathGain (t : Cplx) (terms : List (Cplx × Int)) : Cplx :=
  terms.foldl (fun (a : Cplx) x =>
    let vt := cplxMul x.1 t
    ⟨a.i + vt.i * x.2, a.q + vt.q * x.2⟩) Cplx.zero

/-- |g|² of every path of this device and of the workers for a request, scaled by 2^178. -/
def State.pathPowers (s : State) (r : TxRequest) : List Nat :=
  let own := r.beams.map (fun e => (s.beamVector r.centre e, pow10 e.level 2000))
  let power := fun (t : Cplx) (vs : List (List Cplx × Int)) (p : Nat) =>
    let g := pathGain t (vs.map (fun v => (v.1.getD p Cplx.zero, v.2)))
    (g.i * g.i + g.q * g.q).toNat
  let ownP := (List.range 64).map (fun p => power (s.txCorrOf p) own p)
  let workers := if s.role == .manager && !s.beam.ownOnly then s.joinedWorkers else []
  ownP ++ workers.flatMap (fun w =>
    let vs := r.beams.map (fun e => (s.workerVector r.centre w e, pow10 e.level 2000))
    (List.range 64).map (fun p => power (Tab.get s.tx.workerT (64 * w + p) ⟨16384, 0⟩) vs p))

/-- The sum of two power lists. -/
def addPowers (a b : List Nat) : List Nat := List.zipWith (fun x y => x + y) a b

/-- The planned air interval (R239): from L for 2 Tr and the frame, extended by TOL. -/
def State.plannedSpan (s : State) (b : Launch) : Span :=
  let l := s.launchAt b
  { start := l, stop := l + 2 * b.tr + b.frame + (if b.fixed.isSome then 0 else b.req.tolUs * Config.us) }

/-- Level check of a request: whether it passes, and the margin in 0.01 dB. -/
def State.levelCheck (s : State) (b : Launch) (band : Subband) : Bool × Int :=
  let beside := s.tx.queue.filter (fun q => q.order != b.order && overlaps (s.plannedSpan b) (s.plannedSpan q))
  let total := beside.foldl (fun a q => addPowers a (s.pathPowers q.req)) (s.pathPowers b.req)
  let top := total.foldl Nat.max 0
  let bands := match s.tx.record with | some r => r.2 | none => []
  let limit := beside.foldl (fun m q => match bands[q.subband]? with
    | some x => if x.maxLevel < m then x.maxLevel else m
    | none => m) band.maxLevel
  let ok := decide ((top : Int) ≤ pow10 limit 1000 * 2 ^ 118)
  let margin := if top = 0 then 32767 else limit - centiDb top (2 ^ 178)
  (ok, margin)

/-! ### Duty and off-time (R238 to R241) -/

/-- Length of one history slot in time units. -/
def Subband.slot (b : Subband) : Nat := b.windowS * Config.sec / 1024

/-- W in time units. -/
def Subband.window (b : Subband) : Nat := b.windowS * Config.sec

/-- The parts of `x` that no listed span covers. -/
def uncovered (x : Span) : List Span → List Span
  | [] => if x.start < x.stop then [x] else []
  | y :: r =>
    (uncovered x r).flatMap (fun (z : Span) =>
      if overlaps y z then
        (if z.start < y.start then [({ start := z.start, stop := y.start } : Span)] else []) ++
          (if y.stop < z.stop then [({ start := y.stop, stop := z.stop } : Span)] else [])
      else [z])

/-- Slot indices count from here, so that history restored at boot has indices before the release of RESET_L. -/
def slotBase : Nat := 4096

/-- Start of the slot of an index, for slots of length `d` on the grid of `r0`. -/
def slotStart (r0 d k : Nat) : Int := (r0 : Int) + ((k : Int) - (slotBase : Int)) * (d : Int)

/-- Index of the slot that holds local instant `t`. -/
def slotOf (r0 d t : Nat) : Nat := slotBase + (t - r0) / d

/-- Add the air time of a span to slots of length `d` counted from `r0`, from its start on, at most `n` slots. -/
def addToSlots (r0 d : Nat) : Nat → Span → Tab Nat → Tab Nat
  | 0, _, t => t
  | n + 1, x, t =>
    if x.stop ≤ x.start ∨ d = 0 then t
    else
      let k := slotOf r0 d x.start
      let e := Nat.min x.stop (slotStart r0 d (k + 1)).toNat
      addToSlots r0 d n { start := e, stop := x.stop } (Tab.set t k (Tab.get t k 0 + (e - x.start)))

/-- Account a radiated air interval of a sub-band: bursts that overlap count once; what has left every window is dropped. -/
def State.accountAir (s : State) (sb : Nat) (band : Subband) (x : Span) : State :=
  let h := Tab.get s.tx.duty sb {}
  let fresh := uncovered x h.spans
  let r0 := s.boot.releasedAt
  let d := band.slot
  let slots := fresh.foldl (fun t y => addToSlots r0 d ((y.stop - y.start) / Nat.max d 1 + 2) y t) h.slots
  let old : Int := (s.now : Int) - ((band.window + d : Nat) : Int)
  let h := { h with
    slots := slots.filter (fun p => decide (old < slotStart r0 d (p.1 + 1)))
    spans := (x :: h.spans).filter (fun y => decide (s.now ≤ y.stop + Nat.max band.window (10 * Config.sec))) }
  { s with tx := { s.tx with duty := Tab.set s.tx.duty sb h } }

/-- Sum of radiated slots (in full, where any part lies inside) and planned intervals in the window of length `w` from `x`. -/
def windowSum (r0 d w : Nat) (slots : Tab Nat) (plans : List Span) (x : Int) : Nat :=
  let lo := x
  let hi := x + w
  let a := slots.foldl (fun n p =>
    let st := slotStart r0 d p.1
    if st < hi ∧ lo < st + d then n + p.2 else n) 0
  plans.foldl (fun n y =>
    let b := if (y.start : Int) < lo then lo else (y.start : Int)
    let e := if hi < (y.stop : Int) then hi else (y.stop : Int)
    n + (e - b).toNat) a

/-- Spans made disjoint: overlapping intervals count once. -/
def disjoint : List Span → List Span
  | [] => []
  | x :: r => let d := disjoint r; uncovered x d ++ d

/-- The highest window sum over every window of length W that overlaps the span `x`. -/
def worstWindow (r0 d w : Nat) (slots : Tab Nat) (plans : List Span) (x : Span) : Nat :=
  let lo : Int := x.start - w + 1
  let hi : Int := x.stop - 1
  let edges : List Int :=
    [lo, hi] ++ slots.flatMap (fun p => [slotStart r0 d (p.1 + 1) - 1, slotStart r0 d p.1 - w + 1]) ++
      plans.flatMap (fun y => [(y.start : Int), (y.stop : Int) - w])
  (edges.filter (fun e => decide (lo ≤ e) && decide (e ≤ hi))).foldl (fun m e =>
    Nat.max m (windowSum r0 d w slots plans e)) 0

/-- Planned intervals of the admitted requests of a sub-band, other than `b`. -/
def State.plansOf (s : State) (sb : Nat) (b : Launch) : List Span :=
  (s.tx.queue.filter (fun q => q.subband == sb && q.order != b.order)).map (fun q => s.plannedSpan q)

/-- DUTY_MAX in force: halved by the thermal throttle (R241). -/
def State.dutyLimit (s : State) (band : Subband) : Nat := if s.thermal.throttle then band.dutyMax / 2 else band.dutyMax

/-- Units of 0.01 %, rounded up. -/
def dutyShare (sum w : Nat) : Nat := if w = 0 then 0 else (sum * 10000 + w - 1) / w

/-- Off-time and duty of a request (R239 to R241): the cause of a failure, and DUTY_USED as projected. -/
def State.dutyCheck (s : State) (b : Launch) (sb : Nat) (band : Subband) : Option Nat × Nat :=
  let h := Tab.get s.tx.duty sb {}
  let mine := s.plannedSpan b
  let plans := s.plansOf sb b
  let off := band.minOffUs * Config.us
  let gapBad := (h.spans ++ plans).any (fun y =>
    (decide (y.stop < mine.start) && decide (mine.start < y.stop + off)) ||
      (decide (mine.stop < y.start) && decide (y.start < mine.stop + off)))
  let sum := worstWindow s.boot.releasedAt band.slot band.window h.slots (disjoint (mine :: plans)) mine
  let beyond := fun lim => decide (lim * band.window < sum * 10000)
  let cause :=
    if gapBad then some 0x31
    else if beyond band.dutyMax then some 0x30
    else if beyond (s.dutyLimit band) then some 0x32
    else none
  (cause, dutyShare sum band.window)

/-- Radiated air time of a sub-band in the window of length W that ends now, bursts in progress included as far as radiated. -/
def State.radiatedSum (s : State) (sb : Nat) (band : Subband) : Nat :=
  let h := Tab.get s.tx.duty sb {}
  let live := (s.tx.queue.filter (fun b => b.subband == sb && b.phase.radiating)).map (fun b =>
    ({ start := s.launchAt b, stop := s.now } : Span))
  windowSum s.boot.releasedAt band.slot band.window h.slots (disjoint (live.flatMap (fun x => uncovered x h.spans)))
    ((s.now : Int) - (band.window : Int))

/-! ### Transmit beams (R160) -/

/-- The interval in which a request uses its transmit beams: L − 150 us to the end of its ramp-down. -/
def State.beamSpan (s : State) (b : Launch) : Span :=
  let p := s.plannedSpan b
  { start := p.start - 150 * Config.us, stop := p.stop }

/-- Transmit beams in use never exceed 16 while the request uses its own: judged at every start within its interval. -/
def State.beamsFit (s : State) (b : Launch) : Bool :=
  let x := s.beamSpan b
  let all := (s.tx.queue.filter (fun q => q.order != b.order)).map (fun q => (s.beamSpan q, q.req.beams.length))
  let starts := x.start :: (all.map (fun q => q.1.start)).filter (fun t => decide (x.start ≤ t) && decide (t < x.stop))
  starts.all (fun t =>
    decide ((all.foldl (fun n q => if q.1.start ≤ t ∧ t < q.1.stop then n + q.2 else n) b.req.beams.length) ≤ 16))

/-! ### The end of a request (R253, R254) -/

/-- COEX_REQ and COEX_PRI as the queue asks for them (R245). -/
def State.coexLines (s : State) : State :=
  let on := s.tx.coexEnable && s.role != .worker
  { s with pins := { s.pins with
    coexReq := on && s.tx.queue.any (fun b => b.coexOn)
    coexPri := on && s.tx.queue.any (fun b => b.coexOn && b.req.coexPri) } }

/-- TRSW of a quadrant stays at transmit while a burst holds it. -/
def State.trswHeld (s : State) : BitVec 4 :=
  let q := s.tx.queue.foldl (fun m b => match b.lines with | some (_, _, _, x) => m ||| x | none => m) 0#4
  s.tx.tails.foldl (fun m t => if t.returned then m else m ||| t.quadrants) q

/-- Decide an outcome: it is counted, takes the next SEQUENCE and waits to be sent. -/
def State.decideOutcome (s : State) (req : TxRequest) (origin : TxOrigin) (outcome cause subband flags : Nat)
    (ts : Nat × Nat) (delay radiated duty : Nat) (margin : Int) (shared : Bool := false) : State :=
  -- the manager reports every outcome of the chain (R324)
  if s.isWorker then s
  else
  let fl := flags + (if s.time.state = .holdover then 1 else 0)
  let o : TxOutcome :=
    { id := req.id, origin := origin, event := req.outcomeEvent, outcome := outcome, cause := cause, subband := subband,
      flags := fl, seconds := ts.1, nanos := ts.2, delayNs := (roundDiv delay Config.ns).toNat,
      radiatedNs := (roundDiv radiated Config.ns).toNat, dutyUsed := duty, margin := margin, seq := s.tx.outcomeSeq,
      shared := shared && origin != .mailbox }
  { s with tx := { s.tx with
    outcomes := s.tx.outcomes ++ [o], outcomeSeq := wrapAdd 32 s.tx.outcomeSeq 1
    counts := Tab.set s.tx.counts outcome (wrapAdd 32 (Tab.get s.tx.counts outcome 0) 1) } }

/-- An admitted request reaches its outcome and leaves the queue; a request whose t0 has passed without a ramp gives the
lines back and leaves its receive blanking. -/
def State.endRequest (s : State) (b : Launch) (outcome cause radiated : Nat) : State :=
  let ts := if b.delay = 0 then (b.req.launchS, b.req.launchN) else s.ts64 (s.launchAt b)
  let flags := (if b.ownOnly then 2 else 0) + (if b.delay = 0 then 0 else 4) + (if b.cutOff then 8 else 0)
  let s := { s with tx := { s.tx with queue := s.tx.queue.filter (fun q => q.order != b.order) } }
  -- the workers drop a launch that the manager drops
  let s := if s.role = .manager ∧ b.phase.radiating = false then s.messages s.joinedWorkers 5 (le 1 10 ++ le 4 b.req.id) else s
  let s := s.holdSigs b.req (fun n => n - 1)
  let s := { s with beam := { s.beam with txUse := s.beam.txUse &&& ~~~(maskOf 16 b.beams) } }
  let s := match b.lines with
    | some (lead, _, blank, q) =>
      if b.phase.radiating then s
      else
        let st := s.launchAt b - lead
        { s with tx := { s.tx with
          tails := s.tx.tails ++ [({ t4 := s.now, t5 := s.now, t6 := s.now + blank, quadrants := q, returned := true } : BurstTail)]
          blanked := (q, ({ start := st, stop := s.now + blank } : Span)) :: s.tx.blanked } }
    | none => s
  let s := { s with pins := { s.pins with trsw := s.pins.trsw &&& s.trswHeld } }
  (s.coexLines).decideOutcome b.req b.origin outcome cause b.subband flags ts b.delay radiated b.dutyUsed b.margin

/-- A burst or a launch that the device is in TX for: its L − 20 us has come, or it has been decided. -/
def State.serving (s : State) : Bool :=
  s.tx.queue.any (fun b => b.phase.committed || decide (s.launchAt b - 20 * Config.us ≤ s.now)) ||
    s.tx.tails.any (fun t => !t.returned)

/-- R94: the device goes back from TX once no queued launch keeps it there: after t5, none with L − 20 us at or before
t5 + TX_LINGER; before a first burst, none whose change to TX has begun. A base-state change that waits for t5 is then due. -/
def State.lingerCheck (s : State) : State :=
  let keep := match s.radio.lingerFrom with
    | some t5 => s.tx.queue.any (fun b => decide (s.launchAt b - 20 * Config.us ≤ t5 + s.radio.linger * Config.us))
    | none => s.serving
  if !s.radio.wantTx || keep then s
  else
    let pend := s.radio.pending.map (fun c => if c.due = .atT5 then { c with due := .instant s.now } else c)
    ({ s with radio := { s.radio with wantTx := false, lingerFrom := none, pending := pend } }).pursue

/-- End every queued request that `sel` picks with one outcome. -/
def State.endAll (s : State) (sel : Launch → Bool) (outcome cause : Nat) : State :=
  ((s.tx.queue.filter sel).foldl (fun s b => s.endRequest b outcome cause 0) s).lingerCheck

/-- Abort every burst in ramp-up or frame (R74, R247, R249): the ramp-down begins now, and EV_TX_ABORT is raised when a burst
was aborted. -/
def State.abortBursts (s : State) (outcome cause : Nat) : State :=
  let n := (s.tx.queue.filter (fun b => b.phase == .frame)).length
  if n = 0 then s
  else
    let s := { s with tx := { s.tx with
      queue := s.tx.queue.map (fun (b : Launch) =>
        if b.phase = TxPhase.frame then { b with phase := .rampDown, downAt := some s.now, abort := some (outcome, cause) } else b) } }
    s.raiseEvent 0x0702 .warn (le 1 outcome ++ le 1 cause ++ le 2 n ++ zeros 4 ++ s.ts64Bytes s.now)

/-- R357 step 1, R480: the abort ramp-down of every burst, after which PAEN is held low; no outcome is reported. -/
def State.hardAbort (s : State) : State :=
  { s with
    tx := { s.tx with queue := [] }
    pins := { s.pins with paen := 0#4, coexReq := false, coexPri := false } }

/-- A base state of STANDBY takes effect (R95): every queued request ends LATE, LO_SETTLING. -/
def State.baseTakesEffect (s : State) (c : BaseChange) : State :=
  let s := { s with radio := { s.radio with base := c.base, linger := c.linger, pending := none } }
  match c.base with
  | .standby =>
    let s := s.endAll (fun b => !b.phase.radiating) 0x01 0x02
    ({ s with radio := { s.radio with wantTx := false, lingerFrom := none } }).pursue
  | _ =>
    -- leaving STANDBY: what was recorded is acquired now (R96)
    if s.radio.state ≠ .standby then s.pursue
    else
      let s := { s with radio := { s.radio with syn := Tab.mapVals s.radio.syn (fun _ y =>
        match y.waiting with
        | some (x, none) => { y with waiting := some (x, some s.now), waitingSince := s.now }
        | _ => y) } }
      let y := s.radio.synth s.radio.active
      let s := match y.waiting, y.setting with
        | none, some x => s.postpone s.radio.active x s.now (some s.now)
        | _, _ => s
      s.pursue

end Sys2Proof.Machine
end

