-- ==== Sys2Proof/Machine/HaloOps.lean ====
section
/-!
DEFINITION. Halo as other chapters touch it: slots, trigger offers (R449 to R451), the pattern vector (R135) and snapshot strobes
(R457).
-/

namespace Sys2Proof.Machine

open Sys2Proof

/-- Slot n. -/
def Halo.slot (h : Halo) (n : Nat) : HaloSlot := Tab.get h.slots n {}

/-- Change slot n. -/
def State.setSlot (s : State) (n : Nat) (f : HaloSlot → HaloSlot) : State :=
  { s with halo := { s.halo with slots := Tab.set s.halo.slots n (f (s.halo.slot n)) } }

/-- The slot runs: from arming to its end. -/
def SlotState.running : SlotState → Bool
  | .arming | .filling | .post | .holdoff => true
  | _ => false

/-- Time units of one instant of a source kind (Table HALO-1). -/
def kindPeriod (k : Nat) : Nat := if k = 2 then 2500 else if k = 3 then 625 else if k = 4 then 1920000 else 10000

/-- Bytes of one instant (R444). -/
def HaloCfg.instantBytes (c : HaloCfg) : Nat :=
  let n := popcount c.sources
  if c.kind = 3 then 2 * n else if c.kind = 4 then 4 * n * c.binCount else 4 * n

/-- Bytes of a segment. -/
def HaloCfg.segBytes (c : HaloCfg) : Nat := c.length / c.segments

/-- I of R447. -/
def HaloCfg.instants (c : HaloCfg) : Nat := if c.instantBytes = 0 then 0 else c.segBytes / c.instantBytes

/-- P of R447. -/
def HaloCfg.pre (c : HaloCfg) : Nat := c.instants * c.preFraction / 1024

/-- Offer a trigger of a source to every slot that `sel` picks among those with the source set. -/
def State.offer (s : State) (source stamp : Nat) (scheduled : Bool) (sel : Nat → HaloCfg → Bool) : State :=
  let hits := (s.halo.slots.filter (fun p => p.2.state.running && p.2.cfg.trig.getLsbD source && sel p.1 p.2.cfg)).map
    (fun p => ({ slot := p.1, stamp := stamp, source := source, decidedAt := s.now, scheduled := scheduled } : TrigOffer))
  { s with halo := { s.halo with offers := s.halo.offers ++ hits } }

/-! ### The pattern vector (R133, R135, R450) -/

/-- An upper detector as set, its LEVEL −6.0 dB by default. -/
def Filt.upperOf (f : Filt) (p : Nat) : Detector := Tab.get f.upper p { level := -60 }
/-- A lower detector as set, its LEVEL −90.0 dB by default. -/
def Filt.lowerOf (f : Filt) (p : Nat) : Detector := Tab.get f.lower p { level := -900 }

/-- A detector is asserted: enabled, on a path of the receive mask, and in that state (R133). -/
def State.upperOn (s : State) (p : Nat) : Bool :=
  let d := s.filt.upperOf p
  d.enable && d.asserted && s.path.rxMask.getLsbD p
/-- As `upperOn`, for the lower detector. -/
def State.lowerOn (s : State) (p : Nat) : Bool :=
  let d := s.filt.lowerOf p
  d.enable && d.asserted && s.path.rxMask.getLsbD p

/-- The pattern vector. -/
def State.pattern (s : State) : Mask64 :=
  maskOf 64 ((List.range 64).filter (fun p =>
    (s.filt.patternUpper.getLsbD p && s.upperOn p) || (s.filt.patternLower.getLsbD p && s.lowerOn p)))

/-- The pattern condition of a slot. -/
def HaloCfg.patternHolds (c : HaloCfg) (p : Mask64) : Bool :=
  let d := p ^^^ c.patternValue
  if c.patternMode = 0 then (d &&& c.patternCare) == 0#64
  else if c.patternMode = 1 then (~~~d &&& c.patternCare) != 0#64
  else (d &&& c.patternCare) == 0#64 && (p &&& ~~~c.patternCare) == 0#64

/-- Judge every slot's pattern condition after the vector has moved on the sample of stamp `t`: it triggers where it changes
from false to true. -/
def State.patternMoved (s : State) (t : Nat) : State :=
  let v := s.pattern
  let s' := s.offer 0 t false (fun n c => c.patternHolds v && !(s.halo.slot n).patternTrue)
  { s' with halo := { s'.halo with slots := Tab.mapVals s'.halo.slots (fun _ x =>
      { x with patternTrue := x.cfg.patternHolds v }) } }

/-- Schedule a strobe. -/
def State.strobe (s : State) (due origin : Nat) (pin scheduled : Bool) : State :=
  { s with halo := { s.halo with
    strobes := s.halo.strobes ++ [{ due := due, origin := origin, pin := pin, scheduled := scheduled }] } }

/-- The base address of the capture pool (Table STR-4). -/
def capturePool : Nat := 0x1000_0000

/-- An uncorrectable word in the capture pool marks the segment that holds it (R448). -/
def State.captureEcc (s : State) (addr : Nat) : State :=
  let off := addr - capturePool
  { s with halo := { s.halo with slots := Tab.mapVals s.halo.slots (fun _ x =>
      let c := x.cfg
      if c.offset ≤ off ∧ off < c.offset + c.length ∧ c.segBytes ≠ 0 then
        let k := (off - c.offset) / c.segBytes
        match Tab.find? x.segs k with
        | some g => { x with segs := Tab.set x.segs k { g with flags := g.flags ||| 1 } }
        | none => x
      else x) } }

/-- Give the observation selection back (R77), and let a user that waited be granted. -/
def State.releaseObs (s : State) (u : ObsUser) : State :=
  if s.path.obsOwner = some u then
    { s with path := { s.path with obsOwner := none }, halo := { s.halo with obsSlot := if u = .halo then none else s.halo.obsSlot } }
  else { s with path := { s.path with obsWaiting := s.path.obsWaiting.filter (fun v => !(v == u)) } }

/-- Ask for the observation selection. -/
def State.askObs (s : State) (u : ObsUser) : State :=
  if s.path.obsWaiting.contains u then s
  else { s with path := { s.path with obsWaiting := s.path.obsWaiting ++ [u] } }

end Sys2Proof.Machine
end

