-- ==== Sys2Proof/Machine/TimeOps.lean ====
section
/-!
DEFINITION. Changes of the device-time state (R436, R437) with what they discard.
-/

namespace Sys2Proof.Machine

open Sys2Proof

/-- Device time is re-based at now: it keeps its value, and runs from here at a new rate. -/
def State.rebase (s : State) (ratePpb : Int) : State :=
  { s with time := { s.time with base := s.deviceNow, baseAt := s.now, ratePpb := ratePpb } }

/-- VALID or HOLDOVER to HOLDOVER (R436): from VALID only. Cause as EV_FH_TIME_HOLDOVER. -/
def State.toHoldover (s : State) (cause : Nat) : State :=
  if s.time.state ≠ .valid then s
  else
    let s := { s with time := { s.time with
      state := .holdover, holdoverAt := some s.now, lockCount := 0, bigCount := 0 } }
    s.raiseEvent 0x0A02 .warn (le 1 cause ++ zeros 7 ++ s.ts64Bytes s.now)

/-- To VALID (R436). -/
def State.toValid (s : State) : State :=
  let start := match s.time.state with | .invalid => 0 | .valid => 1 | .holdover => 2
  let stepped := s.time.state == .invalid && s.time.stepped
  let stepNs := if stepped then roundDiv s.time.stepPs 1000 else 0
  let lim := fun (v : Int) => if v > 2147483647 then 2147483647 else if v < -2147483648 then -2147483648 else v
  let s := { s with time := { s.time with
    state := .valid, holdoverAt := none, lockCount := 0, bigCount := 0, stepped := false } }
  s.raiseEvent 0x0A01 .notice (le 1 start ++ b8 stepped ++ zeros 2 ++ leS 4 (lim stepNs) ++ s.ts64Bytes s.now)

/-- Number of scheduled changes that becoming INVALID discards (R437, R507). -/
def State.scheduledCount (s : State) : Nat :=
  (s.path.slots.filter (fun p => !p.2.immediate)).length +
    (match s.radio.pending with | some c => if c.scheduled then 1 else 0 | none => 0) +
    (match s.radio.commit with | some c => if c.scheduled then 1 else 0 | none => 0) +
    (match s.radio.switch with | some c => if c.scheduled then 1 else 0 | none => 0) +
    (s.filt.applies.filter (fun a => a.scheduled)).length +
    (match s.beam.host with | some h => if h.scheduled then 1 else 0 | none => 0) +
    (match s.dpd.window with | some w => if w.scheduled && !w.opened then 1 else 0 | none => 0) +
    (match s.spare.window with | some w => if w.scheduled && !w.opened then 1 else 0 | none => 0) +
    (s.halo.offers.filter (fun o => o.scheduled)).length + (s.halo.strobes.filter (fun x => x.scheduled)).length

/-- Discard every scheduled change (R437). -/
def State.discardScheduled (s : State) : State :=
  { s with
    path := { s.path with slots := s.path.slots.filter (fun p => p.2.immediate) }
    radio := { s.radio with
      pending := s.radio.pending.filter (fun c => !c.scheduled)
      commit := s.radio.commit.filter (fun c => !c.scheduled)
      switch := s.radio.switch.filter (fun c => !c.scheduled) }
    filt := { s.filt with applies := s.filt.applies.filter (fun a => !a.scheduled) }
    beam := { s.beam with host := s.beam.host.filter (fun h => !h.scheduled) }
    dpd := { s.dpd with window := s.dpd.window.filter (fun w => !w.scheduled || w.opened) }
    spare := { s.spare with window := s.spare.window.filter (fun w => !w.scheduled || w.opened) }
    halo := { s.halo with
      offers := s.halo.offers.filter (fun o => !o.scheduled)
      strobes := s.halo.strobes.filter (fun x => !x.scheduled) } }

/-- A queued launch that does not radiate. -/
def Launch.waiting (b : Launch) : Bool := !b.phase.radiating

/-- Time becomes INVALID (R437): queued requests end TIME_INVALID, LOST_AFTER; a burst in progress completes (R250). The counter
is not reloaded. -/
def State.loseTime (s : State) : State :=
  let s := (s.endAll Launch.waiting 0x06 0x51).discardScheduled
  { s with time := { s.time with
      state := .invalid, holdoverAt := none, lockCount := 0, bigCount := 0, stepped := false } }

/-- To INVALID, with its event (R436, R437). -/
def State.toInvalid (s : State) (cause : Nat) : State :=
  if s.time.state = .invalid then s
  else
    let ts := s.ts64Bytes s.now
    let ended := (s.tx.queue.filter Launch.waiting).length
    let n := s.scheduledCount
    s.loseTime.raiseEvent 0x0A03 .error (le 1 cause ++ zeros 1 ++ leSat 2 n ++ leSat 2 ended ++ zeros 2 ++ ts)

end Sys2Proof.Machine
end

