-- ==== Sys2Proof/Machine/LclOps.lean ====
section
/-!
DEFINITION. The Lemila cascade as other chapters touch it: the manager's settings for workers (R64, R325), breaks (R322, R323) and
what a cut-off device does (R324).
-/

namespace Sys2Proof.Machine

open Sys2Proof

/-! ### Hops and positions (R301, R302) -/

/-- Hop h of the chain, counted down from the manager. -/
def Lcl.hop (l : Lcl) (h : Nat) : Hop := Tab.get l.hops h {}

/-- Change a hop. -/
def State.setHop (s : State) (h : Nat) (f : Hop → Hop) : State :=
  { s with lcl := { s.lcl with hops := Tab.set s.lcl.hops h (f (s.lcl.hop h)) } }

/-- The lower position of hop h: D_CFG − 2 − h. -/
def Lcl.lowerOf (l : Lcl) (h : Nat) : Option Nat := if h + 2 ≤ l.dCfg then some (l.dCfg - 2 - h) else none

/-- The hop of a lower position. -/
def Lcl.hopOf (l : Lcl) (p : Nat) : Option Nat := if p + 2 ≤ l.dCfg then some (l.dCfg - 2 - p) else none

/-- Position p as the manager holds it. -/
def Lcl.pos (l : Lcl) (p : Nat) : Position := Tab.get l.positions p {}

/-- The device at position p has joined; the manager always has. -/
def State.present (s : State) (p : Nat) : Bool := p == s.lcl.position || (s.lcl.pos p).state == .joined

/-- Some hop trains. -/
def Lcl.anyTraining (l : Lcl) : Bool := l.hops.any (fun (p : Nat × Hop) => p.2.training)

/-! ### Settings that the manager sends -/

/-- A gain step for every joined worker, at one device-time instant (R64): the instant in units of device time. -/
def gainBody (device : Int) (step cause : Nat) : List Byte := le 1 5 ++ leS 12 device ++ le 1 step ++ le 1 cause

/-- The manager's own decision on the gain step goes to every joined worker. -/
def State.gainToWorkers (s : State) (t step cause : Nat) : State :=
  s.messages s.joinedWorkers 5 (gainBody (s.time.deviceAt t) step cause)

/-! ### Cut off (R324) -/

/-- The bursts of a cut-off device: those in ramp-up or frame ramp down now, the others are dropped without an outcome of their
own. -/
def State.cutBursts (s : State) : State :=
  let s := s.endAll Launch.waiting 0 0
  { s with tx := { s.tx with queue := s.tx.queue.map (fun (b : Launch) =>
      if b.phase = TxPhase.frame then { b with phase := .rampDown, downAt := some s.now, abort := some (0, 0) } else b) } }

/-- A worker is cut off: its bursts end, and PAEN stays low until it rejoins. -/
def State.cutOff (s : State) : State :=
  ({ s with lcl := { s.lcl with joined := false, cut := true } } : State).cutBursts

/-- A worker has lost its reverse link: CUT goes out on TRIG_COUT from `t`, and the worker is cut off. -/
def State.cutOffAt (s : State) (t : Nat) : State :=
  if !s.isWorker then s
  else ({ s with lcl := { s.lcl with words := s.lcl.words ++ [(0xA, t)] } } : State).cutOff

/-! ### Breaks on the manager's side (R21, R322, R323) -/

/-- Devices cut off at a break at p. -/
def State.cutCount (s : State) (p : Nat) : Nat :=
  ((List.range (p + 1)).filter (fun q => (s.lcl.pos q).state == .cutOff)).length

/-- EV_LCL_BREAK. -/
def State.breakEvent (s : State) (p last cause cut : Nat) : State :=
  s.raiseEvent 0x0B01 .error (le 1 p ++ le 1 last ++ le 1 cause ++ le 1 cut ++ zeros 4 ++ s.ts64Bytes s.now)

/-- What the loss of joined workers changes: the effective weights of every beam that carried them, the noise estimates, and the
requests whose bursts they share. -/
def State.loseWorkers (s : State) : State :=
  let s := if s.beam.ownOnly then s
    else ({ s with beam := { s.beam with changes := (s.now, BitVec.allOnes 64) :: s.beam.changes } }).freeNoiseScale
  { s with tx := { s.tx with queue := s.tx.queue.map (fun (b : Launch) =>
      if b.phase = TxPhase.rampDown then b else { b with cutOff := true }) } }

/-- Hop h breaks: its lower segment is cut off. Only the break nearest to the manager is reported. -/
def State.breakHop (s : State) (h cause : Nat) : State :=
  match s.lcl.lowerOf h with
  | none => s
  | some p =>
    let known := (s.lcl.pos p).state == .cutOff
    let lost := (List.range (p + 1)).any (fun q => (s.lcl.pos q).state == .joined)
    -- no hop trains below a broken one
    let s := { s with lcl := { s.lcl with hops := s.lcl.hops.map (fun (q : Nat × Hop) =>
      if h ≤ q.1 then (q.1, { q.2 with training := false }) else q) } }
    let s := { s with lcl := { s.lcl with
      positions := Tab.update s.lcl.positions (List.range (p + 1)) {} (fun _ x => { x with state := .cutOff }) } }
    let s := if lost then s.loseWorkers else s
    if known || !s.present (p + 1) then s else s.breakEvent p (p + 1) cause (s.cutCount p)

end Sys2Proof.Machine
end

