-- ==== Sys2Proof/Machine/Filt.lean ====
section
/-!
DEFINITION. Path filters and threshold detectors (spec/05).
-/

namespace Sys2Proof.Machine

open Sys2Proof

/-! ### One filter stage (R125) -/

/-- The output of a stage: the exact sum of products, rounded convergently by `frac` bits and saturated symmetrically to `w`
bits; true where it saturated. Inputs newest first. -/
def firOutput (coefs inputs : List Int) (frac w : Nat) : Int × Bool :=
  let acc := (List.zipWith (fun (a b : Int) => a * b) coefs inputs).foldl (fun x y => x + y) 0
  let v := roundShift acc frac
  (satSym w v, saturated w v)

/-! ### Sets and delays (R126, R128, R131, R132) -/

/-- Set of a direction. -/
def FirBank.set (b : FirBank) (k : Nat) : FirSet := Tab.get b.sets k {}
/-- Set that path p belongs to. -/
def FirBank.of (b : FirBank) (p : Nat) : Nat := Tab.get b.member p 0

/-- A bank with staged changes. -/
def FirBank.after (b staged : FirBank) : FirBank :=
  { sets := staged.sets.foldl (fun t p => Tab.set t p.1 p.2) b.sets
    member := staged.member.foldl (fun t p => Tab.set t p.1 p.2) b.member }

/-- Something is staged. -/
def FirBank.any (b : FirBank) : Bool := !b.sets.isEmpty || !b.member.isEmpty

/-- Reference delay of the set of path p, in 1/256 sample. -/
def FirBank.delayOf (b : FirBank) (p : Nat) : Nat := (b.set (b.of p)).refDelay

/-- The sets that hold a path all have one reference delay. -/
def FirBank.aligned (b : FirBank) : Bool := (List.range 64).all (fun p => b.delayOf p == b.delayOf 0)

/-- D_RX in ps (R131): 31,400 · 17.5 MHz / fc, 87 samples at 153.6 Msps, and the reference delay. -/
def Filt.dRx (f : Filt) (refDelay : Nat) : Nat :=
  -- common denominator 1,536 · fc: one sample at 153.6 Msps is 10^6 / 153.6 ps and one 1/256 sample at 38.4 Msps is 10^6 / 9,830.4 ps
  let n := 31400 * 17500 * 98304 + (87 * 10000000 * 64 + refDelay * 10000000) * f.cornerKHz
  (roundDiv (n : Int) (98304 * f.cornerKHz)).toNat

/-- D_TX in ps (R132): 12,600, 92 samples at 153.6 Msps, and the reference delay. -/
def dTx (refDelay : Nat) : Nat :=
  (roundDiv ((12600 * 98304 + 92 * 10000000 * 64 + refDelay * 10000000 : Nat) : Int) 98304).toNat

/-- D_RX and D_TX in force. -/
def State.delays (s : State) : Nat × Nat := (s.filt.dRx (s.filt.rx.delayOf 0), dTx (s.filt.tx.delayOf 0))

/-- On a worker: its reference delays equal the manager's (R325). -/
def State.refDelaysMatch (s : State) : Bool :=
  match s.isWorker, s.lcl.refDelays with
  | true, some (a, b) => s.filt.rx.delayOf 0 == a && s.filt.tx.delayOf 0 == b
  | _, _ => true

/-! ### Staging (R127, R137) -/

/-- M of R137: coefficients that a load carries. -/
def loadCount (taps : Nat) (sym : Bool) : Nat := if sym then (taps + 1) / 2 else taps

/-- All coefficients of a set from those loaded: a symmetric set mirrors them. -/
def allCoefs (taps : Nat) (sym : Bool) (c : List Int) : List Int :=
  if sym then (List.range taps).map (fun k => c.getD (Nat.min k (taps - 1 - k)) 0) else c

/-- A joined worker tells the manager the receive reference delay that it will have once what is staged is applied, 0xFFFF where its
sets would not agree (R130). -/
def State.reportFilters (s : State) : State :=
  let b := s.filt.rx.after s.filt.stagedRx
  if s.isWorker && s.lcl.joined then s.toManager 5 (le 1 7 ++ le 2 (if b.aligned then b.delayOf 0 else 0xFFFF)) else s

/-- The manager tells its workers its reference delays in force (R325). -/
def State.shareDelays (s : State) : State :=
  if s.role = .manager then
    s.messages s.joinedWorkers 5 (le 1 7 ++ le 2 (s.filt.rx.delayOf 0) ++ le 2 (s.filt.tx.delayOf 0))
  else s

def loadSetCheck (p : List Byte) (len : Nat) : Bool :=
  let taps := u16 p 4
  let ref := u16 p 6
  decide (u8 p 0 ≤ 1) && decide (u8 p 1 ≤ 3) && decide (u8 p 2 ≤ 1) && inRange 1 taps 256 &&
    len == 8 + 4 * loadCount taps (u8 p 2 == 1) && (u8 p 2 == 1 || ref == 0xFFFF || decide (ref ≤ 256 * (taps - 1)))

def loadSetBody (r : Running) (s : State) : CmdEffect :=
  let p := r.cmd.payload
  if !loadSetCheck p r.cmd.length then .status s Status.badParam
  else
    let taps := u16 p 4
    let sym := u8 p 2 == 1
    let c := (List.range (loadCount taps sym)).map (fun m => signed 18 (u32 p (8 + 4 * m) % 2 ^ 18))
    let ref := if sym || u16 p 6 == 0xFFFF then 128 * (taps - 1) else u16 p 6
    let x : FirSet := { taps := taps, symmetric := sym, refDelay := ref, coefs := allCoefs taps sym c }
    let put := fun (b : FirBank) => { b with sets := Tab.set b.sets (u8 p 1) x }
    .ok (if u8 p 0 = 0 then ({ s with filt := { s.filt with stagedRx := put s.filt.stagedRx } }).reportFilters
         else { s with filt := { s.filt with stagedTx := put s.filt.stagedTx } }) []

/-- The envelope of FILT_LOAD_SET. -/
def specFiltLoadSet : CmdSpec := { opcode := 0x030C, minLen := fun _ => 8 }

/-- FILT_LOAD_SET. -/
def execFiltLoadSet (s : State) : Host.Outcome State Fault Refusal := runCommand specFiltLoadSet loadSetBody s

def assignBody (r : Running) (s : State) : CmdEffect :=
  let p := r.cmd.payload
  if decide (u8 p 0 ≤ 1) && decide (u8 p 1 ≤ 3) then
    let put := fun (b : FirBank) =>
      { b with member := Tab.update b.member (bitsOf (mask64 p 8)) 0 (fun _ _ => u8 p 1) }
    .ok (if u8 p 0 = 0 then ({ s with filt := { s.filt with stagedRx := put s.filt.stagedRx } }).reportFilters
         else { s with filt := { s.filt with stagedTx := put s.filt.stagedTx } }) []
  else .status s Status.badParam

/-- The envelope of FILT_ASSIGN. -/
def specFiltAssign : CmdSpec := { opcode := 0x030D, minLen := fun _ => 16 }

/-- FILT_ASSIGN. -/
def execFiltAssign (s : State) : Host.Outcome State Fault Refusal := runCommand specFiltAssign assignBody s

/-! ### Applying (R127 to R130) -/

/-- Every device of a running chain would have this receive reference delay, as far as workers have reported what theirs will be. -/
def State.chainAligned (s : State) (refDelay : Nat) : Bool :=
  s.joinedWorkers.all (fun w => match (Tab.get s.lcl.positions w {}).rxRef with
    | some d => d == refDelay
    | none => true)

/-- A bank after what an apply changes in it. -/
def FirBank.afterSome (b : FirBank) (x : Option FirBank) : FirBank := match x with | some c => b.after c | none => b

/-- The receive bank as the applies pending up to `due` will leave it. -/
def Filt.rxBy (f : Filt) (due : Nat) : FirBank :=
  (f.applies.filter (fun a => decide (a.due ≤ due))).foldl (fun b a => b.afterSome a.rx) f.rx
/-- As `rxBy`, for transmit. -/
def Filt.txBy (f : Filt) (due : Nat) : FirBank :=
  (f.applies.filter (fun a => decide (a.due ≤ due))).foldl (fun b a => b.afterSome a.tx)
    (f.tx.afterSome (f.txWaiting.bind (fun a => a.tx)))

/-- The sample of FILT_APPLY. -/
def State.applyDue (s : State) (r : Running) : Nat :=
  s.dueInstant r (u8 r.cmd.payload 1 % 2 == 1) (s.instantOf r.cmd.payload 8) lead100 Config.outSample

/-- Checks of FILT_APPLY. -/
def applyCheck (r : Running) (s : State) : Option Nat :=
  let p := r.cmd.payload
  let f := s.filt
  let brx := (f.rxBy (s.applyDue r)).after f.stagedRx
  let btx := (f.txBy (s.applyDue r)).after f.stagedTx
  let rx := u8 p 0 % 2 == 1
  let tx := u8 p 0 / 2 % 2 == 1
  let imm := u8 p 1 % 2 == 1
  firstFailure
    [(u8 p 0 % 4 != 0, Status.badParam),
     (imm || s.timeUsable, Status.timeInvalid),
     ((rx && f.stagedRx.any) || (tx && f.stagedTx.any), Status.wrongState),
     ((!rx || brx.aligned) && (!tx || btx.aligned) &&
        (!rx || s.role != .manager || s.chainAligned (brx.delayOf 0)), Status.filtDelayMismatch)]

/-- Applies wait in the order of their instants, those of one instant in the order of their commands. -/
def addApply (a : FiltApply) (l : List FiltApply) : List FiltApply :=
  l.takeWhile (fun x => decide (x.due ≤ a.due)) ++ [a] ++ l.dropWhile (fun x => decide (x.due ≤ a.due))

def filtApplyBody (r : Running) (s : State) : CmdEffect :=
  match applyCheck r s with
  | some st => .status s st
  | none =>
    let p := r.cmd.payload
    let f := s.filt
    let rx := u8 p 0 % 2 == 1 && f.stagedRx.any
    let tx := u8 p 0 / 2 % 2 == 1 && f.stagedTx.any
    let imm := u8 p 1 % 2 == 1
    let due := s.applyDue r
    let a : FiltApply := { rx := if rx then some f.stagedRx else none, tx := if tx then some f.stagedTx else none,
                           due := due, scheduled := !imm }
    let dRx := f.dRx ((if rx then (f.rxBy due).after f.stagedRx else f.rxBy due).delayOf 0)
    let dT := dTx ((if tx then (f.txBy due).after f.stagedTx else f.txBy due).delayOf 0)
    .ok { s with filt := { f with
        applies := addApply a f.applies, stagedRx := if rx then {} else f.stagedRx, stagedTx := if tx then {} else f.stagedTx } }
      (le 4 dRx ++ le 4 dT ++ s.ts64Bytes due)

/-- The envelope of FILT_APPLY. -/
def specFiltApply : CmdSpec := { opcode := 0x030E, minLen := fun _ => 16, rule := .allOnly }

/-- FILT_APPLY. -/
def execFiltApply (s : State) : Host.Outcome State Fault Refusal := runCommand specFiltApply filtApplyBody s

/-- Paths whose set or set's coefficients change, and Nmax over them (R129). -/
def changedPaths (old staged : FirBank) : Mask64 × Nat :=
  let new := old.after staged
  let ps := (List.range 64).filter (fun p =>
    (Tab.find? staged.sets (new.of p)).isSome || new.of p != old.of p)
  (maskOf 64 ps, ps.foldl (fun n p => Nat.max n (Nat.max (old.set (old.of p)).taps (new.set (new.of p)).taps)) 0)

/-- EV_FILT_APPLIED. -/
def State.filtApplied (s : State) (dirs nmax t : Nat) : State :=
  let ns := (roundDiv (nmax * Config.outSample) Config.ns).toNat
  s.raiseEvent 0x0306 .info (le 1 dirs ++ zeros 1 ++ leSat 2 ns ++ le 4 s.delays.1 ++ s.ts64Bytes t)

/-- The transmit part of an apply takes effect. -/
def State.applyTxFilters (s : State) (staged : FirBank) : State :=
  let ch := changedPaths s.filt.tx staged
  let s := { s with filt := { s.filt with tx := s.filt.tx.after staged, txWaiting := none } }
  s.shareDelays.filtApplied 2 ch.2 s.now

/-- FILT_APPLY_INSTANT: the first pending apply takes effect; its transmit part waits for t4 of a burst in progress. -/
def execFiltApplyInstant (s : State) : Host.Outcome State Fault Refusal :=
  match s.filt.applies with
  | [] => .next s
  | a :: rest =>
    let s := s.advance a.due
    let s := { s with filt := { s.filt with applies := rest } }
    let late := s.burstInProgress
    let ch := match a.rx with | some b => changedPaths s.filt.rx b | none => (0#64, 0)
    let cht := match a.tx with | some b => changedPaths s.filt.tx b | none => (0#64, 0)
    let s := match a.rx with
      | some b =>
        let span : Span := { start := s.now, stop := s.now + ch.2 * Config.outSample }
        ({ s with filt := { s.filt with rx := s.filt.rx.after b, flagged := (ch.1, span) :: s.filt.flagged } }).discardSteps
      | none => s
    let txNow := a.tx.isSome && !late
    let s := match a.tx with
      | some b => if late then { s with filt := { s.filt with txWaiting := some { a with
                    rx := none, tx := some (match s.filt.txWaiting.bind (fun w => w.tx) with
                      | some w => w.after b
                      | none => b) } } }
                  else { s with filt := { s.filt with tx := s.filt.tx.after b } }
      | none => s
    if a.rx.isNone && !txNow then .next s
    else .next (s.shareDelays.filtApplied ((if a.rx.isSome then 1 else 0) + (if txNow then 2 else 0))
      (if txNow then Nat.max ch.2 cht.2 else ch.2) s.now)

/-! ### Detectors (R133 to R136) -/

/-- Configure one detector. -/
def configDetector (p : List Byte) (d : Detector) : Detector :=
  let en := u8 p 9 % 2 == 1
  { d with enable := en, event := u8 p 9 / 2 % 2 == 1, avgLog2 := u8 p 0xA, hyst := u8 p 0xB, level := s16 p 0xC,
           dwell := u16 p 0xE, holdoffMs := u16 p 0x10, asserted := d.asserted && en }

def setDetectorBody (r : Running) (s : State) : CmdEffect :=
  let p := r.cmd.payload
  if !(decide (u8 p 8 ≤ 1) && decide (u8 p 0xA ≤ 10) && decide (u8 p 0xB ≤ 100) && inRangeZ (-900) (s16 p 0xC) 0 &&
      decide (1 ≤ u16 p 0xE) && inRange 1 (u16 p 0x10) 10000) then .status s Status.badParam
  else
    let m := mask64 p 0
    let upper := u8 p 8 == 0
    let pat := u8 p 9 / 4 % 2 == 1
    let f := s.filt
    let f := if upper then
        { f with upper := (bitsOf m).foldl (fun t k => Tab.set t k (configDetector p (f.upperOf k))) f.upper
                 patternUpper := if pat then f.patternUpper ||| m else f.patternUpper &&& ~~~m
                 patternLower := if pat then f.patternLower &&& ~~~m else f.patternLower }
      else
        { f with lower := (bitsOf m).foldl (fun t k => Tab.set t k (configDetector p (f.lowerOf k))) f.lower
                 patternLower := if pat then f.patternLower ||| m else f.patternLower &&& ~~~m
                 patternUpper := if pat then f.patternUpper &&& ~~~m else f.patternUpper }
    .ok (({ s with filt := f }).patternMoved s.now) []

/-- The envelope of FILT_SET_DETECTOR. -/
def specFiltSetDetector : CmdSpec := { opcode := 0x030F, minLen := fun _ => 24 }

/-- FILT_SET_DETECTOR. -/
def execFiltSetDetector (s : State) : Host.Outcome State Fault Refusal := runCommand specFiltSetDetector setDetectorBody s

/-- A detector changes to `on` at the sample of stamp `t`, its averaged level in 0.1 dBFS. One that is disabled, or whose path
is not received, stays released (R133); the event follows unless the hold-off suppresses it (R136). -/
def State.detectorMoves (s : State) (t : Nat) (p : Nat) (lower on : Bool) (level : Int) : State :=
  let d := if lower then s.filt.lowerOf p else s.filt.upperOf p
  if !(d.enable && s.path.rxMask.getLsbD p) || d.asserted == on then s
  else
    let due := match d.eventAt with | none => true | some a => decide (a + d.holdoffMs * Config.ms ≤ s.now)
    let raise := d.event && due
    let d' := { d with
      asserted := on
      suppressed := if raise then 0 else if d.event then satAdd 16 d.suppressed 1 else d.suppressed
      eventAt := if raise then some s.now else d.eventAt }
    let s := if lower then { s with filt := { s.filt with lower := Tab.set s.filt.lower p d' } }
      else { s with filt := { s.filt with upper := Tab.set s.filt.upper p d' } }
    let s := if raise then s.raiseEvent 0x0305 .notice
        (le 1 p ++ b8 lower ++ b8 on ++ zeros 1 ++ leS 2 level ++ le 2 d.suppressed ++ s.ts64Bytes t)
      else s
    s.patternMoved t

/-- DETECTOR_ASSERT. -/
def execDetectorAssert (t : Nat) (p : Fin 64) (lower : Bool) (level : Int) (s : State) : Host.Outcome State Fault Refusal :=
  .next ((s.advance t).detectorMoves t p lower true level)

/-- DETECTOR_RELEASE. -/
def execDetectorRelease (t : Nat) (p : Fin 64) (lower : Bool) (level : Int) (s : State) : Host.Outcome State Fault Refusal :=
  .next ((s.advance t).detectorMoves t p lower false level)

/-- A path leaves the receive mask: its detectors are released (R133). -/
def State.releaseDetectors (s : State) (m : Mask64) : State :=
  let off := fun (k : Nat) (d : Detector) => if m.getLsbD k then { d with asserted := false } else d
  ({ s with filt := { s.filt with upper := Tab.mapVals s.filt.upper off, lower := Tab.mapVals s.filt.lower off } }).patternMoved s.now

/-! ### Status (Table FILT-9) -/

/-- Eight bytes of one set. -/
def FirSet.encode (x : FirSet) : List Byte := le 2 x.taps ++ b8 x.symmetric ++ zeros 1 ++ le 2 x.refDelay ++ zeros 2

/-- Paths in set k. -/
def FirBank.maskOfSet (b : FirBank) (k : Nat) : Mask64 := maskOf 64 ((List.range 64).filter (fun p => b.of p == k))

/-- Response of FILT_GET_STATUS. -/
def State.filtStatus (s : State) : List Byte :=
  let f := s.filt
  le 4 s.delays.1 ++ le 4 s.delays.2 ++ (List.range 4).flatMap (fun k => (f.rx.set k).encode) ++
    (List.range 4).flatMap (fun k => (f.tx.set k).encode) ++
    (List.range 4).flatMap (fun k => le 8 (f.rx.maskOfSet k).toNat) ++
    (List.range 4).flatMap (fun k => le 8 (f.tx.maskOfSet k).toNat) ++ le 8 s.pattern.toNat ++
    le 8 (maskOf 64 ((List.range 64).filter s.upperOn)).toNat ++ le 8 (maskOf 64 ((List.range 64).filter s.lowerOn)).toNat ++
    (List.range 64).flatMap (fun p => le 2 (Tab.get f.rxSat p 0)) ++
    (List.range 64).flatMap (fun p => le 2 (Tab.get f.txSat p 0)) ++
    le 1 ((if f.stagedRx.any then 1 else 0) + (if f.stagedTx.any then 2 else 0)) ++ zeros 7

def filtGetStatusBody (_ : Running) (s : State) : CmdEffect :=
  .ok { s with filt := { s.filt with rxSat := [], txSat := [] } } s.filtStatus

/-- The envelope of FILT_GET_STATUS. -/
def specFiltGetStatus : CmdSpec := { opcode := 0x0310 }

/-- FILT_GET_STATUS. -/
def execFiltGetStatus (s : State) : Host.Outcome State Fault Refusal := runCommand specFiltGetStatus filtGetStatusBody s

end Sys2Proof.Machine
end

