-- ==== Sys2Proof/Machine/Path.lean ====
section
/-!
DEFINITION. Transceiver paths, common gain, AGC and auxiliary converters (spec/03).
-/

namespace Sys2Proof.Machine

open Sys2Proof

/-! ### Converter words (R55, R66) -/

/-- An ADC word in its 16-bit container: bits [15:2] (R55). -/
def adcContainer (w : Int) : Int := 4 * w

/-- A DAC word from a 16-bit sample: convergent to 14 bits, saturated at −8,192 and +8,191; true where it saturated (R66). -/
def dacWord (x : Int) : Int × Bool :=
  let v := roundShift x 2
  if v > 8191 then (8191, true) else if v < -8192 then (-8192, true) else (v, false)

/-! ### Masks (R69, R70) -/

/-- Checks of PATH_SET_ENABLE (R69, R325). -/
def setEnableCheck (r : Running) (s : State) : Option Nat :=
  let rx := mask64 r.cmd.payload 0
  let tx := mask64 r.cmd.payload 8
  firstFailure
    [((rx &&& s.spare.rxRetired) == 0#64 && (tx &&& s.spare.txRetired) == 0#64, Status.pathRetired),
     ((rx == 0#64 && tx == 0#64) || s.refDelaysMatch, Status.filtDelayMismatch)]

/-- A new receive mask: in RX a path put in feeds zero for 8 us. -/
def State.setRxMask (s : State) (m : Mask64) : State :=
  let added := bitsOf (m &&& ~~~s.path.rxMask)
  let keep := s.path.settling.filter (fun p => m.getLsbD p.1)
  let settling := if s.receiving then added.foldl (fun t p => Tab.set t p (s.now + 8 * Config.us)) keep else keep
  let gone := s.path.rxMask &&& ~~~m
  ({ s with path := { s.path with rxMask := m, settling := settling } }).releaseDetectors gone

/-- A new transmit mask: during a burst it waits for the end of the ramp-down. -/
def State.setTxMask (s : State) (m : Mask64) : State :=
  if s.burstInProgress then { s with path := { s.path with txMaskNext := some m } }
  else { s with path := { s.path with txMask := m, txMaskNext := none } }

def setEnableBody (r : Running) (s : State) : CmdEffect :=
  match setEnableCheck r s with
  | some st => .status s st
  | none =>
    let p := r.cmd.payload
    .ok (((s.setRxMask (mask64 p 0)).setTxMask (mask64 p 8)).pathsEnabled
      ((mask64 p 0 ||| mask64 p 8) &&& ~~~s.enabledPaths)) (bytesAt p 0 16)

/-- The envelope of PATH_SET_ENABLE. -/
def specPathSetEnable : CmdSpec := { opcode := 0x0301, minLen := fun _ => 16 }

/-- PATH_SET_ENABLE. -/
def execPathSetEnable (s : State) : Host.Outcome State Fault Refusal := runCommand specPathSetEnable setEnableBody s

/-- PATH_RX_ENABLE_SETTLE: 8 us after path `p` was put in, it feeds its samples. -/
def execPathRxEnableSettle (p : Fin 64) (s : State) : Host.Outcome State Fault Refusal :=
  match Tab.find? s.path.settling p.val with
  | none => .next s
  | some t =>
    let s := s.advance t
    .next { s with path := { s.path with settling := Tab.erase s.path.settling p } }

/-! ### Gain (R57 to R61, R540) -/

/-- The slot a new change takes: that of a pending change of the same instant, else the lowest free (R59). -/
def gainSlot (slots : Tab GainSlot) (immediate : Bool) (d : Int) : Option Nat :=
  match List.find? (fun (p : Nat × GainSlot) => !immediate && !p.2.immediate && p.2.device == d) slots with
  | some p => some p.1
  | none => (List.range 4).find? (fun k => (Tab.find? slots k).isNone)

def setGainBody (r : Running) (s : State) : CmdEffect :=
  let p := r.cmd.payload
  let imm := u8 p 1 % 2 == 1
  let d := s.instantOf p 8
  if u8 p 0 > 15 then .status s Status.badParam
  else if !imm && !s.timeUsable then .status s Status.timeInvalid
  else
    let due := s.dueInstant r imm d (100 * Config.us) Config.adcSample
    match gainSlot s.path.slots imm d with
    | none => .status s Status.noResource
    | some k =>
      let slot : GainSlot := { due := due, device := d, immediate := imm, step := u8 p 0 }
      .ok { s with path := { s.path with slots := Tab.set s.path.slots k slot } } (s.ts64Bytes due ++ le 1 k)

/-- The envelope of PATH_SET_GAIN. -/
def specPathSetGain : CmdSpec := { opcode := 0x0302, minLen := fun _ => 16, rule := .allOnly }

/-- PATH_SET_GAIN. -/
def execPathSetGain (s : State) : Host.Outcome State Fault Refusal := runCommand specPathSetGain setGainBody s

/-- Length of N samples at 38.4 Msps in nanoseconds, to the nearest. -/
def samplesNs (n : Nat) : Nat := (roundDiv (n * Config.outSample) Config.ns).toNat

/-- An applied gain change at instant `g` (R60, R61, R63, R182): step, epoch, flagged interval, fresh AGC window, noise
estimates, and the event. -/
def State.applyGain (s : State) (g new cause : Nat) : State :=
  let old := s.path.step
  let n := s.maxRxTaps
  let ep := (s.path.epoch + 1) % 256
  let flag : Span := { start := g - n * Config.outSample, stop := g + 300 * Config.ns + n * Config.outSample }
  let s := { s with path := { s.path with
    step := new, epoch := ep, flagged := flag :: s.path.flagged, decided := none
    windowStart := g, hold := 0, rxTime := 0, rxSince := s.path.rxSince.map (fun t => Nat.max t g) } }
  let s := s.offsetNoise (300 * ((new : Int) - (old : Int)))
  let s := (s.gainStepSets new).discardSteps
  s.raiseEvent 0x0301 .info
    (le 1 old ++ le 1 new ++ le 1 cause ++ le 1 ep ++ s.ts64Bytes g ++ leSat 2 (samplesNs n) ++ leSat 2 (300 + samplesNs n))

/-- The pending change that falls due first: slot, instant and step; a decision of the AGC has no slot. -/
def State.nextGain (s : State) : Option (Option Nat × Nat × Nat × Nat) :=
  let slots := s.path.slots.map (fun p => (some p.1, p.2.due, p.2.step, 0))
  let all := slots ++ (match s.path.decided with | some (t, n, c) => [(none, t, n, c)] | none => [])
  all.foldl (fun best x => match best with
    | none => some x
    | some b => if x.2.1 < b.2.1 then some x else some b) none

/-- GAIN_CHANGE_APPLY (R59 to R63): the first pending change reaches its sample. A change that does not move the step frees
its slot and does nothing else; a scheduled change on the AGC's sample discards the decision. -/
def execGainChangeApply (s : State) : Host.Outcome State Fault Refusal :=
  match s.nextGain with
  | none => .next s
  | some (slot, due, step, cause) =>
    let s := s.advance due
    let s := match slot with
      | some k => { s with path := { s.path with slots := Tab.erase s.path.slots k } }
      | none => { s with path := { s.path with decided := none } }
    if step = s.path.step then .next s else .next (s.applyGain due step cause)

/-! ### Array AGC (R62 to R65) -/

def setAgcCheck (p : List Byte) : Bool :=
  decide (u8 p 0 ≤ 1) && decide (u8 p 1 ≤ 15) && decide (u8 p 2 ≤ 15) && decide (u8 p 1 ≤ u8 p 2) &&
    inRange 1 (u8 p 3) 4 && decide (1 ≤ u16 p 4) && inRange 6 (u8 p 6) 30 && inRange 1 (u8 p 7) 100

def setAgcBody (r : Running) (s : State) : CmdEffect :=
  let p := r.cmd.payload
  if !setAgcCheck p then .status s Status.badParam
  else
    let en := u8 p 0 == 1
    let fresh := en && !s.path.agcEnable
    let q := { s.path with
      agcEnable := en, stepMin := u8 p 1, stepMax := u8 p 2, decSteps := u8 p 3, ovrLimit := u16 p 4
      headroomDb := u8 p 6, incHold := u8 p 7 }
    let q := if fresh then { q with windowStart := s.now, hold := 0, rxTime := 0, rxSince := q.rxSince.map (fun _ => s.now) }
             else q
    .ok { s with path := q } []

/-- The envelope of PATH_SET_AGC. -/
def specPathSetAgc : CmdSpec := { opcode := 0x0303, minLen := fun _ => 8, rule := .managerOnly }

/-- PATH_SET_AGC. -/
def execPathSetAgc (s : State) : Host.Outcome State Fault Refusal := runCommand specPathSetAgc setAgcBody s

/-- The highest count and the lowest path that has it. -/
def highestCount : List Nat → Nat → Nat × Nat → Nat × Nat
  | [], _, best => best
  | v :: r, k, best => highestCount r (k + 1) (if v > best.1 then (v, k) else best)

/-- Time spent in RX within the window that ends at `stop`. -/
def PathUnit.rxWithin (q : PathUnit) (stop : Nat) : Nat :=
  q.rxTime + (match q.rxSince with | some t => stop - Nat.max t q.windowStart | none => 0)

/-- The decision at the end of a window (R62): the new step and the new hold count. `counted` says that the window held at
least 5 ms of RX. -/
def PathUnit.agcDecision (q : PathUnit) (counted : Bool) (maxOvr : Nat) (peak : Int) : Nat × Nat :=
  if !counted then (q.step, q.hold)
  else if q.step > q.stepMax then (q.stepMax, 0)
  else if q.step < q.stepMin then (q.stepMin, 0)
  else if maxOvr > q.ovrLimit then (Nat.max q.stepMin (q.step - q.decSteps), 0)
  else if maxOvr = 0 ∧ peak < -(100 * ((q.headroomDb : Int) + 3)) then
    if q.hold + 1 ≥ q.incHold then (Nat.min q.stepMax (q.step + 1), q.hold + 1) else (q.step, q.hold + 1)
  else (q.step, 0)

/-- AGC_WINDOW_END: the window's overrange counts and the highest filtered magnitude, with the saturations since the last window
ended (R125, R141). A worker, whose AGC is held disabled, reports to the manager (R64). -/
def execAgcWindowEnd (x : WindowStats) (s : State) : Host.Outcome State Fault Refusal :=
  let ovr := x.ovr
  let peak := x.peak
  let stop := s.path.windowStart + 10 * Config.ms
  let s := (s.advance stop).countRx x
  let masked := (List.range ovr.length).map (fun k =>
    let c := Nat.min 65535 (ovr.getD k 0)
    if k < 64 && !s.path.rxMask.getLsbD k then 0 else c)
  let hi := highestCount masked 0 (0, 0)
  let own := highestCount (masked.take 64) 0 (0, 0)
  let counted := decide (5 * Config.ms ≤ s.path.rxWithin stop)
  let q := s.path
  let counts := ((List.range 64).zip (ovr.map (Nat.min 65535))).filter (fun p => p.2 != 0)
  let dec := if q.agcEnable && !s.isWorker then q.agcDecision counted hi.1 peak else (q.step, q.hold)
  let grid := Config.adcSample
  let lead := if s.role = .manager ∧ !s.joinedWorkers.isEmpty then 200 * Config.us else 0
  let decided := if dec.1 = q.step then q.decided else some (s.sampleAt (stop + lead) grid, dec.1, 1)
  let s1 := { s with path := { q with
    ovrCounts := counts, windowStart := stop, hold := dec.2, rxTime := 0
    rxSince := q.rxSince.map (fun _ => stop), decided := decided } }
  let s2 := if s.isWorker then
      s1.toManager 5 (le 1 3 ++ masked.flatMap (le 2) ++ leS 2 peak)
    else if dec.1 ≠ q.step ∧ s.inCascade then s1.gainToWorkers (s.sampleAt (stop + lead) grid) dec.1 1
    else s1
  if (s.isWorker || !q.agcEnable || q.step = q.stepMin) && decide (own.1 > q.ovrLimit) then
    .next (s2.raiseEvent 0x0302 .warn (le 1 own.2 ++ le 1 q.step ++ le 2 own.1 ++ zeros 12))
  else .next s2

/-! ### Attenuation, line timing, observation (R67, R68, R72, R75, R77) -/

def setAttenBody (r : Running) (s : State) : CmdEffect :=
  let p := r.cmd.payload
  let m := mask64 p 0
  let a := u8 p 8
  if a > 15 then .status s Status.badParam
  else
    let busy := (bitsOf m).filter (fun k => s.burstOnPath k)
    let free := (bitsOf m).filter (fun k => !s.burstOnPath k)
    let s := { s with path := { s.path with
      atten := Tab.update s.path.atten free 0 (fun _ _ => a)
      attenNext := Tab.update (free.foldl Tab.erase s.path.attenNext) busy 0 (fun _ _ => a) } }
    .ok s []

/-- The envelope of PATH_SET_TX_ATTEN. -/
def specPathSetTxAtten : CmdSpec := { opcode := 0x0304, minLen := fun _ => 16 }

/-- PATH_SET_TX_ATTEN. -/
def execPathSetTxAtten (s : State) : Host.Outcome State Fault Refusal := runCommand specPathSetTxAtten setAttenBody s

def setFeTimingBody (r : Running) (s : State) : CmdEffect :=
  let p := r.cmd.payload
  if inRange 5 (u16 p 0) 150 && inRange 5 (u16 p 2) 100 && decide (u16 p 4 ≤ 100) then
    .ok { s with path := { s.path with trswLead := u16 p 0, trswLag := u16 p 2, rxBlank := u16 p 4 } } []
  else .status s Status.badParam

/-- The envelope of PATH_SET_FE_TIMING. -/
def specPathSetFeTiming : CmdSpec := { opcode := 0x0305, minLen := fun _ => 8 }

/-- PATH_SET_FE_TIMING. -/
def execPathSetFeTiming (s : State) : Host.Outcome State Fault Refusal := runCommand specPathSetFeTiming setFeTimingBody s

def setObsBody (r : Running) (s : State) : CmdEffect :=
  let p := r.cmd.payload
  if u8 p 2 ≤ 15 then
    .ok { s with path := { s.path with
      obsAtten := Tab.update s.path.obsAtten (bitsOf (BitVec.ofNat 16 (u16 p 0))) 10 (fun _ _ => u8 p 2) } } []
  else .status s Status.badParam

/-- The envelope of PATH_SET_OBS. -/
def specPathSetObs : CmdSpec := { opcode := 0x0306, minLen := fun _ => 8 }

/-- PATH_SET_OBS. -/
def execPathSetObs (s : State) : Host.Outcome State Fault Refusal := runCommand specPathSetObs setObsBody s

/-! ### Status (R88, Table PATH-7) -/

/-- Response of PATH_GET_STATUS. -/
def State.pathStatus (s : State) : List Byte :=
  let q := s.path
  le 1 q.step ++ le 1 q.epoch ++ b8 (q.agcEnable && !s.isWorker) ++ le 1 q.slots.length ++ zeros 4 ++
    le 8 q.rxMask.toNat ++ le 8 q.txMask.toNat ++ le 8 s.spare.rxRetired.toNat ++ le 8 s.spare.txRetired.toNat ++
    (List.range 64).flatMap (fun p => le 2 (Tab.get q.ovrCounts p 0)) ++
    (List.range 64).flatMap (fun p => le 2 (Tab.get q.txClip p 0))

def pathStatusBody (_ : Running) (s : State) : CmdEffect :=
  .ok { s with path := { s.path with txClip := [] } } s.pathStatus

/-- The envelope of PATH_GET_STATUS. -/
def specPathGetStatus : CmdSpec := { opcode := 0x0307 }

/-- PATH_GET_STATUS. -/
def execPathGetStatus (s : State) : Host.Outcome State Fault Refusal := runCommand specPathGetStatus pathStatusBody s

/-! ### Monitor ADC (R79 to R82) -/

def auxAdcConfigCheck (p : List Byte) : Bool :=
  decide (u8 p 0 ≤ 15) && decide (u8 p 1 ≤ 1) && decide (u8 p 2 ≤ 8) && decide (u8 p 3 ≤ 1) &&
    inRange 1000 (u32 p 4) 10000000 && decide (u16 p 8 ≤ 4095) && decide (u16 p 10 ≤ 4095) &&
    decide (u16 p 8 ≤ u16 p 10)

def auxAdcConfigBody (r : Running) (s : State) : CmdEffect :=
  let p := r.cmd.payload
  if !auxAdcConfigCheck p then .status s Status.badParam
  else
    let c := Tab.get s.path.adc (u8 p 0) {}
    let c := { c with enable := u8 p 1 == 1, avgLog2 := u8 p 2, openTest := u8 p 3 == 1, periodUs := u32 p 4
                      limitLo := u16 p 8, limitHi := u16 p 10, sum := 0, count := 0 }
    .ok { s with path := { s.path with adc := Tab.set s.path.adc (u8 p 0) c } } []

/-- The envelope of PATH_AUX_ADC_CONFIG. -/
def specPathAuxAdcConfig : CmdSpec := { opcode := 0x0308, minLen := fun _ => 16 }

/-- PATH_AUX_ADC_CONFIG. -/
def execPathAuxAdcConfig (s : State) : Host.Outcome State Fault Refusal := runCommand specPathAuxAdcConfig auxAdcConfigBody s

/-- FLAGS of a channel in PATH_AUX_ADC_READ. -/
def AuxAdc.flags (c : AuxAdc) : Nat :=
  (if c.valid then 1 else 0) + (if c.isOpen then 2 else 0) + (if c.low then 4 else 0) + (if c.high then 8 else 0)

/-- Response of PATH_AUX_ADC_READ: unselected channels read zero. -/
def State.auxAdcRead (s : State) (m : BitVec 16) : List Byte :=
  (List.range 16).flatMap (fun k =>
    let c := Tab.get s.path.adc k {}
    if m.getLsbD k then le 2 c.code ++ le 2 c.flags else zeros 4)

def auxAdcReadBody (r : Running) (s : State) : CmdEffect :=
  .ok s (s.auxAdcRead (BitVec.ofNat 16 (u16 r.cmd.payload 0)))

/-- The envelope of PATH_AUX_ADC_READ. -/
def specPathAuxAdcRead : CmdSpec := { opcode := 0x0309, minLen := fun _ => 4 }

/-- PATH_AUX_ADC_READ. -/
def execPathAuxAdcRead (s : State) : Host.Outcome State Fault Refusal := runCommand specPathAuxAdcRead auxAdcReadBody s

/-- One conversion of a channel: the average so far, and the result it completes, if it does. -/
def AuxAdc.convert (c : AuxAdc) (raw : Nat) : AuxAdc × Option Nat :=
  let n := 2 ^ c.avgLog2
  if c.count + 1 < n then ({ c with sum := c.sum + raw, count := c.count + 1 }, none)
  else
    let v := (c.sum + raw + n / 2) / n
    ({ c with sum := 0, count := 0, code := v, valid := true, low := v < c.limitLo, high := v > c.limitHi }, some v)

/-- AUX_ADC_CONVERSION: channel `c` converts to `raw`; a result outside a limit raises the event, once until a result returns inside
the limits (R82). -/
def execAuxAdcConversion (t : Nat) (c : Fin 16) (raw : BitVec 12) (s : State) : Host.Outcome State Fault Refusal :=
  let s := s.advance t
  let old := Tab.get s.path.adc c.val {}
  if !old.enable then .next s
  else
    let r := old.convert raw.toNat
    let s := { s with path := { s.path with adc := Tab.set s.path.adc c r.1 } }
    match r.2 with
    | none => .next s
    | some v =>
      let inside := !r.1.low && !r.1.high
      let ch := { r.1 with
        lowTold := !inside && (old.lowTold || r.1.low), highTold := !inside && (old.highTold || r.1.high) }
      let s := { s with path := { s.path with adc := Tab.set s.path.adc c ch } }
      if (r.1.low && !old.lowTold) || (r.1.high && !old.highTold) then
        let f := (if r.1.low then 4 else 0) + (if r.1.high then 8 else 0)
        .next (s.raiseEvent 0x0303 .warn (le 1 c ++ le 1 f ++ le 2 v ++ zeros 12))
      else .next s

/-- AUX_OPEN_TEST (R81): open when the pull-up result is at least 3,755 and the pull-down result at most 341. -/
def execAuxOpenTest (t : Nat) (c : Fin 16) (up down : BitVec 12) (s : State) : Host.Outcome State Fault Refusal :=
  let s := s.advance t
  let ch := Tab.get s.path.adc c.val {}
  if !ch.enable || !ch.openTest then .next s
  else
    let o := decide (3755 ≤ up.toNat) && decide (down.toNat ≤ 341)
    let s := { s with path := { s.path with adc := Tab.set s.path.adc c { ch with isOpen := o } } }
    if o then .next (s.raiseEvent 0x0304 .error (le 1 c ++ zeros 1 ++ le 2 up.toNat ++ le 2 down.toNat ++ zeros 10))
    else .next s

/-! ### Auxiliary DACs (R83 to R87, R89) -/

/-- Units of one update of the auxiliary DACs, 1/2.4 MHz. -/
def dacUpdate : Nat := 160_000

/-- The target of the next update: CODE, the safe code, or the sine; true where it was clamped (R85). -/
def AuxDac.target (d : AuxDac) : Nat × Bool :=
  if d.mode = .sine then
    let v := (d.code : Int) + roundDiv ((d.amplitude : Int) * fxSin ((d.phase : Int) * 256)) (2 ^ 60)
    if v < 0 then (0, true) else if v > 65535 then (65535, true) else (v.toNat, false)
  else (if d.safe then d.safeCode else d.code, false)

/-- Move `out` toward `x` by at most SLEW (R86). -/
def slewTo (slew out x : Nat) : Nat :=
  if slew = 0 then x
  else if out ≤ x then Nat.min x (out + slew) else Nat.max x (out - slew)

/-- One update of a driven channel. -/
def AuxDac.update (d : AuxDac) : AuxDac :=
  let x := d.target
  { d with
    out := slewTo d.slew d.out x.1
    phase := if d.mode = .sine then (d.phase + d.freq) % 2 ^ 24 else d.phase
    clamped := d.clamped + (if x.2 then 1 else 0) }

/-- `n` updates. -/
def AuxDac.run : Nat → AuxDac → AuxDac
  | 0, d => d
  | n + 1, d => AuxDac.run n d.update

/-- The channel as it stands at local time `t`. -/
def AuxDac.settle (d : AuxDac) (t : Nat) : AuxDac :=
  if d.mode = .highZ then { d with outAt := t }
  else { AuxDac.run (t / dacUpdate - d.outAt / dacUpdate) d with outAt := t }

/-- R87: on a transmit trip, and when a burst ends ABORTED_THERMAL, driven channels with SAFE_ON_TRIP move to SAFE_CODE. -/
def State.safeDacs (s : State) : State :=
  { s with path := { s.path with dac := Tab.mapVals s.path.dac (fun _ d =>
      if d.safeOnTrip && d.mode != .highZ then { d.settle s.now with mode := .static, safe := true } else d) } }

def auxDacSetCheck (p : List Byte) : Bool :=
  decide (u8 p 0 ≤ 15) && decide (u8 p 1 ≤ 2) && decide (u8 p 8 ≤ 1)

/-- The channel after PATH_AUX_DAC_SET: entering static from high impedance loads CODE at once; a running sine goes on
around the new CODE. -/
def AuxDac.set (d : AuxDac) (mode code slew safeCode : Nat) (safeOnTrip : Bool) : AuxDac :=
  let d := { d with code := code, slew := slew, safeCode := safeCode, safeOnTrip := safeOnTrip, safe := false }
  if mode = 0 then { d with mode := .highZ }
  else if mode = 1 ∧ d.mode = .highZ then { d with mode := .static, out := code }
  else d

def auxDacSetBody (r : Running) (s : State) : CmdEffect :=
  let p := r.cmd.payload
  if !auxDacSetCheck p then .status s Status.badParam
  else
    let d := (Tab.get s.path.dac (u8 p 0) {}).settle s.now
    let d := d.set (u8 p 1) (u16 p 2) (u16 p 4) (u16 p 6) (u8 p 8 == 1)
    .ok { s with path := { s.path with dac := Tab.set s.path.dac (u8 p 0) d } } []

/-- The envelope of PATH_AUX_DAC_SET. -/
def specPathAuxDacSet : CmdSpec := { opcode := 0x030A, minLen := fun _ => 16 }

/-- PATH_AUX_DAC_SET. -/
def execPathAuxDacSet (s : State) : Host.Outcome State Fault Refusal := runCommand specPathAuxDacSet auxDacSetBody s

def auxDacSineCheck (p : List Byte) : Bool :=
  decide (u8 p 0 ≤ 15) && inRange 1 (u32 p 4 % 2 ^ 24) 699051 && decide (u16 p 8 ≤ 32767)

def auxDacSineBody (r : Running) (s : State) : CmdEffect :=
  let p := r.cmd.payload
  let d := (Tab.get s.path.dac (u8 p 0) {}).settle s.now
  if !auxDacSineCheck p then .status s Status.badParam
  else if d.mode = .highZ then .status s Status.wrongState
  else
    let d := if u16 p 8 = 0 then { d with mode := .static, safe := false }
             else { d with mode := .sine, safe := false, freq := u32 p 4 % 2 ^ 24, amplitude := u16 p 8
                           phase := u16 p 10 * 256 }
    .ok { s with path := { s.path with dac := Tab.set s.path.dac (u8 p 0) d } } []

/-- The envelope of PATH_AUX_DAC_SINE. -/
def specPathAuxDacSine : CmdSpec := { opcode := 0x030B, minLen := fun _ => 16 }

/-- PATH_AUX_DAC_SINE. -/
def execPathAuxDacSine (s : State) : Host.Outcome State Fault Refusal := runCommand specPathAuxDacSine auxDacSineBody s

end Sys2Proof.Machine
end

