-- ==== Sys2Proof/Machine/Sha.lean ====
section
/-!
DEFINITION. SHA-256 (the digest that R492, R493 and R497 name; PRESUMED from FIPS 180-4, which the spec does not restate).
-/

namespace Sys2Proof.Machine

open Sys2Proof

/-- The round constants. -/
def shaK : List Nat :=
  [0x428a2f98, 0x71374491, 0xb5c0fbcf, 0xe9b5dba5, 0x3956c25b, 0x59f111f1, 0x923f82a4, 0xab1c5ed5,
   0xd807aa98, 0x12835b01, 0x243185be, 0x550c7dc3, 0x72be5d74, 0x80deb1fe, 0x9bdc06a7, 0xc19bf174,
   0xe49b69c1, 0xefbe4786, 0x0fc19dc6, 0x240ca1cc, 0x2de92c6f, 0x4a7484aa, 0x5cb0a9dc, 0x76f988da,
   0x983e5152, 0xa831c66d, 0xb00327c8, 0xbf597fc7, 0xc6e00bf3, 0xd5a79147, 0x06ca6351, 0x14292967,
   0x27b70a85, 0x2e1b2138, 0x4d2c6dfc, 0x53380d13, 0x650a7354, 0x766a0abb, 0x81c2c92e, 0x92722c85,
   0xa2bfe8a1, 0xa81a664b, 0xc24b8b70, 0xc76c51a3, 0xd192e819, 0xd6990624, 0xf40e3585, 0x106aa070,
   0x19a4c116, 0x1e376c08, 0x2748774c, 0x34b0bcb5, 0x391c0cb3, 0x4ed8aa4a, 0x5b9cca4f, 0x682e6ff3,
   0x748f82ee, 0x78a5636f, 0x84c87814, 0x8cc70208, 0x90befffa, 0xa4506ceb, 0xbef9a3f7, 0xc67178f2]

/-- The initial hash value. -/
def shaInit : List Nat :=
  [0x6a09e667, 0xbb67ae85, 0x3c6ef372, 0xa54ff53a, 0x510e527f, 0x9b05688c, 0x1f83d9ab, 0x5be0cd19]

/-- Rotate right. -/
def rotr (x : Word) (n : Nat) : Word := (x >>> n) ||| (x <<< (32 - n))

/-- Extend the newest-first message schedule by one word. -/
def shaNext (w : List Word) : Word :=
  let a := w.getD 1 0#32
  let b := w.getD 14 0#32
  let s1 := rotr a 17 ^^^ rotr a 19 ^^^ (a >>> 10)
  let s0 := rotr b 7 ^^^ rotr b 18 ^^^ (b >>> 3)
  s1 + w.getD 6 0#32 + s0 + w.getD 15 0#32

/-- The schedule, newest first, `n` words longer. -/
def shaSchedule : Nat → List Word → List Word
  | 0, w => w
  | n + 1, w => shaSchedule n (shaNext w :: w)

/-- One round on the eight working words. -/
def shaRound (v : List Word) (kw : Word) : List Word :=
  match v with
  | [a, b, c, d, e, f, g, h] =>
    let s1 := rotr e 6 ^^^ rotr e 11 ^^^ rotr e 25
    let ch := (e &&& f) ^^^ (~~~e &&& g)
    let t1 := h + s1 + ch + kw
    let s0 := rotr a 2 ^^^ rotr a 13 ^^^ rotr a 22
    let mj := (a &&& b) ^^^ (a &&& c) ^^^ (b &&& c)
    [t1 + s0 + mj, a, b, c, d + t1, e, f, g]
  | _ => v

/-- One block of 16 words. -/
def shaBlock (h : List Word) (m : List Word) : List Word :=
  let w := (shaSchedule 48 m.reverse).reverse
  let v := ((shaK.map (BitVec.ofNat 32)).zip w).foldl (fun acc kw => shaRound acc (kw.1 + kw.2)) h
  (h.zip v).map (fun p => p.1 + p.2)

/-- The message with its padding. -/
def shaPad (p : List Byte) : List Byte :=
  let l := p.length
  p ++ [0x80#8] ++ zeros ((119 - l % 64) % 64) ++ be 8 (8 * l)

/-- Blocks taken one after another, `n` at most. -/
def shaBlocks : Nat → List Word → List Byte → List Word
  | 0, h, _ => h
  | n + 1, h, p =>
    shaBlocks n (shaBlock h ((List.range 16).map (fun k => BitVec.ofNat 32 (beNat p (4 * k) 4)))) (p.drop 64)

/-- The SHA-256 digest, 32 bytes. -/
def sha256 (p : List Byte) : List Byte :=
  let m := shaPad p
  (shaBlocks (m.length / 64) (shaInit.map (BitVec.ofNat 32)) m).flatMap (fun w => be 4 w.toNat)

end Sys2Proof.Machine
end

