-- ==== Sys2Proof/Machine/Record.lean ====
section
/-!
DEFINITION. The sealed regulatory record (R243, R244, Tables TX-5 and TX-6) and the saved duty history (R242).
-/

namespace Sys2Proof.Machine

open Sys2Proof

/-- Length of a record. -/
def recordLen : Nat := 608

/-- VERSION of a record. -/
def recordVersion (p : List Byte) : Nat := u32 p 4

/-- One sub-band entry. -/
def subbandAt (p : List Byte) (i : Nat) : Subband :=
  let o := 0x10 + 32 * i
  { chLow := u32 p o, chHigh := u32 p (o + 4), loLowKHz := u32 p (o + 8), loHighKHz := u32 p (o + 12),
    maxLevel := s16 p (o + 16), dutyMax := u16 p (o + 18), windowS := u32 p (o + 20), minOffUs := u32 p (o + 24) }

/-- The fields of a sub-band lie in their ranges. -/
def Subband.ok (b : Subband) : Bool :=
  decide (b.chLow < b.chHigh) && inRangeZ (-9000) b.maxLevel 0 && inRange 1 b.dutyMax 10000 && inRange 1 b.windowS 3600 &&
    decide (b.minOffUs ≤ 10000000)

/-- The sub-bands of a record. -/
def recordBands (p : List Byte) : List Subband := (List.range (u8 p 2)).map (subbandAt p)

/-- CRC32 and field ranges. -/
def recordWhole (p : List Byte) : Bool :=
  p.length == recordLen && crc32 (p.take 0x25C) == u32 p 0x25C && u16 p 0 == 1 && inRange 1 (u8 p 2) 16 &&
    (recordBands p).all Subband.ok

/-- The signature verifies against the provisioned OEM key. -/
def State.recordSigned (s : State) (p : List Byte) : Bool :=
  match s.nv.oemKey with
  | none => false
  | some k => Config.ecdsaVerify k (sha256 (p.take 0x210)) (bytesAt p 0x210 64)

/-- The record of the stored bytes, when its check passes (R244). -/
def State.storedRecord (s : State) : Option (Nat × List Subband) :=
  match s.nv.regRecord with
  | none => none
  | some p =>
    if s.fuses.sealBit && recordWhole p && s.recordSigned p && !s.boot.keyFault && !s.nv.bad.contains .regulatory then some (recordVersion p, recordBands p) else none

/-- VERSION in force, 0 without a valid record. -/
def TxUnit.version (u : TxUnit) : Nat := match u.record with | some r => r.1 | none => 0

/-- The sub-bands in force. -/
def TxUnit.bands (u : TxUnit) : List Subband := match u.record with | some r => r.2 | none => []

/-- Two channel ranges share a span of non-zero width. -/
def Subband.meets (a b : Subband) : Bool := decide (a.chLow < b.chHigh) && decide (b.chLow < a.chHigh)

/-- History of a new sub-band: the largest window sum of any old sub-band that meets it, in the most recent slot (R243). -/
def State.carriedHistory (s : State) (b : Subband) : DutyHistory :=
  let old := (List.range s.tx.bands.length).zip s.tx.bands
  let most := old.foldl (fun m x => if x.2.meets b then Nat.max m (s.radiatedSum x.1 x.2) else m) 0
  { slots := if most = 0 then [] else [(slotOf s.boot.releasedAt b.slot s.now, most)] }

/-- A new record takes effect: histories, and the sub-bands of the requests admitted before. -/
def State.putRecord (s : State) (p : List Byte) : State :=
  let bands := recordBands p
  let duty := (List.range bands.length).zip (bands.map s.carriedHistory)
  let place := fun (b : Launch) => match findSubband bands s.loHz b.req with
    | .ok x => { b with subband := x.1 }
    | .error _ => { b with subband := 0xFF }
  { s with tx := { s.tx with record := some (recordVersion p, bands), duty := duty, queue := s.tx.queue.map place } }

/-- TX_REG_SUPERSEDE's record has been written (R243, R256). -/
def State.superseded (s : State) (p : List Byte) : State :=
  let old := s.tx.version
  let s := ({ s with nv := { s.nv with regRecord := some p, bad := s.nv.bad.filter (fun r => r != NvRecord.regulatory) } }).putRecord p
  s.raiseEvent 0x0704 .notice (le 4 old ++ le 4 (recordVersion p) ++ s.ts64Bytes s.now)

/-- EV_TX_REG_FAULT. -/
def State.regFault (s : State) (kind pos : Nat) : State :=
  s.raiseEvent 0x0705 .error (le 1 kind ++ le 1 pos ++ zeros 14)

/-- The duty history as it is saved: for each sub-band its slots, counted back from the newest (R242). -/
def State.dutySnapshot (s : State) : Tab (Tab Nat) :=
  (List.range s.tx.bands.length).zip (s.tx.bands.map id) |>.map (fun (x : Nat × Subband) =>
    let top := slotOf s.boot.releasedAt x.2.slot s.now
    (x.1, (Tab.get s.tx.duty x.1 {}).slots.filterMap (fun (p : Nat × Nat) => if p.1 ≤ top then some (top - p.1, p.2) else none)))

/-- The record check and the duty history at start-up, as READY rises (R242, R244): restored history stands immediately before
READY; without one, every sub-band counts as fully used. -/
def State.restoreDuty (s : State) : State :=
  let rec' := s.storedRecord
  let s := { s with tx := { s.tx with record := rec' } }
  let s := if s.nv.regRecord.isSome && rec'.isNone then s.regFault 0 0xFF else s
  match rec' with
  | none => s
  | some (_, bands) =>
    let r0 := s.boot.releasedAt
    let ix := (List.range bands.length).zip bands
    let saved := if s.nv.bad.contains .dutyHistory then none else s.nv.duty
    let duty := ix.map (fun x =>
      let top := slotOf r0 x.2.slot s.now - 1
      let slots : Tab Nat := match saved with
        | some h => (Tab.get h x.1 []).foldl (fun t p => Tab.set t (top - p.1) p.2) []
        | none => [(top, x.2.window)]
      (x.1, ({ slots := slots } : DutyHistory)))
    let s := { s with tx := { s.tx with duty := duty } }
    if saved.isNone then s.regFault 1 0xFF else s

end Sys2Proof.Machine
end

