-- ==== Sys2Proof/Machine/Syn.lean ====
section
/-!
DEFINITION. Synthesis and radio states (spec/04).
-/

namespace Sys2Proof.Machine

open Sys2Proof

/-! ### Base state and radio state (R92 to R95) -/

/-- The base state that STATE names. -/
def baseOf (n : Nat) : Option BaseState :=
  if n = 0 then some .standby else if n = 1 then some .loReady else if n = 2 then some .rx else none

/-- The device rests in STANDBY. -/
def State.inStandby (s : State) : Bool := s.radio.base == .standby && s.radio.state == .standby

/-- The active synthesiser was never given a frequency. -/
def State.neverTuned (s : State) : Bool :=
  let y := s.radio.synth s.radio.active
  y.setting.isNone && y.waiting.isNone

def setStateCheck (r : Running) (s : State) : Option Nat :=
  let p := r.cmd.payload
  let b := baseOf (u8 p 0)
  let imm := u8 p 1 % 2 == 1
  let force := u8 p 1 / 2 % 2 == 1
  firstFailure
    [(b.isSome && decide (u16 p 2 ≤ 10000), Status.badParam),
     (imm || s.timeUsable, Status.timeInvalid),
     (b != some BaseState.standby || force || s.tx.queue.isEmpty, Status.busy),
     (b == some BaseState.standby || !s.neverTuned, Status.wrongState)]

def setStateBody (r : Running) (s : State) : CmdEffect :=
  match setStateCheck r s, baseOf (u8 r.cmd.payload 0) with
  | some st, _ => .status s st
  | none, none => .status s Status.badParam
  | none, some b =>
    let p := r.cmd.payload
    let imm := u8 p 1 % 2 == 1
    let due := s.dueInstant r imm (s.instantOf p 8) lead100 Config.outSample
    .ok { s with radio := { s.radio with
      pending := some { base := b, linger := u16 p 2, due := .instant due, scheduled := !imm } } } []

/-- The envelope of SYN_SET_STATE. -/
def specSynSetState : CmdSpec := { opcode := 0x0201, minLen := fun _ => 16, rule := .allOnly }

/-- SYN_SET_STATE. -/
def execSynSetState (s : State) : Host.Outcome State Fault Refusal := runCommand specSynSetState setStateBody s

/-- The device is in TX, or on its way there, for a burst. -/
def State.inTxForBurst (s : State) : Bool := s.radio.wantTx && s.radio.lingerFrom.isNone && s.serving

/-- BASE_STATE_CHANGE: the pending change reaches its instant: it waits for t5 of a burst, or for lock of the active
synthesiser, or takes effect. -/
def execBaseStateChange (s : State) : Host.Outcome State Fault Refusal :=
  match s.radio.pending with
  | none => .next s
  | some c =>
    match c.due with
    | .instant t =>
      let s := s.advance t
      if s.inTxForBurst then .next { s with radio := { s.radio with pending := some { c with due := .atT5 } } }
      else if c.base ≠ .standby ∧ ((s.radio.synth s.radio.active).loop = .acquiring ∨
          s.spare.synFailed.contains s.radio.active = true) then
        .next { s with radio := { s.radio with pending := some { c with due := .atLock } } }
      else .next (s.baseTakesEffect c)
    | .atT5 => .next s
    | .atLock => .next s

/-- RADIO_TRANSITION_DONE: the transition in progress ends at `t`; out of STANDBY it needs the active synthesiser locked. -/
def execRadioTransitionDone (t : Nat) (s : State) : Host.Outcome State Fault Refusal :=
  let s := s.advance t
  match s.radio.moving with
  | none => .next s
  | some x => if s.radio.state = .standby ∧ s.activeLocked = false then .next s else .next (s.arrive x).pursue

/-! ### Modes, tuning, commits (R97 to R105) -/

def setModeCheck (r : Running) (s : State) : Option Nat :=
  let p := r.cmd.payload
  let k := u8 p 0
  let y := s.radio.synth k
  let pending := match s.radio.commit with | some c => (Tab.find? c.settings k).isSome | none => false
  let acquiring := y.loop == .acquiring || y.loop == .frozen || (match y.waiting with | some (_, some _) => true | _ => false)
  firstFailure
    [(decide (k ≤ 2) && decide (u8 p 1 ≤ 1) && inRange 5 (u8 p 2) 60, Status.badParam),
     (s.radio.inService k, Status.synNotInService),
     (!pending && !acquiring, Status.busy)]

def setModeBody (r : Running) (s : State) : CmdEffect :=
  match setModeCheck r s with
  | some st => .status s st
  | none =>
    let p := r.cmd.payload
    let commit := u8 p 1 == 1
    .ok (s.setSyn (u8 p 0) (fun y =>
      { y with commitMode := commit, tempWindow := u8 p 2, staged := if commit then y.staged else none })) []

/-- The envelope of SYN_SET_MODE. -/
def specSynSetMode : CmdSpec := { opcode := 0x0202, minLen := fun _ => 4 }

/-- SYN_SET_MODE. -/
def execSynSetMode (s : State) : Host.Outcome State Fault Refusal := runCommand specSynSetMode setModeBody s

/-- The setting that a SYN_TUNE asks for; a frequency outside Table SYN-2 gives none. -/
def State.tuneSetting (s : State) (p : List Byte) : Option LoSetting :=
  let k := u8 p 0
  let byEntry := u8 p 1 % 2 == 1
  let f := if byEntry then u32 (s.entryBytes k (u16 p 2)) 0 else u32 p 4
  loSetting f (if byEntry then some (u16 p 2) else none) (u8 p 1 / 2 % 2 == 1)

def tuneCheck (r : Running) (s : State) : Option Nat :=
  let p := r.cmd.payload
  let k := u8 p 0
  let byEntry := u8 p 1 % 2 == 1
  firstFailure
    [(decide (k ≤ 2) && (!byEntry || decide (u16 p 2 ≤ 255)), Status.badParam),
     (s.radio.inService k, Status.synNotInService),
     (k == s.radio.active || !s.inStandby, Status.wrongState),
     (!byEntry || s.entryValid k (u16 p 2), Status.entryInvalid),
     ((s.tuneSetting p).isSome, Status.loUnreachable)]

def tuneBody (r : Running) (s : State) : CmdEffect :=
  let p := r.cmd.payload
  let k := u8 p 0
  match tuneCheck r s, s.tuneSetting p with
  | some st, _ => .status s st
  | none, none => .status s Status.loUnreachable
  | none, some x =>
    let used := match (s.judgeEntry k x).2.1 with | some i => i | none => 0xFFFF
    let reply := le 8 (loMicroHz x.fcw x.divider) ++ le 4 x.fcw ++ le 1 x.divider ++ zeros 1 ++ le 2 used
    .ok (if (s.radio.synth k).commitMode then s.setSyn k (fun y => { y with staged := some x })
         else s.acquireOrWait k x r.reached) reply

/-- The envelope of SYN_TUNE. -/
def specSynTune : CmdSpec := { opcode := 0x0203, minLen := fun _ => 8 }

/-- SYN_TUNE. -/
def execSynTune (s : State) : Host.Outcome State Fault Refusal := runCommand specSynTune tuneBody s

/-- The synthesisers of a SYN_MASK. -/
def synMask (m : Nat) : List Nat := (List.range 3).filter (fun k => m / 2 ^ k % 2 == 1)

def commitCheck (r : Running) (s : State) : Option Nat :=
  let p := r.cmd.payload
  let ks := synMask (u8 p 0)
  firstFailure
    [(inRange 1 (u8 p 0) 7, Status.badParam),
     (u8 p 1 % 2 == 1 || s.timeUsable, Status.timeInvalid),
     (ks.all (fun k => s.radio.inService k), Status.synNotInService),
     (ks.all (fun k => (s.radio.synth k).commitMode && (s.radio.synth k).staged.isSome), Status.wrongState),
     (!s.inStandby || ks.all (fun k => k == s.radio.active), Status.wrongState)]

def commitBody (r : Running) (s : State) : CmdEffect :=
  match commitCheck r s with
  | some st => .status s st
  | none =>
    let p := r.cmd.payload
    let imm := u8 p 1 % 2 == 1
    let due := s.dueInstant r imm (s.instantOf p 8) lead100 Config.outSample
    let c : Commit :=
      { settings := (synMask (u8 p 0)).filterMap (fun k => (s.radio.synth k).staged.map (fun x => (k, x))),
        due := due, since := r.reached, scheduled := !imm }
    .ok { s with radio := { s.radio with commit := some c } } (bytesAt p 0 8 ++ s.ts64Bytes due)

/-- The envelope of SYN_COMMIT. -/
def specSynCommit : CmdSpec := { opcode := 0x0204, minLen := fun _ => 16, rule := .allOnly }

/-- SYN_COMMIT. -/
def execSynCommit (s : State) : Host.Outcome State Fault Refusal := runCommand specSynCommit commitBody s

/-- SYN_COMMIT_INSTANT: the pending commit starts its acquisitions, or is recorded in STANDBY (R96). -/
def execSynCommitInstant (s : State) : Host.Outcome State Fault Refusal :=
  match s.radio.commit with
  | none => .next s
  | some c =>
    let s := s.advance c.due
    let s := { s with radio := { s.radio with commit := none } }
    .next (c.settings.foldl (fun s x => s.acquireOrWait x.1 x.2 c.since) s)

/-- SYN_ACQUISITION_START: an acquisition of synthesiser `k` that was put off starts, behind the protected intervals that hold
it (R101, R111). -/
def execSynAcquisitionStart (k : Fin 3) (s : State) : Host.Outcome State Fault Refusal :=
  match (s.radio.synth k).waiting with
  | some (x, some t0) =>
    let t := Nat.max s.now t0
    let since := (s.radio.synth k).waitingSince
    let s := s.advance (if k.val = s.radio.active then s.disturbAt since t else t)
    if s.inStandby then .next (s.postpone k x since none) else .next (s.acquire k x false)
  | _ => .next s

/-! ### Lock and unlock (R100, R106 to R109) -/

/-- EV_SYN_LOCK. -/
def State.lockEvent (s : State) (k : Nat) : State :=
  let y := s.radio.synth k
  s.raiseEvent 0x0201 .info (le 1 k ++ le 1 y.kind ++ le 2 s.radio.acqCount ++
    leSat 4 (roundDiv ((s.now - y.acqStart : Nat) : Int) Config.ns).toNat ++ le 8 y.microHz)

/-- What the lock of the active synthesiser does besides: the count (R107), the end of the LO gap (R108), the grid weights that
follow the LO (R146), calibration (R286), and a base-state change that waited for it (R95). -/
def State.activeLock (s : State) (k : Nat) : State :=
  let s := s.countAcquisition
  let span : Span := { start := s.radio.gapSince.getD s.now, stop := s.now + 8 * Config.us }
  let s := { s with radio := { s.radio with gapSince := none, readySince := s.now, blanked := span :: s.radio.blanked } }
  let s := if s.beam.fKHz = 0 then s.recomputeGrid else s
  let s := (s.suspendDetection).afterAcquisition k
  match s.radio.pending with
  | some c => if c.due = .atLock then s.baseTakesEffect c else s.pursue
  | none => s.pursue

/-- SYN_LOCK: the acquisition of synthesiser `k` ends with lock at `t`, settled at these trims and loop settings. -/
def execSynLock (t : Nat) (k : Fin 3) (band gain tdcNorm kp ki : Nat) (s : State) : Host.Outcome State Fault Refusal :=
  let s := s.advance t
  if (s.radio.synth k).loop ≠ .acquiring then .next s
  else
    let s := s.setSyn k (fun y => { y with
      loop := .locked, trims := { band := band % 256, gain := gain % 1024, tdcNorm := tdcNorm % 65536, kp := kp % 65536, ki := ki % 65536 } })
    if k.val = s.radio.active then .next ((s.activeLock k).lockEvent k) else .next (s.lockEvent k)

/-- Re-acquire a synthesiser that unlocked: by its entry when the last acquisition used one, else cold (R109). -/
def State.reacquire (s : State) (k : Nat) : State :=
  let y := s.radio.synth k
  match y.setting with
  | none => s
  | some x => s.acquire k { x with byEntry := y.entryUsed, forceCold := y.entryUsed.isNone } true

/-- SYN_UNLOCK: the word freezes; re-acquisition starts at once, or at t4 of a burst in progress on the active synthesiser. -/
def execSynUnlock (t : Nat) (k : Fin 3) (s : State) : Host.Outcome State Fault Refusal :=
  let s := s.advance t
  if (s.radio.synth k).loop ≠ .locked then .next s
  else
    let burst := s.tx.queue.any (fun b => b.phase.committed)
    let s := s.raiseEvent 0x0202 .error (le 1 k ++ b8 burst ++ zeros 14)
    let s := s.setSyn k (fun y => { y with loop := .frozen })
    if burst && k.val == s.radio.active then .next { s with radio := { s.radio with relock := true } }
    else .next (s.reacquire k)

/-! ### Switch (R110, R111) -/

def switchCheck (r : Running) (s : State) : Option Nat :=
  let p := r.cmd.payload
  let k := u8 p 0
  firstFailure
    [(decide (k ≤ 2), Status.badParam),
     (u8 p 1 % 2 == 1 || s.timeUsable, Status.timeInvalid),
     (k != s.radio.active, Status.wrongState),
     (s.radio.inService k, Status.synNotInService),
     (s.radio.switch.isNone, Status.busy)]

def switchBody (r : Running) (s : State) : CmdEffect :=
  match switchCheck r s with
  | some st => .status s st
  | none =>
    let p := r.cmd.payload
    let imm := u8 p 1 % 2 == 1
    let due := s.dueInstant r imm (s.instantOf p 8) lead100 Config.outSample
    let inst := if imm || s.tooSoon r (s.instantOf p 8) lead100 then due else s.time.localOf (s.instantOf p 8)
    let w : Switch := { target := u8 p 0, instant := inst, due := due, deadline := inst + Config.ms, since := r.reached,
                        scheduled := !imm }
    -- a calibration step on the target yields (R110)
    let s := s.setKind 6 (fun c => { c with stopAt := s.now })
    .ok { s with radio := { s.radio with switch := some w } } (bytesAt p 0 8 ++ s.ts64Bytes due)

/-- The envelope of SYN_SWITCH. -/
def specSynSwitch : CmdSpec := { opcode := 0x0205, minLen := fun _ => 16, rule := .allOnly }

/-- SYN_SWITCH. -/
def execSynSwitch (s : State) : Host.Outcome State Fault Refusal := runCommand specSynSwitch switchBody s

/-- EV_SYN_SWITCH. -/
def State.switchEvent (s : State) (w : Switch) (result blank postponed : Nat) (inst : List Byte) : State :=
  s.raiseEvent 0x0203 .info (le 1 w.target ++ le 1 result ++ leSat 2 blank ++ leSat 4 postponed ++ inst)

/-- The switch happens now: the two synthesisers change roles, the channel set of the new LO's entry takes effect within the
blanking, and the LO has been acquired anew for every signature (R107). -/
def State.applySwitch (s : State) (w : Switch) (blankNs : Nat) : State :=
  let y := s.radio.synth w.target
  let span : Span := { start := s.now, stop := s.now + blankNs * Config.ns }
  let s := { s with radio := { s.radio with
    active := w.target, second := if s.spare.synFailed.contains s.radio.active then none else some s.radio.active,
    switch := none, readySince := s.now, blanked := span :: s.radio.blanked } }
  let s := (s.countAcquisition).abortReceptions 0
  let s := s.discardSteps
  let s := match y.entryUsed with
    | some i => (s.takeChannelSet i).activateCorr
    | none => ({ s with cal := { s.cal with entry := none } }).coldAcquired
  let s := if s.beam.fKHz = 0 then s.recomputeGrid else s
  s.switchEvent w 0 blankNs (roundDiv ((s.now - w.instant : Nat) : Int) Config.ns).toNat (s.ts64Bytes s.now)

/-- SYN_SWITCH_APPLY: the pending switch applies at the first sample from its instant on at which its target is locked (on every
device: `chain`), no transition is in progress and no protected interval holds it. -/
def execSynSwitchApply (chain : Bool) (blankNs : Nat) (s : State) : Host.Outcome State Fault Refusal :=
  match s.radio.switch with
  | none => .next s
  | some w =>
    let t := s.sampleAt (s.disturbAt w.since (Nat.max s.now w.due)) Config.outSample
    if (s.radio.synth w.target).loop = .locked ∧ s.radio.moving = none ∧ (chain = true ∨ s.inCascade = false) then
      .next ((s.advance t).applySwitch w (Nat.min blankNs 2000))
    else .next s

/-- SYN_SWITCH_ABANDON: the deadline passes with the switch unapplied. -/
def execSynSwitchAbandon (s : State) : Host.Outcome State Fault Refusal :=
  match s.radio.switch with
  | none => .next s
  | some w =>
    let s := s.advance w.deadline
    if s.now < s.disturbAt w.since s.now then .next s
    else .next (({ s with radio := { s.radio with switch := none } }).switchEvent w 1 0 0 (zeros 8))

/-! ### Channel entries (R100, R102, Table SYN-4) -/

/-- An entry with its CRC32. -/
def sealEntry (b : List Byte) : List Byte := fit 28 b ++ le 4 (crc32 (fit 28 b))

/-- The entry that OP 0 writes for synthesiser `k`. -/
def State.entryToStore (s : State) (k : Nat) : List Byte :=
  let y := s.radio.synth k
  let x := y.setting.getD { freqHz := 0, divider := 0, fcw := 0 }
  let tj := roundDiv s.thermal.tj 100
  sealEntry (le 4 x.freqHz ++ le 1 x.divider ++ le 1 y.trims.band ++ le 2 y.trims.gain ++ le 4 x.fcw ++
    le 2 y.trims.tdcNorm ++ le 2 y.trims.kp ++ le 2 y.trims.ki ++ leS 1 tj ++ le 1 1 ++ zeros 8)

/-- The entry that OP 1 leaves: VALID 0. -/
def State.entryErased (s : State) (k i : Nat) : List Byte := sealEntry ((s.entryBytes k i).set 0x13 0#8)

def storeEntryBody (r : Running) (s : State) : CmdEffect :=
  let p := r.cmd.payload
  let k := u8 p 0
  let store := u8 p 1 == 0
  match firstFailure
      [(decide (k ≤ 2) && decide (u8 p 1 ≤ 1) && decide (u16 p 2 ≤ 255), Status.badParam),
       (s.radio.inService k, Status.synNotInService),
       (!store || (s.radio.synth k).loop == .locked, Status.notLocked),
       (s.nvTempOk, Status.tempRange)] with
  | some st => .status s st
  | none =>
    let data := if store then s.entryToStore k else s.entryErased k (u16 p 2)
    .later (s.nvEnqueue { record := .channelEntry k (u16 p 2), data := data, owner := some r.order }) []

/-- The envelope of SYN_STORE_ENTRY. -/
def specSynStoreEntry : CmdSpec := { opcode := 0x0206, minLen := fun _ => 4 }

/-- SYN_STORE_ENTRY. -/
def execSynStoreEntry (s : State) : Host.Outcome State Fault Refusal := runCommand specSynStoreEntry storeEntryBody s

def readEntryBody (r : Running) (s : State) : CmdEffect :=
  let p := r.cmd.payload
  if 2 < u8 p 0 ∨ 255 < u16 p 2 then .status s Status.badParam
  else if s.radio.inService (u8 p 0) = false then .status s Status.synNotInService
  else .ok s (s.entryBytes (u8 p 0) (u16 p 2))

/-- The envelope of SYN_READ_ENTRY. -/
def specSynReadEntry : CmdSpec := { opcode := 0x0207, minLen := fun _ => 4 }

/-- SYN_READ_ENTRY. -/
def execSynReadEntry (s : State) : Host.Outcome State Fault Refusal := runCommand specSynReadEntry readEntryBody s

/-! ### Clock outputs and reference (R114 to R120) -/

def setClkoutBody (r : Running) (s : State) : CmdEffect :=
  let p := r.cmd.payload
  match firstFailure
      [(u8 p 0 != 3 || (s.role != .manager && s.role != .worker), Status.notPermitted),
       (decide (u8 p 0 ≤ 3) && decide (u8 p 1 ≤ 1) && inRange 1 (u16 p 2) 1024 && decide (u16 p 4 ≤ 2047), Status.badParam)] with
  | some st => .status s st
  | none =>
    let c : ClkOut := { enable := u8 p 1 == 1, divider := u16 p 2, delay := u16 p 4 }
    .ok { s with radio := { s.radio with clkOut := Tab.set s.radio.clkOut (u8 p 0) c } } []

/-- The envelope of SYN_SET_CLKOUT. -/
def specSynSetClkout : CmdSpec := { opcode := 0x0208, minLen := fun _ => 8 }

/-- SYN_SET_CLKOUT. -/
def execSynSetClkout (s : State) : Host.Outcome State Fault Refusal := runCommand specSynSetClkout setClkoutBody s

/-- A source is valid: 0 crystal, 1 REF_IN. -/
def Radio.sourceValid (q : Radio) (src : Nat) : Bool := if src = 0 then q.crystalValid else q.refInValid

/-- Re-acquire the clock ADPLL on a source (R118). -/
def State.slewTo (s : State) (src : Nat) : State :=
  { s with radio := { s.radio with clock := .slewing, refSource := src, freewheelAt := some (s.radio.freewheelAt.getD s.now) } }

def setReferenceBody (r : Running) (s : State) : CmdEffect :=
  let p := r.cmd.payload
  match firstFailure
      [(!s.isWorker, Status.notPermitted),
       (decide (u8 p 0 ≤ 1) && decide (u8 p 1 ≤ 1) && inRange 100 (u32 p 4) 60000, Status.badParam),
       (s.radio.sourceValid (u8 p 0), Status.wrongState)] with
  | some st => .status s st
  | none =>
    let s := { s with radio := { s.radio with primary := u8 p 0, failover := u8 p 1 == 1, freewheelLimitMs := u32 p 4 } }
    -- the clock moves to a new primary, and time is in HOLDOVER meanwhile (R440)
    .ok (if s.radio.refSource = u8 p 0 then s else (s.slewTo (u8 p 0)).toHoldover 3) []

/-- The envelope of SYN_SET_REFERENCE. -/
def specSynSetReference : CmdSpec := { opcode := 0x0209, minLen := fun _ => 8 }

/-- SYN_SET_REFERENCE. -/
def execSynSetReference (s : State) : Host.Outcome State Fault Refusal := runCommand specSynSetReference setReferenceBody s

/-- A source's validity. -/
def State.setSource (s : State) (src : Fin 2) (v : Bool) : State :=
  if src.val = 0 then { s with radio := { s.radio with crystalValid := v } } else { s with radio := { s.radio with refInValid := v } }

/-- REFERENCE_LOST: a source is declared lost (0 no edges, 1 frequency). The source in use freezes the clock; another valid source
takes over at once where FAILOVER is set, but never on a worker (R118, R120). -/
def execReferenceLost (t : Nat) (src reason : Fin 2) (s : State) : Host.Outcome State Fault Refusal :=
  let s := (s.advance t).setSource src false
  if s.radio.refSource ≠ src.val then .next s
  else
    let s := s.raiseEvent 0x0204 .error (le 1 src ++ le 1 reason ++ zeros 14)
    let s := { s with radio := { s.radio with
      clock := .freewheel, freewheelAt := some (s.radio.freewheelAt.getD s.now), limitTold := false } }
    -- a worker takes its time from the manager, and its hop breaks (R315, R322)
    let s := if s.isWorker then (s.toManager 5 (le 1 15)).cutOffAt s.now else s.toHoldover 3
    let other := 1 - src.val
    if s.radio.failover && s.radio.sourceValid other && !s.isWorker then .next (s.slewTo other) else .next s

/-- REFERENCE_VALID: a source has passed 10 ms of good checks; `freq` is REF_IN_FREQ as measured. -/
def execReferenceValid (t : Nat) (src : Fin 2) (freq : Fin 4) (s : State) : Host.Outcome State Fault Refusal :=
  let s := (s.advance t).setSource src true
  let s := if src.val = 1 then { s with radio := { s.radio with refInFreq := freq } } else s
  if s.radio.clock = .freewheel ∧ (s.radio.refSource = src.val ∨ (s.radio.failover = true ∧ s.isWorker = false)) then
    .next (s.slewTo src)
  else .next s

/-- REFERENCE_REACQUIRED: the clock ADPLL is in phase lock again (R119). -/
def execReferenceReacquired (t : Nat) (s : State) : Host.Outcome State Fault Refusal :=
  let s := s.advance t
  if s.radio.clock ≠ .slewing then .next s
  else
    let t0 := s.radio.freewheelAt.getD s.now
    let s := { s with radio := { s.radio with clock := .locked, freewheelAt := none, limitTold := false } }
    .next ((s.countAcquisition).raiseEvent 0x0205 .notice
      (le 1 s.radio.refSource ++ le 1 s.radio.refInFreq ++ zeros 2 ++ leSat 4 ((s.now - t0) / Config.us) ++ s.ts64Bytes t0))

/-- FREEWHEEL_LIMIT: FREEWHEEL has lasted FREEWHEEL_LIMIT without a valid source. -/
def execFreewheelLimit (s : State) : Host.Outcome State Fault Refusal :=
  match s.radio.clock, s.radio.freewheelAt with
  | .freewheel, some t0 =>
    if s.radio.limitTold then .next s
    else
      let s := s.advance (t0 + s.radio.freewheelLimitMs * Config.ms)
      let s := { s with radio := { s.radio with limitTold := true } }
      .next ((s.raiseEvent 0x0206 .error (le 4 s.radio.freewheelLimitMs ++ zeros 12)).toInvalid 1)
  | _, _ => .next s

/-! ### Status (Table SYN-7) -/

/-- Code of a base state. -/
def BaseState.code : BaseState → Nat
  | .standby => 0 | .loReady => 1 | .rx => 2
/-- Code of CLK_STATE. -/
def ClockState.code : ClockState → Nat
  | .locked => 0 | .freewheel => 1 | .slewing => 2
/-- Code of SYN_STATE for a synthesiser in service. -/
def LoopState.code : LoopState → Nat
  | .off => 0 | .acquiring => 1 | .locked => 2 | .frozen => 1

/-- The 16 bytes of one synthesiser. -/
def State.synStatus (s : State) (k : Nat) : List Byte :=
  let y := s.radio.synth k
  let pending := match s.radio.commit with | some c => (Tab.find? c.settings k).isSome | none => false
  le 1 (if s.radio.inService k then y.loop.code else 3) ++ b8 y.commitMode ++ le 2 (y.entryUsed.getD 0xFFFF) ++ le 8 y.microHz ++
    b8 y.staged.isSome ++ b8 pending ++ zeros 2

/-- Response of SYN_GET_STATUS. -/
def State.radioStatus (s : State) : List Byte :=
  let q := s.radio
  le 1 q.state.code ++ le 1 q.base.code ++ le 1 q.active ++ le 1 (q.second.getD 0xFF) ++ le 1 q.clock.code ++
    le 1 q.refSource ++ le 1 q.refInFreq ++ zeros 1 ++ le 2 q.acqCount ++ zeros 6 ++
    s.synStatus 0 ++ s.synStatus 1 ++ s.synStatus 2

def synGetStatusBody (_ : Running) (s : State) : CmdEffect := .ok s s.radioStatus

/-- The envelope of SYN_GET_STATUS. -/
def specSynGetStatus : CmdSpec := { opcode := 0x020A }

/-- SYN_GET_STATUS. -/
def execSynGetStatus (s : State) : Host.Outcome State Fault Refusal := runCommand specSynGetStatus synGetStatusBody s

end Sys2Proof.Machine
end

