-- ==== Sys2Proof/Machine/Tx.lean ====
section
/-!
DEFINITION. Transmission, launch timing and regulatory locks (spec/09).
-/

namespace Sys2Proof.Machine

open Sys2Proof

/-! ### Admission (R231, Table TX-3) -/

/-- The raised-cosine ramp: E_i = round(65,535 (1 − cos(pi i / 63)) / 2). -/
def raisedCosine : List Nat :=
  (List.range 64).map (fun (i : Nat) => (roundDiv (65535 * (fxOne - fxCos (((i * 2 ^ 31 : Nat) : Int).ediv 63))) (2 ^ 61)).toNat)

/-- The ramp table in force. -/
def TxUnit.ramp (u : TxUnit) : List Nat := u.rampTable.getD raisedCosine

/-- What of an unparseable request its outcome carries. -/
def rejectedRequest (net : Bool) (p : List Byte) : TxRequest :=
  { id := f32 net p 0, coexPri := false, outcomeEvent := u8 p 7 / 2 % 2 == 1, fcs4 := false, whiten := false, fec := false,
    interleave := false, launchS := f32 net p 8, launchN := f32 net p 12, tolUs := 0, phy := 0, mode := 0, submode := 0, scheme := 0,
    modIndex := 0, preamble := 0, sfd := 0, centre := 0, psdu := [], beams := [] }

/-- L of a request in device-time units: its 32 bits of seconds stand for the time nearest to the present one. -/
def State.launchDevice (s : State) (r : TxRequest) : Int := s.instantOf (le 4 r.launchS ++ le 4 r.launchN) 0

/-- A request as it would stand in the queue. -/
def State.candidateLaunch (s : State) (r : TxRequest) (origin : TxOrigin) : Launch :=
  { req := r, origin := origin, order := s.tx.nextOrder, admittedAt := s.now, device := s.launchDevice r,
    rampTenths := s.tx.rampTenths, ramp := s.tx.ramp, frame := r.frameUnits, coexLead := s.tx.coexLead }

/-- How an admission or a preparation check ends: outcome and cause. -/
abbrev Verdict := Option (Nat × Nat)

/-- Checks 6, 7, 9 and 10 of Table TX-3 against an LO: the verdict, and the launch with what the checks found. -/
def State.launchChecks (s : State) (lo : Nat) (sigs : Bool) (b : Launch) : Verdict × Launch :=
  if !inPassband lo b.req then (some (9, 0x85), { b with subband := 0xFF })
  else match findSubband s.tx.bands lo b.req with
    | .error c => (some (2, c), { b with subband := 0xFF })
    | .ok (sb, band) =>
      let b := { b with subband := sb }
      if !sigs then (some (9, 0x83), b)
      else
        let lv := s.levelCheck b band
        let b := { b with margin := lv.2 }
        if !lv.1 then (some (3, 0x20), b)
        else
          let dt := s.dutyCheck b sb band
          let b := { b with dutyUsed := dt.2 }
          match dt.1 with
          | some c => (some (4, c), b)
          | none => (none, b)

/-- The admission checks in order; the request reached the device at `arrived`. -/
def State.admissionChecks (s : State) (b : Launch) (arrived : Nat) : Verdict × Launch :=
  let sigs := b.req.handles.all (fun h => s.sigCurrent h b.device)
  if s.tx.queue.any (fun q => q.req.id == b.req.id) then (some (9, 0x86), b)
  else if !s.timeUsable then (some (6, 0x50), b)
  else if decide (b.device < s.time.deviceAt (arrived + 500 * Config.us)) then (some (1, 0x01), b)
  else if s.tx.record.isNone then (some (2, 0x12), b)
  else match s.launchChecks s.loHz sigs b with
    | (some v, b) => (some v, b)
    | (none, b) =>
      if 256 ≤ s.tx.queue.length then (some (9, 0x81), b)
      else if !s.beamsFit b then (some (9, 0x82), b)
      else (none, b)

/-- Report the outcome of a request that never radiates. -/
def State.refuse (s : State) (b : Launch) (v : Nat × Nat) : State :=
  s.decideOutcome b.req b.origin v.1 v.2 b.subband 0 (b.req.launchS, b.req.launchN) 0 0 b.dutyUsed b.margin true

/-- Put an admitted request into the queue: it holds its signatures. -/
def State.enqueueLaunch (s : State) (b : Launch) : State :=
  let s := { s with tx := { s.tx with queue := s.tx.queue ++ [b], nextOrder := s.tx.nextOrder + 1 } }
  (s.holdSigs b.req (fun n => n + 1)).lingerCheck

/-- The manager sends an admitted request to every joined worker, with V = 0 where its record differs (R251, R252). -/
def State.relayLaunch (s : State) (net : Bool) (p : List Byte) : State :=
  if s.role ≠ .manager then s
  else s.joinedWorkers.foldl (fun s w => s.message w 5 (le 1 9 ++ b8 net ++ b8 (s.tx.mismatch.contains w) ++
    le 2 s.tx.rampTenths ++ s.tx.ramp.flatMap (le 2) ++ p)) s

/-- Decide a request (R231): its id, the verdict (none admitted), the planned end of its ramp-down, and the state. -/
def State.admitRequest (s : State) (net : Bool) (p : List Byte) (origin : TxOrigin) (arrived : Nat) : (Nat × Verdict × Nat) × State :=
  match parseRequest net s.chainLength p with
  | none =>
    let b := s.candidateLaunch (rejectedRequest net p) origin
    ((b.req.id, some (9, 0x80), 0), s.refuse b (9, 0x80))
  | some r =>
    match s.admissionChecks (s.candidateLaunch r origin) arrived with
    | (some v, b) => ((r.id, some v, 0), s.refuse b v)
    | (none, b) => ((r.id, none, s.launchAt b + 2 * b.tr + b.frame), (s.enqueueLaunch b).relayLaunch net p)

def txSubmitBody (r : Running) (s : State) : CmdEffect :=
  let a := s.admitRequest false r.cmd.payload .mailbox r.reached
  match a.1.2.1 with
  | some v => .ok a.2 (le 4 a.1.1 ++ le 1 0 ++ le 1 v.1 ++ le 1 v.2 ++ zeros 9)
  | none => .ok a.2 (le 4 a.1.1 ++ le 1 1 ++ le 1 0xFF ++ le 1 0xFF ++ zeros 1 ++ s.ts64Bytes a.1.2.2)

/-- The envelope of TX_SUBMIT. -/
def specTxSubmit : CmdSpec := { opcode := 0x0701, minLen := fun p => 0x30 + 16 * Nat.min 4 (u8 p 0x22), rule := .managerOnly }

/-- TX_SUBMIT. -/
def execTxSubmit (s : State) : Host.Outcome State Fault Refusal := runCommand specTxSubmit txSubmitBody s

/-! ### Other commands (R229, R235, R245, R255) -/

/-- TX_CANCEL of a request id: the status, and the state. -/
def State.cancelRequest (s : State) (id : Nat) : Nat × State :=
  match s.tx.queue.find? (fun b => b.req.id == id) with
  | none => (Status.noRequest, s)
  | some b =>
    if b.phase ≠ TxPhase.queued then (Status.wrongState, s)
    else (Status.ok, (s.endRequest b 9 0x84 0).lingerCheck)

def txCancelBody (r : Running) (s : State) : CmdEffect :=
  let e := s.cancelRequest (u32 r.cmd.payload 0)
  .status e.2 e.1

/-- The envelope of TX_CANCEL. -/
def specTxCancel : CmdSpec := { opcode := 0x0702, minLen := fun _ => 8, rule := .managerOnly }

/-- TX_CANCEL. -/
def execTxCancel (s : State) : Host.Outcome State Fault Refusal := runCommand specTxCancel txCancelBody s

def txSetRampBody (r : Running) (s : State) : CmdEffect :=
  let p := r.cmd.payload
  if !(inRange 5 (u16 p 0) 320 && decide (u8 p 2 ≤ 1)) then .status s Status.badParam
  else
    let table := if u8 p 2 = 1 then some ((List.range 64).map (fun i => u16 p (8 + 2 * i))) else none
    .ok { s with tx := { s.tx with rampTenths := u16 p 0, rampTable := table } } []

/-- The envelope of TX_SET_RAMP. -/
def specTxSetRamp : CmdSpec := { opcode := 0x0703, minLen := fun p => if u8 p 2 = 1 then 0x88 else 8, rule := .managerOnly }

/-- TX_SET_RAMP. -/
def execTxSetRamp (s : State) : Host.Outcome State Fault Refusal := runCommand specTxSetRamp txSetRampBody s

def txSetCoexBody (r : Running) (s : State) : CmdEffect :=
  let p := r.cmd.payload
  if !(decide (u8 p 0 ≤ 1) && decide (u8 p 1 ≤ 1) && decide (u16 p 2 ≤ 500) && decide (u16 p 4 ≤ 1000)) then
    .status s Status.badParam
  else .ok ({ s with tx := { s.tx with
      coexEnable := u8 p 0 == 1, busyMode := u8 p 1 == 1, coexLead := u16 p 2, gntFilter := u16 p 4 } }).coexLines []

/-- The envelope of TX_SET_COEX. -/
def specTxSetCoex : CmdSpec := { opcode := 0x0704, minLen := fun _ => 8, rule := .managerOnly }

/-- TX_SET_COEX. -/
def execTxSetCoex (s : State) : Host.Outcome State Fault Refusal := runCommand specTxSetCoex txSetCoexBody s

/-- COEX_LINES of TX_GET_STATUS. -/
def State.coexByte (s : State) : Nat :=
  (if s.pins.coexReq then 1 else 0) + (if s.pins.coexPri then 2 else 0) + (if s.tx.gnt then 4 else 0) +
    (if s.tx.busy then 8 else 0) + (if s.tx.coexEnable then 16 else 0)

/-- Response of TX_GET_STATUS. -/
def State.txStatus (s : State) : List Byte :=
  le 2 s.tx.queue.length ++ le 1 (popcount s.beam.txUse) ++ le 1 s.coexByte ++ le 4 s.tx.version ++ le 1 s.tx.bands.length ++
    b8 s.thermal.throttle ++ le 2 s.tx.rampTenths ++ zeros 4 ++
    (List.range 16).flatMap (fun i => match s.tx.bands[i]? with
      | some b => leSat 2 (dutyShare (s.radiatedSum i b) b.window) ++ zeros 2
      | none => zeros 4) ++
    (List.range 10).flatMap (fun k => le 4 (Tab.get s.tx.counts k 0)) ++ zeros 8

def txGetStatusBody (r : Running) (s : State) : CmdEffect :=
  .ok (if u8 r.cmd.payload 0 % 2 = 1 then { s with tx := { s.tx with counts := [] } } else s) s.txStatus

/-- The envelope of TX_GET_STATUS. -/
def specTxGetStatus : CmdSpec := { opcode := 0x0705, minLen := fun _ => 1, rule := .managerOnly }

/-- TX_GET_STATUS. -/
def execTxGetStatus (s : State) : Host.Outcome State Fault Refusal := runCommand specTxGetStatus txGetStatusBody s

def txRegReadBody (_ : Running) (s : State) : CmdEffect := match s.nv.regRecord, s.fuses.sealBit with
    | some p, true => .ok s p
    | _, _ => .status s Status.regNotSealed

/-- The envelope of TX_REG_READ. -/
def specTxRegRead : CmdSpec := { opcode := 0x0706 }

/-- TX_REG_READ (R541). -/
def execTxRegRead (s : State) : Host.Outcome State Fault Refusal := runCommand specTxRegRead txRegReadBody s

/-- The checks of TX_REG_SUPERSEDE in order (R243). -/
def State.supersedeCheck (s : State) (p : List Byte) : Option Nat :=
  firstFailure
    [(s.fuses.sealBit && s.nv.regRecord.isSome, Status.regNotSealed),
     (recordWhole p, Status.badParam),
     (s.recordSigned p, Status.authFail),
     (decide (s.tx.version < recordVersion p), Status.regNotNewer),
     (s.nvTempOk, Status.tempRange)]

def regSupersedeBody (r : Running) (s : State) : CmdEffect :=
  let p := fit recordLen r.cmd.payload
  match s.supersedeCheck p with
  | some st => .status s st
  | none => .later (s.nvEnqueue { record := .regulatory, data := p, owner := some r.order }) []

/-- The envelope of TX_REG_SUPERSEDE. -/
def specTxRegSupersede : CmdSpec := { opcode := 0x0707, minLen := fun _ => 608, rule := .allOnly }

/-- TX_REG_SUPERSEDE. -/
def execTxRegSupersede (s : State) : Host.Outcome State Fault Refusal := runCommand specTxRegSupersede regSupersedeBody s

/-! ### From the queue to the launch -/

/-- The queued request that `sel` picks with the earliest key; the first admitted among equals (R233). -/
def earliest (sel : Launch → Bool) (key : Launch → Nat) (q : List Launch) : Option Launch :=
  q.foldl (fun best b =>
    if !sel b then best
    else match best with
      | none => some b
      | some x => if key b < key x then some b else some x) none

/-- Replace a launch of the queue. -/
def State.putLaunch (s : State) (b : Launch) : State :=
  { s with tx := { s.tx with queue := s.tx.queue.map (fun q => if q.order = b.order then b else q) } }

/-- The LO that will be in force at `t` (R234): after a pending switch, commit or postponed acquisition that falls before it. -/
def State.loAt (s : State) (t : Nat) : Nat :=
  let q := s.radio
  let k := match q.switch with
    | some w => if s.disturbAt w.since w.due ≤ t ∧ (q.synth w.target).loop = .locked then w.target else q.active
    | none => q.active
  let now := match (q.synth k).setting with | some x => x.freqHz | none => 0
  match q.commit with
  | some c => match Tab.find? c.settings k with
    | some x => if s.disturbAt c.since c.due ≤ t then x.freqHz else now
    | none => now
  | none => match (q.synth k).waiting with
    | some (x, some t0) => if s.disturbAt (q.synth k).waitingSince t0 ≤ t then x.freqHz else now
    | _ => now

/-- The lowest-numbered free transmit beams, `n` of them. -/
def freeBeams (used : BitVec 16) (n : Nat) : List Nat := ((List.range 16).filter (fun t => !used.getLsbD t)).take n

/-- The inactive weights of a launch's beams: V of its entries (R161), with retired paths zero (R158); all zero on a worker
while the manager is own-only. -/
def State.loadBeams (s : State) (b : Launch) : State :=
  let vs := b.req.beams.map (fun e =>
    if b.muted then List.replicate 64 Cplx.zero else zeroPaths s.spare.txRetired (s.beamVector b.req.centre e))
  { s with beam := { s.beam with
    txUse := s.beam.txUse ||| maskOf 16 b.beams
    txNext := (b.beams.zip vs).foldl (fun t p => Tab.set t p.1 p.2) s.beam.txNext } }

/-- A worker's preparation (R251, R252): it repeats the level check for its own paths, and tells the manager of an excess. -/
def State.prepareOnWorker (s : State) (b : Launch) : State :=
  let lim := s.tx.bands.find? (fun x => x.holds b.req)
  let good := match lim with | some band => (s.levelCheck b band).1 | none => true
  if !good then ((s.endRequest b 3 0x20 0).toManager 5 (le 1 11 ++ le 4 b.req.id)).lingerCheck
  else
    let b := { b with phase := .prepared, beams := freeBeams s.beam.txUse b.req.beams.length }
    (s.putLaunch b).loadBeams b

/-- TX_PREPARATION (R234): at L − 150 us the earliest queued request is checked again. -/
def execTxPreparation (s : State) : Host.Outcome State Fault Refusal :=
  match earliest (fun b => b.phase == .queued) s.launchAt s.tx.queue with
  | none => .next s
  | some b0 =>
    let s := s.advance (s.launchAt b0 - 150 * Config.us)
    if s.isWorker then .next (s.prepareOnWorker b0)
    else match s.launchChecks (s.loAt (s.launchAt b0)) true b0 with
    | (some v, b) => .next (((s.putLaunch b).endRequest b v.1 v.2 0).lingerCheck)
    | (none, b) =>
      let beams := freeBeams s.beam.txUse b.req.beams.length
      let b := { b with phase := .prepared, beams := beams, ownOnly := s.role == Role.manager && s.beam.ownOnly }
      let s := if b.ownOnly then s.messages s.joinedWorkers 5 (le 1 14 ++ le 4 b.req.id) else s
      if beams.length < b.req.beams.length then .next (((s.putLaunch b).endRequest { b with beams := [] } 9 0x82 0).lingerCheck)
      else .next ((s.putLaunch b).loadBeams b)

/-- The instant from which COEX_REQ is driven for a request (R245). -/
def State.coexFrom (s : State) (b : Launch) : Nat := Nat.max b.admittedAt (s.launchAt b - b.coexLead * Config.us)

/-- COEX_REQUEST_ASSERT. -/
def execCoexRequestAssert (s : State) : Host.Outcome State Fault Refusal :=
  match earliest (fun b => !b.coexOn) s.coexFrom s.tx.queue with
  | none => .next s
  | some b => .next (((s.advance (s.coexFrom b)).putLaunch { b with coexOn := true }).coexLines)

/-- CAL_YIELD (R112, R284): at L − 23 us steps on the transmit chain and its trims stop, discard what they measured and leave the
trims as they were. A host-requested step on the active synthesiser does not yield. -/
def execCalYield (s : State) : Host.Outcome State Fault Refusal :=
  let at' := fun (b : Launch) => s.launchAt b - 23 * Config.us
  match earliest (fun b => !b.phase.committed && decide (s.now ≤ at' b)) at' s.tx.queue with
  | none => .next s
  | some b =>
    let s := s.advance (at' b)
    .next ([3, 4, 8].foldl (fun s k => s.setKind k (fun c => { c with stopAt := s.now })) s)

/-- TX_STATE_ENTRY (R94): at L − 20 us the change to TX begins, out of base state LO_READY or RX. -/
def execTxStateEntry (s : State) : Host.Outcome State Fault Refusal :=
  let at' := fun (b : Launch) => s.launchAt b - 20 * Config.us
  match earliest (fun b => !b.phase.committed && decide (s.now ≤ at' b)) at' s.tx.queue with
  | none => .next s
  | some b =>
    let s := s.advance (at' b)
    if s.radio.base = .standby then .next s
    else .next ({ s with radio := { s.radio with wantTx := true, lingerFrom := none } }).pursue

/-- A host-requested calibration step holds the active synthesiser (R99). -/
def State.calHolds (s : State) : Bool :=
  match (s.cal.kind 6).run with | some r => r.activeSyn | none => false

/-- The device is ready for a launch (R113). -/
def State.launchReady (s : State) : Bool := s.activeLocked && !s.calHolds

/-- A launch is decided at local instant `l`: from here on it is protected, and it triggers Halo's LAUNCH source. -/
def State.decideLaunch (s : State) (b : Launch) (l : Nat) : State :=
  let d := l - s.launchAt b
  let s := s.putLaunch { b with phase := .decided, fixed := some l, delay := d }
  s.offer 2 l false (fun _ c => (c.launchQuads &&& s.quadrants) != 0#4)

/-- LAUNCH_DECISION (R113): the earliest prepared request at `t`, between L − 12 us and L − 12 us + TOL. -/
def execLaunchDecision (t : Nat) (s : State) : Host.Outcome State Fault Refusal :=
  match earliest (fun b => b.phase == .prepared) s.launchAt s.tx.queue with
  | none => .next s
  | some b =>
    let l := s.launchAt b
    let lo := l - 12 * Config.us
    let hi := lo + b.req.tolUs * Config.us
    let s := s.advance (Nat.min hi (Nat.max lo t))
    if s.launchReady then
      if s.radio.readySince ≤ lo then .next (s.decideLaunch b l)
      else if s.radio.readySince ≤ hi then
        .next (s.decideLaunch b (s.sampleAt (s.radio.readySince + 12 * Config.us) Config.masterClock))
      else .next ((s.endRequest b 1 (if s.calHolds then 0x03 else 0x02) 0).lingerCheck)
    else if hi ≤ s.now then .next ((s.endRequest b 1 (if s.calHolds then 0x03 else 0x02) 0).lingerCheck)
    else .next s

/-- TRSW_TRANSMIT (R72): at t0 the TRSW lines of the participating quadrants go to transmit. -/
def execTrswTransmit (s : State) : Host.Outcome State Fault Refusal :=
  match earliest (fun b => b.lines.isNone && b.phase.committed) s.t0 s.tx.queue with
  | none => .next s
  | some b =>
    let l := s.lineTimes b
    let s := s.advance (s.t0 b)
    let b := { b with lines := some (l.1, l.2.1, l.2.2, s.quadrants) }
    .next { s.putLaunch b with pins := { s.pins with trsw := s.pins.trsw ||| s.quadrants } }

/-- COEX_GRANT_SAMPLE (R246): the lines as sampled 16 master clocks before the launch. -/
def execCoexGrantSample (gnt busy : Bool) (s : State) : Host.Outcome State Fault Refusal :=
  match earliest (fun b => b.phase == .decided) s.launchAt s.tx.queue with
  | none => .next s
  | some b =>
    let s := s.advance (s.launchAt b - 16 * Config.masterClock)
    let s := { s with tx := { s.tx with gnt := gnt, busy := busy } }
    if s.tx.coexEnable && !s.isWorker && !gnt then .next ((s.endRequest b 5 0x40 0).lingerCheck)
    else if s.tx.coexEnable && !s.isWorker && s.tx.busyMode && busy then .next ((s.endRequest b 5 0x41 0).lingerCheck)
    else .next (s.putLaunch { b with phase := .granted })

/-- A path's pending tables, mode and delays become active at t1 (R258). -/
def DpdPath.activate (snaps : Nat) (d : DpdPath) : DpdPath :=
  let d := { d with mode := d.modeNext.getD d.mode, modeNext := none }
  match d.pending with
  | some t =>
    if d.eligible then
      { d with
        tables := t, previous := d.tables, pending := none, eligible := false, adapted := false
        age := if d.adapted then 0 else d.age
        nmseBefore := if d.adapted then meanOf (d.nmse.take snaps) else d.nmseBefore
        since := if d.adapted then 0 else d.since
        staleTold := d.staleTold && !d.adapted }
    else d
  | none => d

/-- Activation for the paths that take part in a burst, unless one is in progress already (R258). -/
def State.activateDpd (s : State) : State :=
  if s.burstInProgress then s
  else
    { s with dpd := { s.dpd with
      envDelay := s.dpd.envNext.getD s.dpd.envDelay
      envNext := none
      paths := Tab.mapVals s.dpd.paths (fun p d => if s.path.txMask.getLsbD p then d.activate s.dpd.snapCount else d) } }

/-- A transmit trip is in force (R479). -/
def State.tripped (s : State) : Bool := s.thermal.trip || s.thermal.rateTrip

/-- BURST_LAUNCH (R15, Table PATH-2 t1): PAEN of the participating quadrants rises and the ramp begins; while a trip is in force
the request ends instead (R249). With coexistence disabled the grant counts as given (R248). -/
def execBurstLaunch (s : State) : Host.Outcome State Fault Refusal :=
  match earliest (fun b => b.phase == .granted || (b.phase == .decided && !s.tx.coexEnable)) s.launchAt s.tx.queue with
  | none => .next s
  | some b =>
    let s := s.advance (s.launchAt b)
    if s.tripped then .next ((s.endRequest b 8 0x71 0).lingerCheck)
    else
      let q := match b.lines with | some (_, _, _, q) => q | none => s.quadrants
      let s := s.activateDpd
      let s := s.putLaunch { b with phase := .frame }
      let swap := fun (t : Tab (List Cplx)) (k : Nat) => match Tab.find? s.beam.txNext k with
        | some w => Tab.set t k w
        | none => t
      let w := b.beams.foldl swap s.beam.txWeights
      .next { s with pins := { s.pins with paen := s.pins.paen ||| q }, beam := { s.beam with txWeights := w } }

/-- FRAME_END (Table PATH-2 t3): the ramp-down begins. -/
def execFrameEnd (s : State) : Host.Outcome State Fault Refusal :=
  match earliest (fun b => b.phase == .frame) s.frameEnd s.tx.queue with
  | none => .next s
  | some b => .next ((s.advance (s.frameEnd b)).putLaunch { b with phase := .rampDown, downAt := some (s.frameEnd b) })

/-! ### The end of a burst -/

/-- What waits for the end of a ramp-down (R68, R70, R109, R127, R158): it happens once no burst is in progress. -/
def State.afterBursts (s : State) : State :=
  if s.burstInProgress then s
  else
    let mask := s.path.txMaskNext.getD s.path.txMask
    let fresh := mask &&& ~~~s.enabledPaths
    let att := s.path.attenNext.foldl (fun t (p : Nat × Nat) => Tab.set t p.1 p.2) s.path.atten
    let q := { s.path with txMask := mask, txMaskNext := none, atten := att, attenNext := [],
                           derate := s.path.derateNext.getD s.path.derate, derateNext := none }
    let s := { s with path := q }
    let s := { s with beam := { s.beam with
      txWeights := Tab.mapVals s.beam.txWeights (fun _ w => zeroPaths s.beam.txZeroNext w), txZeroNext := 0#64 } }
    let s := s.pathsEnabled fresh
    let s := match s.filt.txWaiting with
      | some a => match a.tx with | some f => s.applyTxFilters f | none => s
      | none => s
    if s.radio.relock then ({ s with radio := { s.radio with relock := false } }).reacquire s.radio.active else s

/-- EV_TX_DUTY, at most once per W for each sub-band (R256). -/
def State.dutyEvent (s : State) (sb : Nat) (band : Subband) : State :=
  let used := dutyShare (s.radiatedSum sb band) band.window
  let h := Tab.get s.tx.duty sb {}
  let told := match h.eventAt with | some t => decide (s.now < t + band.window) | none => false
  if told || decide (10 * used < 9 * s.dutyLimit band) then s
  else
    let s := { s with tx := { s.tx with duty := Tab.set s.tx.duty sb { h with eventAt := some s.now } } }
    s.raiseEvent 0x0703 .notice (le 1 sb ++ zeros 1 ++ leSat 2 used ++ le 2 (s.dutyLimit band) ++ zeros 10)

/-- A protected interval that a pending switch has waited out extends its deadline (R110). -/
def State.extendSwitch (s : State) (p : Span) : State :=
  match s.radio.switch with
  | some w =>
    if w.instant < p.stop then
      { s with radio := { s.radio with switch := some { w with deadline := w.deadline + (p.stop - p.start) } } }
    else s
  | none => s

/-- The activity of a burst counts on the paths that took part (R265, UPDATE_AGE_MS). -/
def State.ageDpd (s : State) (units : Nat) : State :=
  { s with dpd := { s.dpd with paths := (bitsOf s.path.txMask).foldl (fun t p =>
      let d := Tab.get t p {}
      Tab.set t p { d with age := d.age + units }) s.dpd.paths } }

/-- BURST_RAMP_DOWN_END (Table PATH-2 t4): PAEN falls where no other burst holds it, the air time is accounted, the outcome is
decided, and what waited for the end of the burst takes effect. `x` gives the saturations of its samples (R66, R125, R159, R257). -/
def execBurstRampDownEnd (x : BurstStats) (s : State) : Host.Outcome State Fault Refusal :=
  match earliest (fun b => b.phase == .rampDown) s.t4 s.tx.queue with
  | none => .next s
  | some b =>
    let t4 := s.t4 b
    let s := s.advance t4
    let l := s.launchAt b
    let lt := s.lineTimes b
    let q := match b.lines with | some (_, _, _, q) => q | none => 0#4
    let tail : BurstTail := { t4 := t4, t5 := t4 + lt.2.1, t6 := t4 + lt.2.1 + lt.2.2, quadrants := q }
    let prot := s.protectedSpan b
    let s := match s.tx.bands[b.subband]? with
      | some band => s.accountAir b.subband band { start := l, stop := t4 }
      | none => s
    let s := (s.countTx x).ageDpd (t4 - l) |>.extendSwitch prot
    let s := { s with tx := { s.tx with
      tails := s.tx.tails ++ [tail]
      blanked := (q, ({ start := l - lt.1, stop := tail.t6 } : Span)) :: s.tx.blanked
      guardUntil := Nat.max s.tx.guardUntil prot.stop } }
    let oc := b.abort.getD (0, 0)
    let s := s.endRequest b oc.1 oc.2 (t4 - l)
    let held := s.tx.queue.foldl (fun m x => if x.phase.radiating then
      (match x.lines with | some (_, _, _, y) => m ||| y | none => m) else m) 0#4
    let s := { s with pins := { s.pins with paen := s.pins.paen &&& held } }
    let s := match s.tx.bands[b.subband]? with
      | some band => s.dutyEvent b.subband band
      | none => s
    let s := if oc.1 = 8 then s.safeDacs else s
    .next s.afterBursts

/-- TRSW_RETURN (Table PATH-2 t5): TRSW returns to receive unless another burst holds it; after the last burst a base-state
change that waited takes effect, and the device stays in TX for TX_LINGER or goes back (R94, R95). -/
def execTrswReturn (s : State) : Host.Outcome State Fault Refusal :=
  match (s.tx.tails.filter (fun t => !t.returned)).foldl (fun (m : Option BurstTail) t => match m with
      | none => some t
      | some x => if t.t5 < x.t5 then some t else some x) none with
  | none => .next s
  | some x =>
    let s := s.advance x.t5
    let s := { s with tx := { s.tx with tails := s.tx.tails.map (fun t => if t = x then { t with returned := true } else t) } }
    let s := { s with pins := { s.pins with trsw := s.pins.trsw &&& s.trswHeld } }
    if s.tx.queue.any (fun b => b.phase.committed) || s.tx.tails.any (fun t => !t.returned) then .next s
    else
      let s := if s.radio.wantTx then { s with radio := { s.radio with lingerFrom := some x.t5 } } else s
      let s := match s.radio.pending with
        | some c => if c.due = BaseDue.atT5 then s.baseTakesEffect c else s
        | none => s
      .next s.lingerCheck

/-- RX_BLANK_END (Table PATH-2 t6). -/
def execRxBlankEnd (s : State) : Host.Outcome State Fault Refusal :=
  match (s.tx.tails.filter (fun t => t.returned)).foldl (fun (m : Option BurstTail) t => match m with
      | none => some t
      | some x => if t.t6 < x.t6 then some t else some x) none with
  | none => .next s
  | some x => .next { s.advance x.t6 with tx := { s.tx with tails := s.tx.tails.erase x } }

/-- TX_LINGER_EXPIRY (R94): the condition for staying in TX is judged again. -/
def execTxLingerExpiry (s : State) : Host.Outcome State Fault Refusal := .next s.lingerCheck

/-- The manager of a running cascade sends an immediate trigger code now. -/
def State.sendAbort (s : State) (code : Nat) : State :=
  if s.role == .manager && !s.joinedWorkers.isEmpty then (s.sendWord code s.now).2 else s

/-- COEX_WITHDRAWAL (R247): COEX_GNT low (`busy` false), or COEX_BUSY high in BUSY_MODE, held for GNT_FILTER during a burst. -/
def execCoexWithdrawal (t : Nat) (busy : Bool) (s : State) : Host.Outcome State Fault Refusal :=
  let s := s.advance t
  let acts := s.tx.coexEnable && !s.isWorker && (!busy || s.tx.busyMode)
  if !acts || !(s.tx.queue.any (fun b => b.phase == .frame)) then .next s
  else
    let s := { s with tx := { s.tx with gnt := s.tx.gnt && busy, busy := s.tx.busy || busy } }
    .next ((s.abortBursts 7 (if busy then 0x61 else 0x60)).sendAbort 8)

/-- DUTY_HISTORY_SAVE (R242): once a second the history is saved, where the temperature allows a write. -/
def execDutyHistorySave (s : State) : Host.Outcome State Fault Refusal :=
  if s.boot.ready = false then .next s
  else
    let t := s.tx.dutySavedAt + Config.sec
    let s := s.advance t
    .next (({ s with tx := { s.tx with dutySavedAt := t } }).nvOwnWrite .dutyHistory [])

end Sys2Proof.Machine
end

