-- ==== Sys2Proof/Machine/Beam.lean ====
section
/-!
DEFINITION. The beam engine (spec/06): sources, banks, swaps, adaptive weights, signatures.
-/

namespace Sys2Proof.Machine

open Sys2Proof

/-! ### The weighted sums (R140, R141, R159) -/

/-- (W·C) in Q2.16: the exact product rounded convergently. -/
def effWeight (w c : Cplx) : Cplx :=
  let m := cplxMul w c
  ⟨roundShift m.i 13, roundShift m.q 13⟩

/-- P_b of one device: path samples by path, effective weights by path, BEAM_SHIFT. -/
def partialSum (shift : Nat) (wc xs : List Cplx) : Cplx :=
  let a := (List.zipWith cplxMul wc xs).foldl (fun (s p : Cplx) => ⟨s.i + p.i, s.q + p.q⟩) Cplx.zero
  ⟨satSym 20 (roundShift a.i (16 + shift)), satSym 20 (roundShift a.q (16 + shift))⟩

/-- B_b. -/
def chainSum (own up : Cplx) : Cplx := ⟨satSym 20 (own.i + up.i), satSym 20 (own.q + up.q)⟩

/-- O_b. -/
def beamOutput (b : Cplx) : Cplx := ⟨satSym 16 (roundShift b.i 4), satSym 16 (roundShift b.q 4)⟩

/-- z_p: the streams, the weights V on the path, and T (R159). -/
def precode (t : Cplx) (vs ss : List Cplx) : Cplx :=
  let a := (List.zipWith (fun v s => cplxMul (cplxMul v t) s) vs ss).foldl (fun (s p : Cplx) => ⟨s.i + p.i, s.q + p.q⟩) Cplx.zero
  ⟨satSym 16 (roundShift a.i 29), satSym 16 (roundShift a.q 29)⟩

/-! ### Geometry and grid (R145, R146) -/

/-- The position of an entry lies in the chain. -/
def State.positionOk (s : State) (pos : Nat) : Bool :=
  match s.role with
  | .manager => decide (pos ≤ s.position)
  | .worker => decide (pos ≤ 15)
  | _ => pos == 0

def setGeometryBody (r : Running) (s : State) : CmdEffect :=
  let p := r.cmd.payload
  let ix := List.range (u16 p 0)
  if !(inRange 1 (u16 p 0) 255 && ix.all (fun i => s.positionOk (u8 p (8 + 16 * i)) && decide (u8 p (9 + 16 * i) ≤ 63))) then
    .status s Status.badParam
  else
    let start := if u8 p 2 % 2 = 1 then [] else s.beam.geometry
    let geo := ix.foldl (fun t i =>
      let o := 8 + 16 * i
      Tab.set t (64 * u8 p o + u8 p (o + 1)) (s32 p (o + 4), s32 p (o + 8), s32 p (o + 12))) start
    let s1 := ({ s with beam := { s.beam with geometry := geo } }).recomputeGrid
    -- the manager distributes each worker's part
    let parts := if s.role == .manager then s.joinedWorkers.filter (fun w => ix.any (fun i => u8 p (8 + 16 * i) == w)) else []
    .ok { s1 with lcl := { s1.lcl with sent := s1.lcl.sent ++ parts.map (fun w =>
      ⟨w, 5, le 1 2 ++ ix.flatMap (fun i => if u8 p (8 + 16 * i) = w then bytesAt p (8 + 16 * i) 16 else [])⟩) } } []

/-- The envelope of BEAM_SET_GEOMETRY. -/
def specBeamSetGeometry : CmdSpec := { opcode := 0x0401, minLen := fun p => 8 + 16 * u16 p 0 }

/-- BEAM_SET_GEOMETRY. -/
def execBeamSetGeometry (s : State) : Host.Outcome State Fault Refusal := runCommand specBeamSetGeometry setGeometryBody s

def setGridBody (r : Running) (s : State) : CmdEffect :=
  let p := r.cmd.payload
  let first := u16 p 0
  let ix := List.range (u16 p 2)
  match firstFailure
      [(decide (first ≤ 255) && decide (1 ≤ u16 p 2) && decide (first + u16 p 2 ≤ 256) &&
          (u32 p 4 == 0 || inRange 380000 (u32 p 4) 2700000) &&
          ix.all (fun i => inRangeZ (-18000) (s16 p (8 + 4 * i)) 18000 && inRangeZ (-9000) (s16 p (10 + 4 * i)) 9000),
        Status.badParam),
       (!s.beam.geometry.isEmpty, Status.noGeometry)] with
  | some st => .status s st
  | none =>
    let grid := ix.foldl (fun t i => Tab.set t (first + i) (s16 p (8 + 4 * i), s16 p (10 + 4 * i))) s.beam.grid
    .ok ({ s with beam := { s.beam with grid := grid, fKHz := u32 p 4 } }).recomputeGrid []

/-- The envelope of BEAM_SET_GRID. -/
def specBeamSetGrid : CmdSpec := { opcode := 0x0402, minLen := fun p => 8 + 4 * u16 p 2 }

/-- BEAM_SET_GRID. -/
def execBeamSetGrid (s : State) : Host.Outcome State Fault Refusal := runCommand specBeamSetGrid setGridBody s

/-- GRID_RECOMPUTE_DONE: the GRID weights of the geometry, grid and F as they stand are staged. -/
def execGridRecomputeDone (t : Nat) (s : State) : Host.Outcome State Fault Refusal :=
  match s.beam.recomputing with
  | none => .next s
  | some _ =>
    let s := s.advance t
    .next { s with beam := { s.beam with recomputing := none, gridStaged := s.gridBasis } }

/-! ### Staging for host swaps (R144, R150, R154) -/

/-- Code of a source. -/
def RxSource.code : RxSource → Nat
  | .off => 0 | .grid => 1 | .mvdr => 2 | .zf => 3 | .explicit => 4

/-- The source of a code. -/
def rxSource (n : Nat) : RxSource :=
  if n = 0 then .off else if n = 1 then .grid else if n = 2 then .mvdr else if n = 3 then .zf else .explicit

/-- The freeze point of the pending host swap has passed: what completes now is held for the following one. -/
def State.hostFrozen (s : State) : Bool :=
  match s.beam.host with
  | some h => h.frozen.isSome || decide (h.instant ≤ s.now + 20 * Config.us)
  | none => false

/-- Change what is staged for the host swap that a change completing now belongs to. -/
def State.stageHost (s : State) (f : Staging → Staging) : State :=
  if s.hostFrozen then { s with beam := { s.beam with following := f s.beam.following } }
  else { s with beam := { s.beam with next := f s.beam.next } }

/-- The definition of a beam as it will stand at the host swap that a change completing now belongs to. -/
def State.defAtSwap (s : State) (b : Nat) : BeamDef :=
  let a := Tab.get s.beam.next.sources b (s.beam.defOf b)
  if s.hostFrozen then Tab.get s.beam.following.sources b a else a

/-- One entry of BEAM_SET_RX_SOURCE. -/
def rxSourceEntry (p : List Byte) (o : Nat) : BeamDef :=
  { source := rxSource (u8 p (o + 1)), gridIndex := u16 p (o + 2), hann := u8 p (o + 4) == 1, neighCount := u8 p (o + 5),
    neigh := if u8 p (o + 5) ≤ 8 then (List.range (u8 p (o + 5))).map (fun k => u8 p (o + 8 + k)) else [] }

def rxSourceOk (p : List Byte) (o : Nat) : Bool :=
  decide (u8 p o ≤ 63) && decide (u8 p (o + 1) ≤ 4) && decide (u16 p (o + 2) ≤ 255) && decide (u8 p (o + 4) ≤ 1) &&
    (decide (u8 p (o + 5) ≤ 8) || u8 p (o + 5) == 0xFF) && (rxSourceEntry p o).neigh.all (fun b => decide (b ≤ 63))

def setRxSourceBody (r : Running) (s : State) : CmdEffect :=
  let p := r.cmd.payload
  let os := (List.range (u16 p 0)).map (fun i => 8 + 16 * i)
  match firstFailure
      [(inRange 1 (u16 p 0) 64 && os.all (rxSourceOk p), Status.badParam),
       (!s.beam.geometry.isEmpty || os.all (fun o => !(rxSource (u8 p (o + 1))).onGrid), Status.noGeometry)] with
  | some st => .status s st
  | none =>
    .ok (s.stageHost (fun g => { g with
      sources := os.foldl (fun t o => Tab.set t (u8 p o) (rxSourceEntry p o)) g.sources })) []

/-- The envelope of BEAM_SET_RX_SOURCE. -/
def specBeamSetRxSource : CmdSpec := { opcode := 0x0403, minLen := fun p => 8 + 16 * u16 p 0 }

/-- BEAM_SET_RX_SOURCE. -/
def execBeamSetRxSource (s : State) : Host.Outcome State Fault Refusal := runCommand specBeamSetRxSource setRxSourceBody s

def loadBankBody (r : Running) (s : State) : CmdEffect :=
  let p := r.cmd.payload
  let first := u8 p 0
  let ix := List.range (u8 p 1)
  match firstFailure
      [(decide (first ≤ 63) && inRange 1 (u8 p 1) 15 && decide (first + u8 p 1 ≤ 64), Status.badParam),
       (ix.all (fun j => (s.defAtSwap (first + j)).source == .explicit), Status.notPermitted)] with
  | some st => .status s st
  | none =>
    let held := s.hostFrozen
    .ok (s.stageHost (fun g => { g with loads := ix.foldl (fun t j =>
      Tab.set t (first + j) ((List.range 64).map (fun k => pairAt p (8 + 256 * j + 4 * k)))) g.loads })) (b8 held)

/-- The envelope of BEAM_LOAD_BANK. -/
def specBeamLoadBank : CmdSpec := { opcode := 0x0404, minLen := fun p => 8 + 256 * u8 p 1 }

/-- BEAM_LOAD_BANK. -/
def execBeamLoadBank (s : State) : Host.Outcome State Fault Refusal := runCommand specBeamLoadBank loadBankBody s

def setScaleBody (r : Running) (s : State) : CmdEffect :=
  let v := u8 r.cmd.payload 0
  if 8 < v then .status s Status.badParam else .ok (s.stageHost (fun g => { g with shift := some v })) []

/-- The envelope of BEAM_SET_SCALE. -/
def specBeamSetScale : CmdSpec := { opcode := 0x0407, minLen := fun _ => 4, rule := .allOnly }

/-- BEAM_SET_SCALE. -/
def execBeamSetScale (s : State) : Host.Outcome State Fault Refusal := runCommand specBeamSetScale setScaleBody s

/-! ### Swaps (R151 to R155) -/

/-- A host swap asked for at `reached`: its status, its instant, and the state. -/
def State.hostSwap (s : State) (reached : Nat) (imm cancel : Bool) (d : Int) : Nat × Nat × State :=
  if cancel then
    match s.beam.host with
    | none => (Status.wrongState, 0, s)
    | some h =>
      if s.hostFrozen then (Status.wrongState, 0, s)
      else
        -- internal causes that had joined it keep their own swap
        let own := h.cause / 2 * 2
        let s := { s with beam := { s.beam with host := none } }
        (Status.ok, h.instant, if own = 0 then s else s.internalSwapAt own h.instant)
  else if !imm && !s.timeUsable then (Status.timeInvalid, 0, s)
  else if s.beam.host.isSome then (Status.busy, 0, s)
  else
    let lead := (if s.inCascade then 200 else 100) * Config.us
    let soonest := s.sampleAt (reached + lead) Config.outSample
    let t := if imm || decide (d < s.time.deviceAt (reached + lead)) then soonest
             else s.sampleAt (s.time.localOf d) Config.outSample
    (Status.ok, t, { s with beam := { s.beam with host := some { instant := t, scheduled := !imm, cause := 1 } } })

def beamSwapBody (r : Running) (s : State) : CmdEffect :=
  let p := r.cmd.payload
  let e := s.hostSwap r.reached (u8 p 0 % 2 == 1) (u8 p 0 / 2 % 2 == 1) (s.instantOf p 8)
  if e.1 = Status.ok then .ok e.2.2 (bytesAt p 0 8 ++ s.ts64Bytes e.2.1) else .status s e.1

/-- The envelope of BEAM_SWAP. -/
def specBeamSwap : CmdSpec := { opcode := 0x0405, minLen := fun _ => 16, rule := .allOnly }

/-- BEAM_SWAP. -/
def execBeamSwap (s : State) : Host.Outcome State Fault Refusal := runCommand specBeamSwap beamSwapBody s

/-- The two pending swaps by instant: true for the host swap. -/
def BeamUnit.nextSwap (u : BeamUnit) (sel : BeamSwap → Bool) : Option (Bool × BeamSwap) :=
  match u.host.filter sel, u.internal.filter sel with
  | some h, some i => if h.instant ≤ i.instant then some (true, h) else some (false, i)
  | some h, none => some (true, h)
  | none, some i => some (false, i)
  | none, none => none

/-- BEAM_SWAP_FREEZE (R154): what the next swap activates of the GRID weights is fixed; the manager of a chain marks the instant
on the trigger bus (R316), and a word that had to wait its slot moves it. -/
def execBeamSwapFreeze (s : State) : Host.Outcome State Fault Refusal :=
  match s.beam.nextSwap (fun w => w.frozen.isNone) with
  | none => .next s
  | some (host, w) =>
    let s := s.advance (w.instant - 20 * Config.us)
    let sent := if s.role == .manager && s.inCascade then s.sendWord 3 (w.instant - Config.us) else (w.instant - Config.us, s)
    let w := { w with frozen := some s.beam.gridStaged, instant := Nat.max w.instant (sent.1 + Config.us) }
    let s := sent.2
    .next (if host then { s with beam := { s.beam with host := some w } } else { s with beam := { s.beam with internal := some w } })

/-- A table of vectors keeps no zero vector. -/
def putVector (t : Tab (List Cplx)) (b : Nat) (w : List Cplx) : Tab (List Cplx) :=
  if w.all (fun c => c == Cplx.zero) then Tab.erase t b else Tab.set t b w

/-- The weights of one beam before renormalisation, as a swap activates them. -/
def State.swapWeights (s : State) (host : Bool) (basis : GridBasis) (b : Nat) : List Cplx :=
  let d := s.beam.defOf b
  let keep := Tab.get s.beam.raw b (List.replicate 64 Cplx.zero)
  match d.source with
  | .off => List.replicate 64 Cplx.zero
  | .grid => gridWeights basis d.hann s.position d.gridIndex
  | .explicit => if host then (Tab.find? s.beam.next.loads b).getD keep else keep
  | _ => (Tab.find? s.beam.adaptiveStaged b).getD keep

/-- The new active bank: raw and renormalised weights of every beam, and the worst shortfall with its beam (R158). -/
def State.swapBank (s : State) (host : Bool) (basis : GridBasis) :
    Tab (List Cplx) × Tab (List Cplx) × Nat × Nat :=
  (List.range 64).foldl (fun acc b =>
    let w := s.swapWeights host basis b
    let src := (s.beam.defOf b).source
    let n := if src = .mvdr ∨ src = .zf then (zeroPaths s.rxOut w, 0) else renormalise s.rxOut w
    (putVector acc.1 b w, putVector acc.2.1 b n.1,
      if n.2 > acc.2.2.1 then (n.2, b) else acc.2.2)) ([], [], 0, 0)

/-- Σ|W·C|² of a beam at the gain step in force. -/
def State.beamPower (s : State) (b : Nat) : Nat :=
  match Tab.find? s.beam.weights b with
  | none => 0
  | some w => ((List.range w.length).zip w).foldl (fun n (p : Nat × Cplx) =>
      if p.2 == Cplx.zero then n
      else
        let m := cplxMul p.2 (s.rxCorrOf p.1 s.path.step)
        n + (m.i * m.i + m.q * m.q).toNat) 0

/-- Beams whose effective weights differ between two states. -/
def beamsChanged (old new : State) : Mask64 :=
  let paths := (List.range 64).filter (fun p =>
    !(old.beam.corr == new.beam.corr) && !(old.rxCorrOf p old.path.step == new.rxCorrOf p new.path.step))
  maskOf 64 ((List.range 64).filter (fun b =>
    let x := Tab.find? old.beam.weights b
    let y := Tab.find? new.beam.weights b
    x != y || (match y with
      | some w => paths.any (fun p => w.getD p Cplx.zero != Cplx.zero)
      | none => false)))

/-- R182: the estimates of the beams that changed follow their Σ|W·C|². -/
def State.scaleNoise (s old : State) (m : Mask64) : State :=
  if s.hzn.noise.isEmpty then s
  else
    let f := (bitsOf m).map (fun b => (b, old.beamPower b, s.beamPower b))
    { s with hzn := { s.hzn with noise := Tab.mapVals s.hzn.noise (fun k v =>
        match f.find? (fun x => x.1 == k / 384) with
        | some (_, a, n) => if a = 0 then v else v * n / a
        | none => v) } }

/-- EV_BEAM_RENORM for each path whose renormalisation takes effect, when a beam had to be scaled down. -/
def State.renormEvents (s : State) (m : Mask64) (short beam : Nat) : State :=
  if short = 0 then s
  else (bitsOf m).foldl (fun s p => s.raiseEvent 0x0402 .notice (le 1 p ++ le 1 0 ++ le 1 beam ++ leSat 1 short ++ zeros 12)) s

/-- A swap takes effect at `t`: `host` activates what the host staged, `cause` are its causes. -/
def State.applySwap (s : State) (host : Bool) (cause t : Nat) (basis : GridBasis) : State :=
  let old := s
  let s := if host then
      { s with beam := { s.beam with
        beams := s.beam.next.sources.foldl (fun t (p : Nat × BeamDef) => Tab.set t p.1 p.2) s.beam.beams
        shift := s.beam.next.shift.getD s.beam.shift } }
    else s
  let bank := s.swapBank host basis
  let ren := s.beam.renormRx
  let s := { s with beam := { s.beam with
    raw := bank.1, weights := bank.2.1, renormRx := 0#64, adaptiveStaged := []
    bank := 1 - s.beam.bank, epoch := (s.beam.epoch + 1) % 256
    next := if host then s.beam.following else s.beam.next
    following := if host then {} else s.beam.following } }
  let s := s.activateCorr
  let full := cause / 16 % 2 == 1 && s.beam.ownOnly && s.cal.xdevConverged
  let s := if full then
      let span : Span := { start := s.beam.ownFrom, stop := t }
      ({ s with beam := { s.beam with ownOnly := false, ownSpans := span :: s.beam.ownSpans } }).freeNoiseScale
    else s
  let ch := if full then BitVec.allOnes 64 else beamsChanged old s
  let s := s.scaleNoise old ch
  let s := if ch = 0#64 then s else { s with beam := { s.beam with changes := (t, ch) :: s.beam.changes } }
  let s := s.renormEvents ren bank.2.2.1 bank.2.2.2
  let s := s.raiseEvent 0x0401 .info (le 1 cause ++ le 1 s.beam.epoch ++ le 1 (popcount ch) ++ zeros 5 ++ s.ts64Bytes t)
  if full then
    s.raiseEvent 0x0904 .notice (b8 true ++ le 1 (1 + s.joinedWorkers.length) ++ leSat 2 s.cal.worstSigma ++
      le 4 s.cal.xdevPackets ++ s.ts64Bytes t)
  else s

/-- BEAM_SWAP_APPLY (R151, R153): the next pending swap; a host and an internal swap on one sample are one. -/
def execBeamSwapApply (s : State) : Host.Outcome State Fault Refusal :=
  match s.beam.nextSwap (fun _ => true) with
  | none => .next s
  | some (host, w) =>
    let s := s.advance w.instant
    let s := if s.isWorker && s.lcl.joined && !w.marked then
        { s with lcl := { s.lcl with strobeMiss := s.lcl.strobeMiss + 1 } }
      else s
    let both := match s.beam.host, s.beam.internal with
      | some h, some i => decide (h.instant = i.instant)
      | _, _ => false
    let cause := if both then (match s.beam.internal with | some i => w.cause ||| i.cause | none => w.cause) else w.cause
    let s := { s with beam := { s.beam with
      host := if host then none else s.beam.host
      internal := if !host || both then none else s.beam.internal } }
    .next (s.applySwap host cause w.instant (w.frozen.getD s.beam.gridStaged))

/-! ### Adaptive weights (R148, R149) -/

def setAdaptiveBody (r : Running) (s : State) : CmdEffect :=
  let p := r.cmd.payload
  if !(inRange 10 (u16 p 0) 10000 && inRange 12 (u8 p 2) 20 && inRangeZ (-40) (s8 p 3) 0 && inRange 1 (u32 p 4) 600000) then
    .status s Status.badParam
  else .ok { s with beam := { s.beam with
      updateMs := u16 p 0, covLog2 := u8 p 2, loadDb := s8 p 3, sigMaxAgeMs := u32 p 4 } } []

/-- The envelope of BEAM_SET_ADAPTIVE. -/
def specBeamSetAdaptive : CmdSpec := { opcode := 0x0406, minLen := fun _ => 8 }

/-- BEAM_SET_ADAPTIVE. -/
def execBeamSetAdaptive (s : State) : Host.Outcome State Fault Refusal := runCommand specBeamSetAdaptive setAdaptiveBody s

/-- Beams whose source is MVDR or ZF. -/
def BeamUnit.adaptive (u : BeamUnit) : List Nat :=
  (List.range 64).filter (fun b => (u.defOf b).source == .mvdr || (u.defOf b).source == .zf)

/-- ADAPTIVE_UPDATE: UPDATE_MS has passed; an update begins where a beam is adaptive. -/
def execAdaptiveUpdate (s : State) : Host.Outcome State Fault Refusal :=
  let t := s.beam.updateAt + s.beam.updateMs * Config.ms
  let s := s.advance t
  .next { s with beam := { s.beam with updateAt := t, solving := !s.beam.adaptive.isEmpty } }

/-- EV_BEAM_ADAPT_HOLD. -/
def State.adaptHold (s : State) (n reason loss : Nat) : State :=
  s.raiseEvent 0x0404 .warn (leSat 1 n ++ le 1 reason ++ leSat 2 loss ++ zeros 12)

/-- ADAPTIVE_SOLVE_DONE: the update under way ends at `t`. `few`: fewer than M unflagged samples; `ill`: condition number above
10^8; else `sols` are the solutions of the beams in Q1.15 before they are made to fit. -/
def execAdaptiveSolveDone (t : Nat) (few ill : Bool) (sols : List (Nat × List Cplx)) (s : State) :
    Host.Outcome State Fault Refusal :=
  let s := s.advance t
  if !s.beam.solving then .next s
  else
    let s := { s with beam := { s.beam with solving := false } }
    if few || ill then
      let told := match s.beam.holdEventAt with | some t0 => decide (s.now < t0 + Config.sec) | none => false
      if told then .next s
      else .next (({ s with beam := { s.beam with holdEventAt := some s.now } }).adaptHold s.beam.adaptive.length
        (if few then 0 else 1) 0)
    else
      let fits := (sols.filter (fun p => s.beam.adaptive.contains p.1)).map (fun p =>
        (p.1, fitBeam ((List.range 64).map (fun k => p.2.getD k Cplx.zero))))
      let s := { s with beam := { s.beam with
        adaptiveStaged := fits.foldl (fun t p => Tab.set t p.1 p.2.1) s.beam.adaptiveStaged } }
      let cut := fits.filter (fun p => p.2.2 != 0)
      let s := if cut.isEmpty then s else s.adaptHold cut.length 2 (cut.foldl (fun m p => Nat.max m p.2.2) 0)
      .next (if fits.isEmpty then s else s.internalSwap 2)

/-! ### Signature cache (R162 to R166) -/

/-- The index that the next signature takes: after the last one written, past held and pinned entries. -/
def BeamUnit.nextIndex (u : BeamUnit) : Option Nat :=
  let start := match u.lastSig with | some i => i + 1 | none => 0
  ((List.range 4096).map (fun k => (start + k) % 4096)).find? (fun i =>
    let e := u.sig i
    e.held == 0 && !e.pinned)

/-- Paths that store zero in a signature: retired from receive, or outside the receive mask. -/
def State.noSignature (s : State) : Mask64 := s.spare.rxRetired ||| ~~~s.path.rxMask

/-- Write a signature into an entry: mantissas into the pool, and its metadata. -/
def State.writeSignature (s : State) (i : Nat) (mant : List Cplx) (e : Signature) : State :=
  let m := zeroPaths s.noSignature ((List.range 64).map (fun k => mant.getD k Cplx.zero))
  { s with
    mem := memWriteBytes unlisted s.mem (sigPool + 256 * i) (m.flatMap (fun c => leS 2 c.i ++ leS 2 c.q))
    beam := { s.beam with sigs := Tab.set s.beam.sigs i e, lastSig := some i } }

/-- All present elements lie on one line: cross products of their offsets vanish. -/
def collinear (geo : Tab (Int × Int × Int)) : Bool :=
  match geo with
  | [] => true
  | (_, o) :: rest =>
    match rest.find? (fun e => e.2 != o) with
    | none => true
    | some d =>
      let ux := d.2.1 - o.1
      let uy := d.2.2.1 - o.2.1
      let uz := d.2.2.2 - o.2.2
      rest.all (fun e =>
        let vx := e.2.1 - o.1
        let vy := e.2.2.1 - o.2.1
        let vz := e.2.2.2 - o.2.2
        uy * vz == uz * vy && uz * vx == ux * vz && ux * vy == uy * vx)

/-- The value that stands for an absent angle, 0x8000. -/
def noAngle : Int := -32768

/-- AZ, EL and their sigmas as the record carries them (R167, R168). -/
def State.angleOf (s : State) (az el : Int) (sigAz sigEl : Nat) : Int × Int × Nat × Nat :=
  if s.beam.geometry.isEmpty then (noAngle, noAngle, 0xFFFF, 0xFFFF)
  else if collinear s.beam.geometry then (az, noAngle, Nat.min sigAz 0xFFFF, 0xFFFF)
  else (az, el, Nat.min sigAz 0xFFFF, Nat.min sigEl 0xFFFF)

/-- SIGNATURE_STORE (R162, R163, R167): the signature and the angle of the reception of order `order`, as its processor found
them: mantissas, exponent, direction in 0.01 degree, sigmas in 0.001 degree. -/
def execSignatureStore (t order : Nat) (mant : List Cplx) (exponent : Nat) (az el : Int) (sigAz sigEl : Nat) (s : State) :
    Host.Outcome State Fault Refusal :=
  let s := s.advance t
  match s.dmd.ended.find? (fun x => x.order == order) with
  | none => .next s
  | some x =>
    if x.status ≠ 0 ∨ x.handle.isSome then .next s
    else match s.beam.nextIndex with
      | none => .next s
      | some i =>
        let ts := s.ts64 x.ctx.toa
        let gen := ((s.beam.sig i).gen + 1) % 16
        let e : Signature :=
          { gen := gen, valid := true, exponent := exponent % 64, gainEpoch := x.ctx.gainEpoch, acqCount := x.ctx.acqCount,
            ownOnly := s.beam.ownOnly, toa := s.time.deviceAt x.ctx.toa, seconds := ts.1, nanos := ts.2, centre := x.ctx.centreHz }
        let s := s.writeSignature i mant e
        .next { s with dmd := { s.dmd with ended := s.dmd.ended.map (fun y =>
          if y.order = order then
            { y with handle := some (4096 * gen + i), angle := some (s.angleOf az el sigAz sigEl) } else y) } }

/-- Entries pinned. -/
def BeamUnit.pinned (u : BeamUnit) : Nat := (u.sigs.filter (fun p => p.2.pinned)).length

def sigPinBody (r : Running) (s : State) : CmdEffect :=
  let p := r.cmd.payload
  let h := u16 p 0
  let e := s.beam.sig (handleIndex h)
  let pin := u8 p 2 == 0
  match firstFailure
      [(decide (u8 p 2 ≤ 1), Status.badParam),
       (s.beam.matchesSig h, Status.sigStale),
       (!pin || e.pinned || decide (s.beam.pinned < 256), Status.noResource)] with
  | some st => .status s st
  | none => .ok { s with beam := { s.beam with sigs := Tab.set s.beam.sigs (handleIndex h) { e with pinned := pin } } } []

/-- The envelope of BEAM_SIG_PIN. -/
def specBeamSigPin : CmdSpec := { opcode := 0x0408, minLen := fun _ => 4 }

/-- BEAM_SIG_PIN. -/
def execBeamSigPin (s : State) : Host.Outcome State Fault Refusal := runCommand specBeamSigPin sigPinBody s

def sigReadBody (r : Running) (s : State) : CmdEffect :=
  let h := u16 r.cmd.payload 0
  if !s.beam.matchesSig h then .status s Status.sigStale
  else
    let e := s.beam.sig (handleIndex h)
    let fl := 1 + (if e.pinned then 2 else 0) + (if e.held = 0 then 0 else 4) + (if e.ownOnly then 8 else 0)
    .ok s (le 2 h ++ le 1 fl ++ le 1 e.exponent ++ le 1 e.gainEpoch ++ zeros 1 ++ le 2 e.acqCount ++ le 4 e.seconds ++
      le 4 e.nanos ++ le 4 e.centre ++ zeros 12 ++ memReadBytes unlisted s.mem (sigPool + 256 * handleIndex h) 256)

/-- The envelope of BEAM_SIG_READ. -/
def specBeamSigRead : CmdSpec := { opcode := 0x0409, minLen := fun _ => 2 }

/-- BEAM_SIG_READ. -/
def execBeamSigRead (s : State) : Host.Outcome State Fault Refusal := runCommand specBeamSigRead sigReadBody s

/-! ### Stuck converters and status (R511, R171) -/

/-- STUCK_ADC: an ADC word of path `p` has not changed for 10 ms of time in RX: the path is retired from receive. -/
def execStuckAdc (t : Nat) (p : Fin 64) (s : State) : Host.Outcome State Fault Refusal :=
  let s := s.advance t
  if s.path.rxMask.getLsbD p.val then .next (s.retirePaths (bitAt 64 p) 1 3) else .next s

/-- COMBINING. -/
def State.combining (s : State) : Nat :=
  if s.role == .manager || s.isWorker then (if s.beam.ownOnly then 1 else 2) else 0

/-- Something is staged. -/
def Staging.any (g : Staging) : Bool := !g.sources.isEmpty || !g.loads.isEmpty || g.shift.isSome

/-- TS64 of a pending swap, zeros without one. -/
def State.swapTs (s : State) (w : Option BeamSwap) : List Byte :=
  match w with | some x => s.ts64Bytes x.instant | none => zeros 8

/-- Response of BEAM_GET_STATUS. -/
def State.beamStatus (s : State) : List Byte :=
  let u := s.beam
  le 1 u.bank ++ le 1 u.epoch ++ le 1 s.combining ++ le 1 u.shift ++
    le 1 ((if u.host.isSome then 1 else 0) + (if u.internal.isSome then 2 else 0) + (if u.following.any then 4 else 0)) ++
    le 1 (match u.internal with | some w => w.cause | none => 0) ++ le 2 u.pinned ++ s.swapTs u.host ++ s.swapTs u.internal ++
    (List.range 64).flatMap (fun p => le 1 (if s.spare.sliceLost.getLsbD p then 0xFF else Tab.get u.slices p p)) ++
    le 1 u.spareSlices.toNat ++ zeros 1 ++ le 2 u.txUse.toNat ++ le 2 u.geometry.length ++ zeros 2 ++
    (List.range 64).flatMap (fun b => le 1 (u.defOf b).source.code) ++
    (List.range 64).flatMap (fun b => le 2 (Tab.get u.satBeam b 0)) ++
    (List.range 64).flatMap (fun p => le 2 (Tab.get u.satPre p 0))

def beamGetStatusBody (_ : Running) (s : State) : CmdEffect :=
    .ok { s with beam := { s.beam with satBeam := [], satPre := [] } } s.beamStatus

/-- The envelope of BEAM_GET_STATUS. -/
def specBeamGetStatus : CmdSpec := { opcode := 0x040A }

/-- BEAM_GET_STATUS. -/
def execBeamGetStatus (s : State) : Host.Outcome State Fault Refusal := runCommand specBeamGetStatus beamGetStatusBody s

end Sys2Proof.Machine
end

