-- ==== Sys2Proof/Machine/HznOps.lean ====
section
/-!
DEFINITION. Horizon as Demodulation and Spares touch it: modes and profiles (Tables HZN-1 to HZN-3), windows and ranks (R185), the
banks (R179), settings that a boundary applies (R198), and angles of vectors.
-/

namespace Sys2Proof.Machine

open Sys2Proof

/-! ### Modes (Tables HZN-1 to HZN-3, R177) -/

/-- RATE, CHIP_RATE or OPTION. -/
def Profile.mode (p : Profile) : Nat := u8 p.params 0

/-- SPAN in bins. -/
def Profile.span (p : Profile) : Nat :=
  if p.phy = 0 then
    let k := if p.mode ≥ 9 then 3 else 1
    -- (B + 50 kHz) / 100 kHz rounded up, then to the next odd number
    let n := (fskSymbolRate p.mode * (100 + k * u16 p.params 2) + 5000000 + 9999999) / 10000000
    if n % 2 = 0 then n + 1 else n
  else if p.phy = 1 then ([3, 15, 29] : List Nat).getD p.mode 3
  else ([13, 13, 7, 5, 3] : List Nat).getD p.mode 3

/-- h = (SPAN − 1) / 2 (R178). -/
def Profile.half (p : Profile) : Nat := (p.span - 1) / 2

/-- T_M in time units: also the symbol of the running metric and of LOSS_SYMBOLS (R202, R221). -/
def Profile.mergeTime (p : Profile) : Nat :=
  if p.phy = 0 then Config.sec / fskSymbolRate p.mode
  else if p.phy = 1 then ([160, 16, 8] : List Nat).getD p.mode 160 * Config.us
  else 120 * Config.us

/-- Duration of the reference: 16 symbols, 128 chips, or two STF symbols. -/
def Profile.refTime (p : Profile) : Nat :=
  if p.phy = 0 then 16 * p.mergeTime else if p.phy = 1 then 8 * p.mergeTime else 240 * Config.us

/-- Symbols before the running metric moves (R202), as a time. -/
def Profile.settleTime (p : Profile) : Nat := (if p.phy = 2 then 2 else 16) * p.mergeTime

/-- H of R186: epochs of the hold. -/
def Profile.hold (p : Profile) : Nat := Nat.max 1 ((p.mergeTime + Config.epoch - 1) / Config.epoch)

/-- A profile in force. -/
def Hzn.profile (h : Hzn) (n : Nat) : Profile := Tab.get h.profiles n {}

/-- The last settings given for a profile: waiting, about to apply, or in force. -/
def Hzn.latest (h : Hzn) (n : Nat) : Profile :=
  match Tab.find? h.waiting n, Tab.find? h.applying n with
  | some x, _ => x
  | none, some x => x
  | none, none => h.profile n

/-! ### Ranks and windows (R185, R188) -/

/-- The order of R185: higher metric, lower beam, lower bin, earlier time. -/
def rawBefore (a b : RawDetection) : Bool :=
  if a.metric ≠ b.metric then decide (b.metric < a.metric)
  else if a.beam ≠ b.beam then decide (a.beam < b.beam)
  else if a.bin ≠ b.bin then decide (a.bin < b.bin)
  else decide (a.time < b.time)

/-- Put `x` before the first of the list that it goes before. -/
def insertBy {α : Type} (before : α → α → Bool) (x : α) : List α → List α
  | [] => [x]
  | y :: r => if before x y then x :: y :: r else y :: insertBy before x r

/-- A list in the order of `before`, equals in the order given. -/
def sortBy {α : Type} (before : α → α → Bool) (l : List α) : List α :=
  l.foldl (fun acc x => insertBy before x acc) []

/-- The detection that a candidate stands on. -/
def Candidate.raw (c : Candidate) : RawDetection :=
  { profile := c.profile, beam := c.beam, bin := c.bin, metric := c.metric, offsetHz := c.offsetHz, time := c.time }

/-- Two bins are within ±2. -/
def nearBin (a b : Nat) : Bool := decide (a ≤ b + 2) && decide (b ≤ a + 2)

/-- Beam and bin lie within the window of a head or candidate on `beam` (neighbours `nb`) and `bin`. -/
def nearBeamBin (beam bin : Nat) (nb : List Nat) (b k : Nat) : Bool :=
  nearBin bin k && (b == beam || nb.contains b)

/-- |a − b| ≤ m. -/
def nearTime (a b m : Nat) : Bool := decide (a ≤ b + m) && decide (b ≤ a + m)

/-! ### Counters -/

/-- Change one profile's counters of Table HZN-8. -/
def State.hznCount (s : State) (p : Nat) (f : HznCounts → HznCounts) : State :=
  { s with hzn := { s.hzn with counts := Tab.set s.hzn.counts p (f (Tab.get s.hzn.counts p {})) } }

/-- Count evictions. -/
def State.hznEvicted (s : State) (p n : Nat) : State := s.hznCount p (fun c => { c with evicted := wrapAdd 32 c.evicted n })

/-- The remaining candidates in hold of a profile are dropped and counted (R198, R505). -/
def State.dropHeld (s : State) (p : Nat) : State :=
  let n := (s.hzn.held.filter (fun c => c.profile == p)).length
  if n = 0 then s
  else ({ s with hzn := { s.hzn with held := s.hzn.held.filter (fun c => c.profile != p) } }).hznEvicted p n

/-! ### Banks (R179) and settings (R198) -/

/-- Profiles that hold a working bank. -/
def State.banksUsed (s : State) : Nat :=
  ((List.range 8).filter (fun p => match Tab.find? s.spare.bankOf p with
    | some b => s.spare.banks.contains b
    | none => false)).length

/-- A profile searches: enabled, with a working bank. -/
def State.searching (s : State) (p : Nat) : Bool :=
  (s.hzn.profile p).enable && (match Tab.find? s.spare.bankOf p with
    | some b => s.spare.banks.contains b
    | none => false)

/-- The lowest working bank that no profile holds. -/
def State.freeBank (s : State) : Option Nat :=
  ((sortBy (fun a b => decide (a < b)) s.spare.banks).find? (fun b => !s.spare.bankOf.any (fun (p : Nat × Nat) => p.2 == b)))

/-- EV_HZN_PROFILE. -/
def State.profileEvent (s : State) (p : Nat) (enable : Bool) (t : Nat) : State :=
  s.raiseEvent 0x0503 .info (le 1 p ++ b8 enable ++ zeros 6 ++ s.ts64Bytes t)

/-- New settings of a profile come into force at the boundary `t`: its remaining candidates in hold go, and it takes or gives
back a bank. -/
def State.putProfile (s : State) (n : Nat) (x : Profile) (t : Nat) : State :=
  let s := s.dropHeld n
  let bankOf := if !x.enable then Tab.erase s.spare.bankOf n
    else match Tab.find? s.spare.bankOf n, s.freeBank with
      | some _, _ => s.spare.bankOf
      | none, some b => Tab.set s.spare.bankOf n b
      | none, none => s.spare.bankOf
  let s := { s with
    hzn := { s.hzn with profiles := Tab.set s.hzn.profiles n x }
    spare := { s.spare with bankOf := bankOf } }
  s.profileEvent n x.enable t

/-- The settings of R198 and R223 that the last boundary applies take effect. -/
def State.applySettings (s : State) : State :=
  let t := s.boot.releasedAt + s.hzn.epoch * Config.epoch
  let s := s.hzn.applying.foldl (fun s (p : Nat × Profile) => s.putProfile p.1 p.2 t) s
  { s with
    hzn := { s.hzn with applying := [] }
    dmd := { s.dmd with
      controls := s.dmd.applying.foldl (fun c (p : Nat × Control) => Tab.set c p.1 p.2) s.dmd.controls
      applying := [] } }

/-! ### Bins covered and busy (R182, R196) -/

/-- A sub-band about bin `b` with half-width `h` includes bin k. -/
def coversBin (b h k : Nat) : Bool := decide (b ≤ k + h) && decide (k ≤ b + h)

/-- The bins of a sub-band. -/
def subband (b h : Nat) : List Nat := (List.range (2 * h + 1)).map (fun i => b + i - h)

/-- The bins of a sub-band have been busy up to `t` (R196). -/
def State.touchBins (s : State) (b h t : Nat) : State :=
  { s with hzn := { s.hzn with busyAt := Tab.update s.hzn.busyAt (subband b h) 0 (fun _ v => Nat.max v t) } }

/-- Horizon indicates quiet for bin k (R196). -/
def State.quiet (s : State) (k : Nat) : Bool :=
  (match Tab.find? s.hzn.busyAt k with | some t => decide (t + 200 * Config.us ≤ s.now) | none => true) &&
    !(s.dmd.contexts.any (fun p => p.2.active && coversBin p.2.bin p.2.profile.half k))

/-! ### Angles of vectors -/

/-- The angle of (x, y), both not negative, in 0.01 degree rounded: the largest k of 0 to 9,000 that y/x reaches less half a
step; `n` binary digits. -/
def atanFirst : Nat → Nat → Int → Int → Nat
  | 0, k, _, _ => k
  | n + 1, k, x, y =>
    let j := k + 2 ^ n
    -- the direction of j − 1/2 steps
    let a := (((2 * j - 1) * 2 ^ 32 : Nat) : Int).ediv 72000
    if j ≤ 9000 ∧ 0 ≤ fxCos a * y - fxSin a * x then atanFirst n j x y else atanFirst n k x y

/-- The angle of (x, y) from the x axis, in 0.01 degree, −18,000 to 18,000. -/
def atan2Centi (y x : Int) : Int :=
  let k : Int := (atanFirst 14 0 x.natAbs y.natAbs : Nat)
  let k := if x < 0 then 18000 - k else k
  if y < 0 then -k else k

end Sys2Proof.Machine
end

