-- ==== Sys2Proof/Machine/Cal.lean ====
section
/-!
DEFINITION. Calibration from signal statistics (spec/11).
-/

namespace Sys2Proof.Machine

open Sys2Proof

/-! ### Writing sets (Table CAL-3) -/

/-- `b` with `new` at offset `o`. -/
def patch (b : List Byte) (o : Nat) (new : List Byte) : List Byte := b.take o ++ new ++ b.drop (o + new.length)

/-- Where kind k keeps the values of unit u in its set: offset and bytes. -/
def trimPlace (k u : Nat) : Nat × Nat :=
  if k = 0 then (0x20 + 8 * u, 4)
  else if k = 1 then (0x20 + 24 * u, 4)
  else if k = 2 then (0x2C + 24 * u, 1)
  else if k = 3 then (0x24 + 24 * u, 4)
  else if k = 4 then (0x28 + 24 * u, 4)
  else if k = 5 then (0x620 + 4 * u, 4)
  else if k = 7 then (0x30 + 24 * u, 4)
  else (0x34 + 24 * u, 4)

/-- Largest trim code of a kind (Table PATH-4). -/
def trimLimit (k : Nat) : Int := if k = 0 then 512 else if k = 3 then 2048 else 500

/-- A trim moved towards a value by at most four steps (R282). -/
def trimToward (k : Nat) (old new : Int) : Int :=
  let d := if new - old > 4 then 4 else if new - old < -4 then -4 else new - old
  let v := old + d
  if k = 2 then (if v < 0 then 0 else if 63 < v then 63 else v)
  else if trimLimit k < v then trimLimit k else if v < -(trimLimit k) then -(trimLimit k) else v

/-- The bytes that a step writes for a unit, and the farthest move of a trim. -/
def trimBytes (k : Nat) (old : List Byte) (a b : Int) : List Byte × Nat :=
  if k = 2 then
    let o : Int := u8 old 0
    let v := trimToward k o a
    (leS 1 v, (v - o).natAbs)
  else if k = 7 ∨ k = 8 then (leS 2 (satSym 16 a) ++ leS 2 (satSym 16 b), 0)
  else
    let x := trimToward k (s16 old 0) a
    let y := trimToward k (s16 old 2) b
    (leS 2 x ++ leS 2 y, Nat.max (x - s16 old 0).natAbs (y - s16 old 2).natAbs)

/-- The set in force that kind k writes: the step set of the gain step in force, or the channel set. -/
def State.setOf (s : State) (k : Nat) : List Byte := if k = 0 then s.cal.stepBytes s.path.step else s.cal.channelBytes

/-- Put a set in force. -/
def State.putSet (s : State) (k : Nat) (b : List Byte) : State :=
  if k = 0 then { s with cal := { s.cal with steps := Tab.set s.cal.steps s.path.step b } }
  else { s with cal := { s.cal with channel := some b } }

/-- One write of a step: the new set, what stood there before, and the farthest move. -/
def writeUnit (k : Nat) (acc : List Byte × List (Nat × List Byte) × Nat) (w : Nat × Int × Int) :
    List Byte × List (Nat × List Byte) × Nat :=
  let pl := trimPlace k w.1
  let old := bytesAt acc.1 pl.1 pl.2
  let n := trimBytes k old w.2.1 w.2.2
  (patch acc.1 pl.1 n.1, (pl.1, old) :: acc.2.1, Nat.max acc.2.2 n.2)

/-! ### Steps (R281 to R284) -/

/-- Shortest measurement of a kind (Table CAL-2). -/
def stepTime (k : Nat) : Nat :=
  if k ≤ 1 then 200 * Config.us else if k = 2 then Config.ms else if k = 6 then 400 * Config.us else 0

/-- Bins that must be quiet for a receive step: its fixed bins, or the mirror pairs that an RX_IQ step used. -/
def stepBins (k : Nat) (bins : List Nat) : List Nat :=
  if k = 0 then [191, 192]
  else if k = 1 then bins.flatMap (fun b => [b, 383 - b])
  else if k = 2 then (List.range 32).map (fun i => 32 + i) ++ (List.range 32).map (fun i => 320 + i)
  else []

/-- A bin was quiet when a step began, and no detection or context has touched it since. -/
def State.quietSince (s : State) (t k : Nat) : Bool :=
  (match Tab.find? s.hzn.busyAt k with | some b => decide (b + 200 * Config.us ≤ t) | none => true) &&
    !(s.dmd.contexts.any (fun p => p.2.active && coversBin p.2.bin p.2.profile.half k))

/-- The measurement of a step is kept (R282, R283): long enough, undisturbed, and on quiet bins. -/
def State.stepKept (s : State) (k : Nat) (x : CalStep) : Bool :=
  decide (x.since + stepTime k ≤ s.now) && decide (s.cal.disturbedAt < x.since) &&
    decide ((s.cal.kind k).stopAt < x.since) && (k != 1 || decide (16 ≤ x.bins.length)) &&
    (stepBins k x.bins).all (fun b => s.quietSince x.since b)

/-- Transmit trims of a path are not written while a burst of the path lies between L − 23 us and t4 (R284). -/
def State.trimsHeld (s : State) (k : Nat) (paths : List Nat) : Bool :=
  (k == 3 || k == 4) && s.tx.queue.any (fun b => decide (s.launchAt b ≤ s.now + 23 * Config.us)) &&
    paths.any (fun p => s.path.txMask.getLsbD p)

/-- Quadrants whose receive samples lay between t0 and t6 of a burst during the span (R283). -/
def State.quadrantsBlanked (s : State) (x : Span) : BitVec 4 :=
  let old := s.tx.blanked.foldl (fun m p => if overlaps x p.2 then m ||| p.1 else m) 0#4
  s.tx.queue.foldl (fun m b => match b.lines with
    | some (lead, _, _, q) => if s.launchAt b - lead < x.stop then m ||| q else m
    | none => m) old

/-- Record the figures of a step (Table CAL-5). -/
def State.noteFigure (s : State) (k : Nat) (f : CalFigure) : State :=
  let x := Tab.get s.cal.stats f.path {}
  let x := if k = 0 then { x with dc := f.a } else if k = 1 then { x with rxImage := f.a }
    else if k = 3 then { x with txLeak := f.a } else if k = 4 then { x with txImage := f.a }
    else if k = 7 ∨ k = 8 then
      { x with phaseSigma := f.a, gainSigma := f.b, phaseStep := f.phaseStep, gainStep := f.gainStep }
    else x
  if f.path < 64 then { s with cal := { s.cal with stats := Tab.set s.cal.stats f.path x } } else s

/-- EV_CAL_DONE. -/
def State.calDone (s : State) (k result cause : Nat) : State :=
  let c := s.cal.kind k
  s.raiseEvent 0x0901 .info (le 1 k ++ le 1 result ++ leSat 2 c.residual ++ leSat 2 c.sigma ++ le 1 cause ++ zeros 9)

/-- The run of a kind ends. The active synthesiser that a host's SYN run held is ready again from now. -/
def State.endRun (s : State) (k result : Nat) : State :=
  match (s.cal.kind k).run with
  | none => s
  | some r =>
    let s := s.setKind k (fun c => { c with run := none, runAt := some (s.now, s.thermal.tj) })
    let s := if r.activeSyn then { s with radio := { s.radio with readySince := s.now } } else s
    s.calDone k result r.cause

/-- The kind has converged with this step (Table CAL-2). -/
def State.stepConverges (s : State) (k : Nat) (x : CalStep) (moved : Nat) (paths : Mask64) : Bool :=
  if k = 7 ∨ k = 8 then
    (bitsOf paths).all (fun p => match Tab.find? s.cal.stats p with
      | some f => decide (f.phaseSigma ≤ 250) && decide (f.gainSigma ≤ 20)
      | none => false)
  else x.settled && decide (moved ≤ 1)

/-- A synthesiser's trims moved by a SYN step, one that does not feed the LO tree unless the host asked. -/
def State.synStep (s : State) (active : Bool) (ws : List (Nat × Int × Int)) : State × List (Nat × List Byte) × Nat :=
  ws.foldl (fun (a : State × List (Nat × List Byte) × Nat) w =>
    if 2 < w.1 ∨ (w.1 = s.radio.active ∧ !active) then a
    else
      let y := a.1.radio.synth w.1
      let lim := fun (m : Int) (v : Int) => if v < 0 then 0 else if m < v then m else v
      let go := fun (old new : Int) => old + (if new - old > 4 then 4 else if new - old < -4 then -4 else new - old)
      let band := (lim 255 (go y.trims.band w.2.1)).toNat
      let gain := (lim 1023 (go y.trims.gain w.2.2)).toNat
      let moved := Nat.max ((band : Int) - y.trims.band).natAbs ((gain : Int) - y.trims.gain).natAbs
      (a.1.setSyn w.1 (fun y => { y with trims := { y.trims with band := band, gain := gain } }),
        (w.1, le 1 y.trims.band ++ le 2 y.trims.gain) :: a.2.1, Nat.max a.2.2 moved)) (s, [], 0)

/-- The writes of a step (R280): trims, or corrections that a CORRECTION swap activates (R291). -/
def State.writeStep (s : State) (k : Nat) (r : CalRun) (x : CalStep) : State × List (Nat × List Byte) × Nat :=
  if k = 6 then s.synStep r.activeSyn x.writes
  else
    -- a receive step leaves out the paths of a quadrant that a burst blanked (R283)
    let out : BitVec 4 := if k ≤ 2 then s.quadrantsBlanked { start := x.since, stop := s.now } else 0#4
    let units := x.writes.filter (fun w =>
      if k = 5 then decide (w.1 < 16) else decide (w.1 < 64) && r.paths.getLsbD w.1 && !out.getLsbD (w.1 / 16))
    let w := units.foldl (writeUnit k) (s.setOf k, [], 0)
    let s := if units.isEmpty then s else s.putSet k w.1
    let s := if k = 2 then { s with filt := { s.filt with cornerKHz := x.cornerKHz.getD s.filt.cornerKHz } } else s
    ((if k = 7 ∨ k = 8 then s.stageCorr.internalSwap 4 else s), w.2.1, w.2.2)

/-- CAL_STEP_COMPLETE (R282): a step of kind k ends its measurement; it is discarded, or writes its update and may end the run. A
step that took the observation selection gives it back. XDEV is evaluated by XDEV_SNAPSHOT_EVAL. -/
def execCalStepComplete (t : Nat) (k : Fin 10) (x : CalStep) (s : State) : Host.Outcome State Fault Refusal :=
  let s := s.advance t
  let s := if [3, 4, 5, 8].contains k.val then s.releaseObs .cal else s
  match (s.cal.kind k).run with
  | none => .next s
  | some r =>
    if k.val = 9 ∨ s.trimsHeld k (x.writes.map (fun w => w.1)) ∨ !s.stepKept k x then .next s
    else
      let w := s.writeStep k r x
      let s := x.figures.foldl (fun s f => s.noteFigure k f) w.1
      let done := s.stepConverges k x w.2.2 r.paths
      let s := s.setKind k (fun c => { c with
        updates := satAdd 16 c.updates 1, updatedAt := some s.now, tjLast := s.thermal.tj, residual := x.residual
        sigma := x.sigma, source := 2, before := w.2.1.map (fun b => (if k.val = 0 then 1024 * s.path.step + b.1 else b.1, b.2)), converged := done
        run := some { r with usefulAt := s.now } })
      .next (if done then s.endRun k 0 else s)

/-! ### The supervisor (R286, R287) -/

/-- CAL_RUN_TRIGGER: the temperature has moved by more than DELTA_T, or INTERVAL_S has passed, since the kind's last run. -/
def execCalRunTrigger (t : Nat) (k : Fin 10) (s : State) : Host.Outcome State Fault Refusal :=
  let s := s.advance t
  let dt := Tab.get s.cal.deltaT k 4
  let iv := Tab.get s.cal.intervalS k (if k.val = 9 then 0 else 3600)
  match (s.cal.kind k).runAt with
  | none => .next s
  | some (at', tj) =>
    let hot := dt != 0 && decide (100 * dt < (s.thermal.tj - tj).natAbs)
    let late := iv != 0 && decide (at' + iv * Config.sec ≤ s.now)
    if k.val = 9 ∧ s.role ≠ .manager then .next s
    else if hot then .next (s.startRuns 0 [k.val] s.enabledPaths false)
    else if late then .next (s.startRuns 1 [k.val] s.enabledPaths false)
    else .next s

/-- AGE_S: since the last update; of a kind never updated a free value. -/
def State.calAge (s : State) (k : Nat) : Nat × State :=
  match (s.cal.kind k).updatedAt with
  | some t => ((s.now - t) / Config.sec, s)
  | none => s.draw

/-- CAL_STARVED (R287, R300): STARVE_S without a usable step; the run ends, EV_CAL_STARVED at most once per STARVE_S. -/
def execCalStarved (k : Fin 10) (lacking : Fin 4) (s : State) : Host.Outcome State Fault Refusal :=
  match (s.cal.kind k).run with
  | none => .next s
  | some r =>
    let due := r.usefulAt + s.cal.starveS * Config.sec
    let s := s.advance due
    let c := s.cal.kind k
    let tell := match c.starvedAt with | some t => decide (t + s.cal.starveS * Config.sec ≤ s.now) | none => true
    let s := s.endRun k 1
    if !tell then .next s
    else
      let s := s.setKind k (fun c => { c with starved := satAdd 16 c.starved 1, starvedAt := some s.now })
      let a := s.calAge k
      .next (a.2.raiseEvent 0x0903 .warn (le 1 k ++ le 1 lacking ++ zeros 2 ++ le 4 a.1 ++ zeros 8))

/-! ### Cross-device coherence (R292, R293) -/

/-- N of R292 times 3: 8 · SPAN samples over 3. -/
def xdevWeight (span rm rd : Nat) : Nat :=
  -- 1/σ² = 2N / (1/ρm + 1/ρd), N = 8 SPAN / 3, ρ and the result in 1/65,536
  if rm + rd = 0 then 0 else 16 * span * rm * rd / (3 * (rm + rd))

/-- One packet's part for a device. -/
def XdevEstimate.add (x : XdevEstimate) (span : Nat) (p : XdevPart) : XdevEstimate :=
  let w := xdevWeight span p.rhoManager p.rhoDevice
  { x with weight := x.weight + w, sum := ⟨x.sum.i + p.ratioI * w, x.sum.q + p.ratioQ * w⟩, packets := satAdd 16 x.packets 1 }

/-- The combined ratio in Q2.14; 1 before any packet. -/
def XdevEstimate.ratio (x : XdevEstimate) : Cplx :=
  if x.weight = 0 then ⟨16384, 0⟩
  else ⟨satSym 16 (roundDiv x.sum.i x.weight), satSym 16 (roundDiv x.sum.q x.weight)⟩

/-- Phase of a factor in 0.01 degree. -/
def phaseOf (c : Cplx) : Int := atan2Centi c.q c.i

/-- Two phases differ by more than 0.5 degree. -/
def phaseMoved (a b : Cplx) : Bool :=
  let d := (phaseOf a - phaseOf b).emod 36000
  decide (50 < d) && decide (d < 35950)

/-- The manager tells the workers their X_d. -/
def State.sendFactors (s : State) (ps : List Nat) : State :=
  ps.foldl (fun s d =>
    let f := (Tab.get s.cal.xdev d {}).factor
    s.message d 5 (le 1 1 ++ zeros 3 ++ leS 2 f.i ++ leS 2 f.q)) s

/-- Every joined device's combined sigma is below 1 degree over at least 8 packets (R293). -/
def State.coherent (s : State) : Bool :=
  s.joinedWorkers.all (fun d =>
    let x := Tab.get s.cal.xdev d {}
    decide (8 ≤ x.packets) && decide (x.sigma < 1000))

/-- The estimates become the factors of the devices `ps`, and a swap of the given cause activates them. -/
def State.takeFactors (s : State) (ps : List Nat) (cause : Nat) : State :=
  let old := ps.map (fun d => (d, let f := (Tab.get s.cal.xdev d {}).factor; leS 2 f.i ++ leS 2 f.q))
  let s := { s with cal := { s.cal with
    xdev := Tab.update s.cal.xdev ps {} (fun _ x => { x with factor := x.ratio }) } }
  let s := s.setKind 9 (fun c => { c with before := old })
  (s.sendFactors ps).internalSwap cause

/-- XDEV_SNAPSHOT_EVAL (R292, R293): the manager evaluates a snapshot whose packet's record has status OK and SNR at or above
XDEV_SNR_MIN, with its window inside the air interval. Convergence brings full combining; later a change of more than 0.5
degree brings a CORRECTION swap. -/
def execXdevSnapshotEval (t : Nat) (recordOk : Bool) (snr : Int) (inside : Bool) (span : Nat) (parts : List XdevPart) (s : State) :
    Host.Outcome State Fault Refusal :=
  let s := s.advance t
  if s.role ≠ .manager ∨ !recordOk ∨ !inside ∨ snr < 100 * (s.cal.xdevSnrMin : Int) ∨ s.joinedWorkers.isEmpty then .next s
  else
    let mine := parts.filter (fun (p : XdevPart) => s.joinedWorkers.contains p.position)
    let s := { s with cal := { s.cal with
      xdev := mine.foldl (fun (x : Tab XdevEstimate) (p : XdevPart) => Tab.set x p.position ((Tab.get x p.position {}).add span p)) s.cal.xdev
      xdevPackets := s.cal.xdevPackets + 1 } }
    let worst := s.cal.worstSigma
    let s := s.setKind 9 (fun c =>
      let run : Option CalRun := c.run.map (fun r => { r with usefulAt := s.now })
      { c with ran := true, updates := satAdd 16 c.updates 1, updatedAt := some s.now, tjLast := s.thermal.tj, residual := worst,
               sigma := worst, source := 2, run := run })
    if !s.coherent then .next s
    else
    let first := !s.cal.xdevConverged
    let s := { s with cal := { s.cal with xdevConverged := true } }
    let s := (s.setKind 9 (fun c => { c with converged := true })).endRun 9 0
    if first then .next (s.takeFactors s.joinedWorkers 16)
    else
      let moved := s.joinedWorkers.filter (fun d =>
        let x := Tab.get s.cal.xdev d {}
        phaseMoved x.ratio x.factor)
      .next (if moved.isEmpty then s else s.takeFactors moved 4)

/-! ### Stores (R296) -/

/-- A set as it is stored: header with the present LO, temperature and time, body in force, CRC-32. -/
def State.sealSet (s : State) (typ idx : Nat) (body : List Byte) : List Byte :=
  let n := if typ = 0 then channelSetLen else stepSetLen
  let tj := s.thermal.tj.ediv 100
  let at' := if s.timeUsable then s.ts64Bytes s.now else zeros 8
  let head := le 2 1 ++ le 1 typ ++ le 1 0 ++ le 2 idx ++ zeros 2 ++ le 4 (if typ = 0 then s.loHz else 0) ++ leS 1 tj ++ zeros 3 ++
    at' ++ zeros 8
  let b := head ++ bytesAt body 0x20 (n - 0x20 - 32) ++ zeros 28
  b ++ le 4 (crc32 b)

/-- The active channel set, sealed for entry e. -/
def State.sealChannel (s : State) (e : Nat) : List Byte := s.sealSet 0 e s.cal.channelBytes
/-- The step set in force, sealed. -/
def State.sealStep (s : State) : List Byte := s.sealSet 1 s.path.step (s.cal.stepBytes s.path.step)

/-- A stored set holds the same trims and corrections. -/
def sameBody (n : Nat) (stored : Option (List Byte)) (new : List Byte) : Bool :=
  match stored with
  | some b => b.length == n && bytesAt b 0x20 (n - 0x40) == bytesAt new 0x20 (n - 0x40)
  | none => false

/-- STORE_INTERVAL_S has passed since the slot was last written. -/
def State.storeDue (s : State) (slot : Nat) : Bool :=
  match Tab.find? s.cal.storedAt slot with
  | some t => decide (t + s.cal.storeIntervalS * Config.sec ≤ s.now)
  | none => true

/-- A write of the record is already queued. -/
def State.nvQueued (s : State) (r : NvRecord) : Bool := s.nv.queue.any (fun j => j.record == r)

/-- CAL_AUTO_STORE (R296): the supervisor stores the sets whose kinds have all converged, that differ from the stored ones, and
whose slots were last written long enough ago. -/
def execCalAutoStore (t : Nat) (s : State) : Host.Outcome State Fault Refusal :=
  let s := s.advance t
  let s := match s.cal.entry with
    | none => s
    | some e =>
      let b := s.sealChannel e
      if channelKinds.all (fun k => (s.cal.kind k).converged) && !sameBody channelSetLen (Tab.find? s.nv.calChannel e) b &&
          s.storeDue e && !s.nvQueued (.calChannel e) then
        s.nvOwnWrite (.calChannel e) b
      else s
  let g := s.path.step
  let b := s.sealStep
  if (s.cal.kind 0).converged && !sameBody stepSetLen (Tab.find? s.nv.calStep g) b && s.storeDue (256 + g) &&
      !s.nvQueued (.calStep g) then
    .next (s.nvOwnWrite (.calStep g) b)
  else .next s

/-! ### Commands (R299, Tables CAL-4 to CAL-6) -/

/-- Kinds of a KIND_MASK. -/
def kindsOf (m : Nat) : List Nat := (List.range 10).filter (fun k => m.testBit k)

def calRunBody (r : Running) (s : State) : CmdEffect :=
  let p := r.cmd.payload
  let ks := kindsOf (u16 p 0)
  if s.isWorker && ks.contains 9 then .status s Status.notPermitted
  else
    let activeSyn := u8 p 2 % 2 == 1 && ks.contains 6 && (s.cal.kind 6).run.isNone
    let s := s.startRuns 2 ks (mask64 p 8) activeSyn
    -- a host-requested step on the active synthesiser is a cold acquisition (R99)
    let s := if !activeSyn then s
      else match (s.radio.synth s.radio.active).setting with
        | some x => s.acquireOrWait s.radio.active { x with byEntry := none, forceCold := true } r.reached
        | none => s
    .ok s []

/-- The envelope of CAL_RUN. -/
def specCalRun : CmdSpec := { opcode := 0x0901, minLen := fun _ => 16 }

/-- CAL_RUN. -/
def execCalRun (s : State) : Host.Outcome State Fault Refusal := runCommand specCalRun calRunBody s

def setSupervisorBody (r : Running) (s : State) : CmdEffect :=
  let p := r.cmd.payload
  if inRange 10 (u16 p 2) 3600 && decide (60 ≤ u16 p 4) && inRange 10 (u8 p 6) 30 &&
      (List.range 10).all (fun k => decide (u8 p (0x10 + 4 * k) ≤ 20)) then
    .ok { s with cal := { s.cal with
      autoMask := BitVec.ofNat 10 (u16 p 0), starveS := u16 p 2, storeIntervalS := u16 p 4, xdevSnrMin := u8 p 6
      deltaT := (List.range 10).map (fun k => (k, u8 p (0x10 + 4 * k)))
      intervalS := (List.range 10).map (fun k => (k, u16 p (0x12 + 4 * k))) } } []
  else .status s Status.badParam

/-- The envelope of CAL_SET_SUPERVISOR. -/
def specCalSetSupervisor : CmdSpec := { opcode := 0x0902, minLen := fun _ => 0x38 }

/-- CAL_SET_SUPERVISOR. -/
def execCalSetSupervisor (s : State) : Host.Outcome State Fault Refusal := runCommand specCalSetSupervisor setSupervisorBody s

/-- STATE of a kind. -/
def Cal.stateOf (c : Cal) (k : Nat) : Nat :=
  let x := c.kind k
  if !c.auto k && x.run.isNone then 3
  else if !x.ran then 0
  else if x.run.isNone && x.converged then 2 else 1

/-- One kind of CAL_GET_STATUS. -/
def State.calStatus (s : State) (k : Nat) : List Byte × State :=
  let c := s.cal.kind k
  let a := s.calAge k
  (le 1 (s.cal.stateOf k) ++ le 1 c.source ++ le 2 c.updates ++ le 4 a.1 ++ leS 1 (c.tjLast.ediv 100) ++ zeros 1 ++
    leSat 2 c.residual ++ leSat 2 c.sigma ++ le 2 c.starved, a.2)

def calGetStatusBody (_ : Running) (s : State) : CmdEffect :=
  let x := (List.range 10).foldl (fun (a : List (List Byte) × State) k =>
    let v := a.2.calStatus k
    (v.1 :: a.1, v.2)) ([], s)
  let xs := if s.role = .manager then (if s.cal.xdevConverged then 1 else 0) else 2
  .ok x.2 (x.1.reverse.flatten ++ le 2 (s.cal.entry.getD 0xFFFF) ++ le 1 xs ++ zeros 13)

/-- The envelope of CAL_GET_STATUS. -/
def specCalGetStatus : CmdSpec := { opcode := 0x0903 }

/-- CAL_GET_STATUS. -/
def execCalGetStatus (s : State) : Host.Outcome State Fault Refusal := runCommand specCalGetStatus calGetStatusBody s

/-- One path of CAL_GET_PATH_STATS. -/
def CalPathStats.bytes (x : CalPathStats) : List Byte :=
  leSat 2 x.phaseSigma ++ leSat 2 x.gainSigma ++ leS 2 (satSym 16 x.phaseStep) ++ leS 2 (satSym 16 x.gainStep) ++
    leSat 2 x.rxImage ++ leSat 2 x.txLeak ++ leSat 2 x.txImage ++ leSat 2 x.dc

/-- Gain of a factor in 0.001 dB: 10 log10 |x|². -/
def milliDb (c : Cplx) : Int :=
  let m := (c.i * c.i + c.q * c.q).toNat
  if m = 0 then -32767
  else satSym 16 (roundDiv ((fxLog2 m - fxLog2 (16384 * 16384)) * 3010299956639810) (2 ^ 40 * 1000000000000))

/-- One position of CAL_GET_PATH_STATS: zero except on the manager. -/
def State.xdevBytes (s : State) (d : Nat) : List Byte :=
  match s.role, Tab.find? s.cal.xdev d with
  | .manager, some x =>
    leS 2 (phaseOf x.ratio) ++ le 2 x.sigma ++ leS 2 (milliDb x.ratio) ++ le 2 x.packets
  | _, _ => zeros 8

def pathStatsBody (_ : Running) (s : State) : CmdEffect :=
  .ok s (((List.range 64).map (fun p => (Tab.get s.cal.stats p {}).bytes)).flatten ++
    ((List.range 16).map (fun d => s.xdevBytes d)).flatten)

/-- The envelope of CAL_GET_PATH_STATS. -/
def specCalGetPathStats : CmdSpec := { opcode := 0x0904 }

/-- CAL_GET_PATH_STATS. -/
def execCalGetPathStats (s : State) : Host.Outcome State Fault Refusal := runCommand specCalGetPathStats pathStatsBody s

def calStoreBody (r : Running) (s : State) : CmdEffect :=
  let w := u8 r.cmd.payload 0
  let ch := w % 2 == 1
  let st := w / 2 % 2 == 1
  match firstFailure [(s.nvTempOk, Status.tempRange), (!ch || s.cal.entry.isSome, Status.noEntry)] with
  | some x => .status s x
  | none =>
    let s := match s.cal.entry with
      | some e => if ch then s.nvEnqueue { record := .calChannel e, data := s.sealChannel e, owner := some r.order } else s
      | none => s
    let s := if st then s.nvEnqueue { record := .calStep s.path.step, data := s.sealStep, owner := some r.order } else s
    if ch || st then .later s [] else .ok s []

/-- The envelope of CAL_STORE. -/
def specCalStore : CmdSpec := { opcode := 0x0905, minLen := fun _ => 4, longest := fun _ => 18 * Config.ms }

/-- CAL_STORE. -/
def execCalStore (s : State) : Host.Outcome State Fault Refusal := runCommand specCalStore calStoreBody s

/-- The set that a restore of kind k reads: none where it is empty or fails its CRC32. -/
def State.restoreSource (s : State) (source entry k : Nat) : Option (List Byte) :=
  if source = 0 then some (if k = 0 then Config.factoryStepSet s.path.step else Config.factoryChannelSet)
  else if k = 0 then
    (Tab.find? s.nv.calStep s.path.step).filter (fun b =>
      setValid stepSetLen 1 b && !s.nv.bad.contains (.calStep s.path.step))
  else
    (Tab.find? s.nv.calChannel entry).filter (fun b => setValid channelSetLen 0 b && !s.nv.bad.contains (.calChannel entry))

/-- Kind k can be restored from the source. -/
def State.restorable (s : State) (source entry k : Nat) : Bool :=
  if source = 2 then (s.cal.kind k).updatedAt.isSome
  else if k = 6 ∨ k = 9 then true
  else (s.restoreSource source entry k).isSome

/-- The values of kind k copied from another set: its own fields, for the step set the whole body. -/
def copyKind (k : Nat) (old src : List Byte) : List Byte :=
  if k = 0 then patch old 0x20 (bytesAt src 0x20 512)
  else (List.range (if k = 5 then 16 else 64)).foldl (fun b u =>
    let pl := trimPlace k u
    patch b pl.1 (bytesAt src pl.1 pl.2)) old

/-- The cross-device factors before the last update: of the chain on the manager, its own on a worker. -/
def State.restoreFactors (s : State) (bs : List (Nat × List Byte)) : State :=
  if s.isWorker then
    bs.foldl (fun s b => { s with cal := { s.cal with xd := pairAt b.2 0 } }) s
  else
    let put := fun (t : Tab XdevEstimate) (b : Nat × List Byte) =>
      let x : XdevEstimate := Tab.get t b.1 {}
      Tab.set t b.1 { x with factor := pairAt b.2 0 }
    let s := { s with cal := { s.cal with xdev := bs.foldl put s.cal.xdev } }
    s.sendFactors (bs.map (fun b => b.1))

/-- One kind restored (R297). SYN trims and X_d stand in no set; they have only previous values. -/
def State.restoreKind (s : State) (source entry k : Nat) : State :=
  let s :=
    if source = 2 then
      let bs := (s.cal.kind k).before
      if k = 6 then
        bs.foldl (fun s b => s.setSyn b.1 (fun y => { y with trims := { y.trims with band := u8 b.2 0, gain := u16 b.2 1 } })) s
      else if k = 9 then s.restoreFactors bs
      else if k = 0 then
        let put := fun (t : Tab (List Byte)) (b : Nat × List Byte) =>
          Tab.set t (b.1 / 1024) (patch ((Tab.find? t (b.1 / 1024)).getD (Config.factoryStepSet (b.1 / 1024))) (b.1 % 1024) b.2)
        { s with cal := { s.cal with steps := bs.foldl put s.cal.steps } }
      else s.putSet k (bs.foldl (fun set b => patch set b.1 b.2) s.cal.channelBytes)
    else if k = 6 ∨ k = 9 then s
    else match s.restoreSource source entry k with
      | some src => s.putSet k (copyKind k (s.setOf k) src)
      | none => s
  s.setKind k (fun c => { c with source := 3, stopAt := s.now })

def calRestoreBody (r : Running) (s : State) : CmdEffect :=
  let p := r.cmd.payload
  let src := u8 p 0
  let ks := kindsOf (u16 p 2)
  let e := u16 p 4
  match firstFailure
      [(decide (src ≤ 2) && (src != 1 || decide (e ≤ 255)), Status.badParam),
       (ks.all (fun k => s.restorable src e k), Status.setInvalid)] with
  | some st => .status s st
  | none =>
    let s := ks.foldl (fun s k => s.restoreKind src e k) s
    let s := if u8 p 1 % 2 = 1 then
        { s with cal := { s.cal with autoMask := s.cal.autoMask &&& ~~~(maskOf 10 ks) } }
      else s
    .ok (if ks.any (fun k => k == 0 || k == 7 || k == 8 || k == 9) then s.stageCorr.internalSwap 4 else s) []

/-- The envelope of CAL_RESTORE. -/
def specCalRestore : CmdSpec := { opcode := 0x0906, minLen := fun _ => 8 }

/-- CAL_RESTORE. -/
def execCalRestore (s : State) : Host.Outcome State Fault Refusal := runCommand specCalRestore calRestoreBody s

def calReadSetBody (r : Running) (s : State) : CmdEffect :=
  let p := r.cmd.payload
  let typ := u8 p 0
  let idx := u16 p 2
  if 3 < typ ∨ (if typ % 2 = 1 then 15 else 255) < idx then .status s Status.badParam
  else if typ = 2 then .ok s Config.factoryChannelSet
  else if typ = 3 then .ok s (Config.factoryStepSet idx)
  else
    let b := if typ = 0 then
        (Tab.find? s.nv.calChannel idx).filter (fun b => setValid channelSetLen 0 b && !s.nv.bad.contains (.calChannel idx))
      else (Tab.find? s.nv.calStep idx).filter (fun b => setValid stepSetLen 1 b && !s.nv.bad.contains (.calStep idx))
    match b with
    | some x => .ok s x
    | none => .status s Status.setInvalid

/-- The envelope of CAL_READ_SET. -/
def specCalReadSet : CmdSpec := { opcode := 0x0907, minLen := fun _ => 4 }

/-- CAL_READ_SET: a stored set, or a factory set. -/
def execCalReadSet (s : State) : Host.Outcome State Fault Refusal := runCommand specCalReadSet calReadSetBody s

def setCouplerBody (r : Running) (s : State) : CmdEffect :=
  let l := (List.range 64).map (fun p => (p, s16 r.cmd.payload (2 * p)))
  if l.all (fun x => inRangeZ (-18000) x.2 18000) then .ok { s with cal := { s.cal with coupler := l } } []
  else .status s Status.badParam

/-- The envelope of CAL_SET_COUPLER. -/
def specCalSetCoupler : CmdSpec := { opcode := 0x0908, minLen := fun _ => 128 }

/-- CAL_SET_COUPLER. -/
def execCalSetCoupler (s : State) : Host.Outcome State Fault Refusal := runCommand specCalSetCoupler setCouplerBody s

end Sys2Proof.Machine
end

