-- ==== Sys2Proof/Machine/Image.lean ====
section
/-!
DEFINITION. Firmware images and their authentication (R492, R493, Table BOOT-3).
-/

namespace Sys2Proof.Machine

open Sys2Proof

/-- BODY_LENGTH of an image. -/
def imageBody (p : List Byte) : Nat := u32 p 0x00C

/-- RELEASE of an image. -/
def imageRelease (p : List Byte) : Nat := u32 p 0x008

/-- The bytes of the image itself: header and body. -/
def imageBytes (p : List Byte) : List Byte := p.take (256 + imageBody p)

/-- Check 1 of R493: CRC32, MAGIC, FORMAT, HEADER_LENGTH, and a length that fits the bytes available. -/
def imageHeaderOk (p : List Byte) : Bool :=
  decide (256 ≤ p.length) && crc32 (p.take 0xFC) == u32 p 0x0FC && u32 p 0 == 0x4650_5A45 && u16 p 4 == 1 &&
    u16 p 6 == 0x0100 && inRange 4 (imageBody p) 1048320 && imageBody p % 4 == 0 && decide (256 + imageBody p ≤ p.length)

/-- The strapped role's bit of ROLES. -/
def roleBit : Role → Nat
  | .standalone => 0 | .manager => 1 | .worker => 2 | .invalid => 3

/-- Checks 2 to 5 of R493: signer key, signature, body digest, role. -/
def imageSigned (p : List Byte) (role : Role) : Bool :=
  sha256 (bytesAt p 0x040 64) == Config.fwKeyHash &&
    Config.ecdsaVerify (bytesAt p 0x040 64) (sha256 (p.take 0x080)) (bytesAt p 0x080 64) &&
    sha256 ((p.drop 256).take (imageBody p)) == bytesAt p 0x010 32 &&
    u8 p 0x030 / 2 ^ roleBit role % 2 == 1

/-- IMAGE_AUTHENTICATE (R493): none where the image is authentic, else IMAGE_INVALID or AUTH_FAIL. -/
def authenticate (p : List Byte) (role : Role) : Option Nat :=
  if !imageHeaderOk p then some Status.imageInvalid
  else if !imageSigned p role then some Status.authFail
  else none

/-- Bytes of the shared scratch and firmware staging pool; none where a word holds poison (Table STR-4). -/
def State.staged (s : State) (off len : Nat) : Option (List Byte) :=
  let a := 0x1180_0000 + off
  if s.fab.poison.any (fun w => decide (w < a + len) && decide (a < w + 8)) then none
  else some (memReadBytes unlisted s.mem a len)

/-- The status of a staged image that is to be installed or booted: a poisoned range fails authentication. -/
def State.stagedStatus (s : State) (off len : Nat) : Option Nat :=
  match s.staged off len with
  | none => some Status.authFail
  | some p => authenticate p s.role

/-- The bank of a number: 0 A, 1 B. -/
def Nv.bank (n : Nv) (b : Nat) : Bank := if b = 0 then n.bankA else n.bankB

/-- Replace a bank. -/
def Nv.setBank (n : Nv) (b : Nat) (x : Bank) : Nv := if b = 0 then { n with bankA := x } else { n with bankB := x }

/-- Mark a bank valid or invalid. -/
def State.markBank (s : State) (b : Nat) (ok : Bool) : State :=
  { s with nv := s.nv.setBank b { s.nv.bank b with valid := ok } }

/-- The bank holds the image that the device was shipped with, whose bytes the spec does not give (R539). -/
def Bank.shipped (b : Bank) : Bool := b.valid && b.length == 0

/-- The image in a bank. -/
def Bank.bytes (b : Bank) : List Byte := if b.shipped then Config.shippedImage else b.image

/-- Authentication of the image in a bank; the image as shipped is authentic (R539). -/
def Bank.check (b : Bank) (role : Role) : Option Nat :=
  if !b.valid then some Status.imageInvalid else if b.shipped then none else authenticate b.image role

/-- EV_SYS_FW_CHANGED: a bank marked valid or invalid by an install (cause 0) or a confirm (cause 1) (R415). -/
def State.fwChanged (s : State) (bank cause : Nat) : State :=
  let b := s.nv.bank bank
  s.raiseEvent 0x0103 .notice
    (le 1 bank ++ b8 b.valid ++ le 1 cause ++ zeros 1 ++ le 4 (if b.valid then b.release else 0) ++ zeros 8)

/-- The first bank of the strap order (Table BALL-3). -/
def State.firstBank (s : State) : Nat := if s.boot.bootsrc = 1#2 then 1 else 0

end Sys2Proof.Machine
end

