-- ==== Sys2Proof/Machine/Lcl.lean ====
section
/-!
DEFINITION. The Lemila cascade (spec/12): training and joining hops, time, strobes, messages, breaks, and the commands of Table LCL-5.
-/

namespace Sys2Proof.Machine

open Sys2Proof

/-! ### Training (R310, R311) -/

/-- A lane that training did not see. -/
def laneSilent : LaneTrain := { slip := none, inverted := false, field := 0, margin := 0, arrival := none }

/-- The state training leaves lane k of a group in, before the lanes in use are chosen: `inUse` stands for LOCKED. -/
def laneFound (k : Nat) (o : LaneTrain) : LaneState :=
  match o.slip with
  | some n => if 65 < n then .failed else if o.field = k then .inUse else .orderFault
  | none => .failed

/-- The lanes in use of a group of `total` lanes of which `need` carry data: the lowest LOCKED ones, a weak one only where there
are too few others. -/
def lanesChosen (total need : Nat) (weak : List Nat) (obs : Nat → LaneTrain) : List Nat :=
  let locked := (List.range total).filter (fun k => laneFound k (obs k) == .inUse)
  let strong := locked.filter (fun k => !weak.contains k)
  (if need ≤ strong.length then strong else locked).take need

/-- The AMK blocks of the lanes in use: all arrived, of one MARKER_COUNT, within 32 blocks. The latest arrival. -/
def markersAlign (obs : Nat → LaneTrain) (use : List Nat) : Option Nat :=
  match allSome (use.map (fun k => (obs k).arrival)) with
  | none => none
  | some l =>
    let latest := l.foldl (fun m x => Nat.max m x.2) 0
    let count := (l.headD (0, 0)).1
    if l.all (fun x => x.1 == count && decide (latest ≤ x.2 + 32)) then some latest else none

/-- One group after training: its lanes, and whether it can carry its stream. -/
def trainGroup (total need : Nat) (weak : List Nat) (obs : Nat → LaneTrain) : List Lane × Bool :=
  let use := lanesChosen total need weak obs
  let aligned := markersAlign obs use
  let latest := aligned.getD 0
  let lanes := (List.range total).map (fun k =>
    let o := obs k
    let found := laneFound k o
    let st : LaneState :=
      if use.contains k then .inUse
      else if found = LaneState.inUse then (if weak.contains k then .unused else .spare)
      else found
    ({ state := st, logical := if use.contains k then (use.takeWhile (fun j => j != k)).length else 0xFF,
       slip := o.slip.getD 65, inverted := o.inverted, margin := o.margin,
       delay := if use.contains k then latest - (match o.arrival with | some a => a.2 | none => latest) else 0 } : Lane))
  (lanes, use.length == need && aligned.isSome)

/-- Both groups of a hop: lanes 0 to 8 forward, 9 to 11 reverse. -/
def trainHop (x : Hop) (obs : List LaneTrain) : List Lane × Bool :=
  let fwd := trainGroup 9 8 (x.weak.filter (fun k => decide (k < 9))) (fun k => obs.getD k laneSilent)
  let rev := trainGroup 3 2 ((x.weak.filter (fun k => decide (9 ≤ k))).map (fun k => k - 9)) (fun k => obs.getD (9 + k) laneSilent)
  (fwd.1 ++ rev.1, fwd.2 && rev.2)

/-- KIND of EV_LCL_LANE for a lane after training, where one applies: 0 failed, 2 order fault, 3 spare brought in, 4 margin. -/
def laneKind (marginMin k : Nat) (weak : List Nat) (l : Lane) : Option Nat :=
  match l.state with
  | .failed => some 0
  | .orderFault => some 2
  | .inUse => if k = 8 ∨ k = 11 then some 3 else if l.margin < marginMin then some 4 else none
  | .unused => if weak.contains k then some 4 else none
  | .spare => none

/-- EV_LCL_LANE of a lane of hop h. -/
def State.laneEvent (s : State) (h k kind margin : Nat) : State :=
  let p := (s.lcl.lowerOf h).getD 0xFF
  s.raiseEvent 0x0B03 .warn (le 1 p ++ le 1 (if k < 9 then 0 else 1) ++ le 1 (if k < 9 then k else k - 9) ++ le 1 kind ++
    leSat 2 margin ++ zeros 10)

/-- A training of hop h has ended with these lanes. -/
def State.laneResults (s : State) (h : Nat) (lanes : List Lane) : State :=
  let old := (s.lcl.hop h).weak
  let ix := (List.range lanes.length).zip lanes
  let low := (ix.filter (fun x => x.2.state == .inUse && decide (x.2.margin < s.lcl.marginMin))).map (fun x => x.1)
  let keep := fun (k : Nat) => (Tab.get (s.lcl.hop h).lanes k {}).hdrErr
  let s := s.setHop h (fun x => { x with
    training := false, weak := low, lanes := ix.map (fun y => (y.1, { y.2 with hdrErr := keep y.1 })) })
  ix.foldl (fun s x => match laneKind s.lcl.marginMin x.1 old x.2 with
    | some kind => s.laneEvent h x.1 kind x.2.margin
    | none => s) s

/-- The hop above hop h has joined, or h is the manager's own. -/
def State.upperReady (s : State) (h : Nat) : Bool :=
  match h with
  | 0 => true
  | k + 1 => match s.lcl.lowerOf k with | some p => s.present p | none => false

/-- Mark the position below hop h. -/
def State.setPos (s : State) (p : Nat) (f : Position → Position) : State :=
  { s with lcl := { s.lcl with positions := Tab.set s.lcl.positions p (f (s.lcl.pos p)) } }

/-- A hop starts to train. -/
def State.startTraining (s : State) (h : Nat) : State :=
  let s := s.setHop h (fun x => { x with training := true })
  match s.lcl.lowerOf h with
  | some p => s.setPos p (fun x => { x with state := .training })
  | none => s

/-- HOP_TRAINING (R302, R310): both ends of hop h can train. A device past the configured length is counted and not trained. -/
def execHopTraining (t : Nat) (h : Fin 16) (s : State) : Host.Outcome State Fault Refusal :=
  let s := s.advance t
  match s.role with
  | .worker =>
    -- a worker begins once its clock ADPLL has locked on REF_IN
    if s.radio.clock = .locked then .next (s.setHop 0 (fun x => { x with training := true })) else .next s
  | .manager =>
    let next := s.lcl.discovering && h.val + 1 == s.lcl.dCfg && decide (s.lcl.dCfg < 16)
    match s.lcl.lowerOf h with
    | some p =>
      if !s.upperReady h || (s.lcl.pos p).state == .joined then .next s else .next (s.startTraining h)
    | none =>
      if next then .next (if s.upperReady h then s.startTraining h else s)
      else .next { s with lcl := { s.lcl with extra := Nat.max s.lcl.extra (h + 2 - s.lcl.dCfg) } }
  | _ => .next s

/-- HOP_TRAINING_FAIL (R21, R302, R310, R322): the procedure ends without a usable group. -/
def execHopTrainingFail (t : Nat) (h : Fin 16) (lanes : List LaneTrain) (s : State) : Host.Outcome State Fault Refusal :=
  let s := s.advance t
  match s.role with
  | .worker =>
    let r := trainHop (s.lcl.hop 0) lanes
    if r.2 then .next s
    else .next (s.setHop 0 (fun x => { x with training := false, lanes := (List.range 12).zip r.1 }))
  | .manager =>
    let r := trainHop (s.lcl.hop h) lanes
    if !(s.lcl.hop h).training || r.2 then .next s
    else
      let s := s.laneResults h r.1
      match s.lcl.lowerOf h with
      | some p =>
        let cause := if (s.lcl.pos p).joinedOnce then 4 else 2
        .next (s.breakHop h cause)
      | none =>
        -- discovery has found the end of the chain
        let s := { s with lcl := { s.lcl with discovering := false } }
        .next (if s.lcl.dCfg = 1 then s.breakEvent 0xFF 0 2 0 else s)
  | _ => .next s

/-! ### Joining (R310, R313, R314, R325) -/

/-- The image that this device runs. -/
def State.runningImage (s : State) : List Byte :=
  if s.boot.source ≤ 1 then (s.nv.bank s.boot.source).bytes
  else memReadBytes unlisted s.mem 0x1180_0000 s.boot.imageLength

/-- The part of the geometry table of one position, as a configuration message. -/
def State.geometryBody (s : State) (p : Nat) : List Byte :=
  le 1 2 ++ (s.beam.geometry.filter (fun (e : Nat × Int × Int × Int) => e.1 / 64 == p)).flatMap (fun (e : Nat × Int × Int × Int) =>
    le 1 p ++ le 1 (e.1 % 64) ++ zeros 2 ++ leS 4 e.2.1 ++ leS 4 e.2.2.1 ++ leS 4 e.2.2.2)

/-- What the manager sends to a device that has reset: firmware where it boots from the cascade, its part of the geometry,
BEAM_SHIFT, and the chain's gain step at least 200 us after the join. -/
def State.configureWorker (s : State) (p : Nat) (boots : Bool) : State :=
  let s := if boots then s.message p 7 s.runningImage else s
  let s := s.message p 5 (s.geometryBody p)
  let s := s.message p 5 (le 1 4 ++ le 1 s.beam.shift)
  s.message p 5 (gainBody (s.time.deviceAt (s.sampleAt (s.now + 200 * Config.us) Config.adcSample)) s.path.step 0)

/-- During discovery every join lengthens the chain: positions move up by one (R302). -/
def State.lengthen (s : State) : State :=
  let d := s.lcl.dCfg + 1
  { s with lcl := { s.lcl with
    dCfg := d, position := d - 1, discovering := decide (d < 16)
    positions := s.lcl.positions.map (fun (x : Nat × Position) => (x.1 + 1, x.2)) } }

/-- The manager's side of a join. -/
def State.joinOnManager (s : State) (h : Nat) (lanes : List Lane) (x : JoinInfo) : State :=
  let s := if (s.lcl.lowerOf h).isNone then s.lengthen else s
  match s.lcl.lowerOf h with
  | none => s
  | some p =>
    let s := s.laneResults h lanes
    let s := s.setHop h (fun y => { y with oneWayPs := x.oneWayPs, trigPs := x.trigPs, heartbeatAt := s.now })
    let s := s.setPos p (fun q => { q with
      state := .joined, fresh := x.fresh, bootsCascade := x.bootsCascade, timeOffsetPs := 0, joinedOnce := true,
      rxRef := some x.rxRef, imageRejects := 0 })
    let s := s.raiseEvent 0x0B02 .notice (le 1 p ++ b8 x.fresh ++ zeros 2 ++ leSat 4 x.oneWayPs ++ s.ts64Bytes s.now)
    let s := s.message p 5 (le 1 7 ++ le 2 (s.filt.rx.delayOf 0) ++ le 2 (s.filt.tx.delayOf 0))
    let s := if x.fresh then s.configureWorker p x.bootsCascade else s
    s.enterOwnOnly

/-- The events that a worker has held go to the manager, and the count of those it dropped (R320). -/
def State.flushHeld (s : State) : State :=
  let s := s.lcl.events.foldl (fun s r => s.toManager 2 r.bytes) s
  let n := s.lcl.eventsLost
  let s := { s with lcl := { s.lcl with events := [], eventsLost := 0 } }
  if n = 0 then s
  else s.raiseEvent 0x0B04 .warn (le 1 s.lcl.position ++ zeros 3 ++ leSat 4 n ++ zeros 8)

/-- A worker's report of its record: VERSION and SIGNATURE (R252). -/
def State.reportRecord (s : State) : State :=
  if s.isWorker ∧ s.lcl.joined = true then
    let p := s.nv.regRecord.getD []
    s.toManager 5 (le 1 13 ++ le 4 s.tx.version ++ bytesAt p 0x210 64)
  else s

/-- The lower end's side of a join: position, delays and sample count as agreed; it counts as an acquisition (R314). -/
def State.joinOnWorker (s : State) (lanes : List Lane) (x : JoinInfo) : State :=
  let s := s.setHop 0 (fun y => { y with
    training := false, lanes := (List.range lanes.length).zip lanes, oneWayPs := x.oneWayPs, trigPs := x.trigPs })
  let s := { s with
    boot := { s.boot with gridAt := x.gridAt }
    lcl := { s.lcl with
      joined := true, fresh := false, cut := false, position := x.position, dCfg := x.dCfg, trigSumPs := x.trigSumPs
      timeMsgAt := some s.now, heartbeatSent := none, refDelays := some (x.rxRef, x.txRef) } }
  let s := s.countAcquisition
  let s := s.flushHeld
  let s := s.toManager 5 (le 1 12 ++ (List.range 64).flatMap (fun p => leS 2 (s.txCorrOf p).i ++ leS 2 (s.txCorrOf p).q))
  s.reportRecord

/-- HOP_JOIN: training and alignment are complete. -/
def execHopJoin (t : Nat) (h : Fin 16) (lanes : List LaneTrain) (x : JoinInfo) (s : State) : Host.Outcome State Fault Refusal :=
  let s := s.advance t
  match s.role with
  | .worker =>
    let r := trainHop (s.lcl.hop 0) lanes
    if (s.lcl.hop 0).training && r.2 then .next (s.joinOnWorker r.1 x) else .next s
  | .manager =>
    let r := trainHop (s.lcl.hop h) lanes
    if (s.lcl.hop h).training && r.2 then .next (s.joinOnManager h r.1 x) else .next s
  | _ => .next s

/-- HOP_REJOIN (R325): TRAIN blocks reappear at the upper end of hop h. -/
def execHopRejoin (t : Nat) (h : Fin 15) (s : State) : Host.Outcome State Fault Refusal :=
  let s := s.advance t
  match s.role, s.lcl.lowerOf h with
  | .manager, some p =>
    if s.lcl.autoRejoin && (s.lcl.pos p).state == .cutOff && s.upperReady h && !(s.lcl.hop h).training then
      .next (s.startTraining h)
    else .next s
  | _, _ => .next s

/-! ### Delay, time and heartbeats (R313, R315, R322) -/

/-- The measured one-way delay, and the offset of the lower end, averaged over the exchanges, in ps. -/
def probeResult (probes : List Probe) : Int × Int :=
  let n := probes.length
  let one := roundDiv (probes.foldl (fun a x => a + ((x.t4 - x.t1) - (x.t3 - x.t2))) 0) (2 * Nat.max n 1) - (Config.transceiverPs : Int)
  let up := roundDiv (probes.foldl (fun a x => a + (x.t2 - x.t1)) 0) (Nat.max n 1)
  (one, up - one)

/-- DELAY_MEASUREMENT: 1,024 exchanges on a joined hop. The lower end's device time moves by at most 10 ps. -/
def execDelayMeasurement (t : Nat) (h : Fin 15) (probes : List Probe) (trigPs : Nat) (s : State) :
    Host.Outcome State Fault Refusal :=
  let s := s.advance t
  let m := probeResult probes
  let step : Int := if -m.2 > 10 then 10 else if -m.2 < -10 then -10 else -m.2
  if probes.length ≠ 1024 then .next s
  else match s.role with
  | .worker =>
    if !s.lcl.joined then .next s
    else
      let s := s.setHop 0 (fun x => { x with oneWayPs := m.1.toNat, trigPs := trigPs })
      .next { s with time := { s.time with base := s.time.base + roundDiv (step * 384) 1000 } }
  | .manager =>
    match s.lcl.lowerOf h with
    | some p =>
      if (s.lcl.pos p).state = .joined then
        let s := s.setHop h (fun x => { x with oneWayPs := m.1.toNat, trigPs := trigPs })
        .next (s.setPos p (fun q => { q with timeOffsetPs := q.timeOffsetPs + step }))
      else .next s
    | none => .next s
  | _ => .next s

/-- TS80 (R8), least significant byte first. -/
def State.ts80 (s : State) (t : Nat) : List Byte :=
  let d := (s.time.deviceAt t).toNat
  le 6 (d / Config.sec) ++ le 4 (d % Config.sec / Config.ns)

/-- TIME_MESSAGE_SEND: the manager's TS80 and time state, every 1 ms. -/
def execTimeMessageSend (s : State) : Host.Outcome State Fault Refusal :=
  if s.role ≠ .manager ∨ s.joinedWorkers.isEmpty then .next s
  else
    let s := match s.lcl.timeSent with | some t => s.advance (t + Config.ms) | none => s
    let code := match s.time.state with | .invalid => 0 | .valid => 1 | .holdover => 2
    let s := s.message 0xFF 3 (s.ts80 s.now ++ le 1 code)
    .next { s with lcl := { s.lcl with timeSent := some s.now } }

/-- TIME_MESSAGE_RECEIVE: device time at `t` by the message and the measured delays, and the manager's time state. -/
def execTimeMessageReceive (t : Nat) (device : Int) (mstate : Fin 3) (s : State) : Host.Outcome State Fault Refusal :=
  let s := s.advance t
  if !s.isWorker || !s.lcl.joined || s.lcl.timeMsgAt.isNone then .next s
  else
    let s := { s with
      lcl := { s.lcl with timeMsgAt := some s.now }
      time := { s.time with base := device, baseAt := s.now, ratePpb := 0 } }
    let s := if mstate.val = 0 then (if s.timeUsable then s.loseTime else s)
      else if mstate.val = 1 then { s with time := { s.time with state := .valid, holdoverAt := none } }
      else { s with time := { s.time with state := .holdover, holdoverAt := some (s.time.holdoverAt.getD s.now) } }
    .next s

/-- TIME_MESSAGE_TIMEOUT: 10 ms without a TIME message. -/
def execTimeMessageTimeout (s : State) : Host.Outcome State Fault Refusal :=
  match s.isWorker, s.lcl.timeMsgAt with
  | true, some t =>
    let s := s.advance (t + 10 * Config.ms)
    let s := { s with lcl := { s.lcl with timeMsgAt := none } }
    .next (if s.timeUsable then s.loseTime else s)
  | _, _ => .next s

/-- HEARTBEAT_SEND: every 1 ms. The counts that LCL_GET_LINK reads of the lower end go with it (log 1201). -/
def execHeartbeatSend (s : State) : Host.Outcome State Fault Refusal :=
  if !s.isWorker || !s.lcl.joined then .next s
  else
    let s := match s.lcl.heartbeatSent with | some t => s.advance (t + Config.ms) | none => s
    let s := s.toManager 4 []
    let s := s.toManager 5 (le 1 6 ++ le 4 s.lcl.trigErr ++ le 4 s.lcl.strobeMiss)
    .next { s with lcl := { s.lcl with heartbeatSent := some s.now } }

/-- HEARTBEAT_TIMEOUT: 10 ms without a heartbeat from the lower end of hop h. -/
def execHeartbeatTimeout (h : Fin 15) (s : State) : Host.Outcome State Fault Refusal :=
  match s.role, s.lcl.lowerOf h with
  | .manager, some p =>
    if (s.lcl.pos p).state = .joined then
      .next ((s.advance ((s.lcl.hop h).heartbeatAt + 10 * Config.ms)).breakHop h 1)
    else .next s
  | _, _ => .next s

/-- LANE_LOCK_LOSS (R308, R322): `headers` invalid headers in 64 consecutive blocks of a lane in use, and `groups` sample groups
lost with them. From 16 on the hop breaks. -/
def execLaneLockLoss (t : Nat) (h : Fin 15) (lane : Fin 12) (headers groups : Nat) (s : State) :
    Host.Outcome State Fault Refusal :=
  let s := s.advance t
  let key := if s.isWorker then 0 else h.val
  let l := Tab.get (s.lcl.hop key).lanes lane.val {}
  if l.state ≠ .inUse then .next s
  else
    let s := s.setHop key (fun x => { x with
      lanes := Tab.set x.lanes lane.val { l with hdrErr := satAdd 16 l.hdrErr headers }
      groupErr := wrapAdd 32 x.groupErr groups })
    if headers < 16 then .next s
    else match s.role with
    | .worker =>
      -- a worker receives the reverse group: its reverse link breaks (R324)
      if 9 ≤ lane.val ∧ s.lcl.joined = true then .next (s.cutOffAt s.now) else .next s
    | .manager => .next ((s.laneEvent h lane.val 1 l.margin).breakHop h 0)
    | _ => .next s

/-! ### Strobes (R316, R317, R324) -/

/-- The codes of Table LCL-3. -/
def triggerCodes : List Nat := [1, 2, 3, 4, 8, 9, 0xA, 0xF]

/-- TRIG_ERR. -/
def State.countTrigErr (s : State) : State := { s with lcl := { s.lcl with trigErr := wrapAdd 32 s.lcl.trigErr 1 } }

/-- A SWAP word moves the next pending swap to its action instant, and marks it. -/
def State.markSwap (s : State) (due : Nat) : State :=
  match s.beam.nextSwap (fun w => !w.marked) with
  | none => s
  | some (host, w) =>
    let w := { w with instant := due, marked := true }
    if host then { s with beam := { s.beam with host := some w } } else { s with beam := { s.beam with internal := some w } }

/-- TRIGGER_WORD: a word arrives at TRIG_CIN with its start edge at `t`. It is re-emitted 2 master clocks later. -/
def execTriggerWord (t : Nat) (code : Fin 16) (parityOk : Bool) (s : State) : Host.Outcome State Fault Refusal :=
  let s := s.advance t
  if !s.isWorker then .next s
  else
    let s := { s with lcl := { s.lcl with words := s.lcl.words ++ [(code.val, t + 2 * Config.masterClock)] } }
    if !parityOk || !triggerCodes.contains code.val then .next s.countTrigErr
    else
      -- timed codes act 1.000 us after the manager's start edge
      let due := t + Config.us - (roundDiv ((s.lcl.trigSumPs * 384 : Nat) : Int) 1000).toNat
      match code.val with
      | 8 => .next (s.abortBursts 7 0x60)
      | 9 => .next (s.abortBursts 8 0x70)
      -- what CUT does on receipt is the row CUT
      | 0xA => .next s
      | 0xF => .next s
      | 3 => .next (s.markSwap due)
      | c => .next { s with lcl := { s.lcl with actions := s.lcl.actions ++ [{ code := c, due := due }] } }

/-- The timed code that acts first. -/
def Lcl.nextAction (l : Lcl) : Option TrigAction :=
  l.actions.foldl (fun (m : Option TrigAction) a => match m with
    | none => some a
    | some b => if a.due < b.due then some a else some b) none

/-- The start edge that a TIME_MARK word would have by this device's own time, for the whole second nearest to `t`. -/
def State.markEdge (s : State) (t : Nat) : Nat :=
  let half : Int := (Config.sec / 2 : Nat)
  let k := (s.time.deviceAt t + half).ediv (Config.sec : Int)
  s.sampleAt (s.time.localOf (k * (Config.sec : Int))) Config.masterClock

/-- TRIGGER_WORD_ACTION: the next timed code acts. -/
def execTriggerWordAction (s : State) : Host.Outcome State Fault Refusal :=
  match s.lcl.nextAction with
  | none => .next s
  | some a =>
    let s := s.advance a.due
    let s := { s with lcl := { s.lcl with actions := s.lcl.actions.erase a } }
    match a.code with
    | 1 => .next (s.strobe a.due 1 false false)
    | 2 => .next (s.offer 4 a.due false (fun _ _ => true))
    | 4 =>
      let start := a.due - Config.us
      let mine := s.markEdge start
      .next (if (start - mine) + (mine - start) > 2 * Config.ns then s.countTrigErr else s)
    | _ => .next s

/-- TIME_MARK_SEND: at the next whole second of device time. -/
def execTimeMarkSend (s : State) : Host.Outcome State Fault Refusal :=
  if s.role ≠ .manager ∨ s.joinedWorkers.isEmpty then .next s
  else
    let k := s.deviceNow.ediv (Config.sec : Int) + 1
    let s := s.advance (s.time.localOf (k * (Config.sec : Int)))
    .next (s.sendTimed 4 s.now).2

/-- CUT: the reverse link is lost and CUT goes out, or CUT has been received, whose word TRIGGER_WORD has re-emitted (R324). -/
def execCut (t : Nat) (received : Bool) (s : State) : Host.Outcome State Fault Refusal :=
  let s := s.advance t
  if !s.isWorker then .next s
  else if received then .next s.cutOff
  else .next (s.cutOffAt s.now)

/-! ### Messages (R318, R320) -/

/-- The joined worker at a position sent it. -/
def State.knows (s : State) (p : Nat) : Bool := (s.lcl.pos p).state == .joined && decide (p < s.lcl.position)

/-- A worker's relayed launch (R251): the request as the manager admitted it, with its ramp. -/
def State.takeLaunch (s : State) (b : List Byte) : State :=
  let net := u8 b 1 % 2 == 1
  match parseRequest net s.lcl.dCfg (b.drop (5 + 128)) with
  | none => s
  | some r =>
    let l := s.candidateLaunch r .mailbox
    s.enqueueLaunch { l with muted := u8 b 2 % 2 == 1, rampTenths := u16 b 3,
                             ramp := (List.range 64).map (fun i => u16 b (5 + 2 * i)) }

/-- A configuration message at a worker, by its first byte. -/
def State.workerMessage (s : State) (b : List Byte) : State :=
  match u8 b 0 with
  | 1 =>
    let old := [(0, leS 2 s.cal.xd.i ++ leS 2 s.cal.xd.q)]
    let s := s.setKind 9 (fun c => { c with before := old, updatedAt := some s.now })
    (({ s with cal := { s.cal with xd := ⟨s16 b 4, s16 b 6⟩ } } : State).stageCorr).internalSwap 4
  | 2 =>
    let ix := List.range ((b.length - 1) / 16)
    let geo := ix.foldl (fun t i =>
      let o := 1 + 16 * i
      Tab.set t (64 * u8 b o + u8 b (o + 1)) (s32 b (o + 4), s32 b (o + 8), s32 b (o + 12))) s.beam.geometry
    ({ s with beam := { s.beam with geometry := geo } }).recomputeGrid
  | 4 => { s with beam := { s.beam with shift := u8 b 1 } }
  | 5 =>
    let d := signed 96 ((List.range 12).foldl (fun n k => n + u8 b (1 + k) * 256 ^ k) 0)
    { s with path := { s.path with
      decided := some (s.sampleAt (s.time.localOf d) Config.adcSample, u8 b 13, u8 b 14) } }
  | 7 => { s with lcl := { s.lcl with refDelays := some (u16 b 1, u16 b 3) } }
  | 9 => s.takeLaunch b
  | 10 =>
    match s.tx.queue.find? (fun x => x.req.id == u32 b 1 && !x.phase.radiating) with
    | some x => (s.endRequest x 0 0 0).lingerCheck
    | none => s
  | 16 =>
    let d := s.instantOf (le 4 (beNat b 9 4) ++ le 4 (beNat b 13 4)) 0
    (s.hostSwap s.now (u8 b 1 % 2 == 1) (u8 b 1 / 2 % 2 == 1) d).2.2
  | 14 => { s with tx := { s.tx with queue := s.tx.queue.map (fun (x : Launch) =>
      if x.req.id = u32 b 1 then { x with muted := true } else x) } }
  | _ => s

/-- The comparison of R252 with a worker's record. -/
def State.compareRecord (s : State) (src : Nat) (b : List Byte) : State :=
  let mine := s.nv.regRecord.getD []
  let same := u32 b 1 == s.tx.version && bytesAt b 5 64 == bytesAt mine 0x210 64
  if same then { s with tx := { s.tx with mismatch := s.tx.mismatch.filter (fun p => p != src) } }
  else
    let s := { s with tx := { s.tx with mismatch := src :: s.tx.mismatch.filter (fun p => p != src) } }
    s.raiseEvent 0x0705 .error (le 1 2 ++ le 1 src ++ zeros 14)

/-- A worker reports that it has rejected the manager's image (R496): the image goes once more; a second failure breaks the hop. -/
def State.imageRejected (s : State) (src status : Nat) : State :=
  let s := s.raiseEvent 0x0F01 .error (le 1 1 ++ le 1 0xFF ++ le 1 src ++ le 1 status ++ zeros 12)
  if (s.lcl.pos src).imageRejects = 0 then
    (s.setPos src (fun q => { q with imageRejects := 1 })).message src 7 s.runningImage
  else match s.lcl.hopOf src with
    | some h => s.breakHop h 4
    | none => s

/-- A configuration message at the manager, from position `src`. -/
def State.managerMessage (s : State) (src : Nat) (b : List Byte) : State :=
  match u8 b 0 with
  | 6 =>
    match s.lcl.hopOf src with
    | some h => s.setHop h (fun x => { x with trigErr := u32 b 1, strobeMiss := u32 b 5 })
    | none => s
  | 7 => s.setPos src (fun q => { q with rxRef := some (u16 b 1) })
  | 8 => (s.sendTimed 2 s.now).2
  | 11 =>
    match s.tx.queue.find? (fun x => x.req.id == u32 b 1 && !x.phase.radiating) with
    | some x => (s.endRequest x 3 0x20 0).lingerCheck
    | none => s
  | 12 => { s with tx := { s.tx with workerT := (List.range 64).foldl (fun (t : Tab Cplx) p =>
      Tab.set t (64 * src + p) ⟨s16 b (1 + 4 * p), s16 b (3 + 4 * p)⟩) s.tx.workerT } }
  | 13 => s.compareRecord src b
  | 15 => match s.lcl.hopOf src with | some h => s.breakHop h 3 | none => s
  | 20 => s.imageRejected src (u8 b 1)
  | _ => s

/-- CASCADE_MESSAGE: a whole message for this device. One that fails its CRC-32 is discarded and counted. Kinds 0 to 3 and 7 take
effect as rows of their own; kind 6 is XDEV_SNAPSHOT_EVAL's. -/
def execCascadeMessage (t src dst kind : Nat) (crcOk : Bool) (body : List Byte) (s : State) : Host.Outcome State Fault Refusal :=
  let s := s.advance t
  let own := if s.isWorker then 0 else (s.lcl.hopOf src).getD 0
  match s.role with
  | .standalone | .invalid => .next s
  | .worker =>
    if !crcOk then .next (s.setHop own (fun x => { x with msgCrcErr := wrapAdd 32 x.msgCrcErr 1 }))
    else if s.lcl.joined && (dst == 0xFF || dst == s.lcl.position) && kind == 5 then .next (s.workerMessage body)
    else .next s
  | .manager =>
    if !crcOk then .next (s.setHop 0 (fun x => { x with msgCrcErr := wrapAdd 32 x.msgCrcErr 1 }))
    else if !s.knows src then .next s
    else if kind = 4 then .next (s.setHop own (fun x => { x with heartbeatAt := s.now }))
    else if kind = 5 then .next (s.managerMessage src body)
    else .next s

/-- WORKER_EVENT_RELAY: the 32 bytes of a worker's record; it keeps type, severity, time and payload, and takes the manager's next
sequence number and the worker's position. -/
def execWorkerEventRelay (t : Nat) (pos : Fin 16) (bytes : List Byte) (s : State) : Host.Outcome State Fault Refusal :=
  let s := s.advance t
  if s.role ≠ .manager ∨ s.knows pos.val = false then .next s
  else
    let r : EvRec :=
      { typ := u16 bytes 0, severity := u8 bytes 2, source := 16 * pos.val + u8 bytes 3 % 16, seq := s.evq.seqNext,
        seconds := u32 bytes 8, nanos := u32 bytes 12, payload := bytesAt bytes 16 16 }
    .next { s with evq := ({ s.evq with seqNext := wrapAdd 32 s.evq.seqNext 1 }.keep s.ringOpen r) }

/-! ### Commands (R327) -/

/-- Ranges of LCL_SET_CHAIN. -/
def chainRanges (p : List Byte) : Bool :=
  decide (u8 p 0 ≤ 16) && decide (u8 p 1 ≤ 1) && inRange 10 (u16 p 2) 10000 && inRange 50 (u16 p 4) 500

def setChainBody (r : Running) (s : State) : CmdEffect :=
  let p := r.cmd.payload
  match firstFailure
    [(chainRanges p, Status.badParam),
     (s.role != .standalone, Status.wrongState),
     (s.nvTempOk, Status.tempRange),
     (!s.lcl.anyTraining, Status.chainBusy)] with
  | some st => .status s st
  | none =>
    let s := { s with lcl := { s.lcl with
      autoRejoin := u8 p 1 == 1, relayTimeoutMs := u16 p 2, marginMin := u16 p 4 } }
    .later (s.nvEnqueue { record := .chainSettings, data := le 1 (u8 p 0), owner := some r.order }) []

/-- The envelope of LCL_SET_CHAIN. -/
def specLclSetChain : CmdSpec := { opcode := 0x0B01, minLen := fun _ => 8, rule := .managerOnly }

/-- LCL_SET_CHAIN. -/
def execLclSetChain (s : State) : Host.Outcome State Fault Refusal := runCommand specLclSetChain setChainBody s

/-- Code of a position's state. -/
def PosState.code : PosState → Nat
  | .absent => 0 | .training => 1 | .joined => 2 | .cutOff => 3

/-- One position of LCL_GET_STATUS. -/
def State.posBytes (s : State) (d : Nat) : List Byte :=
  let own := d == s.position
  let q := s.lcl.pos d
  let st := if own then 2 else q.state.code
  let timeOk := st == 2 && s.timeUsable
  le 1 st ++ le 1 ((if !own && q.state != .absent && q.fresh then 1 else 0) + (if timeOk then 2 else 0) +
    (if !own && q.bootsCascade then 4 else 0)) ++ le 2 q.relayErr ++ leS 4 q.timeOffsetPs

/-- Highest cut-off position; 0xFF none. -/
def Lcl.breakAt (l : Lcl) : Nat :=
  ((List.range 16).filter (fun p => (l.pos p).state == .cutOff)).foldl (fun _ p => p) 0xFF

/-- Response of LCL_GET_STATUS: 16 positions. -/
def State.lclStatus (s : State) : List Byte :=
  let mgr := s.role == .manager
  le 1 (if mgr then 1 else 0) ++ le 1 s.position ++ le 1 (if mgr then s.lcl.dCfg else 1) ++
    le 1 (if mgr then 1 + s.joinedWorkers.length else 1) ++ le 1 s.lcl.breakAt ++ leSat 1 s.lcl.extra ++ zeros 2 ++
    (List.range 16).flatMap s.posBytes

def lclGetStatusBody (_ : Running) (s : State) : CmdEffect := .ok s s.lclStatus

/-- The envelope of LCL_GET_STATUS. -/
def specLclGetStatus : CmdSpec := { opcode := 0x0B02, rule := .managerOnly }

/-- LCL_GET_STATUS. -/
def execLclGetStatus (s : State) : Host.Outcome State Fault Refusal := runCommand specLclGetStatus lclGetStatusBody s

def retrainBody (r : Running) (s : State) : CmdEffect :=
  let p := u8 r.cmd.payload 0
  let h := (s.lcl.hopOf p).getD 0
  match firstFailure
    [(decide (p ≤ 14), Status.badParam),
     (s.role != .standalone, Status.wrongState),
     ((s.lcl.hopOf p).isSome && s.upperReady h, Status.noDevice),
     (!s.lcl.anyTraining, Status.chainBusy)] with
  | some st => .status s st
  | none => .ok ((s.breakHop h 5).startTraining h) []

/-- The envelope of LCL_RETRAIN. -/
def specLclRetrain : CmdSpec := { opcode := 0x0B03, minLen := fun _ => 4, rule := .managerOnly }

/-- LCL_RETRAIN (R326). -/
def execLclRetrain (s : State) : Host.Outcome State Fault Refusal := runCommand specLclRetrain retrainBody s

/-- Code of a lane's state. -/
def LaneState.code : LaneState → Nat
  | .unused => 0 | .inUse => 1 | .spare => 2 | .failed => 3 | .orderFault => 4

/-- One lane of LCL_GET_LINK. -/
def Lane.bytes (l : Lane) : List Byte :=
  le 1 l.state.code ++ le 1 l.logical ++ le 1 l.slip ++ b8 l.inverted ++ le 2 l.hdrErr ++ leSat 2 l.margin

def getLinkBody (r : Running) (s : State) : CmdEffect :=
  let p := u8 r.cmd.payload 0
  match firstFailure
    [(decide (p ≤ 14), Status.badParam),
     (s.role != .standalone, Status.wrongState),
     ((s.lcl.hopOf p).isSome, Status.noDevice)] with
  | some st => .status s st
  | none =>
    let x := s.lcl.hop ((s.lcl.hopOf p).getD 0)
    .ok s ((List.range 12).flatMap (fun k => (Tab.get x.lanes k {}).bytes) ++ leSat 4 x.oneWayPs ++ leSat 4 x.trigPs ++
      le 4 x.groupErr ++ le 4 x.msgCrcErr ++ le 4 x.trigErr ++ le 4 x.strobeMiss)

/-- The envelope of LCL_GET_LINK. -/
def specLclGetLink : CmdSpec := { opcode := 0x0B04, minLen := fun _ => 4, rule := .managerOnly }

/-- LCL_GET_LINK. -/
def execLclGetLink (s : State) : Host.Outcome State Fault Refusal := runCommand specLclGetLink getLinkBody s

def lastRelayBody (r : Running) (s : State) : CmdEffect :=
  let m := u8 r.cmd.payload 0
  if 3 < m then .status s Status.badParam
  else if s.role = .standalone then .status s Status.wrongState
  else
    let x := Tab.get s.cmd.lastRelay m {}
    .ok s (le 2 x.opcode ++ le 2 x.tag ++ zeros 4 ++ (List.range 16).flatMap (fun d => le 2 (Tab.get x.status d 0xFFFF)))

/-- The envelope of LCL_LAST_RELAY. -/
def specLclLastRelay : CmdSpec := { opcode := 0x0B05, minLen := fun _ => 4, rule := .managerOnly }

/-- LCL_LAST_RELAY. -/
def execLclLastRelay (s : State) : Host.Outcome State Fault Refusal := runCommand specLclLastRelay lastRelayBody s

end Sys2Proof.Machine
end

