-- ==== Sys2Proof/Machine/Fab.lean ====
section
/-!
DEFINITION. Stratus, memory protection, leases and the watchdog (spec/13).
-/

namespace Sys2Proof.Machine

open Sys2Proof

/-! ### Units and leases (R351 to R355) -/

/-- SYSC declares a unit failed (R352) and acts (R353 steps 1 to 3): its leases are revoked and it is reset. A unit that is
already isolated is not declared again. A demodulation engine's contexts end ABORTED (R211). Which leases firmware has granted
its units is not given, so their number beyond those that the state lists is free. -/
def State.declareFailed (s : State) (o cause : Nat) : State :=
  let u := s.fabUnit o
  if u.restarting.isSome || u.heldOut then s
  else
    let mine := s.fab.leases.filter (fun l => l.owner = o)
    let d := s.draw
    let rev : Revocation := { owner := o, cause := cause, leases := mine.length + d.1, decided := s.now }
    let s := d.2
    let s := { s with fab := { s.fab with
      leases := s.fab.leases.filter (fun l => l.owner != o)
      revocations := wrapAdd 32 s.fab.revocations 1 } }
    let s := s.setUnit o { u with
      missed := 0, restarting := some rev, revocations := satAdd 16 u.revocations 1
      revoked := (s.now :: u.revoked).filter (fun t => s.now < t + 3600 * Config.sec) }
    if ownerClass o = 3 then
      match s.engineServed (ownerIndex o) with
      | some e => s.abortEngine e
      | none => s
    else s

/-- Payload of EV_SYS_LEASE_REVOKED (Table STR-9). -/
def State.revokedPayload (s : State) (r : Revocation) (heldOut : Bool) : List Byte :=
  le 2 r.owner ++ le 1 r.cause ++ leSat 1 r.leases ++ b8 heldOut ++ zeros 3 ++ s.ts64Bytes r.decided

/-- UNIT_HANDSHAKE_STALL (R352). -/
def execUnitHandshakeStall (t owner : Nat) (s : State) : Host.Outcome State Fault Refusal :=
  .next ((s.advance t).declareFailed owner 0)

/-- UNIT_PARITY_FAULT (R352). -/
def execUnitParityFault (t owner : Nat) (s : State) : Host.Outcome State Fault Refusal :=
  .next ((s.advance t).declareFailed owner 3)

/-- One poll of the ring: every unit that missed it counts one, every other unit starts again; two in a row fail it. -/
def State.pollUnits (s : State) (missed : List Nat) : State :=
  let s := { s with fab := { s.fab with
    units := s.fab.units.map (fun p => if missed.contains p.1 then p else (p.1, { p.2 with missed := 0 })) } }
  missed.foldl (fun s o =>
    let u := s.fabUnit o
    if u.missed ≥ 1 then s.declareFailed o 1 else s.setUnit o { u with missed := u.missed + 1 }) s

/-- MAINTENANCE_RING_POLL (R352): the units that did not answer this poll. -/
def execMaintenanceRingPoll (t : Nat) (missed : List Nat) (s : State) : Host.Outcome State Fault Refusal :=
  .next ((s.advance t).pollUnits missed)

/-- UNIT_RETURN_TO_SERVICE (R353 step 4, R355): the unit returns, or is held out after three revocations in an hour; its
margins follow the present temperature (R342, R484). -/
def execUnitReturnToService (t owner : Nat) (s : State) : Host.Outcome State Fault Refusal :=
  let s := s.advance t
  let u := s.fabUnit owner
  match u.restarting with
  | none => .next s
  | some r =>
    let held := decide (3 ≤ u.revoked.length)
    let s := s.setUnit owner { u with restarting := none, heldOut := held }
    let s := { s with fab := { s.fab with lastRevoked := ((r, held) :: s.fab.lastRevoked).take 16 },
                      thermal := { s.thermal with band := bandOf s.thermal.tj } }
    .next (s.raiseEvent 0x0141 .warn (s.revokedPayload r held))

/-- LEASE_RELEASE (R354): the resource returns to its pool; a release after the revocation is ignored. -/
def execLeaseRelease (t owner : Nat) (r : Resource) (s : State) : Host.Outcome State Fault Refusal :=
  let s := s.advance t
  .next { s with fab := { s.fab with leases := s.fab.leases.filter (fun l => !(l.owner == owner && l.resource == r)) } }

/-! ### Links and speed (R331, R332, R341) -/

/-- FABRIC_LINK_FAILURE: the spare of the row (axis 0) or column (axis 1) comes in; a second failed link is a fabric
fault. -/
def execFabricLinkFailure (t : Nat) (axis : Fin 2) (index : Fin 6) (link : Fin 5) (s : State) :
    Host.Outcome State Fault Refusal :=
  let s := s.advance t
  let k := 6 * axis.val + index.val
  let pay := le 1 axis ++ le 1 index ++ le 1 link ++ zeros 5 ++ s.ts64Bytes s.now
  match Tab.find? s.fab.spared k with
  | none =>
    let s := { s with fab := { s.fab with spared := Tab.set s.fab.spared k link } }
    .next (s.raiseEvent 0x0143 .notice pay)
  | some first =>
    if first = link.val then .next s
    else
      let s := s.raiseEvent 0x0144 .fatal pay
      if s.boot.fabricFaultAt.isSome then .next s
      else .next { s with boot := { s.boot with fabricFaultAt := some s.now } }

/-- FABRIC_FAULT_RESET (R332): 1 ms after the fault, every domain except Dawn is reset. -/
def execFabricFaultReset (s : State) : Host.Outcome State Fault Refusal :=
  match s.boot.fabricFaultAt with
  | none => .next s
  | some t0 => .next ((s.advance (t0 + Config.ms)).internalReset none)

/-- The lowest reading and the lowest router that gives it. -/
def lowestReading : List Nat → Nat → Nat × Nat → Nat × Nat
  | [], _, best => best
  | v :: r, k, best => lowestReading r (k + 1) (if v < best.1 then (v, k) else best)

/-- One level of EV_SYS_FABRIC_SLOW: threshold, armed, above-since; answers (raise, armed, above-since). -/
def slowLevel (now low thr : Nat) (armed : Bool) (above : Option Nat) : Bool × Bool × Option Nat :=
  if low < thr then (armed, false, none)
  else
    let since := above.getD now
    (false, armed || decide (since + Config.sec ≤ now), some since)

/-- FABRIC_SPEED_MONITOR (R341): the 36 readings of this millisecond, in M transfers per second. -/
def execFabricSpeedMonitor (t : Nat) (readings : List Nat) (s : State) : Host.Outcome State Fault Refusal :=
  let s := s.advance t
  if readings.length != 36 then .next s
  else
    let low := lowestReading readings 0 (2 ^ 32, 0)
    let l0 := slowLevel s.now low.1 740 s.fab.slowArmed0 s.fab.above0
    let l1 := slowLevel s.now low.1 700 s.fab.slowArmed1 s.fab.above1
    let s := { s with fab := { s.fab with
      monitors := (List.range 36).zip readings
      slowArmed0 := l0.2.1, above0 := l0.2.2, slowArmed1 := l1.2.1, above1 := l1.2.2 } }
    let pay := fun lvl => le 1 low.2 ++ le 1 lvl ++ leSat 2 low.1 ++ zeros 4 ++ s.ts64Bytes s.now
    let s' := if l0.1 then s.raiseEvent 0x0142 .warn (pay 0) else s
    .next (if l1.1 then s'.raiseEvent 0x0142 .error (pay 1) else s')

/-! ### Memory protection (R345, R346, Table STR-4) -/

/-- Count a correction in a pool. -/
def State.eccCorrected (s : State) (pool : Nat) : State :=
  let e := Tab.get s.fab.ecc pool {}
  { s with fab := { s.fab with ecc := Tab.set s.fab.ecc pool { e with corrected := wrapAdd 32 e.corrected 1 } } }

/-- An uncorrectable word is found: counted, its address kept, the event at most once per second and pool, and for a
mapped pool the word holds poison. -/
def State.eccUncorrected (s : State) (pool addr : Nat) : State :=
  let e := Tab.get s.fab.ecc pool {}
  let due := match e.eventAt with | none => true | some t0 => decide (t0 + Config.sec ≤ s.now)
  let e' : EccCount :=
    { e with uncorrected := wrapAdd 32 e.uncorrected 1, lastAddress := addr,
             eventAt := if due then some s.now else e.eventAt }
  let w := addr - addr % 8
  let s := { s with fab := { s.fab with
    ecc := Tab.set s.fab.ecc pool e'
    poison := if pool < 8 && !s.fab.poison.contains w then w :: s.fab.poison else s.fab.poison } }
  if due then s.raiseEvent 0x0140 .error (le 1 pool ++ zeros 7 ++ le 8 addr) else s

/-- SYSC SRAM or the watchdog (R357 step 1): abort ramp-down of every burst, PAEN held low. -/
def State.watchdogExpire (s : State) (ecc : Bool) : State :=
  if s.boot.watchdogExpired.isSome then s
  else
    let s := s.hardAbort
    { s with boot := { s.boot with watchdogExpired := some s.now, syscEcc := ecc } }

/-- The packet record that holds an address is not sent; its SEQUENCE value is skipped (Table STR-4). -/
def State.poolRecordLost (s : State) (addr : Nat) : State :=
  let o := addr - 0x1100_0000
  { s with dmd := { s.dmd with pool := s.dmd.pool.filter (fun r =>
    !decide ((o + poolSize - r.1) % poolSize < r.2.length)) } }

/-- A signature-cache entry is invalidated (Table STR-4). -/
def State.signatureLost (s : State) (i : Nat) : State :=
  { s with beam := { s.beam with sigs := Tab.set s.beam.sigs i { s.beam.sig i with valid := false } } }

/-- The work assignment that processor p serves: its own, or that of the processor it replaced (R504); 99 when none. -/
def State.processorSlot (s : State) (p : Nat) : Nat :=
  match List.find? (fun (x : Nat × Nat) => x.2 == p) s.spare.procMap with
  | some x => x.1
  | none => if p < 16 ∧ (Tab.find? s.spare.procMap p).isNone then p else 99

/-- What an uncorrectable word causes, by pool (Table STR-4). Pools 8 and 9 name the unit in bits [47:40]. -/
def State.eccConsequence (s : State) (pool addr : Nat) (rec : Option NvRecord) : State :=
  if pool = 0 then
    if s.boot.ready then s else { s with boot := { s.boot with stage := 0xFF, fault := 0x03, lastFault := 0x03 } }
  else if pool = 1 then s.watchdogExpire true
  else if pool = 2 then
    match rec with
    | some r => { s with nv := { s.nv with bad := r :: s.nv.bad } }
    | none => s
  else if pool = 3 then s.captureEcc addr
  else if pool = 4 then s.poolRecordLost addr
  else if pool = 5 then
    { s with fab := { s.fab with leases := s.fab.leases.filter (fun l => l.resource != .lock (addr - addr % 8)) } }
  else if pool = 6 then s.signatureLost ((addr - 0x1200_0000) / 256)
  else if pool = 8 then s.declareFailed (ownerId 3 (addr / 2 ^ 40 % 256)) 2
  else if pool = 9 then s.declareFailed (ownerId 2 (addr / 2 ^ 40 % 256)) 2
  else s

/-- MEMORY_SCRUB (R345, R346): a read by the scrubber; `outcome` none is a clean word, true an error corrected, false an
uncorrectable word (and the non-volatile record that holds it). -/
def execMemoryScrub (t : Nat) (pool : Fin 10) (addr : Nat) (outcome : Option Bool) (rec : Option NvRecord)
    (s : State) : Host.Outcome State Fault Refusal :=
  let s := s.advance t
  match outcome with
  | none => .next s
  | some true => .next (s.eccCorrected pool)
  | some false => .next ((s.eccUncorrected pool addr).eccConsequence pool addr rec)

/-! ### Watchdog (R356, R357) -/

/-- WATCHDOG_RESTART. -/
def execWatchdogRestart (t : Nat) (s : State) : Host.Outcome State Fault Refusal :=
  let s := s.advance t
  if s.boot.watchdogExpired.isSome then .next s
  else .next { s with boot := { s.boot with watchdogAt := s.now } }

/-- WATCHDOG_EXPIRY: 100 ms, less 3 %, have passed since the last restart (the instant is the watchdog's own). -/
def execWatchdogExpiry (t : Nat) (s : State) : Host.Outcome State Fault Refusal :=
  let s := s.advance t
  if s.boot.stage ≠ 0 ∧ s.boot.watchdogAt + 97 * Config.ms ≤ s.now then .next (s.watchdogExpire false) else .next s

/-- WATCHDOG_RESET: 10 us after expiry; Dawn records the cause (R357 steps 2 and 3, R490). -/
def execWatchdogReset (s : State) : Host.Outcome State Fault Refusal :=
  match s.boot.watchdogExpired with
  | none => .next s
  | some t0 =>
    let s := s.advance (t0 + 10 * Config.us)
    let s := { s with dawn := { s.dawn with faultBoots := s.now :: s.dawn.faultBoots } }
    .next (s.internalReset (some (if s.boot.syscEcc then 0x06 else 0x05)))

/-! ### Commands (R359, Tables STR-7 and STR-8) -/

/-- The shared layout of the four requests: FLAGS and three bytes. -/
def flagsClear (r : Running) : Bool := (u8 r.cmd.payload 0) % 2 == 1

/-- Response of SYS_FABRIC_GET_STATUS. -/
def State.fabricStatus (s : State) : List Byte :=
  let m := (List.range 36).map (fun k => Tab.get s.fab.monitors k 0)
  leSat 2 (m.foldl Nat.min (m.headD 0)) ++ leSat 2 (m.foldl Nat.max 0) ++ le 1 s.thermal.band ++
    le 1 s.fab.spared.length ++ le 2 s.fab.zenithMaxNs ++ le 4 s.fab.zenithHeld ++ zeros 4 ++ m.flatMap (leSat 2)

/-- The ZENITH figures as observed up to now (R338, R339): no row tells of a ZENITH message, so both are free values; the longest
delivery never falls. -/
def State.zenithObserved (s : State) : State :=
  let a := s.draw
  let b := a.2.draw
  { b.2 with fab := { s.fab with
    zenithMaxNs := Nat.max s.fab.zenithMaxNs (a.1 % 65536)
    zenithHeld := (s.fab.zenithHeld + b.1) % 2 ^ 32 } }

def fabricGetStatusBody (r : Running) (s : State) : CmdEffect :=
  let z := s.zenithObserved
  .ok (if flagsClear r then { z with fab := { z.fab with zenithHeld := 0 } } else z) z.fabricStatus

/-- The envelope of SYS_FABRIC_GET_STATUS. -/
def specSysFabricGetStatus : CmdSpec := { opcode := 0x0140, minLen := fun _ => 4 }

/-- SYS_FABRIC_GET_STATUS. -/
def execSysFabricGetStatus (s : State) : Host.Outcome State Fault Refusal := runCommand specSysFabricGetStatus fabricGetStatusBody s

/-- Response of SYS_MEM_GET_ECC. -/
def State.eccStatus (s : State) : List Byte :=
  (List.range 10).flatMap (fun k =>
    let e := Tab.get s.fab.ecc k {}
    le 4 e.corrected ++ le 4 e.uncorrected ++ le 8 e.lastAddress)

def memGetEccBody (r : Running) (s : State) : CmdEffect :=
  .ok (if flagsClear r then
        { s with fab := { s.fab with ecc := s.fab.ecc.map (fun p => (p.1, { p.2 with corrected := 0, uncorrected := 0 })) } }
       else s) s.eccStatus

/-- The envelope of SYS_MEM_GET_ECC. -/
def specSysMemGetEcc : CmdSpec := { opcode := 0x0141, minLen := fun _ => 4 }

/-- SYS_MEM_GET_ECC. -/
def execSysMemGetEcc (s : State) : Host.Outcome State Fault Refusal := runCommand specSysMemGetEcc memGetEccBody s

/-- Response of SYS_LEASE_GET; `more` leases are held beyond those that the state lists. -/
def State.leaseStatus (s : State) (more : Nat) : List Byte :=
  leSat 2 (s.fab.leases.length + more) ++ le 2 (s.fab.units.filter (fun p => p.2.heldOut)).length ++ le 4 s.fab.revocations ++
    zeros 8 ++ (List.range 16).flatMap (fun j =>
      match s.fab.lastRevoked[j]? with
      | some (r, h) => s.revokedPayload r h
      | none => zeros 16)

def leaseGetBody (r : Running) (s : State) : CmdEffect :=
  let d := s.draw
  .ok (if flagsClear r then { d.2 with fab := { d.2.fab with revocations := 0 } } else d.2) (s.leaseStatus d.1)

/-- The envelope of SYS_LEASE_GET. -/
def specSysLeaseGet : CmdSpec := { opcode := 0x0142, minLen := fun _ => 4 }

/-- SYS_LEASE_GET. -/
def execSysLeaseGet (s : State) : Host.Outcome State Fault Refusal := runCommand specSysLeaseGet leaseGetBody s

/-- The work of processor p (Table STR-5): 4 signature, 4 adaptive, 3 pre-distortion, 3 calibration, 2 grid; 16 and 17
are spares. -/
def processorWork (p : Nat) : Nat :=
  if p < 4 then 0 else if p < 8 then 1 else if p < 11 then 2 else if p < 14 then 3 else if p < 16 then 4 else 0xFF

/-- State code of processor p. -/
def State.processorState (s : State) (p : Nat) : Nat :=
  let u := s.fabUnit (ownerId 2 p)
  if u.heldOut then 3 else if u.restarting.isSome then 2
  else if (s.processorSlot p) < 16 then 0 else 1

/-- Response of SYS_PROC_GET_STATUS; LOAD is a measurement that the spec leaves open. -/
def procStatus (s : State) : Nat → Nat → List Byte × State
  | 0, _ => ([], s)
  | n + 1, p =>
    let d := s.draw
    let rest := procStatus d.2 n (p + 1)
    (le 1 (s.processorState p) ++ le 1 (processorWork (s.processorSlot p)) ++ le 2 (d.1 % 1001) ++
      le 2 (s.fabUnit (ownerId 2 p)).revocations ++ zeros 2 ++ rest.1, rest.2)

def procGetStatusBody (r : Running) (s : State) : CmdEffect :=
  let p := procStatus s 18 0
  .ok (if flagsClear r then
        { p.2 with fab := { p.2.fab with
          units := p.2.fab.units.map (fun q => if ownerClass q.1 = 2 then (q.1, { q.2 with revocations := 0 }) else q) } }
       else p.2) p.1

/-- The envelope of SYS_PROC_GET_STATUS. -/
def specSysProcGetStatus : CmdSpec := { opcode := 0x0143, minLen := fun _ => 4 }

/-- SYS_PROC_GET_STATUS. -/
def execSysProcGetStatus (s : State) : Host.Outcome State Fault Refusal := runCommand specSysProcGetStatus procGetStatusBody s

end Sys2Proof.Machine
end

