-- ==== Sys2Proof/Machine/FhOps.lean ====
section
/-!
DEFINITION. Fronthaul as other chapters touch it: timestamps (R427), egress (R419, R420), the assembly of packet records (R425,
R426), faults (R433), and PTP's loss of a master (R435, R436).
-/

namespace Sys2Proof.Machine

open Sys2Proof

/-! ### Ports -/

/-- Port p. -/
def Fh.port (f : Fh) (p : Nat) : Port := Tab.get f.ports p {}

/-- Change port p. -/
def State.setPort (s : State) (p : Nat) (f : Port → Port) : State :=
  { s with fh := { s.fh with ports := Tab.set s.fh.ports p (f (s.fh.port p)) } }

/-- Change the counts of port p. -/
def State.portCount (s : State) (p : Nat) (f : PortCounts → PortCounts) : State :=
  s.setPort p (fun q => { q with counts := f q.counts })

/-- The device has a fronthaul and the port is enabled and up. -/
def State.portUp (s : State) (p : Nat) : Bool := !s.isWorker && (s.fh.port p).enable && (s.fh.port p).up

/-- Sleep entry has stopped the fronthaul (R472 step 2). -/
def State.linksStopped (s : State) : Bool :=
  match s.thermal.sleep with
  | .preparing _ _ _ => true
  | .prepared _ _ _ _ => true
  | _ => false

/-- SRC_MAC of port p: as the host set it, else 02-00, SYS_UID[23:0], port. -/
def Fh.srcMac (f : Fh) (p : Nat) : Nat :=
  (f.port p).srcMac.getD (0x0200 * 2 ^ 32 + (Config.uid.toNat % 2 ^ 24) * 256 + p)

/-- Ports of PORT_ORDER, each once. -/
def Fh.order (f : Fh) : List Nat := f.portOrder.takeWhile (fun p => decide (p ≤ 3))

/-- The first port of PORT_ORDER that is up. -/
def State.firstPort (s : State) : Option Nat := s.fh.order.find? (fun p => s.portUp p)

/-! ### Timestamps (R427, Table FH-9) -/

/-- Device time in ps at a local instant. -/
def State.devicePs (s : State) (t : Nat) : Int := roundDiv (s.time.deviceAt t * 1000) 384

/-- A departure at the boundary, referred to the board's reference plane. -/
def State.departPs (s : State) (p t : Nat) : Int :=
  let q := s.fh.port p
  s.devicePs t + (if q.fec then 35070 else 24830) + q.boardTxPs

/-- An arrival at the boundary, referred to the board's reference plane. -/
def State.arrivalPs (s : State) (p t : Nat) : Int :=
  let q := s.fh.port p
  s.devicePs t - (if q.fec then 124930 else 39710) - q.boardRxPs

/-- Seconds and nanoseconds of a time in ps. -/
def psParts (ps : Int) : Nat × Nat :=
  let n := ps.toNat
  (n / 1000000000000, n % 1000000000000 / 1000)

/-- A departure as TS64 with bit 31 while time is invalid, and its fraction in 1/65,536 ns. -/
def State.departBytes (s : State) (p t : Nat) : List Byte :=
  let ps := s.departPs p t
  let x := psParts ps
  be 4 (x.1 % 2 ^ 32) ++ be 4 (x.2 + (if s.timeUsable then 0 else 2 ^ 31)) ++ be 2 (ps.toNat % 1000 * 65536 / 1000)

/-- A departure as TS80 in network order. -/
def State.departTs80 (s : State) (p t : Nat) : List Byte :=
  let x := psParts (s.departPs p t)
  be 6 (x.1 % 2 ^ 48) ++ be 4 x.2

/-! ### Frames (R421, R425, R428) -/

/-- An eCPRI message: the common header of revision 1, the type, the length, and the body. -/
def ecpri (typ : Nat) (body : List Byte) : List Byte := le 1 0x10 ++ le 1 typ ++ be 2 body.length ++ body

/-- The message of a frame as it leaves port p at `t`; departure times are inserted here and nowhere else. -/
def State.messageBytes (s : State) (p t : Nat) (b : FrameBody) : List Byte :=
  match b with
  | .delayReq n => le 1 1 ++ le 1 s.time.domain ++ be 2 n ++ s.departTs80 p t
  | .oneWay a id x =>
    ecpri 5 (le 1 id ++ le 1 a ++ (if a = 0 then s.departTs80 p t else be 6 x.1 ++ be 4 x.2) ++ zeros 8)
  | .generic pc n rs =>
    ecpri 3 (be 4 pc ++ be 3 n ++ le 1 0x80 ++ le 1 rs.length ++ le 1 s.position ++ zeros 2 ++ s.departBytes p t ++ zeros 2 ++
      rs.flatten)
  | .iq _ pc n h x => ecpri 0 (be 2 pc ++ le 1 n ++ le 1 0x80 ++ h ++ x)
  | .event e f up =>
    if e = 0 then ecpri 7 (le 1 0 ++ le 1 0 ++ le 1 0 ++ le 1 1 ++ be 2 0xFFFF ++ be 2 (f + (if up then 0 else 0x1000)) ++ zeros 4)
    else ecpri 7 (le 1 0 ++ le 1 e ++ le 1 0 ++ le 1 0)

/-- Bytes of a message body after the common header, without IQ samples or records. -/
def frameLength (vlan n : Nat) : Nat := Nat.max 64 (14 + (if vlan = 0 then 0 else 4) + 4 + n + 4)

/-- A frame as built for a port. -/
def State.frameFor (s : State) (p cls n : Nat) (body : FrameBody) : Frame :=
  { cls := cls, length := frameLength (s.fh.port p).vlan n, body := body }

/-! ### Egress (R419, R420) -/

/-- The multicast address that DEST selects (Table FH-10). -/
def TimeUnit.multicast (u : TimeUnit) : Nat := if u.dest = 0 then 0x011B19000000 else 0x0180C200000E

/-- A frame as it leaves port p now (R418): PTP goes to the selected multicast address, everything else to DST_MAC. -/
def State.departing (s : State) (p : Nat) (f : Frame) : SentFrame :=
  let q := s.fh.port p
  let ptp := match f.body with | .delayReq _ => true | _ => false
  { port := p, start := s.now, cls := f.cls, dst := if ptp then s.time.multicast else q.dstMac, src := s.fh.srcMac p
    tag := q.vlan, etherType := if ptp then 0x88F7 else 0xAEFE, bytes := s.messageBytes p s.now f.body }

/-- A waiting frame may be chosen. -/
def Frame.ready (f : Frame) (now : Nat) : Bool := match f.launch with | some t => decide (t ≤ now) | none => true

/-- The next frame of a port: the highest class, in the order of arrival; timed frames by launch time. -/
def nextFrame (q : List Frame) (now : Nat) : Option Frame :=
  (q.filter (fun f => f.ready now)).foldl (fun (m : Option Frame) f => match m with
    | none => some f
    | some g =>
      if f.cls < g.cls ∨ (f.cls = 2 ∧ g.cls = 2 ∧ f.launch.getD 0 < g.launch.getD 0) then some f else some g) none

/-- EV_FH_IQ_DROP, at most once per second for each port (R442). -/
def State.iqDropEvent (s : State) (p : Nat) : State :=
  let q := s.fh.port p
  let due := match q.dropEventAt with | some t => decide (t + Config.sec ≤ s.now) | none => true
  if due && decide (0 < q.dropSince + q.lateSince) then
    (s.setPort p (fun q => { q with dropSince := 0, lateSince := 0, dropEventAt := some s.now })).raiseEvent 0x0A06 .warn
      (le 1 p ++ zeros 3 ++ leSat 4 q.dropSince ++ leSat 4 q.lateSince ++ zeros 4)
  else s

/-- The port takes its next frame where its line is free. -/
def State.kick (s : State) (p : Nat) : State :=
  let q := s.fh.port p
  if q.sending.isSome || !s.portUp p then s
  else match nextFrame q.queue s.now with
  | none => s
  | some f =>
    let s := s.setPort p (fun q => { q with queue := q.queue.erase f, sending := some f, sendingAt := s.now })
    let s := { s with fh := { s.fh with sent := s.fh.sent ++ [s.departing p f] } }
    let s := match f.body with
      | .delayReq n => { s with time := { s.time with delayReq := some (n, s.departPs p s.now) } }
      | _ => s
    match f.launch with
    | some t =>
      if t + 4 * Config.us < s.now then
        let s := s.portCount p (fun c => { c with iqLate := wrapAdd 32 c.iqLate 1 })
        (s.setPort p (fun q => { q with lateSince := q.lateSince + 1 })).iqDropEvent p
      else s
    | none => s

/-- Queue a frame on a port. -/
def State.enqueue (s : State) (p : Nat) (f : Frame) : State :=
  (s.setPort p (fun q => { q with queue := q.queue ++ [f] })).kick p

/-- SEQ_ID count of a type-3 content on a port, and the state after it. -/
def State.takeSeq (s : State) (p pc : Nat) : Nat × State :=
  let n := Tab.get (s.fh.port p).seqIds pc 0
  (n, s.setPort p (fun q => { q with seqIds := Tab.set q.seqIds pc ((n + 1) % 2 ^ 24) }))

/-- A type-3 message leaves on port p. -/
def State.sendGeneric (s : State) (p cls pc : Nat) (shared : Bool) (rs : List (List Byte)) : State :=
  let x := s.takeSeq p pc
  let n := rs.foldl (fun n r => n + r.length) 0x18
  x.2.enqueue p { (x.2.frameFor p cls n (.generic pc x.1 rs)) with shared := shared }

/-- Where an outcome or control result of port p leaves (R426). -/
def State.resultPort (s : State) (p : Nat) : Option Nat := if s.portUp p then some p else s.firstPort

/-- Send every outcome and control result that has a port. -/
def State.flushResults (s : State) : State :=
  s.fh.results.foldl (fun s r => match s.resultPort r.port with
    | none => s
    | some p =>
      ({ s with fh := { s.fh with results := s.fh.results.erase r } }).sendGeneric p 3 r.pcId r.shared [r.record]) s

/-- Shared entries of the outcome queue that are held (R349). -/
def State.sharedUsed (s : State) : Nat :=
  (s.tx.outcomes.filter (fun o => o.shared)).length + (s.fh.results.filter (fun r => r.shared)).length +
    s.fh.ports.foldl (fun n (p : Nat × Port) => n + (p.2.queue.filter (fun f => f.shared)).length +
      (match p.2.sending with | some f => if f.shared then 1 else 0 | none => 0)) 0

/-! ### eCPRI faults (R433) -/

/-- A fault occurs on a port: raised at its first occurrence; an indication is dropped when one already waits (Table FH-2). -/
def State.fhFault (s : State) (p fault : Nat) : State :=
  let q := s.fh.port p
  let fresh := (Tab.find? q.faults fault).isNone
  let s := s.setPort p (fun q => { q with faults := Tab.set q.faults fault s.now })
  if !fresh || q.queue.any (fun f => f.cls == 6) then s else s.enqueue p (s.frameFor p 6 12 (.event 0 fault true))

/-! ### Packet records (R425, R426) -/

/-- Field sizes of Table DMD-5 up to its PSDU. -/
def recordFields : List Nat :=
  [2, 1, 1, 4, 4, 4, 2, 2, 2, 1, 1, 2, 2, 4, 4, 2, 2, 2, 2, 2, 2, 2, 2, 2, 2, 2, 1, 1, 2, 2, 4, 1, 1, 1, 1, 4, 4]

/-- Each field of a record reversed: network order. -/
def swapFields : List Nat → List Byte → List Byte
  | [], b => b
  | n :: r, b => (b.take n).reverse ++ swapFields r (b.drop n)

/-- One more record fits the frame under assembly for a port: at most 255, at most 9,600 bytes. -/
def State.recordFits (s : State) (p : Nat) (f : RecordFrame) (r : List Byte) : Bool :=
  decide (f.records.length < 255) && decide (frameLength (s.fh.port p).vlan (0x18 + f.bytes + r.length) ≤ 9600)

/-- Records leave the pool for the frame under assembly while they fit and a port is up: at most `n` of them. -/
def State.pullRecords : Nat → State → State
  | 0, s => s
  | n + 1, s =>
    match s.firstPort, s.dmd.pool with
    | some p, (off, r) :: rest =>
      let f := s.fh.assembling.getD { since := s.now }
      if s.recordFits p f r then
        let f := { f with records := f.records ++ [swapFields recordFields r], bytes := f.bytes + r.length }
        State.pullRecords n { s with
          dmd := { s.dmd with pool := rest.filter (fun x => x.1 != off) }
          fh := { s.fh with assembling := some f } }
      else s
    | _, _ => s

/-- Pull what can be pulled. -/
def State.pull (s : State) : State := State.pullRecords s.dmd.pool.length s

/-! ### Masters (R435, R436) -/

/-- EV_FH_MASTER. -/
def State.masterEvent (s : State) : State :=
  match s.time.master with
  | some m => s.raiseEvent 0x0A05 .info (be 8 m.id ++ le 2 m.port ++ le 1 m.clockClass ++ zeros 5)
  | none => s.raiseEvent 0x0A05 .info (zeros 16)

/-- The master is lost: VALID goes to HOLDOVER with a cause. -/
def State.loseMaster (s : State) (cause : Nat) : State :=
  if s.time.master.isNone then s
  else
    let s := { s with time := { s.time with
      master := none, pathDelayPs := none, masterToSlavePs := none, wait := none, delayReq := none
      lockCount := 0, bigCount := 0, stepped := false } }
    (s.masterEvent).toHoldover cause

end Sys2Proof.Machine
end

