-- ==== Sys2Proof/Machine/Fh.lean ====
section
/-!
DEFINITION. Fronthaul and device time (spec/17): ports, eCPRI, IQ streams, PTP and the time states, and the commands of Table FH-13.
-/

namespace Sys2Proof.Machine

open Sys2Proof

/-! ### Ports (R417, R418, R420) -/

/-- Outcomes and control results that a port can no longer send go back to their queue; records move to another port. -/
def State.rerouteFrames (s : State) (p : Nat) : State :=
  let q := s.fh.port p
  let all := q.queue ++ (match q.sending with | some f => if f.cls = 3 then [f] else [] | none => [])
  let back := (all.filter (fun f => f.cls == 3)).filterMap (fun f => match f.body with
    | .generic pc _ (r :: _) => some ({ port := p, pcId := pc, shared := f.shared, record := r } : PortResult)
    | _ => none)
  let recs := q.queue.filter (fun f => f.cls == 4)
  let s := { s with fh := { s.fh with results := s.fh.results ++ back } }
  match s.firstPort with
  | some o =>
    let s := s.setPort p (fun q => { q with
      sending := none, queue := q.queue.filter (fun f => decide (f.cls ≠ 3) && decide (f.cls ≠ 4)) })
    (recs.foldl (fun s f => s.enqueue o f) s).flushResults
  | none => s.setPort p (fun q => { q with sending := none, queue := q.queue.filter (fun f => decide (f.cls ≠ 3)) })

/-- EV_FH_LINK. -/
def State.linkEvent (s : State) (p : Nat) (up : Bool) (cause : Nat) : State :=
  s.raiseEvent 0x0A04 (if up then .notice else .warn) (le 1 p ++ b8 up ++ le 1 cause ++ zeros 5 ++ s.ts64Bytes s.now)

/-- A port goes down: the frame in progress is lost, PTP on that port loses its master. -/
def State.dropLink (s : State) (p cause : Nat) : State :=
  if !(s.fh.port p).up then s
  else
    let s := s.setPort p (fun q => { q with up := false, counts := { q.counts with linkDowns := wrapAdd 32 q.counts.linkDowns 1 } })
    let s := (s.linkEvent p false cause).rerouteFrames p
    if p = s.time.ptpPort then s.loseMaster 2 else s

/-- FH_LINK_CHANGE: block lock, BER or remote fault change the state of a port; CAUSE as EV_FH_LINK. -/
def execFhLinkChange (t : Nat) (p : Fin 4) (up : Bool) (cause : Fin 3) (s : State) : Host.Outcome State Fault Refusal :=
  let s := s.advance t
  if s.isWorker || !(s.fh.port p).enable || (s.fh.port p).up == up || (up && s.linksStopped) then .next s
  else if up then
    let s := (s.setPort p (fun q => { q with up := true })).linkEvent p true 4
    .next ((s.flushResults.kick p).pull)
  else .next (s.dropLink p cause)

/-- FH_FRAME_RECEIVE: a frame ends at the port. `fragment` says that an eCPRI message of it has its E bit clear; `fec` is 1 where
Clause 74 corrected a block of it, 2 where it could not. -/
def execFhFrameReceive (t : Nat) (p : Fin 4) (fcsOk : Bool) (length dest etherType : Nat) (fragment : Bool) (fec : Fin 3) (s : State) :
    Host.Outcome State Fault Refusal :=
  let s := s.advance t
  if !s.portUp p then .next s
  else
    let s := if !(s.fh.port p).fec then s
      else if fec.val = 1 then s.portCount p (fun c => { c with fecCorrected := wrapAdd 32 c.fecCorrected 1 })
      else if fec.val = 2 then s.portCount p (fun c => { c with fecUncorrected := wrapAdd 32 c.fecUncorrected 1 })
      else s
    let mine := dest == s.fh.srcMac p || (p.val == s.time.ptpPort && dest == s.time.multicast)
    if !fcsOk then .next (s.portCount p (fun c => { c with rxFcsErr := wrapAdd 32 c.rxFcsErr 1 }))
    else if !inRange 64 length 9600 || !mine || !(etherType == 0xAEFE || etherType == 0x88F7) || fragment then
      .next (s.portCount p (fun c => { c with rxDiscard := wrapAdd 32 c.rxDiscard 1 }))
    else .next (s.portCount p (fun c => { c with rxFrames := wrapAdd 32 c.rxFrames 1 }))

/-! ### Real-time control (R349, R423, R424) -/

/-- A control result (R425) goes to its queue. -/
def State.controlResult (s : State) (m : RtcMessage) (status : Nat) (applied : List Byte) : State :=
  let r := le 1 m.action ++ le 1 0 ++ be 2 status ++ be 2 m.rtcId ++ be 2 m.seqId ++ (if status = Status.ok then applied else zeros 8)
  let x : PortResult := { port := m.port, pcId := 3, shared := true, record := r }
  ({ s with fh := { s.fh with results := s.fh.results ++ [x] } }).flushResults

/-- The control port processes one message. -/
def State.processRtc (s : State) (m : RtcMessage) : State :=
  let s := s.portCount m.port (fun c => { c with rtcAccepted := wrapAdd 32 c.rtcAccepted 1 })
  if m.action = 1 then
    let a := s.admitRequest true m.body (.port m.port) m.arrived
    if a.1.2.1 = some (1, 1) then
      (a.2.portCount m.port (fun c => { c with rtcLate := wrapAdd 32 c.rtcLate 1 })).fhFault m.port 0x404
    else a.2
  else if m.action = 2 then
    if m.body.length < 16 then s.controlResult m Status.badParam []
    else
      let d := s.instantOf (le 4 (beNat m.body 8 4) ++ le 4 (beNat m.body 12 4)) 0
      let e := s.hostSwap s.now (u8 m.body 0 % 2 == 1) (u8 m.body 0 / 2 % 2 == 1) d
      let s := if e.1 = Status.ok ∧ s.role = .manager then
          e.2.2.messages s.joinedWorkers 5 (le 1 16 ++ m.body.take 16)
        else e.2.2
      s.controlResult m e.1 (s.ts64Be e.2.1)
  else
    let e := if m.body.length < 8 then (Status.badParam, s) else s.cancelRequest (beNat m.body 0 4)
    e.2.controlResult m e.1 (e.2.ts64Be e.2.now)

/-- The control port takes messages from the ingress buffers while a shared entry is free: at most `n`. -/
def State.drainIngress : Nat → State → State
  | 0, s => s
  | n + 1, s =>
    match s.fh.ingress with
    | m :: rest =>
      if s.sharedUsed < 256 then
        State.drainIngress n (({ s with fh := { s.fh with ingress := rest } }).processRtc m)
      else s
    | [] => s

/-- Take what can be taken. -/
def State.drain (s : State) : State := State.drainIngress s.fh.ingress.length s

/-- Bytes of a type-2 message in the ingress buffer. -/
def RtcMessage.bytes (m : RtcMessage) : Nat := frameLength 0 (8 + m.body.length)

/-- A type-2 message arrives: discarded before READY (R390), without its E bit (R421), or where the buffer has no room (R349). -/
def State.receiveRtc (s : State) (m : RtcMessage) : State :=
  let s := s.advance m.arrived
  if !s.portUp m.port then s
  else
    let held := s.fh.ingress.foldl (fun n x => if x.port = m.port then n + x.bytes else n) 0
    if !s.boot.ready || m.seqId / 128 % 2 = 0 || decide (32768 < held + m.bytes) then
      s.portCount m.port (fun c => { c with rxDiscard := wrapAdd 32 c.rxDiscard 1 })
    else ({ s with fh := { s.fh with ingress := s.fh.ingress ++ [m] } }).drain

/-- RTC_TRANSMIT_REQUEST. -/
def execRtcTransmitRequest (t : Nat) (p : Fin 4) (rtcId seqId : Nat) (body : List Byte) (s : State) :
    Host.Outcome State Fault Refusal :=
  .next (s.receiveRtc { port := p, arrived := t, action := 1, rtcId := rtcId, seqId := seqId, body := body })

/-- RTC_BEAM_SWAP. -/
def execRtcBeamSwap (t : Nat) (p : Fin 4) (rtcId seqId : Nat) (body : List Byte) (s : State) : Host.Outcome State Fault Refusal :=
  .next (s.receiveRtc { port := p, arrived := t, action := 2, rtcId := rtcId, seqId := seqId, body := body })

/-- RTC_TRANSMIT_CANCEL. -/
def execRtcTransmitCancel (t : Nat) (p : Fin 4) (rtcId seqId : Nat) (body : List Byte) (s : State) :
    Host.Outcome State Fault Refusal :=
  .next (s.receiveRtc { port := p, arrived := t, action := 3, rtcId := rtcId, seqId := seqId, body := body })

/-! ### Other eCPRI messages (R422, R432, R433) -/

/-- RX_ECPRI_UNSUPPORTED. -/
def State.countUnsupported (s : State) (p : Nat) : State :=
  s.portCount p (fun c => { c with rxUnsupported := wrapAdd 32 c.rxUnsupported 1 })

/-- ECPRI_UNSUPPORTED: a message of type 0, 1, 3, 4, 6 or above 7. -/
def execEcpriUnsupported (t : Nat) (p : Fin 4) (typ : Nat) (s : State) : Host.Outcome State Fault Refusal :=
  let s := s.advance t
  if !s.portUp p || typ == 2 || typ == 5 || typ == 7 then .next s
  else .next ((s.countUnsupported p).fhFault p 0x400)

/-- ECPRI_DELAY_REQUEST: a type-5 message of an action other than Remote Request: a Request, with or without Follow_Up, is
answered while time is VALID or HOLDOVER. -/
def execEcpriDelayRequest (t : Nat) (p : Fin 4) (action id : Nat) (s : State) : Host.Outcome State Fault Refusal :=
  let s := s.advance t
  if !s.portUp p then .next s
  else if s.timeUsable && decide (action ≤ 1) then
    .next (s.enqueue p (s.frameFor p 1 20 (.oneWay 2 (id % 256) (psParts (s.arrivalPs p t)))))
  else .next (s.countUnsupported p)

/-- ECPRI_REMOTE_REQUEST. -/
def execEcpriRemoteRequest (t : Nat) (p : Fin 4) (id : Nat) (s : State) : Host.Outcome State Fault Refusal :=
  let s := s.advance t
  if !s.portUp p then .next s
  else if s.timeUsable then .next (s.enqueue p (s.frameFor p 1 20 (.oneWay 0 (id % 256) (0, 0))))
  else .next (s.countUnsupported p)

/-- ECPRI_SYNC_REQUEST: acknowledge, each raised fault, end. -/
def execEcpriSyncRequest (t : Nat) (p : Fin 4) (s : State) : Host.Outcome State Fault Refusal :=
  let s := s.advance t
  if !s.portUp p then .next s
  else
    let s := s.enqueue p (s.frameFor p 6 4 (.event 4 0 true))
    let s := (s.fh.port p).faults.foldl (fun s (f : Nat × Nat) => s.enqueue p (s.frameFor p 6 12 (.event 0 f.1 true))) s
    .next (s.enqueue p (s.frameFor p 6 4 (.event 5 0 true)))

/-- ECPRI_FAULT_ACK: accepted, with no action. -/
def execEcpriFaultAck (t : Nat) (_p : Fin 4) (s : State) : Host.Outcome State Fault Refusal := .next (s.advance t)

/-- ECPRI_FAULT_CEASE: 1 s after the last occurrence of the fault that has been quiet longest. -/
def execEcpriFaultCease (p : Fin 4) (s : State) : Host.Outcome State Fault Refusal :=
  match (s.fh.port p).faults.foldl (fun (m : Option (Nat × Nat)) f => match m with
      | none => some f
      | some x => if f.2 < x.2 then some f else some x) none with
  | none => .next s
  | some f =>
    let s := s.advance (f.2 + Config.sec)
    let s := s.setPort p (fun q => { q with faults := Tab.erase q.faults f.1 })
    .next (if (s.fh.port p).queue.any (fun x => x.cls == 6) then s else s.enqueue p (s.frameFor p 6 12 (.event 0 f.1 false)))

/-! ### Records, outcomes and the line (R254, R419, R426) -/

/-- RECORD_FRAME_SEND: the frame under assembly closes at once when the next record does not fit, else REC_HOLD_US after its
oldest record left the pool. -/
def execRecordFrameSend (s : State) : Host.Outcome State Fault Refusal :=
  match s.fh.assembling, s.firstPort with
  | some f, some p =>
    let s := if s.dmd.pool.isEmpty then s.advance (f.since + s.fh.recHoldUs * Config.us) else s
    let s := { s with fh := { s.fh with assembling := none } }
    .next (s.sendGeneric p 4 1 false f.records).pull
  | _, _ => .next s

/-- The 32 bytes of Table TX-9, in network order. -/
def TxOutcome.record (o : TxOutcome) : List Byte :=
  be 4 o.id ++ le 1 o.outcome ++ le 1 o.cause ++ le 1 o.subband ++ le 1 o.flags ++ be 4 o.seconds ++ be 4 o.nanos ++
    be 4 (Nat.min o.delayNs (2 ^ 32 - 1)) ++ be 4 (Nat.min o.radiatedNs (2 ^ 32 - 1)) ++ be 2 (Nat.min o.dutyUsed 65535) ++
    (leS 2 o.margin).reverse ++ be 4 o.seq

/-- An outcome can leave now. -/
def State.sendable (s : State) (o : TxOutcome) : Bool :=
  match o.origin with
  | .mailbox => true
  | .port p => (s.resultPort p).isSome

/-- OUTCOME_SEND: the oldest outcome that can leave: as EV_TX_OUTCOME, as a record on its port, or both. -/
def execOutcomeSend (t : Nat) (s : State) : Host.Outcome State Fault Refusal :=
  let s := s.advance t
  match s.tx.outcomes.find? s.sendable with
  | none => .next s
  | some o =>
    let s := { s with tx := { s.tx with outcomes := s.tx.outcomes.erase o } }
    let s := if o.origin = .mailbox ∨ o.event = true then
        s.raiseEvent 0x0701 .info (le 4 o.id ++ le 1 o.outcome ++ le 1 o.cause ++ le 1 o.flags ++ le 1 o.subband ++
          leSat 4 o.radiatedNs ++ leSat 4 o.delayNs)
      else s
    match o.origin with
    | .mailbox => .next s
    | .port p =>
      let r : PortResult := { port := p, pcId := 2, shared := o.shared, record := o.record }
      .next (({ s with fh := { s.fh with results := s.fh.results ++ [r] } }).flushResults).drain

/-- Time on the line of a frame with preamble and inter-frame gap at 25 Gbit/s. -/
def lineTime (length : Nat) : Nat := (length + 20) * 8 * 384 / 25

/-- EGRESS_FRAME_END: the frame has left, and the next is chosen. -/
def execEgressFrameEnd (p : Fin 4) (s : State) : Host.Outcome State Fault Refusal :=
  match (s.fh.port p).sending with
  | none => .next s
  | some f =>
    let s := s.advance ((s.fh.port p).sendingAt + lineTime f.length)
    let s := s.setPort p (fun q => { q with sending := none, counts := { q.counts with txFrames := wrapAdd 32 q.counts.txFrames 1 } })
    .next (s.kick p).drain

/-! ### IQ streams (R428 to R431) -/

/-- A 16-bit component in `w` bits: rounded convergently, then saturated. -/
def narrow (w : Nat) (x : Int) : Nat := ((satSym w (roundShift x (16 - w))).emod (2 ^ w)).toNat

/-- Mantissas of 9 bits, packed most significant bit first. -/
def packNine (ms : List Nat) : List Byte :=
  let v := ms.foldl (fun n m => n * 512 + m) 0
  be (ms.length * 9 / 8) v

/-- A BFP mantissa at exponent e. -/
def bfpMantissa (e : Nat) (x : Int) : Int := roundShift x e

/-- The smallest exponent from 0 to 7 at which every component fits ±255; the last where none does. -/
def bfpExponent (xs : List Int) : Nat :=
  ((List.range 8).find? (fun e => xs.all (fun x => decide ((bfpMantissa e x).natAbs ≤ 255)))).getD 7

/-- One BFP block of 12 complex samples: 28 bytes. -/
def bfpBlock (cs : List Cplx) : List Byte :=
  let xs := cs.flatMap (fun c => [c.i, c.q])
  let e := bfpExponent xs
  le 1 e ++ packNine (xs.map (fun x => ((satSym 9 (bfpMantissa e x)).emod 512).toNat))

/-- Blocks of 12 of a list, at most `n`. -/
def bfpBlocks : Nat → List Cplx → List Byte
  | 0, _ => []
  | n + 1, cs => bfpBlock (cs.take 12) ++ bfpBlocks n (cs.drop 12)

/-- Samples in a format of Table FH-6. -/
def iqPack (format : Nat) (cs : List Cplx) : List Byte :=
  if format = 0 then cs.flatMap (fun c => (leS 2 c.i).reverse ++ (leS 2 c.q).reverse)
  else if format = 1 then cs.flatMap (fun c => be 3 (narrow 12 c.i * 4096 + narrow 12 c.q))
  else bfpBlocks (cs.length / 12) cs

/-- Complex samples in one instant, and in one frame. -/
def Stream.perInstant (x : Stream) : Nat := if x.kind = 2 then x.binCount else popcount x.sources
/-- Complex samples of one frame. -/
def Stream.samples (x : Stream) : Nat := x.instants * x.perInstant

/-- Bytes of the samples of a frame. -/
def Stream.sampleBytes (x : Stream) : Nat :=
  if x.format = 0 then 4 * x.samples else if x.format = 1 then 3 * x.samples else x.samples / 12 * 28

/-- Frame length with the tag of its port. -/
def State.streamLength (s : State) (x : Stream) : Nat := frameLength (s.fh.port x.port).vlan (4 + 16 + x.sampleBytes)

/-- Instants per second. -/
def Stream.rate (x : Stream) : Nat := if x.kind = 2 then 200000 else 38400000

/-- Time units of one instant. -/
def Stream.period (x : Stream) : Nat := if x.kind = 2 then 1920000 else 10000

/-- The need of a port's enabled streams in bit/s, as a fraction (R431). -/
def State.portNeed (s : State) (streams : Tab Stream) (p : Nat) : Nat × Nat :=
  streams.foldl (fun (a : Nat × Nat) (x : Nat × Stream) =>
    if x.2.enable ∧ x.2.port = p ∧ 0 < x.2.instants then
      (a.1 * x.2.instants + x.2.rate * (s.streamLength x.2 + 20) * 8 * a.2, a.2 * x.2.instants)
    else a) (0, 1)

/-- LOAD of a port in 0.1 %. -/
def portLoad (n : Nat × Nat) : Nat := (n.1 * 1000 + n.2 * 12500000000) / (n.2 * 25000000000)

/-- MIN_LATENCY_US (R430): the receive delay, the beam engine and cascade, the channeliser, and 1 us of port preparation. -/
def State.minLatency (s : State) (x : Stream) : Nat :=
  let beam := if x.kind = 0 then 0
    else 312500 + (if s.role = .manager ∧ s.beam.ownOnly = false then 900000 * s.joinedWorkers.length else 0)
  let bins := if x.kind = 2 then 43487000 else 0
  (s.delays.1 + beam + bins + 1000000 + 999999) / 1000000

/-- FLAGS of Table FH-7 over the stamps of a frame. -/
def State.iqFlags (s : State) (x : Stream) (y : Span) : Nat :=
  (if s.blankedIn y then 1 else 0) + (if s.path.flagged.any (overlaps y) then 2 else 0) +
    (if s.filt.flagged.any (fun p => overlaps y p.2) then 4 else 0) +
    (if x.kind ≠ 0 ∧ s.beam.changes.any (fun c => (c.2 &&& x.sources) != 0#64 && decide (y.start ≤ c.1) && decide (c.1 < y.stop)) then 8
      else 0) +
    16 * (match s.time.state with | .invalid => 0 | .valid => 1 | .holdover => 2)

/-- IQ frames that a port holds, in bytes. -/
def Port.iqBytes (q : Port) : Nat :=
  q.queue.foldl (fun n f => match f.body with | .iq .. => n + f.length | _ => n) 0

/-- IQ_FRAME_COMPLETE: the last sample of a frame of a stream is ready. `count` is the count of its first instant from the decimation
phase, `stamp` the first instant's stamp, and the epochs are those of the first instant. -/
def execIqFrameComplete (t : Nat) (slot : Fin 32) (count stamp gainEpoch weightEpoch : Nat) (samples : List Cplx) (s : State) :
    Host.Outcome State Fault Refusal :=
  let s := s.advance t
  let x := Tab.get s.fh.streams slot {}
  if !x.enable || !s.portUp x.port || x.instants = 0 || decide (samples.length ≠ x.samples) then .next s
  else if count % x.instants ≠ 0 then .next s
  else
    let p := x.port
    let last := stamp + (x.instants - 1) * x.period
    let flags := s.iqFlags x { start := stamp, stop := last + x.period }
    let head := s.ts64Be stamp ++ be 2 (s.subNs stamp) ++ be 2 x.instants ++ le 1 (x.format + 4 * x.kind) ++ le 1 flags ++
      le 1 gainEpoch ++ le 1 weightEpoch
    let seq := x.seq
    let s := { s with fh := { s.fh with streams := Tab.set s.fh.streams slot { x with seq := (seq + 1) % 256 } } }
    let body : FrameBody := .iq slot x.pcId seq head (iqPack x.format samples)
    let f : Frame := { s.frameFor p (if x.latencyUs = 0 then 5 else 2) (4 + 16 + x.sampleBytes) body with
      launch := if x.latencyUs = 0 then none else some (last + x.latencyUs * Config.us) }
    if 65536 < (s.fh.port p).iqBytes + f.length then
      let s := s.setPort p (fun q => { q with
        dropSince := q.dropSince + 1, counts := { q.counts with iqDropped := wrapAdd 32 q.counts.iqDropped 1 } })
      .next ((s.fhFault p 0x402).iqDropEvent p)
    else .next (s.enqueue p f)

/-- IQ_FRAME_LAUNCH: the earliest launch time of a waiting timed frame comes. -/
def execIqFrameLaunch (p : Fin 4) (s : State) : Host.Outcome State Fault Refusal :=
  let due := (s.fh.port p).queue.filterMap (fun f => f.launch.filter (fun t => decide (s.now < t)))
  match due with
  | [] => .next s
  | t :: r => .next ((s.advance (r.foldl Nat.min t)).kick p)

/-! ### PTP (R435, R436) -/

/-- A message comes from the selected master on the PTP port. -/
def State.fromMaster (s : State) (p : Nat) (id sport : Nat) : Bool :=
  p == s.time.ptpPort && s.portUp p && (match s.time.master with | some m => m.id == id && m.port == sport | none => false)

/-- Device time moves by an offset in ps at once. -/
def State.stepTime (s : State) (offset : Int) : State :=
  let s := s.rebase s.time.ratePpb
  { s with time := { s.time with
    base := s.time.base - roundDiv (offset * 384) 1000
    steps := wrapAdd 16 s.time.steps 1, stepped := true, stepPs := offset, lockCount := 0
    masterToSlavePs := none, delayReq := none, wait := none } }

/-- The servo sets the rate word from an offset while the clock ADPLL is locked: within ±250 ppm of nominal, otherwise open. -/
def State.servo (s : State) : State :=
  if s.radio.clock ≠ .locked then s
  else
    let d := s.draw
    d.2.rebase ((d.1 % 500001 : Nat) - 250000 : Int)

/-- The lock count after an offset. -/
def TimeUnit.counted (u : TimeUnit) (offset : Int) : Nat := if offset.natAbs ≤ 1000 * u.lockNs then u.lockCount + 1 else 0

/-- A Sync with its offset drives the time state (Table FH-11). -/
def State.judgeOffset (s : State) (offset : Int) : State :=
  let u := s.time
  let big := decide (1000 * u.stepThresholdNs < offset.natAbs)
  let n := u.counted offset
  let s := { s with time := { u with offsetPs := offset } }
  match u.state with
  | .invalid =>
    if !u.stepped then s.stepTime offset
    else
      let s := ({ s with time := { s.time with lockCount := n } }).servo
      if 16 ≤ n then s.toValid else s
  | .valid =>
    if big then
      let s := { s with time := { s.time with bigCount := u.bigCount + 1 } }
      if 4 ≤ u.bigCount + 1 then s.toInvalid 2 else s
    else ({ s with time := { s.time with bigCount := 0 } }).servo
  | .holdover =>
    if big then s.toInvalid 2
    else
      let s := ({ s with time := { s.time with lockCount := n } }).servo
      if 16 ≤ n ∧ s.radio.clock = .locked then s.toValid else s

/-- A Sync is complete: arrival, origin and correction in ps. The offset is device time less master time. -/
def State.syncComplete (s : State) (arrival origin correction : Int) : State :=
  let m2s := arrival - origin - correction
  let s := { s with time := { s.time with masterToSlavePs := some m2s, wait := none } }
  match s.time.pathDelayPs with
  | none => s
  | some d => s.judgeOffset (m2s - s.time.asymmetryPs - d)

/-- PTP_SYNC. -/
def execPtpSync (t : Nat) (p : Fin 4) (id sport seqId : Nat) (twoStep : Bool) (originPs correctionPs : Int) (s : State) :
    Host.Outcome State Fault Refusal :=
  let s := s.advance t
  if !s.fromMaster p id sport then .next s
  else
    let a := s.arrivalPs p t
    let s := { s with time := { s.time with syncAt := s.now } }
    if twoStep then
      .next { s with time := { s.time with wait := some { seqId := seqId, arrivalPs := a, correctionPs := correctionPs } } }
    else .next (s.syncComplete a originPs correctionPs)

/-- PTP_FOLLOW_UP: it completes the two-step Sync of its sequence id. -/
def execPtpFollowUp (t : Nat) (p : Fin 4) (id sport seqId : Nat) (originPs correctionPs : Int) (s : State) :
    Host.Outcome State Fault Refusal :=
  let s := s.advance t
  match s.fromMaster p id sport, s.time.wait with
  | true, some w => if w.seqId = seqId then .next (s.syncComplete w.arrivalPs originPs (w.correctionPs + correctionPs)) else .next s
  | _, _ => .next s

/-- The master that an Announce describes. -/
def announced (x : Announce) : Master :=
  { id := x.id, port := x.sport, clockClass := x.clockClass, utcOffset := x.utcOffset, dataset := x.dataset }

/-- A master is selected: its offsets count from here. -/
def State.selectMaster (s : State) (x : Announce) : State :=
  let s := { s with time := { s.time with
    master := some (announced x), announceAt := s.now, announceLog := x.logInterval, syncAt := s.now
    pathDelayPs := none, masterToSlavePs := none, wait := none, delayReq := none
    lockCount := 0, bigCount := 0, stepped := false } }
  s.masterEvent

/-- PTP_ANNOUNCE. -/
def execPtpAnnounce (t : Nat) (p : Fin 4) (x : Announce) (s : State) : Host.Outcome State Fault Refusal :=
  let s := s.advance t
  if p.val ≠ s.time.ptpPort ∨ s.portUp p = false ∨ x.domain ≠ s.time.domain then .next s
  else match s.time.master with
  | none => .next (s.selectMaster x)
  | some m =>
    if m.id = x.id ∧ m.port = x.sport then
      .next { s with time := { s.time with master := some (announced x), announceAt := s.now, announceLog := x.logInterval } }
    else if Config.betterMaster s.time.profile s.time.localPriority m.dataset x.dataset then
      .next ((s.selectMaster x).toHoldover 1)
    else .next s

/-- PTP_DELAY_RESP: the answer to the outstanding Delay_Req gives the mean path delay. -/
def execPtpDelayResp (t : Nat) (p : Fin 4) (id sport seqId : Nat) (receivePs correctionPs : Int) (s : State) :
    Host.Outcome State Fault Refusal :=
  let s := s.advance t
  match s.fromMaster p id sport, s.time.delayReq, s.time.masterToSlavePs with
  | true, some (n, sent), some m2s =>
    if n = seqId then
      .next { s with time := { s.time with
        pathDelayPs := some (roundDiv (m2s + (receivePs - sent - correctionPs)) 2), delayReq := none } }
    else .next s
  | _, _, _ => .next s

/-- 2^n seconds in time units. -/
def logUnits (n : Int) : Nat := if 0 ≤ n then Config.sec * 2 ^ n.toNat else Config.sec / 2 ^ (-n).toNat

/-- PTP_DELAY_REQ_SEND: every 2^DELAY_REQ_LOG seconds while a master is selected. -/
def execPtpDelayReqSend (s : State) : Host.Outcome State Fault Refusal :=
  if s.time.master.isNone ∨ s.portUp s.time.ptpPort = false then .next s
  else
    let s := match s.time.delayReqAt with | some t => s.advance (t + logUnits s.time.delayReqLog) | none => s
    let n := s.time.delayReqSeq
    let s := { s with time := { s.time with delayReqAt := some s.now, delayReqSeq := (n + 1) % 65536 } }
    let p := s.time.ptpPort
    let f : Frame := { cls := 1, length := frameLength (s.fh.port p).vlan 40, body := .delayReq n }
    .next (s.enqueue p f)

/-- PTP_MASTER_LOST: no Announce for 3 Announce intervals, or no Sync for 1 s. -/
def execPtpMasterLost (s : State) : Host.Outcome State Fault Refusal :=
  if s.time.master.isNone then .next s
  else
    let due := Nat.min (s.time.announceAt + 3 * logUnits s.time.announceLog) (s.time.syncAt + Config.sec)
    .next ((s.advance due).loseMaster 0)

/-- HOLDOVER_LIMIT_EXPIRY. -/
def execHoldoverLimitExpiry (s : State) : Host.Outcome State Fault Refusal :=
  match s.isWorker, s.time.state, s.time.holdoverAt with
  | false, .holdover, some t => .next ((s.advance (t + s.time.holdoverLimitS * Config.sec)).toInvalid 0)
  | _, _, _ => .next s

/-! ### Commands (R441) -/

def setPortBody (r : Running) (s : State) : CmdEffect :=
  let p := r.cmd.payload
  let n := u8 p 0
  let mac := beNat p 8 6
  if !(decide (n ≤ 3) && decide (u8 p 1 ≤ 1) && decide (u8 p 2 ≤ 1) && decide (u16 p 4 % 4096 ≤ 4094) && u8 p 8 % 2 == 0) then
    .status s Status.badParam
  else
    let old := s.fh.port n
    let en := u8 p 1 == 1
    let fec := u8 p 2 == 1
    let s := if !en then s.dropLink n 3 else if old.fec != fec then s.dropLink n 0 else s
    let s := s.setPort n (fun q => { q with
      enable := en, fec := fec, vlan := u16 p 4, srcMac := some mac, dstMac := beNat p 14 6
      boardTxPs := u16 p 0x14, boardRxPs := u16 p 0x16 })
    -- a disabled port sends nothing more
    .ok (if en then s else s.rerouteFrames n) []

/-- The envelope of FH_SET_PORT. -/
def specFhSetPort : CmdSpec := { opcode := 0x0A01, minLen := fun _ => 0x18, rule := .managerOnly }

/-- FH_SET_PORT. -/
def execFhSetPort (s : State) : Host.Outcome State Fault Refusal := runCommand specFhSetPort setPortBody s

/-- The stream of a payload. -/
def parseStream (p : List Byte) : Stream :=
  { enable := u8 p 1 == 1, kind := u8 p 2, format := u8 p 3, port := u8 p 4, instants := u16 p 6, sources := mask64 p 8,
    firstBin := u16 p 0x10, binCount := u16 p 0x12, latencyUs := u16 p 0x14, pcId := u16 p 0x16 }

/-- Ranges of a stream. -/
def State.streamOk (s : State) (x : Stream) : Bool :=
  decide (x.kind ≤ 2) && decide (x.format ≤ 2) && decide (x.port ≤ 3) && inRange 1 x.instants 4096 &&
    (if x.kind = 2 then popcount x.sources == 1 && decide (1 ≤ x.binCount) && decide (x.firstBin + x.binCount ≤ 384)
     else inRange 1 (popcount x.sources) 16) &&
    (x.format != 2 || x.samples % 12 == 0) && decide (s.streamLength x ≤ 9600) &&
    (x.latencyUs == 0 || (decide (s.minLatency x ≤ x.latencyUs) && decide (x.latencyUs ≤ 10000)))

def setStreamBody (r : Running) (s : State) : CmdEffect :=
  let p := r.cmd.payload
  let n := u8 p 0
  let x := parseStream p
  let seq := (Tab.get s.fh.streams n {}).seq
  let streams := Tab.set s.fh.streams n { x with seq := seq }
  let need := s.portNeed streams x.port
  match firstFailure
    [(decide (n ≤ 31) && decide (u8 p 1 ≤ 1) && s.streamOk x, Status.badParam),
     ((s.fh.port x.port).enable, Status.portDisabled),
     (decide (need.1 ≤ 25000000000 * need.2), Status.rateExceeded)] with
  | some st => .status s st
  | none =>
    .ok { s with fh := { s.fh with streams := streams } } (leSat 2 (s.minLatency x) ++ leSat 2 (portLoad need))

/-- The envelope of FH_SET_STREAM. -/
def specFhSetStream : CmdSpec := { opcode := 0x0A02, minLen := fun _ => 0x20, rule := .managerOnly }

/-- FH_SET_STREAM. -/
def execFhSetStream (s : State) : Host.Outcome State Fault Refusal := runCommand specFhSetStream setStreamBody s

def setRecordsBody (r : Running) (s : State) : CmdEffect :=
  let p := r.cmd.payload
  let order := (List.range 4).map (fun k => u8 p k)
  let used := order.takeWhile (fun x => x != 0xFF)
  if !(used.all (fun x => decide (x ≤ 3)) && decide (u8 p 4 ≤ 10)) then .status s Status.badParam
  else .ok ({ s with fh := { s.fh with portOrder := used, recHoldUs := u8 p 4 } }).flushResults.pull []

/-- The envelope of FH_SET_RECORDS. -/
def specFhSetRecords : CmdSpec := { opcode := 0x0A03, minLen := fun _ => 8, rule := .managerOnly }

/-- FH_SET_RECORDS. -/
def execFhSetRecords (s : State) : Host.Outcome State Fault Refusal := runCommand specFhSetRecords setRecordsBody s

/-- Ranges of FH_SET_PTP. -/
def ptpRanges (p : List Byte) : Bool :=
  (decide (u8 p 0 ≤ 3) || u8 p 0 == 0xFF) && decide (u8 p 1 ≤ 1) &&
    (if u8 p 1 = 0 then inRange 24 (u8 p 2) 43 else decide (u8 p 2 ≤ 127)) && decide (u8 p 3 ≤ 1) && decide (1 ≤ u8 p 4) &&
    inRangeZ (-7) (s8 p 5) 0 && inRange 10 (u16 p 6) 10000 && inRange 100 (u32 p 8) 1000000 && inRange 1 (u32 p 12) 86400 &&
    inRangeZ (-1000000) (s32 p 16) 1000000

def setPtpBody (r : Running) (s : State) : CmdEffect :=
  let p := r.cmd.payload
  let port := u8 p 0
  match firstFailure
    [(ptpRanges p, Status.badParam), (port == 0xFF || (s.fh.port port).enable, Status.portDisabled)] with
  | some st => .status s st
  | none =>
    let old := s.time.ptpPort
    let s := if port = 0xFF then
        let s := s.toInvalid 3
        if s.time.master.isSome then
          ({ s with time := { s.time with master := none, pathDelayPs := none, masterToSlavePs := none, wait := none, delayReq := none } }).masterEvent
        else s
      else if old ≠ port ∧ old ≠ 0xFF then s.loseMaster 2
      else s
    .ok { s with time := { s.time with
      ptpPort := port, profile := u8 p 1, domain := u8 p 2, dest := u8 p 3, localPriority := u8 p 4, delayReqLog := s8 p 5
      lockNs := u16 p 6, stepThresholdNs := u32 p 8, holdoverLimitS := u32 p 12, asymmetryPs := s32 p 16 } } []

/-- The envelope of FH_SET_PTP. -/
def specFhSetPtp : CmdSpec := { opcode := 0x0A04, minLen := fun _ => 0x14, rule := .managerOnly }

/-- FH_SET_PTP. -/
def execFhSetPtp (s : State) : Host.Outcome State Fault Refusal := runCommand specFhSetPtp setPtpBody s

/-- Saturation to 32 bits of two's complement. -/
def sat32 (v : Int) : Int := if v > 2147483647 then 2147483647 else if v < -2147483648 then -2147483648 else v

/-- Response of FH_GET_TIME. -/
def State.timeStatus (s : State) : List Byte :=
  let u := s.time
  let d := s.deviceNow.toNat
  let m := u.master
  let held := match u.state, u.holdoverAt with | .holdover, some t => (s.now - t) / Config.sec | _, _ => 0
  le 6 (d / Config.sec) ++ le 4 (d % Config.sec / Config.ns) ++ le 2 (s.subNs s.now) ++
    le 1 (match u.state with | .invalid => 0 | .valid => 1 | .holdover => 2) ++
    le 1 (match m with | some x => x.clockClass | none => 0) ++ leS 2 (match m with | some x => x.utcOffset | none => 0) ++
    be 8 (match m with | some x => x.id | none => 0) ++ le 2 (match m with | some x => x.port | none => 0) ++ le 2 u.steps ++
    leS 4 (sat32 u.offsetPs) ++ leS 4 (sat32 (u.pathDelayPs.getD 0)) ++ leS 4 u.ratePpb ++ leSat 4 held

def fhGetTimeBody (_ : Running) (s : State) : CmdEffect := .ok s s.timeStatus

/-- The envelope of FH_GET_TIME. -/
def specFhGetTime : CmdSpec := { opcode := 0x0A05 }

/-- FH_GET_TIME. -/
def execFhGetTime (s : State) : Host.Outcome State Fault Refusal := runCommand specFhGetTime fhGetTimeBody s

/-- One port of FH_GET_PORT_STATUS. -/
def State.portStatus (s : State) (p : Nat) : List Byte :=
  let q := s.fh.port p
  let c := q.counts
  le 1 (if !q.enable then 0 else if q.up then 2 else 1) ++ b8 q.fec ++ leSat 2 (portLoad (s.portNeed s.fh.streams p)) ++
    le 4 c.rxFrames ++ le 4 c.rxFcsErr ++ le 4 c.rxDiscard ++ le 4 c.rxUnsupported ++ le 4 c.txFrames ++ le 4 c.iqDropped ++
    le 4 c.iqLate ++ le 4 c.fecCorrected ++ le 4 c.fecUncorrected ++ le 4 c.linkDowns ++ le 4 c.rtcAccepted ++ le 4 c.rtcLate ++
    zeros 12

def getPortStatusBody (r : Running) (s : State) : CmdEffect :=
  let out := (List.range 4).flatMap s.portStatus
  .ok (if u8 r.cmd.payload 0 % 2 = 1 then
      { s with fh := { s.fh with ports := Tab.mapVals s.fh.ports (fun _ q => { q with counts := {} }) } }
    else s) out

/-- The envelope of FH_GET_PORT_STATUS. -/
def specFhGetPortStatus : CmdSpec := { opcode := 0x0A06, minLen := fun _ => 1, rule := .managerOnly }

/-- FH_GET_PORT_STATUS. -/
def execFhGetPortStatus (s : State) : Host.Outcome State Fault Refusal := runCommand specFhGetPortStatus getPortStatusBody s

end Sys2Proof.Machine
end

