-- ==== Sys2Proof/Machine/Dma.lean ====
section
/-!
DEFINITION. The host channels of the DMA engine (spec/14).
-/

namespace Sys2Proof.Machine

open Sys2Proof

/-! ### Address rules (R362) -/

/-- SPACE of a channel address. -/
def hostSpace (a : Nat) : Bool := decide (2 ^ 63 ≤ a)

/-- A device address has its bits [62:40] zero. -/
def deviceForm (a : Nat) : Bool := decide (a < 2 ^ 40)

/-- `[a, a + n)` lies in `[lo, hi)`. -/
def within (a n lo hi : Nat) : Bool := decide (lo ≤ a) && decide (a + n ≤ hi)

/-- Device memory that a host channel may read: capture pool, packet pool, scratch and staging pool. -/
def dmaReadable (a n : Nat) : Bool :=
  within a n 0x1000_0000 0x1160_0000 || within a n 0x1180_0000 0x11C0_0000

/-- Device memory that a host channel may write: capture pool, scratch and staging pool. -/
def dmaWritable (a n : Nat) : Bool :=
  within a n 0x1000_0000 0x1100_0000 || within a n 0x1180_0000 0x11C0_0000

/-- The first rule of R362 and Table DMA-3 that a transfer breaks, if any: COUNT, SPACE or ADDRESS. -/
def dmaFault (src dst count : Nat) : Option Nat :=
  if count > 0x400_0000 then some 0x03
  else if hostSpace src && hostSpace dst then some 0x02
  else if (!hostSpace src && !deviceForm src) || (!hostSpace dst && !deviceForm dst) then some 0x02
  else if !hostSpace src && !dmaReadable src count then some 0x01
  else if !hostSpace dst && !dmaWritable dst count then some 0x01
  else none

/-- The channel address of the byte that breaks the rule: the source's where it does, else the destination's. -/
def dmaFaultAddress (src dst count : Nat) : Nat :=
  if !hostSpace src && !(deviceForm src && dmaReadable src count) then src else dst

/-! ### Channels -/

/-- Channel c. -/
def State.channel (s : State) (c : Nat) : Channel := Tab.get s.dma c {}

/-- The state with channel c replaced. -/
def State.setChannel (s : State) (c : Nat) (ch : Channel) : State := { s with dma := Tab.set s.dma c ch }

/-- MODE: 1 is chain mode. -/
def Channel.chain (ch : Channel) : Bool := ch.ctrl.getLsbD 2
/-- MSIX_EN. -/
def Channel.msixEn (ch : Channel) : Bool := ch.ctrl.getLsbD 5
/-- EVENT_EN. -/
def Channel.eventEn (ch : Channel) : Bool := ch.ctrl.getLsbD 6
/-- VECTOR. -/
def Channel.vector (ch : Channel) : Nat := (ch.ctrl >>> 8).toNat % 32

/-- Send the channel's vector where MSIX_EN is set. -/
def State.dmaVector (s : State) (c : Nat) : State :=
  let ch := s.channel c
  if ch.msixEn then s.notify ch.vector (6 + c) else s

/-- EV_SYS_DMA_PROGRESS where EVENT_EN is set: kind 0 half, 1 full, 2 chain end, 3 stopped (Table DMA-4). -/
def State.dmaProgress (s : State) (c kind : Nat) : State :=
  let ch := s.channel c
  if ch.eventEn then
    s.raiseEvent 0x0150 .info (le 1 c ++ le 1 kind ++ zeros 2 ++ le 4 ch.doneBytes ++ le 8 ch.cur)
  else s

/-- A half notification (R370). -/
def State.dmaHalf (s : State) (c : Nat) : State :=
  ((s.setChannel c { s.channel c with half := true }).dmaVector c).dmaProgress c 0

/-- A full notification (R370). -/
def State.dmaFull (s : State) (c : Nat) : State :=
  ((s.setChannel c { s.channel c with full := true }).dmaVector c).dmaProgress c 1

/-- Write STATUS of a descriptor, bytes 0x16 and 0x17 only (R366). -/
def State.writeDescStatus (s : State) (desc status : Nat) : State :=
  let b := le 2 status
  if hostSpace desc then { s with hostMem := memWriteBytes unlisted s.hostMem (desc - 2 ^ 63 + 0x16) b }
  else { s with mem := memWriteBytes unlisted s.mem (desc + 0x16) b }

/-- A fault (R373): ERROR with its cause, LAST_DESC, the descriptor's STATUS where it could be read, the event and the
channel's vector. -/
def State.dmaFail (s : State) (c cause addr : Nat) (descRead : Bool) : State :=
  let ch := s.channel c
  let s := if ch.chain && descRead then s.writeDescStatus ch.cur (2 + 256 * cause) else s
  let s := s.setChannel c { ch with
    state := .idle, tailCheck := false, endCause := 4, errCause := cause, lastDesc := ch.cur, job := none }
  let s := s.raiseEvent 0x0151 .error (le 1 c ++ le 1 cause ++ zeros 2 ++ le 4 ch.doneBytes ++ le 8 addr)
  s.dmaVector c

/-- The channel goes idle. -/
def State.dmaIdle (s : State) (c cause : Nat) : State :=
  let ch := s.channel c
  s.setChannel c { ch with state := .idle, tailCheck := false, endCause := cause, job := none }

/-! ### Moving bytes (R366 to R368) -/

/-- The transfer runs in descending order: same space, overlapping, destination above source. -/
def Transfer.descending (x : Transfer) : Bool :=
  hostSpace x.src == hostSpace x.dst && decide (x.src < x.dst) && decide (x.dst < x.src + x.count)

/-- The offset in the range at which the next `n` bytes to move begin. -/
def Transfer.offset (x : Transfer) (n : Nat) : Nat :=
  if x.descending then x.count - x.moved - n else x.moved

/-- Words of a range of device memory that hold poison. -/
def State.poisonedIn (s : State) (a n : Nat) : Option Nat :=
  s.fab.poison.find? (fun w => decide (w < a + n) && decide (a < w + 8))

/-- The bytes of `n` source bytes at offset `o`: device memory, or what the host's memory answered. -/
def State.dmaSource (s : State) (x : Transfer) (o n : Nat) (read : List Byte) : List Byte :=
  if hostSpace x.src then fit n read else memReadBytes unlisted s.mem (x.src + o) n

/-- Move the next `n` bytes of the channel's transfer. -/
def State.dmaMove (s : State) (c : Nat) (x : Transfer) (n : Nat) (read : List Byte) : State :=
  let o := x.offset n
  let d := s.dmaSource x o n read
  let s :=
    if hostSpace x.dst then { s with hostMem := memWriteBytes unlisted s.hostMem (x.dst - 2 ^ 63 + o) d }
    else { s with mem := memWriteBytes unlisted s.mem (x.dst + o) d }
  let ch := s.channel c
  s.setChannel c { ch with doneBytes := x.moved + n, job := some { x with moved := x.moved + n } }

/-! ### Descriptors (R365, Table DMA-2) -/

/-- A descriptor address that cannot be fetched: DESC_ALIGN, SPACE or ADDRESS. -/
def descFault (a : Nat) : Option Nat :=
  if a % 32 != 0 then some 0x07
  else if hostSpace a then none
  else if !deviceForm a then some 0x02
  else if !within a 32 0x1180_0000 0x11C0_0000 then some 0x01
  else none

/-- The 32 bytes of a descriptor: device memory, or what the host's memory answered. -/
def State.descBytes (s : State) (a : Nat) (read : List Byte) : List Byte :=
  if hostSpace a then fit 32 read else memReadBytes unlisted s.mem a 32

/-- A reserved bit of a descriptor is set (R5). -/
def descReserved (d : List Byte) : Bool := decide (2 ^ 27 ≤ u32 d 0x10) || decide (8 ≤ u16 d 0x14)

/-- Begin a transfer: its faults end it before a byte moves (R362). -/
def State.dmaBegin (s : State) (c : Nat) (x : Transfer) : State :=
  match dmaFault x.src x.dst x.count with
  | some cause => s.dmaFail c cause (dmaFaultAddress x.src x.dst x.count) true
  | none => s.setChannel c { s.channel c with doneBytes := 0, job := some x }

/-- Fetch the descriptor at `a` and begin it. -/
def State.dmaFetch (s : State) (c a : Nat) (read : List Byte) : State :=
  let s := s.setChannel c { s.channel c with cur := a, doneBytes := 0 }
  match descFault a with
  | some cause => s.dmaFail c cause a false
  | none =>
    if !hostSpace a && (s.poisonedIn a 32).isSome then s.dmaFail c 0x06 a false
    else
      let d := s.descBytes a read
      if descReserved d then s.dmaFail c 0x06 a true
      else s.dmaBegin c
        { src := u64 d 0, dst := u64 d 8, count := u32 d 0x10, last := u16 d 0x14 % 2 == 1,
          half := u16 d 0x14 / 2 % 2 == 1, full := u16 d 0x14 / 4 % 2 == 1, next := u64 d 0x18 }

/-! ### Host writes of DMA_CTRL -/

/-- Bits of DMA_CTRL that keep what is written: MODE to EVENT_EN and VECTOR, and the reserved bits. -/
def dmaCtrlKept : Word := 0xFFFFFFFC#32

/-- START on an idle channel (R363 to R365); `read` is what the host's memory answers for a descriptor there. -/
def State.dmaStart (s : State) (c : Nat) (v : Word) (read : List Byte) : State :=
  let ch := s.channel c
  if ch.state != .idle || v.getLsbD 1 then s
  else
    let ctrl := v &&& 0x1F7C#32
    let ch' := { ch with ctrl := ctrl, state := .running, endCause := 0, errCause := 0, doneBytes := 0, cur := 0 }
    let s := s.setChannel c ch'
    if ctrl.getLsbD 2 then s.dmaFetch c ch.desc.toNat read
    else
      let x : Transfer :=
        { src := ch.src.toNat, dst := ch.dst.toNat, count := ch.count, half := ctrl.getLsbD 3, full := ctrl.getLsbD 4 }
      let s := s.dmaBegin c x
      if ch.count = 0 && (s.channel c).job.isSome then
        let s := if x.full then s.dmaFull c else s
        s.dmaIdle c 1
      else s

/-- STOP on a running channel (R369). -/
def State.dmaStop (s : State) (c : Nat) (v : Word) : State :=
  let ch := s.channel c
  if ch.state = .running && !v.getLsbD 0 then s.setChannel c { ch with state := .stopping } else s

/-- The effect of PERST_L, Function Level Reset or RESET_L on the channels (R374). -/
def dmaReset (t : Tab Channel) : Tab Channel :=
  t.filterMap (fun p => if p.2.state = .idle then none else some (p.1, { endCause := 5 }))

/-! ### Meanings -/

/-- The host can reach BAR0 and BAR2: the link is up, the function in D0, PERST_L high (R379). -/
def State.hostAccess (s : State) : Bool := s.host.linkUp && !s.host.d3hot && !s.host.perstLow

/-- DMA_START (R363 to R365). -/
def execDmaStart (t : Nat) (c : Fin 8) (v : Word) (read : List Byte) (s : State) : Host.Outcome State Fault Refusal :=
  let s := s.advance t
  if s.hostAccess && v.getLsbD 0 then .next (s.dmaStart c v read) else .next s

/-- DMA_STOP (R369). -/
def execDmaStop (t : Nat) (c : Fin 8) (v : Word) (s : State) : Host.Outcome State Fault Refusal :=
  let s := s.advance t
  if s.hostAccess && v.getLsbD 1 then .next (s.dmaStop c v) else .next s

/-- Poison met by the bytes still to move from device memory. -/
def State.dmaPoison (s : State) (x : Transfer) : Option Nat :=
  if hostSpace x.src then none else s.poisonedIn x.src x.count

/-- DMA_TRANSFER_DONE (R364, R369, R370): a register-mode transfer moves what is left, notifies and goes idle. -/
def execDmaTransferDone (t : Nat) (c : Fin 8) (read : List Byte) (s : State) : Host.Outcome State Fault Refusal :=
  let s := s.advance t
  let ch := s.channel c
  match ch.job with
  | none => .next s
  | some x =>
    if ch.state = .idle || ch.chain then .next s
    else match s.dmaPoison x with
      | some w => .next (s.dmaFail c 0x05 w false)
      | none =>
        let s := s.dmaMove c x (x.count - x.moved) read
        let s := if x.full then s.dmaFull c else s
        if ch.state = .stopping then .next ((s.dmaIdle c 3).dmaProgress c 3) else .next (s.dmaIdle c 1)

/-- DMA_HALF_NOTIFY (R370): half of the bytes, rounded up, have been written. -/
def execDmaHalfNotify (t : Nat) (c : Fin 8) (read : List Byte) (s : State) : Host.Outcome State Fault Refusal :=
  let s := s.advance t
  let ch := s.channel c
  match ch.job with
  | none => .next s
  | some x =>
    let h := (x.count + 1) / 2
    if ch.state = .idle || !x.half || x.halfDone || ch.tailCheck || h < x.moved then .next s
    else match s.dmaPoison x with
      | some w => .next (s.dmaFail c 0x05 w true)
      | none =>
        let s := s.dmaMove c { x with halfDone := true } (h - x.moved) read
        .next (s.dmaHalf c)

/-- DMA_DESCRIPTOR_DONE (R365, R366, R369, R371): data, STATUS write-back, full notification; then stop, tail check or
the next descriptor. -/
def execDmaDescriptorDone (t : Nat) (c : Fin 8) (read nextDesc : List Byte) (s : State) :
    Host.Outcome State Fault Refusal :=
  let s := s.advance t
  let ch := s.channel c
  match ch.job with
  | none => .next s
  | some x =>
    if ch.state = .idle || !ch.chain || ch.tailCheck then .next s
    else match s.dmaPoison x with
      | some w => .next (s.dmaFail c 0x05 w true)
      | none =>
        let s := s.dmaMove c x (x.count - x.moved) read
        let s := s.writeDescStatus ch.cur 1
        let s := s.setChannel c { s.channel c with lastDesc := ch.cur }
        let s := if x.full then s.dmaFull c else s
        if ch.state = .stopping then .next ((s.dmaIdle c 3).dmaProgress c 3)
        else if x.last then .next (s.setChannel c { s.channel c with tailCheck := true })
        else .next (s.dmaFetch c x.next nextDesc)

/-- DMA_TAIL_RECHECK (R371): the re-read CONTROL continues the chain or ends it. -/
def execDmaTailRecheck (t : Nat) (c : Fin 8) (tail nextDesc : List Byte) (s : State) :
    Host.Outcome State Fault Refusal :=
  let s := s.advance t
  let ch := s.channel c
  if !ch.tailCheck then .next s
  else
    let d := s.descBytes ch.cur tail
    let s := s.setChannel c { ch with tailCheck := false }
    if ch.state = .stopping then .next ((s.dmaIdle c 3).dmaProgress c 3)
    else if u16 d 0x14 % 2 = 0 then .next (s.dmaFetch c (u64 d 0x18) nextDesc)
    else .next ((s.dmaIdle c 2).dmaProgress c 2)

/-- DMA_ERROR (R373): a fault met in transfer after `written` bytes: HOST_READ, POISON or DESC_FETCH. -/
def execDmaError (t : Nat) (c : Fin 8) (cause written addr : Nat) (read : List Byte) (s : State) :
    Host.Outcome State Fault Refusal :=
  let s := s.advance t
  let ch := s.channel c
  if ch.state = .idle then .next s
  else match ch.job with
    | none => .next (s.dmaFail c cause addr false)
    | some x =>
      let n := Nat.min (written - x.moved) (x.count - x.moved)
      .next ((s.dmaMove c x n read).dmaFail c cause addr (cause != 0x06))

end Sys2Proof.Machine
end

