-- ==== Sys2Proof/Machine/HostIf.lean ====
section
/-!
DEFINITION. The host interface: BAR0, BAR2, mailboxes, MSI-X and the event ring (spec/15).
-/

namespace Sys2Proof.Machine

open Sys2Proof

/-! ### The event ring (R392 to R396) -/

/-- Write the producer index to the producer address. -/
def State.writeProducer (s : State) : State :=
  { s with hostMem := memWriteBytes unlisted s.hostMem s.evq.prodAddr.toNat (le 4 s.evq.prod) }

/-- A notification on vector 0 (R396). -/
def State.ringNotify (s : State) : State :=
  { s.notify 0 0 with evq := { s.evq with unnotified := 0, firstUnnotified := none } }

/-- Write one record into its slot, then the producer index, then notify (R393, R396). -/
def State.writeRecord (s : State) (r : EvRec) : State :=
  let a := s.evq.base.toNat + 32 * (s.evq.prod % s.evq.size)
  let s := { s with
    hostMem := memWriteBytes unlisted s.hostMem a r.bytes
    evq := { s.evq with
      prod := wrapAdd 32 s.evq.prod 1
      unnotified := s.evq.unnotified + 1
      firstUnnotified := some (s.evq.firstUnnotified.getD s.now) } }
  let s := s.writeProducer
  if r.severity = 4 then s.ringNotify.notify 5 5
  else if s.evq.modCount ≤ s.evq.unnotified || s.evq.modUs = 0 then s.ringNotify
  else s

/-- Take the front event of the store: write it or drop it (R394). -/
def State.ringTake (s : State) (r : EvRec) : State :=
  if r.severity = 4 then
    if s.evq.fill < s.evq.size then s.writeRecord r else { s with evq := s.evq.noteDrop r }
  else if s.evq.owed = 0 && s.evq.fill < s.evq.size - 4 then s.writeRecord r
  else { s with evq := s.evq.noteDrop r }

/-- One turn of the ring: EV_SYS_OVERFLOW first where it is due and the front event is not FATAL, then the event. -/
def State.ringTurn (s : State) : State :=
  if !s.ringOpen then s
  else match s.evq.store with
    | [] => s
    | r :: rest =>
      let s := { s with evq := { s.evq with store := rest } }
      if r.severity != 4 && s.overflowDue then
        let p := s.takeOverflow
        (p.2.writeRecord p.1).ringTake r
      else s.ringTake r

/-- `n` turns of the ring. -/
def State.ringTurns : Nat → State → State
  | 0, s => s
  | n + 1, s => State.ringTurns n s.ringTurn

/-- Write the held events in Sequence order (R395). -/
def State.flushEvents (s : State) : State := State.ringTurns s.evq.store.length s

/-- ENABLE takes effect: EVQ_PROD becomes EVQ_CONS and is written to the producer address; then the held events. -/
def State.ringStart (s : State) : State :=
  let s := { s with evq := { s.evq with prod := s.evq.cons, running := true, unnotified := 0, firstUnnotified := none } }
  s.writeProducer.flushEvents

/-- A host write of EVQ_CTRL (R392): SIZE_LOG2 only while ENABLE is 0; an enable before READY waits for READY. -/
def State.writeEvqCtrl (s : State) (v : Word) : State :=
  let was := s.evq.enabled
  let size : Word := 0x0000003E#32
  let v' := if was then (v &&& ~~~size) ||| (s.evq.ctrl &&& size) else v
  let s := { s with evq := { s.evq with ctrl := v' } }
  if !was && s.evq.enabled then (if s.boot.ready then s.ringStart else s)
  else if was && !s.evq.enabled then { s with evq := { s.evq with running := false } }
  else s

/-- A host write of EVQ_CONS (R393). -/
def State.writeEvqCons (s : State) (v : Nat) : State :=
  let ahead := (v + 2 ^ 32 - s.evq.cons) % 2 ^ 32
  if ahead ≤ s.evq.fill then { s with evq := { s.evq with cons := v } }
  else { s with evq := { s.evq with consErr := true } }

/-! ### Mailboxes (R388 to R390) -/

/-- Replace mailbox n. -/
def State.setMailbox (s : State) (n : Nat) (b : Mailbox) : State :=
  { s with host := { s.host with mbx := Tab.set s.host.mbx n b } }

/-- A host write of RING for one mailbox. -/
def State.ring (s : State) (n : Nat) : State :=
  let b := s.host.mailbox n
  if b.state = .idle then s.setMailbox n { b with state := .pending } else s.setMailbox n { b with overrun := true }

/-- A host clear of DONE for one mailbox. -/
def State.release (s : State) (n : Nat) : State :=
  let b := s.host.mailbox n
  if b.state = .response then s.setMailbox n { b with state := .idle } else s

/-- A host write of the enabled bytes of a mailbox area (R380, R387, R388). -/
def State.writeArea (s : State) (n o : Nat) (data : List (Option Byte)) : State :=
  let b := s.host.mailbox n
  if b.state = .idle then
    let old := fit 0x1010 b.area
    let new := (List.range 0x1010).map (fun k =>
      if o ≤ k then match (data[k - o]?).join with | some v => v | none => old.getD k 0#8 else old.getD k 0#8)
    s.setMailbox n { b with area := new }
  else s.setMailbox n { b with overrun := true }

/-- SYSC takes the command of a PENDING mailbox (R388 step 2, R402): the copy, EXECUTING, and the count of commands
taken. An opcode that no chapter assigns is answered at once (R408 check 1); in WAIT_HOST every opcode but SEC_BOOT_LOAD
ends WRONG_STATE (R495). -/
def State.take (s : State) (n : Nat) : State :=
  let b := s.host.mailbox n
  let c := cmdOf b.area
  let waits := decide (c.flags / 2 % 2 = 1) && !s.cmd.running.isEmpty
  let r : Running := { mbx := n, cmd := c, order := s.cmd.nextOrder, reached := s.now,
                       phase := if waits then .barrier else .ready }
  let s := s.setMailbox n { b with state := .executing }
  let s := { s with cmd := { s.cmd with
    running := s.cmd.running ++ [r], nextOrder := s.cmd.nextOrder + 1, taken := wrapAdd 32 s.cmd.taken 1 } }
  if !s.boot.ready && c.opcode != 0x0F01 then s.respond r ⟨Status.wrongState, []⟩
  else if !opcodeKnown c.opcode then s.respond r ⟨Status.badOpcode, []⟩
  else s

/-- Take every PENDING mailbox of a list. -/
def State.takeAll (s : State) (ns : List Nat) : State :=
  ns.foldl (fun s n => if (s.host.mailbox n).state = .pending then s.take n else s) s

/-- The mailboxes that SYSC serves now: all while READY, MBX0 alone in WAIT_HOST (R389, R390, R495). -/
def State.servedMailboxes (s : State) : List Nat :=
  if s.boot.ready then [0, 1, 2, 3] else if s.boot.stage = 0x07 then [0] else []

/-- MBX_DOORBELL_RING: a host write of MBX_DOORBELL. -/
def execMbxDoorbellRing (t : Nat) (ringBits : BitVec 4) (s : State) : Host.Outcome State Fault Refusal :=
  let s := s.advance t
  if s.hostAccess then .next ((bitsOf ringBits).foldl State.ring s) else .next s

/-- MBX_RESPONSE_RELEASE: a host write of MBX_RESPONSE. -/
def execMbxResponseRelease (t : Nat) (doneBits : BitVec 4) (s : State) : Host.Outcome State Fault Refusal :=
  let s := s.advance t
  if s.hostAccess then .next ((bitsOf doneBits).foldl State.release s) else .next s

/-- MAILBOX_SCAN (R389). -/
def execMailboxScan (t : Nat) (s : State) : Host.Outcome State Fault Refusal :=
  let s := s.advance t
  .next (s.takeAll s.servedMailboxes)

/-! ### BAR0 (R380 to R382) -/

/-- A host write of MSIX vector control; an unmasked vector sends its pending message (R386). -/
def State.writeMsix (s : State) (v k : Nat) (w : Word) : State :=
  let e := s.host.entry v
  let e' := if k = 0 then { e with addrLo := w } else if k = 1 then { e with addrHi := w }
            else if k = 2 then { e with data := w } else { e with control := w }
  let h := { s.host with msix := Tab.set s.host.msix v e' }
  if !e'.control.getLsbD 0 && h.msixPending.getLsbD v then
    { s with host := ({ h with msixPending := h.msixPending &&& ~~~(bitAt 32 v) }).sendVector v }
  else { s with host := h }

/-- Replace the low or high word of a 64-bit address register. -/
def setHalf (a : BitVec 64) (high : Bool) (w : Word) : BitVec 64 :=
  if high then BitVec.ofNat 64 (a.toNat % 2 ^ 32 + 2 ^ 32 * w.toNat)
  else BitVec.ofNat 64 (a.toNat / 2 ^ 32 * 2 ^ 32 + w.toNat)

/-- A host write of one DMA register (Table DMA-1, R363). -/
def State.writeDma (s : State) (c o : Nat) (w : Word) : State :=
  let ch := s.channel c
  if o = 0x20 then
    s.setChannel c { ch with half := ch.half && !w.getLsbD 16, full := ch.full && !w.getLsbD 17 }
  else if o = 0x14 then
    if w.getLsbD 0 && w.getLsbD 1 then s
    else if w.getLsbD 0 then s.dmaStart c w []
    else if w.getLsbD 1 then s.dmaStop c w
    else if ch.state = .idle then s.setChannel c { ch with ctrl := w &&& 0x1F7C#32 } else s
  else if ch.state != .idle then s
  else if o = 0x00 then s.setChannel c { ch with src := setHalf ch.src false w }
  else if o = 0x04 then s.setChannel c { ch with src := setHalf ch.src true w }
  else if o = 0x08 then s.setChannel c { ch with dst := setHalf ch.dst false w }
  else if o = 0x0C then s.setChannel c { ch with dst := setHalf ch.dst true w }
  else if o = 0x10 then s.setChannel c { ch with count := w.toNat % 2 ^ 27 }
  else if o = 0x18 then s.setChannel c { ch with desc := setHalf ch.desc false w }
  else if o = 0x1C then s.setChannel c { ch with desc := setHalf ch.desc true w }
  else s

/-- A write of HOST_RESET: KEY 0xA5 with SOFT_RESET resets as RESET_L does (R382). -/
def State.hostReset (s : State) (v : Word) : State :=
  if v.toNat % 256 = 0xA5 && v.getLsbD 8 then s.internalReset (some 0x04) else s

/-- An aligned 32-bit host write of a BAR0 register; read-only and reserved offsets ignore it (R6, R380). -/
def State.writeReg (s : State) (off : Nat) (w : Word) : State :=
  if off = 0x0020 then { s with host := { s.host with scratch := w } }
  else if off = 0x0100 then s.hostReset w
  else if off = 0x0104 then { s with host := { s.host with intStatus := s.host.intStatus &&& ~~~w } }
  else if off = 0x0200 then
    if s.evq.enabled then s else { s with evq := { s.evq with base := setHalf s.evq.base false (w &&& 0xFFFFF000#32) } }
  else if off = 0x0204 then
    if s.evq.enabled then s else { s with evq := { s.evq with base := setHalf s.evq.base true w } }
  else if off = 0x0208 then
    if s.evq.enabled then s
    else { s with evq := { s.evq with prodAddr := setHalf s.evq.prodAddr false (w &&& 0xFFFFFFFC#32) } }
  else if off = 0x020C then
    if s.evq.enabled then s else { s with evq := { s.evq with prodAddr := setHalf s.evq.prodAddr true w } }
  else if off = 0x0210 then s.writeEvqCtrl (w &&& 0x00FFFFFF#32)
  else if off = 0x0218 then s.writeEvqCons w.toNat
  else if off = 0x021C then { s with evq := { s.evq with consErr := s.evq.consErr && !w.getLsbD 2 } }
  else if off = 0x0300 then (bitsOf (w.setWidth 4)).foldl State.ring s
  else if off = 0x0304 then (bitsOf (w.setWidth 4)).foldl State.release s
  else if off = 0x030C then
    (bitsOf (w.setWidth 4)).foldl (fun s n => s.setMailbox n { s.host.mailbox n with overrun := false }) s
  else if 0x1000 ≤ off ∧ off < 0x1200 then s.writeMsix ((off - 0x1000) / 16) (off % 16 / 4) w
  else if 0x2000 ≤ off ∧ off < 0x2200 then s.writeDma ((off - 0x2000) / 0x40) (off % 0x40) w
  else s

/-- The aligned words of a write, each with all its byte enables on, in address order (a 64-bit access is two, low first). -/
def wordsOf (off : Nat) : List (Option Byte) → List (Nat × Word)
  | some a :: some b :: some c :: some d :: rest =>
    (off, BitVec.ofNat 32 (a.toNat + 256 * b.toNat + 65536 * c.toNat + 16777216 * d.toNat)) :: wordsOf (off + 4) rest
  | _ => []

/-- REGISTER_WRITE: a host write of BAR0, with its byte enables. -/
def execRegisterWrite (t off : Nat) (data : List (Option Byte)) (s : State) : Host.Outcome State Fault Refusal :=
  let s := s.advance t
  if !s.hostAccess then .next s
  else if 0x8000 ≤ off ∧ off < 0x10000 then .next (s.writeArea ((off - 0x8000) / 0x2000) (off % 0x2000) data)
  else if off % 4 != 0 then .next s
  else .next ((wordsOf off data).foldl (fun s p => s.writeReg p.1 p.2) s)

/-- HOST_RESET (R382). -/
def execHostReset (t : Nat) (v : Word) (s : State) : Host.Outcome State Fault Refusal :=
  let s := s.advance t
  if s.hostAccess then .next (s.hostReset v) else .next s

/-- EVQ_ENABLE: a write of EVQ_CTRL with ENABLE set. -/
def execEvqEnable (t : Nat) (v : Word) (s : State) : Host.Outcome State Fault Refusal :=
  let s := s.advance t
  if s.hostAccess then .next (s.writeEvqCtrl ((v &&& 0x00FFFFFF#32) ||| 1#32)) else .next s

/-- EVQ_DISABLE: a write of EVQ_CTRL with ENABLE clear. -/
def execEvqDisable (t : Nat) (v : Word) (s : State) : Host.Outcome State Fault Refusal :=
  let s := s.advance t
  if s.hostAccess then .next (s.writeEvqCtrl (v &&& 0x00FFFFFE#32)) else .next s

/-- EVQ_CONS_WRITE. -/
def execEvqConsWrite (t : Nat) (v : Word) (s : State) : Host.Outcome State Fault Refusal :=
  let s := s.advance t
  if s.hostAccess then .next (s.writeEvqCons v.toNat) else .next s

/-- MSIX_VECTOR_UNMASK: vector control written with its mask bit clear. -/
def execMsixVectorUnmask (t : Nat) (v : Fin 32) (s : State) : Host.Outcome State Fault Refusal :=
  let s := s.advance t
  if s.hostAccess then .next (s.writeMsix v 3 ((s.host.entry v).control &&& 0xFFFFFFFE#32)) else .next s

/-- EVENT_RING_WRITE: one turn of the ring; `stall` when the write finds no posted credits (R395). -/
def execEventRingWrite (t : Nat) (stall : Bool) (s : State) : Host.Outcome State Fault Refusal :=
  let s := s.advance t
  if stall then .next { s with host := { s.host with credits := false } } else .next s.ringTurn

/-- EVENT_NOTIFY_TIMER (R396): MOD_US after the first record not yet notified. -/
def execEventNotifyTimer (s : State) : Host.Outcome State Fault Refusal :=
  match s.evq.firstUnnotified with
  | none => .next s
  | some t0 => .next ((s.advance (t0 + s.evq.modUs * Config.us)).ringNotify)

/-- PCIE_CREDIT_RETURN. -/
def execPcieCreditReturn (t : Nat) (s : State) : Host.Outcome State Fault Refusal :=
  let s := s.advance t
  .next ({ s with host := { s.host with credits := true } }).flushEvents

/-- PCIE_LINK_CHANGE; a worker has no endpoint (R18), and no link trains before RESET_L is released (R381). -/
def execPcieLinkChange (t : Nat) (up : Bool) (s : State) : Host.Outcome State Fault Refusal :=
  let s := s.advance t
  if s.isWorker || s.boot.stage = 0 then .next s
  else if up then
    .next ({ s with host := { s.host with linkUp := true, perstLow := false, credits := true } }).flushEvents
  else .next { s with host := { s.host with linkUp := false } }

/-- PCIE_D3HOT_CHANGE (R379). -/
def execPcieD3hotChange (t : Nat) (d3hot : Bool) (s : State) : Host.Outcome State Fault Refusal :=
  let s := s.advance t
  if !s.host.linkUp then .next s
  else if d3hot then .next { s with host := { s.host with d3hot := true } }
  else .next ({ s with host := { s.host with d3hot := false } }).flushEvents

/-- What PERST_L and a Function Level Reset do to the host interface (R374, R383, R388, Table HOST-5). -/
def State.endpointReset (s : State) : State :=
  { s with
    host := { s.host with intStatus := 0#32, msix := [], msixPending := 0#32, mbx := [], d3hot := false }
    dma := dmaReset s.dma
    cmd := { s.cmd with running := s.cmd.running.map (fun r => if r.cascade then r else { r with orphan := true }) }
    evq := { s.evq with
      base := 0#64, prodAddr := 0#64, ctrl := 0x0001000C#32, running := false, prod := 0, cons := 0, consErr := false,
      unnotified := 0, firstUnnotified := none } }

/-- PERST: the endpoint is reset and the link goes down until it retrains. -/
def execPerst (t : Nat) (s : State) : Host.Outcome State Fault Refusal :=
  let s := (s.advance t).endpointReset
  .next { s with host := { s.host with linkUp := false, perstLow := true } }

/-- FUNCTION_LEVEL_RESET: the same with the link kept up. -/
def execFunctionLevelReset (t : Nat) (s : State) : Host.Outcome State Fault Refusal :=
  .next (s.advance t).endpointReset

/-! ### Reads of BAR0 (no row of their own: reads change nothing) -/

/-- The code of a mailbox state. -/
def MbxState.code : MbxState → Nat
  | .idle => 0 | .pending => 1 | .executing => 2 | .response => 3

/-- A 4-bit register of mailbox flags. -/
def State.mbxBits (s : State) (f : Mailbox → Bool) : Nat :=
  (List.range 4).foldl (fun acc n => acc + (if f (s.host.mailbox n) then 2 ^ n else 0)) 0

/-- EVQ_STATUS. -/
def State.evqStatus (s : State) : Nat :=
  (if !s.evq.running then 0 else if s.host.credits then 1 else 2) + (if s.evq.consErr then 4 else 0) +
    256 * (if s.ringOpen then 0 else s.evq.store.length)

/-- A register of host DMA channel c. -/
def State.readDma (s : State) (c o : Nat) : Nat :=
  let ch := s.channel c
  if o = 0x00 then ch.src.toNat % 2 ^ 32 else if o = 0x04 then ch.src.toNat / 2 ^ 32
  else if o = 0x08 then ch.dst.toNat % 2 ^ 32 else if o = 0x0C then ch.dst.toNat / 2 ^ 32
  else if o = 0x10 then ch.count else if o = 0x14 then ch.ctrl.toNat
  else if o = 0x18 then ch.desc.toNat % 2 ^ 32 else if o = 0x1C then ch.desc.toNat / 2 ^ 32
  else if o = 0x20 then
    (match ch.state with | .idle => 0 | .running => 1 | .stopping => 2) + (if ch.tailCheck then 4 else 0) +
      16 * ch.endCause + 256 * ch.errCause + (if ch.half then 2 ^ 16 else 0) + (if ch.full then 2 ^ 17 else 0)
  else if o = 0x24 then ch.doneBytes
  else if o = 0x28 then ch.cur % 2 ^ 32 else if o = 0x2C then ch.cur / 2 ^ 32
  else if o = 0x30 then ch.lastDesc % 2 ^ 32 else if o = 0x34 then ch.lastDesc / 2 ^ 32
  else 0

/-- A 32-bit read of BAR0 (Tables HOST-2 to HOST-4, HOST-8, HOST-9, DMA-1). -/
def State.readReg (s : State) (off : Nat) : Nat :=
  if off = 0x0000 then Config.deviceId + 65536 * Config.stepping
  else if off = 0x0004 then s.boot.release
  else if off = 0x0008 then s.boot.role.toNat + 4 * s.boot.bootsrc.toNat + 16 * s.dawn.waddr.toNat
  else if off = 0x000C then s.boot.stage + 256 * s.boot.fault + 65536 * s.dawn.bootCause.toNat
  else if off = 0x0010 then
    (if s.boot.ready then 1 else 0) + 2 * (match s.time.state with | .invalid => 0 | .valid => 1 | .holdover => 2) +
      (if s.evq.fatal then 8 else 0)
  else if off = 0x0018 then Config.uid.toNat % 2 ^ 32 else if off = 0x001C then Config.uid.toNat / 2 ^ 32
  else if off = 0x0020 then s.host.scratch.toNat
  else if off = 0x0104 then s.host.intStatus.toNat
  else if off = 0x0200 then s.evq.base.toNat % 2 ^ 32 else if off = 0x0204 then s.evq.base.toNat / 2 ^ 32
  else if off = 0x0208 then s.evq.prodAddr.toNat % 2 ^ 32 else if off = 0x020C then s.evq.prodAddr.toNat / 2 ^ 32
  else if off = 0x0210 then s.evq.ctrl.toNat else if off = 0x0214 then s.evq.prod else if off = 0x0218 then s.evq.cons
  else if off = 0x021C then s.evqStatus else if off = 0x0220 then s.evq.dropped else if off = 0x0224 then s.evq.seqNext
  else if off = 0x0300 then s.mbxBits (fun b => b.state == .pending)
  else if off = 0x0304 then s.mbxBits (fun b => b.state == .response)
  else if off = 0x0308 then (List.range 4).foldl (fun acc n => acc + 4 ^ n * (s.host.mailbox n).state.code) 0
  else if off = 0x030C then s.mbxBits (fun b => b.overrun)
  else if 0x1000 ≤ off ∧ off < 0x1200 then
    let e := s.host.entry ((off - 0x1000) / 16)
    let k := off % 16 / 4
    (if k = 0 then e.addrLo else if k = 1 then e.addrHi else if k = 2 then e.data else e.control).toNat
  else if off = 0x1800 then s.host.msixPending.toNat
  else if 0x2000 ≤ off ∧ off < 0x2200 then s.readDma ((off - 0x2000) / 0x40) (off % 0x40)
  else if 0x8000 ≤ off ∧ off < 0x10000 then
    if off % 0x2000 < 0x1010 then u32 (s.host.mailbox ((off - 0x8000) / 0x2000)).area (off % 0x2000) else 0
  else 0

/-! ### BAR2 (R384, R385, Table HOST-6) -/

/-- The device address of a BAR2 offset in the regions that the host may write. -/
def bar2Write? (off : Nat) : Option Nat :=
  if off < 0x100_0000 then some (0x1000_0000 + off)
  else if 0x180_0000 ≤ off ∧ off < 0x1C0_0000 then some (0x1000_0000 + off)
  else none

/-- The offset lies in a read-only region: packet pool or non-volatile staging copy. -/
def bar2ReadOnly (off : Nat) : Bool :=
  (0x100_0000 ≤ off && off < 0x160_0000) || (0x200_0000 ≤ off && off < 0x240_0000)

/-- Write the enabled bytes through BAR2. -/
def State.bar2Bytes (s : State) (off : Nat) : List (Option Byte) → State
  | [] => s
  | none :: r => State.bar2Bytes s (off + 1) r
  | some v :: r =>
    let s := match bar2Write? off with
      | some a => { s with mem := memWrite unlisted s.mem a v }
      | none => s
    State.bar2Bytes s (off + 1) r

/-- BAR2_WRITE: device memory changes, or the write is discarded; a write to a read-only region is logged. Whole words
written lose their poison. -/
def execBar2Write (t off : Nat) (data : List (Option Byte)) (s : State) : Host.Outcome State Fault Refusal :=
  let s := s.advance t
  if !s.hostAccess then .next s
  else if bar2ReadOnly off then .next { s with host := { s.host with unsupported := s.host.unsupported + 1 } }
  else .next (s.bar2Bytes off data)

/-- A byte of the non-volatile window as the staging copy shows it: the banks, the host area; the protected region reads
zero; the layout of the device records is not given, so their bytes are free. -/
def State.nvByte (s : State) (o : Nat) : Byte :=
  if o < 0x10_0000 then s.nv.bankA.bytes.getD o erased
  else if o < 0x20_0000 then s.nv.bankB.bytes.getD (o - 0x10_0000) erased
  else if o < 0x30_0000 then BitVec.ofNat 8 (Config.freeNat o)
  else if o < 0x3C_0000 then memRead erased s.nv.hostArea o
  else 0#8

/-- A byte read through BAR2; none is a Completer Abort, for a poisoned word (R346). -/
def State.bar2Read (s : State) (off : Nat) : Option Byte :=
  if off < 0x160_0000 ∨ (0x180_0000 ≤ off ∧ off < 0x1C0_0000) then
    if (s.poisonedIn (0x1000_0000 + off) 1).isSome then none else some (memRead unlisted s.mem (0x1000_0000 + off))
  else if 0x200_0000 ≤ off ∧ off < 0x240_0000 then some (s.nvByte (off - 0x200_0000))
  else some 0#8

end Sys2Proof.Machine
end

