-- ==== Sys2Proof/Machine/Relay.lean ====
section
/-!
DEFINITION. Relaying commands over the cascade (R319, R406, R407).
-/

namespace Sys2Proof.Machine

open Sys2Proof

/-- The opcodes of the host operations on non-volatile memory (R405). -/
def hostOperation (op : Nat) : Bool := op == 0x0111 || op == 0x0120 || op == 0x0122

/-- A chain's sleep entry waits for the workers' reports (R476). -/
def State.collectingReports (s : State) : Bool :=
  match s.thermal.sleep with
  | .collecting _ _ _ _ _ => true
  | _ => false

/-- The manager's own part of a command is still in progress: a record write of its own, its host operation, its RFFE
transaction, or the wait of PWR_SLEEP for its workers. -/
def State.ownBusy (s : State) (r : Running) : Bool :=
  s.nv.queue.any (fun j => j.owner == some r.order) || (hostOperation r.cmd.opcode && s.nv.writer != .idle) ||
    s.xferPending (some r.order) || (r.cmd.opcode == 0x0D01 && s.collectingReports)

/-- Every target has answered, or the relay timeout has passed. -/
def State.relaySettled (s : State) (rel : Relay) : Bool :=
  rel.targets.all (fun p => (Tab.find? rel.answers p).isSome) || decide (rel.deadline ≤ s.now)

/-- The status a position counts with: TIMEOUT where it has not answered. -/
def Relay.statusOf (rel : Relay) (p : Nat) : Nat := (Tab.find? rel.answers p).getD Status.timeout

/-- Positions that did not answer. -/
def Relay.silent (rel : Relay) : List Nat := rel.targets.filter (fun p => (Tab.find? rel.answers p).isNone)

/-- Count RELAY_ERR of the positions whose relay ended TIMEOUT. -/
def State.countRelayErr (s : State) (ps : List Nat) : State :=
  { s with lcl := { s.lcl with
    positions := Tab.update s.lcl.positions ps {} (fun _ p => { p with relayErr := satAdd 16 p.relayErr 1 }) } }

/-- Keep the per-position status of a broadcast for LCL_LAST_RELAY. -/
def State.keepBroadcast (s : State) (r : Running) (own : Reply) (rel : Relay) : State :=
  let st := Tab.set (rel.targets.map (fun p => (p, rel.statusOf p))) s.lcl.position own.status
  { s with cmd := { s.cmd with
    lastRelay := Tab.set s.cmd.lastRelay r.mbx { opcode := r.cmd.opcode, tag := r.cmd.tag, status := st } } }

/-- The response of a settled relay (R319): a single target's response unchanged, or TIMEOUT; of a broadcast the manager's
own payload, OK when every device completed and PARTIAL otherwise. -/
def State.relayReply (own : Option Reply) (rel : Relay) : Reply :=
  match own with
  | some o =>
    if rel.targets.all (fun p => rel.statusOf p = Status.ok) then o else ⟨Status.partialDone, o.payload⟩
  | none => rel.reply.getD ⟨Status.timeout, []⟩

/-- Answer a relayed command once its relay has settled and the manager's own part is done. -/
def State.tryFinishRelay (s : State) (r : Running) (own : Option Reply) (rel : Relay) : State :=
  if s.relaySettled rel && !s.ownBusy r then
    let s := s.countRelayErr rel.silent
    let s := match own with | some o => s.keepBroadcast r o rel | none => s
    s.respond r (State.relayReply own rel)
  else { s with cmd := s.cmd.setPhase r.order (.relayed own rel) }

/-- The relayed command of a mailbox. -/
def State.findRelayed (s : State) (mbx : Nat) : Option (Running × Option Reply × Relay) :=
  s.cmd.running.findSome? (fun r =>
    match r.phase with
    | .relayed own rel => if r.mbx = mbx ∧ !r.cascade then some (r, own, rel) else none
    | _ => none)

/-- RELAY_RESPONSE: a worker's response arrives. -/
def execRelayResponse (t : Nat) (mbx : Fin 4) (tag pos status : Nat) (payload : List Byte) (s : State) :
    Host.Outcome State Fault Refusal :=
  let s := s.advance t
  match s.findRelayed mbx with
  | none => .next s
  | some (r, own, rel) =>
    if r.cmd.tag != tag || !rel.targets.contains pos || (Tab.find? rel.answers pos).isSome then .next s
    else
      let rel := { rel with answers := Tab.set rel.answers pos status, reply := some ⟨status, payload⟩ }
      .next (s.tryFinishRelay r own rel)

/-- RELAY_RESEND: 1 ms without response; the command goes once more to every position that has not answered. -/
def execRelayResend (mbx : Fin 4) (s : State) : Host.Outcome State Fault Refusal :=
  match s.findRelayed mbx with
  | none => .next s
  | some (r, own, rel) =>
    if rel.resent || rel.silent.isEmpty then .next s
    else
      let s := s.advance (rel.sentAt + Config.ms)
      let s := { s with lcl := { s.lcl with sent := s.lcl.sent ++ rel.silent.map (fun p => (⟨p, 0, relayBytes (r.cmd.toRelay own)⟩ : LclMessage)) } }
      .next { s with cmd := s.cmd.setPhase r.order (.relayed own { rel with resent := true }) }

/-- RELAY_TIMEOUT: the relay timeout has passed. -/
def execRelayTimeout (mbx : Fin 4) (s : State) : Host.Outcome State Fault Refusal :=
  match s.findRelayed mbx with
  | none => .next s
  | some (r, own, rel) => .next ((s.advance rel.deadline).tryFinishRelay r own rel)

/-- WORKER_COMMAND_RECEIVE: a command of mailbox `mbx` reaches this worker; `reached` is when the manager took it. A repeat
is not executed: a completed one is answered from the stored response (R319, R406). -/
def execWorkerCommandReceive (t : Nat) (mbx : Fin 4) (bytes : List Byte) (reached : Nat) (s : State) :
    Host.Outcome State Fault Refusal :=
  let s := s.advance t
  let c := cmdOf bytes
  if !s.isWorker || !s.boot.ready then .next s
  else
    match Tab.find? s.cmd.relayIn mbx.val with
    | some x =>
      if x.tag = c.tag then
        match x.stored with
        | none => .next s
        | some rep =>
          let b := responseHeader c rep.status rep.payload.length ++ rep.payload
          .next (s.toManager 1 b)
      else .next (accept s c)
    | none => .next (accept s c)
where
  /-- A new command of the channel: taken in order with the others. -/
  accept (s : State) (c : Cmd) : State :=
    let waits := decide (c.flags / 2 % 2 = 1) && !s.cmd.running.isEmpty
    let r : Running := { mbx := mbx, cascade := true, cmd := c, order := s.cmd.nextOrder, reached := reached,
                         phase := if waits then .barrier else .ready }
    let s := { s with cmd := { s.cmd with
      running := s.cmd.running ++ [r], nextOrder := s.cmd.nextOrder + 1, taken := wrapAdd 32 s.cmd.taken 1
      relayIn := Tab.set s.cmd.relayIn mbx ⟨c.tag, none⟩ } }
    if opcodeKnown c.opcode then s else s.respond r ⟨Status.badOpcode, []⟩

end Sys2Proof.Machine
end

