-- ==== Sys2Proof/Machine/Pwr.lean ====
section
/-!
DEFINITION. Power states, wake and thermal management (spec/19), with Dawn and the rails (R28 to R38).
-/

namespace Sys2Proof.Machine

open Sys2Proof

/-! ### Dawn's time (R465) -/

/-- Dawn's rate in ppm of nominal: within 3 %. -/
def dawnRate : Nat := 970000 + Config.dawnOffset % 60001

/-- Ticks of 1/1,024 s that Dawn counts in a span of local time. -/
def dawnTicks (d : Nat) : Nat := d * 1024 * dawnRate / (Config.sec * 1000000)

/-- The span in which Dawn counts `n` ticks. -/
def dawnSpan (n : Nat) : Nat := (n * Config.sec * 1000000 + 1024 * dawnRate - 1) / (1024 * dawnRate)

/-- DAWN_TICKS. -/
def State.dawnCount (s : State) : Nat := dawnTicks (s.now - s.dawn.aonAt)

/-- The minimum off-time (R37). -/
def offTime : Nat := 2 * Config.ms

/-! ### PWR_EN (R30 to R37) -/

/-- t1 of Table BALL-5: PWR_EN rises 10 to 50 us after its cause. -/
def State.riseDelay (s : State) : Nat × State :=
  let d := s.draw
  (10 * Config.us + d.1 % (40 * Config.us + 1), d.2)

/-- PWR_EN is asserted at `t`: power state BOOT. -/
def State.assertPwrEn (s : State) (t : Nat) : State :=
  { s with dawn := { s.dawn with
    pwrEn := true, pwrEnRose := t, restart := none, power := .boot, latched := none, dropAt := none } }

/-- A boot with this cause is decided: PWR_EN is asserted, or waits for the end of the minimum off-time. -/
def State.decideBoot (s : State) (cause : Nat) : State :=
  let s := { s with dawn := { s.dawn with bootCause := BitVec.ofNat 8 cause } }
  let fell := s.dawn.dropAt.getD s.dawn.pwrEnFell
  let r := s.riseDelay
  let up := r.2.now + r.1
  if fell + offTime ≤ s.now then r.2.assertPwrEn up
  else { r.2 with dawn := { r.2.dawn with restart := some (Nat.max up (fell + offTime)) } }

/-- PWR_EN falls: every domain but Dawn loses its supply, and the board pulls RESET_L low and takes the rails down (R36). `granted`
says that the fall ends a sleep entry. -/
def State.powerDown (s : State) (granted : Bool) : State :=
  let r := s.domainReset
  { r with
    pins := { r.pins with pwrGood := false, resetL := false }
    dawn := { s.dawn with
      pwrEn := false, pwrEnFell := s.now, power := .sleep, dropAt := none, entryWake := none, shutdownAt := none
      grantAt := if granted then s.dawn.grantAt else none
      slept := granted && s.dawn.slept } }

/-- VDD_AON_POWER_ON (R28, R30, R466): the power-on reset ends. Dawn starts anew with I2C and WAKE_L armed, and the boot is
decided. -/
def execVddAonPowerOn (t : Nat) (waddr : BitVec 2) (s : State) : Host.Outcome State Fault Refusal :=
  let s := s.advance t
  if s.dawn.aon then .next s
  else
    let r := s.domainReset
    let s := { r with dawn := { ({} : Dawn) with
      aon := true, aonAt := s.now, waddr := waddr, power := .boot, wakeMask := 5#3 } }
    let d := s.riseDelay
    .next (d.2.assertPwrEn (s.now + d.1))

/-- VDD_AON_REMOVED: OFF; nothing that Dawn holds survives. -/
def execVddAonRemoved (t : Nat) (s : State) : Host.Outcome State Fault Refusal :=
  let r := (s.advance t).domainReset
  .next { r with dawn := {}, pins := { r.pins with pwrGood := false, resetL := false } }

/-- R32: no PWR_GOOD 100 ms after PWR_EN rose. -/
def State.goodTimeout (s : State) : State :=
  let s := s.advance (s.dawn.pwrEnRose + 100 * Config.ms)
  ({ s with dawn := { s.dawn with prior := s.dawn.prior ||| 1#4 } }).powerDown false

/-- PWR_GOOD_RISE (R31, R33): at the limit itself either side may win, so the command that comes first does. -/
def execPwrGoodRise (t : Nat) (s0 : State) : Host.Outcome State Fault Refusal :=
  let s := s0.advance t
  if !s.dawn.pwrEn then .next s
  else if s.pins.pwrGood then .next s
  else if s.dawn.pwrEnRose + 100 * Config.ms < s.now then .next (s0.goodTimeout.advance t)
  else .next { s with pins := { s.pins with pwrGood := true } }

/-- PWR_GOOD_TIMEOUT (R32). -/
def execPwrGoodTimeout (s : State) : Host.Outcome State Fault Refusal :=
  if s.dawn.pwrEn && !s.pins.pwrGood then .next s.goodTimeout else .next s

/-- PWR_GOOD_FALL (R35): with PWR_EN high, a loss; a second within 1 s is held in SLEEP. -/
def execPwrGoodFall (t : Nat) (s : State) : Host.Outcome State Fault Refusal :=
  let s := s.advance t
  if !s.pins.pwrGood then .next s
  else if !s.dawn.pwrEn then .next { s with pins := { s.pins with pwrGood := false } }
  else
    let held := match s.dawn.lossAt with | some x => decide (s.now ≤ x + Config.sec) | none => false
    let s := s.powerDown false
    let s := { s with dawn := { s.dawn with lossAt := some s.now } }
    if held then .next { s with dawn := { s.dawn with prior := s.dawn.prior ||| 8#4 } }
    else .next { s with dawn := { s.dawn with bootCause := 0x07#8, restart := some (s.now + offTime) } }

/-- PWR_EN_RESTART (R37): the minimum off-time is over and a boot has been decided. -/
def execPwrEnRestart (s : State) : Host.Outcome State Fault Refusal :=
  match s.dawn.restart with
  | none => .next s
  | some t =>
    if s.dawn.dropAt.isSome then .next s
    else
      let s := s.advance t
      .next (s.assertPwrEn s.now)

/-! ### RESET_L (R26, R34) -/

/-- RESET_L_ASSERT: with PWR_GOOD high, every domain except Dawn is reset, and a boot with this cause clears the history of R490. -/
def execResetLAssert (t : Nat) (s : State) : Host.Outcome State Fault Refusal :=
  let s := s.advance t
  if !s.pins.resetL then .next s
  else
    let s := { s with pins := { s.pins with resetL := false } }
    if !s.pins.pwrGood then .next s
    else
      let r := s.domainReset
      .next { r with dawn := { s.dawn with
        power := .boot, bootCause := 0x03#8, faultBoots := [], entryWake := none } }

/-- RESET_L_RELEASE: the straps are sampled and the boot ROM starts. -/
def execResetLRelease (t : Nat) (role bootsrc : BitVec 2) (s : State) : Host.Outcome State Fault Refusal :=
  let s := s.advance t
  if s.pins.resetL then .next s
  else
    let s := { s with pins := { s.pins with resetL := true } }
    if !s.pins.pwrGood then .next s
    else .next ({ s with boot := { s.boot with role := role, bootsrc := bootsrc } }).startRom

/-! ### Wake events (R464 to R471, R473, R474) -/

/-- The bit of a wake source in WAKE_MASK. -/
def WakeSource.bit : WakeSource → BitVec 3
  | .i2c => 1#3 | .timer => 2#3 | .wakeL => 4#3

/-- The code of a wake source (Table PWR-2, bits [7:4]). -/
def WakeSource.code : WakeSource → Nat
  | .i2c => 1 | .timer => 2 | .wakeL => 3

/-- The device is asleep, or past the point of no return. -/
def Dawn.asleep (d : Dawn) : Bool := d.power == .sleep || d.dropAt.isSome

/-- The boot cause of a wake event now: REPLAYED from the grant to the end of the minimum off-time, else WAKE. -/
def State.wakeCause (s : State) (src : WakeSource) : Nat :=
  let replay := s.dawn.grantAt.isSome && (s.dawn.dropAt.isSome || decide (s.now < s.dawn.pwrEnFell + offTime))
  (if replay then 2 else 1) + 16 * src.code

/-- EV_PWR_WAKE_PENDING. -/
def State.wakeEvent (s : State) (src : WakeSource) : State :=
  s.raiseEvent 0x0D03 .notice (le 1 src.code ++ zeros 15)

/-- A wake event in SLEEP or after the grant: it fixes SLEPT_TICKS if it is the first, and a boot is decided, at the end of the span
of R480 where one runs. -/
def State.wakeAsleep (s : State) (src : WakeSource) : State :=
  let s := if s.dawn.slept then s
    else { s with dawn := { s.dawn with
      slept := true, sleptTicks := dawnTicks (s.now - s.dawn.grantAt.getD s.dawn.pwrEnFell) } }
  if s.dawn.restart.isSome then s
  else match s.dawn.holdoffEnd with
    | some _ => { s with dawn := { s.dawn with latched := some (s.dawn.latched.getD src) } }
    | none => s.decideBoot (s.wakeCause src)

/-- A wake event in BOOT, STANDBY or ACTIVE (R470, R473). -/
def State.wakeAwake (s : State) (src : WakeSource) : State :=
  let s := if s.thermal.sleep = .awake then s
    else { s with dawn := { s.dawn with entryWake := some (s.dawn.entryWake.getD src) } }
  if s.dawn.wakePending &&& src.bit ≠ 0#3 then s
  else
    let s := { s with dawn := { s.dawn with wakePending := s.dawn.wakePending ||| src.bit } }
    if s.boot.ready then s.wakeEvent src
    else { s with dawn := { s.dawn with announce := s.dawn.announce ||| src.bit } }

/-- A source that is armed has a wake event. -/
def State.wake (s : State) (src : WakeSource) : State :=
  if !s.dawn.aon || s.dawn.wakeMask &&& src.bit = 0#3 then s
  else
    let s := { s with dawn := { s.dawn with sourcesSeen := s.dawn.sourcesSeen ||| src.bit } }
    if s.dawn.asleep then s.wakeAsleep src
    else if s.now < s.dawn.pwrEnRose then s
    else s.wakeAwake src

/-- I2C_ADDRESS_MATCH (R467): the matcher acknowledges its address in every state but OFF. -/
def execI2cAddressMatch (t : Nat) (s : State) : Host.Outcome State Fault Refusal := .next ((s.advance t).wake .i2c)

/-- WAKE_L_LOW (R468): WAKE_L has been low for 2 us; `low` false: it has gone high again. -/
def execWakeLLow (t : Nat) (low : Bool) (s : State) : Host.Outcome State Fault Refusal :=
  let s := s.advance t
  let s := { s with pins := { s.pins with wakeLow := low } }
  if low then .next (s.wake .wakeL) else .next s

/-- SLEEP_TIMER_EXPIRY (R469). -/
def execSleepTimerExpiry (s : State) : Host.Outcome State Fault Refusal :=
  if s.dawn.wakeMask &&& 2#3 = 0#3 ∨ s.dawn.timerTicks = 0 ∨ s.dawn.asleep = false then .next s
  else .next ((s.advance (s.dawn.grantAt.getD s.dawn.pwrEnFell + dawnSpan s.dawn.timerTicks)).wake .timer)

/-! ### Refusals (R475, Table PWR-3) -/

/-- Count a refusal or an abort and log it. -/
def State.countRefusal (s : State) (code pos : Nat) : State :=
  { s with dawn := { s.dawn with
    refusals := satAdd 16 s.dawn.refusals 1
    log := (({ code := code, position := pos, ticks := s.dawnCount } : RefusalEntry) :: s.dawn.log).take 8 } }

/-- A queued launch time lies within `guard` of now, or a burst is in progress. -/
def State.launchGuard (s : State) (guard : Nat) : Bool :=
  s.burstInProgress || s.tx.queue.any (fun b => decide (s.launchAt b ≤ s.now + guard))

/-- A manager is to sleep while a worker of its chain is joined: it has not reported itself in sleep entry (Table PWR-3). -/
def State.workerAwake (s : State) (r : Running) : Bool :=
  s.role == .manager && r.cmd.target != 0xFFFF && !s.joinedWorkers.isEmpty

/-- The first refuser that applies, DAWN_WAKE aside, and WORKER_AWAKE for a chain; none when none does. -/
def State.refuser (s : State) (r : Running) (guard : Nat) : Option Nat :=
  firstFailure
    [((List.range 4).all (fun n => (n == r.mbx && !r.cascade) || (s.host.mailbox n).state == .idle), 1),
     (!s.launchGuard guard, 2),
     (s.dma.all (fun p => p.2.state == .idle), 3),
     (s.nv.writer == .idle && s.nv.queue.isEmpty, 4),
     (!s.workerAwake r, 5),
     (s.dawn.wakePending == 0#3 && !(s.dawn.wakeMask.getLsbD 2 && s.pins.wakeLow), 6),
     (s.thermal.sensorOk, 7)]

/-! ### Entering SLEEP (R472, R473, R476) -/

/-- The base state becomes STANDBY: now, or at t5 of the burst that the device is in TX for (R95). -/
def State.forceStandby (s : State) : State :=
  let change : BaseChange := { base := .standby, linger := s.radio.linger, due := .atT5, scheduled := false }
  if s.inTxForBurst then { s with radio := { s.radio with pending := some change } } else s.baseTakesEffect change

/-- Steps 1 and 2 of R472: time INVALID, the radio to STANDBY, the fronthaul stopped, the duty history saved. Answers the number of
requests ended too. -/
def State.prepareSleep (s : State) : Nat × State :=
  let ended := (s.tx.queue.filter Launch.waiting).length
  let s := s.loseTime.forceStandby
  let s := (List.range 4).foldl (fun s p => s.dropLink p 3) s
  (ended, s.nvOwnWrite .dutyHistory [])

/-- Dawn arms its sources for the sleep to come (R466). -/
def State.armWake (s : State) (mask : BitVec 3) (ticks : Nat) : State :=
  { s with dawn := { s.dawn with wakeMask := mask, timerTicks := if mask.getLsbD 1 then ticks else s.dawn.timerTicks } }

/-- Sleep entry starts: no wake event has come in it. -/
def State.beginEntry (s : State) (x : SleepPhase) : State :=
  { s with thermal := { s.thermal with sleep := x }, dawn := { s.dawn with entryWake := none } }

/-- The payload of a PWR_SLEEP response. -/
def sleepPayload (code pos : Nat) : List Byte := le 1 code ++ le 1 pos ++ zeros 2

/-- Entry is left (R473, R476): counted, and the device is back in STANDBY. -/
def State.leaveEntry (s : State) (code src : Nat) : State :=
  let s := s.countRefusal code s.position
  let s := { s with thermal := { s.thermal with sleep := .awake }, dawn := { s.dawn with entryWake := none } }
  s.raiseEvent 0x0D02 .warn (le 1 code ++ le 1 src ++ zeros 14)

def sleepBody (r : Running) (s : State) : CmdEffect :=
  let p := r.cmd.payload
  let mask := BitVec.ofNat 3 (u8 p 0)
  let ticks := u32 p 4
  match firstFailure
    [(decide (u16 p 2 ≤ 60000) && (!mask.getLsbD 1 || decide (1 ≤ ticks)), Status.badParam),
     (s.thermal.sleep == .awake && !s.dawn.asleep, Status.busy)] with
  | some st => .status s st
  | none =>
    match s.refuser r (u16 p 2 * Config.ms) with
    | some c =>
      { state := s.countRefusal c s.position, reply := ⟨Status.sleepRefused, sleepPayload c s.position⟩ }
    | none =>
      let ws := s.joinedWorkers
      if s.role = .manager ∧ r.cmd.target = 0xFFFF ∧ ws ≠ [] then
        .ok (s.beginEntry (.collecting mask ticks (u16 p 2) ws s.now)) (sleepPayload 0 0xFF)
      else
        let e := (s.armWake mask ticks).prepareSleep
        if r.cascade ∧ r.cmd.target = 0xFFFF then
          .ok ((e.2.toManager 5 (le 1 17)).beginEntry (.prepared mask ticks e.1 s.now)) (sleepPayload 0 0xFF)
        else .ok (e.2.beginEntry (.preparing mask ticks e.1)) (sleepPayload 0 0xFF)

/-- The envelope of PWR_SLEEP. -/
def specPwrSleep : CmdSpec := { opcode := 0x0D01, minLen := fun _ => 8 }

/-- PWR_SLEEP. -/
def execPwrSleep (s : State) : Host.Outcome State Fault Refusal := runCommand specPwrSleep sleepBody s

/-- SLEEP_REQUEST: steps 3 and 4 of R472, once the radio rests in STANDBY and the duty history is saved. EV_PWR_SLEEP is written;
Dawn refuses for a wake event that came before (R473), else it grants. -/
def execSleepRequest (t : Nat) (s : State) : Host.Outcome State Fault Refusal :=
  let s := s.advance t
  match s.thermal.sleep with
  | .preparing mask ticks ended =>
    if s.radio.state ≠ .standby ∨ s.radio.moving.isSome ∨ s.dawn.dropAt.isSome ∨ s.nv.queue ≠ [] then .next s
    else
      let s := (s.raiseEvent 0x0D01 .notice
        (le 1 mask.toNat ++ zeros 1 ++ leSat 2 ended ++ le 4 (if mask.getLsbD 1 then ticks else 0) ++ zeros 8)).flushEvents
      match s.dawn.entryWake with
      | some src => .next (s.leaveEntry 8 src.code)
      | none => .next { s with dawn := { s.dawn with
          grantAt := some s.now, slept := false, sleptTicks := 0, dropAt := some (s.now + 10 * Config.us) } }
  | _ => .next s

/-- SLEEP_PWR_EN_DROP: step 5 of R472. -/
def execSleepPwrEnDrop (s : State) : Host.Outcome State Fault Refusal :=
  match s.dawn.dropAt with
  | none => .next s
  | some t => .next ((s.advance t).powerDown true)

/-! ### A chain goes to sleep (R476) -/

/-- Answer the manager's PWR_SLEEP that its workers have settled, with this reply of its own. -/
def State.answerChainSleep (s : State) (own : Reply) : State :=
  match s.cmd.running.find? (fun r => r.cmd.opcode == 0x0D01 && !r.cascade &&
      (match r.phase with | .relayed (some _) _ => true | _ => false)) with
  | none => s
  | some r => match r.phase with
    | .relayed _ rel => s.tryFinishRelay r (some own) rel
    | _ => s

/-- Every joined worker has reported: GO to each, and the manager carries out R472 itself. -/
def State.chainGo (s : State) (mask : BitVec 3) (ticks : Nat) : State :=
  let s := (s.armWake mask ticks).messages s.joinedWorkers 5 (le 1 18)
  let s := ({ s with thermal := { s.thermal with sleep := .preparing mask ticks 0 } }).answerChainSleep
    ⟨Status.ok, sleepPayload 0 0xFF⟩
  let e := s.prepareSleep
  { e.2 with thermal := { e.2.thermal with sleep := .preparing mask ticks e.1 } }

/-- The joined workers that have not reported. -/
def State.unreported (s : State) (ws : List Nat) : List Nat := ws.filter (fun p => (s.lcl.pos p).state == .joined)

/-- SLEEP_READY_REPORT: a prepared worker's report reaches the manager. -/
def execSleepReadyReport (t : Nat) (pos : Fin 16) (s : State) : Host.Outcome State Fault Refusal :=
  let s := s.advance t
  match s.thermal.sleep with
  | .collecting mask ticks guard ws since =>
    let ws := s.unreported (ws.filter (fun p => p != pos.val))
    if ws.isEmpty then .next (s.chainGo mask ticks)
    else .next { s with thermal := { s.thermal with sleep := .collecting mask ticks guard ws since } }
  | _ => .next s

/-- SLEEP_REPORT_TIMEOUT: 100 ms without every report: WORKER_AWAKE refuses, ABANDON goes to every worker, and the command ends
PARTIAL. -/
def execSleepReportTimeout (s : State) : Host.Outcome State Fault Refusal :=
  match s.thermal.sleep with
  | .collecting mask ticks _ ws since =>
    let s := s.advance (since + 100 * Config.ms)
    let ws := s.unreported ws
    if ws.isEmpty then .next (s.chainGo mask ticks)
    else
      let pos := ws.foldl Nat.max 0
      let s := (s.countRefusal 5 pos).messages s.joinedWorkers 5 (le 1 19)
      let s := { s with thermal := { s.thermal with sleep := .awake }, dawn := { s.dawn with entryWake := none } }
      .next (s.answerChainSleep ⟨Status.partialDone, sleepPayload 5 pos⟩)
  | _ => .next s

/-- SLEEP_GO: a prepared worker goes on with step 3 of R472. -/
def execSleepGo (t : Nat) (s : State) : Host.Outcome State Fault Refusal :=
  let s := s.advance t
  match s.thermal.sleep with
  | .prepared mask ticks ended _ => .next { s with thermal := { s.thermal with sleep := .preparing mask ticks ended } }
  | _ => .next s

/-- SLEEP_ABANDON: a prepared worker leaves entry. -/
def execSleepAbandon (t : Nat) (s : State) : Host.Outcome State Fault Refusal :=
  let s := s.advance t
  match s.thermal.sleep with
  | .prepared _ _ _ _ => .next (s.leaveEntry 5 0)
  | _ => .next s

/-- WORKER_SLEEP_TIMEOUT: 200 ms after its report without GO or ABANDON. -/
def execWorkerSleepTimeout (s : State) : Host.Outcome State Fault Refusal :=
  match s.thermal.sleep with
  | .prepared _ _ _ since => .next ((s.advance (since + 200 * Config.ms)).leaveEntry 5 0)
  | _ => .next s

/-! ### Temperature (R477 to R482) -/

/-- The rate of rise in 0.01 degree C per second; zero before 1,000 earlier samples exist. -/
def Thermal.rate (h : Thermal) : Int :=
  match h.history[999]? with
  | some v => h.tj - v
  | none => 0

/-- A value held to the range of a signed field of `w` bits. -/
def clampS (w : Nat) (x : Int) : Int :=
  if x < -(2 ^ (w - 1)) then -(2 ^ (w - 1)) else if 2 ^ (w - 1) - 1 < x then 2 ^ (w - 1) - 1 else x

/-- EV_PWR_THERMAL for the condition at a bit of CONDITIONS. -/
def State.thermalEvent (s : State) (bit : Nat) (on : Bool) : State :=
  s.raiseEvent 0x0D04 (if bit = 2 ∨ bit = 4 then .error else .warn)
    (le 1 bit ++ b8 on ++ leS 2 s.thermal.tj ++ leS 2 (clampS 16 s.thermal.rate) ++ zeros 2 ++ s.ts64Bytes s.now)

/-- One condition: `set` where it is clear, `clear` where it is set (Table PWR-4). -/
def condNext (on set clear : Bool) : Bool := if on then !clear else set

/-- The five conditions of a sample, in the order of CONDITIONS. -/
def Thermal.conditions (h : Thermal) : List Bool := [h.warn, h.throttle, h.trip, h.rateWarn, h.rateTrip]

/-- A good reading enters the history, and the conditions follow it (R478). -/
def Thermal.sample (h : Thermal) (tj : Int) (t : Nat) : Thermal :=
  let h := { h with history := (h.tj :: h.history).take 1000, tj := tj, sampledAt := t,
                    tjMax := if h.tjMax < tj then tj else h.tjMax }
  let rate := h.rate
  let h := { h with
    belowTrip := if tj < 10800 then h.belowTrip + 1 else 0
    overTwo := if 200 < rate then h.overTwo + 1 else 0
    overSix := if 600 < rate then h.overSix + 1 else 0
    underTwo := if rate ≤ 200 then h.underTwo + 1 else 0 }
  let trip := condNext h.trip (decide (11200 ≤ tj)) (decide (1000 ≤ h.belowTrip))
  { h with
    warn := condNext h.warn (decide (10000 ≤ tj)) (decide (tj < 9800))
    throttle := condNext h.throttle (decide (10600 ≤ tj)) (decide (tj < 10300))
    trip := trip
    rateWarn := condNext h.rateWarn (decide (4000 ≤ h.overTwo)) (decide (4000 ≤ h.underTwo))
    rateTrip := condNext h.rateTrip (decide (1000 ≤ h.overSix)) (decide (4000 ≤ h.underTwo) && !trip) }

/-- A reading is plausible (R481): excitation check good, within -60 to 150 degree C, at most 10 degree C from the one before. -/
def Thermal.plausible (h : Thermal) (tj : Int) (ok : Bool) : Bool :=
  ok && inRangeZ (-6000) tj 15000 && decide ((tj - h.tj).natAbs ≤ 1000)

/-- SHUTDOWN (R480 step 1): the hardware signal to the sample plane and to Dawn. -/
def State.shutdown (s : State) (fault : Bool) : State :=
  let s := s.hardAbort
  { s with
    thermal := { s.thermal with sensorOk := !fault }
    dawn := { s.dawn with
      shutdownAt := some s.now, prior := if fault then s.dawn.prior ||| 4#4 else s.dawn.prior } }

/-- THERMAL_SAMPLE: 1 ms after the sample before, in every state from BOOT to ACTIVE. -/
def execThermalSample (tj : Int) (ok : Bool) (s : State) : Host.Outcome State Fault Refusal :=
  if s.boot.stage ≤ 1 ∨ s.dawn.shutdownAt.isSome then .next s
  else
    let s := s.advance (s.thermal.sampledAt + Config.ms)
    let good := s.thermal.plausible tj ok
    if !good || decide (12000 ≤ tj) then .next (({ s with thermal := { s.thermal with sampledAt := s.now } }).shutdown (!good))
    else
      let was := s.thermal
      let h := was.sample tj s.now
      let tripped := (h.trip || h.rateTrip) && !(was.trip || was.rateTrip)
      let s := { s with thermal := { h with
        tripDue := h.tripDue || tripped, trips := if tripped then satAdd 16 h.trips 1 else h.trips } }
      let s := (List.range 5).foldl (fun s k =>
        let on := h.conditions.getD k false
        if on != was.conditions.getD k false then s.thermalEvent k on else s) s
      -- a service-record write that the temperature put off is made at the first moment that it allows (R511)
      if s.spare.recordDue && s.nvTempOk then
        .next (({ s with spare := { s.spare with recordDue := false } }).nvEnqueue { record := .serviceRecord })
      else .next s

/-- TRANSMIT_TRIP (R479): the trip reaches the sample plane. -/
def execTransmitTrip (t : Nat) (s : State) : Host.Outcome State Fault Refusal :=
  let s := s.advance t
  if !s.thermal.tripDue then .next s
  else
    let s := { s with thermal := { s.thermal with tripDue := false } }
    .next ((s.abortBursts 8 0x70).safeDacs.sendAbort 9)

/-- SHUTDOWN_POWER_OFF: steps 2 to 4 of R480. -/
def execShutdownPowerOff (s : State) : Host.Outcome State Fault Refusal :=
  match s.dawn.shutdownAt with
  | none => .next s
  | some t0 =>
    let s := (s.advance (t0 + 10 * Config.us)).powerDown false
    .next { s with dawn := { s.dawn with
      prior := s.dawn.prior ||| 2#4, holdoffEnd := some (s.now + dawnSpan 61440), restart := none } }

/-- THERMAL_HOLDOFF_END: the span without wakes ends; a wake event latched in it boots the device. -/
def execThermalHoldoffEnd (s : State) : Host.Outcome State Fault Refusal :=
  match s.dawn.holdoffEnd with
  | none => .next s
  | some e =>
    let s := s.advance e
    let s := { s with dawn := { s.dawn with holdoffEnd := none } }
    match s.dawn.latched with
    | some src => .next (if s.dawn.power = .sleep then s.decideBoot (1 + 16 * src.code) else s)
    | none => .next s

/-! ### VDD_CORE (R485) -/

/-- The lowest router reading. -/
def State.lowestSpeed (s : State) : Nat :=
  match s.fab.monitors with
  | [] => 0
  | p :: r => r.foldl (fun m q => Nat.min m q.2) p.2

/-- The recommended VDD_CORE in mV. -/
def vcoreFor (reading : Nat) : Nat :=
  (((List.range 16).map (fun k => 700 + 10 * k)).find? (fun mv => decide (740 ≤ Config.projectedSpeed reading 110 mv))).getD 850

/-- VCORE_RECOMMEND. -/
def execVcoreRecommend (t : Nat) (s : State) : Host.Outcome State Fault Refusal :=
  let s := s.advance t
  if !s.boot.ready then .next s
  else
    let mv := vcoreFor s.lowestSpeed
    if mv = s.thermal.vcoreMv then .next s
    else .next (({ s with thermal := { s.thermal with vcoreMv := mv } }).raiseEvent 0x0D05 .info
      (le 2 mv ++ leSat 2 s.lowestSpeed ++ zeros 12))

/-! ### PWR_GET_STATUS and PWR_GET_WAKE (R465, R486) -/

/-- Response of PWR_GET_STATUS. -/
def State.pwrStatus (s : State) : List Byte :=
  let h := s.thermal
  le 1 (if s.radio.state = .standby then 3 else 4) ++
    le 1 ((List.range 5).foldl (fun n k => n + (if h.conditions.getD k false then 2 ^ k else 0)) 0) ++
    leS 2 h.tj ++ leS 2 (clampS 16 h.rate) ++ leS 2 h.tjMax ++ le 2 h.vcoreMv ++ le 1 h.band ++ le 1 s.dawn.wakePending.toNat ++
    le 2 h.trips ++ zeros 2

def pwrStatusBody (_ : Running) (s : State) : CmdEffect := .ok s s.pwrStatus

/-- The envelope of PWR_GET_STATUS. -/
def specPwrGetStatus : CmdSpec := { opcode := 0x0D02 }

/-- PWR_GET_STATUS. -/
def execPwrGetStatus (s : State) : Host.Outcome State Fault Refusal := runCommand specPwrGetStatus pwrStatusBody s

/-- One entry of the refusal log; zeros where empty. -/
def refusalBytes (l : List RefusalEntry) (i : Nat) : List Byte :=
  match l[i]? with
  | some e => le 1 e.code ++ le 1 e.position ++ zeros 2 ++ le 4 e.ticks
  | none => zeros 8

/-- Response of PWR_GET_WAKE. -/
def State.wakeRecord (s : State) : List Byte :=
  let d := s.dawn
  le 1 d.bootCause.toNat ++ le 1 d.sourcesSeen.toNat ++ le 1 d.prior.toNat ++ le 1 d.wakeMask.toNat ++ le 4 d.sleptTicks ++
    le 4 s.dawnCount ++ le 2 d.refusals ++ zeros 2 ++ (List.range 8).flatMap (refusalBytes d.log)

def getWakeBody (r : Running) (s : State) : CmdEffect :=
  let out := s.wakeRecord
  if u8 r.cmd.payload 0 % 2 = 1 then
    .ok { s with dawn := { s.dawn with prior := 0#4, sourcesSeen := 0#3, wakePending := 0#3 } } out
  else .ok s out

/-- The envelope of PWR_GET_WAKE. -/
def specPwrGetWake : CmdSpec := { opcode := 0x0D03, minLen := fun _ => 4 }

/-- PWR_GET_WAKE. -/
def execPwrGetWake (s : State) : Host.Outcome State Fault Refusal := runCommand specPwrGetWake getWakeBody s

end Sys2Proof.Machine
end

