-- ==== Sys2Proof/Machine/Spare.lean ====
section
/-!
DEFINITION. Spares, retirement and service life (spec/21).
-/

namespace Sys2Proof.Machine

open Sys2Proof

/-! ### Inventory (R502, R504) -/

/-- Spares of a kind that this model counts as units: kinds 4 to 8 (Table SPARE-1). -/
def spareTotal (kind : Nat) : Nat := [0, 0, 0, 0, 1, 2, 4, 2, 4].getD kind 0

/-- Index of the first spare of a kind. -/
def spareBase (kind : Nat) : Nat := [0, 0, 0, 0, 2, 8, 64, 16, 32].getD kind 0

/-- Spares of a kind in service. -/
def State.sparesUsed (s : State) (kind : Nat) : Nat := Tab.get s.spare.used kind 0

/-- A spare of the kind is neither in service nor promised to a failed unit. -/
def State.spareFree (s : State) (kind : Nat) : Bool :=
  let promised := (s.spare.waiting.filter (fun w => w.1 == kind)).length +
    (match s.spare.current with | some c => if c.kind = kind then 1 else 0 | none => 0)
  decide (s.sparesUsed kind + promised < spareTotal kind)

/-- The path that a slice serves. -/
def State.slicePath (s : State) (u : Nat) : Option Nat := (List.range 64).find? (fun p => Tab.get s.beam.slices p p == u)

/-- The profile that a correlator bank serves. -/
def State.bankProfile (s : State) (b : Nat) : Option Nat :=
  (List.find? (fun (x : Nat × Nat) => x.2 == b) s.spare.bankOf).map (fun x => x.1)

/-- EV_SPARE_FAILED. -/
def State.failedEvent (s : State) (kind unit action : Nat) : State :=
  s.raiseEvent 0x0E01 .warn (le 1 kind ++ le 1 unit ++ le 1 action ++ zeros 5 ++ s.ts64Bytes s.now)

/-- Count a unit out of service with no spare. -/
def State.countHeldOut (s : State) (kind : Nat) : State :=
  { s with spare := { s.spare with heldOut := Tab.set s.spare.heldOut kind (Tab.get s.spare.heldOut kind 0 + 1) } }

/-- A unit of class processor (2) or engine (3) is held out. -/
def State.holdOut (s : State) (o : Nat) : State := s.setUnit o { s.fabUnit o with heldOut := true }

/-- The active synthesiser fails with a second in service: the second is tuned to the active LO, by entry where one exists, and the
device switches to it (R505). -/
def State.switchToSecond (s : State) (k2 : Nat) : State :=
  match (s.radio.synth s.radio.active).setting with
  | none => { s with radio := { s.radio with active := k2, second := none } }
  | some x =>
    let s := s.acquireOrWait k2 { x with byEntry := none, forceCold := false } s.now
    { s with radio := { s.radio with switch := some { target := k2, instant := s.now, due := s.now, deadline := s.now + Config.ms,
                                                      since := s.now, scheduled := false } } }

/-- What a failed synthesiser does to the device (R505, R506). -/
def State.synFails (s : State) (k : Nat) : State :=
  let s := { s with spare := { s.spare with synFailed := k :: s.spare.synFailed } }
  if k = s.radio.active then
    match s.radio.second with
    | some k2 => s.switchToSecond k2
    | none => s.forceStandby
  else if s.radio.second = some k then { s with radio := { s.radio with second := none } }
  else s

/-- How the device works on until a window (R505). -/
def State.outOfService (s : State) (kind unit : Nat) : State :=
  if kind = 4 then s.synFails unit
  else if kind = 5 then
    let s := { s with spare := { s.spare with banks := s.spare.banks.filter (fun b => b != unit) } }
    match s.bankProfile unit with | some q => s.dropHeld q | none => s
  else if kind = 6 then
    match s.slicePath unit with
    | some p =>
      let m := bitAt 64 p
      (({ s with spare := { s.spare with sliceFailed := s.spare.sliceFailed ||| m } }).zeroSlices m).renormLater m
    | none => s
  else if kind = 7 then s.holdOut (ownerId 2 unit)
  else if kind = 8 then s.holdOut (ownerId 3 unit)
  else s

/-- What it costs that no spare of the kind remains (R506), beyond what `outOfService` does. -/
def State.noSpareLeft (s : State) (kind unit : Nat) : State :=
  let s := s.countHeldOut kind
  if kind = 5 then
    match s.bankProfile unit with
    | some q => s.putProfile q { s.hzn.profile q with enable := false } s.now
    | none => s
  else if kind = 6 then
    match s.slicePath unit with
    | some p =>
      let m := bitAt 64 p
      ({ s with spare := { s.spare with
        sliceLost := s.spare.sliceLost ||| m, sliceFailed := s.spare.sliceFailed &&& ~~~m } }).retirePaths m 3 2
    | none => s
  else s

/-- The processor's leases move to the spare (R509). -/
def State.moveLeases (s : State) (a b : Nat) : State :=
  { s with fab := { s.fab with leases := s.fab.leases.map (fun l => if l.owner = a then { l with owner := b } else l) } }

/-- A spare takes over the unit's work: its role, profile, path, assignment or engine index (R504, R509). -/
def State.installSpare (s : State) (kind unit spare : Nat) : State :=
  let s := { s with spare := { s.spare with used := Tab.set s.spare.used kind (s.sparesUsed kind + 1) } }
  if kind = 4 then
    if s.spare.synFailed.contains s.radio.active then
      if s.radio.state = .standby then { s with radio := { s.radio with active := spare, second := none } }
      else s.applySwitch { target := spare, instant := s.now, due := s.now, deadline := s.now, since := s.now, scheduled := false } 0
    else { s with radio := { s.radio with second := some spare } }
  else if kind = 5 then
    let of' := match s.bankProfile unit with
      | some q => Tab.set s.spare.bankOf q spare
      | none => s.spare.bankOf
    { s with spare := { s.spare with banks := s.spare.banks ++ [spare], bankOf := of' } }
  else if kind = 6 then
    match s.slicePath unit with
    | some p =>
      ({ s with
        beam := { s.beam with
          slices := Tab.set s.beam.slices p spare, spareSlices := s.beam.spareSlices &&& ~~~(bitAt 4 (spare - 64)) }
        spare := { s.spare with sliceFailed := s.spare.sliceFailed &&& ~~~(bitAt 64 p) } }).internalSwap 4
    | none => s
  else if kind = 7 then
    let slot := s.processorSlot unit
    (if slot < 16 then { s with spare := { s.spare with procMap := Tab.set s.spare.procMap slot spare } } else s).moveLeases
      (ownerId 2 unit) (ownerId 2 spare)
  else if kind = 8 then
    match s.engineServed unit with
    | some e => { s with spare := { s.spare with
        engineMap := Tab.set s.spare.engineMap e spare, drained := s.spare.drained.filter (fun x => x != e) } }
    | none => s
  else s

/-! ### Failures (R502, R503, R505) -/

/-- The boot ROM's test fails a unit: a spare serves in its place, or it stays out. -/
def State.bootFailure (s : State) (kind unit : Nat) : State :=
  let s := (if kind = 5 then { s with spare := { s.spare with banks := s.spare.banks.filter (fun b => b != unit) } }
    else if kind = 4 then { s with
      spare := { s.spare with synFailed := unit :: s.spare.synFailed }
      radio := { s.radio with second := if s.radio.second = some unit then none else s.radio.second } }
    else if kind = 7 then s.holdOut (ownerId 2 unit)
    else if kind = 8 then s.holdOut (ownerId 3 unit) else s : State)
  if s.spareFree kind then
    (s.installSpare kind unit (spareBase kind + s.sparesUsed kind)).failedEvent kind unit 0
  else (s.noSpareLeft kind unit).failedEvent kind unit 2

/-- An SRAM row or column is replaced live while its macro has a spare. -/
def State.sramFailure (s : State) (unit : Nat) : State :=
  let n := Tab.get s.spare.macros unit 0
  if n < 2 then
    ({ s with spare := { s.spare with macros := Tab.set s.spare.macros unit (n + 1) } }).failedEvent 0 (unit / 4) 0
  else (s.countHeldOut 0).failedEvent 0 (unit / 4) 2

/-! ### Maintenance windows (R507 to R509) -/

/-- The longest interruption of a kind in us (Table SPARE-1). -/
def interruptMax (kind : Nat) : Nat := [0, 0, 0, 0, 2, 200, 0, 2000, 2000].getD kind 0

/-- End of a window. -/
def Maintenance.stop (w : Maintenance) : Nat := w.start + w.durationMs * Config.ms

/-- When a replacement may start, from now on: kinds 4 and 6 wait out protected intervals (R508). -/
def State.replaceAt (s : State) (kind : Nat) : Nat := if kind = 4 ∨ kind = 6 then s.disturbAt s.now s.now else s.now

/-- The replacement ends before the window does. -/
def State.fitsWindow (s : State) (w : Maintenance) (kind : Nat) : Bool :=
  decide (s.replaceAt kind + interruptMax kind * Config.us < w.stop)

/-- Failed units in the order of replacement: ascending kind, then unit. -/
def replaceOrder (l : List (Nat × Nat)) : List (Nat × Nat) :=
  sortBy (fun a b => decide (a.1 < b.1) || (a.1 == b.1 && decide (a.2 < b.2))) l

/-- What a replacement does at its start (R509). -/
def State.beginReplacement (s : State) (kind unit : Nat) : State :=
  if kind = 4 then
    match (s.radio.synth unit).setting with
    | some x => s.acquireOrWait 2 { x with byEntry := none, forceCold := true } s.now
    | none => s
  else if kind = 5 then
    match s.bankProfile unit with | some q => s.dropHeld q | none => s
  else if kind = 8 then
    match s.engineServed unit with
    | some e => { s with spare := { s.spare with drained := e :: s.spare.drained } }
    | none => s
  else s

/-- Start the next replacement of the open window: the first in order, of no kind whose turn has passed, that ends before the
window does. -/
def State.startReplacement (s : State) : State :=
  match s.spare.window, s.spare.current with
  | some w, none =>
    if !w.opened then s
    else
      match (replaceOrder s.spare.waiting).find? (fun x => decide (w.turn ≤ x.1) && s.fitsWindow w x.1) with
      | none => s
      | some (k, u) =>
        let c : Replacement := { kind := k, unit := u, spare := spareBase k + s.sparesUsed k, since := s.replaceAt k }
        let s := { s with spare := { s.spare with
          waiting := s.spare.waiting.filter (fun x => x != (k, u)), current := some c, window := some { w with turn := k } } }
        s.beginReplacement k u
  | _, _ => s

/-- SPARE_FAILURE_DECLARED: in service. Sectors, links and lanes are replaced by rows of their own chapters; here their declaration
is reported. -/
def execSpareFailureDeclared (t : Nat) (kind : Fin 9) (unit : Nat) (s : State) : Host.Outcome State Fault Refusal :=
  let s := s.advance t
  if kind.val = 0 then .next (s.sramFailure unit)
  else if kind.val = 1 then .next (s.failedEvent 1 unit (if s.nv.spareUsed < s.nv.spareTotal then 0 else 2))
  else if kind.val ≤ 3 then .next (s.failedEvent kind unit 0)
  else if s.spare.waiting.contains (kind.val, unit) then .next s
  else
    let s := s.outOfService kind unit
    if s.spareFree kind then
      .next (({ s with spare := { s.spare with waiting := s.spare.waiting ++ [(kind.val, unit)] } }).failedEvent kind unit
        1).startReplacement
    else .next ((s.noSpareLeft kind unit).failedEvent kind unit 2)

/-- SPARE_WINDOW_OPEN: START of the window. -/
def execSpareWindowOpen (s : State) : Host.Outcome State Fault Refusal :=
  match s.spare.window with
  | none => .next s
  | some w =>
    if w.opened then .next s
    else
      let s := s.advance w.start
      .next ({ s with spare := { s.spare with window := some { w with opened := true } } }).startReplacement

/-- MAINTENANCE_WINDOW_END: what has not started waits for the next window. -/
def execMaintenanceWindowEnd (s : State) : Host.Outcome State Fault Refusal :=
  match s.spare.window with
  | none => .next s
  | some w =>
    if !w.opened then .next s
    else
      let s := s.advance w.stop
      .next { s with spare := { s.spare with window := none } }

/-- The contexts of an engine that are active. -/
def State.engineActive (s : State) (e : Nat) : Bool :=
  s.dmd.contexts.any (fun (x : Nat × Context) => x.1 / 32 == e && x.2.active)

/-- The work of a replacement in progress is done: the spare synthesiser locked where it is needed, the engine's contexts ended. -/
def State.replacementReady (s : State) (c : Replacement) : Bool :=
  if c.kind = 4 then s.radio.state == .standby || (s.radio.synth c.spare).loop == .locked ||
    !s.spare.synFailed.contains s.radio.active
  else if c.kind = 8 then
    match s.engineServed c.unit with
    | some e => !s.engineActive e
    | none => true
  else true

/-- SPARE_REPLACEMENT_DONE: the replacement in progress ends, with the interruption that it caused. -/
def execSpareReplacementDone (t interruptUs : Nat) (s : State) : Host.Outcome State Fault Refusal :=
  let s := s.advance t
  match s.spare.current with
  | none => .next s
  | some c =>
    if s.now < c.since ∨ s.replacementReady c = false then .next s
    else
      let s := ({ s with spare := { s.spare with current := none } }).installSpare c.kind c.unit c.spare
      let s := s.raiseEvent 0x0E02 .notice (le 1 c.kind ++ le 1 c.unit ++ le 1 c.spare ++ zeros 1 ++
        le 4 (Nat.min interruptUs (interruptMax c.kind)) ++ s.ts64Bytes s.now)
      .next s.startReplacement

/-- ENGINE_DRAIN_TIMEOUT: 2 ms after the engine left the map. -/
def execEngineDrainTimeout (s : State) : Host.Outcome State Fault Refusal :=
  match s.spare.current with
  | none => .next s
  | some c =>
    if c.kind ≠ 8 then .next s
    else
      let s := s.advance (c.since + 2 * Config.ms)
      match s.engineServed c.unit with
      | some e => .next (if s.engineActive e then s.abortEngine e else s)
      | none => .next s

/-! ### Wear and the service record (R513, R514) -/

/-- A wear condition holds. Indicators 1 and 4 name a kind. -/
def State.wearHolds (s : State) (ind kind value : Nat) : Bool :=
  if ind = 0 then
    match s.nv.firstReading with
    | some v => decide (6 * v < 100 * (v - Config.projectedSpeed s.lowestSpeed 110 700))
    | none => false
  else if ind = 1 then decide (1000 < value)
  else if ind = 2 then s.spare.macros.any (fun (p : Nat × Nat) => decide (2 ≤ p.2))
  else if ind = 3 then decide (36 ≤ s.nv.spareUsed)
  else decide (0 < spareTotal kind) && decide (spareTotal kind ≤ s.sparesUsed kind)

/-- KIND of EV_SPARE_WEAR. -/
def wearKind (ind kind : Nat) : Nat := if ind = 0 then 0xFF else if ind = 2 then 0 else if ind = 3 then 1 else kind

/-- VALUE of EV_SPARE_WEAR. -/
def State.wearValue (s : State) (ind value : Nat) : Nat :=
  if ind = 0 then
    match s.nv.firstReading with
    | some v => 1000 * (v - Config.projectedSpeed s.lowestSpeed 110 700) / v
    | none => 0
  else if ind = 1 then value
  else 0

/-- SPARE_WEAR: raised once per boot for each indicator and kind. -/
def execSpareWear (t : Nat) (indicator : Fin 5) (kind value : Nat) (s : State) : Host.Outcome State Fault Refusal :=
  let s := s.advance t
  let k := wearKind indicator kind
  let key := 256 * indicator.val + k
  if !s.boot.ready || s.spare.wear.contains key || !s.wearHolds indicator kind value then .next s
  else .next (({ s with spare := { s.spare with wear := key :: s.spare.wear } }).raiseEvent 0x0E04 .notice
    (le 1 indicator ++ le 1 k ++ leSat 2 (s.wearValue indicator value) ++ zeros 12))

/-- The Tj band of R514. -/
def hoursBand (tj : Int) : Nat :=
  if tj < 7000 then 0 else if tj < 8500 then 1 else if tj < 9500 then 2 else if tj ≤ 10500 then 3 else 4

/-- SERVICE_RECORD_UPDATE: one more hour in STANDBY or ACTIVE, where the temperature allows the write. -/
def execServiceRecordUpdate (s : State) : Host.Outcome State Fault Refusal :=
  if !s.boot.ready then .next s
  else
    let t := s.spare.hourAt + 3600 * Config.sec
    let s := s.advance t
    .next (({ s with spare := { s.spare with hourAt := t } }).nvOwnWrite .serviceRecord (le 1 1 ++ le 1 (hoursBand s.thermal.tj)))

/-! ### Commands (R507, R511, R512, R516) -/

/-- SPARES_TOTAL of a kind. -/
def State.totalOf (s : State) (kind : Nat) : Nat :=
  if kind = 0 then 4 * Config.sramMacros
  else if kind = 1 then s.nv.spareTotal
  else if kind = 2 then 12
  else if kind = 3 then
    match s.role with
    | .manager => if 1 < s.lcl.dCfg then 2 else 0
    | .worker => 2
    | _ => 0
  else spareTotal kind

/-- Spare lanes of this device's own hop that are in use: each group whose spare is none of its lanes' state any more. -/
def State.laneSparesUsed (s : State) : Nat :=
  let l := (s.lcl.hop 0).lanes
  let used := fun (a b : Nat) =>
    if l.isEmpty then 0 else if l.any (fun (x : Nat × Lane) => decide (a ≤ x.1) && decide (x.1 ≤ b) && x.2.state == .spare) then 0 else 1
  used 0 8 + used 9 11

/-- SPARES_USED of a kind. -/
def State.usedOf (s : State) (kind : Nat) : Nat :=
  if kind = 0 then s.spare.macros.foldl (fun (n : Nat) (p : Nat × Nat) => n + p.2) 0
  else if kind = 1 then s.nv.spareUsed
  else if kind = 2 then s.fab.spared.length
  else if kind = 3 then s.laneSparesUsed
  else s.sparesUsed kind

/-- Response of SPARE_GET_STATUS. -/
def State.spareStatus (s : State) : List Byte :=
  (List.range 9).flatMap (fun k =>
    leSat 2 (s.totalOf k) ++ leSat 2 (s.usedOf k) ++ leSat 2 (Tab.get s.spare.heldOut k 0) ++
      leSat 1 (s.spare.waiting.filter (fun w => w.1 == k)).length ++ zeros 1) ++
    le 8 s.spare.rxRetired.toNat ++ le 8 s.spare.txRetired.toNat ++ le 4 s.nv.hours ++
    (List.range 5).flatMap (fun j => le 4 (Tab.get s.nv.tjHours j 0)) ++
    le 1 ((List.range 5).foldl (fun n i => if s.spare.wear.any (fun k => k / 256 == i) then n + 2 ^ i else n) 0) ++
    le 1 (match s.spare.window with | none => 0 | some w => if w.opened then 2 else 1) ++ zeros 2

def spareStatusBody (_ : Running) (s : State) : CmdEffect := .ok s s.spareStatus

/-- The envelope of SPARE_GET_STATUS. -/
def specSpareGetStatus : CmdSpec := { opcode := 0x0E01 }

/-- SPARE_GET_STATUS. -/
def execSpareGetStatus (s : State) : Host.Outcome State Fault Refusal := runCommand specSpareGetStatus spareStatusBody s

def setWindowBody (r : Running) (s : State) : CmdEffect :=
  let p := r.cmd.payload
  if u8 p 10 % 2 = 1 then .ok { s with spare := { s.spare with window := none } } []
  else
    match firstFailure
      [(inRange 10 (u16 p 8) 1000, Status.badParam),
       (s.timeUsable, Status.timeInvalid), (s.spare.window.isNone, Status.busy)] with
    | some st => .status s st
    | none =>
      let due := s.dueInstant r false (s.instantOf p 0) lead100 Config.outSample
      .ok { s with spare := { s.spare with window := some { start := due, durationMs := u16 p 8, scheduled := true } } } []

/-- The envelope of SPARE_SET_WINDOW. -/
def specSpareSetWindow : CmdSpec := { opcode := 0x0E02, minLen := fun _ => 16 }

/-- SPARE_SET_WINDOW. -/
def execSpareSetWindow (s : State) : Host.Outcome State Fault Refusal := runCommand specSpareSetWindow setWindowBody s

/-- The service record's write belongs to a command (R403). -/
def State.ownRecordWrite (s : State) (order : Nat) : State :=
  { s with nv := { s.nv with
    queue := s.nv.queue.filter (fun j => !(j.record == .serviceRecord && j.owner.isNone && j.data.isEmpty)) ++
      [({ record := .serviceRecord, owner := some order } : NvJob)] } }

def retireBody (r : Running) (s : State) : CmdEffect :=
  let p := r.cmd.payload
  if !s.nvTempOk then .status s Status.tempRange
  else .later ((s.retirePaths (mask64 p 0) (u8 p 8 % 4) 1).ownRecordWrite r.order) []

/-- The envelope of SPARE_RETIRE_PATH. -/
def specSpareRetirePath : CmdSpec := { opcode := 0x0E03, minLen := fun _ => 16 }

/-- SPARE_RETIRE_PATH. -/
def execSpareRetirePath (s : State) : Host.Outcome State Fault Refusal := runCommand specSpareRetirePath retireBody s

/-- Clear retirement of the paths of `m` in the directions of `dir` (R512). -/
def State.restorePaths (s : State) (m : Mask64) (dir : Nat) : State :=
  let rx := if dir % 2 = 1 then m &&& s.spare.rxRetired else 0#64
  let tx := if dir / 2 % 2 = 1 then m &&& s.spare.txRetired else 0#64
  let s := { s with
    spare := { s.spare with rxRetired := s.spare.rxRetired &&& ~~~rx, txRetired := s.spare.txRetired &&& ~~~tx }
    dpd := { s.dpd with paths := Tab.mapVals s.dpd.paths (fun p d =>
      if tx.getLsbD p then { d with mismatch := .normal, rl := [] } else d) } }
  (bitsOf (rx ||| tx)).foldl (fun s p =>
    s.pathRetiredEvent p ((if rx.getLsbD p then 1 else 0) + (if tx.getLsbD p then 2 else 0)) 0 1) s

def restoreBody (r : Running) (s : State) : CmdEffect :=
  let p := r.cmd.payload
  let m := mask64 p 0
  match firstFailure [((m &&& s.spare.sliceLost) == 0#64, Status.noSpare), (s.nvTempOk, Status.tempRange)] with
  | some st => .status s st
  | none => .later ((s.restorePaths m (u8 p 8 % 4)).ownRecordWrite r.order) []

/-- The envelope of SPARE_RESTORE_PATH. -/
def specSpareRestorePath : CmdSpec := { opcode := 0x0E04, minLen := fun _ => 16 }

/-- SPARE_RESTORE_PATH. -/
def execSpareRestorePath (s : State) : Host.Outcome State Fault Refusal := runCommand specSpareRestorePath restoreBody s

end Sys2Proof.Machine
end

