-- ==== Sys2Proof/Machine/Sys.lean ====
section
/-!
DEFINITION. The system commands and the completion of deferred commands (spec/16).
-/

namespace Sys2Proof.Machine

open Sys2Proof

/-! ### SYS_ECHO, SYS_GET_INFO, SYS_RESET, SYS_SET_EVENT_FILTER (R409) -/

def echoBody (r : Running) (s : State) : CmdEffect := .ok s r.cmd.payload

/-- The envelope of SYS_ECHO. -/
def specSysEcho : CmdSpec := { opcode := 0x0101 }

/-- SYS_ECHO: the request payload unchanged. -/
def execSysEcho (s : State) : Host.Outcome State Fault Refusal := runCommand specSysEcho echoBody s

/-- Code of the role in SYS_GET_INFO. -/
def roleCode : Role → Nat
  | .standalone => 0 | .manager => 1 | .worker => 2 | .invalid => 3

/-- STATE of SYS_GET_INFO: key provisioned, record sealed, debug locked, on trial. -/
def State.provisionBits (s : State) : Nat :=
  (if s.fuses.oemKeyHash.isSome then 1 else 0) + (if s.fuses.sealBit then 2 else 0) +
    (if s.fuses.debugLock then 4 else 0) + (if s.boot.trial then 8 else 0)

/-- Release of the valid image of a bank; zero when none. -/
def Bank.shownRelease (b : Bank) : Nat := if b.valid then b.release else 0

/-- Response of SYS_GET_INFO (Table CMD-6). -/
def State.info (s : State) : List Byte :=
  le 2 Config.deviceId ++ le 1 Config.stepping ++ le 1 (roleCode s.role) ++ le 4 s.boot.release ++
    le 8 Config.uid.toNat ++ le 1 s.position ++ le 1 s.boot.source ++ le 1 s.dawn.bootCause.toNat ++
    le 1 s.provisionBits ++ le 4 s.nv.bankA.shownRelease ++ le 4 s.nv.bankB.shownRelease ++ zeros 4 ++
    le 8 ((s.now - s.boot.releasedAt) / Config.us) ++ fit 16 s.boot.digest ++ le 4 s.cmd.taken ++ zeros 4

def getInfoBody (_ : Running) (s : State) : CmdEffect := .ok s s.info

/-- The envelope of SYS_GET_INFO. -/
def specSysGetInfo : CmdSpec := { opcode := 0x0102 }

/-- SYS_GET_INFO. -/
def execSysGetInfo (s : State) : Host.Outcome State Fault Refusal := runCommand specSysGetInfo getInfoBody s

/-- Checks of SYS_RESET (R408, R409): SCOPE 1 only on a manager that the command addresses (the role check of R408 step 4, so
it comes first), then KEY, SCOPE and DELAY_MS in range. -/
def resetCheck (r : Running) (s : State) : Option Nat :=
  let p := r.cmd.payload
  firstFailure
    [(u8 p 0 != 1 || (s.role == .manager && !r.cascade &&
        (r.cmd.target == 0xFFFF || r.cmd.target == s.lcl.position)), Status.notPermitted),
     (u8 p 1 == 0xA5 && decide (u8 p 0 ≤ 1) && inRange 1 (u16 p 2) 1000, Status.badParam)]

def resetBody (r : Running) (s : State) : CmdEffect :=
  match resetCheck r s with
  | some st => .status s st
  | none => .ok { s with cmd := { s.cmd with
      sysReset := some { due := s.now + u16 r.cmd.payload 2 * Config.ms, chain := u8 r.cmd.payload 0 == 1 } } } []

/-- The envelope of SYS_RESET. -/
def specSysReset : CmdSpec := { opcode := 0x0103, minLen := fun _ => 4, noRelay := fun p => u8 p 0 == 1 }

/-- SYS_RESET. -/
def execSysReset (s : State) : Host.Outcome State Fault Refusal := runCommand specSysReset resetBody s

/-- The command that the manager sends a worker to reset it at the end of a chain reset. -/
def workerResetBytes : List Byte :=
  le 2 0x0103 ++ le 2 0 ++ le 2 0 ++ le 2 4 ++ le 2 0 ++ le 2 0xFFFF ++ zeros 4 ++ [0#8, 0xA5#8] ++ le 2 1

/-- SYS_RESET_DELAY_EXPIRY: the device resets as HOST_RESET does; for a chain, the joined workers reset now and the manager
10 ms later. -/
def execSysResetDelayExpiry (s : State) : Host.Outcome State Fault Refusal :=
  match s.cmd.sysReset with
  | none => .next s
  | some p =>
    let s := s.advance p.due
    if p.chain then
      .next { s with
        lcl := { s.lcl with sent := s.lcl.sent ++ s.joinedWorkers.map (fun w => (⟨w, 0, workerResetBytes⟩ : LclMessage)) }
        cmd := { s.cmd with sysReset := some { due := p.due + 10 * Config.ms, chain := false } } }
    else .next (s.internalReset (some 0x04))

def eventFilterBody (r : Running) (s : State) : CmdEffect :=
  let p := r.cmd.payload
  if (List.range 15).all (fun k => decide (u8 p (k + 1) ≤ 4)) then
    .ok { s with evq := { s.evq with filter := (List.range 15).map (fun k => (k + 1, u8 p (k + 1))) } }
      ([0#8] ++ bytesAt p 1 15)
  else .status s Status.badParam

/-- The envelope of SYS_SET_EVENT_FILTER. -/
def specSysSetEventFilter : CmdSpec := { opcode := 0x0104, minLen := fun _ => 16 }

/-- SYS_SET_EVENT_FILTER. -/
def execSysSetEventFilter (s : State) : Host.Outcome State Fault Refusal := runCommand specSysSetEventFilter eventFilterBody s

/-! ### Non-volatile memory (R405, R410, R411) -/

/-- WRITER of SYS_NV_GET_INFO. -/
def NvWriter.code : NvWriter → Nat
  | .idle => 0 | .nvWrite => 1 | .fwInstall => 2 | .fwConfirm => 3

/-- Response of SYS_NV_GET_INFO. -/
def State.nvInfo (s : State) : List Byte :=
  le 4 s.nv.hostWrites ++ le 2 s.nv.spareTotal ++ le 2 s.nv.spareUsed ++ b8 s.nvTempOk ++ le 1 s.nv.writer.code ++ zeros 6

def nvGetInfoBody (_ : Running) (s : State) : CmdEffect := .ok s s.nvInfo

/-- The envelope of SYS_NV_GET_INFO. -/
def specSysNvGetInfo : CmdSpec := { opcode := 0x0110 }

/-- SYS_NV_GET_INFO. -/
def execSysNvGetInfo (s : State) : Host.Outcome State Fault Refusal := runCommand specSysNvGetInfo nvGetInfoBody s

/-- Checks of SYS_NV_WRITE in the order of R411. -/
def nvWriteCheck (r : Running) (s : State) : Option Nat :=
  let p := r.cmd.payload
  let off := u32 p 0
  let dst := u32 p 4
  let len := u32 p 8
  firstFailure
    [(decide (1 ≤ len) && decide (len ≤ 786432) && decide (off + len ≤ 0x40_0000), Status.badParam),
     (decide (0x30_0000 ≤ dst) && decide (dst + len ≤ 0x3C_0000), Status.nvProtected),
     (s.nv.writer == .idle, Status.busy),
     (s.nvTempOk, Status.tempRange)]

/-- A host operation begins. -/
def State.startHostOp (s : State) (w : NvWriter) : State := { s with nv := { s.nv with writer := w, writerStart := s.now } }

def nvWriteBody (r : Running) (s : State) : CmdEffect :=
  match nvWriteCheck r s with
  | some st => .status s st
  | none => .later (s.startHostOp .nvWrite) []

/-- Bytes per time unit bound: LENGTH at `mib` MiB/s, in time units. -/
def atMiB (len mib : Nat) : Nat := len * Config.sec / (mib * 1048576)

/-- Longest duration of SYS_NV_WRITE (R411). -/
def nvWriteLongest (p : List Byte) : Nat :=
  let d := 5 * Config.ms + atMiB (u32 p 8) 4 + atMiB (u32 p 8) 32
  d + d / 100

/-- The envelope of SYS_NV_WRITE. -/
def specSysNvWrite : CmdSpec := { opcode := 0x0111, minLen := fun _ => 16, longest := nvWriteLongest }

/-- SYS_NV_WRITE. -/
def execSysNvWrite (s : State) : Host.Outcome State Fault Refusal := runCommand specSysNvWrite nvWriteBody s

/-! ### Firmware update (R412 to R414) -/

/-- Checks of SYS_FW_INSTALL (R412). -/
def fwInstallCheck (r : Running) (s : State) : Option Nat :=
  let p := r.cmd.payload
  let off := u32 p 0
  let len := u32 p 4
  let bank := u8 p 8
  match firstFailure
    [(decide (bank ≤ 1) && off % 4096 == 0 && decide (off + len ≤ 0x40_0000), Status.badParam),
     (!(s.boot.source == bank), Status.runningBank),
     (inRange 4096 len 1048576 && (match s.staged off len with | some b => imageHeaderOk b | none => true),
        Status.imageInvalid),
     (s.nv.writer == .idle, Status.busy),
     (s.nvTempOk, Status.tempRange)] with
  | some st => some st
  | none => s.stagedStatus off len

def fwInstallBody (r : Running) (s : State) : CmdEffect :=
  match fwInstallCheck r s with
  | some st => .status s st
  | none =>
    let bank := u8 r.cmd.payload 8
    let s := s.startHostOp .fwInstall
    let s := s.markBank bank false
    .later (s.fwChanged bank 0) []

/-- Longest duration of SYS_FW_INSTALL (R412). -/
def fwInstallLongest (p : List Byte) : Nat :=
  let len := u32 p 4
  let d := 2 * (20 * Config.ms + len * (16 * Config.ms) / 1048576) + atMiB len 4
  d + d / 100

/-- The envelope of SYS_FW_INSTALL. -/
def specSysFwInstall : CmdSpec := { opcode := 0x0120, minLen := fun _ => 16, longest := fwInstallLongest, relayLater := true }

/-- SYS_FW_INSTALL. -/
def execSysFwInstall (s : State) : Host.Outcome State Fault Refusal := runCommand specSysFwInstall fwInstallBody s

/-- Checks of SYS_FW_ACTIVATE (R413). -/
def fwActivateCheck (r : Running) (s : State) : Option Nat :=
  let p := r.cmd.payload
  firstFailure
    [(decide (u8 p 0 ≤ 1) && u8 p 1 == 0xA5, Status.badParam),
     ((s.nv.bank (u8 p 0)).valid, Status.imageInvalid),
     (!(s.boot.source == u8 p 0), Status.runningBank)]

def fwActivateBody (r : Running) (s : State) : CmdEffect :=
  match fwActivateCheck r s with
  | some st => .status s st
  | none =>
    let extra := if s.role == .manager && r.cmd.target == 0xFFFF then 10 * Config.ms else 0
    .ok { s with
      dawn := { s.dawn with trialMark := some (u8 r.cmd.payload 0) }
      cmd := { s.cmd with fwReset := some { due := s.now + Config.ms + extra, chain := false } } } []

/-- The envelope of SYS_FW_ACTIVATE. -/
def specSysFwActivate : CmdSpec := { opcode := 0x0121, minLen := fun _ => 4 }

/-- SYS_FW_ACTIVATE. -/
def execSysFwActivate (s : State) : Host.Outcome State Fault Refusal := runCommand specSysFwActivate fwActivateBody s

/-- FW_TRIAL_RESET (R413). -/
def execFwTrialReset (s : State) : Host.Outcome State Fault Refusal :=
  match s.cmd.fwReset with
  | none => .next s
  | some p => .next ((s.advance p.due).internalReset (some 0x04))

/-- Checks of SYS_FW_CONFIRM (R414). -/
def fwConfirmCheck (r : Running) (s : State) : Option Nat :=
  firstFailure
    [(u8 r.cmd.payload 0 == 0xA5, Status.badParam),
     (decide (s.boot.source ≤ 1), Status.wrongState),
     (s.nv.writer == .idle || s.boot.source == s.firstBank, Status.busy),
     (s.nvTempOk || s.boot.source == s.firstBank, Status.tempRange)]

def fwConfirmBody (r : Running) (s : State) : CmdEffect :=
  match fwConfirmCheck r s with
  | some st => .status s st
  | none =>
    if s.boot.source = s.firstBank then .ok s (le 4 s.boot.release ++ le 4 0 ++ le 4 0)
    else
      let b := s.firstBank
      let s := s.startHostOp .fwConfirm
      let s := s.markBank b false
      .later (s.fwChanged b 1) []

/-- Longest duration of SYS_FW_CONFIRM: the timing of an install of the largest image (R414). -/
def fwConfirmLongest (_ : List Byte) : Nat := fwInstallLongest (le 4 0 ++ le 4 1048576)

/-- The envelope of SYS_FW_CONFIRM. -/
def specSysFwConfirm : CmdSpec := { opcode := 0x0122, minLen := fun _ => 4, longest := fwConfirmLongest }

/-- SYS_FW_CONFIRM. -/
def execSysFwConfirm (s : State) : Host.Outcome State Fault Refusal := runCommand specSysFwConfirm fwConfirmBody s

/-! ### Completion (R403 to R405, R411, R412, R414) -/

/-- DURATION_MS from the start of the host operation. -/
def State.durationMs (s : State) : Nat := (s.now - s.nv.writerStart) / Config.ms

/-- SYS_NV_WRITE ends: the bytes before the stop are in the host area. -/
def State.nvWriteEnd (s : State) (r : Running) (out : HostOpEnd) : State × Reply :=
  let p := r.cmd.payload
  let len := u32 p 8
  let n := match out with | .done _ => len | .tempStop w => Nat.min w len | .verifyFail w => Nat.min w len
  let src := memReadBytes unlisted s.mem (0x1180_0000 + u32 p 0) n
  let area := memWriteBytes erased s.nv.hostArea (u32 p 4) src
  let st := match out with
    | .done _ => Status.ok | .tempStop _ => Status.tempRange | .verifyFail _ => Status.nvVerifyFail
  let used := match out with
    | .done k => Nat.min s.nv.spareTotal (s.nv.spareUsed + k)
    | .tempStop _ => s.nv.spareUsed
    | .verifyFail _ => s.nv.spareTotal
  let s := { s with nv := { s.nv with
    hostArea := area, writer := .idle, spareUsed := used
    hostWrites := if st = Status.ok then s.nv.hostWrites + 1 else s.nv.hostWrites } }
  (s, ⟨st, le 4 n ++ le 4 (crc32 (memReadBytes erased s.nv.hostArea (u32 p 4) len)) ++ le 4 s.durationMs⟩)

/-- An image has been written into a bank: it is authenticated as it stands there and marked valid (R412 steps 3 to 5). -/
def State.bankWritten (s : State) (bank cause : Nat) (img : List Byte) (out : HostOpEnd) : State × Reply :=
  let s := { s with nv := { s.nv with writer := .idle } }
  match out with
  | .tempStop _ => (s, ⟨Status.tempRange, []⟩)
  | .verifyFail _ => (s, ⟨Status.authFail, []⟩)
  | .done _ =>
    let s := { s with nv := s.nv.setBank bank { valid := false, release := imageRelease img, length := img.length,
                                                image := img } }
    match authenticate img s.role with
    | some st => (s, ⟨st, []⟩)
    | none =>
      let s := s.markBank bank true
      (s.fwChanged bank cause, ⟨Status.ok, le 4 (imageRelease img) ++ le 4 img.length ++ le 4 s.durationMs⟩)

/-- The end of the host operation of a command. -/
def State.hostOpEnd (s : State) (r : Running) (out : HostOpEnd) : State × Reply :=
  if r.cmd.opcode = 0x0111 then s.nvWriteEnd r out
  else if r.cmd.opcode = 0x0120 then
    s.bankWritten (u8 r.cmd.payload 8) 0
      (memReadBytes unlisted s.mem (0x1180_0000 + u32 r.cmd.payload 0) (u32 r.cmd.payload 4)) out
  else if (s.nv.bank s.boot.source).shipped then
    -- a copy of the image as shipped, whose bytes the model does not hold
    match out with
    | .done _ =>
      let b := s.nv.bank s.boot.source
      let s := { s with nv := { s.nv.setBank s.firstBank b with writer := .idle } }
      (s.fwChanged s.firstBank 1, ⟨Status.ok, le 4 b.release ++ le 4 b.bytes.length ++ le 4 s.durationMs⟩)
    | .tempStop _ => ({ s with nv := { s.nv with writer := .idle } }, ⟨Status.tempRange, []⟩)
    | .verifyFail _ => ({ s with nv := { s.nv with writer := .idle } }, ⟨Status.authFail, []⟩)
  else s.bankWritten s.firstBank 1 (s.nv.bank s.boot.source).image out

/-- The install of a chain goes on to the joined workers that do not boot from the cascade (R412): the command and the
image on channel 6. -/
def State.relayInstall (s : State) (r : Running) (own : Reply) : State :=
  let ws := s.joinedWorkers.filter (fun p => !(Tab.get s.lcl.positions p {}).bootsCascade)
  if r.cmd.opcode = 0x0120 ∧ own.status = Status.ok ∧ s.role = .manager ∧ !r.cascade ∧ r.cmd.target = 0xFFFF ∧ !ws.isEmpty then
    let img := (s.nv.bank (u8 r.cmd.payload 8)).bytes
    let s := { s with lcl := { s.lcl with sent := s.lcl.sent ++ ws.map (fun w => (⟨w, 7, img⟩ : LclMessage)) } }
    s.startRelay { opcode := 0x0120, longest := fwInstallLongest } r (some own) ws
  else s.respond r own

/-- DEFERRED_COMMAND_COMPLETE: the deferred command of a mailbox, or of a cascade channel, completes. A host operation ends
as `out` says; a record command completes once its own record writes have. -/
def execDeferredCommandComplete (t : Nat) (mbx : Fin 4) (cascade : Bool) (out : HostOpEnd) (s : State) :
    Host.Outcome State Fault Refusal :=
  let s := s.advance t
  let busy := fun (r : Running) => s.nv.queue.any (fun j => j.owner == some r.order)
  let mine := fun (r : Running) => r.mbx == mbx.val && r.cascade == cascade
  match s.cmd.running.find? (fun r => mine r && (match r.phase with | .deferred _ => true | _ => false)) with
  | some r =>
    if hostOperation r.cmd.opcode then
      let e := s.hostOpEnd r out
      .next (e.1.relayInstall r e.2)
    else if busy r then .next s
    else match r.phase with
      | .deferred own => .next (s.respond r own)
      | _ => .next s
  | none =>
    match s.cmd.running.find? (fun r => mine r && (match r.phase with | .relayed (some _) _ => true | _ => false)) with
    | none => .next s
    | some r =>
      match r.phase with
      | .relayed (some own) rel =>
        if hostOperation r.cmd.opcode && s.nv.writer != .idle then
          let e := s.hostOpEnd r out
          .next (e.1.tryFinishRelay r (some e.2) rel)
        else .next (s.tryFinishRelay r (some own) rel)
      | _ => .next s

/-- BARRIER_RELEASE (R404): the first command without a response starts, where it waits behind its barrier. -/
def execBarrierRelease (t : Nat) (s : State) : Host.Outcome State Fault Refusal :=
  let s := s.advance t
  match s.cmd.running with
  | [] => .next s
  | r :: _ => if r.phase == .barrier then .next { s with cmd := s.cmd.setPhase r.order .ready } else .next s

end Sys2Proof.Machine
end

