-- ==== Sys2Proof/Machine/Boot.lean ====
section
/-!
DEFINITION. Start-up, provisioning, the debug port (spec/20), and the completion of record writes (R405).
-/

namespace Sys2Proof.Machine

open Sys2Proof

/-! ### Boot stages (R488 to R494) -/

/-- A boot fault is recorded; the ROM goes on in `stage`. -/
def State.bootFaultAt (s : State) (fault stage : Nat) : State :=
  { s with boot := { s.boot with fault := fault, lastFault := fault, stage := stage } }

/-- The ROM stops (R489). -/
def State.stopBoot (s : State) (fault : Nat) : State := s.bootFaultAt fault 0xFF

/-- The next stage begins. -/
def State.enterStage (s : State) (stage : Nat) : State :=
  { s with boot := { s.boot with stage := stage, fault := 0 } }

/-- A strap combination of Table BALL-3 is valid. -/
def State.strapsValid (s : State) : Bool :=
  match s.role with
  | .invalid => false
  | .worker => s.boot.bootsrc != 2#2
  | _ => s.boot.bootsrc != 3#2

/-- Three of the times, newest first, lie within 600 s. -/
def watchdogLoop : List Nat → Bool
  | a :: b :: c :: r => decide (a ≤ c + 600 * Config.sec) || watchdogLoop (b :: c :: r)
  | _ => false

/-- A boot refusal (R482): counted, and back to SLEEP; a failed sensor sets SENSOR_FAULT and the span without wakes. -/
def State.refuseBoot (s : State) (sensor : Bool) : State :=
  let s := (s.countRefusal (if sensor then 7 else 9) s.position).powerDown false
  if sensor then
    { s with dawn := { s.dawn with prior := s.dawn.prior ||| 4#4, holdoffEnd := some (s.now + dawnSpan 61440) } }
  else s

/-- STRAPS: the sensor reading (R482), the straps (R27), the watchdog history (R490), the temperature band (R484). -/
def State.endStraps (s : State) (x : BootFacts) : State :=
  if !(x.sensorOk && inRangeZ (-6000) x.tj 15000) then s.refuseBoot true
  else if 11200 ≤ x.tj then s.refuseBoot false
  else
    let s := { s with thermal := { s.thermal with
      tj := x.tj, tjMax := x.tj, sampledAt := s.now, band := bandOf x.tj, history := [] } }
    if !s.strapsValid then s.stopBoot 0x01
    else if watchdogLoop s.dawn.faultBoots then s.stopBoot 0x08
    else s.enterStage 0x02

/-- REFERENCE: the crystal when it started within 2 ms, else REF_IN; with neither the ROM waits (R40). A worker takes REF_IN
(R120). -/
def State.endReference (s : State) (x : BootFacts) : State :=
  let crystal := x.crystal && !s.isWorker
  let refIn := x.refIn.val != 0
  let s := { s with radio := { s.radio with
    crystalValid := x.crystal, refInValid := refIn, refInFreq := x.refIn, refSource := if crystal then 0 else 1
    primary := if crystal then 0 else 1 } }
  if crystal || refIn then s.enterStage 0x03 else s.bootFaultAt 0x02 0x02

/-- MEMORY: BIST and repair (R490), and the units that the boot tests fail (R503). -/
def State.endMemory (s : State) (x : BootFacts) : State :=
  if !x.repaired then s.stopBoot 0x04
  else
    let s := { s with
      spare := { s.spare with macros := x.macros }
      boot := { s.boot with nvFailed := if x.mapOk then s.boot.nvFailed else s.boot.nvFailed + 1 } }
    (x.units.foldl (fun s u => if 4 ≤ u.1 ∧ u.1 ≤ 8 then s.bootFailure u.1 u.2 else s) s).enterStage 0x04

/-- The failed links taken in one by one: the spared links, or none at a second failure on one axis (R331, R332). -/
def spareLinks (spared : Tab Nat) : List (Nat × Nat × Nat) → Option (Tab Nat)
  | [] => some spared
  | (a, i, l) :: r =>
    match Tab.find? spared (6 * a + i) with
    | none => spareLinks (Tab.set spared (6 * a + i) l) r
    | some first => if first = l then spareLinks spared r else none

/-- FABRIC. -/
def State.endFabric (s : State) (x : BootFacts) : State :=
  match spareLinks s.fab.spared x.links with
  | some t => ({ s with fab := { s.fab with spared := t } }).enterStage 0x05
  | none => s.stopBoot 0x05

/-- KEY_FAULT: the stored OEM key does not hash to OEM_KEY_HASH (R497). -/
def State.keyFaulty (s : State) : Bool :=
  match s.nv.oemKey, s.fuses.oemKeyHash with
  | some k, some h => sha256 k != h
  | _, _ => false

/-- NV_CHECK (R491, R497). -/
def State.endNvCheck (s : State) (x : BootFacts) : State :=
  let s := { s with
    nv := { s.nv with bad := x.badRecords }
    boot := { s.boot with nvFailed := s.boot.nvFailed + x.badRecords.length, keyFault := s.keyFaulty } }
  if s.boot.bootsrc = 2#2 then s.enterStage 0x07
  else if s.boot.bootsrc = 3#2 then s.enterStage 0x08
  else s.enterStage 0x06

/-- An authentic image starts (R493): FIRMWARE, with what SYS_GET_INFO reports of it. -/
def State.startImage (s : State) (source release : Nat) (img : List Byte) : State :=
  let s := s.enterStage 0x09
  { s with boot := { s.boot with
    source := source, release := release, digest := (sha256 img).take 16, imageLength := img.length } }

/-- The banks in the order in which the ROM tries them: the trial mark's, then the strap order (R494). -/
def State.bankOrder (s : State) : List Nat :=
  let b := s.firstBank
  match s.dawn.trialMark with
  | some t => t :: [b, 1 - b].filter (fun x => x != t)
  | none => [b, 1 - b]

/-- IMAGE: the first authentic bank runs; the trial mark is cleared (R413, R494). -/
def State.endImage (s : State) : State :=
  let mark := s.dawn.trialMark
  let pick := s.bankOrder.find? (fun b => ((s.nv.bank b).check s.role).isNone)
  let s := { s with dawn := { s.dawn with trialMark := none } }
  match pick with
  | some b =>
    let bank := s.nv.bank b
    let s := s.startImage b bank.release (if bank.shipped then bank.bytes else imageBytes bank.image)
    let first := s.firstBank
    let failed := if b = first ∨ mark = some b then none
      else ((s.nv.bank first).check s.role).map (fun st => (first, st % 256))
    { s with boot := { s.boot with trial := mark == some b, bankFailed := failed } }
  | none => if s.isWorker then s.stopBoot 0x06 else s.bootFaultAt 0x06 0x07

/-- BOOT_STAGE_END: the stage under way ends with what it found. WAIT_HOST, WAIT_CASCADE and FIRMWARE end by rows of their own. -/
def execBootStageEnd (t : Nat) (x : BootFacts) (s : State) : Host.Outcome State Fault Refusal :=
  let s := s.advance t
  let st := s.boot.stage
  if st = 0 ∨ st ≥ 0x0A ∨ s.dawn.shutdownAt.isSome then .next s
  else if x.romEcc then .next (s.stopBoot 0x03)
  else if st = 1 then .next (s.endStraps x)
  else if st = 2 then .next (s.endReference x)
  else if st = 3 then .next (s.endMemory x)
  else if st = 4 then .next (s.endFabric x)
  else if st = 5 then .next (s.endNvCheck x)
  else if st = 6 then .next s.endImage
  else .next s

/-! ### Host and cascade boots (R495, R496) -/

def bootLoadBody (r : Running) (s : State) : CmdEffect :=
  let p := r.cmd.payload
  let off := u32 p 0
  let len := u32 p 4
  if s.boot.stage ≠ 0x07 then .status s Status.wrongState
  else if !(off % 4096 == 0 && inRange 4096 len 1048576 && decide (off + len ≤ 0x40_0000)) then .status s Status.badParam
  else
    match s.stagedStatus off len with
    | some st => .status (s.bootFaultAt 0x07 0x07) st
    | none =>
      let img := imageBytes (memReadBytes unlisted s.mem (0x1180_0000 + off) len)
      .ok (s.startImage 2 (imageRelease img) img) []

/-- The envelope of SEC_BOOT_LOAD. -/
def specSecBootLoad : CmdSpec := { opcode := 0x0F01, minLen := fun _ => 8 }

/-- SEC_BOOT_LOAD. -/
def execSecBootLoad (s : State) : Host.Outcome State Fault Refusal := runCommand specSecBootLoad bootLoadBody s

/-- CASCADE_IMAGE_RECEIVE: the manager's image reaches a worker in WAIT_CASCADE; a failure is reported to the manager. -/
def execCascadeImageReceive (t : Nat) (image : List Byte) (s : State) : Host.Outcome State Fault Refusal :=
  let s := s.advance t
  if !s.isWorker || s.boot.stage ≠ 0x08 then .next s
  else
    match authenticate image s.role with
    | none => .next (s.startImage 3 (imageRelease image) (imageBytes image))
    | some st =>
      let s := s.bootFaultAt 0x07 0x08
      let s := { s with boot := { s.boot with cascadeRejects := s.boot.cascadeRejects + 1 } }
      .next (s.toManager 5 (le 1 20 ++ le 1 (st % 256)))

/-! ### READY (R92, R415, R488) -/

/-- The chain as the manager brings it up (R302). -/
def State.bringUpChain (s : State) : State :=
  match s.role with
  | .manager =>
    let e := if s.nv.bad.contains .chainSettings then 0 else s.nv.expected
    let d := if e = 0 then 1 else e
    { s with lcl := { s.lcl with dCfg := d, position := d - 1, discovering := e == 0 } }
  | .standalone => { s with lcl := { s.lcl with dCfg := 1, position := 0 } }
  | _ => s

/-- The retirements of the service record come back into force (R511). -/
def State.restoreRetired (s : State) : State :=
  if s.nv.bad.contains .serviceRecord then s
  else { s with spare := { s.spare with
    rxRetired := s.spare.rxRetired ||| s.nv.rxRetired, txRetired := s.spare.txRetired ||| s.nv.txRetired } }

/-- CLKOUT3 carries 122.88 MHz on a MANAGER or WORKER (R116). -/
def State.chainClock (s : State) : State :=
  if s.role = .manager ∨ s.role = .worker then
    let c : ClkOut := { enable := true, divider := 5, delay := 0 }
    { s with radio := { s.radio with clkOut := Tab.set s.radio.clkOut 3 c } }
  else s

/-- What starts to run with READY: windows and intervals count from now, and the projected reading of the first READY is kept
(R513). -/
def State.startClocks (s : State) : State :=
  { s with
    path := { s.path with windowStart := s.now }
    tx := { s.tx with dutySavedAt := s.now }
    spare := { s.spare with hourAt := s.now }
    dawn := { s.dawn with power := .running }
    nv := { s.nv with firstReading :=
      if s.nv.firstReading.isNone && !s.fab.monitors.isEmpty then some (Config.projectedSpeed s.lowestSpeed 110 700)
      else s.nv.firstReading } }

/-- EV_SYS_READY. -/
def State.readyEvent (s : State) : State :=
  s.raiseEvent 0x0102 .notice (le 4 s.boot.release ++ le 1 s.boot.source ++ le 1 s.dawn.bootCause.toNat ++ b8 s.boot.trial ++
    zeros 1 ++ leSat 4 ((s.now - s.boot.releasedAt) / Config.ms) ++ zeros 4)

/-- The events that follow EV_SYS_READY: a bank that failed (R494), and wake events of the boot (R470). -/
def State.afterReady (s : State) : State :=
  let s := match s.boot.bankFailed with
    | some (b, st) => s.raiseEvent 0x0F01 .error (le 1 0 ++ le 1 b ++ le 1 s.position ++ le 1 st ++ zeros 12)
    | none => s
  let told := s.dawn.announce
  let s := { s with dawn := { s.dawn with announce := 0#3 } }
  [WakeSource.i2c, .timer, .wakeL].foldl (fun s src => if told &&& src.bit ≠ 0#3 then s.wakeEvent src else s) s

/-- FIRMWARE_READY: firmware has initialised; the device is in STANDBY, and an enable of the ring before READY takes effect. -/
def execFirmwareReady (t : Nat) (s : State) : Host.Outcome State Fault Refusal :=
  let s := s.advance t
  if s.boot.stage ≠ 0x09 then .next s
  else
    let s := s.bringUpChain.restoreRetired.chainClock.startClocks
    let s := s.restoreDuty
    let s := { s with boot := { s.boot with stage := 0x0A, ready := true } }
    let s := s.readyEvent.afterReady.reportRecord
    .next (if s.evq.enabled then s.ringStart else s)

/-! ### Provisioning (R497, R498, R500, R501) -/

/-- EV_SEC_PROVISIONED. -/
def State.provisionedEvent (s : State) (step version : Nat) : State :=
  s.raiseEvent 0x0F02 .notice (le 1 step ++ zeros 3 ++ le 4 version ++ zeros 8)

/-- Response of SEC_GET_STATE. -/
def State.secState (s : State) : List Byte :=
  le 1 ((if s.fuses.oemKeyHash.isSome then 1 else 0) + (if s.fuses.sealBit then 2 else 0) +
      (if s.fuses.debugLock then 4 else 0) + (if s.boot.keyFault then 8 else 0)) ++
    le 1 s.boot.lastFault ++ leSat 2 s.boot.nvFailed ++ le 4 s.tx.version ++ fit 16 Config.fwKeyHash ++
    fit 16 (s.fuses.oemKeyHash.getD [])

def secGetStateBody (_ : Running) (s : State) : CmdEffect := .ok s s.secState

/-- The envelope of SEC_GET_STATE. -/
def specSecGetState : CmdSpec := { opcode := 0x0F02 }

/-- SEC_GET_STATE. -/
def execSecGetState (s : State) : Host.Outcome State Fault Refusal := runCommand specSecGetState secGetStateBody s

def setOemKeyBody (r : Running) (s : State) : CmdEffect :=
  match firstFailure [(s.fuses.oemKeyHash.isNone, Status.notPermitted), (s.nvTempOk, Status.tempRange)] with
  | some st => .status s st
  | none => .later (s.nvEnqueue { record := .oemKey, data := bytesAt r.cmd.payload 0 64, owner := some r.order }) []

/-- The programming and verifying of fuses that a provisioning command adds (R405). -/
def fuseLongest (_ : List Byte) : Nat := 28 * Config.ms

/-- The envelope of SEC_SET_OEM_KEY. -/
def specSecSetOemKey : CmdSpec := { opcode := 0x0F03, minLen := fun _ => 64, longest := fuseLongest }

/-- SEC_SET_OEM_KEY. -/
def execSecSetOemKey (s : State) : Host.Outcome State Fault Refusal := runCommand specSecSetOemKey setOemKeyBody s

/-- Checks of SEC_SEAL_RECORD in order (R498). -/
def State.sealCheck (s : State) (p : List Byte) : Option Nat :=
  firstFailure
    [(s.fuses.oemKeyHash.isSome, Status.keyAbsent),
     (!s.fuses.sealBit, Status.notPermitted),
     (recordWhole p, Status.badParam),
     (s.recordSigned p && !s.boot.keyFault, Status.authFail),
     (s.nvTempOk, Status.tempRange)]

def sealRecordBody (r : Running) (s : State) : CmdEffect :=
  let p := fit recordLen r.cmd.payload
  match s.sealCheck p with
  | some st => .status s st
  | none => .later (s.nvEnqueue { record := .sealRecord, data := p, owner := some r.order }) []

/-- The envelope of SEC_SEAL_RECORD. -/
def specSecSealRecord : CmdSpec := { opcode := 0x0F04, minLen := fun _ => 608, longest := fuseLongest }

/-- SEC_SEAL_RECORD. -/
def execSecSealRecord (s : State) : Host.Outcome State Fault Refusal := runCommand specSecSealRecord sealRecordBody s

def lockDebugBody (r : Running) (s : State) : CmdEffect :=
  let p := r.cmd.payload
  match firstFailure
    [(u8 p 0 == 0xA5 && !(s.role == .manager && r.cmd.target == 0xFFFF), Status.badParam),
     (!s.fuses.debugLock, Status.notPermitted),
     (s.fuses.oemKeyHash.isSome && s.fuses.sealBit, Status.provisionIncomplete),
     (u64 p 8 == Config.uid.toNat, Status.badParam),
     (s.nvTempOk, Status.tempRange)] with
  | some st => .status s st
  | none => .later (s.nvEnqueue { record := .debugLock, owner := some r.order }) []

/-- The envelope of SEC_LOCK_DEBUG. -/
def specSecLockDebug : CmdSpec := { opcode := 0x0F05, minLen := fun _ => 16, longest := fuseLongest }

/-- SEC_LOCK_DEBUG. -/
def execSecLockDebug (s : State) : Host.Outcome State Fault Refusal := runCommand specSecLockDebug lockDebugBody s

/-! ### Record writes complete (R405, R483) -/

/-- The reply that a deferred command's completion will write. -/
def State.setReply (s : State) (order : Nat) (rep : Reply) : State :=
  { s with cmd := { s.cmd with running := s.cmd.running.map (fun r =>
    if r.order = order then
      { r with phase := match r.phase with
        | .deferred _ => .deferred rep
        | .relayed (some _) rel => .relayed (some rep) rel
        | p => p }
    else r) } }

/-- The owner of a job, if a command owns it, will end with this status. -/
def State.failOwner (s : State) (j : NvJob) (status : Nat) : State :=
  match j.owner with
  | some o => s.setReply o ⟨status, []⟩
  | none => s

/-- A newly sealed record: every sub-band starts with an empty duty history (R498). -/
def State.sealedRecord (s : State) (p : List Byte) : State :=
  let bands := recordBands p
  let s := { s with
    nv := { s.nv with regRecord := some p }
    fuses := { s.fuses with sealBit := true }
    tx := { s.tx with
      record := if s.boot.keyFault then none else some (recordVersion p, bands)
      duty := (List.range bands.length).map (fun i => (i, ({} : DutyHistory))) } }
  (s.provisionedEvent 1 (recordVersion p)).reportRecord

/-- A one-time step that another command has completed meanwhile. -/
def State.stepTaken (s : State) (r : NvRecord) : Bool :=
  match r with
  | .oemKey => s.fuses.oemKeyHash.isSome
  | .sealRecord => s.fuses.sealBit
  | .debugLock => s.fuses.debugLock
  | _ => false

/-- A record as it stands once its write is complete. -/
def State.applyRecord (s : State) (j : NvJob) : State :=
  let s := { s with nv := { s.nv with bad := s.nv.bad.filter (fun r => r != j.record) } }
  match j.record with
  | .channelEntry k i => { s with nv := { s.nv with entries := Tab.set s.nv.entries (256 * k + i) j.data } }
  | .regulatory =>
    if recordVersion j.data ≤ s.tx.version then s.failOwner j Status.regNotNewer
    else (s.superseded j.data).reportRecord
  | .calChannel e => { s with
      nv := { s.nv with calChannel := Tab.set s.nv.calChannel e j.data }
      cal := { s.cal with storedAt := Tab.set s.cal.storedAt e s.now } }
  | .calStep g => { s with
      nv := { s.nv with calStep := Tab.set s.nv.calStep g j.data }
      cal := { s.cal with storedAt := Tab.set s.cal.storedAt (256 + g) s.now } }
  | .chainSettings => { s with nv := { s.nv with expected := u8 j.data 0 } }
  | .serviceRecord =>
    let b := u8 j.data 1
    { s with nv := { s.nv with
      rxRetired := s.spare.rxRetired, txRetired := s.spare.txRetired
      hours := s.nv.hours + u8 j.data 0
      tjHours := if u8 j.data 0 = 0 then s.nv.tjHours else Tab.set s.nv.tjHours b (Tab.get s.nv.tjHours b 0 + 1) } }
  | .dutyHistory => { s with nv := { s.nv with duty := some s.dutySnapshot } }
  | .oemKey => ({ s with
      nv := { s.nv with oemKey := some j.data }
      fuses := { s.fuses with oemKeyHash := some (sha256 j.data) } }).provisionedEvent 0 0
  | .sealRecord => s.sealedRecord j.data
  | .debugLock => ({ s with fuses := { s.fuses with debugLock := true } }).provisionedEvent 2 0

/-- The status of a record write that fails: its fuse or its read-back does not verify. -/
def recordFailure (r : NvRecord) : Nat :=
  match r with
  | .oemKey | .sealRecord | .debugLock => Status.fuseFail
  | _ => Status.nvVerifyFail

/-- Queued writes that the temperature keeps from starting: a command's ends TEMP_RANGE, the device's own is skipped (R483). -/
def State.skipWrites (s : State) : State :=
  if s.nvTempOk then s
  else
    let jobs := s.nv.queue
    let s := { s with nv := { s.nv with queue := [] } }
    jobs.foldl (fun s j =>
      let s := s.failOwner j Status.tempRange
      if j.record = .serviceRecord ∧ j.data = [] ∧ j.owner = none then
        { s with spare := { s.spare with recordDue := true } } else s) s

/-- NV_RECORD_WRITE_DONE: the write at the front of the queue completes, or fails to verify; the next one starts. -/
def execNvRecordWriteDone (t : Nat) (ok : Bool) (s : State) : Host.Outcome State Fault Refusal :=
  let s := s.advance t
  match s.nv.queue with
  | [] => .next s
  | j :: rest =>
    let s := { s with nv := { s.nv with queue := rest } }
    let s := if s.stepTaken j.record then s.failOwner j Status.notPermitted
      else if ok then s.applyRecord j else s.failOwner j (recordFailure j.record)
    .next s.skipWrites

/-! ### The debug port (R499) -/

/-- An instruction executes on every device. -/
def standardTap : TapInstr → Bool
  | .bypass | .idcode | .sample | .extest => true
  | _ => false

/-- The levels of the output balls, as SAMPLE captures them: PAEN, TRSW, OBSSEL, OBSDIR, COEX_REQ, COEX_PRI, TRIG_OUT from bit 0 up. -/
def Pins.sample (p : Pins) : Nat :=
  p.paen.toNat + 16 * p.trsw.toNat + 256 * p.obssel.toNat + 1024 * p.obsdir.toNat +
    (if p.coexReq then 2048 else 0) + (if p.coexPri then 4096 else 0) + (if p.trigOut then 8192 else 0)

/-- The fuses as a debug read gives them: bit 0 the key's commit, bit 1 the seal, bit 2 DEBUG_LOCK. -/
def Fuses.bits (f : Fuses) : Nat :=
  (if f.oemKeyHash.isSome then 1 else 0) + (if f.sealBit then 2 else 0) + (if f.debugLock then 4 else 0)

/-- A debug write of a byte: non-volatile banks and host area where the address lies in the window, else device memory. -/
def State.debugWrite (s : State) (a : Nat) (v : Byte) : State :=
  let o := a - 0x0200_0000
  if 0x0200_0000 ≤ a ∧ a < 0x0240_0000 then
    if o < 0x10_0000 then
      { s with nv := { s.nv with bankA := { s.nv.bankA with
        image := (fit (Nat.max (o + 1) s.nv.bankA.bytes.length) s.nv.bankA.bytes).set o v,
        length := Nat.max (o + 1) s.nv.bankA.bytes.length } } }
    else if o < 0x20_0000 then
      let k := o - 0x10_0000
      { s with nv := { s.nv with bankB := { s.nv.bankB with
        image := (fit (Nat.max (k + 1) s.nv.bankB.bytes.length) s.nv.bankB.bytes).set k v,
        length := Nat.max (k + 1) s.nv.bankB.bytes.length } } }
    else if 0x30_0000 ≤ o ∧ o < 0x3C_0000 then { s with nv := { s.nv with hostArea := memWrite erased s.nv.hostArea o v } }
    else s
  else { s with mem := memWrite unlisted s.mem a v }

/-- A debug read of a byte. -/
def State.debugRead (s : State) (a : Nat) : Byte :=
  if 0x0200_0000 ≤ a ∧ a < 0x0240_0000 then s.nvByte (a - 0x0200_0000) else memRead unlisted s.mem a

/-- TAP_INSTRUCTION: once DEBUG_LOCK is committed, only BYPASS, IDCODE, SAMPLE/PRELOAD and EXTEST execute. -/
def execTapInstruction (t : Nat) (x : TapInstr) (s : State) : Host.Outcome State Fault Refusal :=
  let s := s.advance t
  if !s.pins.pwrGood || (s.fuses.debugLock && !standardTap x) then .next s
  else
    let put := fun (s : State) (v : Nat) => { s with tap := { instr := x, captured := v } }
    match x with
    | .bypass => .next (put s 0)
    | .idcode => .next (put s 0x16440F79)
    | .sample => .next (put s s.pins.sample)
    | .extest => .next (put s s.pins.sample)
    | .readMemory a => .next (put s (s.debugRead a).toNat)
    | .writeMemory a v => .next (put (s.debugWrite a v) 0)
    | .readFuses => .next (put s s.fuses.bits)
    | .burnFuse b =>
      .next (put (if b.val = 0 then { s with fuses := { s.fuses with sealBit := true } }
                  else { s with fuses := { s.fuses with debugLock := true } }) 0)

end Sys2Proof.Machine
end

