-- ==== Sys2Proof/Machine/Dmd.lean ====
section
/-!
DEFINITION. Demodulation and packet records (spec/08). Receptions run in stamp time.
-/

namespace Sys2Proof.Machine

open Sys2Proof

/-! ### Contexts (R201) -/

/-- Context c, where it is not FREE. -/
def State.context (s : State) (c : Nat) : Option Context := Tab.find? s.dmd.contexts c

/-- Put a context. -/
def State.setContext (s : State) (c : Nat) (x : Context) : State :=
  { s with dmd := { s.dmd with contexts := Tab.set s.dmd.contexts c x } }

/-- A context starts in SYNC on the candidate of a grant (Table DMD-1, R209). -/
def Grant.start (g : Grant) : Context :=
  { profileIx := g.cand.profile, profile := g.profile, control := g.control, beam := g.cand.beam, bin := g.cand.bin,
    metric := g.cand.metric, running := g.cand.metric, time := g.cand.time, claimedAt := g.granted, claimEpoch := g.epoch,
    dual := g.dual, captureStart := g.handoff, coarse := g.coarse }

/-- The reception of context c ends: it holds its slot no longer (R201); its bins were busy until now (R196). -/
def State.endReception (s : State) (c : Nat) (x : Context) : State :=
  (s.setContext c { x with state := .ended }).touchBins x.bin x.profile.half s.now

/-- A reception that a record is to tell of: its place among those that have ended. -/
def State.pushEnded (s : State) (c : Nat) (x : Context) (status stop : Nat) : State :=
  { s with dmd := { s.dmd with
    ended := s.dmd.ended ++ [{ order := s.dmd.nextOrder, number := c, ctx := x, status := status, stop := stop, psdu := [] }]
    nextOrder := s.dmd.nextOrder + 1 } }

/-- The grant of a context that is on its way, a claim or a hand-off. -/
def State.grantFor (s : State) (c : Nat) (handoff : Bool) : Option Grant :=
  s.hzn.grants.find? (fun g => g.context == c && g.handoff == handoff)

/-- Take a grant from those on their way. -/
def State.dropGrant (s : State) (g : Grant) : State := { s with hzn := { s.hzn with grants := s.hzn.grants.erase g } }

/-- CONTEXT_CLAIM (R192, R201): a granted claim reaches its context. -/
def execContextClaim (t : Nat) (ctx : Fin 1024) (s : State) : Host.Outcome State Fault Refusal :=
  let s := s.advance t
  match s.grantFor ctx false with
  | none => .next s
  | some g => .next ((s.dropGrant g).setContext ctx g.start)

/-- The reception of a hand-off's context is abandoned (R209): in SYNC or HEADER without a record, in PAYLOAD with a record of
status CAPTURED that ends at the candidate's time. -/
def State.abandon (s : State) (c : Nat) (x : Context) (time : Nat) : State :=
  match x.state with
  | .sync | .header => s.dmdCount x.profileIx (fun n => { n with capturedSilent := wrapAdd 32 n.capturedSilent 1 })
  | .payload =>
    (s.dmdCount x.profileIx (fun n => { n with capturedReported := wrapAdd 32 n.capturedReported 1 })).pushEnded c x 2 time
  | .ended => s

/-- R210: the reception of context c ended at its last air symbol at this very moment, and the candidate's time is not after
that symbol; the reception is abandoned after all. -/
def State.recapture (s : State) (c : Nat) (x : Context) (time : Nat) : State :=
  let hit := fun (e : Ended) => e.number == c && e.status == 0 && e.stop == s.now && decide (time ≤ e.stop) &&
    e.ctx.claimedAt == x.claimedAt
  if s.dmd.ended.any hit then
    ({ s with dmd := { s.dmd with
      ended := s.dmd.ended.map (fun e => if hit e then { e with status := 2, stop := time } else e) } }).dmdCount x.profileIx
        (fun n => { n with capturedReported := wrapAdd 32 n.capturedReported 1 })
  else s

/-- CAPTURE_HANDOFF (R189, R209, R210): the hand-off ends or drops the context's reception, if it has one, and the context starts
afresh on the candidate. -/
def execCaptureHandoff (t : Nat) (ctx : Fin 1024) (s : State) : Host.Outcome State Fault Refusal :=
  let s := s.advance t
  match s.grantFor ctx true with
  | none => .next s
  | some g =>
    let s := s.dropGrant g
    let s := match s.context ctx with
      | none => s
      | some x =>
        if x.active then (s.abandon ctx x g.cand.time).touchBins x.bin x.profile.half s.now
        else s.recapture ctx x g.cand.time
    .next (s.setContext ctx g.start)

/-- CONTEXT_RELEASE (R190): the release of a context that has left its reception reaches the map. -/
def execContextRelease (t : Nat) (ctx : Fin 1024) (s : State) : Host.Outcome State Fault Refusal :=
  let s := s.advance t
  match s.context ctx with
  | none => .next s
  | some x =>
    if x.active then .next s
    else .next { s with dmd := { s.dmd with contexts := Tab.erase s.dmd.contexts ctx } }

/-! ### SFD and header (R203, R204, R208) -/

/-- First and last instant at which the SFD or LTF may start (R203). -/
def Context.sfdSpan (x : Context) : Nat × Nat :=
  let tm := x.profile.mergeTime
  if x.profile.phy = 0 then (x.time, x.time + x.control.sfdWindow * tm)
  else
    let c := x.time + Config.preambleUnits x.profile.phy x.profile.mode
    (c - tm, c + tm)

/-- End of the search: the window, and the SFD of 16 symbols after it for SUN FSK. -/
def Context.sfdEnd (x : Context) : Nat := x.sfdSpan.2 + (if x.profile.phy = 0 then 16 * x.profile.mergeTime else 0)

/-- SFD_FOUND (R203, R212): the start of the SFD or LTF, at the stamp `t` and `sub` / 65,536 ns; what the record tells of that
instant is kept. -/
def execSfdFound (t : Nat) (ctx : Fin 1024) (sfd1 : Bool) (sub : Nat) (s : State) : Host.Outcome State Fault Refusal :=
  let s := s.advance t
  match s.context ctx with
  | none => .next s
  | some x =>
    let q := x.profile.params
    let two := sfd1 && x.profile.phy == 0 && u8 q 5 == 2
    if x.state ≠ .sync ∨ !inRange x.sfdSpan.1 t x.sfdSpan.2 then .next s
    else
      .next (s.setContext ctx { x with
        state := .header, toa := t, toaSub := sub % 65536, sfd1 := two
        coded := x.profile.phy == 0 && (if two then u8 q 6 / 2 % 2 == 1 else u8 q 6 % 2 == 1)
        gainEpoch := s.path.epoch, weightEpoch := s.beam.epoch, acqCount := s.radio.acqCount, loHz := s.loHz })

/-- SFD_WINDOW_EXPIRY (R203): no SFD in the window; the context is released with SFD_FAIL. -/
def execSfdWindowExpiry (t : Nat) (ctx : Fin 1024) (s : State) : Host.Outcome State Fault Refusal :=
  let s := s.advance t
  match s.context ctx with
  | none => .next s
  | some x =>
    if x.state ≠ .sync ∨ s.now < x.sfdEnd then .next s
    else .next ((s.endReception ctx x).dmdCount x.profileIx (fun n => { n with sfdFail := wrapAdd 32 n.sfdFail 1 }))

/-- How a header check ends. -/
inductive HeaderEnd where
  | pass | headerFail | modeSwitch | rateReject
deriving DecidableEq, Repr

/-- Octets of the FCS (R206). -/
def Context.fcsLen (x : Context) (h : PhrInfo) : Nat :=
  if x.profile.phy = 0 then (if h.fcs4 then 4 else 2) else x.control.fcsLen

/-- The checks of Table DMD-2, in order. -/
def Context.checkHeader (x : Context) (h : PhrInfo) : HeaderEnd :=
  let p := x.profile
  if !h.decoded then .headerFail
  else if p.phy ≠ 0 ∧ !h.hcsOk then .headerFail
  else if p.phy = 0 ∧ h.modeSwitch then .modeSwitch
  else if p.phy = 1 ∧ (!(u8 p.params 1).testBit h.submode || h.mdsss != (u8 p.params 2 == 1)) then .rateReject
  else if p.phy = 2 ∧ (!(u8 p.params 1).testBit h.submode || !(ofdmMcs p.mode).getLsbD h.submode) then .rateReject
  else if h.length < 1 ∨ p.maxPsdu < h.length ∨ h.length < x.fcsLen h then .headerFail
  else .pass

/-- The reception ends as DUPLICATE. -/
def State.endDuplicate (s : State) (c : Nat) (x : Context) : State :=
  (s.endReception c x).dmdCount x.profileIx (fun n => { n with duplicate := wrapAdd 32 n.duplicate 1 })

/-- R208: two contexts decode one packet where SFD stamps lie within T_M; the later-claimed goes, on equal epochs the higher
number. -/
def State.resolveDuplicate (s : State) (c : Nat) (x : Context) : State :=
  let twin := List.find? (fun (p : Nat × Context) => p.1 != c && p.2.state == .payload && p.2.profileIx == x.profileIx &&
    p.2.beam == x.beam && p.2.bin == x.bin && (p.2.dual || x.dual) && nearTime p.2.toa x.toa x.profile.mergeTime) s.dmd.contexts
  match twin with
  | none => s
  | some (d, y) =>
    if y.claimEpoch < x.claimEpoch ∨ (y.claimEpoch = x.claimEpoch ∧ d < c) then s.endDuplicate c x else s.endDuplicate d y

/-- HEADER_DECODED (R204): the checks of Table DMD-2; on a pass the context enters PAYLOAD. -/
def execHeaderDecoded (t : Nat) (ctx : Fin 1024) (phr : PhrInfo) (s : State) : Host.Outcome State Fault Refusal :=
  let s := s.advance t
  match s.context ctx with
  | none => .next s
  | some x =>
    if x.state ≠ .header then .next s
    else match x.checkHeader phr with
      | .pass =>
        let x := { x with state := .payload, phr := some phr, payloadAt := s.now }
        .next ((s.setContext ctx x).resolveDuplicate ctx x)
      | .headerFail =>
        .next ((s.endReception ctx x).dmdCount x.profileIx (fun n => { n with headerFail := wrapAdd 32 n.headerFail 1 }))
      | .modeSwitch =>
        .next ((s.endReception ctx x).dmdCount x.profileIx (fun n => { n with modeSwitch := wrapAdd 32 n.modeSwitch 1 }))
      | .rateReject =>
        .next ((s.endReception ctx x).dmdCount x.profileIx (fun n => { n with rateReject := wrapAdd 32 n.rateReject 1 }))

/-! ### The end of a reception (R201, R221) -/

/-- LAST_AIR_SYMBOL (R201): the reception goes to the back end; its metric at the end is `running`. -/
def execLastAirSymbol (t : Nat) (ctx : Fin 1024) (running : Int) (s : State) : Host.Outcome State Fault Refusal :=
  let s := s.advance t
  match s.context ctx with
  | none => .next s
  | some x =>
    if x.state ≠ .payload then .next s
    else
      let x := { x with running := running }
      .next ((s.endReception ctx x).pushEnded ctx x 0 t)

/-- LOST_SYNC (R221): the metric has stayed below THRESHOLD − 6 dB for LOSS_SYMBOLS symbols of PAYLOAD. -/
def execLostSync (t : Nat) (ctx : Fin 1024) (running : Int) (s : State) : Host.Outcome State Fault Refusal :=
  let s := s.advance t
  match s.context ctx with
  | none => .next s
  | some x =>
    if x.state ≠ .payload ∨ t < x.payloadAt + x.control.lossSymbols * x.profile.mergeTime ∨
        10 * (x.profile.threshold : Int) - 600 ≤ running then .next s
    else
      let x := { x with running := running }
      let s := (s.endReception ctx x).dmdCount x.profileIx (fun n => { n with lostSync := wrapAdd 32 n.lostSync 1 })
      .next (if x.control.report.getLsbD 1 then s.pushEnded ctx x 3 t else s)

/-! ### Records (R212 to R219) -/

/-- The air interval of a reception (R61). -/
def Ended.air (e : Ended) : Span := { start := e.ctx.time, stop := e.stop }

/-- FLAGS of Table DMD-6. -/
def State.recordFlags (s : State) (e : Ended) (signed : Bool) (b : BackEnd) : Nat :=
  let x := e.air
  (if signed then 1 else 0) +
    (if s.path.flagged.any (overlaps x) then 2 else 0) +
    (if s.blankedIn x then 4 else 0) +
    (if s.filt.flagged.any (fun p => overlaps x p.2) then 8 else 0) +
    (if s.beam.changes.any (fun c => c.2.getLsbD e.ctx.beam && decide (x.start ≤ c.1) && decide (c.1 < x.stop)) then 16 else 0) +
    (if s.ownOnlyIn x then 32 else 0) + (if e.ctx.dual then 64 else 0) + (if e.ctx.captureStart then 128 else 0) +
    (if b.saturated then 256 else 0)

/-- CODING. -/
def Ended.coding (e : Ended) (h : PhrInfo) : Nat :=
  let x := e.ctx
  let fsk := x.profile.phy == 0
  let fec := if fsk then x.coded else h.coded
  let inter := if fsk then x.coded && u8 x.profile.params 4 == 1 else h.interleaved
  (if fec then 1 else 0) + (if inter then 2 else 0) + (if h.whitened then 4 else 0) + (if x.fcsLen h = 4 then 8 else 0) +
    (if x.sfd1 then 16 else 0) + (if x.profile.phy = 1 ∧ h.mdsss then 32 else 0)

/-- The record of an ended reception (Table DMD-5), with its final status and SEQUENCE. -/
def State.packetRecord (s : State) (e : Ended) (status : Nat) (b : BackEnd) : List Byte :=
  let x := e.ctx
  let h := x.phr.getD { decoded := false, hcsOk := false, modeSwitch := false, submode := 0, mdsss := false, fcs4 := false,
                        whitened := false, coded := false, interleaved := false, length := 0, bits := 0#32 }
  let good := status == 0
  let withPsdu := decide (status ≤ 1)
  let signed := good && e.handle.isSome
  let psdu := if withPsdu then fit h.length b.psdu else []
  let pad := (8 - psdu.length % 8) % 8
  let ang := if good then e.angle.getD (-32768, -32768, 0xFFFF, 0xFFFF) else (-32768, -32768, 0xFFFF, 0xFFFF)
  let co := x.coarse.getD (-32768, -32768)
  let fec := e.coding h % 2
  le 2 (96 + psdu.length + pad) ++ le 1 1 ++ le 1 status ++ le 4 s.dmd.sequence ++ s.ts64Bytes x.toa ++ le 2 x.toaSub ++
    leSat 2 b.toaSigma ++ le 2 e.number ++ le 1 x.profileIx ++ le 1 x.beam ++ le 2 x.bin ++ le 2 h.length ++
    le 4 x.centreHz ++ leS 4 b.cfo ++ leS 2 b.rssi ++ leS 2 b.snr ++ leS 2 x.metric ++ leS 2 x.running ++
    leS 2 ang.1 ++ leS 2 ang.2.1 ++ leSat 2 ang.2.2.1 ++ leSat 2 ang.2.2.2 ++ leS 2 co.1 ++ leS 2 co.2 ++
    le 2 (if signed then e.handle.getD 0 else 0) ++ le 1 x.gainEpoch ++ le 1 x.weightEpoch ++ le 2 x.acqCount ++
    leSat 2 (if fec = 1 then b.fecCorrections else 0) ++ le 4 (s.recordFlags e signed b) ++ le 1 x.profile.phy ++
    le 1 x.profile.mode ++ le 1 (if x.profile.phy = 0 then 0 else h.submode) ++ le 1 (e.coding h) ++ le 4 h.bits.toNat ++
    leSat 4 (roundDiv ((e.stop - x.time : Nat) : Int) Config.ns).toNat ++ zeros 16 ++ psdu ++ zeros pad

/-- Write bytes into the packet pool from an offset on, round its end (Table STR-4). -/
def State.writePool (s : State) (off : Nat) (b : List Byte) : State :=
  let head := b.take (poolSize - off)
  let rest := b.drop (poolSize - off)
  { s with mem := memWriteBytes unlisted (memWriteBytes unlisted s.mem (0x1100_0000 + off) head) 0x1100_0000 rest }

/-- EV_DMD_RECORD_LOST, at most once per second, for records that found no room. -/
def State.recordLost (s : State) : State :=
  let n := s.dmd.lostSince + 1
  let due := match s.dmd.lostAt with | none => true | some a => decide (a + Config.sec ≤ s.now)
  let s := { s with dmd := { s.dmd with lostSince := if due then 0 else n, lostAt := if due then some s.now else s.dmd.lostAt } }
  if due then s.raiseEvent 0x0601 .warn (le 4 n ++ le 4 s.poolFree ++ zeros 8) else s

/-- A record is produced (R218, R219): it takes the next SEQUENCE and goes to the pool, or is discarded where the pool cannot
take all of it. -/
def State.produceRecord (s : State) (e : Ended) (status : Nat) (b : BackEnd) : State :=
  let rec' := s.packetRecord e status b
  let free := s.poolFree
  let s := { s with dmd := { s.dmd with sequence := wrapAdd 32 s.dmd.sequence 1 } }
  if free < rec'.length then
    (s.dmdCount e.ctx.profileIx (fun n => { n with poolFull := wrapAdd 32 n.poolFull 1 })).recordLost
  else
    let off := s.dmd.poolNext
    let s := s.writePool off rec'
    ({ s with dmd := { s.dmd with
      pool := s.dmd.pool ++ [(off, rec')], poolNext := (off + rec'.length) % poolSize } }).pull

/-- RECORD_COMPLETE (R206, R213, R218): the back end has finished with the reception of order `order`. -/
def execRecordComplete (t order : Nat) (x : BackEnd) (s : State) : Host.Outcome State Fault Refusal :=
  let s := s.advance t
  match s.dmd.ended.find? (fun e => e.order == order) with
  | none => .next s
  | some e =>
    let s := { s with dmd := { s.dmd with ended := s.dmd.ended.filter (fun y => y.order != order) } }
    if e.status ≠ 0 then .next (s.produceRecord e e.status x)
    else if x.fcsOk then
      .next ((s.dmdCount e.ctx.profileIx (fun n => { n with ok := wrapAdd 32 n.ok 1 })).produceRecord e 0 x)
    else
      let s := s.dmdCount e.ctx.profileIx (fun n => { n with fcsFail := wrapAdd 32 n.fcsFail 1 })
      .next (if e.ctx.control.report.getLsbD 0 then s.produceRecord e 1 x else s)

/-! ### Commands (R222, R223) -/

/-- The settings of a payload of Table DMD-10. -/
def parseControl (p : List Byte) : Control :=
  { report := BitVec.ofNat 2 (u8 p 1), sfdWindow := u16 p 2, fcsLen := u8 p 4, lossSymbols := u8 p 5 }

def setControlBody (r : Running) (s : State) : CmdEffect :=
  let p := r.cmd.payload
  if decide (u8 p 0 ≤ 7) && inRange 16 (u16 p 2) 8000 && (u8 p 4 == 2 || u8 p 4 == 4) && decide (8 ≤ u8 p 5) then
    .ok { s with dmd := { s.dmd with waiting := Tab.set s.dmd.waiting (u8 p 0) (parseControl p) } } []
  else .status s Status.badParam

/-- The envelope of DMD_SET_CONTROL. -/
def specDmdSetControl : CmdSpec := { opcode := 0x0601, minLen := fun _ => 8, rule := .managerOnly }

/-- DMD_SET_CONTROL: in force from the next epoch boundary (R223). -/
def execDmdSetControl (s : State) : Host.Outcome State Fault Refusal := runCommand specDmdSetControl setControlBody s

def getControlBody (r : Running) (s : State) : CmdEffect :=
  let n := u8 r.cmd.payload 0
  if 7 < n then .status s Status.badParam
  else
    let c := Tab.get s.dmd.controls n {}
    .ok s (le 1 n ++ le 1 c.report.toNat ++ le 2 c.sfdWindow ++ le 1 c.fcsLen ++ le 1 c.lossSymbols ++ zeros 2)

/-- The envelope of DMD_GET_CONTROL. -/
def specDmdGetControl : CmdSpec := { opcode := 0x0602, minLen := fun _ => 1, rule := .managerOnly }

/-- DMD_GET_CONTROL. -/
def execDmdGetControl (s : State) : Host.Outcome State Fault Refusal := runCommand specDmdGetControl getControlBody s

/-- The counters of one profile, in the order of Table DMD-9. -/
def DmdCounts.bytes (c : DmdCounts) : List Byte :=
  le 4 c.ok ++ le 4 c.fcsFail ++ le 4 c.sfdFail ++ le 4 c.headerFail ++ le 4 c.modeSwitch ++ le 4 c.rateReject ++
    le 4 c.duplicate ++ le 4 c.capturedReported ++ le 4 c.capturedSilent ++ le 4 c.lostSync ++ le 4 c.aborted ++
    le 4 c.poolFull ++ zeros 16

def dmdCountersBody (r : Running) (s : State) : CmdEffect :=
  let out := ((List.range 8).map (fun n => (Tab.get s.dmd.counts n {}).bytes)).flatten ++ le 4 s.dmd.sequence ++ le 4 s.poolFree
  .ok (if u8 r.cmd.payload 0 % 2 = 1 then { s with dmd := { s.dmd with counts := [] } } else s) out

/-- The envelope of DMD_GET_COUNTERS. -/
def specDmdGetCounters : CmdSpec := { opcode := 0x0603, minLen := fun _ => 1, rule := .managerOnly }

/-- DMD_GET_COUNTERS. -/
def execDmdGetCounters (s : State) : Host.Outcome State Fault Refusal := runCommand specDmdGetCounters dmdCountersBody s

/-- Context c is shown not FREE: from its claim until its release has reached the map (Table DMD-1, R190). -/
def State.contextMap (s : State) : BitVec 1024 := maskOf 1024 (s.dmd.contexts.map (fun p => p.1))

def getContextsBody (_ : Running) (s : State) : CmdEffect :=
  let m := s.contextMap
  .ok s (le 128 m.toNat ++ (List.range 32).map (fun e =>
    if s.engineOut e then 0#8
    else BitVec.ofNat 8 (32 - (s.dmd.contexts.filter (fun p => p.1 / 32 == e)).length)))

/-- The envelope of DMD_GET_CONTEXTS. -/
def specDmdGetContexts : CmdSpec := { opcode := 0x0604, rule := .managerOnly }

/-- DMD_GET_CONTEXTS. -/
def execDmdGetContexts (s : State) : Host.Outcome State Fault Refusal := runCommand specDmdGetContexts getContextsBody s

end Sys2Proof.Machine
end

