-- ==== Sys2Proof/Machine/Dpd.lean ====
section
/-!
DEFINITION. Pre-distortion and aerials (spec/10), with the grant of the observation selection (R77).
-/

namespace Sys2Proof.Machine

open Sys2Proof

/-! ### The pre-distorter (R257) -/

/-- Path p. -/
def Dpd.path (d : Dpd) (p : Nat) : DpdPath := Tab.get d.paths p {}

/-- Change path p. -/
def State.setDpd (s : State) (p : Nat) (f : DpdPath → DpdPath) : State :=
  { s with dpd := { s.dpd with paths := Tab.set s.dpd.paths p (f (s.dpd.path p)) } }

/-- The identity's table of branch k and tap m. -/
def identityTable (km : Nat) : List Cplx := List.replicate 64 (if km = 0 then ⟨16384, 0⟩ else Cplx.zero)

/-- Table of branch k, tap m, by 4k + m. -/
def tableOf (t : DpdTables) (km : Nat) : List Cplx := (Tab.find? t km).getD (identityTable km)

/-- The envelope |x| · 63 / 32,767 clamped at 63, as a whole entry and a fraction in 1/2^32. -/
def envelope (x : Cplx) : Nat × Nat :=
  let v := isqrt ((x.i * x.i + x.q * x.q).toNat * 2 ^ 64) * 63 / 32767
  if 63 * 2 ^ 32 ≤ v then (63, 0) else (v / 2 ^ 32, v % 2 ^ 32)

/-- A table read with linear interpolation at an envelope, scaled by 2^32. -/
def readTable (g : List Cplx) (e : Nat × Nat) : Cplx :=
  let a := g.getD e.1 Cplx.zero
  let b := g.getD (e.1 + 1) Cplx.zero
  ⟨a.i * 2 ^ 32 + (b.i - a.i) * e.2, a.q * 2 ^ 32 + (b.q - a.q) * e.2⟩

/-- One output sample of the pre-distorter (R257): `x` the inputs, newest first, `d` the envelope delays; true where it
saturated. -/
def predistort (t : DpdTables) (d : List Nat) (x : List Cplx) : Cplx × Bool :=
  let terms := (List.range 4).flatMap (fun k => (List.range 4).map (fun m =>
    cplxMul (x.getD m Cplx.zero) (readTable (tableOf t (4 * k + m)) (envelope (x.getD (m + d.getD k 0) Cplx.zero)))))
  let sum := terms.foldl (fun (a : Cplx) b => ⟨a.i + b.i, a.q + b.q⟩) Cplx.zero
  let i := roundShift sum.i 46
  let q := roundShift sum.q 46
  (⟨satSym 16 i, satSym 16 q⟩, saturated 16 i || saturated 16 q)

/-! ### Paths that take part -/

/-- Paths that a tuning window covers, from its START until 10 us after its end (R272). -/
def State.tuning (s : State) : Mask64 :=
  match s.dpd.excludedEnd with
  | some e => if e ≤ s.now then 0#64 else s.dpd.excluded
  | none => s.dpd.excluded

/-- Bursts whose samples now lie between t2 and t3. -/
def State.inFrame (s : State) : List Launch :=
  s.tx.queue.filter (fun b => b.phase == .frame && decide (s.launchAt b + b.tr ≤ s.now) && decide (s.now ≤ s.frameEnd b))

/-- Path p takes part in a burst in its frame with a level L_p,r of at least −30 dBFS (R261, R267). -/
def State.audible (s : State) (p : Nat) : Bool :=
  s.path.txMask.getLsbD p && !s.spare.txRetired.getLsbD p &&
    s.inFrame.any (fun b => decide (2 ^ 178 ≤ 1000 * (s.pathPowers b.req).getD p 0))

/-- The thermal throttle is in force. -/
def State.throttled (s : State) : Bool := s.thermal.throttle

/-- Path p adapts now (R261, R263). -/
def State.adapts (s : State) (p : Nat) : Bool :=
  (s.dpd.path p).mode == 2 && !s.tuning.getLsbD p && !s.throttled && s.audible p

/-! ### The observation selection (R77) -/

/-- Rank of a user of the observation selection. -/
def ObsUser.rank : ObsUser → Nat
  | .halo => 0 | .mismatch => 1 | .dpd => 2 | .cal => 3

/-- The highest-ranked user of a list. -/
def bestUser : List ObsUser → Option ObsUser
  | [] => none
  | u :: r => match bestUser r with
    | none => some u
    | some v => if v.rank < u.rank then some v else some u

/-- A span has passed since an instant. -/
def passed (since : Option Nat) (d now : Nat) : Bool :=
  match since with
  | none => true
  | some a => decide (a + d ≤ now)

/-- The tuning window is open at now. -/
def State.tuneOpen (s : State) : Bool := match s.dpd.window with | some w => w.opened | none => false

/-- Mismatch measurement wants the selection: a burst's frame, and a quarter period since the last (R267), or a search (R273). -/
def State.mismatchWants (s : State) : Bool :=
  !s.inFrame.isEmpty &&
    ((s.dpd.mismatchOn && passed s.dpd.mismatchAt (s.dpd.periodMs * Config.ms / 4) s.now) ||
      (match s.dpd.window with | some w => w.opened && w.search | none => false))

/-- Adaptation wants it: a path of the selection adapts, in a frame long enough, 780 us after the last capture began. -/
def State.dpdWants (s : State) : Bool :=
  s.inFrame.any (fun b => decide ((s.dpd.captureUs + 2) * Config.us ≤ b.frame)) &&
    passed s.dpd.captureAt (780 * Config.us) s.now &&
    (List.range 16).any (fun n => s.adapts (4 * n + s.dpd.selection))

/-- Calibration wants it: a kind that measures through the observation receivers runs. -/
def State.calWants (s : State) : Bool := [3, 4, 5, 8].any (fun k => (s.cal.kind k).run.isSome)

/-- Every user that waits for the selection or wants it. -/
def State.obsUsers (s : State) : List ObsUser :=
  s.path.obsWaiting ++ (if s.mismatchWants then [.mismatch] else []) ++ (if s.dpdWants then [.dpd] else []) ++
    (if s.calWants then [.cal] else [])

/-- A user other than Halo has given the selection back at the latest 250 us after taking it. -/
def State.obsExpire (s : State) : State :=
  match s.path.obsOwner with
  | none | some .halo => s
  | some u => if s.path.obsSince + 250 * Config.us ≤ s.now then s.releaseObs u else s

/-- OBS_SELECTION_GRANT (R77): the selection goes to the highest-ranked user that wants it, unless a holder keeps it. Adaptation and
mismatch bring their own selection, in the forward direction; `m` and `dir` are those of a calibration. A Halo capture that
waited for it goes on arming (R446). -/
def execObsSelectionGrant (t : Nat) (m : BitVec 2) (dir : BitVec 1) (s : State) : Host.Outcome State Fault Refusal :=
  let s := (s.advance t).obsExpire
  match s.path.obsOwner with
  | some _ => .next s
  | none =>
    match bestUser s.obsUsers with
    | none => .next s
    | some u =>
      let s := { s with path := { s.path with
        obsOwner := some u, obsSince := s.now, obsWaiting := s.path.obsWaiting.filter (fun v => !(v == u)) } }
      match u with
      | .cal => .next { s with pins := { s.pins with obssel := m, obsdir := dir } }
      | .dpd => .next { s with pins := { s.pins with obssel := BitVec.ofNat 2 s.dpd.selection, obsdir := 0#1 } }
      | .mismatch => .next { s with
          dpd := { s.dpd with mismatchAt := some s.now }
          pins := { s.pins with obssel := BitVec.ofNat 2 s.dpd.mismatchSel, obsdir := 0#1 } }
      | .halo =>
        -- the lowest OBS slot that arms takes it, with its own selection (R446)
        match List.find? (fun (p : Nat × HaloSlot) => p.2.state == .arming && p.2.cfg.kind == 3) s.halo.slots with
        | none => .next (s.releaseObs .halo)
        | some p => .next { s with
            halo := { s.halo with obsSlot := some p.1 }
            pins := { s.pins with obssel := p.2.cfg.obsSel.setWidth 2, obsdir := (p.2.cfg.obsSel >>> 2).setWidth 1 } }

/-! ### Adaptation (R260 to R265) -/

/-- One path's part in a capture: its NMSE is kept, and the first captures after an update are judged against those before. -/
def State.noteCapture (s : State) (p : Nat) (nmse : Int) : State :=
  let n := s.dpd.snapCount
  let d := s.dpd.path p
  let d := { d with captures := d.captures + 1, nmse := (nmse :: d.nmse).take 64, since := d.since + 1 }
  match d.nmseBefore, meanOf (d.nmse.take n) with
  | some b, some a =>
    if d.since < n then s.setDpd p (fun _ => d)
    else if a ≤ b + 100 then s.setDpd p (fun _ => { d with nmseBefore := none })
    else
      let s := s.setDpd p (fun _ => { d with
        nmseBefore := none, pending := some d.previous, eligible := true, adapted := false, reverted := satAdd 16 d.reverted 1 })
      s.raiseEvent 0x0802 .notice (le 1 p ++ zeros 1 ++ leS 2 b ++ leS 2 a ++ zeros 10)
  | _, _ => s.setDpd p (fun _ => d)

/-- The capture ends: the selection goes back; after SNAP_COUNT captures adaptation moves to the next selection. -/
def State.endCapture (s : State) : State :=
  let full := decide (s.dpd.snapCount ≤ s.dpd.taken + 1)
  let s := { s with dpd := { s.dpd with
    captureAt := some (s.now - s.dpd.captureUs * Config.us)
    taken := if full then 0 else s.dpd.taken + 1
    selection := if full then (s.dpd.selection + 1) % 4 else s.dpd.selection } }
  s.releaseObs .dpd

/-- DPD_ADAPT_CAPTURE (R261, R264): a capture of the present selection ends at `t`; `nmse` are the measured values by path. Its
samples lie between t2 and t3 of one burst, 2 us after the lines moved, and within 250 us of the grant. -/
def execDpdAdaptCapture (t : Nat) (nmse : List (Nat × Int)) (s : State) : Host.Outcome State Fault Refusal :=
  let s := s.advance t
  if s.path.obsOwner ≠ some ObsUser.dpd then .next s
  else
    let start := s.now - s.dpd.captureUs * Config.us
    let good := s.inFrame.any (fun b => decide (s.launchAt b + b.tr ≤ start)) &&
      decide (s.path.obsSince + 2 * Config.us ≤ start) && decide (s.now ≤ s.path.obsSince + 250 * Config.us)
    if !good then .next (s.releaseObs .dpd)
    else
      let mine := nmse.filter (fun x => decide (x.1 < 64) && x.1 % 4 == s.dpd.selection && s.adapts x.1)
      .next ((mine.foldl (fun s x => s.noteCapture x.1 x.2) s).endCapture)

/-- The small-signal response at a frequency offset in Hz, scaled by 2^60: Σ G(0) exp(−j2πfm/153.6 MHz). -/
def smallSignal (tabs : List (List Cplx)) (freqHz : Int) : Cplx :=
  ((List.range 16).zip tabs).foldl (fun (a : Cplx) x =>
    let ph := (-(freqHz * ((x.1 % 4 : Nat) : Int) * 2 ^ 32)).ediv 153600000
    let g := x.2.getD 0 Cplx.zero
    let v := cplxMul g ⟨fxCos ph, fxSin ph⟩
    ⟨a.i + v.i, a.q + v.q⟩) Cplx.zero

/-- The tables scaled to a small-signal response of unit magnitude; none where that response is zero. -/
def unitGain (tabs : List (List Cplx)) (freqHz : Int) : Option (List (List Cplx)) :=
  let r := smallSignal tabs freqHz
  let m := isqrt ((r.i * r.i + r.q * r.q).toNat / 2 ^ 60)
  -- m is the magnitude scaled by 2^30 over Q2.14
  if m = 0 then none
  else some (tabs.map (fun g => g.map (fun c => cplxScale c (16384 * 2 ^ 30) m)))

/-- The sum over branches and taps at one index. -/
def sumAt (tabs : List (List Cplx)) (i : Nat) : Cplx :=
  tabs.foldl (fun (a : Cplx) g => ⟨a.i + (g.getD i Cplx.zero).i, a.q + (g.getD i Cplx.zero).q⟩) Cplx.zero

/-- Peak expansion: at every index where the sum exceeds `lim` (Q2.14 scaled by 2^16), all entries of that index are scaled down;
the number of such indices. -/
def limitPeaks (lim : Nat) (tabs : List (List Cplx)) : List (List Cplx) × Nat :=
  let large := (List.range 64).filterMap (fun i =>
    let m := cplxMag (sumAt tabs i)
    if lim < m then some (i, m) else none)
  (tabs.map (fun g => ((List.range 64).zip g).map (fun x =>
    match large.find? (fun o => o.1 == x.1) with
    | some o => cplxScale x.2 lim o.2
    | none => x.2)), large.length)

/-- 10^(PEAK_EXP/20) in Q2.14 scaled by 2^16. -/
def peakLimit (tenths : Nat) : Nat := ((pow10 (tenths : Int) 200) * 2 ^ 30 / fxOne).toNat

/-- DPD_SOLVE_DONE (R260, R262): the solve of path p over its SNAP_COUNT captures; `tables` are the least-squares result, branch by
branch, 16 of 64 entries, and `freqHz` the frequency observed less the LO. -/
def execDpdSolveDone (t : Nat) (p : Fin 64) (tables : List (List Cplx)) (freqHz : Int) (s : State) :
    Host.Outcome State Fault Refusal :=
  let s := s.advance t
  let d := s.dpd.path p
  if d.mode ≠ 2 ∨ d.captures < s.dpd.snapCount ∨ s.tuning.getLsbD p ∨ s.spare.txRetired.getLsbD p ∨ s.throttled then .next s
  else
    let tabs := (List.range 16).map (fun k => (List.range 64).map (fun i => (tables.getD k []).getD i Cplx.zero))
    match unitGain tabs freqHz with
    | none => .next (s.setDpd p (fun d => { d with captures := 0 }))
    | some u =>
      let r := limitPeaks (peakLimit s.dpd.peakExp) u
      let set : DpdTables := (List.range 16).zip (r.1.map (fun g => g.map (fun c => ⟨satSym 16 c.i, satSym 16 c.q⟩)))
      .next (s.setDpd p (fun d => { d with
        captures := 0, pending := some set, eligible := true, adapted := true, clipped := r.2 }))

/-- Transmit activity of path p since its last update, the bursts in progress included. -/
def State.dpdAge (s : State) (p : Nat) : Nat :=
  let live := if s.path.txMask.getLsbD p then
      s.tx.queue.foldl (fun n b => if b.phase.radiating then n + (s.now - s.launchAt b) else n) 0
    else 0
  (s.dpd.path p).age + live

/-- DPD_STALE (R265). -/
def execDpdStale (t : Nat) (p : Fin 64) (s : State) : Host.Outcome State Fault Refusal :=
  let s := s.advance t
  let d := s.dpd.path p
  let age := s.dpdAge p
  if d.mode ≠ 2 ∨ d.staleTold ∨ age < s.dpd.staleMs * Config.ms then .next s
  else
    let s := s.setDpd p (fun d => { d with staleTold := true })
    .next (s.raiseEvent 0x0801 .warn (le 1 p ++ zeros 3 ++ leSat 4 (age / Config.ms) ++ zeros 8))

/-! ### Mismatch (R267 to R269, Table DPD-1) -/

/-- RL_avg in 0.01 dB over the last measurements; none of none. -/
def rlAverage (l : List Int) : Option Int :=
  if l.isEmpty then none
  else
    let sum := l.foldl (fun a r => a + pow10 (-r) 1000) 0
    let mean := (roundDiv sum l.length).toNat
    if mean = 0 then none else some (-(centiDb mean (2 ^ 60)))

/-- The state after a judgement: at most one step. -/
def Mismatch.judge (m : Mismatch) (rl : Int) : Mismatch :=
  match m with
  | .normal => if rl < 950 then .warn else .normal
  | .warn => if rl < 600 then .derate else if 1050 ≤ rl then .normal else .warn
  | .derate => if rl < 350 then .retired else if 700 ≤ rl then .warn else .derate
  | .retired => .retired

/-- Code of a mismatch state. -/
def Mismatch.code : Mismatch → Nat
  | .normal => 0 | .warn => 1 | .derate => 2 | .retired => 3

/-- Effective attenuation of a path once its changes are in force (R269). -/
def State.attenAfter (s : State) (p : Nat) (derate : Bool) : Nat :=
  let a := (Tab.find? s.path.attenNext p).getD (Tab.get s.path.atten p 0)
  if derate then Nat.min 15 (a + 6) else a

/-- A path is judged (R268): the new state's action is taken and told. -/
def State.judgeMismatch (s : State) (p : Nat) (rl : Int) : State :=
  let old := (s.dpd.path p).mismatch
  let new := old.judge rl
  if new = old then s
  else
    let s := s.setDpd p (fun d => { d with mismatch := new })
    let s := if new = .derate then (s.setDerate p true).discardCaptures (bitAt 64 p)
      else if old = .derate then (s.setDerate p false).discardCaptures (bitAt 64 p) else s
    let s := s.raiseEvent 0x0803 (if new = .retired then .error else .warn)
      (le 1 p ++ le 1 new.code ++ leS 2 rl ++ le 1 (s.attenAfter p (decide (new = .derate))) ++ zeros 3 ++ s.ts64Bytes s.now)
    if new = .retired then s.retirePaths (bitAt 64 p) 2 0 else s

/-- A reading in 0.01 dBFS as dBm at OBSIN (R75): full scale is −4 dBm plus the attenuation in dB. -/
def obsDbm (reading : Int) (attenDb : Nat) : Int := reading + 100 * ((attenDb : Int) - 4)

/-- One path's forward and reverse readings. -/
def State.noteMismatch (s : State) (p : Nat) (fwd rev : Int) : State :=
  let att := 2 * Tab.get s.path.obsAtten (p / 4) 10
  let rl := obsDbm fwd att - obsDbm rev (2 * s.dpd.revAtten) + Tab.get s.dpd.offsets p 0
  let s := s.setDpd p (fun d => { d with rl := (rl :: d.rl).take 4 })
  match rlAverage (s.dpd.path p).rl with
  | some a => s.judgeMismatch p a
  | none => s

/-- MISMATCH_MEASUREMENT (R267, R268): one holding of the selection ends; by path, the forward and reverse readings in 0.01 dBFS. -/
def execMismatchMeasurement (t : Nat) (readings : List (Nat × Int × Int)) (s : State) : Host.Outcome State Fault Refusal :=
  let s := s.advance t
  if s.path.obsOwner ≠ some ObsUser.mismatch then .next s
  else
    let m := s.dpd.mismatchSel
    let mine := readings.filter (fun x => decide (x.1 < 64) && x.1 % 4 == m && !s.tuning.getLsbD x.1 && s.audible x.1)
    let s := mine.foldl (fun s x => s.noteMismatch x.1 x.2.1 x.2.2) s
    let s := { s with dpd := { s.dpd with mismatchSel := (m + 1) % 4 }, pins := { s.pins with obsdir := 0#1 } }
    .next (s.releaseObs .mismatch)

/-! ### RFFE (R276, R277) -/

/-- A transaction reaches its bus. -/
def State.rffe (s : State) (bus : Nat) (x : RffeXfer) : State :=
  { s with dpd := { s.dpd with buses := Tab.set s.dpd.buses bus (Tab.get s.dpd.buses bus [] ++ [x]) } }

/-- Write codes to a path's tuner. -/
def State.writeCodes (s : State) (p : Nat) (codes : List (Nat × Nat)) : State :=
  match Tab.find? s.dpd.tuners p with
  | none => s
  | some u => codes.foldl (fun s x => s.rffe (p / 4)
      { kind := 3, usid := u.usid, count := 1, address := u.regs.getD x.1 0, data := [BitVec.ofNat 8 x.2] }) s

/-- Change a path of the window's search. -/
def State.setTune (s : State) (p : Nat) (f : TunePath → TunePath) : State :=
  { s with dpd := { s.dpd with window := s.dpd.window.map (fun w =>
      match Tab.find? w.paths p with
      | some x => { w with paths := Tab.set w.paths p (f x) }
      | none => w) } }

/-- A tuner read has ended: the element's present code, or a parity failure that stops the window on the path. -/
def State.tunerReadDone (s : State) (p addr : Nat) (v : Nat) (good : Bool) : State :=
  let s := if good then s else { s with dpd := { s.dpd with window := s.dpd.window.map (fun w => { w with fault := true }) } }
  match Tab.find? s.dpd.tuners p with
  | none => s
  | some u =>
    let ks := (List.range u.regs.length).filter (fun k => u.regs.getD k 0 == addr)
    let last := !((Tab.get s.dpd.buses (p / 4) []).any (fun x => x.tunerRead == some p))
    s.setTune p (fun x =>
      if good then { x with
        start := ks.foldl (fun l k => l.set k v) x.start, code := ks.foldl (fun l k => l.set k v) x.code
        read := x.read || last }
      else { x with stopped := true })

/-- A transaction whose command waits is answered: OK with the data at 0x08, or RFFE_PARITY. -/
def State.xferReply (s : State) (order : Nat) (rep : List Byte → Reply) : State :=
  match s.cmd.running.find? (fun r => r.order == order) with
  | none => s
  | some r =>
    match r.phase with
    | .deferred own => s.respond r (rep own.payload)
    | .relayed (some own) rel => s.tryFinishRelay r (some (rep own.payload)) rel
    | _ => s

/-- A sequence reads. -/
def rffeReads (kind : Nat) : Bool := kind == 2 || kind == 4 || kind == 6

/-- RFFE_TRANSACTION_DONE (R276, R277): the transaction at the front of a bus ends, a read with its data or a parity failure. -/
def execRffeTransactionDone (t : Nat) (bus : Fin 16) (data : List Byte) (parityOk : Bool) (s : State) :
    Host.Outcome State Fault Refusal :=
  let s := s.advance t
  match Tab.get s.dpd.buses bus [] with
  | [] => .next s
  | x :: rest =>
    let reads := rffeReads x.kind
    let good := parityOk || !reads
    let s := { s with dpd := { s.dpd with
      buses := Tab.set s.dpd.buses bus rest, parity := if good then s.dpd.parity else satAdd 16 s.dpd.parity 1 } }
    let s := match x.tunerRead with
      | some p => s.tunerReadDone p x.address ((data.getD 0 0#8).toNat) good
      | none => s
    match x.owner with
    | none => .next s
    | some o =>
      let got := if reads then fit 16 (fit x.count data) else zeros 16
      .next (s.xferReply o (fun own => if good then ⟨Status.ok, own.take 8 ++ got⟩ else ⟨Status.rffeParity, []⟩))

/-! ### Tuning windows (R270 to R275) -/

/-- The next trial of a path, if it has one: the element and the code; `n` bounds the moves to another direction, element or
step (R273). -/
def TunePath.next (maxes : List Nat) : Nat → TunePath → TunePath × Option (Nat × Nat)
  | 0, x => (x, none)
  | n + 1, x =>
    if x.stopped then (x, none)
    else if maxes.length ≤ x.element then
      if x.improved then
        TunePath.next maxes n { x with element := 0, down := false, moved := false, improved := false }
      else if x.step.all (fun d => decide (d ≤ 1)) then ({ x with stopped := true }, none)
      else
        TunePath.next maxes n { x with
          element := 0, down := false, moved := false, step := x.step.map (fun d => Nat.max 1 (d / 2)) }
    else
      let c := x.code.getD x.element 0
      let d := x.step.getD x.element 1
      if !x.down then
        if c + d ≤ maxes.getD x.element 0 then (x, some (x.element, c + d))
        else if x.moved then TunePath.next maxes n { x with element := x.element + 1, moved := false }
        else TunePath.next maxes n { x with down := true }
      else if d ≤ c then (x, some (x.element, c - d))
      else TunePath.next maxes n { x with element := x.element + 1, down := false, moved := false }

/-- Moves enough to reach a trial or the end: every step from 31 to 1, both directions of four elements. -/
def tuneMoves : Nat := 100

/-- The measured ratio of a trial is judged: kept where it falls by 0.1 dB or more, else the direction is left. -/
def TunePath.judge (x : TunePath) (tr : Nat × Nat) (ratio : Int) : TunePath × Bool :=
  match x.best with
  | none => ({ x with best := some ratio }, false)
  | some b =>
    if ratio ≤ b - 10 then
      ({ x with code := x.code.set tr.1 tr.2, best := some ratio, moved := true, improved := true }, true)
    else if !x.down && !x.moved then ({ x with down := true }, false)
    else ({ x with element := x.element + 1, down := false, moved := false }, false)

/-- One path's measure: the first is of the codes found at START; each later one is of a trial that has been written. -/
def State.tuneMeasure (s : State) (p : Nat) (ratio : Int) : State :=
  match s.dpd.window, Tab.find? s.dpd.tuners p with
  | some w, some u =>
    match Tab.find? w.paths p with
    | none => s
    | some x =>
      if !x.read || x.stopped then s
      else if x.best.isNone then
        s.setTune p (fun _ => (TunePath.next u.codeMax tuneMoves { x with best := some ratio }).1)
      else
        let n := TunePath.next u.codeMax tuneMoves x
        match n.2 with
        | none => s.setTune p (fun _ => n.1)
        | some tr =>
          let j := n.1.judge tr ratio
          let s := s.writeCodes p [tr]
          let s := if j.2 then s else s.writeCodes p [(tr.1, x.code.getD tr.1 0)]
          let s := s.setTune p (fun _ => (TunePath.next u.codeMax tuneMoves j.1).1)
          { s with dpd := { s.dpd with window := s.dpd.window.map (fun w => { w with trials := w.trials + 1 }) } }
  | _, _ => s

/-- TUNER_TRIAL (R273): one holding of the selection in a burst measures the reflection ratio, in 0.01 dB, of the trial codes of
paths of the selection. -/
def execTunerTrial (t : Nat) (ratios : List (Nat × Int)) (s : State) : Host.Outcome State Fault Refusal :=
  let s := s.advance t
  let searching := match s.dpd.window with | some w => w.opened && w.search | none => false
  if s.path.obsOwner ≠ some ObsUser.mismatch ∨ !searching then .next s
  else
    let mine := ratios.filter (fun x => x.1 % 4 == s.dpd.mismatchSel && s.audible x.1)
    let s := mine.foldl (fun s x => s.tuneMeasure x.1 x.2) s
    let s := { s with dpd := { s.dpd with mismatchSel := (s.dpd.mismatchSel + 1) % 4 }, pins := { s.pins with obsdir := 0#1 } }
    .next (s.releaseObs .mismatch)

/-- The effective weights of beams that use the paths change at `t` (R156, R272). -/
def State.weightsChange (s : State) (m : Mask64) (t : Nat) : State :=
  { s with beam := { s.beam with changes := (t, s.beamsUsing m) :: s.beam.changes } }

/-- TUNE_WINDOW_START (R271, R272): the window opens; the present codes are read. -/
def execTuneWindowStart (s : State) : Host.Outcome State Fault Refusal :=
  match s.dpd.window with
  | none => .next s
  | some w =>
    if w.opened then .next s
    else
      let s := s.advance w.start
      let ps := bitsOf w.mask
      let fresh := ps.map (fun p =>
        let u := Tab.get s.dpd.tuners p { usid := 0, aux := 0xFF, regs := [], codeMax := [] }
        (p, ({ start := u.codeMax.map (fun _ => 0), code := u.codeMax.map (fun _ => 0)
               step := u.codeMax.map (fun c => Nat.max 1 (c / 8)), stopped := !w.search } : TunePath)))
      let s := { s with dpd := { s.dpd with
        window := some { w with opened := true, start := s.now, paths := fresh }
        excluded := w.mask, excludedEnd := none } }
      let s := (s.discardCaptures w.mask).weightsChange w.mask s.now
      .next (ps.foldl (fun s p =>
        match Tab.find? s.dpd.tuners p with
        | none => s
        | some u => u.regs.foldl (fun s a => s.rffe (p / 4)
            { kind := 4, usid := u.usid, count := 1, address := a, data := [], tunerRead := some p }) s) s)

/-- The open window ends with a RESULT (R275): changed paths are kept out of older signatures and recalibrated. -/
def State.endTuning (s : State) (w : TuneWindow) (result : Nat) : State :=
  let changed := maskOf 64 ((w.paths.filter (fun p => p.2.read && p.2.code != p.2.start)).map (fun p => p.1))
  let stop : Int := s.deviceNow
  let s := { s with dpd := { s.dpd with
    window := none, excludedEnd := some (s.now + 10 * Config.us)
    tunedAt := (bitsOf changed).foldl (fun t p => Tab.set t p stop) s.dpd.tunedAt
    paths := Tab.mapVals s.dpd.paths (fun p d => if changed.getLsbD p then { d with rl := [] } else d) } }
  let s := s.weightsChange w.mask (s.now + 10 * Config.us)
  let s := if changed = 0#64 then s else s.startRuns 5 [7, 8] changed false
  s.raiseEvent 0x0804 .info (le 8 changed.toNat ++ le 1 result ++ zeros 1 ++ leSat 2 w.trials ++
    leSat 4 ((s.now - w.start) / Config.us))

/-- TUNE_WINDOW_END (R275): at START + DURATION_MS, or once every searched path has converged. -/
def execTuneWindowEnd (t : Nat) (s : State) : Host.Outcome State Fault Refusal :=
  match s.dpd.window with
  | none => .next s
  | some w =>
    let stop := w.start + w.durationMs * Config.ms
    let done := w.search && w.paths.all (fun p => p.2.stopped)
    let s := s.advance (Nat.min t stop)
    if !w.opened || (!done && decide (s.now < stop)) then .next s
    else .next (s.endTuning w (if w.fault then 3 else if done then 0 else 1))

/-! ### Commands (R278, Tables DPD-3 to DPD-5) -/

def dpdSetModeBody (r : Running) (s : State) : CmdEffect :=
  let p := r.cmd.payload
  let env := (List.range 4).map (fun k => u8 p (0x10 + k))
  if decide (u8 p 8 ≤ 2) && inRange 4 (u8 p 9) 64 && inRange 20 (u16 p 0xA) 200 && inRange 100 (u16 p 0xC) 60000 &&
      decide (u8 p 0xE ≤ 60) && env.all (fun d => decide (d ≤ 7)) then
    .ok { s with dpd := { s.dpd with
      paths := Tab.update s.dpd.paths (bitsOf (mask64 p 0)) {} (fun _ d => { d with modeNext := some (u8 p 8) })
      snapCount := u8 p 9, captureUs := u16 p 0xA, staleMs := u16 p 0xC, peakExp := u8 p 0xE, envNext := some env } } []
  else .status s Status.badParam

/-- The envelope of DPD_SET_MODE. -/
def specDpdSetMode : CmdSpec := { opcode := 0x0801, minLen := fun _ => 0x14 }

/-- DPD_SET_MODE: modes and envelope delays become active at t1 of a burst (R258). -/
def execDpdSetMode (s : State) : Host.Outcome State Fault Refusal := runCommand specDpdSetMode dpdSetModeBody s

def dpdLoadBody (r : Running) (s : State) : CmdEffect :=
  let p := r.cmd.payload
  let path := u8 p 0
  let k := u8 p 1
  match firstFailure
      [(decide (path ≤ 63) && decide (k ≤ 3), Status.badParam), ((s.dpd.path path).mode != 2, Status.wrongState)] with
  | some st => .status s st
  | none =>
    let table := fun (m : Nat) => (List.range 64).map (fun i => pairAt p (8 + 256 * m + 4 * i))
    .ok (s.setDpd path (fun d => { d with
      pending := some ((List.range 4).foldl (fun t m => Tab.set t (4 * k + m) (table m)) (d.pending.getD d.tables))
      eligible := d.eligible || u8 p 2 % 2 == 1, adapted := false })) []

/-- The envelope of DPD_LOAD_TABLES. -/
def specDpdLoadTables : CmdSpec := { opcode := 0x0802, minLen := fun _ => 8 + 1024 }

/-- DPD_LOAD_TABLES (R259). -/
def execDpdLoadTables (s : State) : Host.Outcome State Fault Refusal := runCommand specDpdLoadTables dpdLoadBody s

def dpdReadBody (r : Running) (s : State) : CmdEffect :=
  let p := r.cmd.payload
  let k := u8 p 1
  if 63 < u8 p 0 ∨ 3 < k then .status s Status.badParam
  else
    let t := (s.dpd.path (u8 p 0)).tables
    let g := (List.range 4).flatMap (fun m => (tableOf t (4 * k + m)).flatMap (fun c => leS 2 c.i ++ leS 2 c.q))
    .ok s (bytesAt p 0 2 ++ zeros 6 ++ g)

/-- The envelope of DPD_READ_TABLES. -/
def specDpdReadTables : CmdSpec := { opcode := 0x0803, minLen := fun _ => 4 }

/-- DPD_READ_TABLES: the active tables of one branch. -/
def execDpdReadTables (s : State) : Host.Outcome State Fault Refusal := runCommand specDpdReadTables dpdReadBody s

/-- One path of DPD_GET_STATUS; the NMSE of a path with no capture yet is a free value. -/
def State.dpdStatus (s : State) (p : Nat) : List Byte × State :=
  let d := s.dpd.path p
  let n : Int × State := match meanOf (d.nmse.take s.dpd.snapCount) with
    | some v => (v, s)
    | none => (signed 16 (s.draw.1 % 65536), s.draw.2)
  let rl := match rlAverage d.rl with | some a => leS 2 a | none => le 2 0xFFFF
  (le 1 d.mode ++ le 1 d.mismatch.code ++ leSat 2 d.sat ++ leS 2 n.1 ++ rl ++ leSat 4 (s.dpdAge p / Config.ms) ++
    le 2 d.reverted ++ leSat 2 d.clipped, n.2)

def dpdGetStatusBody (_ : Running) (s : State) : CmdEffect :=
  let x := (List.range 64).foldl (fun (a : List (List Byte) × State) p =>
    let v := a.2.dpdStatus p
    (v.1 :: a.1, v.2)) ([], s)
  let w := match s.dpd.window with | none => 0 | some w => if w.opened then 2 else 1
  let s := x.2
  .ok { s with dpd := { s.dpd with paths := Tab.mapVals s.dpd.paths (fun _ d => { d with sat := 0 }) } }
    (x.1.reverse.flatten ++ le 1 s.dpd.selection ++ le 1 w ++ le 2 s.dpd.parity)

/-- The envelope of DPD_GET_STATUS. -/
def specDpdGetStatus : CmdSpec := { opcode := 0x0804 }

/-- DPD_GET_STATUS: the read clears the saturation counts. -/
def execDpdGetStatus (s : State) : Host.Outcome State Fault Refusal := runCommand specDpdGetStatus dpdGetStatusBody s

def setMismatchBody (r : Running) (s : State) : CmdEffect :=
  let p := r.cmd.payload
  let off := (List.range 64).map (fun k => (k, s16 p (8 + 2 * k)))
  if decide (u8 p 0 ≤ 1) && decide (u8 p 1 ≤ 15) && inRange 20 (u16 p 2) 10000 && decide (u8 p 4 ≤ 26) &&
      off.all (fun x => inRangeZ (-2000) x.2 2000) then
    .ok { s with dpd := { s.dpd with
      mismatchOn := u8 p 0 == 1, revAtten := u8 p 1, periodMs := u16 p 2
      sclkMHz := if u8 p 4 = 0 then s.dpd.sclkMHz else u8 p 4, offsets := off } } []
  else .status s Status.badParam

/-- The envelope of DPD_SET_MISMATCH. -/
def specDpdSetMismatch : CmdSpec := { opcode := 0x0805, minLen := fun _ => 0x88 }

/-- DPD_SET_MISMATCH. -/
def execDpdSetMismatch (s : State) : Host.Outcome State Fault Refusal := runCommand specDpdSetMismatch setMismatchBody s

/-- Entry i of a tuner map. -/
def tunerAt (p : List Byte) (i : Nat) : Nat × Tuner :=
  let o := 8 + 12 * i
  let n := u8 p (o + 2)
  (u8 p o, { usid := u8 p (o + 1), aux := u8 p (o + 3), regs := (List.range n).map (fun k => u8 p (o + 4 + k))
             codeMax := (List.range n).map (fun k => u8 p (o + 8 + k)) })

/-- The ranges of R270 for an entry. -/
def tunerOk (x : Nat × Tuner) : Bool :=
  decide (x.1 ≤ 63) && inRange 1 x.2.usid 15 && inRange 1 x.2.regs.length 4 && (decide (x.2.aux ≤ 15) || x.2.aux == 0xFF) &&
    x.2.codeMax.all (fun c => decide (1 ≤ c))

def setTunerMapBody (r : Running) (s : State) : CmdEffect :=
  let p := r.cmd.payload
  let l := (List.range (u8 p 0)).map (tunerAt p)
  if inRange 1 (u8 p 0) 64 && l.all tunerOk then
    .ok { s with dpd := { s.dpd with tuners := l.foldl (fun t x => Tab.set t x.1 x.2) [] } } []
  else .status s Status.badParam

/-- The envelope of DPD_SET_TUNER_MAP. -/
def specDpdSetTunerMap : CmdSpec := { opcode := 0x0806, minLen := fun p => 8 + 12 * Nat.min (u8 p 0) 64 }

/-- DPD_SET_TUNER_MAP: the whole map. -/
def execDpdSetTunerMap (s : State) : Host.Outcome State Fault Refusal := runCommand specDpdSetTunerMap setTunerMapBody s

def tuneWindowCheck (r : Running) (s : State) : Option Nat :=
  let p := r.cmd.payload
  firstFailure
    [(inRange 1 (u16 p 0x10) 1000 && (bitsOf (mask64 p 0)).all (fun k => (Tab.find? s.dpd.tuners k).isSome), Status.badParam),
     (s.timeUsable, Status.timeInvalid), (s.dpd.window.isNone, Status.busy)]

def tuneWindowBody (r : Running) (s : State) : CmdEffect :=
  let p := r.cmd.payload
  if u8 p 0x12 / 4 % 2 = 1 then
    match s.dpd.window with
    | none => .ok s []
    | some w => if w.opened then .ok (s.endTuning w 2) [] else .ok { s with dpd := { s.dpd with window := none } } []
  else match tuneWindowCheck r s with
    | some st => .status s st
    | none =>
      let d := s.instantOf p 8
      let start := if s.tooSoon r d Config.ms then r.reached + Config.ms else s.time.localOf d
      let w : TuneWindow :=
        { mask := mask64 p 0, start := start, durationMs := u16 p 0x10, search := u8 p 0x12 % 2 == 1
          dither := u8 p 0x12 / 2 % 2 == 1, scheduled := true }
      .ok { s with dpd := { s.dpd with window := some w } } []

/-- The envelope of DPD_TUNE_WINDOW. -/
def specDpdTuneWindow : CmdSpec := { opcode := 0x0807, minLen := fun _ => 0x18 }

/-- DPD_TUNE_WINDOW (R271); CANCEL closes the pending or open window at once. -/
def execDpdTuneWindow (s : State) : Host.Outcome State Fault Refusal := runCommand specDpdTuneWindow tuneWindowBody s

/-- The open window covers path p. -/
def State.windowCovers (s : State) (p : Nat) : Bool :=
  match s.dpd.window with
  | some w => w.opened && w.mask.getLsbD p
  | none => false

def setTunerBody (r : Running) (s : State) : CmdEffect :=
  let p := r.cmd.payload
  let k := u8 p 0
  let maxes := match Tab.find? s.dpd.tuners k with | some u => u.codeMax | none => []
  let codes := (List.range maxes.length).map (fun e => (e, u8 p (4 + e)))
  match firstFailure
      [(decide (k ≤ 63) && codes.all (fun c => decide (c.2 ≤ maxes.getD c.1 0)), Status.badParam),
       (s.windowCovers k, Status.notInWindow)] with
  | some st => .status s st
  | none =>
    let s := s.writeCodes k codes
    .ok (s.setTune k (fun x => { x with code := codes.map (fun c => c.2), stopped := true })) []

/-- The envelope of DPD_SET_TUNER. -/
def specDpdSetTuner : CmdSpec := { opcode := 0x0808, minLen := fun _ => 8 }

/-- DPD_SET_TUNER (R274): explicit codes inside an open window; the path's search stops. -/
def execDpdSetTuner (s : State) : Host.Outcome State Fault Refusal := runCommand specDpdSetTuner setTunerBody s

/-- Data bytes and addresses of Table DPD-2. -/
def rffeOk (kind count addr : Nat) (first : Nat) : Bool :=
  match kind with
  | 0 => count == 1 && decide (first ≤ 127)
  | 1 | 2 => count == 1 && decide (addr ≤ 31)
  | 3 | 4 => inRange 1 count 16 && decide (addr ≤ 255)
  | 5 | 6 => inRange 1 count 8
  | _ => false

def rffeXferBody (r : Running) (s : State) : CmdEffect :=
  let p := r.cmd.payload
  if decide (u8 p 0 ≤ 15) && decide (u8 p 2 ≤ 15) && rffeOk (u8 p 1) (u8 p 3) (u16 p 4) (u8 p 8) then
    let x : RffeXfer := { kind := u8 p 1, usid := u8 p 2, count := u8 p 3, address := u16 p 4
                          data := bytesAt p 8 (u8 p 3), owner := some r.order }
    .later (s.rffe (u8 p 0) x) (bytesAt p 0 6 ++ zeros 18)
  else .status s Status.badParam

/-- The envelope of DPD_RFFE_XFER. -/
def specDpdRffeXfer : CmdSpec := { opcode := 0x0809, minLen := fun _ => 0x18 }

/-- DPD_RFFE_XFER (R276, R277): the transaction joins its bus; the response follows when it has run. -/
def execDpdRffeXfer (s : State) : Host.Outcome State Fault Refusal := runCommand specDpdRffeXfer rffeXferBody s

end Sys2Proof.Machine
end

