-- ==== Sys2Proof/Machine/Halo.lean ====
section
/-!
DEFINITION. Halo capture and snapshots (spec/18).
-/

namespace Sys2Proof.Machine

open Sys2Proof

/-! ### Arming (R443 to R449) -/

/-- HALO_ARM's payload as a configuration. -/
def haloCfg (p : List Byte) : HaloCfg :=
  { kind := u8 p 1, cascadeOut := u8 p 2 % 2 == 1, obsSel := BitVec.ofNat 3 (u8 p 3), offset := u32 p 4, length := u32 p 8,
    segments := u8 p 0xC, preFraction := u16 p 0xE, sources := mask64 p 0x10, firstBin := u16 p 0x18, binCount := u16 p 0x1A,
    trig := BitVec.ofNat 7 (u8 p 0x1C), patternMode := u8 p 0x1D, byCount := u8 p 0x1E == 1, maskId := u8 p 0x1F,
    holdoff := u32 p 0x20, patternValue := mask64 p 0x28, patternCare := mask64 p 0x30,
    hznProfiles := BitVec.ofNat 8 (u8 p 0x38), launchQuads := BitVec.ofNat 4 (u8 p 0x39), minMetric := u16 p 0x3A,
    binLow := u16 p 0x3C, binHigh := u16 p 0x3E, beamMask := mask64 p 0x40 }

/-- Number of sources that a kind allows in a slot, and the mask of its sources. -/
def kindSources (k : Nat) : Nat × Mask64 :=
  if k = 0 ∨ k = 1 then (64, BitVec.allOnes 64)
  else if k = 2 then (8, BitVec.allOnes 64)
  else if k = 3 then (16, 0xFFFF#64)
  else (16, BitVec.allOnes 64)

/-- The post-trigger part in time units. -/
def HaloCfg.post (c : HaloCfg) : Nat := (c.instants - c.pre) * kindPeriod c.kind

/-- Ranges of HALO_ARM (Tables HALO-1, HALO-4, HALO-8; R449, R455). -/
def armRanges (p : List Byte) (worker : Bool) : Bool :=
  let c := haloCfg p
  let ks := kindSources c.kind
  decide (u8 p 0 ≤ 3) && decide (c.kind ≤ 4) && c.offset % 4096 == 0 && c.length % 4096 == 0 && decide (0 < c.length) &&
    decide (c.offset + c.length ≤ 0x100_0000) && inRange 1 c.segments 64 && decide (c.preFraction ≤ 1023) &&
    inRange 1 (popcount c.sources) ks.1 && (c.sources &&& ~~~ks.2) == 0#64 &&
    (c.kind != 4 || (decide (1 ≤ c.binCount) && decide (c.firstBin + c.binCount ≤ 384) && !worker)) &&
    decide (c.patternMode ≤ 2) && decide (u8 p 0x1E ≤ 1) && (decide (c.maskId ≤ 3) || c.maskId == 0xFF) &&
    inRange 1 c.holdoff (if c.byCount then 65535 else 4000000000) && decide (c.minMetric ≤ 30000) &&
    inRange 32 c.binLow 351 && inRange c.binLow c.binHigh 351 &&
    (!(c.trig.getLsbD 1 || c.trig.getLsbD 6) || decide (60 * Config.us ≤ c.post)) &&
    (!c.trig.getLsbD 6 || c.kind == 3) && (c.maskId == 0xFF || decide (popcount c.sources ≤ 4))

/-- Other slots that are armed. -/
def State.armedSlots (s : State) (n : Nat) : List (Nat × HaloSlot) :=
  s.halo.slots.filter (fun p => p.1 != n && p.2.state.running)

/-- Bytes per 200 ksps period that a slot needs; the port takes 32 bytes per master clock (R445). -/
def HaloCfg.need (c : HaloCfg) : Nat := c.instantBytes * (1920000 / kindPeriod c.kind)

/-- Checks of HALO_ARM. -/
def haloArmCheck (r : Running) (s : State) : Option Nat :=
  let c := haloCfg r.cmd.payload
  let n := u8 r.cmd.payload 0
  let others := s.armedSlots n
  firstFailure
    [(armRanges r.cmd.payload s.isWorker, Status.badParam),
     (!(s.halo.slot n).state.running, Status.busy),
     (others.all (fun p => decide (p.2.cfg.offset + p.2.cfg.length ≤ c.offset) || decide (c.offset + c.length ≤ p.2.cfg.offset)),
        Status.regionOverlap),
     (decide (others.foldl (fun a p => a + p.2.cfg.need) c.need ≤ 32 * (1920000 / Config.masterClock)), Status.capRate)]

def haloArmBody (r : Running) (s : State) : CmdEffect :=
  match haloArmCheck r s with
  | some st => .status s st
  | none =>
    let c := haloCfg r.cmd.payload
    let s := s.setSlot (u8 r.cmd.payload 0) (fun _ =>
      { state := .arming, cfg := c, armDue := s.nextSample (kindPeriod c.kind), patternTrue := c.patternHolds s.pattern })
    .ok (if c.kind = 3 then s.askObs .halo else s) []

/-- The envelope of HALO_ARM. -/
def specHaloArm : CmdSpec := { opcode := 0x0C01, minLen := fun _ => 0x48 }

/-- HALO_ARM. -/
def execHaloArm (s : State) : Host.Outcome State Fault Refusal := runCommand specHaloArm haloArmBody s

/-- The current segment's bytes in the pool are those of an unfinished ring: free bytes (R447). -/
def State.scramble (s : State) (n : Nat) : State :=
  let c := (s.halo.slot n).cfg
  let size := c.instants * c.instantBytes
  { s with
    mem := memWriteBytes unlisted s.mem (capturePool + c.offset + (s.halo.slot n).done * c.segBytes) (le size s.draw.1)
    free := s.free + 1 }

/-- The slot's next segment starts to be written, with the sample of stamp `first`. -/
def State.openSegment (s : State) (n first : Nat) : State :=
  (s.scramble n).setSlot n (fun x => { x with state := .filling, trigger := none, firstSample := first })

/-- HALO_ARMING_COMPLETE (R446): the slot starts to write its first segment; an OBS slot 2 us after it took the observation
selection. -/
def execHaloArmingComplete (slot : Fin 4) (s : State) : Host.Outcome State Fault Refusal :=
  let x := s.halo.slot slot
  if x.state ≠ .arming then .next s
  else if x.cfg.kind = 3 then
    if s.halo.obsSlot = some slot.val then
      let s := s.advance (s.path.obsSince + 2 * Config.us)
      .next (s.openSegment slot (s.sampleAt s.now Config.masterClock))
    else .next s
  else
    let s := s.advance x.armDue
    .next (s.openSegment slot x.armDue)

/-! ### Triggers (R449 to R453) -/

/-- HALO_TRIG_IN: a rising edge at the ball, offered to slots when it stays high for at least 10 ns. -/
def execHaloTrigIn (t highNs : Nat) (s : State) : Host.Outcome State Fault Refusal :=
  let s := s.advance t
  if highNs < 10 then .next s else .next (s.offer 3 (s.sampleAt s.now Config.masterClock) false (fun _ _ => true))

/-- TRIG_OUT goes high, or its pulse is extended (R453). -/
def State.pulseTrigOut (s : State) (start : Nat) : State :=
  let stop := start + s.halo.trigOutWidth * Config.ns
  { s with
    pins := { s.pins with trigOut := true }
    halo := { s.halo with trigOutUntil := some (Nat.max stop (s.halo.trigOutUntil.getD 0)) } }

/-- The slot accepts a trigger: T and its sources are fixed; TRIG_OUT and the cascade follow (R451, R453, R460). -/
def State.acceptTrigger (s : State) (n stamp sources : Nat) : State :=
  let s := s.setSlot n (fun x => { x with state := .post, trigger := some (stamp, sources), held := 0 })
  let timed := sources &&& 0x34
  let s := if s.halo.trigOutMask.getLsbD n then s.pulseTrigOut (if timed = 0 then s.now else Nat.max s.now stamp) else s
  if !(s.halo.slot n).cfg.cascadeOut then s
  else if s.role = .manager then (s.sendTimed 2 s.now).2
  else if s.isWorker then s.toManager 5 (le 1 8)
  else s

/-- HALO_TRIGGER_ACCEPT: the triggers decided on the earliest clock are judged together; the earliest stamp counts. -/
def execHaloTriggerAccept (t : Nat) (slot : Fin 4) (s : State) : Host.Outcome State Fault Refusal :=
  let s := s.advance t
  let mine := s.halo.offers.filter (fun o => o.slot == slot.val)
  match mine with
  | [] => .next s
  | o0 :: rest =>
    let clock := rest.foldl (fun m o => Nat.min m o.decidedAt) o0.decidedAt
    let now := mine.filter (fun o => o.decidedAt == clock)
    let stamp := now.foldl (fun m o => Nat.min m o.stamp) (now.headD o0).stamp
    let sources := now.foldl (fun m o => m ||| 2 ^ o.source) 0
    let s := { s with halo := { s.halo with
      offers := s.halo.offers.filter (fun o => !(o.slot == slot.val && o.decidedAt == clock)) } }
    let x := s.halo.slot slot
    match x.state with
    | .filling =>
      if x.firstSample + x.cfg.pre * kindPeriod x.cfg.kind ≤ stamp then .next (s.acceptTrigger slot stamp sources)
      else .next (s.setSlot slot (fun x => { x with ignored := wrapAdd 32 x.ignored 1 }))
    | .post | .holdoff =>
      if x.cfg.byCount then
        .next (s.setSlot slot (fun x => { x with heldOff := wrapAdd 32 x.heldOff 1, held := x.held + 1 }))
      else .next s
    | _ => .next s

/-- TRIG_OUT_PULSE_END. -/
def execTrigOutPulseEnd (s : State) : Host.Outcome State Fault Refusal :=
  match s.halo.trigOutUntil with
  | none => .next s
  | some t =>
    let s := s.advance t
    .next { s with pins := { s.pins with trigOut := false }, halo := { s.halo with trigOutUntil := none } }

def haloTriggerBody (r : Running) (s : State) : CmdEffect :=
  let p := r.cmd.payload
  let imm := u8 p 1 % 2 == 1
  if 15 < u8 p 0 then .status s Status.badParam
  else if !imm && !s.timeUsable then .status s Status.timeInvalid
  else
    let t := s.dueInstant r imm (s.instantOf p 8) lead100 Config.masterClock
    .ok (s.offer 5 t (!imm) (fun n _ => (BitVec.ofNat 4 (u8 p 0)).getLsbD n)) []

/-- The envelope of HALO_TRIGGER. -/
def specHaloTrigger : CmdSpec := { opcode := 0x0C03, minLen := fun _ => 16 }

/-- HALO_TRIGGER. -/
def execHaloTrigger (s : State) : Host.Outcome State Fault Refusal := runCommand specHaloTrigger haloTriggerBody s

/-! ### Segments (R447, R448, R452) -/

/-- The flags of a segment from the samples flagged in its span (R448). -/
def State.segFlags (s : State) (x : Span) : Nat :=
  (if s.blankedIn x then 2 else 0) + (if s.path.flagged.any (overlaps x) then 4 else 0) +
    (if s.filt.flagged.any (fun f => overlaps x f.2) then 8 else 0) +
    (if s.beam.changes.any (fun c => decide (x.start ≤ c.1) && decide (c.1 < x.stop)) then 16 else 0)

/-- Write a segment's samples, oldest first, into its ring from the byte offset of the oldest on. -/
def writeRing (mem : List Host.Cell) (base size start : Nat) (data : List Byte) : List Host.Cell :=
  if size = 0 then mem
  else
    let n := size - start % size
    memWriteBytes unlisted (memWriteBytes unlisted mem (base + start % size) (data.take n)) base ((data.drop n).take (start % size))

/-- The segment's record once its trigger is known: samples from T − P on, over `count` instants. -/
def State.segmentOf (s : State) (x : HaloSlot) (trigger sources count extra : Nat) : HaloSeg :=
  let d := kindPeriod x.cfg.kind
  let i := x.cfg.instants
  let tix := (trigger - x.firstSample + d - 1) / d
  let oix := tix - x.cfg.pre
  let first := x.firstSample + oix * d
  { trigger := trigger, sources := sources, flags := s.segFlags { start := first, stop := first + count * d } ||| extra,
    oldest := if i = 0 then 0 else oix % i * x.cfg.instantBytes, triggerOffset := if i = 0 then 0 else tix % i * x.cfg.instantBytes,
    bytes := count * x.cfg.instantBytes, first := first }

/-- A slot ends in a state: EV_HALO_DONE, and an OBS slot gives the selection back. -/
def State.endSlot (s : State) (n : Nat) (st : SlotState) (code : Nat) : State :=
  let s := s.setSlot n (fun x => { x with state := st, trigger := none })
  let s := { s with halo := { s.halo with offers := s.halo.offers.filter (fun o => o.slot != n) } }
  let x := s.halo.slot n
  let s := if x.cfg.kind ≠ 3 then s
    else if s.halo.obsSlot = some n then
      let s := s.releaseObs .halo
      if s.halo.slots.any (fun p => p.2.state == .arming && p.2.cfg.kind == 3) then s.askObs .halo else s
    else if s.halo.slots.any (fun p => p.2.state == .arming && p.2.cfg.kind == 3) then s
    else { s with path := { s.path with obsWaiting := s.path.obsWaiting.filter (fun v => !(v == .halo)) } }
  s.raiseEvent 0x0C02 .notice (le 1 n ++ le 1 code ++ le 1 x.done ++ zeros 1 ++ le 4 x.ignored ++ zeros 8)

/-- The hold-off of the last trigger has ended (R452). -/
def State.holdoffOver (s : State) (x : HaloSlot) (trigger : Nat) : Bool :=
  if x.cfg.byCount then decide (x.cfg.holdoff ≤ x.held) else decide (trigger + x.cfg.holdoff * Config.ns ≤ s.now)

/-- The next segment starts to be written now. -/
def State.nextSegment (s : State) (n : Nat) : State :=
  s.openSegment n (s.sampleAt s.now (kindPeriod (s.halo.slot n).cfg.kind))

/-- SEGMENT_COMPLETE: the post-trigger part is written; `data` are the segment's samples, oldest first (R444). -/
def execSegmentComplete (slot : Fin 4) (data : List Byte) (s : State) : Host.Outcome State Fault Refusal :=
  let x := s.halo.slot slot
  match x.state, x.trigger with
  | .post, some (t, src) =>
    let s := s.advance (t + x.cfg.post)
    let g := s.segmentOf x t src x.cfg.instants 0
    let base := capturePool + x.cfg.offset + x.done * x.cfg.segBytes
    let s := { s with mem := writeRing s.mem base (x.cfg.instants * x.cfg.instantBytes) g.oldest (data.take g.bytes) }
    let s := s.setSlot slot (fun y => { y with segs := Tab.set y.segs x.done g, done := x.done + 1, state := .holdoff })
    let s := s.raiseEvent 0x0C01 .info (le 1 slot ++ le 1 x.done ++ le 1 src ++ zeros 5 ++ s.ts64Bytes t)
    if x.cfg.segments ≤ x.done + 1 then .next (s.endSlot slot .done 5)
    else if s.holdoffOver x t then .next (s.nextSegment slot)
    else .next s
  | _, _ => .next s

/-- HALO_HOLDOFF_END: by time at T + HOLDOFF, by count once that many conditions were held off. -/
def execHaloHoldoffEnd (slot : Fin 4) (s : State) : Host.Outcome State Fault Refusal :=
  let x := s.halo.slot slot
  match x.state, x.trigger with
  | .holdoff, some (t, _) =>
    let s := if x.cfg.byCount then s else s.advance (t + x.cfg.holdoff * Config.ns)
    if s.holdoffOver x t then .next (s.nextSegment slot) else .next s
  | _, _ => .next s

/-! ### Stopping (R454) -/

/-- Stop a slot: with `freeze`, a segment whose trigger was accepted keeps what was written and is marked. What stands in the
segment's bytes is free: no operand carries the samples written so far. -/
def State.stopSlot (s : State) (n : Nat) (freeze : Bool) (st : SlotState) (code mark : Nat) : State :=
  let x := s.halo.slot n
  let d := kindPeriod x.cfg.kind
  let s := if x.state = .filling ∨ x.state = .post then s.scramble n else s
  let s := if !freeze then s.setSlot n (fun y => { y with segs := [], done := 0 })
    else match x.trigger, x.state with
      | some (t, src), .post =>
        let stop := s.nextSample d
        let first := t - x.cfg.pre * d
        let g := s.segmentOf x t src (Nat.min x.cfg.instants ((stop - first) / d)) (0x20 ||| mark)
        s.setSlot n (fun y => { y with segs := Tab.set y.segs x.done g, done := x.done + 1 })
      | _, _ => s
  let s := if mark = 0 then s
    else s.setSlot n (fun y => { y with segs := Tab.mapVals y.segs (fun _ g => { g with flags := g.flags ||| mark }) })
  s.endSlot n st code

def haloDisarmBody (r : Running) (s : State) : CmdEffect :=
  let n := u8 r.cmd.payload 0
  if 3 < n then .status s Status.badParam
  else if !(s.halo.slot n).state.running then .ok s []
  else .ok (s.stopSlot n (u8 r.cmd.payload 1 % 2 == 1) .disarmed 7 0) []

/-- The envelope of HALO_DISARM. -/
def specHaloDisarm : CmdSpec := { opcode := 0x0C02, minLen := fun _ => 4 }

/-- HALO_DISARM. -/
def execHaloDisarm (s : State) : Host.Outcome State Fault Refusal := runCommand specHaloDisarm haloDisarmBody s

/-! ### Masks (R455, R456) -/

/-- A signed 32-bit pair and two signed 16-bit limits. -/
def maskSeg (p : List Byte) (i : Nat) : MaskSeg :=
  let o := 8 + 12 * i
  { start := s32 p o, stop := s32 p (o + 4), upper := s16 p (o + 8), lower := s16 p (o + 10) }

def setMaskBody (r : Running) (s : State) : CmdEffect :=
  let p := r.cmd.payload
  let n := u8 p 3
  let segs := (List.range n).map (maskSeg p)
  if decide (u8 p 0 ≤ 3) && decide (u8 p 1 ≤ 1) && inRange 1 n 32 && (u8 p 1 == 1 || decide (u8 p 4 ≤ 6)) &&
      segs.all (fun g => decide (g.start ≤ g.stop)) then
    let m : HaloMask :=
      { envelope := u8 p 1 == 1, action := BitVec.ofNat 3 (u8 p 2), avgLog2 := u8 p 4, segs := segs }
    .ok { s with halo := { s.halo with masks := Tab.set s.halo.masks (u8 p 0) m } } []
  else .status s Status.badParam

/-- The envelope of HALO_SET_MASK. -/
def specHaloSetMask : CmdSpec := { opcode := 0x0C04, minLen := fun p => 8 + 12 * u8 p 3 }

/-- HALO_SET_MASK. -/
def execHaloSetMask (s : State) : Host.Outcome State Fault Refusal := runCommand specHaloSetMask setMaskBody s

/-- By how much a measurement (highest, lowest; 0.1 dB) fails a mask segment, if it does. -/
def HaloMask.excess (m : HaloMask) (g : MaskSeg) (v : Int × Int) : Option Int :=
  if g.upper < v.1 then some (v.1 - g.upper)
  else if m.envelope && decide (v.2 < g.lower) then some (g.lower - v.2)
  else none

/-- The first mask segment that fails: its number and excess. -/
def HaloMask.firstFail (m : HaloMask) (meas : List (Int × Int)) : Option (Nat × Int) :=
  ((List.range m.segs.length).zip (m.segs.zip meas)).findSome? (fun x =>
    (m.excess x.2.1 x.2.2).map (fun e => (x.1, e)))

/-- MASK_FRAME_TEST: one receiver of an OBS slot is tested; `meas` gives, for each segment of the mask, the highest and the
lowest value measured (0.1 dB). On a failure the mask's actions follow; a freeze goes before a trigger. -/
def execMaskFrameTest (t : Nat) (slot : Fin 4) (receiver : Fin 16) (meas : List (Int × Int)) (s : State) :
    Host.Outcome State Fault Refusal :=
  let s := s.advance t
  let x := s.halo.slot slot
  let testing := (x.state == .filling || x.state == .post || x.state == .holdoff) && x.cfg.kind == 3 && x.cfg.sources.getLsbD receiver
  match Tab.find? s.halo.masks x.cfg.maskId with
  | none => .next s
  | some m =>
    match m.firstFail meas with
    | none => .next s
    | some (g, e) =>
      if !testing then .next s
      else
        let due := match m.eventAt with | none => true | some a => decide (a + Config.sec ≤ s.now)
        let s := if m.action.getLsbD 0 && due then
            let s := { s with halo := { s.halo with masks := Tab.set s.halo.masks x.cfg.maskId { m with eventAt := some s.now } } }
            s.raiseEvent 0x0C03 .warn
              (le 1 x.cfg.maskId ++ le 1 receiver ++ le 1 g ++ zeros 1 ++ leSat 2 e.toNat ++ zeros 2 ++ s.ts64Bytes s.now)
          else s
        if m.action.getLsbD 2 then
          -- the freeze acts; a trigger of the same clock is recorded in SOURCES
          let s := if m.action.getLsbD 1 && x.cfg.trig.getLsbD 6 then
              s.setSlot slot (fun y => { y with trigger := y.trigger.map (fun q => (q.1, q.2 ||| 0x40)) })
            else s
          .next (s.stopSlot slot true .frozen 6 0x40)
        else if m.action.getLsbD 1 then .next (s.offer 6 s.now false (fun n _ => n == slot.val))
        else .next s

/-! ### Reading captures -/

/-- Code of a slot's state. -/
def SlotState.code : SlotState → Nat
  | .idle => 0 | .arming => 1 | .filling => 2 | .post => 3 | .holdoff => 4 | .done => 5 | .frozen => 6 | .disarmed => 7

/-- One segment of HALO_GET_CAPTURE. -/
def State.segBytesOf (s : State) (g : HaloSeg) : List Byte :=
  s.ts64Bytes g.trigger ++ le 2 (s.subNs g.trigger) ++ le 1 g.sources ++ le 1 g.flags ++ le 4 g.oldest ++ le 4 g.triggerOffset ++
    le 4 g.bytes ++ s.ts64Bytes g.first

/-- Response of HALO_GET_CAPTURE (Table HALO-6). -/
def State.captureStatus (s : State) (n : Nat) : List Byte :=
  let x := s.halo.slot n
  le 1 x.state.code ++ le 1 x.cfg.kind ++ le 1 x.cfg.segments ++ le 1 x.done ++ le 4 x.ignored ++ le 4 x.heldOff ++
    le 4 x.cfg.instants ++ (List.range x.cfg.segments).flatMap (fun k =>
      match Tab.find? x.segs k with
      | some g => s.segBytesOf g
      | none => zeros 32)

def getCaptureBody (r : Running) (s : State) : CmdEffect :=
  if u8 r.cmd.payload 0 ≤ 3 then .ok s (s.captureStatus (u8 r.cmd.payload 0)) else .status s Status.badParam

/-- The envelope of HALO_GET_CAPTURE. -/
def specHaloGetCapture : CmdSpec := { opcode := 0x0C05, minLen := fun _ => 1 }

/-- HALO_GET_CAPTURE. -/
def execHaloGetCapture (s : State) : Host.Outcome State Fault Refusal := runCommand specHaloGetCapture getCaptureBody s

def haloReadBody (r : Running) (s : State) : CmdEffect :=
  let o := u32 r.cmd.payload 0
  let n := u32 r.cmd.payload 4
  if inRange 1 n 4080 && decide (o + n ≤ 0x100_0000) then .ok s (memReadBytes unlisted s.mem (capturePool + o) n)
  else .status s Status.badParam

/-- The envelope of HALO_READ. -/
def specHaloRead : CmdSpec := { opcode := 0x0C06, minLen := fun _ => 8 }

/-- HALO_READ. -/
def execHaloRead (s : State) : Host.Outcome State Fault Refusal := runCommand specHaloRead haloReadBody s

/-! ### Snapshots (R457 to R459) -/

/-- Snapshots pinned, and pins that strobes still to come will take. -/
def Halo.pinned (h : Halo) : Nat := (h.snaps.filter (fun x => x.pinned)).length + (h.strobes.filter (fun x => x.pin)).length

/-- Pin the snapshot of a strobe stamp: the one in the store, or the one that is still to be latched (R459). -/
def Halo.pinStamp (h : Halo) (t : Nat × Nat) : Halo :=
  let hit := fun (x : Snapshot) => x.seconds == t.1 && x.nanos == t.2 && x.origin != 2
  if h.snaps.any hit then
    { h with snaps := h.snaps.map (fun (x : Snapshot) => if hit x then { x with pinned := true } else x) }
  else { h with pinAt := h.pinAt ++ [t] }

def snapshotBody (r : Running) (s : State) : CmdEffect :=
  let p := r.cmd.payload
  let imm := u8 p 0 % 2 == 1
  if r.cascade && r.cmd.target = 0xFFFF then
    -- relayed to all (R459): the worker pins the snapshot that the trigger bus strobes, by the stamp in INSTANT
    if 4 ≤ s.halo.pinned then .status s Status.noResource
    else .ok { s with halo := s.halo.pinStamp (u32 p 8, u32 p 12) } (bytesAt p 8 8)
  else if !imm && !s.timeUsable then .status s Status.timeInvalid
  else if 4 ≤ s.halo.pinned then .status s Status.noResource
  else
    let t := s.dueInstant r imm (s.instantOf p 8) lead100 Config.masterClock
    if s.role = .manager ∧ r.cmd.target = 0xFFFF then
      -- the word's action instant is the strobe of every device
      let w := s.sendWord 1 (t - Config.us)
      let due := w.1 + Config.us
      .ok (w.2.strobe due 0 true (!imm)) (s.ts64Bytes due)
    else .ok (s.strobe t 0 true (!imm)) (s.ts64Bytes t)

/-- The envelope of HALO_SNAPSHOT. -/
def specHaloSnapshot : CmdSpec := { opcode := 0x0C07, minLen := fun _ => 16 }

/-- HALO_SNAPSHOT. -/
def execHaloSnapshot (s : State) : Host.Outcome State Fault Refusal := runCommand specHaloSnapshot snapshotBody s

/-- The sample-plane fields from 0x12 to 0x3F of Table HALO-7. -/
def State.snapEarly (s : State) (phaseErr : Int) : List Byte :=
  let fcw := match (s.radio.synth s.radio.active).setting with | some x => x.fcw | none => 0
  le 1 s.radio.state.code ++ le 1 s.path.step ++ le 1 s.path.epoch ++ le 1 s.beam.epoch ++ le 2 s.radio.acqCount ++
    le 8 s.pattern.toNat ++ le 8 s.path.rxMask.toNat ++ le 8 s.path.txMask.toNat ++ le 4 fcw ++ leS 2 phaseErr ++
    leS 2 s.thermal.tj ++ leS 4 s.time.ratePpb ++ leSat 2 s.tx.queue.length ++ leSat 2 s.halo.snapMerged

/-- Keep at most eight snapshots: a new one overwrites the oldest that is not pinned (R458). -/
def addSnapshot (l : List Snapshot) (x : Snapshot) : List Snapshot :=
  if l.length < 8 then x :: l
  else match (l.reverse.find? (fun y => !y.pinned)) with
    | some old => x :: l.filter (fun y => y.id != old.id)
    | none => l

/-- Latch the sample-plane fields on the strobe's sample. -/
def State.takeSnapshot (s : State) (x : Strobe) (phaseErr : Int) : State :=
  let ts := s.ts64 x.due
  let pin := (x.pin || (x.origin != 2 && s.halo.pinAt.contains ts)) && decide ((s.halo.snaps.filter (fun y => y.pinned)).length < 4)
  let snap : Snapshot :=
    { id := s.halo.nextSnap, origin := x.origin, pinned := pin, timeInvalid := s.time.state == .invalid, strobe := x.due,
      seconds := ts.1, nanos := ts.2, bytes := le 2 (s.subNs x.due) ++ s.snapEarly phaseErr }
  { s with halo := { s.halo with
    snaps := addSnapshot s.halo.snaps snap, nextSnap := wrapAdd 16 s.halo.nextSnap 1
    pinAt := s.halo.pinAt.filter (fun t => t != ts) } }

/-- SNAPSHOT_STROBE: the next strobe falls due. While the previous snapshot has not latched everywhere it makes no new one. -/
def execSnapshotStrobe (phaseErr : Int) (s : State) : Host.Outcome State Fault Refusal :=
  match s.halo.strobes with
  | [] => .next s
  | x0 :: rest =>
    let x := rest.foldl (fun m y => if y.due < m.due then y else m) x0
    let s := s.advance x.due
    let left := s.halo.strobes.erase x
    let s := { s with halo := { s.halo with strobes := left } }
    match s.halo.snaps with
    | last :: others =>
      if last.late.isNone then
        .next { s with halo := { s.halo with
          snaps := { last with merged := true } :: others, snapMerged := satAdd 16 s.halo.snapMerged 1 } }
      else .next (s.takeSnapshot x phaseErr)
    | [] => .next (s.takeSnapshot x phaseErr)

/-- The clockless fields of Table HALO-7. -/
def State.snapLate (s : State) : List Byte :=
  let m := s.fab.monitors.map (fun p => p.2)
  leSat 2 (s.dmd.contexts.filter (fun p => p.2.active)).length ++ leSat 2 s.hzn.held.length ++ le 4 s.poolFree ++
    le 4 s.dmd.sequence ++ le 4 s.evq.prod ++ leSat 2 (m.foldl Nat.min (m.headD 0)) ++ zeros 14

/-- SNAPSHOT_LATCH_COMPLETE: the last clockless block has latched. -/
def execSnapshotLatchComplete (t : Nat) (s : State) : Host.Outcome State Fault Refusal :=
  let s := s.advance t
  match s.halo.snaps with
  | last :: others =>
    if last.late.isSome then .next s
    else .next { s with halo := { s.halo with
      snaps := { last with late := some s.snapLate, spread := (s.now - last.strobe) / Config.ns } :: others } }
  | [] => .next s

/-- A snapshot as HALO_SNAP_READ returns it. -/
def Snapshot.encode (x : Snapshot) : List Byte :=
  le 2 x.id ++ le 1 x.origin ++
    le 1 ((if x.merged then 1 else 0) + (if x.pinned then 2 else 0) + (if x.timeInvalid then 4 else 0)) ++ le 4 x.spread ++
    le 4 x.seconds ++ le 4 x.nanos ++ x.bytes ++ x.late.getD (zeros 32)

def snapReadBody (r : Running) (s : State) : CmdEffect :=
  let p := r.cmd.payload
  if 1 < u8 p 0 then .status s Status.badParam
  else
    let hit := if u8 p 0 = 0 then s.halo.snaps.find? (fun x => x.id == u16 p 2)
      else s.halo.snaps.find? (fun x => x.seconds == u32 p 8 && x.nanos == u32 p 12)
    match hit with
    | none => .status s Status.snapGone
    | some x =>
      let s' := if u8 p 1 % 2 = 1 then
          { s with halo := { s.halo with snaps := s.halo.snaps.map (fun (y : Snapshot) =>
              if y.id = x.id then { y with pinned := false } else y) } }
        else s
      .ok s' x.encode

/-- The envelope of HALO_SNAP_READ. -/
def specHaloSnapRead : CmdSpec := { opcode := 0x0C08, minLen := fun _ => 16 }

/-- HALO_SNAP_READ. -/
def execHaloSnapRead (s : State) : Host.Outcome State Fault Refusal := runCommand specHaloSnapRead snapReadBody s

def setTrigOutBody (r : Running) (s : State) : CmdEffect :=
  let p := r.cmd.payload
  if decide (u8 p 0 ≤ 15) && inRange 10 (u32 p 4) 1000000 then
    .ok { s with halo := { s.halo with trigOutMask := BitVec.ofNat 4 (u8 p 0), trigOutWidth := u32 p 4 } } []
  else .status s Status.badParam

/-- The envelope of HALO_SET_TRIG_OUT. -/
def specHaloSetTrigOut : CmdSpec := { opcode := 0x0C09, minLen := fun _ => 8 }

/-- HALO_SET_TRIG_OUT. -/
def execHaloSetTrigOut (s : State) : Host.Outcome State Fault Refusal := runCommand specHaloSetTrigOut setTrigOutBody s

end Sys2Proof.Machine
end

