-- ==== Sys2Proof/Machine/Hzn.lean ====
section
/-!
DEFINITION. Horizon search (spec/07): the epoch, candidates and arbitration, and its commands. Decisions are taken in stamp time.
-/

namespace Sys2Proof.Machine

open Sys2Proof

/-! ### Detections and merging (R180, R185, R193) -/

/-- A raw detection of an enabled profile, on a beam and bin of its masks, at or above its THRESHOLD. -/
def State.detects (s : State) (d : RawDetection) : Bool :=
  let p := s.hzn.profile d.profile
  decide (d.profile < 8) && decide (d.beam < 64) && decide (d.bin < 384) && s.searching d.profile &&
    p.beamMask.getLsbD d.beam && p.binMask.getLsbD d.bin && (s.beam.defOf d.beam).source != .off &&
    decide ((10 * p.threshold : Int) ≤ d.metric)

/-- Discarded detections are counted, and EV_HZN_OVERLOAD raised at most once per second. -/
def State.hznOverload (s : State) (n : Nat) : State :=
  if n = 0 then s
  else
    let h := s.hzn
    let since := h.overloadSince + n
    let s := { s with hzn := { h with overload := wrapAdd 32 h.overload n, overloadSince := since } }
    let due := match h.overloadAt with | none => true | some a => decide (a + Config.sec ≤ s.now)
    if due then
      ({ s with hzn := { s.hzn with overloadSince := 0, overloadAt := some s.now } }).raiseEvent 0x0502 .warn
        (le 4 since ++ zeros 12)
    else s

/-- Merging of one profile's detections, ranked: each head with what it absorbs. -/
def State.mergeHeads (s : State) (tm : Nat) : Nat → List RawDetection → List (RawDetection × List RawDetection)
  | 0, _ => []
  | _ + 1, [] => []
  | n + 1, h :: rest =>
    let nb := s.neighbours h.beam
    let inWin := fun (d : RawDetection) => nearBeamBin h.beam h.bin nb d.beam d.bin && nearTime d.time h.time tm
    (h, rest.filter inWin) :: s.mergeHeads tm n (rest.filter (fun d => !inWin d))

/-- The highest metric by beam and bin, with one more detection. -/
def noteSeen (t : Tab Int) (d : RawDetection) : Tab Int :=
  let k := 384 * d.beam + d.bin
  match Tab.find? t k with
  | some v => if v < d.metric then Tab.set t k d.metric else t
  | none => Tab.set t k d.metric

/-! ### Candidates in hold (R186, R194) -/

/-- A candidate ranks before another for a head that lies within both windows (R186). -/
def Candidate.holds (a b : Candidate) : Bool :=
  if a.metric ≠ b.metric then decide (b.metric < a.metric)
  else if a.began ≠ b.began then decide (a.began < b.began)
  else rawBefore a.raw b.raw

/-- A head handled by the candidate `c`: it is absorbed or replaces. -/
def Candidate.takeHead (c : Candidate) (h : RawDetection) (absorbed : List RawDetection) : Candidate :=
  let seen := (h :: absorbed).foldl noteSeen c.seen
  if c.metric < h.metric then
    { c with beam := h.beam, bin := h.bin, metric := h.metric, offsetHz := h.offsetHz, time := h.time, seen := seen }
  else { c with seen := seen }

/-- A candidate goes before another for eviction: lower metric, then the hold that began earlier. -/
def Candidate.weaker (a b : Candidate) : Bool :=
  if a.metric ≠ b.metric then decide (a.metric < b.metric)
  else if a.began ≠ b.began then decide (a.began < b.began) else decide (a.order < b.order)

/-- A new candidate enters the store of 512 (R194): a full store loses its weakest, or the new head where that is lowest. -/
def State.holdCandidate (s : State) (c : Candidate) : State :=
  if s.hzn.held.length < 512 then { s with hzn := { s.hzn with held := s.hzn.held ++ [c] } }
  else match sortBy Candidate.weaker s.hzn.held with
    | [] => s
    | w :: _ =>
      if c.metric < w.metric then s.hznEvicted c.profile 1
      else ({ s with hzn := { s.hzn with held := s.hzn.held.erase w ++ [c] } }).hznEvicted w.profile 1

/-- HORIZON triggers of a head (Table HALO-2): the stamp of its last reference sample. -/
def State.offerHead (s : State) (h : RawDetection) : State :=
  let p := s.hzn.profile h.profile
  let stamp := h.time + p.refTime - 1920000 / p.span
  s.offer 1 stamp false (fun _ c =>
    c.hznProfiles.getLsbD h.profile && c.beamMask.getLsbD h.beam && inRange c.binLow h.bin c.binHigh &&
      decide ((c.minMetric : Int) ≤ h.metric))

/-- One merged head of the epoch: it goes to the candidate in hold that handles it, or begins one of its own. -/
def State.placeHead (s : State) (x : RawDetection × List RawDetection) (order : Nat) : State :=
  let h := x.1
  let p := s.hzn.profile h.profile
  let s := (s.offerHead h).hznCount h.profile (fun c => { c with merged := wrapAdd 32 c.merged x.2.length })
  let hits := s.hzn.held.filter (fun c => c.profile == h.profile && decide (c.began < s.hzn.epoch) &&
    nearTime h.time c.time p.mergeTime && nearBeamBin c.beam c.bin (s.neighbours c.beam) h.beam h.bin)
  match sortBy Candidate.holds hits with
  | c :: _ =>
    let s := { s with hzn := { s.hzn with
      held := s.hzn.held.map (fun (y : Candidate) =>
        if y.began = c.began ∧ y.order = c.order ∧ y.profile = c.profile then y.takeHead h x.2 else y) } }
    s.hznCount h.profile (fun c => { c with merged := wrapAdd 32 c.merged 1 })
  | [] =>
    s.holdCandidate
      { profile := h.profile, beam := h.beam, bin := h.bin, metric := h.metric, offsetHz := h.offsetHz, time := h.time,
        began := s.hzn.epoch, order := order, left := p.hold, seen := (h :: x.2).foldl noteSeen [] }

/-- The detections of one profile, merged and placed. -/
def State.placeProfile (s : State) (p : Nat) (ds : List RawDetection) : State :=
  let mine := sortBy rawBefore (ds.filter (fun d => d.profile == p))
  let heads := s.mergeHeads (s.hzn.profile p).mergeTime mine.length mine
  ((List.range heads.length).zip heads).foldl (fun s x => s.placeHead x.2 x.1) s

/-! ### Noise (R182, R183) -/

/-- The epoch is covered for a beam and bin: a raw detection or an active context there. -/
def State.covered (s : State) (ds : List RawDetection) (b k : Nat) : Bool :=
  ds.any (fun d => d.beam == b && coversBin d.bin (s.hzn.profile d.profile).half k) ||
    s.dmd.contexts.any (fun p => p.2.active && p.2.beam == b && coversBin p.2.bin p.2.profile.half k)

/-- Samples of the epoch are flagged by a gain change or a filter apply. -/
def State.flaggedIn (s : State) (x : Span) : Bool :=
  s.path.flagged.any (overlaps x) || s.filt.flagged.any (fun p => overlaps x p.2)

/-- The exponential average over 2^n epochs. -/
def average (old new n : Nat) : Nat := (roundDiv ((old * (2 ^ n - 1) + new : Nat) : Int) (2 ^ n)).toNat

/-- The estimates after an epoch that was not excluded; `epochs` boundaries have passed. -/
def State.updateNoise (s : State) (epochs : Nat) (ds : List RawDetection) (powers : List (Nat × Nat)) : State :=
  match s.hzn.suspended with
  | some n =>
    { s with hzn := { s.hzn with
      suspended := some (n - epochs)
      suspendSum := powers.foldl (fun t x =>
        let v := Tab.get t x.1 (0, 0)
        Tab.set t x.1 (v.1 + x.2, v.2 + 1)) s.hzn.suspendSum } }
  | none =>
    { s with hzn := { s.hzn with
      noise := powers.foldl (fun t x =>
        if s.covered ds (x.1 / 384) (x.1 % 384) then t
        else Tab.set t x.1 (average (Tab.get t x.1 0) x.2 s.hzn.noiseLog2)) s.hzn.noise } }

/-- Suspended epochs count down even where the epoch is excluded. -/
def State.countSuspended (s : State) (epochs : Nat) : State :=
  { s with hzn := { s.hzn with suspended := s.hzn.suspended.map (fun n => n - epochs) } }

/-! ### Holds and the map (R186, R190) -/

/-- The holds run down by `n` epochs; those that end are set apart for classification. -/
def State.runHolds (s : State) (n : Nat) : State :=
  let aged := s.hzn.held.map (fun c => if c.began < s.hzn.epoch then { c with left := c.left - n } else c)
  { s with hzn := { s.hzn with
    ended := aged.filter (fun c => c.left == 0)
    held := aged.filter (fun c => c.left != 0) } }

/-- The free-context map is sampled (R190). -/
def State.sampleMap (s : State) : State :=
  let busy := fun (c : Nat) => (Tab.find? s.dmd.contexts c).isSome || s.hzn.grants.any (fun g => g.context == c) ||
    s.engineOut (c / 32)
  { s with hzn := { s.hzn with mapBusy := (List.range 1024).filter busy } }

/-- After the 64 epochs of a suspension the estimates restart from the mean of those epochs (R182). -/
def State.resumeDetection (s : State) : State :=
  match s.hzn.suspended with
  | some 0 =>
    { s with hzn := { s.hzn with
      suspended := none
      suspendSum := []
      noise := s.hzn.suspendSum.foldl (fun n (x : Nat × (Nat × Nat)) =>
        Tab.set n x.1 (roundDiv (x.2.1 : Int) x.2.2).toNat) s.hzn.noise } }
  | _ => s

/-- DETECTION_RESUME (R182). -/
def execDetectionResume (s : State) : Host.Outcome State Fault Refusal := .next s.resumeDetection

/-! ### The end of a hold (R187 to R192) -/

/-- The direction of a beam on the grid, as a scaled unit vector. -/
def State.gridVector (s : State) (b : Nat) : Option (Int × Int × Int) :=
  let d := s.beam.defOf b
  if d.source.onGrid then (Tab.find? s.beam.gridStaged.grid d.gridIndex).map (fun x => unitVector x.1 x.2) else none

/-- The weighted sum of R187: none when no beam of it has a grid direction. -/
def State.coarseSum (s : State) (c : Candidate) : Option (Int × Int × Int) :=
  let parts := (c.beam :: s.neighbours c.beam).filterMap (fun b =>
    match Tab.find? c.seen (384 * b + c.bin), s.gridVector b with
    | some m, some v =>
      if b = c.beam ∨ c.metric - 600 ≤ m then
        let w := pow10 m 1000
        some (fxMul w v.1, fxMul w v.2.1, fxMul w v.2.2)
      else none
    | _, _ => none)
  if parts.isEmpty then none
  else some (parts.foldl (fun (a : Int × Int × Int) v => (a.1 + v.1, a.2.1 + v.2.1, a.2.2 + v.2.2)) (0, 0, 0))

/-- The coarse direction in 0.01 degree; a sum of zero has no direction that the spec states, and its angles are free values. -/
def State.coarse (s : State) (c : Candidate) : Option (Int × Int) × State :=
  match s.coarseSum c with
  | none => (none, s)
  | some v =>
    if v.1 = 0 ∧ v.2.1 = 0 ∧ v.2.2 = 0 then
      let a := s.draw
      let b := a.2.draw
      (some (signed 16 (a.1 % 65536), signed 16 (b.1 % 65536)), b.2)
    else
      let flat := isqrt (v.1 * v.1 + v.2.1 * v.2.1).toNat
      (some (atan2Centi v.2.1 v.1, atan2Centi v.2.2 flat), s)

/-- What R188 makes of a candidate. -/
inductive CandVerdict where
  | fresh
  | dual
  | capture (ctx : Nat)
  | absorbed
deriving DecidableEq, Repr

/-- Contexts of the profile that lie within the candidate's window in beam and bin. -/
def State.rivals (s : State) (c : Candidate) : List (Nat × Context) :=
  let nb := s.neighbours c.beam
  s.dmd.contexts.filter (fun p => p.2.active && p.2.profileIx == c.profile && nearBeamBin c.beam c.bin nb p.2.beam p.2.bin)

/-- The rival with the highest running metric, then the lowest number. -/
def strongest : List (Nat × Context) → Option (Nat × Context)
  | [] => none
  | p :: r => some (r.foldl (fun (m : Nat × Context) q => if m.2.running < q.2.running then q else m) p)

/-- R188. -/
def State.classify (s : State) (c : Candidate) : CandVerdict :=
  let p := s.hzn.profile c.profile
  match strongest (s.rivals c) with
  | none => .fresh
  | some (n, x) =>
    let same := (s.dmd.contexts.filter (fun q => q.2.active && q.2.profileIx == c.profile && q.2.beam == c.beam &&
      q.2.bin == c.bin)).length
    if x.state != .payload && decide (x.running < 10 * p.threshold) && decide (same < 2) then .dual
    else if x.running + 10 * p.margin ≤ c.metric then .capture n
    else .absorbed

/-- Free contexts of an engine in the map. -/
def freeInEngine (busy : List Nat) (e : Nat) : Nat := 32 - (busy.filter (fun c => c / 32 == e)).length

/-- The context of a grant (R192): the engine with the most free contexts, the lower on a tie, its lowest free slot. -/
def pickContext (busy : List Nat) : Option Nat :=
  let e := (List.range 32).foldl (fun m e => if freeInEngine busy m < freeInEngine busy e then e else m) 0
  (List.range 32).map (fun k => 32 * e + k) |>.find? (fun c => !busy.contains c)

/-- The order of claims (R191). -/
def State.claimBefore (s : State) (a b : Candidate × Bool) : Bool :=
  let pa := (s.hzn.profile a.1.profile).priority
  let pb := (s.hzn.profile b.1.profile).priority
  if pa ≠ pb then decide (pb < pa)
  else if a.1.metric ≠ b.1.metric then decide (b.1.metric < a.1.metric)
  else if a.1.beam ≠ b.1.beam then decide (a.1.beam < b.1.beam)
  else if a.1.bin ≠ b.1.bin then decide (a.1.bin < b.1.bin)
  else decide (a.1.profile < b.1.profile)

/-- The strobe of a granted candidate of at least XDEV_SNR_MIN, at most one per millisecond (R292). -/
def State.xdevStrobe (s : State) (metric : Int) : State :=
  let soon := match s.cal.strobeAt with | some t => decide (s.now < t + Config.ms) | none => false
  if s.role != .manager || s.joinedWorkers.isEmpty || soon || decide (metric < 100 * (s.cal.xdevSnrMin : Int)) then s
  else
    let w := s.sendWord 1 s.now
    let s := { w.2 with cal := { w.2.cal with strobeAt := some s.now } }
    s.strobe (w.1 + Config.us) 2 false false

/-- Send a candidate to a context. -/
def State.grant (s : State) (ctx : Nat) (c : Candidate) (dual handoff : Bool) : State :=
  let d := s.coarse c
  let s := d.2
  let s := s.xdevStrobe c.metric
  { s with hzn := { s.hzn with
    mapBusy := if s.hzn.mapBusy.contains ctx then s.hzn.mapBusy else ctx :: s.hzn.mapBusy
    grants := s.hzn.grants ++ [{ context := ctx, cand := c, profile := s.hzn.profile c.profile, dual := dual, handoff := handoff,
                                 coarse := d.1, control := Tab.get s.dmd.controls c.profile {}, granted := s.now,
                                 epoch := s.hzn.epoch }] } }

/-- EV_HZN_NO_CONTEXT, at most once per second, with the drops since the last. -/
def State.noContextEvent (s : State) : State :=
  let h := s.hzn
  let due := match h.noContextAt with | none => true | some a => decide (a + Config.sec ≤ s.now)
  let sum := h.noContextSince.foldl (fun n (p : Nat × Nat) => n + p.2) 0
  if due && decide (0 < sum) then
    let worst := (List.range 8).foldl (fun m p =>
      if Tab.get h.noContextSince m 0 < Tab.get h.noContextSince p 0 then p else m) 0
    ({ s with hzn := { h with noContextSince := [], noContextAt := some s.now } }).raiseEvent 0x0501 .warn
      (le 4 sum ++ le 1 worst ++ zeros 11)
  else s

/-- A claim is granted or dropped (R191, R192). -/
def State.serveClaim (s : State) (x : Candidate × Bool) : State :=
  let c := x.1
  match pickContext s.hzn.mapBusy with
  | some ctx => (s.grant ctx c x.2 false).hznCount c.profile (fun n => { n with
      claimed := wrapAdd 32 n.claimed 1, dual := if x.2 then wrapAdd 32 n.dual 1 else n.dual })
  | none =>
    let s := s.hznCount c.profile (fun n => { n with noContext := wrapAdd 32 n.noContext 1 })
    { s with hzn := { s.hzn with noContextSince := Tab.update s.hzn.noContextSince [c.profile] 0 (fun _ v => v + 1) } }

/-- A candidate whose hold has ended is classified: hand-offs go out, at most one to a context; claims are gathered. -/
def State.judge (s : State) (claims : List (Candidate × Bool)) (handed : List Nat) (c : Candidate) :
    State × List (Candidate × Bool) × List Nat :=
  let absorb := fun (s : State) => s.hznCount c.profile (fun n => { n with absorbed := wrapAdd 32 n.absorbed 1 })
  match s.classify c with
  | .fresh => (s, claims ++ [(c, false)], handed)
  | .dual => (s, claims ++ [(c, true)], handed)
  | .absorbed => (absorb s, claims, handed)
  | .capture ctx =>
    if handed.contains ctx then (absorb s, claims, handed)
    else ((s.grant ctx c false true).hznCount c.profile (fun n => { n with capture := wrapAdd 32 n.capture 1 }), claims,
      ctx :: handed)

/-- The running metrics that contexts keep (R202), once 16 symbols have come since the claim. -/
def State.setRunning (s : State) (l : List (Nat × Int)) : State :=
  { s with dmd := { s.dmd with contexts := Tab.mapVals s.dmd.contexts (fun k c =>
      match l.find? (fun x => x.1 == k) with
      | some (_, v) => if c.active && decide (c.claimedAt + c.profile.settleTime ≤ s.now) then { c with running := v } else c
      | none => c) } }

/-- The candidates whose holds ended on the last boundary are classified, handed over or arbitrated; then the settings that this
boundary applies take effect. -/
def State.holdEnd (s : State) (running : List (Nat × Int)) : State :=
  if s.hzn.ended.isEmpty then s
  else
    let s := s.setRunning running
    let cs := sortBy (fun (a b : Candidate) => rawBefore a.raw b.raw) s.hzn.ended
    let r := cs.foldl (fun (a : State × List (Candidate × Bool) × List Nat) c => a.1.judge a.2.1 a.2.2 c)
      ({ s with hzn := { s.hzn with ended := [] } }, [], [])
    let s := (sortBy r.1.claimBefore r.2.1).foldl State.serveClaim r.1
    s.noContextEvent.applySettings

/-- CANDIDATE_HOLD_END (R187 to R192). `running` are the contexts' metrics in 0.01 dB. -/
def execCandidateHoldEnd (running : List (Nat × Int)) (s : State) : Host.Outcome State Fault Refusal :=
  .next (s.holdEnd running)

/-! ### The epoch (R180) -/

/-- SEARCH_EPOCH (R180 to R186, R190, R193, R194): the boundary at or before `t`. Candidates of an earlier boundary that
are still to be classified are so first. `raws` are the detections of the epoch that it
ends, `powers` the mean powers of its beams and bins by 384 · beam + bin, `sats` the saturations of the channeliser (R173). -/
def execSearchEpoch (t : Nat) (raws : List RawDetection) (powers : List (Nat × Nat)) (sats : Nat) (s : State) :
    Host.Outcome State Fault Refusal :=
  let k := (t - s.boot.releasedAt) / Config.epoch
  if s.isWorker || decide (k ≤ s.hzn.epoch) then .next s
  else
    let n := k - s.hzn.epoch
    let stop := s.boot.releasedAt + k * Config.epoch
    let s := ((s.holdEnd []).resumeDetection).advance stop
    let span : Span := { start := stop - Config.epoch, stop := stop }
    let s := { s with
      hzn := { s.hzn with
        epoch := k
        chanSat := wrapAdd 32 s.hzn.chanSat sats
        applying := s.hzn.waiting, waiting := [] }
      dmd := { s.dmd with
        applying := s.dmd.waiting, waiting := [] } }
    let excluded := s.blankedIn span || !s.receiving
    let ds := if excluded || s.hzn.suspended.isSome then [] else raws.filter s.detects
    let s := ds.foldl (fun s d => s.hznCount d.profile (fun c => { c with raw := wrapAdd 32 c.raw 1 })) s
    let ranked := sortBy rawBefore ds
    let s := s.hznOverload (ranked.length - 4096)
    let kept := ranked.take 4096
    let s := (List.range 8).foldl (fun s p => s.placeProfile p kept) s
    let s := if excluded || s.flaggedIn span then s.countSuspended n else s.updateNoise n ds powers
    let s := ds.foldl (fun s d => s.touchBins d.bin (s.hzn.profile d.profile).half stop) s
    let s := s.dmd.contexts.foldl (fun s (p : Nat × Context) =>
      if p.2.active then s.touchBins p.2.bin p.2.profile.half stop else s) s
    let s := (s.runHolds n).sampleMap
    .next (if s.hzn.ended.isEmpty then s.applySettings else s)

/-! ### Commands (R197, R199) -/

/-- A 48-byte bin mask. -/
def binMaskAt (p : List Byte) (o : Nat) : BitVec 384 :=
  BitVec.ofNat 384 ((List.range 48).foldr (fun k acc => u8 p (o + k) + 256 * acc) 0)

/-- MODE_PARAMS with reserved bytes and bits zero. -/
def cleanParams (phy : Nat) (q : List Byte) : List Byte :=
  if phy = 0 then bytesAt q 0 6 ++ le 1 (u8 q 6 % 4) ++ zeros 1 ++ bytesAt q 8 4 ++ zeros 4
  else if phy = 1 then bytesAt q 0 1 ++ le 1 (u8 q 1 % 16) ++ bytesAt q 2 1 ++ zeros 13
  else bytesAt q 0 1 ++ le 1 (u8 q 1 % 128) ++ bytesAt q 2 1 ++ zeros 13

/-- The profile that a payload of Table HZN-5 sets. -/
def parseProfile (p : List Byte) : Profile :=
  { enable := u8 p 1 == 1, phy := u8 p 2, priority := u8 p 3, threshold := u16 p 4, margin := u8 p 6, maxPsdu := u16 p 8,
    params := cleanParams (u8 p 2) (bytesAt p 0x10 16), beamMask := mask64 p 0x20, binMask := binMaskAt p 0x28 }

/-- Ranges of Table HZN-7 that no mode decides. -/
def profileRanges (p : List Byte) : Bool :=
  decide (u8 p 0 ≤ 7) && decide (u8 p 1 ≤ 1) && decide (u8 p 2 ≤ 2) && decide (u8 p 3 ≤ 7) && inRange 30 (u16 p 4) 300 &&
    inRange 30 (u8 p 6) 120 && inRange 1 (u16 p 8) 2047 &&
    (if u8 p 2 = 0 then decide (u8 p 0x11 ≤ 1) && decide (u8 p 0x14 ≤ 1) && inRange 1 (u8 p 0x15) 2 &&
        !(u8 p 0x14 == 1 && u8 p 0x11 == 0)
      else decide (u8 p 0x12 ≤ 1))

/-- The mode lies within Tables HZN-1 to HZN-3 (R176). -/
def modeOk (x : Profile) : Bool :=
  let q := x.params
  if x.phy = 0 then decide (x.mode ≤ 11) && modIndexOk x.mode (u16 q 2)
  else if x.phy = 1 then decide (x.mode ≤ 2) && (u8 q 2 == 0 || (x.mode != 0 && u8 q 1 % 4 == 0))
  else inRange 1 x.mode 4 && (BitVec.ofNat 7 (u8 q 1) &&& ~~~(ofdmMcs x.mode)) == 0#7

/-- Bins 32 + h to 351 − h only (R178). -/
def binMaskOk (x : Profile) : Bool := (bitsOf x.binMask).all (fun k => inRange (32 + x.half) k (351 - x.half))

/-- A bank is there for profile n to be enabled (R179): its own, or one that no other profile holds or is about to take. -/
def State.bankFor (s : State) (n : Nat) : Bool :=
  (Tab.find? s.spare.bankOf n).isSome ||
    decide (((List.range 8).filter (fun q => q != n && (s.hzn.latest q).enable &&
      (match Tab.find? s.spare.bankOf q with | some b => s.spare.banks.contains b | none => true))).length <
        s.spare.banks.length)

def setProfileCheck (r : Running) (s : State) : Option Nat :=
  let p := r.cmd.payload
  let x := parseProfile p
  firstFailure
    [(profileRanges p, Status.badParam), (modeOk x, Status.modeUnsupported), (binMaskOk x, Status.badParam),
     (!x.enable || s.bankFor (u8 p 0), Status.noResource)]

def setProfileBody (r : Running) (s : State) : CmdEffect :=
  match setProfileCheck r s with
  | some st => .status s st
  | none => .ok { s with hzn := { s.hzn with
      waiting := Tab.set s.hzn.waiting (u8 r.cmd.payload 0) (parseProfile r.cmd.payload) } } []

/-- The envelope of HZN_SET_PROFILE. -/
def specHznSetProfile : CmdSpec := { opcode := 0x0501, minLen := fun _ => 0x58, rule := .managerOnly }

/-- HZN_SET_PROFILE: in force from the next epoch boundary (R198). -/
def execHznSetProfile (s : State) : Host.Outcome State Fault Refusal := runCommand specHznSetProfile setProfileBody s

def setNoiseBody (r : Running) (s : State) : CmdEffect :=
  let n := u8 r.cmd.payload 0
  if inRange 6 n 14 then .ok { s with hzn := { s.hzn with noiseLog2 := n } } [] else .status s Status.badParam

/-- The envelope of HZN_SET_NOISE. -/
def specHznSetNoise : CmdSpec := { opcode := 0x0502, minLen := fun _ => 4, rule := .managerOnly }

/-- HZN_SET_NOISE. -/
def execHznSetNoise (s : State) : Host.Outcome State Fault Refusal := runCommand specHznSetNoise setNoiseBody s

/-- One noise estimate in 0.01 dBFS; a bin from 0 to 31 or 352 to 383 and a beam that is OFF read 0x8000. An estimate of zero has
no stated reading: a free value. -/
def State.noiseReading (s : State) (b k : Nat) : Int × State :=
  if (s.beam.defOf b).source = .off ∨ k < 32 ∨ 351 < k then (-32768, s)
  else
    let v := Tab.get s.hzn.noise (384 * b + k) 0
    if v = 0 then (signed 16 (s.draw.1 % 65536), s.draw.2)
    else (centiDb v (32767 * 32767 * 65536), s)

def readNoiseBody (r : Running) (s : State) : CmdEffect :=
  let b := u8 r.cmd.payload 0
  if 63 < b then .status s Status.badParam
  else
    let x := (List.range 384).foldl (fun (a : List (List Byte) × State) k =>
      let v := a.2.noiseReading b k
      (leS 2 v.1 :: a.1, v.2)) ([], s)
    .ok x.2 x.1.reverse.flatten

/-- The envelope of HZN_READ_NOISE. -/
def specHznReadNoise : CmdSpec := { opcode := 0x0503, minLen := fun _ => 1, rule := .managerOnly }

/-- HZN_READ_NOISE. -/
def execHznReadNoise (s : State) : Host.Outcome State Fault Refusal := runCommand specHznReadNoise readNoiseBody s

/-- A profile as Table HZN-5 lays it out. -/
def Profile.bytes (x : Profile) (n : Nat) : List Byte :=
  le 1 n ++ b8 x.enable ++ le 1 x.phy ++ le 1 x.priority ++ le 2 x.threshold ++ le 1 x.margin ++ zeros 1 ++ le 2 x.maxPsdu ++
    zeros 6 ++ fit 16 x.params ++ le 8 x.beamMask.toNat ++ le 48 x.binMask.toNat

def hznStatusBody (_ : Running) (s : State) : CmdEffect :=
  let mask := (maskOf 8 ((List.range 8).filter (fun n => (s.hzn.profile n).enable))).toNat
  .ok s (le 1 mask ++ le 1 (s.spare.banks.length - s.banksUsed) ++ zeros 6 ++
    ((List.range 8).map (fun n => (s.hzn.profile n).bytes n)).flatten)

/-- The envelope of HZN_GET_STATUS. -/
def specHznGetStatus : CmdSpec := { opcode := 0x0504, rule := .managerOnly }

/-- HZN_GET_STATUS. -/
def execHznGetStatus (s : State) : Host.Outcome State Fault Refusal := runCommand specHznGetStatus hznStatusBody s

/-- The counters of one profile, in the order of Table HZN-8. -/
def HznCounts.bytes (c : HznCounts) : List Byte :=
  le 4 c.raw ++ le 4 c.merged ++ le 4 c.absorbed ++ le 4 c.dual ++ le 4 c.capture ++ le 4 c.claimed ++ le 4 c.noContext ++
    le 4 c.evicted

def hznCountersBody (r : Running) (s : State) : CmdEffect :=
  let h := s.hzn
  let out := ((List.range 8).map (fun n => (Tab.get h.counts n {}).bytes)).flatten ++ le 4 h.overload ++ le 4 h.chanSat
  .ok (if u8 r.cmd.payload 0 % 2 = 1 then { s with hzn := { h with counts := [], overload := 0, chanSat := 0 } } else s) out

/-- The envelope of HZN_GET_COUNTERS. -/
def specHznGetCounters : CmdSpec := { opcode := 0x0505, minLen := fun _ => 1, rule := .managerOnly }

/-- HZN_GET_COUNTERS. -/
def execHznGetCounters (s : State) : Host.Outcome State Fault Refusal := runCommand specHznGetCounters hznCountersBody s

end Sys2Proof.Machine
end

