-- ==== Sys2Proof/Machine/Dispatch.lean ====
section
/-!
DEFINITION. The one match over the constructors of Instr: each arm calls the meaning of its row.
-/

namespace Sys2Proof.Machine

def exec (i : Instr) (s : State) : Host.Outcome State Fault Refusal :=
  match i with
  | .sysEcho => Sys2Proof.Machine.execSysEcho s
  | .sysGetInfo => Sys2Proof.Machine.execSysGetInfo s
  | .sysReset => Sys2Proof.Machine.execSysReset s
  | .sysSetEventFilter => Sys2Proof.Machine.execSysSetEventFilter s
  | .sysNvGetInfo => Sys2Proof.Machine.execSysNvGetInfo s
  | .sysNvWrite => Sys2Proof.Machine.execSysNvWrite s
  | .sysFwInstall => Sys2Proof.Machine.execSysFwInstall s
  | .sysFwActivate => Sys2Proof.Machine.execSysFwActivate s
  | .sysFwConfirm => Sys2Proof.Machine.execSysFwConfirm s
  | .sysFabricGetStatus => Sys2Proof.Machine.execSysFabricGetStatus s
  | .sysMemGetEcc => Sys2Proof.Machine.execSysMemGetEcc s
  | .sysLeaseGet => Sys2Proof.Machine.execSysLeaseGet s
  | .sysProcGetStatus => Sys2Proof.Machine.execSysProcGetStatus s
  | .synSetState => Sys2Proof.Machine.execSynSetState s
  | .synSetMode => Sys2Proof.Machine.execSynSetMode s
  | .synTune => Sys2Proof.Machine.execSynTune s
  | .synCommit => Sys2Proof.Machine.execSynCommit s
  | .synSwitch => Sys2Proof.Machine.execSynSwitch s
  | .synStoreEntry => Sys2Proof.Machine.execSynStoreEntry s
  | .synReadEntry => Sys2Proof.Machine.execSynReadEntry s
  | .synSetClkout => Sys2Proof.Machine.execSynSetClkout s
  | .synSetReference => Sys2Proof.Machine.execSynSetReference s
  | .synGetStatus => Sys2Proof.Machine.execSynGetStatus s
  | .pathSetEnable => Sys2Proof.Machine.execPathSetEnable s
  | .pathSetGain => Sys2Proof.Machine.execPathSetGain s
  | .pathSetAgc => Sys2Proof.Machine.execPathSetAgc s
  | .pathSetTxAtten => Sys2Proof.Machine.execPathSetTxAtten s
  | .pathSetFeTiming => Sys2Proof.Machine.execPathSetFeTiming s
  | .pathSetObs => Sys2Proof.Machine.execPathSetObs s
  | .pathGetStatus => Sys2Proof.Machine.execPathGetStatus s
  | .pathAuxAdcConfig => Sys2Proof.Machine.execPathAuxAdcConfig s
  | .pathAuxAdcRead => Sys2Proof.Machine.execPathAuxAdcRead s
  | .pathAuxDacSet => Sys2Proof.Machine.execPathAuxDacSet s
  | .pathAuxDacSine => Sys2Proof.Machine.execPathAuxDacSine s
  | .filtLoadSet => Sys2Proof.Machine.execFiltLoadSet s
  | .filtAssign => Sys2Proof.Machine.execFiltAssign s
  | .filtApply => Sys2Proof.Machine.execFiltApply s
  | .filtSetDetector => Sys2Proof.Machine.execFiltSetDetector s
  | .filtGetStatus => Sys2Proof.Machine.execFiltGetStatus s
  | .beamSetGeometry => Sys2Proof.Machine.execBeamSetGeometry s
  | .beamSetGrid => Sys2Proof.Machine.execBeamSetGrid s
  | .beamSetRxSource => Sys2Proof.Machine.execBeamSetRxSource s
  | .beamLoadBank => Sys2Proof.Machine.execBeamLoadBank s
  | .beamSwap => Sys2Proof.Machine.execBeamSwap s
  | .beamSetAdaptive => Sys2Proof.Machine.execBeamSetAdaptive s
  | .beamSetScale => Sys2Proof.Machine.execBeamSetScale s
  | .beamSigPin => Sys2Proof.Machine.execBeamSigPin s
  | .beamSigRead => Sys2Proof.Machine.execBeamSigRead s
  | .beamGetStatus => Sys2Proof.Machine.execBeamGetStatus s
  | .hznSetProfile => Sys2Proof.Machine.execHznSetProfile s
  | .hznSetNoise => Sys2Proof.Machine.execHznSetNoise s
  | .hznReadNoise => Sys2Proof.Machine.execHznReadNoise s
  | .hznGetStatus => Sys2Proof.Machine.execHznGetStatus s
  | .hznGetCounters => Sys2Proof.Machine.execHznGetCounters s
  | .dmdSetControl => Sys2Proof.Machine.execDmdSetControl s
  | .dmdGetControl => Sys2Proof.Machine.execDmdGetControl s
  | .dmdGetCounters => Sys2Proof.Machine.execDmdGetCounters s
  | .dmdGetContexts => Sys2Proof.Machine.execDmdGetContexts s
  | .txSubmit => Sys2Proof.Machine.execTxSubmit s
  | .txCancel => Sys2Proof.Machine.execTxCancel s
  | .txSetRamp => Sys2Proof.Machine.execTxSetRamp s
  | .txSetCoex => Sys2Proof.Machine.execTxSetCoex s
  | .txGetStatus => Sys2Proof.Machine.execTxGetStatus s
  | .txRegRead => Sys2Proof.Machine.execTxRegRead s
  | .txRegSupersede => Sys2Proof.Machine.execTxRegSupersede s
  | .dpdSetMode => Sys2Proof.Machine.execDpdSetMode s
  | .dpdLoadTables => Sys2Proof.Machine.execDpdLoadTables s
  | .dpdReadTables => Sys2Proof.Machine.execDpdReadTables s
  | .dpdGetStatus => Sys2Proof.Machine.execDpdGetStatus s
  | .dpdSetMismatch => Sys2Proof.Machine.execDpdSetMismatch s
  | .dpdSetTunerMap => Sys2Proof.Machine.execDpdSetTunerMap s
  | .dpdTuneWindow => Sys2Proof.Machine.execDpdTuneWindow s
  | .dpdSetTuner => Sys2Proof.Machine.execDpdSetTuner s
  | .dpdRffeXfer => Sys2Proof.Machine.execDpdRffeXfer s
  | .calRun => Sys2Proof.Machine.execCalRun s
  | .calSetSupervisor => Sys2Proof.Machine.execCalSetSupervisor s
  | .calGetStatus => Sys2Proof.Machine.execCalGetStatus s
  | .calGetPathStats => Sys2Proof.Machine.execCalGetPathStats s
  | .calStore => Sys2Proof.Machine.execCalStore s
  | .calRestore => Sys2Proof.Machine.execCalRestore s
  | .calReadSet => Sys2Proof.Machine.execCalReadSet s
  | .calSetCoupler => Sys2Proof.Machine.execCalSetCoupler s
  | .fhSetPort => Sys2Proof.Machine.execFhSetPort s
  | .fhSetStream => Sys2Proof.Machine.execFhSetStream s
  | .fhSetRecords => Sys2Proof.Machine.execFhSetRecords s
  | .fhSetPtp => Sys2Proof.Machine.execFhSetPtp s
  | .fhGetTime => Sys2Proof.Machine.execFhGetTime s
  | .fhGetPortStatus => Sys2Proof.Machine.execFhGetPortStatus s
  | .lclSetChain => Sys2Proof.Machine.execLclSetChain s
  | .lclGetStatus => Sys2Proof.Machine.execLclGetStatus s
  | .lclRetrain => Sys2Proof.Machine.execLclRetrain s
  | .lclGetLink => Sys2Proof.Machine.execLclGetLink s
  | .lclLastRelay => Sys2Proof.Machine.execLclLastRelay s
  | .haloArm => Sys2Proof.Machine.execHaloArm s
  | .haloDisarm => Sys2Proof.Machine.execHaloDisarm s
  | .haloTrigger => Sys2Proof.Machine.execHaloTrigger s
  | .haloSetMask => Sys2Proof.Machine.execHaloSetMask s
  | .haloGetCapture => Sys2Proof.Machine.execHaloGetCapture s
  | .haloRead => Sys2Proof.Machine.execHaloRead s
  | .haloSnapshot => Sys2Proof.Machine.execHaloSnapshot s
  | .haloSnapRead => Sys2Proof.Machine.execHaloSnapRead s
  | .haloSetTrigOut => Sys2Proof.Machine.execHaloSetTrigOut s
  | .pwrSleep => Sys2Proof.Machine.execPwrSleep s
  | .pwrGetStatus => Sys2Proof.Machine.execPwrGetStatus s
  | .pwrGetWake => Sys2Proof.Machine.execPwrGetWake s
  | .spareGetStatus => Sys2Proof.Machine.execSpareGetStatus s
  | .spareSetWindow => Sys2Proof.Machine.execSpareSetWindow s
  | .spareRetirePath => Sys2Proof.Machine.execSpareRetirePath s
  | .spareRestorePath => Sys2Proof.Machine.execSpareRestorePath s
  | .secBootLoad => Sys2Proof.Machine.execSecBootLoad s
  | .secGetState => Sys2Proof.Machine.execSecGetState s
  | .secSetOemKey => Sys2Proof.Machine.execSecSetOemKey s
  | .secSealRecord => Sys2Proof.Machine.execSecSealRecord s
  | .secLockDebug => Sys2Proof.Machine.execSecLockDebug s
  | .mbxDoorbellRing t ringBits => Sys2Proof.Machine.execMbxDoorbellRing t ringBits s
  | .mbxResponseRelease t doneBits => Sys2Proof.Machine.execMbxResponseRelease t doneBits s
  | .hostReset t v => Sys2Proof.Machine.execHostReset t v s
  | .dmaStart t c v read => Sys2Proof.Machine.execDmaStart t c v read s
  | .dmaStop t c v => Sys2Proof.Machine.execDmaStop t c v s
  | .evqEnable t v => Sys2Proof.Machine.execEvqEnable t v s
  | .evqDisable t v => Sys2Proof.Machine.execEvqDisable t v s
  | .evqConsWrite t v => Sys2Proof.Machine.execEvqConsWrite t v s
  | .msixVectorUnmask t v => Sys2Proof.Machine.execMsixVectorUnmask t v s
  | .registerWrite t off data => Sys2Proof.Machine.execRegisterWrite t off data s
  | .mailboxScan t => Sys2Proof.Machine.execMailboxScan t s
  | .relayResponse t mbx tag pos status payload => Sys2Proof.Machine.execRelayResponse t mbx tag pos status payload s
  | .relayResend mbx => Sys2Proof.Machine.execRelayResend mbx s
  | .relayTimeout mbx => Sys2Proof.Machine.execRelayTimeout mbx s
  | .workerCommandReceive t mbx bytes reached => Sys2Proof.Machine.execWorkerCommandReceive t mbx bytes reached s
  | .deferredCommandComplete t mbx cascade out => Sys2Proof.Machine.execDeferredCommandComplete t mbx cascade out s
  | .barrierRelease t => Sys2Proof.Machine.execBarrierRelease t s
  | .nvRecordWriteDone t ok => Sys2Proof.Machine.execNvRecordWriteDone t ok s
  | .vddAonPowerOn t waddr => Sys2Proof.Machine.execVddAonPowerOn t waddr s
  | .vddAonRemoved t => Sys2Proof.Machine.execVddAonRemoved t s
  | .pwrGoodRise t => Sys2Proof.Machine.execPwrGoodRise t s
  | .pwrGoodTimeout => Sys2Proof.Machine.execPwrGoodTimeout s
  | .pwrGoodFall t => Sys2Proof.Machine.execPwrGoodFall t s
  | .pwrEnRestart => Sys2Proof.Machine.execPwrEnRestart s
  | .resetLAssert t => Sys2Proof.Machine.execResetLAssert t s
  | .resetLRelease t role bootsrc => Sys2Proof.Machine.execResetLRelease t role bootsrc s
  | .perst t => Sys2Proof.Machine.execPerst t s
  | .functionLevelReset t => Sys2Proof.Machine.execFunctionLevelReset t s
  | .bootStageEnd t x => Sys2Proof.Machine.execBootStageEnd t x s
  | .cascadeImageReceive t image => Sys2Proof.Machine.execCascadeImageReceive t image s
  | .firmwareReady t => Sys2Proof.Machine.execFirmwareReady t s
  | .i2cAddressMatch t => Sys2Proof.Machine.execI2cAddressMatch t s
  | .wakeLLow t low => Sys2Proof.Machine.execWakeLLow t low s
  | .sleepTimerExpiry => Sys2Proof.Machine.execSleepTimerExpiry s
  | .sleepRequest t => Sys2Proof.Machine.execSleepRequest t s
  | .sleepPwrEnDrop => Sys2Proof.Machine.execSleepPwrEnDrop s
  | .sleepReadyReport t pos => Sys2Proof.Machine.execSleepReadyReport t pos s
  | .sleepGo t => Sys2Proof.Machine.execSleepGo t s
  | .sleepAbandon t => Sys2Proof.Machine.execSleepAbandon t s
  | .sleepReportTimeout => Sys2Proof.Machine.execSleepReportTimeout s
  | .workerSleepTimeout => Sys2Proof.Machine.execWorkerSleepTimeout s
  | .thermalSample tj ok => Sys2Proof.Machine.execThermalSample tj ok s
  | .transmitTrip t => Sys2Proof.Machine.execTransmitTrip t s
  | .shutdownPowerOff => Sys2Proof.Machine.execShutdownPowerOff s
  | .thermalHoldoffEnd => Sys2Proof.Machine.execThermalHoldoffEnd s
  | .vcoreRecommend t => Sys2Proof.Machine.execVcoreRecommend t s
  | .fabricSpeedMonitor t readings => Sys2Proof.Machine.execFabricSpeedMonitor t readings s
  | .fabricLinkFailure t axis index link => Sys2Proof.Machine.execFabricLinkFailure t axis index link s
  | .fabricFaultReset => Sys2Proof.Machine.execFabricFaultReset s
  | .memoryScrub t pool addr outcome rec => Sys2Proof.Machine.execMemoryScrub t pool addr outcome rec s
  | .maintenanceRingPoll t missed => Sys2Proof.Machine.execMaintenanceRingPoll t missed s
  | .unitHandshakeStall t owner => Sys2Proof.Machine.execUnitHandshakeStall t owner s
  | .unitReturnToService t owner => Sys2Proof.Machine.execUnitReturnToService t owner s
  | .leaseRelease t owner r => Sys2Proof.Machine.execLeaseRelease t owner r s
  | .watchdogRestart t => Sys2Proof.Machine.execWatchdogRestart t s
  | .watchdogExpiry t => Sys2Proof.Machine.execWatchdogExpiry t s
  | .watchdogReset => Sys2Proof.Machine.execWatchdogReset s
  | .sysResetDelayExpiry => Sys2Proof.Machine.execSysResetDelayExpiry s
  | .fwTrialReset => Sys2Proof.Machine.execFwTrialReset s
  | .referenceLost t src reason => Sys2Proof.Machine.execReferenceLost t src reason s
  | .referenceValid t src freq => Sys2Proof.Machine.execReferenceValid t src freq s
  | .referenceReacquired t => Sys2Proof.Machine.execReferenceReacquired t s
  | .freewheelLimit => Sys2Proof.Machine.execFreewheelLimit s
  | .synAcquisitionStart k => Sys2Proof.Machine.execSynAcquisitionStart k s
  | .synLock t k band gain tdcNorm kp ki => Sys2Proof.Machine.execSynLock t k band gain tdcNorm kp ki s
  | .synUnlock t k => Sys2Proof.Machine.execSynUnlock t k s
  | .synCommitInstant => Sys2Proof.Machine.execSynCommitInstant s
  | .synSwitchApply chain blankNs => Sys2Proof.Machine.execSynSwitchApply chain blankNs s
  | .synSwitchAbandon => Sys2Proof.Machine.execSynSwitchAbandon s
  | .baseStateChange => Sys2Proof.Machine.execBaseStateChange s
  | .radioTransitionDone t => Sys2Proof.Machine.execRadioTransitionDone t s
  | .gainChangeApply => Sys2Proof.Machine.execGainChangeApply s
  | .agcWindowEnd x => Sys2Proof.Machine.execAgcWindowEnd x s
  | .pathRxEnableSettle p => Sys2Proof.Machine.execPathRxEnableSettle p s
  | .auxAdcConversion t c raw => Sys2Proof.Machine.execAuxAdcConversion t c raw s
  | .auxOpenTest t c up down => Sys2Proof.Machine.execAuxOpenTest t c up down s
  | .stuckAdc t p => Sys2Proof.Machine.execStuckAdc t p s
  | .filtApplyInstant => Sys2Proof.Machine.execFiltApplyInstant s
  | .detectorAssert t p lower level => Sys2Proof.Machine.execDetectorAssert t p lower level s
  | .detectorRelease t p lower level => Sys2Proof.Machine.execDetectorRelease t p lower level s
  | .beamSwapFreeze => Sys2Proof.Machine.execBeamSwapFreeze s
  | .beamSwapApply => Sys2Proof.Machine.execBeamSwapApply s
  | .gridRecomputeDone t => Sys2Proof.Machine.execGridRecomputeDone t s
  | .adaptiveUpdate => Sys2Proof.Machine.execAdaptiveUpdate s
  | .adaptiveSolveDone t few ill sols => Sys2Proof.Machine.execAdaptiveSolveDone t few ill sols s
  | .signatureStore t order mant exponent az el sigAz sigEl => Sys2Proof.Machine.execSignatureStore t order mant exponent az el sigAz sigEl s
  | .searchEpoch t raws powers sats => Sys2Proof.Machine.execSearchEpoch t raws powers sats s
  | .detectionResume => Sys2Proof.Machine.execDetectionResume s
  | .candidateHoldEnd running => Sys2Proof.Machine.execCandidateHoldEnd running s
  | .contextClaim t ctx => Sys2Proof.Machine.execContextClaim t ctx s
  | .captureHandoff t ctx => Sys2Proof.Machine.execCaptureHandoff t ctx s
  | .contextRelease t ctx => Sys2Proof.Machine.execContextRelease t ctx s
  | .sfdFound t ctx sfd1 sub => Sys2Proof.Machine.execSfdFound t ctx sfd1 sub s
  | .sfdWindowExpiry t ctx => Sys2Proof.Machine.execSfdWindowExpiry t ctx s
  | .headerDecoded t ctx phr => Sys2Proof.Machine.execHeaderDecoded t ctx phr s
  | .lastAirSymbol t ctx running => Sys2Proof.Machine.execLastAirSymbol t ctx running s
  | .lostSync t ctx running => Sys2Proof.Machine.execLostSync t ctx running s
  | .recordComplete t order x => Sys2Proof.Machine.execRecordComplete t order x s
  | .fhLinkChange t p up cause => Sys2Proof.Machine.execFhLinkChange t p up cause s
  | .fhFrameReceive t p fcsOk length dest etherType fragment fec => Sys2Proof.Machine.execFhFrameReceive t p fcsOk length dest etherType fragment fec s
  | .rtcTransmitRequest t p rtcId seqId body => Sys2Proof.Machine.execRtcTransmitRequest t p rtcId seqId body s
  | .rtcBeamSwap t p rtcId seqId body => Sys2Proof.Machine.execRtcBeamSwap t p rtcId seqId body s
  | .rtcTransmitCancel t p rtcId seqId body => Sys2Proof.Machine.execRtcTransmitCancel t p rtcId seqId body s
  | .ecpriUnsupported t p typ => Sys2Proof.Machine.execEcpriUnsupported t p typ s
  | .ecpriDelayRequest t p action id => Sys2Proof.Machine.execEcpriDelayRequest t p action id s
  | .ecpriRemoteRequest t p id => Sys2Proof.Machine.execEcpriRemoteRequest t p id s
  | .ecpriSyncRequest t p => Sys2Proof.Machine.execEcpriSyncRequest t p s
  | .ecpriFaultAck t p => Sys2Proof.Machine.execEcpriFaultAck t p s
  | .ecpriFaultCease p => Sys2Proof.Machine.execEcpriFaultCease p s
  | .recordFrameSend => Sys2Proof.Machine.execRecordFrameSend s
  | .iqFrameComplete t slot count stamp gainEpoch weightEpoch samples => Sys2Proof.Machine.execIqFrameComplete t slot count stamp gainEpoch weightEpoch samples s
  | .iqFrameLaunch p => Sys2Proof.Machine.execIqFrameLaunch p s
  | .egressFrameEnd p => Sys2Proof.Machine.execEgressFrameEnd p s
  | .outcomeSend t => Sys2Proof.Machine.execOutcomeSend t s
  | .ptpSync t p id sport seqId twoStep originPs correctionPs => Sys2Proof.Machine.execPtpSync t p id sport seqId twoStep originPs correctionPs s
  | .ptpFollowUp t p id sport seqId originPs correctionPs => Sys2Proof.Machine.execPtpFollowUp t p id sport seqId originPs correctionPs s
  | .ptpAnnounce t p x => Sys2Proof.Machine.execPtpAnnounce t p x s
  | .ptpDelayResp t p id sport seqId receivePs correctionPs => Sys2Proof.Machine.execPtpDelayResp t p id sport seqId receivePs correctionPs s
  | .ptpDelayReqSend => Sys2Proof.Machine.execPtpDelayReqSend s
  | .ptpMasterLost => Sys2Proof.Machine.execPtpMasterLost s
  | .holdoverLimitExpiry => Sys2Proof.Machine.execHoldoverLimitExpiry s
  | .txPreparation => Sys2Proof.Machine.execTxPreparation s
  | .coexRequestAssert => Sys2Proof.Machine.execCoexRequestAssert s
  | .calYield => Sys2Proof.Machine.execCalYield s
  | .txStateEntry => Sys2Proof.Machine.execTxStateEntry s
  | .launchDecision t => Sys2Proof.Machine.execLaunchDecision t s
  | .trswTransmit => Sys2Proof.Machine.execTrswTransmit s
  | .coexGrantSample gnt busy => Sys2Proof.Machine.execCoexGrantSample gnt busy s
  | .burstLaunch => Sys2Proof.Machine.execBurstLaunch s
  | .frameEnd => Sys2Proof.Machine.execFrameEnd s
  | .burstRampDownEnd x => Sys2Proof.Machine.execBurstRampDownEnd x s
  | .trswReturn => Sys2Proof.Machine.execTrswReturn s
  | .rxBlankEnd => Sys2Proof.Machine.execRxBlankEnd s
  | .txLingerExpiry => Sys2Proof.Machine.execTxLingerExpiry s
  | .coexWithdrawal t busy => Sys2Proof.Machine.execCoexWithdrawal t busy s
  | .dutyHistorySave => Sys2Proof.Machine.execDutyHistorySave s
  | .obsSelectionGrant t m dir => Sys2Proof.Machine.execObsSelectionGrant t m dir s
  | .dpdAdaptCapture t nmse => Sys2Proof.Machine.execDpdAdaptCapture t nmse s
  | .dpdSolveDone t p tables freqHz => Sys2Proof.Machine.execDpdSolveDone t p tables freqHz s
  | .dpdStale t p => Sys2Proof.Machine.execDpdStale t p s
  | .mismatchMeasurement t readings => Sys2Proof.Machine.execMismatchMeasurement t readings s
  | .tuneWindowStart => Sys2Proof.Machine.execTuneWindowStart s
  | .tunerTrial t ratios => Sys2Proof.Machine.execTunerTrial t ratios s
  | .tuneWindowEnd t => Sys2Proof.Machine.execTuneWindowEnd t s
  | .rffeTransactionDone t bus data parityOk => Sys2Proof.Machine.execRffeTransactionDone t bus data parityOk s
  | .calRunTrigger t k => Sys2Proof.Machine.execCalRunTrigger t k s
  | .calStepComplete t k x => Sys2Proof.Machine.execCalStepComplete t k x s
  | .calStarved k lacking => Sys2Proof.Machine.execCalStarved k lacking s
  | .xdevSnapshotEval t recordOk snr inside span parts => Sys2Proof.Machine.execXdevSnapshotEval t recordOk snr inside span parts s
  | .calAutoStore t => Sys2Proof.Machine.execCalAutoStore t s
  | .hopTraining t h => Sys2Proof.Machine.execHopTraining t h s
  | .hopJoin t h lanes x => Sys2Proof.Machine.execHopJoin t h lanes x s
  | .hopRejoin t h => Sys2Proof.Machine.execHopRejoin t h s
  | .delayMeasurement t h probes trigPs => Sys2Proof.Machine.execDelayMeasurement t h probes trigPs s
  | .timeMessageSend => Sys2Proof.Machine.execTimeMessageSend s
  | .timeMessageReceive t device mstate => Sys2Proof.Machine.execTimeMessageReceive t device mstate s
  | .timeMessageTimeout => Sys2Proof.Machine.execTimeMessageTimeout s
  | .heartbeatSend => Sys2Proof.Machine.execHeartbeatSend s
  | .heartbeatTimeout h => Sys2Proof.Machine.execHeartbeatTimeout h s
  | .laneLockLoss t h lane headers groups => Sys2Proof.Machine.execLaneLockLoss t h lane headers groups s
  | .triggerWord t code parityOk => Sys2Proof.Machine.execTriggerWord t code parityOk s
  | .triggerWordAction => Sys2Proof.Machine.execTriggerWordAction s
  | .cut t received => Sys2Proof.Machine.execCut t received s
  | .cascadeMessage t src dst kind crcOk body => Sys2Proof.Machine.execCascadeMessage t src dst kind crcOk body s
  | .workerEventRelay t pos bytes => Sys2Proof.Machine.execWorkerEventRelay t pos bytes s
  | .eventRingWrite t stall => Sys2Proof.Machine.execEventRingWrite t stall s
  | .eventNotifyTimer => Sys2Proof.Machine.execEventNotifyTimer s
  | .dmaTransferDone t c read => Sys2Proof.Machine.execDmaTransferDone t c read s
  | .dmaHalfNotify t c read => Sys2Proof.Machine.execDmaHalfNotify t c read s
  | .dmaDescriptorDone t c read nextDesc => Sys2Proof.Machine.execDmaDescriptorDone t c read nextDesc s
  | .dmaTailRecheck t c tail nextDesc => Sys2Proof.Machine.execDmaTailRecheck t c tail nextDesc s
  | .dmaError t c cause written addr read => Sys2Proof.Machine.execDmaError t c cause written addr read s
  | .haloArmingComplete slot => Sys2Proof.Machine.execHaloArmingComplete slot s
  | .haloTrigIn t highNs => Sys2Proof.Machine.execHaloTrigIn t highNs s
  | .haloTriggerAccept t slot => Sys2Proof.Machine.execHaloTriggerAccept t slot s
  | .segmentComplete slot data => Sys2Proof.Machine.execSegmentComplete slot data s
  | .haloHoldoffEnd slot => Sys2Proof.Machine.execHaloHoldoffEnd slot s
  | .maskFrameTest t slot receiver meas => Sys2Proof.Machine.execMaskFrameTest t slot receiver meas s
  | .trigOutPulseEnd => Sys2Proof.Machine.execTrigOutPulseEnd s
  | .snapshotStrobe phaseErr => Sys2Proof.Machine.execSnapshotStrobe phaseErr s
  | .snapshotLatchComplete t => Sys2Proof.Machine.execSnapshotLatchComplete t s
  | .spareFailureDeclared t kind unit => Sys2Proof.Machine.execSpareFailureDeclared t kind unit s
  | .spareWindowOpen => Sys2Proof.Machine.execSpareWindowOpen s
  | .spareReplacementDone t interruptUs => Sys2Proof.Machine.execSpareReplacementDone t interruptUs s
  | .engineDrainTimeout => Sys2Proof.Machine.execEngineDrainTimeout s
  | .spareWear t indicator kind value => Sys2Proof.Machine.execSpareWear t indicator kind value s
  | .serviceRecordUpdate => Sys2Proof.Machine.execServiceRecordUpdate s
  | .hopTrainingFail t h lanes => Sys2Proof.Machine.execHopTrainingFail t h lanes s
  | .maintenanceWindowEnd => Sys2Proof.Machine.execMaintenanceWindowEnd s
  | .timeMarkSend => Sys2Proof.Machine.execTimeMarkSend s
  | .unitParityFault t owner => Sys2Proof.Machine.execUnitParityFault t owner s
  | .pcieLinkChange t up => Sys2Proof.Machine.execPcieLinkChange t up s
  | .pcieD3hotChange t d3hot => Sys2Proof.Machine.execPcieD3hotChange t d3hot s
  | .pcieCreditReturn t => Sys2Proof.Machine.execPcieCreditReturn t s
  | .bar2Write t off data => Sys2Proof.Machine.execBar2Write t off data s
  | .tapInstruction t x => Sys2Proof.Machine.execTapInstruction t x s

end Sys2Proof.Machine
end

