-- ==== Sys2Proof/Safety.lean ====
section
/-!
DEFINITION. What the statements and tests say of a state: which command SYSC starts next, and the forms of well-kept state.
-/

namespace Sys2Proof.Machine

open Sys2Proof

/-- SYSC starts the command `r` next (R403, R404), it is the command of `sp`, its length, target and role pass (checks 1 to 4 of
R408), and this device is one of those that run it (R407, R319). -/
abbrev Runs (s : State) (r : Running) (sp : CmdSpec) : Prop :=
  s.nextCommand = some r ∧ r.cmd.opcode = sp.opcode ∧ s.envelopeCheck sp r = none ∧ s.runsHere r = true

/-- SYSC starts the command `r` of `sp` next, and one of checks 2 to 4 of R408 gives it the status `st`. -/
abbrev TurnedAway (s : State) (r : Running) (sp : CmdSpec) (st : Nat) : Prop :=
  s.nextCommand = some r ∧ r.cmd.opcode = sp.opcode ∧ s.envelopeCheck sp r = some st

/-- Every memory of the state is in canonical form: device memory, the host memory that the device writes, and the host area of
non-volatile memory. -/
def State.memoriesWf (s : State) : Bool :=
  Memory.wf unlisted s.mem && Memory.wf unlisted s.hostMem && Memory.wf erased s.nv.hostArea

/-- The commands of the sys group with their envelopes (Table CMD-4). -/
def commandRowsSys : List (Instr × CmdSpec) :=
  [(.sysEcho, specSysEcho), (.sysGetInfo, specSysGetInfo), (.sysReset, specSysReset),
   (.sysSetEventFilter, specSysSetEventFilter), (.sysNvGetInfo, specSysNvGetInfo), (.sysNvWrite, specSysNvWrite),
   (.sysFwInstall, specSysFwInstall), (.sysFwActivate, specSysFwActivate), (.sysFwConfirm, specSysFwConfirm),
   (.sysFabricGetStatus, specSysFabricGetStatus), (.sysMemGetEcc, specSysMemGetEcc), (.sysLeaseGet, specSysLeaseGet),
   (.sysProcGetStatus, specSysProcGetStatus)]

/-- The commands of the syn group with their envelopes (Table CMD-4). -/
def commandRowsSyn : List (Instr × CmdSpec) :=
  [(.synSetState, specSynSetState), (.synSetMode, specSynSetMode), (.synTune, specSynTune),
   (.synCommit, specSynCommit), (.synSwitch, specSynSwitch), (.synStoreEntry, specSynStoreEntry),
   (.synReadEntry, specSynReadEntry), (.synSetClkout, specSynSetClkout), (.synSetReference, specSynSetReference),
   (.synGetStatus, specSynGetStatus)]

/-- The commands of the path group with their envelopes (Table CMD-4). -/
def commandRowsPath : List (Instr × CmdSpec) :=
  [(.pathSetEnable, specPathSetEnable), (.pathSetGain, specPathSetGain), (.pathSetAgc, specPathSetAgc),
   (.pathSetTxAtten, specPathSetTxAtten), (.pathSetFeTiming, specPathSetFeTiming), (.pathSetObs, specPathSetObs),
   (.pathGetStatus, specPathGetStatus), (.pathAuxAdcConfig, specPathAuxAdcConfig), (.pathAuxAdcRead, specPathAuxAdcRead),
   (.pathAuxDacSet, specPathAuxDacSet), (.pathAuxDacSine, specPathAuxDacSine)]

/-- The commands of the filt group with their envelopes (Table CMD-4). -/
def commandRowsFilt : List (Instr × CmdSpec) :=
  [(.filtLoadSet, specFiltLoadSet), (.filtAssign, specFiltAssign), (.filtApply, specFiltApply),
   (.filtSetDetector, specFiltSetDetector), (.filtGetStatus, specFiltGetStatus)]

/-- The commands of the beam group with their envelopes (Table CMD-4). -/
def commandRowsBeam : List (Instr × CmdSpec) :=
  [(.beamSetGeometry, specBeamSetGeometry), (.beamSetGrid, specBeamSetGrid), (.beamSetRxSource, specBeamSetRxSource),
   (.beamLoadBank, specBeamLoadBank), (.beamSwap, specBeamSwap), (.beamSetAdaptive, specBeamSetAdaptive),
   (.beamSetScale, specBeamSetScale), (.beamSigPin, specBeamSigPin), (.beamSigRead, specBeamSigRead),
   (.beamGetStatus, specBeamGetStatus)]

/-- The commands of the hzn group with their envelopes (Table CMD-4). -/
def commandRowsHzn : List (Instr × CmdSpec) :=
  [(.hznSetProfile, specHznSetProfile), (.hznSetNoise, specHznSetNoise), (.hznReadNoise, specHznReadNoise),
   (.hznGetStatus, specHznGetStatus), (.hznGetCounters, specHznGetCounters)]

/-- The commands of the dmd group with their envelopes (Table CMD-4). -/
def commandRowsDmd : List (Instr × CmdSpec) :=
  [(.dmdSetControl, specDmdSetControl), (.dmdGetControl, specDmdGetControl), (.dmdGetCounters, specDmdGetCounters),
   (.dmdGetContexts, specDmdGetContexts)]

/-- The commands of the tx group with their envelopes (Table CMD-4). -/
def commandRowsTx : List (Instr × CmdSpec) :=
  [(.txSubmit, specTxSubmit), (.txCancel, specTxCancel), (.txSetRamp, specTxSetRamp),
   (.txSetCoex, specTxSetCoex), (.txGetStatus, specTxGetStatus), (.txRegRead, specTxRegRead),
   (.txRegSupersede, specTxRegSupersede)]

/-- The commands of the dpd group with their envelopes (Table CMD-4). -/
def commandRowsDpd : List (Instr × CmdSpec) :=
  [(.dpdSetMode, specDpdSetMode), (.dpdLoadTables, specDpdLoadTables), (.dpdReadTables, specDpdReadTables),
   (.dpdGetStatus, specDpdGetStatus), (.dpdSetMismatch, specDpdSetMismatch), (.dpdSetTunerMap, specDpdSetTunerMap),
   (.dpdTuneWindow, specDpdTuneWindow), (.dpdSetTuner, specDpdSetTuner), (.dpdRffeXfer, specDpdRffeXfer)]

/-- The commands of the cal group with their envelopes (Table CMD-4). -/
def commandRowsCal : List (Instr × CmdSpec) :=
  [(.calRun, specCalRun), (.calSetSupervisor, specCalSetSupervisor), (.calGetStatus, specCalGetStatus),
   (.calGetPathStats, specCalGetPathStats), (.calStore, specCalStore), (.calRestore, specCalRestore),
   (.calReadSet, specCalReadSet), (.calSetCoupler, specCalSetCoupler)]

/-- The commands of the fh group with their envelopes (Table CMD-4). -/
def commandRowsFh : List (Instr × CmdSpec) :=
  [(.fhSetPort, specFhSetPort), (.fhSetStream, specFhSetStream), (.fhSetRecords, specFhSetRecords),
   (.fhSetPtp, specFhSetPtp), (.fhGetTime, specFhGetTime), (.fhGetPortStatus, specFhGetPortStatus)]

/-- The commands of the lcl group with their envelopes (Table CMD-4). -/
def commandRowsLcl : List (Instr × CmdSpec) :=
  [(.lclSetChain, specLclSetChain), (.lclGetStatus, specLclGetStatus), (.lclRetrain, specLclRetrain),
   (.lclGetLink, specLclGetLink), (.lclLastRelay, specLclLastRelay)]

/-- The commands of the halo group with their envelopes (Table CMD-4). -/
def commandRowsHalo : List (Instr × CmdSpec) :=
  [(.haloArm, specHaloArm), (.haloDisarm, specHaloDisarm), (.haloTrigger, specHaloTrigger),
   (.haloSetMask, specHaloSetMask), (.haloGetCapture, specHaloGetCapture), (.haloRead, specHaloRead),
   (.haloSnapshot, specHaloSnapshot), (.haloSnapRead, specHaloSnapRead), (.haloSetTrigOut, specHaloSetTrigOut)]

/-- The commands of the pwr group with their envelopes (Table CMD-4). -/
def commandRowsPwr : List (Instr × CmdSpec) :=
  [(.pwrSleep, specPwrSleep), (.pwrGetStatus, specPwrGetStatus), (.pwrGetWake, specPwrGetWake)]

/-- The commands of the spare group with their envelopes (Table CMD-4). -/
def commandRowsSpare : List (Instr × CmdSpec) :=
  [(.spareGetStatus, specSpareGetStatus), (.spareSetWindow, specSpareSetWindow), (.spareRetirePath, specSpareRetirePath),
   (.spareRestorePath, specSpareRestorePath)]

/-- The commands of the sec group with their envelopes (Table CMD-4). -/
def commandRowsSec : List (Instr × CmdSpec) :=
  [(.secBootLoad, specSecBootLoad), (.secGetState, specSecGetState), (.secSetOemKey, specSecSetOemKey),
   (.secSealRecord, specSecSealRecord), (.secLockDebug, specSecLockDebug)]

/-- Every Malette command with its envelope, in opcode order (Table CMD-4). -/
def commandRows : List (Instr × CmdSpec) :=
  commandRowsSys ++ commandRowsSyn ++ commandRowsPath ++ commandRowsFilt ++ commandRowsBeam ++ commandRowsHzn ++ commandRowsDmd ++ commandRowsTx ++
    commandRowsDpd ++ commandRowsCal ++ commandRowsFh ++ commandRowsLcl ++ commandRowsHalo ++ commandRowsPwr ++ commandRowsSpare ++ commandRowsSec

end Sys2Proof.Machine
end

