-- ==== Sys2Proof/Certificates/Slice0/Obligations.lean ====
section
/-!
DEFINITION. The statements about the model that the provers settle, family by family.
A command's statement names its envelope spec<Command>: CommandTable gives the opcodes, CommandEnvelope what its checks are,
and CommandResponse and CommandRelay what State.close does with the reply. A model's choice is named with its log entry.
-/

open Sys2Proof
open Sys2Proof.Machine


/-- A step takes the command at the front of the queue and runs it on the state with the queue's rest.
For every command c and state s, step of s with c at the front of its queue is exec of c on s with the rest of the queue; on
an empty queue the block idles, which is the model's choice (log entry 1). Rules: 00_scope.md. -/
def Obligations.StepRunsFrontCommand : Prop :=
  (∀ (c : Instr) (rest : List Instr) (s : State),
      step { s with pending := c :: rest } = exec c { s with pending := rest }) ∧
  (∀ s : State, s.pending = [] → step s = .next s)

/-- The registers that the spec gives a reset value read it after reset.
After reset the BAR0 registers of Tables HOST-3, HOST-4, HOST-8, HOST-9 and DMA-1 read their reset values, READY and the
queues are clear, every memory is in canonical form, and an unlisted mailbox is IDLE. Rules: R381 (in part), R382 (in part),
R383 (in part), 15_host_interface_and_events.md Tables HOST-3 HOST-4 HOST-8 HOST-9, 14_dma_engine.md Table DMA-1. -/
def Obligations.ResetValues : Prop :=
  State.reset.readReg 0x0000 = 0x00216440 ∧ State.reset.readReg 0x0004 = 0 ∧ State.reset.readReg 0x000C = 0 ∧
  State.reset.readReg 0x0010 = 0 ∧ State.reset.readReg 0x0020 = 0 ∧ State.reset.readReg 0x0104 = 0 ∧
  State.reset.readReg 0x0200 = 0 ∧ State.reset.readReg 0x0204 = 0 ∧ State.reset.readReg 0x0208 = 0 ∧
  State.reset.readReg 0x020C = 0 ∧ State.reset.readReg 0x0210 = 2 * 6 + 65536 ∧ State.reset.readReg 0x0214 = 0 ∧
  State.reset.readReg 0x0218 = 0 ∧ State.reset.readReg 0x021C = 0 ∧ State.reset.readReg 0x0220 = 0 ∧
  State.reset.readReg 0x0224 = 0 ∧ State.reset.readReg 0x0300 = 0 ∧ State.reset.readReg 0x0304 = 0 ∧
  State.reset.readReg 0x0308 = 0 ∧ State.reset.readReg 0x030C = 0 ∧
  (∀ c : Fin 8, ∀ k : Fin 14, State.reset.readReg (0x2000 + 0x40 * c.val + 4 * k.val) = 0) ∧
  (∀ n : Fin 4, (State.reset.host.mailbox n).state = .idle) ∧
  State.reset.pending = [] ∧ State.reset.cmd.running = [] ∧ State.reset.evq.store = [] ∧ State.reset.tx.queue = [] ∧
  State.reset.nv.queue = []

/-- Every memory is in canonical form at reset.
Device memory, the host memory that the device writes and the host area of non-volatile memory are in canonical form at
State.reset, so the invariant of MemoriesStayCanonical holds there. Rules: 13_stratus_fabric_and_memory.md Table STR-4. -/
def Obligations.MemoriesCanonicalAtReset : Prop := State.reset.memoriesWf = true

/-- Every step keeps every memory in canonical form.
For every state whose memories (device memory, the host memory that the device writes, the host area of non-volatile memory)
are in canonical form, addresses strictly rising and no cell equal to the unlisted byte, if step answers a next state then
its memories are in canonical form too, whichever command stood at the front of the queue. Rules:
13_stratus_fabric_and_memory.md Table STR-4, R366 (in part), R384 (in part), R411 (in part). -/
def Obligations.MemoriesStayCanonical : Prop :=
  ∀ s t : State, s.memoriesWf = true → step s = .next t → t.memoriesWf = true

/-- The receive and transmit masks, scheduled gain steps and what an applied gain change does.
PATH_SET_ENABLE sets both masks, a path put in during RX feeding samples from 8 us on, a transmit mask waiting while a burst
is in progress; a retired path ends it PATH_RETIRED. PATH_SET_GAIN takes the lowest free slot or the slot of a change of the
same instant; without one it ends NO_RESOURCE, and a change that is not immediate while time is INVALID ends TIME_INVALID. A
change that moves the step counts one epoch, flags its interval, restarts the window and the hold count; one that does not
frees its slot and does nothing else. The end of 8 us lets a path feed samples. Rules: R59 (in part), R60 (in part), R61 (in
part), R64 (in part), R69 (in part), R70 (in part), R88 (in part), R91 (in part). -/
def Obligations.PathMasksAndGain : Prop :=
  (∀ (s : State) (r : Running), Runs s r specPathSetEnable → mask64 r.cmd.payload 0 &&& s.spare.rxRetired = 0#64 →
      mask64 r.cmd.payload 8 &&& s.spare.txRetired = 0#64 → s.role ≠ .worker →
      ∃ t, exec .pathSetEnable s = .next (s.close specPathSetEnable r (.ok t (bytesAt r.cmd.payload 0 16))) ∧
        t.path.rxMask = mask64 r.cmd.payload 0 ∧
        (if s.burstInProgress = true then
            t.path.txMask = s.path.txMask ∧ t.path.txMaskNext = some (mask64 r.cmd.payload 8)
          else t.path.txMask = mask64 r.cmd.payload 8 ∧ t.path.txMaskNext = none) ∧
        (∀ k : Fin 64, s.receiving = true → (mask64 r.cmd.payload 0).getLsbD k = true → s.path.rxMask.getLsbD k = false →
          Tab.find? t.path.settling k.val = some (s.now + 8 * 384000)) ∧
        t.path.step = s.path.step ∧ t.path.slots = s.path.slots ∧ t.beam = s.beam ∧
        { t with path := s.path, filt := s.filt, halo := s.halo, cal := s.cal } = s) ∧
  (∀ (s : State) (r : Running), Runs s r specPathSetEnable →
      (mask64 r.cmd.payload 0 &&& s.spare.rxRetired ≠ 0#64 ∨ mask64 r.cmd.payload 8 &&& s.spare.txRetired ≠ 0#64) →
      exec .pathSetEnable s = .next (s.respond r ⟨0x0301, []⟩)) ∧
  (∀ (s : State) (r : Running) (k : Nat), Runs s r specPathSetGain → u8 r.cmd.payload 0 ≤ 15 →
      (u8 r.cmd.payload 1 % 2 = 1 ∨ s.time.state ≠ .invalid) →
      gainSlot s.path.slots (u8 r.cmd.payload 1 % 2 == 1) (s.instantOf r.cmd.payload 8) = some k →
      exec .pathSetGain s = .next (s.close specPathSetGain r (.ok { s with path := { s.path with
          slots := Tab.set s.path.slots k
            { due := s.dueInstant r (u8 r.cmd.payload 1 % 2 == 1) (s.instantOf r.cmd.payload 8) (100 * 384000) 2500
              device := s.instantOf r.cmd.payload 8
              immediate := u8 r.cmd.payload 1 % 2 == 1
              step := u8 r.cmd.payload 0 } } }
        (s.ts64Bytes (s.dueInstant r (u8 r.cmd.payload 1 % 2 == 1) (s.instantOf r.cmd.payload 8) (100 * 384000) 2500) ++
          le 1 k)))) ∧
  (∀ (s : State) (r : Running), Runs s r specPathSetGain → u8 r.cmd.payload 0 ≤ 15 → u8 r.cmd.payload 1 % 2 = 0 →
      s.time.state = .invalid → exec .pathSetGain s = .next (s.respond r ⟨5, []⟩)) ∧
  (∀ (s : State) (r : Running), Runs s r specPathSetGain → u8 r.cmd.payload 0 ≤ 15 → u8 r.cmd.payload 1 % 2 = 1 →
      (∀ k : Fin 4, (Tab.find? s.path.slots k.val).isSome = true) →
      exec .pathSetGain s = .next (s.respond r ⟨7, []⟩)) ∧
  (∀ (s : State) (n due cause : Nat) (slot : Option Nat), s.nextGain = some (slot, due, n, cause) → n ≠ s.path.step →
      ∃ t, exec .gainChangeApply s = .next t ∧ t.path.step = n ∧ t.path.epoch = (s.path.epoch + 1) % 256 ∧
        t.path.flagged = { start := due - s.maxRxTaps * 10000, stop := due + 300 * 384 + s.maxRxTaps * 10000 } ::
          s.path.flagged ∧
        t.path.windowStart = due ∧ t.path.hold = 0 ∧ t.path.decided = none ∧
        (∀ k, slot = some k → Tab.find? t.path.slots k = none) ∧
        (∀ k, slot ≠ some k → Tab.find? t.path.slots k = Tab.find? s.path.slots k) ∧
        t.path.rxMask = s.path.rxMask ∧ t.path.txMask = s.path.txMask) ∧
  (∀ (s : State) (due cause k : Nat), s.nextGain = some (some k, due, s.path.step, cause) →
      exec .gainChangeApply s =
        .next { s.advance due with path := { s.path with slots := Tab.erase s.path.slots k } }) ∧
  (∀ (s : State) (p : Fin 64) (t : Nat), Tab.find? s.path.settling p.val = some t →
      exec (.pathRxEnableSettle p) s =
        .next { s.advance t with path := { s.path with settling := Tab.erase s.path.settling p.val } })

/-- PATH_SET_AGC and the decision at the end of a window.
PATH_SET_AGC sets the seven parameters and, where it enables the AGC, starts a fresh window with hold count zero; STEP_MIN
above STEP_MAX ends BAD_PARAM. At the end of a window with 5 ms of RX, on a device that is alone: a step above STEP_MAX or
below STEP_MIN goes to it; else a count above OVR_LIMIT lowers the step by DEC_STEPS, not below STEP_MIN; else INC_HOLD
quiet windows raise it by one; else it stays. With less than 5 ms no decision is made. The decision waits for the first ADC
sample after the window. With the AGC off and a count above OVR_LIMIT nothing but counts and the event changes. Rules: R62
(in part), R63 (in part), R64 (in part), R65 (in part), R90 (in part). -/
def Obligations.ArrayAgc : Prop :=
  (∀ (s : State) (r : Running), Runs s r specPathSetAgc → u8 r.cmd.payload 0 ≤ 1 → u8 r.cmd.payload 2 ≤ 15 →
      u8 r.cmd.payload 1 ≤ u8 r.cmd.payload 2 → 1 ≤ u8 r.cmd.payload 3 → u8 r.cmd.payload 3 ≤ 4 →
      1 ≤ u16 r.cmd.payload 4 → 6 ≤ u8 r.cmd.payload 6 → u8 r.cmd.payload 6 ≤ 30 → 1 ≤ u8 r.cmd.payload 7 →
      u8 r.cmd.payload 7 ≤ 100 →
      ∃ t, exec .pathSetAgc s = .next (s.close specPathSetAgc r (.ok t [])) ∧
        t.path.agcEnable = (u8 r.cmd.payload 0 == 1) ∧ t.path.stepMin = u8 r.cmd.payload 1 ∧
        t.path.stepMax = u8 r.cmd.payload 2 ∧ t.path.decSteps = u8 r.cmd.payload 3 ∧
        t.path.ovrLimit = u16 r.cmd.payload 4 ∧ t.path.headroomDb = u8 r.cmd.payload 6 ∧
        t.path.incHold = u8 r.cmd.payload 7 ∧ t.path.step = s.path.step ∧
        (if u8 r.cmd.payload 0 = 1 ∧ s.path.agcEnable = false then t.path.windowStart = s.now ∧ t.path.hold = 0
          else t.path.windowStart = s.path.windowStart ∧ t.path.hold = s.path.hold) ∧
        { t with path := s.path } = s) ∧
  (∀ (s : State) (r : Running), Runs s r specPathSetAgc → u8 r.cmd.payload 2 < u8 r.cmd.payload 1 →
      exec .pathSetAgc s = .next (s.respond r ⟨3, []⟩)) ∧
  (∀ (q : PathUnit) (peak : Int) (m : Nat), q.stepMax < q.step → q.agcDecision true m peak = (q.stepMax, 0)) ∧
  (∀ (q : PathUnit) (peak : Int) (m : Nat), q.step < q.stepMin → q.step ≤ q.stepMax →
      q.agcDecision true m peak = (q.stepMin, 0)) ∧
  (∀ (q : PathUnit) (peak : Int) (m : Nat), q.step ≤ q.stepMax → q.stepMin ≤ q.step → q.ovrLimit < m →
      q.agcDecision true m peak = (max q.stepMin (q.step - q.decSteps), 0)) ∧
  (∀ (q : PathUnit) (peak : Int), q.step ≤ q.stepMax → q.stepMin ≤ q.step →
      peak < -(100 * ((q.headroomDb : Int) + 3)) →
      q.agcDecision true 0 peak =
        (if q.incHold ≤ q.hold + 1 then min q.stepMax (q.step + 1) else q.step, q.hold + 1)) ∧
  (∀ (q : PathUnit) (peak : Int) (m : Nat), q.step ≤ q.stepMax → q.stepMin ≤ q.step → m ≤ q.ovrLimit →
      (m ≠ 0 ∨ -(100 * ((q.headroomDb : Int) + 3)) ≤ peak) → q.agcDecision true m peak = (q.step, 0)) ∧
  (∀ (q : PathUnit) (peak : Int) (m : Nat), q.agcDecision false m peak = (q.step, q.hold)) ∧
  (∀ (s : State) (peak : Int), s.role = .standalone → s.path.agcEnable = true → s.path.rxTime = 1920000000 →
      s.path.rxSince = none →
      ∃ t, exec (.agcWindowEnd { ovr := [], peak := peak }) s = .next t ∧
        t.path.windowStart = s.path.windowStart + 3840000000 ∧ t.path.rxTime = 0 ∧ t.path.step = s.path.step ∧
        t.path.hold = (s.path.agcDecision true 0 peak).2 ∧
        (if (s.path.agcDecision true 0 peak).1 = s.path.step then t.path.decided = s.path.decided
          else t.path.decided = some ((s.advance (s.path.windowStart + 3840000000)).sampleAt
            (s.path.windowStart + 3840000000) 2500, (s.path.agcDecision true 0 peak).1, 1)) ∧
        { t with path := s.path, now := s.now } = s) ∧
  (∀ (s : State) (n : Nat) (peak : Int), s.role = .standalone → s.path.agcEnable = false →
      s.path.rxMask.getLsbD 0 = true → s.path.ovrLimit < min 65535 n →
      ∃ t, exec (.agcWindowEnd { ovr := [n], peak := peak }) s = .next t ∧ t.path.step = s.path.step ∧ t.path.hold = s.path.hold ∧
        t.path.decided = s.path.decided ∧ { t with path := s.path, now := s.now, evq := s.evq } = s)

/-- Attenuation, line timing, observation attenuation and status complete with the settings the payloads give.
PATH_SET_TX_ATTEN sets the attenuation of the paths of its mask, at once where no burst is in progress, else of the paths
that radiate at the burst's end; PATH_SET_FE_TIMING and PATH_SET_OBS set their values, each ending BAD_PARAM outside its
range; PATH_GET_STATUS answers Table PATH-7 and clears the transmit clip counts alone. Rules: R68 (in part), R72 (in part),
R75 (in part), R88, R90 (in part), 03_transceiver_paths.md Table PATH-7. -/
def Obligations.PathSettings : Prop :=
  (∀ (s : State) (r : Running), Runs s r specPathSetTxAtten → u8 r.cmd.payload 8 ≤ 15 → s.burstInProgress = false →
      ∃ t, exec .pathSetTxAtten s = .next (s.close specPathSetTxAtten r (.ok t [])) ∧
        (∀ k : Fin 64, Tab.get t.path.atten k.val 0 =
          if (mask64 r.cmd.payload 0).getLsbD k then u8 r.cmd.payload 8 else Tab.get s.path.atten k.val 0) ∧
        { t with path := { t.path with atten := s.path.atten, attenNext := s.path.attenNext } } = s) ∧
  (∀ (s : State) (r : Running), Runs s r specPathSetTxAtten → u8 r.cmd.payload 8 ≤ 15 → s.burstInProgress = true →
      mask64 r.cmd.payload 0 = s.path.txMask →
      ∃ t, exec .pathSetTxAtten s = .next (s.close specPathSetTxAtten r (.ok t [])) ∧
        t.path.atten = s.path.atten ∧
        (∀ k : Fin 64, s.path.txMask.getLsbD k = true → Tab.get t.path.attenNext k.val 0 = u8 r.cmd.payload 8) ∧
        { t with path := { t.path with attenNext := s.path.attenNext } } = s) ∧
  (∀ (s : State) (r : Running), Runs s r specPathSetTxAtten → 15 < u8 r.cmd.payload 8 →
      exec .pathSetTxAtten s = .next (s.respond r ⟨3, []⟩)) ∧
  (∀ (s : State) (r : Running), Runs s r specPathSetFeTiming → 5 ≤ u16 r.cmd.payload 0 → u16 r.cmd.payload 0 ≤ 150 →
      5 ≤ u16 r.cmd.payload 2 → u16 r.cmd.payload 2 ≤ 100 → u16 r.cmd.payload 4 ≤ 100 →
      exec .pathSetFeTiming s = .next (s.close specPathSetFeTiming r (.ok { s with path := { s.path with
        trswLead := u16 r.cmd.payload 0, trswLag := u16 r.cmd.payload 2, rxBlank := u16 r.cmd.payload 4 } } []))) ∧
  (∀ (s : State) (r : Running), Runs s r specPathSetFeTiming →
      (u16 r.cmd.payload 0 < 5 ∨ 150 < u16 r.cmd.payload 0 ∨ u16 r.cmd.payload 2 < 5 ∨ 100 < u16 r.cmd.payload 2 ∨
        100 < u16 r.cmd.payload 4) →
      exec .pathSetFeTiming s = .next (s.respond r ⟨3, []⟩)) ∧
  (∀ (s : State) (r : Running), Runs s r specPathSetObs → u8 r.cmd.payload 2 ≤ 15 →
      ∃ t, exec .pathSetObs s = .next (s.close specPathSetObs r (.ok t [])) ∧
        (∀ k : Fin 16, Tab.get t.path.obsAtten k.val 10 =
          if u16 r.cmd.payload 0 / 2 ^ k.val % 2 = 1 then u8 r.cmd.payload 2 else Tab.get s.path.obsAtten k.val 10) ∧
        { t with path := { t.path with obsAtten := s.path.obsAtten } } = s) ∧
  (∀ (s : State) (r : Running), Runs s r specPathGetStatus →
      exec .pathGetStatus s = .next (s.close specPathGetStatus r (.ok { s with path := { s.path with txClip := [] } }
        (le 1 s.path.step ++ le 1 s.path.epoch ++ [if s.path.agcEnable = true ∧ s.role ≠ .worker then 1#8 else 0#8] ++
          le 1 s.path.slots.length ++ zeros 4 ++ le 8 s.path.rxMask.toNat ++ le 8 s.path.txMask.toNat ++
          le 8 s.spare.rxRetired.toNat ++ le 8 s.spare.txRetired.toNat ++
          (List.range 64).flatMap (fun p => le 2 (Tab.get s.path.ovrCounts p 0)) ++
          (List.range 64).flatMap (fun p => le 2 (Tab.get s.path.txClip p 0))))))

/-- The monitor ADC channels, the auxiliary DACs and the observation selection.
PATH_AUX_ADC_CONFIG configures one channel and PATH_AUX_ADC_READ answers the selected ones; a conversion without averaging
is the result, inside the limits without an event; an open-wire test is open at 3,755 up and 341 down and closed else.
PATH_AUX_DAC_SET drives a high-impedance channel at CODE, keeps a sine running around the new CODE, and PATH_AUX_DAC_SINE on
a high-impedance channel ends WRONG_STATE, with AMPLITUDE 0 returns to static. An update moves by at most SLEW. The
selection goes to the highest-ranked user that waits, and to none while a holder keeps it. Rules: R77 (in part), R79 (in
part), R81 (in part), R82 (in part), R84 (in part), R85 (in part), R86 (in part), R87 (in part), R89, R90 (in part). -/
def Obligations.AuxConverters : Prop :=
  (∀ (s : State) (r : Running), Runs s r specPathAuxAdcConfig → u8 r.cmd.payload 0 ≤ 15 → u8 r.cmd.payload 1 ≤ 1 →
      u8 r.cmd.payload 2 ≤ 8 → u8 r.cmd.payload 3 ≤ 1 → 1000 ≤ u32 r.cmd.payload 4 → u32 r.cmd.payload 4 ≤ 10000000 →
      u16 r.cmd.payload 10 ≤ 4095 → u16 r.cmd.payload 8 ≤ u16 r.cmd.payload 10 →
      exec .pathAuxAdcConfig s = .next (s.close specPathAuxAdcConfig r (.ok { s with path := { s.path with
        adc := Tab.set s.path.adc (u8 r.cmd.payload 0) { Tab.get s.path.adc (u8 r.cmd.payload 0) {} with
          enable := u8 r.cmd.payload 1 == 1
          avgLog2 := u8 r.cmd.payload 2
          openTest := u8 r.cmd.payload 3 == 1
          periodUs := u32 r.cmd.payload 4
          limitLo := u16 r.cmd.payload 8
          limitHi := u16 r.cmd.payload 10
          sum := 0
          count := 0 } } } []))) ∧
  (∀ (s : State) (r : Running), Runs s r specPathAuxAdcConfig → u16 r.cmd.payload 10 < u16 r.cmd.payload 8 →
      exec .pathAuxAdcConfig s = .next (s.respond r ⟨3, []⟩)) ∧
  (∀ (s : State) (r : Running), Runs s r specPathAuxAdcRead →
      exec .pathAuxAdcRead s = .next (s.close specPathAuxAdcRead r (.ok s ((List.range 16).flatMap (fun k =>
        if u16 r.cmd.payload 0 / 2 ^ k % 2 = 1 then
          le 2 (Tab.get s.path.adc k {}).code ++ le 2 (Tab.get s.path.adc k {}).flags else zeros 4))))) ∧
  (∀ (s : State) (t : Nat) (c : Fin 16) (raw : BitVec 12), (Tab.get s.path.adc c.val {}).enable = true →
      (Tab.get s.path.adc c.val {}).avgLog2 = 0 → (Tab.get s.path.adc c.val {}).sum = 0 →
      (Tab.get s.path.adc c.val {}).count = 0 → (Tab.get s.path.adc c.val {}).limitLo ≤ raw.toNat →
      raw.toNat ≤ (Tab.get s.path.adc c.val {}).limitHi →
      ∃ u, exec (.auxAdcConversion t c raw) s = .next u ∧ (Tab.get u.path.adc c.val {}).code = raw.toNat ∧
        (Tab.get u.path.adc c.val {}).valid = true ∧ (Tab.get u.path.adc c.val {}).low = false ∧
        (Tab.get u.path.adc c.val {}).high = false ∧ (Tab.get u.path.adc c.val {}).lowTold = false ∧
        { u with path := s.path, now := s.now } = s) ∧
  (∀ (s : State) (t : Nat) (c : Fin 16) (raw : BitVec 12), (Tab.get s.path.adc c.val {}).enable = true →
      (Tab.get s.path.adc c.val {}).avgLog2 = 0 → (Tab.get s.path.adc c.val {}).sum = 0 →
      (Tab.get s.path.adc c.val {}).count = 0 → (Tab.get s.path.adc c.val {}).limitHi < raw.toNat →
      (Tab.get s.path.adc c.val {}).limitLo ≤ raw.toNat → (Tab.get s.path.adc c.val {}).highTold = false →
      ∃ u : State, exec (.auxAdcConversion t c raw) s =
          .next (u.raiseEvent 0x0303 .warn ([BitVec.ofNat 8 c.val, 8#8] ++ le 2 raw.toNat ++ zeros 12)) ∧
        (Tab.get u.path.adc c.val {}).code = raw.toNat ∧ (Tab.get u.path.adc c.val {}).high = true ∧
        (Tab.get u.path.adc c.val {}).highTold = true ∧ { u with path := s.path, now := s.now } = s) ∧
  (∀ (s : State) (t : Nat) (c : Fin 16) (up down : BitVec 12), (Tab.get s.path.adc c.val {}).enable = true →
      (Tab.get s.path.adc c.val {}).openTest = true →
      ∃ u, exec (.auxOpenTest t c up down) s = .next u ∧
        (Tab.get u.path.adc c.val {}).isOpen = (decide (3755 ≤ up.toNat) && decide (down.toNat ≤ 341)) ∧
        { u with path := s.path, now := s.now, evq := s.evq, lcl := s.lcl } = s) ∧
  (∀ (s : State) (r : Running), Runs s r specPathAuxDacSet → u8 r.cmd.payload 0 ≤ 15 → u8 r.cmd.payload 1 = 1 →
      u8 r.cmd.payload 8 ≤ 1 → (Tab.get s.path.dac (u8 r.cmd.payload 0) {}).mode = .highZ →
      ∃ t, exec .pathAuxDacSet s = .next (s.close specPathAuxDacSet r (.ok t [])) ∧
        (Tab.get t.path.dac (u8 r.cmd.payload 0) {}).mode = .static ∧
        (Tab.get t.path.dac (u8 r.cmd.payload 0) {}).out = u16 r.cmd.payload 2 ∧
        (Tab.get t.path.dac (u8 r.cmd.payload 0) {}).code = u16 r.cmd.payload 2 ∧
        (Tab.get t.path.dac (u8 r.cmd.payload 0) {}).slew = u16 r.cmd.payload 4 ∧
        (Tab.get t.path.dac (u8 r.cmd.payload 0) {}).safeCode = u16 r.cmd.payload 6 ∧
        { t with path := { t.path with dac := s.path.dac } } = s) ∧
  (∀ (s : State) (r : Running), Runs s r specPathAuxDacSet → u8 r.cmd.payload 0 ≤ 15 → u8 r.cmd.payload 1 = 2 →
      u8 r.cmd.payload 8 ≤ 1 → (Tab.get s.path.dac (u8 r.cmd.payload 0) {}).mode = .sine →
      (Tab.get s.path.dac (u8 r.cmd.payload 0) {}).outAt = s.now →
      ∃ t, exec .pathAuxDacSet s = .next (s.close specPathAuxDacSet r (.ok t [])) ∧
        (Tab.get t.path.dac (u8 r.cmd.payload 0) {}).mode = .sine ∧
        (Tab.get t.path.dac (u8 r.cmd.payload 0) {}).code = u16 r.cmd.payload 2 ∧
        (Tab.get t.path.dac (u8 r.cmd.payload 0) {}).phase = (Tab.get s.path.dac (u8 r.cmd.payload 0) {}).phase ∧
        { t with path := { t.path with dac := s.path.dac } } = s) ∧
  (∀ (s : State) (r : Running), Runs s r specPathAuxDacSine → u8 r.cmd.payload 0 ≤ 15 →
      1 ≤ u32 r.cmd.payload 4 % 2 ^ 24 → u32 r.cmd.payload 4 % 2 ^ 24 ≤ 699051 → u16 r.cmd.payload 8 ≤ 32767 →
      (Tab.get s.path.dac (u8 r.cmd.payload 0) {}).mode = .highZ →
      exec .pathAuxDacSine s = .next (s.respond r ⟨8, []⟩)) ∧
  (∀ (s : State) (r : Running), Runs s r specPathAuxDacSine → u8 r.cmd.payload 0 ≤ 15 →
      1 ≤ u32 r.cmd.payload 4 % 2 ^ 24 → u32 r.cmd.payload 4 % 2 ^ 24 ≤ 699051 → u16 r.cmd.payload 8 ≤ 32767 →
      (Tab.get s.path.dac (u8 r.cmd.payload 0) {}).mode = .static →
      ∃ t, exec .pathAuxDacSine s = .next (s.close specPathAuxDacSine r (.ok t [])) ∧
        (Tab.get t.path.dac (u8 r.cmd.payload 0) {}).mode = (if u16 r.cmd.payload 8 = 0 then .static else .sine) ∧
        (u16 r.cmd.payload 8 ≠ 0 → (Tab.get t.path.dac (u8 r.cmd.payload 0) {}).freq = u32 r.cmd.payload 4 % 2 ^ 24 ∧
          (Tab.get t.path.dac (u8 r.cmd.payload 0) {}).amplitude = u16 r.cmd.payload 8 ∧
          (Tab.get t.path.dac (u8 r.cmd.payload 0) {}).phase = u16 r.cmd.payload 10 * 256) ∧
        { t with path := { t.path with dac := s.path.dac } } = s) ∧
  (∀ d : AuxDac, d.slew ≠ 0 → d.update.out ≤ d.out + d.slew ∧ d.out ≤ d.update.out + d.slew) ∧
  (∀ (s : State) (t : Nat) (m : BitVec 2) (dir : BitVec 1), s.path.obsOwner = some .halo →
      exec (.obsSelectionGrant t m dir) s = .next (s.advance t)) ∧
  (∀ (s : State) (t : Nat) (m : BitVec 2) (dir : BitVec 1), s.path.obsOwner = none → bestUser s.obsUsers = some .cal →
      exec (.obsSelectionGrant t m dir) s = .next { s.advance t with
        path := { s.path with
          obsOwner := some .cal
          obsSince := max s.now t
          obsWaiting := s.path.obsWaiting.filter (fun v => !(v == .cal)) }
        pins := { s.pins with obssel := m, obsdir := dir } })

/-- The divider follows Table SYN-2, the oscillator stays in range, and a frequency outside every row ends LO_UNREACHABLE.
For every frequency: the divider is 8, 4 or 2 exactly in the rows of Table SYN-2 and none elsewhere, the gaps included; with
a divider the oscillator runs from 3,000 to 5,600 MHz, the frequency control word fits 32 bits and is the nearest (ties to
even). SYN_TUNE of a frequency outside every row, for a synthesiser in service and not held back by STANDBY, ends
LO_UNREACHABLE and changes nothing else. Rules: R97. -/
def Obligations.LoFrequencyPlan : Prop :=
  (∀ f : Nat, loDivider f = (if 380000000 ≤ f ∧ f ≤ 700000000 then some 8 else if 750000000 ≤ f ∧ f ≤ 1400000000 then some 4
      else if 1500000000 ≤ f ∧ f ≤ 2700000000 then some 2 else none)) ∧
  (∀ f d : Nat, loDivider f = some d → 3000000000 ≤ f * d ∧ f * d ≤ 5600000000 ∧ loFcw f d < 2 ^ 32 ∧
      2 * (loFcw f d * 153600000) ≤ 2 * (f * d * 2 ^ 24) + 153600000 ∧
      2 * (f * d * 2 ^ 24) ≤ 2 * (loFcw f d * 153600000) + 153600000) ∧
  (∀ (s : State) (r : Running), Runs s r specSynTune → u8 r.cmd.payload 0 ≤ 2 → u8 r.cmd.payload 1 % 2 = 0 →
      s.radio.inService (u8 r.cmd.payload 0) = true → (u8 r.cmd.payload 0 = s.radio.active ∨ s.radio.base ≠ .standby) →
      loDivider (u32 r.cmd.payload 4) = none → exec .synTune s = .next (s.respond r ⟨0x0204, []⟩))

/-- Firmware enables CLKOUT3 with DIVIDER 5 on a MANAGER or WORKER, and the command for it ends NOT_PERMITTED there.
When firmware raises READY on a MANAGER or WORKER, CLKOUT3 is enabled with DIVIDER 5; SYN_SET_CLKOUT for index 3 on such a
device ends NOT_PERMITTED whatever its other fields. Rules: R116. -/
def Obligations.ClockOutputOfTheChain : Prop :=
  (∀ (s : State) (t : Nat), s.boot.stage = 9 → (s.role = .manager ∨ s.role = .worker) →
      ∃ u, exec (.firmwareReady t) s = .next u ∧ (Tab.get u.radio.clkOut 3 {}).enable = true ∧
        (Tab.get u.radio.clkOut 3 {}).divider = 5 ∧ u.boot.ready = true) ∧
  (∀ (s : State) (r : Running), Runs s r specSynSetClkout → u8 r.cmd.payload 0 = 3 →
      (s.role = .manager ∨ s.role = .worker) → exec .synSetClkout s = .next (s.respond r ⟨4, []⟩))

/-- SYN_SET_MODE, SYN_TUNE, SYN_COMMIT, SYN_SWITCH and the channel-entry commands complete with what they set.
SYN_SET_MODE sets the mode and TEMP_WINDOW, a change to RESTART discarding what is staged, and ends BUSY while a commit is
pending. SYN_TUNE stages in COMMIT mode and does not touch the loop; in RESTART mode on the second synthesiser it starts the
acquisition at once; a synthesiser not in service ends SYN_NOT_IN_SERVICE. SYN_COMMIT copies what is staged into the one
pending commit; SYN_SWITCH becomes the pending switch and ends BUSY while another is. SYN_STORE_ENTRY starts the write of
the entry, SYN_READ_ENTRY answers it, SYN_GET_STATUS answers Table SYN-7. Rules: R96 (in part), R100 (in part), R101 (in
part), R102 (in part), R103 (in part), R104 (in part), R105 (in part), R110 (in part), R122 (in part). -/
def Obligations.SynthesiserCommands : Prop :=
  (∀ (s : State) (r : Running), Runs s r specSynSetMode → u8 r.cmd.payload 0 ≤ 2 → u8 r.cmd.payload 1 ≤ 1 →
      5 ≤ u8 r.cmd.payload 2 → u8 r.cmd.payload 2 ≤ 60 → s.radio.inService (u8 r.cmd.payload 0) = true →
      s.radio.commit = none → (s.radio.synth (u8 r.cmd.payload 0)).waiting = none →
      ((s.radio.synth (u8 r.cmd.payload 0)).loop = .locked ∨ (s.radio.synth (u8 r.cmd.payload 0)).loop = .off) →
      exec .synSetMode s = .next (s.close specSynSetMode r (.ok (s.setSyn (u8 r.cmd.payload 0) (fun y => { y with
        commitMode := u8 r.cmd.payload 1 == 1
        tempWindow := u8 r.cmd.payload 2
        staged := if u8 r.cmd.payload 1 = 1 then y.staged else none })) []))) ∧
  (∀ (s : State) (r : Running) (c : Commit) (x : LoSetting), Runs s r specSynSetMode → u8 r.cmd.payload 0 ≤ 2 →
      u8 r.cmd.payload 1 ≤ 1 → 5 ≤ u8 r.cmd.payload 2 → u8 r.cmd.payload 2 ≤ 60 →
      s.radio.inService (u8 r.cmd.payload 0) = true → s.radio.commit = some c →
      Tab.find? c.settings (u8 r.cmd.payload 0) = some x → exec .synSetMode s = .next (s.respond r ⟨1, []⟩)) ∧
  (∀ (s : State) (r : Running) (d : Nat), Runs s r specSynTune → u8 r.cmd.payload 0 ≤ 2 → u8 r.cmd.payload 1 = 0 →
      s.radio.inService (u8 r.cmd.payload 0) = true → s.radio.base ≠ .standby →
      loDivider (u32 r.cmd.payload 4) = some d → (s.radio.synth (u8 r.cmd.payload 0)).commitMode = true →
      exec .synTune s = .next (s.close specSynTune r (.ok (s.setSyn (u8 r.cmd.payload 0) (fun y => { y with
          staged := some { freqHz := u32 r.cmd.payload 4, divider := d, fcw := loFcw (u32 r.cmd.payload 4) d } }))
        (le 8 (loMicroHz (loFcw (u32 r.cmd.payload 4) d) d) ++ le 4 (loFcw (u32 r.cmd.payload 4) d) ++ le 1 d ++ zeros 1 ++
          le 2 ((s.judgeEntry (u8 r.cmd.payload 0)
            { freqHz := u32 r.cmd.payload 4, divider := d, fcw := loFcw (u32 r.cmd.payload 4) d }).2.1.getD 0xFFFF))))) ∧
  (∀ (s : State) (r : Running) (d : Nat), Runs s r specSynTune → u8 r.cmd.payload 0 ≤ 2 → u8 r.cmd.payload 1 = 2 →
      s.radio.second = some (u8 r.cmd.payload 0) → s.radio.active ≠ u8 r.cmd.payload 0 → s.radio.base ≠ .standby →
      loDivider (u32 r.cmd.payload 4) = some d → (s.radio.synth (u8 r.cmd.payload 0)).commitMode = false →
      exec .synTune s = .next (s.close specSynTune r (.ok (s.setSyn (u8 r.cmd.payload 0) (fun y => { y with
          loop := .acquiring
          setting := some { freqHz := u32 r.cmd.payload 4, divider := d, fcw := loFcw (u32 r.cmd.payload 4) d,
                            forceCold := true }
          waiting := none
          entryUsed := none
          kind := 1
          acqStart := s.now }))
        (le 8 (loMicroHz (loFcw (u32 r.cmd.payload 4) d) d) ++ le 4 (loFcw (u32 r.cmd.payload 4) d) ++ le 1 d ++ zeros 1 ++
          le 2 0xFFFF)))) ∧
  (∀ (s : State) (r : Running), Runs s r specSynTune → u8 r.cmd.payload 0 ≤ 2 → u8 r.cmd.payload 1 % 2 = 0 →
      s.radio.inService (u8 r.cmd.payload 0) = false → exec .synTune s = .next (s.respond r ⟨0x0202, []⟩)) ∧
  (∀ (s : State) (r : Running) (k : Fin 3) (x : LoSetting), Runs s r specSynCommit → u8 r.cmd.payload 0 = 2 ^ k.val →
      (u8 r.cmd.payload 1 % 2 = 1 ∨ s.time.state ≠ .invalid) → s.radio.inService k.val = true →
      (s.radio.synth k.val).commitMode = true → (s.radio.synth k.val).staged = some x →
      (s.radio.base ≠ .standby ∨ k.val = s.radio.active) →
      exec .synCommit s = .next (s.close specSynCommit r (.ok { s with radio := { s.radio with
          commit := some { settings := [(k.val, x)]
                           due := s.dueInstant r (u8 r.cmd.payload 1 % 2 == 1) (s.instantOf r.cmd.payload 8) (100 * 384000) 10000
                           since := r.reached
                           scheduled := u8 r.cmd.payload 1 % 2 == 0 } } }
        (bytesAt r.cmd.payload 0 8 ++ s.ts64Bytes
          (s.dueInstant r (u8 r.cmd.payload 1 % 2 == 1) (s.instantOf r.cmd.payload 8) (100 * 384000) 10000))))) ∧
  (∀ (s : State) (r : Running), Runs s r specSynSwitch → u8 r.cmd.payload 0 ≤ 2 →
      (u8 r.cmd.payload 1 % 2 = 1 ∨ s.time.state ≠ .invalid) → u8 r.cmd.payload 0 ≠ s.radio.active →
      s.radio.second = some (u8 r.cmd.payload 0) → s.radio.switch = none →
      ∃ t, exec .synSwitch s = .next (s.close specSynSwitch r (.ok t (bytesAt r.cmd.payload 0 8 ++ s.ts64Bytes
          (s.dueInstant r (u8 r.cmd.payload 1 % 2 == 1) (s.instantOf r.cmd.payload 8) (100 * 384000) 10000)))) ∧
        t.radio.switch.map (fun w => (w.target, w.due, w.deadline - w.instant)) = some (u8 r.cmd.payload 0,
          s.dueInstant r (u8 r.cmd.payload 1 % 2 == 1) (s.instantOf r.cmd.payload 8) (100 * 384000) 10000, 384000000) ∧
        { t with radio := { t.radio with switch := none }, cal := s.cal } = s) ∧
  (∀ (s : State) (r : Running) (w : Switch), Runs s r specSynSwitch → u8 r.cmd.payload 0 ≤ 2 →
      u8 r.cmd.payload 1 % 2 = 1 → u8 r.cmd.payload 0 ≠ s.radio.active → s.radio.second = some (u8 r.cmd.payload 0) →
      s.radio.switch = some w → exec .synSwitch s = .next (s.respond r ⟨1, []⟩)) ∧
  (∀ (s : State) (r : Running), Runs s r specSynStoreEntry → u8 r.cmd.payload 0 ≤ 2 → u8 r.cmd.payload 1 = 0 →
      u16 r.cmd.payload 2 ≤ 255 → s.radio.inService (u8 r.cmd.payload 0) = true →
      (s.radio.synth (u8 r.cmd.payload 0)).loop = .locked → 0 ≤ s.thermal.tj → s.thermal.tj ≤ 10000 →
      exec .synStoreEntry s = .next (s.close specSynStoreEntry r (.later { s with nv := { s.nv with
        queue := s.nv.queue ++ [{ record := .channelEntry (u8 r.cmd.payload 0) (u16 r.cmd.payload 2)
                                  data := s.entryToStore (u8 r.cmd.payload 0)
                                  owner := some r.order }] } } []))) ∧
  (∀ (s : State) (r : Running), Runs s r specSynReadEntry → u8 r.cmd.payload 0 ≤ 2 → u16 r.cmd.payload 2 ≤ 255 →
      s.radio.inService (u8 r.cmd.payload 0) = true →
      exec .synReadEntry s = .next (s.close specSynReadEntry r
        (.ok s (s.entryBytes (u8 r.cmd.payload 0) (u16 r.cmd.payload 2))))) ∧
  (∀ (s : State) (r : Running), Runs s r specSynGetStatus →
      exec .synGetStatus s = .next (s.close specSynGetStatus r (.ok s
        (le 1 s.radio.state.code ++ le 1 s.radio.base.code ++ le 1 s.radio.active ++ le 1 (s.radio.second.getD 0xFF) ++
          le 1 s.radio.clock.code ++ le 1 s.radio.refSource ++ le 1 s.radio.refInFreq ++ zeros 1 ++ le 2 s.radio.acqCount ++
          zeros 6 ++ s.synStatus 0 ++ s.synStatus 1 ++ s.synStatus 2))))

/-- Base-state changes, transitions, acquisitions, lock, unlock, commits and switches have the effects the rules give.
SYN_SET_STATE becomes the one pending change, ends BUSY for STANDBY with a queue and WRONG_STATE out of STANDBY without a
frequency. At its instant the change of a device outside TX takes effect, and on a path without a row of its own goes
through LO_READY; the end of a transition puts the new state in force. A put-off acquisition and a commit of the second
synthesiser start it; lock of the active one counts ACQ_COUNT and ends the LO gap; unlock outside a burst re-acquires and
opens a gap, in a burst waits for t4. A switch exchanges active and second and counts; an abandoned one only raises its
event. Rules: R92 (in part), R93 (in part), R95 (in part), R107 (in part), R108 (in part), R109 (in part), R110 (in part),
R111 (in part). -/
def Obligations.RadioStates : Prop :=
  (∀ (s : State) (r : Running), Runs s r specSynSetState → 1 ≤ u8 r.cmd.payload 0 → u8 r.cmd.payload 0 ≤ 2 →
      u16 r.cmd.payload 2 ≤ 10000 → (u8 r.cmd.payload 1 % 2 = 1 ∨ s.time.state ≠ .invalid) →
      (s.radio.synth s.radio.active).setting.isSome = true →
      exec .synSetState s = .next (s.close specSynSetState r (.ok { s with radio := { s.radio with pending := some {
          base := if u8 r.cmd.payload 0 = 1 then .loReady else .rx
          linger := u16 r.cmd.payload 2
          due := .instant (s.dueInstant r (u8 r.cmd.payload 1 % 2 == 1) (s.instantOf r.cmd.payload 8) (100 * 384000) 10000)
          scheduled := u8 r.cmd.payload 1 % 2 == 0 } } } []))) ∧
  (∀ (s : State) (r : Running), Runs s r specSynSetState → u8 r.cmd.payload 0 = 0 → u16 r.cmd.payload 2 ≤ 10000 →
      u8 r.cmd.payload 1 = 1 → s.tx.queue ≠ [] → exec .synSetState s = .next (s.respond r ⟨1, []⟩)) ∧
  (∀ (s : State) (r : Running), Runs s r specSynSetState → u8 r.cmd.payload 0 = 2 → u16 r.cmd.payload 2 ≤ 10000 →
      u8 r.cmd.payload 1 = 1 → (s.radio.synth s.radio.active).setting = none →
      (s.radio.synth s.radio.active).waiting = none → exec .synSetState s = .next (s.respond r ⟨8, []⟩)) ∧
  (∀ (s : State) (n d : Nat) (sch : Bool), s.radio.pending = some ⟨.loReady, n, .instant d, sch⟩ →
      s.radio.wantTx = false → (s.radio.synth s.radio.active).loop = .locked → s.spare.synFailed = [] →
      s.radio.state = .rx → s.radio.moving = none → s.radio.gapSince = none →
      ∃ t, exec .baseStateChange s = .next t ∧ t.radio.base = .loReady ∧ t.radio.linger = n ∧ t.radio.pending = none ∧
        t.radio.state = .rx ∧ t.radio.moving = some .loReady) ∧
  (nextHop .rx .standby = .loReady ∧ nextHop .tx .standby = .loReady ∧ nextHop .standby .rx = .loReady ∧
    nextHop .standby .tx = .loReady ∧ nextHop .loReady .standby = .standby ∧ nextHop .rx .tx = .tx ∧ nextHop .tx .rx = .rx) ∧
  (∀ (s : State) (t : Nat), s.radio.moving = some .rx → s.radio.state = .loReady → s.radio.base = .rx →
      s.radio.gapSince = none → s.radio.wantTx = false →
      ∃ u, exec (.radioTransitionDone t) s = .next u ∧ u.radio.state = .rx ∧ u.radio.moving = none ∧
        u.hzn.suspended = some 64 ∧ u.path.rxSince = some (max s.now t) ∧
        { u with radio := s.radio, path := s.path, hzn := s.hzn, now := s.now } = s) ∧
  (∀ (s : State) (k : Fin 3) (x : LoSetting) (t0 : Nat), (s.radio.synth k.val).waiting = some (x, some t0) →
      k.val ≠ s.radio.active → s.radio.base ≠ .standby → x.forceCold = true →
      exec (.synAcquisitionStart k) s = .next ((s.advance t0).setSyn k.val (fun y => { y with
        loop := .acquiring, setting := some x, waiting := none, entryUsed := none, kind := 1, acqStart := max s.now t0 }))) ∧
  (∀ (s : State) (k : Fin 3) (x : LoSetting) (d since : Nat) (sch : Bool),
      s.radio.commit = some ⟨[(k.val, x)], d, since, sch⟩ → k.val ≠ s.radio.active → s.radio.base ≠ .standby →
      x.forceCold = true →
      ∃ t, exec .synCommitInstant s = .next t ∧ t.radio.commit = none ∧ (t.radio.synth k.val).loop = .acquiring ∧
        (t.radio.synth k.val).setting = some x ∧ t.radio.acqCount = s.radio.acqCount ∧ t.now = max s.now d) ∧
  (∀ (s : State) (t band gain tdc kp ki : Nat) (k : Fin 3), (s.radio.synth k.val).loop = .acquiring →
      k.val = s.radio.active → s.role = .standalone → s.radio.pending = none →
      ∃ u, exec (.synLock t k band gain tdc kp ki) s = .next u ∧ (u.radio.synth k.val).loop = .locked ∧
        u.radio.acqCount = (s.radio.acqCount + 1) % 2 ^ 16 ∧ u.radio.gapSince = none ∧
        (u.radio.synth k.val).trims.band = band % 256 ∧ (u.radio.synth k.val).setting = (s.radio.synth k.val).setting) ∧
  (∀ (s : State) (t : Nat) (k : Fin 3), (s.radio.synth k.val).loop = .locked →
      k.val = s.radio.active → s.tx.queue.any (fun b => b.phase.committed) = true →
      ∃ u, exec (.synUnlock t k) s = .next u ∧ u.radio.relock = true ∧ (u.radio.synth k.val).loop = .frozen ∧
        u.radio.gapSince = s.radio.gapSince ∧ u.tx = s.tx) ∧
  (∀ (s : State) (t : Nat) (k : Fin 3) (x : LoSetting), (s.radio.synth k.val).loop = .locked →
      (s.radio.synth k.val).setting = some x → (s.radio.synth k.val).entryUsed = none →
      k.val = s.radio.active → s.tx.queue = [] →
      ∃ u, exec (.synUnlock t k) s = .next u ∧ (u.radio.synth k.val).loop = .acquiring ∧
        (u.radio.synth k.val).kind = 3 ∧ u.radio.gapSince.isSome = true) ∧
  (∀ (s : State) (w : Switch) (blank : Nat) (y : Nat), s.radio.switch = some w → s.role = .standalone →
      (s.radio.synth w.target).loop = .locked → s.radio.moving = none → (s.radio.synth w.target).entryUsed = none →
      s.radio.active = y → s.spare.synFailed = [] →
      ∃ t, exec (.synSwitchApply true blank) s = .next t ∧ t.radio.active = w.target ∧ t.radio.second = some y ∧
        t.radio.switch = none ∧ t.radio.acqCount = (s.radio.acqCount + 1) % 2 ^ 16) ∧
  (∀ (s : State) (w : Switch), s.radio.switch = some w → s.tx.queue = [] → s.tx.guardUntil ≤ s.now →
      s.tx.guardUntil ≤ w.deadline →
      exec .synSwitchAbandon s = .next (({ s.advance w.deadline with radio := { s.radio with switch := none } } : State).raiseEvent
        0x0203 .info ([BitVec.ofNat 8 w.target, 1#8] ++ zeros 14)))

/-- Clock outputs, the reference commands and the loss and return of a reference.
SYN_SET_CLKOUT sets one output. SYN_SET_REFERENCE on a worker ends NOT_PERMITTED; naming a source that is not valid ends
WRONG_STATE; naming a valid one that is not in use makes the clock slew to it. The loss of the source in use freezes the
clock, and with FAILOVER and the other source valid slews to it at once; the loss of another only marks it. A source that is
valid again ends FREEWHEEL, re-acquisition locks the clock and counts ACQ_COUNT, and the limit is told once and makes time
INVALID. A worker whose REF_IN is lost is cut off. Rules: R115 (in part), R117 (in part), R118 (in part), R119 (in part),
R120. -/
def Obligations.ClockAndReference : Prop :=
  (∀ (s : State) (r : Running), Runs s r specSynSetClkout → u8 r.cmd.payload 0 ≤ 2 → u8 r.cmd.payload 1 ≤ 1 →
      1 ≤ u16 r.cmd.payload 2 → u16 r.cmd.payload 2 ≤ 1024 → u16 r.cmd.payload 4 ≤ 2047 →
      exec .synSetClkout s = .next (s.close specSynSetClkout r (.ok { s with radio := { s.radio with
        clkOut := Tab.set s.radio.clkOut (u8 r.cmd.payload 0)
          { enable := u8 r.cmd.payload 1 == 1, divider := u16 r.cmd.payload 2, delay := u16 r.cmd.payload 4 } } } []))) ∧
  (∀ (s : State) (r : Running), Runs s r specSynSetReference → s.role = .worker →
      exec .synSetReference s = .next (s.respond r ⟨4, []⟩)) ∧
  (∀ (s : State) (r : Running), Runs s r specSynSetReference → s.role ≠ .worker → u8 r.cmd.payload 0 ≤ 1 →
      u8 r.cmd.payload 1 ≤ 1 → 100 ≤ u32 r.cmd.payload 4 → u32 r.cmd.payload 4 ≤ 60000 →
      s.radio.sourceValid (u8 r.cmd.payload 0) = false → exec .synSetReference s = .next (s.respond r ⟨8, []⟩)) ∧
  (∀ (s : State) (r : Running), Runs s r specSynSetReference → s.role ≠ .worker → u8 r.cmd.payload 0 ≤ 1 →
      u8 r.cmd.payload 1 ≤ 1 → 100 ≤ u32 r.cmd.payload 4 → u32 r.cmd.payload 4 ≤ 60000 →
      s.radio.sourceValid (u8 r.cmd.payload 0) = true →
      ∃ t, exec .synSetReference s = .next (s.close specSynSetReference r (.ok t [])) ∧
        t.radio.primary = u8 r.cmd.payload 0 ∧ t.radio.failover = (u8 r.cmd.payload 1 == 1) ∧
        t.radio.freewheelLimitMs = u32 r.cmd.payload 4 ∧ t.radio.refSource = u8 r.cmd.payload 0 ∧
        (if s.radio.refSource = u8 r.cmd.payload 0 then t.radio.clock = s.radio.clock ∧ t.time = s.time
          else t.radio.clock = .slewing)) ∧
  (∀ (s : State) (t : Nat) (src reason : Fin 2), s.radio.refSource = src.val → s.role = .standalone →
      s.time.state = .valid →
      ∃ u, exec (.referenceLost t src reason) s = .next u ∧ u.radio.sourceValid src.val = false ∧
        u.time.state = .holdover ∧
        (if s.radio.failover = true ∧ s.radio.sourceValid (1 - src.val) = true then
            u.radio.clock = .slewing ∧ u.radio.refSource = 1 - src.val
          else u.radio.clock = .freewheel ∧ u.radio.refSource = src.val)) ∧
  (∀ (s : State) (t : Nat) (src reason : Fin 2), s.radio.refSource ≠ src.val →
      exec (.referenceLost t src reason) s = .next ((s.advance t).setSource src false)) ∧
  (∀ (s : State) (t : Nat) (reason : Fin 2), s.radio.refSource = 1 → s.role = .worker → s.tx.queue = [] →
      ∃ u, exec (.referenceLost t 1 reason) s = .next u ∧ u.lcl.cut = true ∧ u.lcl.joined = false ∧
        u.radio.clock = .freewheel ∧ u.pins.paen = 0#4) ∧
  (∀ (s : State) (t : Nat) (src : Fin 2) (f : Fin 4), s.radio.clock = .freewheel → s.radio.refSource = src.val →
      ∃ u, exec (.referenceValid t src f) s = .next u ∧ u.radio.clock = .slewing ∧ u.radio.refSource = src.val ∧
        u.radio.sourceValid src.val = true ∧ { u with radio := s.radio, now := s.now } = s) ∧
  (∀ (s : State) (t : Nat), s.radio.clock = .slewing → s.role = .standalone →
      ∃ u, exec (.referenceReacquired t) s = .next u ∧ u.radio.clock = .locked ∧ u.radio.freewheelAt = none ∧
        u.radio.acqCount = (s.radio.acqCount + 1) % 2 ^ 16 ∧
        { u with radio := s.radio, cal := s.cal, evq := s.evq, now := s.now } = s) ∧
  (∀ (s : State) (t0 : Nat), s.radio.clock = .freewheel → s.radio.freewheelAt = some t0 → s.radio.limitTold = false →
      ∃ u, exec .freewheelLimit s = .next u ∧ u.time.state = .invalid ∧ u.radio.limitTold = true ∧
        u.now = max s.now (t0 + s.radio.freewheelLimitMs * 384000000))

/-- Loading, assigning and applying coefficient sets, the detectors and the status, with the chain delays of Table FILT-5.
FILT_LOAD_SET stages one set, a symmetric one mirrored with its fixed reference delay, and ends BAD_PARAM where the length
is not 8 + 4M; FILT_ASSIGN stages membership; neither touches a set in force. FILT_APPLY moves what is staged into a pending
apply, ends WRONG_STATE with nothing staged and FILT_DELAY_MISMATCH where the reference delays would differ.
FILT_SET_DETECTOR configures the detectors of a mask; FILT_GET_STATUS answers Table FILT-9 and clears the saturation counts.
D_RX and D_TX are those of Table FILT-5 and of the worked example. Rules: R126 (in part), R127 (in part), R128 (in part),
R129 (in part), R130 (in part), R131 (in part), R132 (in part), R137 (in part), 05_path_filters.md Table FILT-9. -/
def Obligations.FilterCommands : Prop :=
  (∀ (s : State) (r : Running), Runs s r specFiltLoadSet → u8 r.cmd.payload 0 = 0 → u8 r.cmd.payload 1 ≤ 3 →
      u8 r.cmd.payload 2 ≤ 1 → 1 ≤ u16 r.cmd.payload 4 → u16 r.cmd.payload 4 ≤ 256 →
      r.cmd.length = 8 + 4 * (if u8 r.cmd.payload 2 = 1 then (u16 r.cmd.payload 4 + 1) / 2 else u16 r.cmd.payload 4) →
      (u8 r.cmd.payload 2 = 1 ∨ u16 r.cmd.payload 6 = 0xFFFF ∨ u16 r.cmd.payload 6 ≤ 256 * (u16 r.cmd.payload 4 - 1)) →
      ∃ x : FirSet, exec .filtLoadSet s = .next (s.close specFiltLoadSet r (.ok (({ s with filt := { s.filt with
          stagedRx := { s.filt.stagedRx with sets := Tab.set s.filt.stagedRx.sets (u8 r.cmd.payload 1) x } } } :
          State).reportFilters) [])) ∧
        x.taps = u16 r.cmd.payload 4 ∧ x.symmetric = (u8 r.cmd.payload 2 == 1) ∧
        x.refDelay = (if u8 r.cmd.payload 2 = 1 ∨ u16 r.cmd.payload 6 = 0xFFFF then 128 * (u16 r.cmd.payload 4 - 1)
          else u16 r.cmd.payload 6) ∧
        x.coefs.length = u16 r.cmd.payload 4 ∧
        (∀ k : Fin 256, k.val < u16 r.cmd.payload 4 → x.coefs.getD k.val 0 = signed 18
          (u32 r.cmd.payload (8 + 4 * (if u8 r.cmd.payload 2 = 1 then min k.val (u16 r.cmd.payload 4 - 1 - k.val)
            else k.val)) % 2 ^ 18))) ∧
  (∀ (s : State) (r : Running), Runs s r specFiltLoadSet →
      r.cmd.length ≠ 8 + 4 * loadCount (u16 r.cmd.payload 4) (u8 r.cmd.payload 2 == 1) →
      exec .filtLoadSet s = .next (s.respond r ⟨3, []⟩)) ∧
  (∀ (s : State) (r : Running), Runs s r specFiltAssign → u8 r.cmd.payload 0 = 1 → u8 r.cmd.payload 1 ≤ 3 →
      ∃ t, exec .filtAssign s = .next (s.close specFiltAssign r (.ok t [])) ∧
        (∀ k : Fin 64, (mask64 r.cmd.payload 8).getLsbD k = true →
          Tab.find? t.filt.stagedTx.member k.val = some (u8 r.cmd.payload 1)) ∧
        (∀ k : Fin 64, (mask64 r.cmd.payload 8).getLsbD k = false →
          Tab.find? t.filt.stagedTx.member k.val = Tab.find? s.filt.stagedTx.member k.val) ∧
        { t with filt := { t.filt with stagedTx := s.filt.stagedTx } } = s) ∧
  (∀ (s : State) (r : Running), Runs s r specFiltApply → u8 r.cmd.payload 0 = 1 →
      (u8 r.cmd.payload 1 % 2 = 1 ∨ s.time.state ≠ .invalid) → s.filt.stagedRx.any = true →
      ((s.filt.rxBy (s.applyDue r)).after s.filt.stagedRx).aligned = true →
      (s.role = .manager → s.chainAligned (((s.filt.rxBy (s.applyDue r)).after s.filt.stagedRx).delayOf 0) = true) →
      exec .filtApply s = .next (s.close specFiltApply r (.ok
        { s with filt := { s.filt with
            applies := addApply { rx := some s.filt.stagedRx, tx := none, due := s.applyDue r
                                  scheduled := u8 r.cmd.payload 1 % 2 == 0 } s.filt.applies
            stagedRx := {} } }
        (le 4 (s.filt.dRx (((s.filt.rxBy (s.applyDue r)).after s.filt.stagedRx).delayOf 0)) ++
          le 4 (dTx ((s.filt.txBy (s.applyDue r)).delayOf 0)) ++ s.ts64Bytes (s.applyDue r))))) ∧
  (∀ (s : State) (r : Running), Runs s r specFiltApply → u8 r.cmd.payload 0 = 1 → u8 r.cmd.payload 1 % 2 = 1 →
      s.filt.stagedRx.any = true → ((s.filt.rxBy (s.applyDue r)).after s.filt.stagedRx).aligned = false →
      exec .filtApply s = .next (s.respond r ⟨0x0302, []⟩)) ∧
  (∀ (s : State) (r : Running), Runs s r specFiltApply → u8 r.cmd.payload 0 = 3 → u8 r.cmd.payload 1 % 2 = 1 →
      s.filt.stagedRx = {} → s.filt.stagedTx = {} → exec .filtApply s = .next (s.respond r ⟨8, []⟩)) ∧
  (∀ (s : State) (r : Running), Runs s r specFiltSetDetector → u8 r.cmd.payload 8 = 1 → u8 r.cmd.payload 10 ≤ 10 →
      u8 r.cmd.payload 11 ≤ 100 → -900 ≤ s16 r.cmd.payload 12 → s16 r.cmd.payload 12 ≤ 0 → 1 ≤ u16 r.cmd.payload 14 →
      1 ≤ u16 r.cmd.payload 16 → u16 r.cmd.payload 16 ≤ 10000 →
      ∃ t, exec .filtSetDetector s = .next (s.close specFiltSetDetector r (.ok t [])) ∧
        (∀ k : Fin 64, (mask64 r.cmd.payload 0).getLsbD k = true →
          (t.filt.lowerOf k.val).enable = (u8 r.cmd.payload 9 % 2 == 1) ∧
          (t.filt.lowerOf k.val).event = (u8 r.cmd.payload 9 / 2 % 2 == 1) ∧
          (t.filt.lowerOf k.val).level = s16 r.cmd.payload 12 ∧ (t.filt.lowerOf k.val).dwell = u16 r.cmd.payload 14) ∧
        (∀ k : Fin 64, (mask64 r.cmd.payload 0).getLsbD k = false → t.filt.lowerOf k.val = s.filt.lowerOf k.val) ∧
        t.filt.upper = s.filt.upper ∧
        t.filt.patternUpper = (if u8 r.cmd.payload 9 / 4 % 2 = 1 then s.filt.patternUpper &&& ~~~(mask64 r.cmd.payload 0)
          else s.filt.patternUpper) ∧
        { t with filt := s.filt, halo := s.halo } = s) ∧
  (∀ (s : State) (r : Running), Runs s r specFiltGetStatus →
      exec .filtGetStatus s = .next (s.close specFiltGetStatus r
        (.ok { s with filt := { s.filt with rxSat := [], txSat := [] } } s.filtStatus))) ∧
  (∀ s : State, s.filtStatus.length = 0x1A8 ∧ u32 s.filtStatus 0 = s.delays.1 % 2 ^ 32 ∧
      u32 s.filtStatus 4 = s.delays.2 % 2 ^ 32) ∧
  ([0, 3968, 8064, 16256, 32512, 32640].map ({} : Filt).dRx = [597806, 1001452, 1418119, 2251452, 3905098, 3918119] ∧
    [0, 3968, 8064, 16256, 32512, 32640].map dTx = [611558, 1015204, 1431871, 2265204, 3918850, 3931871] ∧
    ({ cornerKHz := 16200 } : Filt).dRx 12160 = 1837305)

/-- An apply takes effect at its sample, its transmit part after a burst, and detectors change state with the events of R136.
At its instant an apply of both directions puts both banks in force, or, while a burst is in progress, the receive bank with
the transmit part waiting. A detector that is disabled or whose path is not in the receive mask does not change; one that
asserts without EVENT changes its state and raises nothing; one whose hold-off runs counts the transition; a release outside
the hold-off raises EV_FILT_THRESHOLD. Rules: R129 (in part), R133 (in part), R135 (in part), R136 (in part). -/
def Obligations.FilterEvents : Prop :=
  (∀ (s : State) (rx tx : FirBank) (due : Nat) (sch : Bool) (rest : List FiltApply), s.role = .standalone →
      s.filt.applies = ⟨some rx, some tx, due, sch⟩ :: rest →
      ∃ t, exec .filtApplyInstant s = .next t ∧ t.filt.applies = rest ∧ t.filt.rx = s.filt.rx.after rx ∧
        t.now = max s.now due ∧ t.filt.stagedRx = s.filt.stagedRx ∧
        (if s.burstInProgress = true then t.filt.tx = s.filt.tx ∧ t.filt.txWaiting.isSome = true
          else t.filt.tx = s.filt.tx.after tx ∧ t.filt.txWaiting = s.filt.txWaiting) ∧
        t.path = s.path ∧ t.beam = s.beam ∧ t.radio = s.radio) ∧
  (∀ (s : State) (t : Nat) (p : Fin 64) (lower : Bool) (level : Int),
      ((if lower = true then s.filt.lowerOf p.val else s.filt.upperOf p.val).enable = false ∨
        s.path.rxMask.getLsbD p = false) →
      exec (.detectorAssert t p lower level) s = .next (s.advance t) ∧
        exec (.detectorRelease t p lower level) s = .next (s.advance t)) ∧
  (∀ (s : State) (t : Nat) (p : Fin 64) (level : Int), (s.filt.upperOf p.val).enable = true →
      s.path.rxMask.getLsbD p = true → (s.filt.upperOf p.val).asserted = false → (s.filt.upperOf p.val).event = false →
      ∃ u, exec (.detectorAssert t p false level) s = .next u ∧
        u.filt.upperOf p.val = { s.filt.upperOf p.val with asserted := true } ∧ u.upperOn p.val = true ∧
        u.filt.lower = s.filt.lower ∧ { u with filt := s.filt, halo := s.halo, now := s.now } = s) ∧
  (∀ (s : State) (t a : Nat) (p : Fin 64) (level : Int), (s.filt.lowerOf p.val).enable = true →
      s.path.rxMask.getLsbD p = true → (s.filt.lowerOf p.val).asserted = false → (s.filt.lowerOf p.val).event = true →
      (s.filt.lowerOf p.val).eventAt = some a →
      max s.now t < a + (s.filt.lowerOf p.val).holdoffMs * 384000000 →
      ∃ u, exec (.detectorAssert t p true level) s = .next u ∧
        u.filt.lowerOf p.val = { s.filt.lowerOf p.val with
          asserted := true, suppressed := min 65535 ((s.filt.lowerOf p.val).suppressed + 1) } ∧
        { u with filt := s.filt, halo := s.halo, now := s.now } = s) ∧
  (∀ (s : State) (t : Nat) (p : Fin 64) (level : Int), (s.filt.upperOf p.val).enable = true →
      s.path.rxMask.getLsbD p = true → (s.filt.upperOf p.val).asserted = true → (s.filt.upperOf p.val).event = true →
      (s.filt.upperOf p.val).eventAt = none → s.role = .standalone →
      ∃ u, exec (.detectorRelease t p false level) s = .next u ∧
        u.filt.upperOf p.val = { s.filt.upperOf p.val with
          asserted := false, suppressed := 0, eventAt := some (max s.now t) } ∧
        { u with filt := s.filt, halo := s.halo, now := s.now, evq := s.evq } = s)

/-- Word-shortening rounds to the nearest with halves to even and saturates symmetrically, in filters and beam sums.
For every value and shift the rounded value differs from the exact one by at most half a step, and at exactly half it is
even; the same for division. Symmetric saturation keeps values inside the range and clips the others to its ends. So a
filter stage, a partial sum, the chain's sum, a beam output and a precoder output stay inside their ranges for all inputs.
Rules: R125 (in part), R140 (in part), R141 (in part), R159 (in part). -/
def Obligations.ConvergentRounding : Prop :=
  (∀ (x : Int) (n : Nat), 2 * (2 ^ n * roundShift x n - x) ≤ 2 ^ n ∧ -(2 ^ n) ≤ 2 * (2 ^ n * roundShift x n - x) ∧
      ((2 * (2 ^ n * roundShift x n - x)).natAbs = 2 ^ n → 0 < n → roundShift x n % 2 = 0)) ∧
  (∀ (x : Int) (d : Nat), 0 < d → 2 * ((d : Int) * roundDiv x d - x) ≤ d ∧ -(d : Int) ≤ 2 * ((d : Int) * roundDiv x d - x) ∧
      ((2 * ((d : Int) * roundDiv x d - x)).natAbs = d → roundDiv x d % 2 = 0)) ∧
  (∀ (w : Nat) (x : Int), 1 < w → -(2 ^ (w - 1) - 1) ≤ satSym w x ∧ satSym w x ≤ 2 ^ (w - 1) - 1 ∧
      (-(2 ^ (w - 1) - 1) ≤ x → x ≤ 2 ^ (w - 1) - 1 → satSym w x = x)) ∧
  (∀ (c i : List Int), (firOutput c i 16 16).1.natAbs ≤ 32767) ∧
  (∀ (shift : Nat) (wc xs : List Cplx), (partialSum shift wc xs).i.natAbs ≤ 524287 ∧
      (partialSum shift wc xs).q.natAbs ≤ 524287) ∧
  (∀ (a b : Cplx), (chainSum a b).i.natAbs ≤ 524287 ∧ (chainSum a b).q.natAbs ≤ 524287 ∧
      (beamOutput (chainSum a b)).i.natAbs ≤ 32767 ∧ (beamOutput (chainSum a b)).q.natAbs ≤ 32767) ∧
  (∀ (t : Cplx) (vs ss : List Cplx), (precode t vs ss).i.natAbs ≤ 32767 ∧ (precode t vs ss).q.natAbs ≤ 32767)

/-- Geometry, grid, sources, loads, scale and adaptive settings: what each command stages, and when it is refused.
BEAM_SET_GEOMETRY puts its entry into the table and starts a recomputation; BEAM_SET_GRID without geometry ends NO_GEOMETRY,
with one it sets the direction and F. A source change and a scale change are staged for the next host swap, or for the
following one past the freeze point, and touch nothing in force; a load for a beam that will not be EXPLICIT ends
NOT_PERMITTED, else it is staged and BANK_AFTER_SWAP says for which swap. BEAM_SET_ADAPTIVE sets its parameters. Rules: R143
(in part), R144 (in part), R145 (in part), R146 (in part), R148 (in part), R150 (in part), R154 (in part), R169 (in part). -/
def Obligations.BeamStaging : Prop :=
  (∀ (s : State) (r : Running), Runs s r specBeamSetGeometry → u16 r.cmd.payload 0 = 1 → u8 r.cmd.payload 2 = 0 →
      u8 r.cmd.payload 8 = 0 → u8 r.cmd.payload 9 ≤ 63 → s.role = .standalone →
      exec .beamSetGeometry s = .next (s.close specBeamSetGeometry r (.ok { s with beam := { s.beam with
        geometry := Tab.set s.beam.geometry (u8 r.cmd.payload 9) (s32 r.cmd.payload 12, s32 r.cmd.payload 16, s32 r.cmd.payload 20)
        recomputing := some s.now } } []))) ∧
  (∀ (s : State) (r : Running), Runs s r specBeamSetGrid → u16 r.cmd.payload 0 ≤ 255 → u16 r.cmd.payload 2 = 1 →
      (u32 r.cmd.payload 4 = 0 ∨ (380000 ≤ u32 r.cmd.payload 4 ∧ u32 r.cmd.payload 4 ≤ 2700000)) →
      -18000 ≤ s16 r.cmd.payload 8 → s16 r.cmd.payload 8 ≤ 18000 → -9000 ≤ s16 r.cmd.payload 10 →
      s16 r.cmd.payload 10 ≤ 9000 →
      exec .beamSetGrid s = .next (if s.beam.geometry = [] then s.respond r ⟨0x0402, []⟩
        else s.close specBeamSetGrid r (.ok { s with beam := { s.beam with
          grid := Tab.set s.beam.grid (u16 r.cmd.payload 0) (s16 r.cmd.payload 8, s16 r.cmd.payload 10)
          fKHz := u32 r.cmd.payload 4
          recomputing := some s.now } } []))) ∧
  (∀ (s : State) (r : Running), Runs s r specBeamSetRxSource → u16 r.cmd.payload 0 = 1 → rxSourceOk r.cmd.payload 8 = true →
      s.beam.geometry ≠ [] → s.beam.host = none →
      exec .beamSetRxSource s = .next (s.close specBeamSetRxSource r (.ok { s with beam := { s.beam with
        next := { s.beam.next with
          sources := Tab.set s.beam.next.sources (u8 r.cmd.payload 8) (rxSourceEntry r.cmd.payload 8) } } } []))) ∧
  (∀ (s : State) (r : Running) (h : BeamSwap), Runs s r specBeamSetRxSource → u16 r.cmd.payload 0 = 1 →
      rxSourceOk r.cmd.payload 8 = true → s.beam.geometry ≠ [] → s.beam.host = some h →
      h.instant ≤ s.now + 20 * 384000 →
      exec .beamSetRxSource s = .next (s.close specBeamSetRxSource r (.ok { s with beam := { s.beam with
        following := { s.beam.following with
          sources := Tab.set s.beam.following.sources (u8 r.cmd.payload 8) (rxSourceEntry r.cmd.payload 8) } } } []))) ∧
  (∀ (s : State) (r : Running), Runs s r specBeamSetRxSource → u16 r.cmd.payload 0 = 1 → rxSourceOk r.cmd.payload 8 = true →
      u8 r.cmd.payload 9 = 1 → s.beam.geometry = [] → exec .beamSetRxSource s = .next (s.respond r ⟨0x0402, []⟩)) ∧
  (∀ (s : State) (r : Running), Runs s r specBeamLoadBank → u8 r.cmd.payload 0 ≤ 63 → u8 r.cmd.payload 1 = 1 →
      (s.defAtSwap (u8 r.cmd.payload 0)).source = .explicit → s.hostFrozen = false →
      exec .beamLoadBank s = .next (s.close specBeamLoadBank r (.ok { s with beam := { s.beam with
        next := { s.beam.next with loads := (Tab.set s.beam.next.loads
          (u8 r.cmd.payload 0) ((List.range 64).map (fun k =>
            ⟨s16 r.cmd.payload (8 + 4 * k), s16 r.cmd.payload (10 + 4 * k)⟩))) } } } [0#8]))) ∧
  (∀ (s : State) (r : Running), Runs s r specBeamLoadBank → u8 r.cmd.payload 0 ≤ 63 → u8 r.cmd.payload 1 = 1 →
      (s.defAtSwap (u8 r.cmd.payload 0)).source ≠ .explicit →
      exec .beamLoadBank s = .next (s.respond r ⟨4, []⟩)) ∧
  (∀ (s : State) (r : Running), Runs s r specBeamSetScale → u8 r.cmd.payload 0 ≤ 8 →
      ∃ t, exec .beamSetScale s = .next (s.close specBeamSetScale r (.ok t [])) ∧ t.beam.shift = s.beam.shift ∧
        (if s.hostFrozen = true then t.beam.following.shift = some (u8 r.cmd.payload 0) ∧ t.beam.next = s.beam.next
          else t.beam.next.shift = some (u8 r.cmd.payload 0) ∧ t.beam.following = s.beam.following) ∧
        { t with beam := s.beam } = s) ∧
  (∀ (s : State) (r : Running), Runs s r specBeamSetAdaptive → 10 ≤ u16 r.cmd.payload 0 → u16 r.cmd.payload 0 ≤ 10000 →
      12 ≤ u8 r.cmd.payload 2 → u8 r.cmd.payload 2 ≤ 20 → -40 ≤ s8 r.cmd.payload 3 → s8 r.cmd.payload 3 ≤ 0 →
      1 ≤ u32 r.cmd.payload 4 → u32 r.cmd.payload 4 ≤ 600000 →
      exec .beamSetAdaptive s = .next (s.close specBeamSetAdaptive r (.ok { s with beam := { s.beam with
        updateMs := u16 r.cmd.payload 0, covLog2 := u8 r.cmd.payload 2, loadDb := s8 r.cmd.payload 3
        sigMaxAgeMs := u32 r.cmd.payload 4 } } []))) ∧
  (∀ (s : State) (r : Running), Runs s r specBeamGetStatus →
      exec .beamGetStatus s = .next (s.close specBeamGetStatus r
        (.ok { s with beam := { s.beam with satBeam := [], satPre := [] } } s.beamStatus))) ∧
  (∀ s : State, s.beamStatus.length = 0x1A0 ∧ u8 s.beamStatus 1 = s.beam.epoch % 256)

/-- Host swaps, their freeze points, what a swap activates, and the updates that internal swaps carry.
BEAM_SWAP schedules the one host swap, not earlier than its lead; while one is pending it ends BUSY; CANCEL takes it away,
or ends WRONG_STATE where none is pending. The freeze point fixes the staged GRID weights. A host swap puts staged sources,
scale and EXPLICIT loads in force, counts the weight epoch and the bank, and what was held for the following swap becomes
the next; an internal one leaves staged sources and EXPLICIT beams as they are. A finished recomputation is staged; an
update without enough samples keeps the weights. Rules: R146 (in part), R149 (in part), R151 (in part), R152 (in part), R153
(in part), R154 (in part), R155 (in part). -/
def Obligations.BeamSwaps : Prop :=
  (∀ (s : State) (r : Running), Runs s r specBeamSwap → u8 r.cmd.payload 0 % 4 < 2 →
      (u8 r.cmd.payload 0 % 2 = 1 ∨ s.time.state ≠ .invalid) → s.beam.host = none →
      ∃ i, i = (if u8 r.cmd.payload 0 % 2 = 1 ∨
            s.instantOf r.cmd.payload 8 < s.time.deviceAt (r.reached + (if s.inCascade = true then 200 else 100) * 384000)
          then s.sampleAt (r.reached + (if s.inCascade = true then 200 else 100) * 384000) 10000
          else s.sampleAt (s.time.localOf (s.instantOf r.cmd.payload 8)) 10000) ∧
        exec .beamSwap s = .next (s.close specBeamSwap r (.ok { s with beam := { s.beam with
          host := some { instant := i, scheduled := u8 r.cmd.payload 0 % 2 == 0, cause := 1 } } }
        (bytesAt r.cmd.payload 0 8 ++ s.ts64Bytes i)))) ∧
  (∀ (s : State) (r : Running) (h : BeamSwap), Runs s r specBeamSwap → u8 r.cmd.payload 0 % 4 = 1 → s.beam.host = some h →
      exec .beamSwap s = .next (s.respond r ⟨1, []⟩)) ∧
  (∀ (s : State) (r : Running) (h : BeamSwap), Runs s r specBeamSwap → u8 r.cmd.payload 0 % 4 = 2 → s.beam.host = some h →
      s.hostFrozen = false → h.cause = 1 →
      exec .beamSwap s = .next (s.close specBeamSwap r (.ok { s with beam := { s.beam with host := none } }
        (bytesAt r.cmd.payload 0 8 ++ s.ts64Bytes h.instant)))) ∧
  (∀ (s : State) (r : Running), Runs s r specBeamSwap → u8 r.cmd.payload 0 % 4 = 2 →
      (s.beam.host = none ∨ s.hostFrozen = true) → exec .beamSwap s = .next (s.respond r ⟨8, []⟩)) ∧
  (∀ (s : State) (h : BeamSwap), s.beam.host = some h → s.beam.internal = none → h.frozen = none → s.inCascade = false →
      20 * 384000 ≤ h.instant →
      exec .beamSwapFreeze s = .next { s.advance (h.instant - 20 * 384000) with beam := { s.beam with
        host := some { h with frozen := some s.beam.gridStaged } } }) ∧
  (∀ (s : State) (h : BeamSwap), s.beam.host = some h → s.beam.internal = none → s.role = .standalone →
      s.beam.ownOnly = false →
      ∃ t, exec .beamSwapApply s = .next t ∧ t.now = max s.now h.instant ∧ t.beam.host = none ∧
        t.beam.epoch = (s.beam.epoch + 1) % 256 ∧ t.beam.bank = 1 - s.beam.bank ∧
        t.beam.shift = s.beam.next.shift.getD s.beam.shift ∧ t.beam.next = s.beam.following ∧ t.beam.following = {} ∧
        t.path.step = s.path.step ∧ t.path.epoch = s.path.epoch) ∧
  (∀ (s : State) (w : BeamSwap), s.beam.host = none → s.beam.internal = some w → s.role = .standalone →
      s.beam.ownOnly = false →
      ∃ t, exec .beamSwapApply s = .next t ∧ t.beam.internal = none ∧ t.beam.epoch = (s.beam.epoch + 1) % 256 ∧
        t.beam.beams = s.beam.beams ∧ t.beam.next = s.beam.next ∧ t.beam.shift = s.beam.shift) ∧
  (∀ (s : State) (host : Bool) (basis : GridBasis) (b : Nat), (s.beam.defOf b).source = .explicit →
      s.swapWeights host basis b =
        (if host = true then (Tab.find? s.beam.next.loads b).getD (Tab.get s.beam.raw b (List.replicate 64 Cplx.zero))
          else Tab.get s.beam.raw b (List.replicate 64 Cplx.zero))) ∧
  (∀ (s : State) (t t0 : Nat), s.beam.recomputing = some t0 →
      exec (.gridRecomputeDone t) s = .next { s.advance t with beam := { s.beam with
        recomputing := none, gridStaged := { geometry := s.beam.geometry, grid := s.beam.grid
                                             freqHz := if s.beam.fKHz = 0 then s.loHz else s.beam.fKHz * 1000 } } }) ∧
  (∀ s : State,
      exec .adaptiveUpdate s = .next { s.advance (s.beam.updateAt + s.beam.updateMs * 384000000) with beam := { s.beam with
        updateAt := s.beam.updateAt + s.beam.updateMs * 384000000, solving := !s.beam.adaptive.isEmpty } }) ∧
  (∀ (s : State) (t : Nat) (ill : Bool) (sols : List (Nat × List Cplx)), s.beam.solving = true → s.role = .standalone →
      ∃ u, exec (.adaptiveSolveDone t true ill sols) s = .next u ∧ u.beam.solving = false ∧
        u.beam.adaptiveStaged = s.beam.adaptiveStaged ∧ u.beam.internal = s.beam.internal ∧
        { u with beam := s.beam, evq := s.evq, now := s.now } = s) ∧
  (∀ (s : State) (t b : Nat) (w : List Cplx), s.beam.solving = true → s.beam.adaptive.contains b = true → w.length = 64 →
      (∀ c ∈ w, c.i.natAbs ≤ 32767 ∧ c.q.natAbs ≤ 32767) → s.beam.host = none → s.beam.internal = none →
      ∃ u, exec (.adaptiveSolveDone t false false [(b, w)]) s = .next u ∧
        Tab.find? u.beam.adaptiveStaged b = some w ∧ u.beam.internal.map (fun x => x.cause) = some 2 ∧
        u.beam.weights = s.beam.weights ∧ { u with beam := s.beam, now := s.now } = s)

/-- Pinning, reading and storing signatures, and a stuck converter that retires its path.
A pin or unpin of a handle that matches sets the mark, at 256 pinned a further pin ends NO_RESOURCE, and a handle that does
not match ends SIG_STALE, as a read of it does; a read answers the metadata and the 256 bytes. The signature of a decoded
packet takes the next index that is neither held nor pinned, with GEN one higher, stores zero for paths outside the receive
mask, and marks the record. A stuck ADC word of a path in the mask takes the path out of it and retires it from receive.
Rules: R158 (in part), R162 (in part), R163 (in part), R164 (in part), R166 (in part), R511 (in part). -/
def Obligations.SignatureCache : Prop :=
  (∀ (s : State) (r : Running), Runs s r specBeamSigPin → u8 r.cmd.payload 2 ≤ 1 →
      s.beam.matchesSig (u16 r.cmd.payload 0) = true → (u8 r.cmd.payload 2 = 1 ∨ s.beam.pinned < 256) →
      exec .beamSigPin s = .next (s.close specBeamSigPin r (.ok { s with beam := { s.beam with
        sigs := Tab.set s.beam.sigs (u16 r.cmd.payload 0 % 4096)
          { s.beam.sig (u16 r.cmd.payload 0 % 4096) with pinned := u8 r.cmd.payload 2 == 0 } } } []))) ∧
  (∀ (s : State) (r : Running), Runs s r specBeamSigPin → u8 r.cmd.payload 2 = 0 →
      s.beam.matchesSig (u16 r.cmd.payload 0) = true → (s.beam.sig (u16 r.cmd.payload 0 % 4096)).pinned = false →
      256 ≤ s.beam.pinned → exec .beamSigPin s = .next (s.respond r ⟨7, []⟩)) ∧
  (∀ (s : State) (r : Running), Runs s r specBeamSigPin → u8 r.cmd.payload 2 ≤ 1 →
      s.beam.matchesSig (u16 r.cmd.payload 0) = false → exec .beamSigPin s = .next (s.respond r ⟨0x0401, []⟩)) ∧
  (∀ (s : State) (r : Running), Runs s r specBeamSigRead → s.beam.matchesSig (u16 r.cmd.payload 0) = false →
      exec .beamSigRead s = .next (s.respond r ⟨0x0401, []⟩)) ∧
  (∀ (s : State) (r : Running), Runs s r specBeamSigRead → s.beam.matchesSig (u16 r.cmd.payload 0) = true →
      ∃ p, exec .beamSigRead s = .next (s.close specBeamSigRead r (.ok s p)) ∧ p.length = 0x120 ∧
        u16 p 0 = u16 r.cmd.payload 0 ∧ u8 p 2 % 2 = 1 ∧
        p.drop 0x20 = memReadBytes unlisted s.mem (sigPool + 256 * (u16 r.cmd.payload 0 % 4096)) 256) ∧
  (∀ (u : BeamUnit) (h : Nat), u.matchesSig h = true →
      (u.sig (h % 4096)).valid = true ∧ (u.sig (h % 4096)).gen = h / 4096 % 16) ∧
  (∀ (s : State) (t order i az el sa se : Nat) (mant : List Cplx) (x : Ended), s.dmd.ended = [x] → x.order = order →
      x.status = 0 → x.handle = none → s.beam.nextIndex = some i →
      ∃ u, exec (.signatureStore t order mant 64 az el sa se) s = .next u ∧ (u.beam.sig i).valid = true ∧
        (u.beam.sig i).gen = ((s.beam.sig i).gen + 1) % 16 ∧ (u.beam.sig i).exponent = 0 ∧ (u.beam.sig i).held = 0 ∧
        u.beam.lastSig = some i ∧
        u.dmd.ended.map (fun y => y.handle) = [some (4096 * (((s.beam.sig i).gen + 1) % 16) + i)] ∧
        (∀ j, j ≠ i → u.beam.sig j = s.beam.sig j) ∧
        { u with beam := s.beam, dmd := s.dmd, mem := s.mem, now := s.now } = s) ∧
  (∀ (s : State) (i k : Nat) (mant : List Cplx) (e : Signature), s.memoriesWf = true → k < 64 →
      s.path.rxMask.getLsbD k = false → i < 4096 →
      (∀ j, j < 4 → memRead unlisted (s.writeSignature i mant e).mem (sigPool + 256 * i + 4 * k + j) = 0#8)) ∧
  (∀ (s : State) (t : Nat) (p : Fin 64), s.path.rxMask.getLsbD p = true → s.spare.rxRetired.getLsbD p = false →
      ∃ u, exec (.stuckAdc t p) s = .next u ∧ u.spare.rxRetired = s.spare.rxRetired ||| bitAt 64 p ∧
        u.path.rxMask = s.path.rxMask &&& ~~~(bitAt 64 p) ∧ u.spare.txRetired = s.spare.txRetired ∧
        u.path.txMask = s.path.txMask) ∧
  (∀ (s : State) (t : Nat) (p : Fin 64), s.path.rxMask.getLsbD p = false →
      exec (.stuckAdc t p) s = .next (s.advance t))

/-- SPAN, T_M and the reference of every SUN FSK mode.
For each of the twelve rates and every modulation index, SPAN is the smallest odd integer not less than (B + 50 kHz) / 100
kHz with B = Rs(1 + h) for 2-FSK and Rs(1 + 3h) for 4-FSK (h in 0.01 units, Rs of Table HZN-1), T_M is 1/Rs and the
reference lasts 16 symbols. Rules: R177. -/
def Obligations.SpanOfFskModes : Prop :=
  (∀ (p : Profile) (rs k : Nat), p.phy = 0 →
      (p.mode, rs, k) ∈ [(0, 2400, 1), (1, 4800, 1), (2, 9600, 1), (3, 19200, 1), (4, 50000, 1), (5, 100000, 1), (6, 150000, 1),
        (7, 200000, 1), (8, 300000, 1), (9, 100000, 3), (10, 150000, 3), (11, 200000, 3)] →
      p.span % 2 = 1 ∧ rs * (100 + k * u16 p.params 2) + 50000 * 100 ≤ 100000 * 100 * p.span ∧
        (∀ n : Nat, n % 2 = 1 → rs * (100 + k * u16 p.params 2) + 50000 * 100 ≤ 100000 * 100 * n → p.span ≤ n) ∧
        p.mergeTime * rs = 384000000000 ∧ p.refTime = 16 * p.mergeTime)

/-- Merging absorbs within the head's window and loses nothing; classification and the choice of a context follow their order.
Every head and what it absorbs come from the detections given, the absorbed ones lie within the head's window in bin, beam
and time, and heads with their absorbed detections account for all of them. A candidate without a rival is FRESH; otherwise
the rival of the highest running metric decides between DUAL, CAPTURE and ABSORBED. A grant takes a free context, the lowest
of the engine with the most free ones, the lower engine on a tie, and none only where all 1,024 are busy. Rules: R185 (in
part), R188 (in part), R192 (in part). -/
def Obligations.MergingAndArbitration : Prop :=
  (∀ (s : State) (tm n : Nat) (l a : List RawDetection) (h : RawDetection), (h, a) ∈ s.mergeHeads tm n l →
      h ∈ l ∧ (∀ d ∈ a, d ∈ l ∧ d.bin ≤ h.bin + 2 ∧ h.bin ≤ d.bin + 2 ∧ (d.beam = h.beam ∨ d.beam ∈ s.neighbours h.beam) ∧
        d.time ≤ h.time + tm ∧ h.time ≤ d.time + tm)) ∧
  (∀ (s : State) (tm : Nat) (l : List RawDetection),
      ((s.mergeHeads tm l.length l).map (fun x => 1 + x.2.length)).sum = l.length) ∧
  (∀ (s : State) (c : Candidate), s.dmd.contexts = [] → s.classify c = .fresh) ∧
  (∀ (s : State) (c : Candidate) (n : Nat) (x : Context), s.dmd.contexts = [(n, x)] → x.active = true → x.profileIx = c.profile →
      x.beam = c.beam → x.bin = c.bin →
      s.classify c = (if x.state ≠ .payload ∧ x.running < 10 * (s.hzn.profile c.profile).threshold then .dual
        else if x.running + 10 * (s.hzn.profile c.profile).margin ≤ c.metric then .capture n else .absorbed)) ∧
  (∀ (s : State) (c : Candidate) (m n : Nat) (x y : Context), s.dmd.contexts = [(m, x), (n, y)] → x.active = true →
      y.active = true → x.profileIx = c.profile → y.profileIx = c.profile → x.beam = c.beam → y.beam = c.beam → x.bin = c.bin →
      y.bin = c.bin →
      s.classify c = (if (if x.running < y.running then y else x).running + 10 * (s.hzn.profile c.profile).margin ≤ c.metric then
        .capture (if x.running < y.running then n else m) else .absorbed)) ∧
  (∀ (busy : List Nat) (c : Nat), pickContext busy = some c → c < 1024 ∧ c ∉ busy ∧
      (∀ j < 32, j < c % 32 → 32 * (c / 32) + j ∈ busy) ∧
      (∀ e < 32, freeInEngine busy e ≤ freeInEngine busy (c / 32)) ∧
      (∀ e < c / 32, freeInEngine busy e < freeInEngine busy (c / 32))) ∧
  (∀ busy : List Nat, busy.Nodup → (pickContext busy = none ↔ ∀ c < 1024, c ∈ busy))

/-- A search epoch counts, holds and averages; settings apply on its boundary; holds end in a grant, a hand-off, an absorption
or a drop.
SEARCH_EPOCH moves to its boundary and leaves paths, weights, radio and transmitter alone; a single detection becomes a
candidate with the hold of its profile; an epoch without detections moves an uncovered estimate through the average; waiting
settings come into force on the boundary. A candidate whose hold ends goes to a free context, or is counted in NO_CONTEXT
and dropped, or is handed to the context that it overcomes, or is absorbed. After the suspension the estimates restart from
the means. Rules: R180 (in part), R182 (in part), R186 (in part), R188 (in part), R191 (in part), R192 (in part), R198 (in
part). -/
def Obligations.HorizonSearch : Prop :=
  (∀ (s : State) (t : Nat) (raws : List RawDetection) (powers : List (Nat × Nat)) (sats : Nat), s.role = .standalone →
      s.hzn.ended = [] → s.boot.releasedAt + (s.hzn.epoch + 1) * 3840000 ≤ t →
      ∃ u, exec (.searchEpoch t raws powers sats) s = .next u ∧ u.hzn.epoch = (t - s.boot.releasedAt) / 3840000 ∧
        u.now = max s.now (s.boot.releasedAt + u.hzn.epoch * 3840000) ∧
        { u with hzn := s.hzn, dmd := s.dmd, spare := s.spare, halo := s.halo, evq := s.evq, now := s.now } = s) ∧
  (∀ (s : State) (t : Nat) (raws : List RawDetection) (powers : List (Nat × Nat)) (sats : Nat),
      t < s.boot.releasedAt + (s.hzn.epoch + 1) * 3840000 → exec (.searchEpoch t raws powers sats) s = .next s) ∧
  (∀ (s : State) (t sats : Nat) (d : RawDetection), s.role = .standalone → s.hzn.ended = [] → s.hzn.held = [] →
      s.hzn.suspended = none → s.hzn.waiting = [] →
      s.receiving = true → s.radio.blanked = [] → s.radio.gapSince = none → s.tx.blanked = [] → s.tx.queue = [] → s.tx.tails = [] → s.detects d = true →
      (t - s.boot.releasedAt) / 3840000 = s.hzn.epoch + 1 →
      ∃ u, exec (.searchEpoch t [d] [] sats) s = .next u ∧
        u.hzn.held.map (fun c => (c.raw, c.left)) = [(d, (s.hzn.profile d.profile).hold)] ∧
        (Tab.get u.hzn.counts d.profile {}).raw = wrapAdd 32 (Tab.get s.hzn.counts d.profile {}).raw 1 ∧
        u.hzn.noise = s.hzn.noise ∧ u.hzn.chanSat = wrapAdd 32 s.hzn.chanSat sats) ∧
  (∀ (s : State) (t i p : Nat), s.role = .standalone → s.hzn.ended = [] → s.hzn.suspended = none → s.dmd.contexts = [] →
      s.receiving = true → s.radio.blanked = [] → s.radio.gapSince = none → s.tx.blanked = [] → s.tx.queue = [] → s.tx.tails = [] → s.path.flagged = [] → s.filt.flagged = [] →
      s.boot.releasedAt + (s.hzn.epoch + 1) * 3840000 ≤ t →
      ∃ u, exec (.searchEpoch t [] [(i, p)] 0) s = .next u ∧
        u.hzn.noise = Tab.set s.hzn.noise i (average (Tab.get s.hzn.noise i 0) p s.hzn.noiseLog2)) ∧
  (∀ (s : State) (t n : Nat) (x : Profile), s.role = .standalone → s.hzn.ended = [] → s.hzn.held = [] → s.hzn.waiting = [(n, x)] →
      s.boot.releasedAt + (s.hzn.epoch + 1) * 3840000 ≤ t →
      ∃ u, exec (.searchEpoch t [] [] 0) s = .next u ∧ u.hzn.profile n = x ∧ u.hzn.waiting = [] ∧
        (∀ m, m ≠ n → u.hzn.profile m = s.hzn.profile m)) ∧
  (∀ (s : State) (c : Candidate) (run : List (Nat × Int)), s.role = .standalone → s.hzn.ended = [c] → s.dmd.contexts = [] →
      s.hzn.mapBusy = [] → s.hzn.applying = [] → s.dmd.applying = [] → s.hzn.noContextSince = [] →
      ∃ u, exec (.candidateHoldEnd run) s = .next u ∧
        u.hzn.grants.map (fun g => (g.context, g.cand, g.handoff, g.dual)) =
          s.hzn.grants.map (fun g => (g.context, g.cand, g.handoff, g.dual)) ++ [(0, c, false, false)] ∧ u.hzn.ended = [] ∧ u.hzn.held = s.hzn.held ∧
        (Tab.get u.hzn.counts c.profile {}).claimed = wrapAdd 32 (Tab.get s.hzn.counts c.profile {}).claimed 1) ∧
  (∀ (s : State) (c : Candidate) (run : List (Nat × Int)), s.role = .standalone → s.hzn.ended = [c] → s.dmd.contexts = [] →
      pickContext s.hzn.mapBusy = none → s.hzn.applying = [] → s.dmd.applying = [] →
      ∃ u, exec (.candidateHoldEnd run) s = .next u ∧ u.hzn.grants = s.hzn.grants ∧ u.hzn.ended = [] ∧
        u.hzn.held = s.hzn.held ∧ u.now = s.now ∧ u.dmd = s.dmd ∧
        (Tab.get u.hzn.counts c.profile {}).noContext = wrapAdd 32 (Tab.get s.hzn.counts c.profile {}).noContext 1) ∧
  (∀ (s : State) (c : Candidate) (n : Nat), s.role = .standalone → s.hzn.ended = [c] → s.classify c = .capture n →
      s.hzn.applying = [] → s.dmd.applying = [] → s.hzn.noContextSince = [] → s.dmd.contexts.map (fun p => p.1) = [n] →
      ∃ u, exec (.candidateHoldEnd []) s = .next u ∧
        u.hzn.grants.map (fun g => (g.context, g.cand, g.handoff)) =
          s.hzn.grants.map (fun g => (g.context, g.cand, g.handoff)) ++ [(n, c, true)] ∧ n ∈ u.hzn.mapBusy ∧
        (Tab.get u.hzn.counts c.profile {}).capture = wrapAdd 32 (Tab.get s.hzn.counts c.profile {}).capture 1) ∧
  (∀ s : State, s.hzn.ended = [] → ∀ run, exec (.candidateHoldEnd run) s = .next s) ∧
  (∀ s : State, s.hzn.suspended = some 0 →
      ∃ u, exec .detectionResume s = .next u ∧ u.hzn.suspended = none ∧ u.hzn.suspendSum = [] ∧ { u with hzn := s.hzn } = s) ∧
  (∀ (s : State) (i sum n : Nat), s.hzn.suspended = some 0 → s.hzn.suspendSum = [(i, (n * sum, n))] → 0 < n →
      exec .detectionResume s = .next { s with hzn := { s.hzn with
        suspended := none, suspendSum := [], noise := Tab.set s.hzn.noise i sum } })

/-- The commands of Horizon: profiles, the noise average, readings, status and counters.
HZN_SET_PROFILE leaves valid settings waiting for the next boundary and changes nothing in force; MDSSS outside its modes
ends MODE_UNSUPPORTED, a bin outside 32 + h to 351 − h BAD_PARAM, no free bank NO_RESOURCE. HZN_SET_NOISE sets NOISE_LOG2
from 6 to 14. HZN_READ_NOISE answers 384 values, 0x8000 for bins that are not searched and for a beam that is OFF (the
reading of an estimate of zero is a free value, log 707). HZN_GET_COUNTERS answers the counters and clears them on request.
Rules: R176 (in part), R178 (in part), R179 (in part), R197 (in part), R198 (in part), R199 (in part), 07_horizon_search.md
Table HZN-5, 07_horizon_search.md Table HZN-8. -/
def Obligations.HorizonCommands : Prop :=
  (∀ (s : State) (r : Running), Runs s r specHznSetProfile → profileRanges r.cmd.payload = true →
      modeOk (parseProfile r.cmd.payload) = true → binMaskOk (parseProfile r.cmd.payload) = true →
      (u8 r.cmd.payload 1 = 1 → s.bankFor (u8 r.cmd.payload 0) = true) →
      exec .hznSetProfile s = .next (s.close specHznSetProfile r (.ok { s with hzn := { s.hzn with
        waiting := Tab.set s.hzn.waiting (u8 r.cmd.payload 0) (parseProfile r.cmd.payload) } } []))) ∧
  (∀ p : List Byte, (parseProfile p).threshold = u16 p 4 ∧ (parseProfile p).margin = u8 p 6 ∧
      (parseProfile p).maxPsdu = u16 p 8 ∧ (parseProfile p).priority = u8 p 3 ∧
      (parseProfile p).beamMask.toNat = u32 p 0x20 + 2 ^ 32 * u32 p 0x24 ∧
      (∀ k : Fin 384, (parseProfile p).binMask.getLsbD k = (u8 p (0x28 + k / 8)).testBit (k % 8))) ∧
  (∀ (s : State) (r : Running), Runs s r specHznSetProfile → profileRanges r.cmd.payload = true → u8 r.cmd.payload 2 = 1 →
      u8 r.cmd.payload 0x12 = 1 →
      (u8 r.cmd.payload 0x10 = 0 ∨ u8 r.cmd.payload 0x11 % 2 = 1 ∨ u8 r.cmd.payload 0x11 / 2 % 2 = 1) →
      exec .hznSetProfile s = .next (s.respond r ⟨0x0501, []⟩)) ∧
  (∀ (s : State) (r : Running) (k : Fin 384), Runs s r specHznSetProfile → profileRanges r.cmd.payload = true →
      modeOk (parseProfile r.cmd.payload) = true → (parseProfile r.cmd.payload).binMask.getLsbD k = true →
      (k.val < 32 + (parseProfile r.cmd.payload).half ∨ 351 - (parseProfile r.cmd.payload).half < k.val) →
      exec .hznSetProfile s = .next (s.respond r ⟨3, []⟩)) ∧
  (∀ (s : State) (r : Running), Runs s r specHznSetProfile → profileRanges r.cmd.payload = true →
      modeOk (parseProfile r.cmd.payload) = true → binMaskOk (parseProfile r.cmd.payload) = true → u8 r.cmd.payload 1 = 1 →
      s.spare.banks = [] → s.spare.bankOf = [] → exec .hznSetProfile s = .next (s.respond r ⟨7, []⟩)) ∧
  (∀ (s : State) (r : Running), Runs s r specHznSetNoise → 6 ≤ u8 r.cmd.payload 0 → u8 r.cmd.payload 0 ≤ 14 →
      exec .hznSetNoise s = .next (s.close specHznSetNoise r (.ok { s with hzn := { s.hzn with
        noiseLog2 := u8 r.cmd.payload 0 } } []))) ∧
  (∀ (s : State) (r : Running), Runs s r specHznReadNoise → u8 r.cmd.payload 0 ≤ 63 →
      ∃ t p, exec .hznReadNoise s = .next (s.close specHznReadNoise r (.ok t p)) ∧ p.length = 768 ∧
        { t with free := s.free } = s ∧
        (∀ k < 384, (s.beam.defOf (u8 r.cmd.payload 0)).source = .off ∨ k < 32 ∨ 351 < k → s16 p (2 * k) = -32768) ∧
        (∀ k < 384, 32 ≤ k → k ≤ 351 → (s.beam.defOf (u8 r.cmd.payload 0)).source ≠ .off →
          0 < Tab.get s.hzn.noise (384 * u8 r.cmd.payload 0 + k) 0 →
          bytesAt p (2 * k) 2 = leS 2 (centiDb (Tab.get s.hzn.noise (384 * u8 r.cmd.payload 0 + k) 0) (32767 * 32767 * 65536)))) ∧
  (∀ (s : State) (r : Running), Runs s r specHznGetStatus →
      ∃ p, exec .hznGetStatus s = .next (s.close specHznGetStatus r (.ok s p)) ∧ p.length = 0x2C8 ∧
        (∀ n : Fin 8, (u8 p 0).testBit n = (s.hzn.profile n).enable ∧ u8 p (8 + 0x58 * n) = n ∧
          bytesAt p (8 + 0x58 * n) 0x58 = (s.hzn.profile n).bytes n)) ∧
  (∀ (s : State) (r : Running), Runs s r specHznGetCounters →
      ∃ p, exec .hznGetCounters s = .next (s.close specHznGetCounters r (.ok (if u8 r.cmd.payload 0 % 2 = 1 then
          { s with hzn := { s.hzn with counts := [], overload := 0, chanSat := 0 } } else s) p)) ∧ p.length = 0x108 ∧
        (∀ n : Fin 8, bytesAt p (0x20 * n) 0x20 = (Tab.get s.hzn.counts n {}).bytes) ∧
        u32 p 0x100 = s.hzn.overload % 2 ^ 32 ∧ u32 p 0x104 = s.hzn.chanSat % 2 ^ 32)

/-- The life of a context: claim, hand-off, SFD, header, last symbol, loss and release.
A granted claim starts its context in SYNC on the candidate; a hand-off to a context in PAYLOAD ends that reception with
status CAPTURED at the candidate's time, to one in SYNC or HEADER counts CAPTURED_SILENT, and the context restarts in SYNC
with CAPTURE_START under the settings of the hand-off. An SFD inside the window gives HEADER and keeps the epochs in force;
an expired window counts SFD_FAIL; a header that passes gives PAYLOAD and one that fails counts as Table DMD-2 orders it,
and either way nothing but the context, its counter and the busy marks changes. The last air symbol, a loss of
synchronisation and a release leave the slot as R201 and R221 say. Rules: R189 (in part), R201 (in part), R203 (in part),
R204 (in part), R208 (in part), R209 (in part), R221 (in part), R222 (in part). -/
def Obligations.ReceptionLife : Prop :=
  (∀ (s : State) (t : Nat) (c : Fin 1024) (g : Grant), s.hzn.grants = [g] → g.context = c → g.handoff = false →
      exec (.contextClaim t c) s = .next { s.advance t with
        hzn := { s.hzn with grants := [] }
        dmd := { s.dmd with contexts := Tab.set s.dmd.contexts c g.start } }) ∧
  (∀ g : Grant, g.start.state = .sync ∧ g.start.beam = g.cand.beam ∧ g.start.bin = g.cand.bin ∧
      g.start.running = g.cand.metric ∧ g.start.time = g.cand.time ∧ g.start.captureStart = g.handoff ∧
      g.start.profile = g.profile ∧ g.start.control = g.control) ∧
  (∀ (s : State) (t : Nat) (c : Fin 1024) (g : Grant) (x : Context), s.hzn.grants = [g] → g.context = c → g.handoff = true →
      s.context c = some x → x.state = .payload →
      ∃ u, exec (.captureHandoff t c) s = .next u ∧ u.context c = some g.start ∧
        u.dmd.ended = s.dmd.ended ++ [{ order := s.dmd.nextOrder, number := c, ctx := x, status := 2, stop := g.cand.time, psdu := [] }] ∧
        (Tab.get u.dmd.counts x.profileIx {}).capturedReported =
          wrapAdd 32 (Tab.get s.dmd.counts x.profileIx {}).capturedReported 1 ∧
        { u with hzn := s.hzn, dmd := s.dmd, now := s.now } = s) ∧
  (∀ (s : State) (t : Nat) (c : Fin 1024) (g : Grant) (x : Context), s.hzn.grants = [g] → g.context = c → g.handoff = true →
      s.context c = some x → (x.state = .sync ∨ x.state = .header) →
      ∃ u, exec (.captureHandoff t c) s = .next u ∧ u.context c = some g.start ∧ u.dmd.ended = s.dmd.ended ∧
        (Tab.get u.dmd.counts x.profileIx {}).capturedSilent =
          wrapAdd 32 (Tab.get s.dmd.counts x.profileIx {}).capturedSilent 1) ∧
  (∀ (s : State) (t : Nat) (c : Fin 1024) (x : Context), s.context c = some x → x.state = .ended →
      exec (.contextRelease t c) s = .next { s.advance t with dmd := { s.dmd with contexts := Tab.erase s.dmd.contexts c } }) ∧
  (∀ (s : State) (t : Nat) (c : Fin 1024) (x : Context), s.context c = some x → x.state ≠ .ended →
      exec (.contextRelease t c) s = .next (s.advance t)) ∧
  (∀ (s : State) (t sub : Nat) (c : Fin 1024) (sfd1 : Bool) (x : Context), s.context c = some x → x.state = .sync →
      x.profile.phy = 0 → x.time ≤ t → t ≤ x.time + x.control.sfdWindow * x.profile.mergeTime →
      ∃ u, exec (.sfdFound t c sfd1 sub) s = .next u ∧
        (u.context c).map (fun y => (y.state, y.toa, y.gainEpoch, y.weightEpoch, y.acqCount, y.loHz)) =
          some (.header, t, s.path.epoch, s.beam.epoch, s.radio.acqCount, s.loHz) ∧
        (u.context c).map (fun y => (y.beam, y.bin, y.time, y.running, y.profile)) =
          some (x.beam, x.bin, x.time, x.running, x.profile) ∧
        u.dmd.ended = s.dmd.ended ∧ u.dmd.counts = s.dmd.counts ∧ { u with dmd := s.dmd, now := s.now } = s) ∧
  (∀ (s : State) (t : Nat) (c : Fin 1024) (x : Context), s.context c = some x → x.state = .sync → x.profile.phy = 0 →
      x.time + (x.control.sfdWindow + 16) * x.profile.mergeTime ≤ t →
      ∃ u, exec (.sfdWindowExpiry t c) s = .next u ∧ u.context c = some { x with state := .ended } ∧
        (Tab.get u.dmd.counts x.profileIx {}).sfdFail = wrapAdd 32 (Tab.get s.dmd.counts x.profileIx {}).sfdFail 1 ∧
        u.dmd.ended = s.dmd.ended ∧ { u with hzn := s.hzn, dmd := s.dmd, now := s.now } = s) ∧
  (∀ (s : State) (t : Nat) (c : Fin 1024) (x : Context) (h : PhrInfo), s.context c = some x → x.state = .header →
      x.checkHeader h = .pass → s.dmd.contexts = [(c.val, x)] →
      exec (.headerDecoded t c h) s = .next { s.advance t with dmd := { s.dmd with
        contexts := [(c.val, { x with state := .payload, phr := some h, payloadAt := max s.now t })] } }) ∧
  (∀ (s : State) (t : Nat) (c : Fin 1024) (x : Context) (h : PhrInfo), s.context c = some x → x.state = .header →
      x.profile.phy = 0 → h.decoded = true → h.modeSwitch = true →
      ∃ u, exec (.headerDecoded t c h) s = .next u ∧ u.context c = some { x with state := .ended } ∧
        (Tab.get u.dmd.counts x.profileIx {}).modeSwitch = wrapAdd 32 (Tab.get s.dmd.counts x.profileIx {}).modeSwitch 1) ∧
  (∀ (x : Context) (h : PhrInfo), x.checkHeader h = .pass ↔ h.decoded = true ∧ (x.profile.phy ≠ 0 → h.hcsOk = true) ∧
      (x.profile.phy = 0 → h.modeSwitch = false) ∧
      (x.profile.phy = 1 → (u8 x.profile.params 1).testBit h.submode = true ∧ h.mdsss = (u8 x.profile.params 2 == 1)) ∧
      (x.profile.phy = 2 → (u8 x.profile.params 1).testBit h.submode = true ∧
        (ofdmMcs x.profile.mode).getLsbD h.submode = true) ∧
      1 ≤ h.length ∧ h.length ≤ x.profile.maxPsdu ∧ x.fcsLen h ≤ h.length) ∧
  (∀ (s : State) (t : Nat) (a c : Fin 1024) (x y : Context) (h : PhrInfo), a ≠ c → s.dmd.contexts = [(a.val, y), (c.val, x)] →
      x.state = .header → y.state = .payload → x.checkHeader h = .pass → x.dual = true → y.profileIx = x.profileIx →
      y.beam = x.beam → y.bin = x.bin → y.toa = x.toa → y.claimEpoch < x.claimEpoch →
      ∃ u, exec (.headerDecoded t c h) s = .next u ∧ u.context a = some y ∧
        (u.context c).map (fun z => z.state) = some .ended ∧
        (Tab.get u.dmd.counts x.profileIx {}).duplicate = wrapAdd 32 (Tab.get s.dmd.counts x.profileIx {}).duplicate 1) ∧
  (∀ (s : State) (t : Nat) (c : Fin 1024) (x : Context) (m : Int), s.context c = some x → x.state = .payload →
      ∃ u, exec (.lastAirSymbol t c m) s = .next u ∧
        u.context c = some { x with state := .ended, running := m } ∧
        u.dmd.ended = s.dmd.ended ++ [{ order := s.dmd.nextOrder, number := c, ctx := { x with running := m }, status := 0
                                        stop := t, psdu := [] }] ∧
        u.dmd.counts = s.dmd.counts ∧ { u with hzn := s.hzn, dmd := s.dmd, now := s.now } = s) ∧
  (∀ (s : State) (t : Nat) (c : Fin 1024) (x : Context) (m : Int), s.context c = some x → x.state = .payload →
      x.payloadAt + x.control.lossSymbols * x.profile.mergeTime ≤ t → m < 10 * x.profile.threshold - 600 →
      ∃ u, exec (.lostSync t c m) s = .next u ∧ u.context c = some { x with state := .ended, running := m } ∧
        (Tab.get u.dmd.counts x.profileIx {}).lostSync = wrapAdd 32 (Tab.get s.dmd.counts x.profileIx {}).lostSync 1 ∧
        u.dmd.ended.map (fun e => (e.order, e.status, e.stop)) = s.dmd.ended.map (fun e => (e.order, e.status, e.stop)) ++
          (if x.control.report.getLsbD 1 = true then [(s.dmd.nextOrder, 3, t)] else [])) ∧
  (∀ (s : State) (t : Nat) (c : Fin 1024) (x : Context) (m : Int), s.context c = some x →
      10 * x.profile.threshold - 600 ≤ m → exec (.lostSync t c m) s = .next (s.advance t))

/-- Records: when one is produced, its layout and length, SEQUENCE, and the loss of a record that finds no room.
A reception whose FCS passes counts RECORDS_OK and produces a record of status 0; one whose FCS fails counts FCS_FAIL and
produces a record of status 1 only if REPORT bit 0 is set; one that ended CAPTURED or LOST_SYNC produces its record. A
record is 96 bytes and the PSDU padded to a multiple of 8, at most 2,144 bytes for a PSDU of a header that passed,
RECORD_LENGTH says so, and STATUS, SEQUENCE, CONTEXT, PROFILE, BEAM and BIN stand where Table DMD-5 puts them; without
status OK the angles are absent. SEQUENCE grows by one for every record, and a record that the pool cannot take is counted
in POOL_FULL and written nowhere. Rules: R213 (in part), R214 (in part), R217 (in part), R218 (in part), R219 (in part),
R222 (in part). -/
def Obligations.PacketRecords : Prop :=
  (∀ (s : State) (e : Ended) (st : Nat) (b : BackEnd) (h : PhrInfo), e.ctx.phr = some h → h.length ≤ 2047 →
      (s.packetRecord e st b).length = 96 + (if st ≤ 1 then (h.length + 7) / 8 * 8 else 0) ∧
      (s.packetRecord e st b).length ≤ 2144 ∧
      u16 (s.packetRecord e st b) 0 = (s.packetRecord e st b).length ∧
      u8 (s.packetRecord e st b) 2 = 1 ∧ u8 (s.packetRecord e st b) 3 = st % 256 ∧
      u32 (s.packetRecord e st b) 4 = s.dmd.sequence % 2 ^ 32 ∧ bytesAt (s.packetRecord e st b) 8 8 = s.ts64Bytes e.ctx.toa ∧
      u16 (s.packetRecord e st b) 0x14 = e.number % 65536 ∧ u8 (s.packetRecord e st b) 0x16 = e.ctx.profileIx % 256 ∧
      u8 (s.packetRecord e st b) 0x17 = e.ctx.beam % 256 ∧ u16 (s.packetRecord e st b) 0x18 = e.ctx.bin % 65536 ∧
      u16 (s.packetRecord e st b) 0x1A = h.length ∧ bytesAt (s.packetRecord e st b) 0x50 16 = zeros 16 ∧
      (st ≤ 1 → bytesAt (s.packetRecord e st b) 0x60 h.length = fit h.length b.psdu)) ∧
  (∀ (s : State) (e : Ended) (st : Nat) (b : BackEnd), st ≠ 0 →
      u16 (s.packetRecord e st b) 0x2C = 0x8000 ∧ u16 (s.packetRecord e st b) 0x2E = 0x8000 ∧
      u16 (s.packetRecord e st b) 0x30 = 0xFFFF ∧ u16 (s.packetRecord e st b) 0x32 = 0xFFFF ∧
      u8 (s.packetRecord e st b) 0x40 % 2 = 0) ∧
  (∀ (s : State) (e : Ended) (st : Nat) (b : BackEnd),
      (s.produceRecord e st b).dmd.sequence = (s.dmd.sequence + 1) % 2 ^ 32 ∧
      (s.poolFree < (s.packetRecord e st b).length →
        (s.produceRecord e st b).mem = s.mem ∧ (s.produceRecord e st b).dmd.pool = s.dmd.pool ∧
        (Tab.get (s.produceRecord e st b).dmd.counts e.ctx.profileIx {}).poolFull =
          wrapAdd 32 (Tab.get s.dmd.counts e.ctx.profileIx {}).poolFull 1) ∧
      ((s.packetRecord e st b).length ≤ s.poolFree → s.firstPort = none →
        (s.produceRecord e st b).dmd.pool = s.dmd.pool ++ [(s.dmd.poolNext, s.packetRecord e st b)] ∧
        (s.produceRecord e st b).dmd.counts = s.dmd.counts)) ∧
  (∀ (s : State) (t : Nat) (e : Ended) (b : BackEnd), s.dmd.ended = [e] → e.status = 0 → b.fcsOk = true →
      ∃ u, u = ({ s.advance t with dmd := { s.dmd with ended := [] } } : State).dmdCount e.ctx.profileIx
          (fun n => { n with ok := wrapAdd 32 n.ok 1 }) ∧
        exec (.recordComplete t e.order b) s = .next (u.produceRecord e 0 b)) ∧
  (∀ (s : State) (t : Nat) (e : Ended) (b : BackEnd), s.dmd.ended = [e] → e.status = 0 → b.fcsOk = false →
      ∃ u, u = ({ s.advance t with dmd := { s.dmd with ended := [] } } : State).dmdCount e.ctx.profileIx
          (fun n => { n with fcsFail := wrapAdd 32 n.fcsFail 1 }) ∧
        exec (.recordComplete t e.order b) s =
          .next (if e.ctx.control.report.getLsbD 0 = true then u.produceRecord e 1 b else u)) ∧
  (∀ (s : State) (t : Nat) (e : Ended) (b : BackEnd), s.dmd.ended = [e] → e.status ≠ 0 →
      exec (.recordComplete t e.order b) s =
        .next (({ s.advance t with dmd := { s.dmd with ended := [] } } : State).produceRecord e e.status b)) ∧
  (∀ (s : State) (t n : Nat) (b : BackEnd), s.dmd.ended = [] → exec (.recordComplete t n b) s = .next (s.advance t))

/-- Control settings, counters and the context map.
DMD_SET_CONTROL leaves valid settings waiting for the next epoch boundary, and ends BAD_PARAM outside the ranges of Table
DMD-11; DMD_GET_CONTROL answers the settings in force; DMD_GET_COUNTERS answers Table DMD-9 and clears the counters on
request, SEQUENCE excepted; DMD_GET_CONTEXTS shows a bit for every context that is not FREE. Rules: R222 (in part), R223 (in
part), 08_demodulation_and_packet_records.md Table DMD-9, 08_demodulation_and_packet_records.md Table DMD-10. -/
def Obligations.DemodulationCommands : Prop :=
  (∀ (s : State) (r : Running), Runs s r specDmdSetControl → u8 r.cmd.payload 0 ≤ 7 → 16 ≤ u16 r.cmd.payload 2 →
      u16 r.cmd.payload 2 ≤ 8000 → (u8 r.cmd.payload 4 = 2 ∨ u8 r.cmd.payload 4 = 4) → 8 ≤ u8 r.cmd.payload 5 →
      exec .dmdSetControl s = .next (s.close specDmdSetControl r (.ok { s with dmd := { s.dmd with
        waiting := Tab.set s.dmd.waiting (u8 r.cmd.payload 0)
          { report := BitVec.ofNat 2 (u8 r.cmd.payload 1), sfdWindow := u16 r.cmd.payload 2, fcsLen := u8 r.cmd.payload 4
            lossSymbols := u8 r.cmd.payload 5 } } } []))) ∧
  (∀ (s : State) (r : Running), Runs s r specDmdSetControl →
      (7 < u8 r.cmd.payload 0 ∨ u16 r.cmd.payload 2 < 16 ∨ 8000 < u16 r.cmd.payload 2 ∨
        (u8 r.cmd.payload 4 ≠ 2 ∧ u8 r.cmd.payload 4 ≠ 4) ∨ u8 r.cmd.payload 5 < 8) →
      exec .dmdSetControl s = .next (s.respond r ⟨3, []⟩)) ∧
  (∀ (s : State) (r : Running), Runs s r specDmdGetControl → u8 r.cmd.payload 0 ≤ 7 →
      exec .dmdGetControl s = .next (s.close specDmdGetControl r (.ok s
        (le 1 (u8 r.cmd.payload 0) ++ le 1 (Tab.get s.dmd.controls (u8 r.cmd.payload 0) {}).report.toNat ++
          le 2 (Tab.get s.dmd.controls (u8 r.cmd.payload 0) {}).sfdWindow ++
          le 1 (Tab.get s.dmd.controls (u8 r.cmd.payload 0) {}).fcsLen ++
          le 1 (Tab.get s.dmd.controls (u8 r.cmd.payload 0) {}).lossSymbols ++ [0#8, 0#8])))) ∧
  (∀ (s : State) (r : Running), Runs s r specDmdGetCounters →
      ∃ p, exec .dmdGetCounters s = .next (s.close specDmdGetCounters r (.ok (if u8 r.cmd.payload 0 % 2 = 1 then
          { s with dmd := { s.dmd with counts := [] } } else s) p)) ∧ p.length = 0x208 ∧
        (∀ n : Fin 8, bytesAt p (0x40 * n) 0x40 = (Tab.get s.dmd.counts n {}).bytes) ∧
        u32 p 0x200 = s.dmd.sequence % 2 ^ 32 ∧ u32 p 0x204 = s.poolFree) ∧
  (∀ (s : State) (r : Running), Runs s r specDmdGetContexts →
      ∃ p, exec .dmdGetContexts s = .next (s.close specDmdGetContexts r (.ok s p)) ∧ p.length = 0xA0 ∧
        (∀ c : Fin 1024, (u8 p (c / 8)).testBit (c % 8) = (Tab.find? s.dmd.contexts c).isSome))

/-- Admission in the order of Table TX-3, and the other transmit commands.
The first failing check of Table TX-3 decides a request; a request that fails none is put at the end of the queue and the
response says so, a request that fails one ends in exactly that outcome and the queue stays. The sub-band is the lowest that
holds the channel and the LO. TX_CANCEL ends a queued request with cause CANCELLED, ends WRONG_STATE after its preparation
and NO_REQUEST without it; TX_SET_RAMP and TX_SET_COEX set their parameters; TX_REG_READ answers the stored record or
REG_NOT_SEALED; TX_REG_SUPERSEDE fails in the order of R243, else queues the write. Rules: R225 (in part), R229 (in part),
R231 (in part), R235 (in part), R236 (in part), R243 (in part), R253 (in part), R255 (in part), R541 (in part),
09_transmit_and_regulatory_locks.md Table TX-3, 09_transmit_and_regulatory_locks.md Table TX-11. -/
def Obligations.TransmitRequests : Prop :=
  (∀ (s : State) (b : Launch) (a : Nat),
      (s.admissionChecks b a).1 =
        (if b.req.id ∈ s.tx.queue.map (fun q => q.req.id) then some (9, 0x86)
        else if s.time.state = .invalid then some (6, 0x50)
        else if b.device < s.time.deviceAt (a + 500 * 384000) then some (1, 0x01)
        else if s.tx.record = none then some (2, 0x12)
        else match (s.launchChecks s.loHz (b.req.handles.all (fun h => s.sigCurrent h b.device)) b).1 with
          | some v => some v
          | none => if 256 ≤ s.tx.queue.length then some (9, 0x81)
            else if s.beamsFit (s.launchChecks s.loHz (b.req.handles.all (fun h => s.sigCurrent h b.device)) b).2 = false then
              some (9, 0x82)
            else none)) ∧
  (∀ (s : State) (lo i : Nat) (sig : Bool) (b : Launch) (band : Subband), inPassband lo b.req = true →
      findSubband s.tx.bands lo b.req = .ok (i, band) →
      (s.launchChecks lo sig b).1 = (if sig = false then some (9, 0x83)
        else if (s.levelCheck { b with subband := i } band).1 = false then some (3, 0x20)
        else (s.dutyCheck { b with subband := i, margin := (s.levelCheck { b with subband := i } band).2 } i band).1.map
          (fun c => (4, c)))) ∧
  (∀ (s : State) (lo c : Nat) (sig : Bool) (b : Launch), inPassband lo b.req = true → findSubband s.tx.bands lo b.req = .error c →
      (s.launchChecks lo sig b).1 = some (2, c)) ∧
  (∀ (s : State) (lo : Nat) (sig : Bool) (b : Launch), inPassband lo b.req = false →
      (s.launchChecks lo sig b).1 = some (9, 0x85)) ∧
  (∀ (bands : List Subband) (lo i : Nat) (q : TxRequest) (x : Subband), findSubband bands lo q = .ok (i, x) →
      bands[i]? = some x ∧ x.holds q = true ∧ x.holdsLo lo = true ∧
        (∀ j < i, ∀ y, bands[j]? = some y → (y.holds q && y.holdsLo lo) = false)) ∧
  (∀ (bands : List Subband) (lo c : Nat) (q : TxRequest), findSubband bands lo q = .error c →
      (∀ y ∈ bands, (y.holds q && y.holdsLo lo) = false) ∧ c = (if bands.any (fun y => y.holds q) = true then 0x11 else 0x10)) ∧
  (∀ (s : State) (r : Running) (q : TxRequest) (b : Launch), Runs s r specTxSubmit → s.role = .standalone →
      parseRequest false 1 r.cmd.payload = some q → s.admissionChecks (s.candidateLaunch q .mailbox) r.reached = (none, b) →
      ∃ t, exec .txSubmit s = .next (s.close specTxSubmit r (.ok t
          (le 4 q.id ++ [1#8, 0xFF#8, 0xFF#8, 0#8] ++ s.ts64Bytes (s.launchAt b + 2 * b.tr + b.frame)))) ∧
        t.tx.queue = s.tx.queue ++ [b] ∧ t.tx.outcomes = s.tx.outcomes ∧ t.tx.nextOrder = s.tx.nextOrder + 1 ∧
        t.path = s.path ∧ t.mem = s.mem ∧ t.nv = s.nv) ∧
  (∀ (s : State) (r : Running) (q : TxRequest) (b : Launch) (v : Nat × Nat), Runs s r specTxSubmit → s.role = .standalone →
      parseRequest false 1 r.cmd.payload = some q → s.admissionChecks (s.candidateLaunch q .mailbox) r.reached = (some v, b) →
      ∃ t, exec .txSubmit s = .next (s.close specTxSubmit r (.ok t (le 4 q.id ++ [0#8] ++ le 1 v.1 ++ le 1 v.2 ++ zeros 9))) ∧
        t.tx.queue = s.tx.queue ∧ { t with tx := s.tx } = s ∧
        t.tx.outcomes.map (fun o => (o.id, o.outcome, o.cause, o.seq)) =
          s.tx.outcomes.map (fun o => (o.id, o.outcome, o.cause, o.seq)) ++ [(q.id, v.1, v.2, s.tx.outcomeSeq)]) ∧
  (∀ (s : State) (r : Running), Runs s r specTxSubmit → s.role = .standalone → parseRequest false 1 r.cmd.payload = none →
      ∃ t, exec .txSubmit s = .next (s.close specTxSubmit r (.ok t
          (bytesAt r.cmd.payload 0 4 ++ [0#8, 9#8, 0x80#8] ++ zeros 9))) ∧
        t.tx.queue = s.tx.queue ∧ { t with tx := s.tx } = s) ∧
  (∀ (s : State) (r : Running) (b : Launch), Runs s r specTxCancel → s.tx.queue = [b] → b.req.id = u32 r.cmd.payload 0 →
      b.phase = .queued → s.role = .standalone →
      ∃ t, exec .txCancel s = .next (s.close specTxCancel r (.ok t [])) ∧ t.tx.queue = [] ∧
        t.tx.outcomes.map (fun o => (o.id, o.outcome, o.cause)) =
          s.tx.outcomes.map (fun o => (o.id, o.outcome, o.cause)) ++ [(b.req.id, 9, 0x84)]) ∧
  (∀ (s : State) (r : Running) (b : Launch), Runs s r specTxCancel → s.tx.queue = [b] → b.req.id = u32 r.cmd.payload 0 →
      b.phase ≠ .queued → exec .txCancel s = .next (s.respond r ⟨8, []⟩)) ∧
  (∀ (s : State) (r : Running), Runs s r specTxCancel → s.tx.queue = [] → exec .txCancel s = .next (s.respond r ⟨0x0703, []⟩)) ∧
  (∀ (s : State) (r : Running), Runs s r specTxSetRamp → 5 ≤ u16 r.cmd.payload 0 → u16 r.cmd.payload 0 ≤ 320 →
      u8 r.cmd.payload 2 ≤ 1 →
      exec .txSetRamp s = .next (s.close specTxSetRamp r (.ok { s with tx := { s.tx with
        rampTenths := u16 r.cmd.payload 0
        rampTable := if u8 r.cmd.payload 2 = 1 then some ((List.range 64).map (fun i => u16 r.cmd.payload (8 + 2 * i)))
          else none } } []))) ∧
  (∀ (s : State) (r : Running), Runs s r specTxSetRamp → (u16 r.cmd.payload 0 < 5 ∨ 320 < u16 r.cmd.payload 0) →
      exec .txSetRamp s = .next (s.respond r ⟨3, []⟩)) ∧
  (∀ (s : State) (r : Running), Runs s r specTxSetCoex → u8 r.cmd.payload 0 ≤ 1 → u8 r.cmd.payload 1 ≤ 1 →
      u16 r.cmd.payload 2 ≤ 500 → u16 r.cmd.payload 4 ≤ 1000 →
      ∃ t, exec .txSetCoex s = .next (s.close specTxSetCoex r (.ok t [])) ∧
        t.tx = { s.tx with coexEnable := u8 r.cmd.payload 0 == 1, busyMode := u8 r.cmd.payload 1 == 1
                           coexLead := u16 r.cmd.payload 2, gntFilter := u16 r.cmd.payload 4 } ∧
        (u8 r.cmd.payload 0 = 0 → t.pins.coexReq = false ∧ t.pins.coexPri = false) ∧
        { t with tx := s.tx, pins := { t.pins with coexReq := s.pins.coexReq, coexPri := s.pins.coexPri } } = s) ∧
  (∀ (s : State) (r : Running), Runs s r specTxGetStatus →
      exec .txGetStatus s = .next (s.close specTxGetStatus r (.ok (if u8 r.cmd.payload 0 % 2 = 1 then
        { s with tx := { s.tx with counts := [] } } else s) s.txStatus))) ∧
  (∀ s : State, s.txStatus.length = 0x80 ∧ u16 s.txStatus 0 = s.tx.queue.length % 65536 ∧
      u32 s.txStatus 4 = (match s.tx.record with | some x => x.1 | none => 0) % 2 ^ 32 ∧
      u8 s.txStatus 9 = (if s.thermal.throttle = true then 1 else 0) ∧
      (∀ k : Fin 10, u32 s.txStatus (0x50 + 4 * k) = Tab.get s.tx.counts k 0 % 2 ^ 32)) ∧
  (∀ (s : State) (r : Running) (p : List Byte), Runs s r specTxRegRead → s.nv.regRecord = some p → s.fuses.sealBit = true →
      exec .txRegRead s = .next (s.close specTxRegRead r (.ok s p))) ∧
  (∀ (s : State) (r : Running), Runs s r specTxRegRead → s.fuses.sealBit = false →
      exec .txRegRead s = .next (s.respond r ⟨0x0702, []⟩)) ∧
  (∀ (s : State) (r : Running), Runs s r specTxRegSupersede → r.cmd.payload.length = 608 →
      exec .txRegSupersede s = .next (match s.supersedeCheck r.cmd.payload with
        | some st => s.respond r ⟨st, []⟩
        | none => s.close specTxRegSupersede r (.later (s.nvEnqueue
            { record := .regulatory, data := r.cmd.payload, owner := some r.order }) []))) ∧
  (∀ (s : State) (p : List Byte), s.supersedeCheck p =
      (if s.fuses.sealBit = false ∨ s.nv.regRecord = none then some 0x0702
      else if recordWhole p = false then some 3
      else if s.recordSigned p = false then some 9
      else if u32 p 4 ≤ (match s.tx.record with | some x => x.1 | none => 0) then some 0x0701
      else if s.nvTempOk = false then some 6 else none))

/-- A launch from its preparation to the end of its blanking, and the ways it ends without radiating.
Preparation at L − 150 us repeats the checks and either gives the request its transmit beams or ends it in the outcome of
the failing check. The coexistence request, the yield of calibration and the change to TX come at their instants before L.
R113 decides the launch where the synthesiser is ready and ends it LATE where it is not by the end of TOL; the TRSW lines go
over at t0; a missing grant ends it COEX_DENIED; the launch raises PAEN of its quadrants, or under a trip ends
ABORTED_THERMAL; the end of the ramp-down accounts the air time and reports LAUNCHED; TRSW returns at t5 and blanking ends
at t6. A withdrawal of the grant aborts the bursts in progress. Rules: R72 (in part), R94 (in part), R113 (in part), R234
(in part), R238 (in part), R242 (in part), R245 (in part), R246 (in part), R247 (in part), R249 (in part), R253 (in part),
03_transceiver_paths.md Table PATH-2. -/
def Obligations.LaunchSequence : Prop :=
  (∀ (s : State) (b c : Launch), s.tx.queue = [b] → b.phase = .queued → s.role = .standalone →
      ({ s with now := max s.now (s.launchAt b - 57600000) } : State).launchChecks
        (({ s with now := max s.now (s.launchAt b - 57600000) } : State).loAt (s.launchAt b)) true b = (none, c) →
      s.beam.txUse = 0#16 → b.req.beams.length ≤ 4 →
      ∃ u, exec .txPreparation s = .next u ∧ u.now = max s.now (s.launchAt b - 57600000) ∧
        u.tx.queue = [{ c with phase := .prepared, beams := List.range b.req.beams.length, ownOnly := false }] ∧
        u.tx.outcomes = s.tx.outcomes ∧ { u with now := s.now, tx := s.tx, beam := s.beam } = s) ∧
  (∀ (s : State) (b c : Launch) (v : Nat × Nat), s.tx.queue = [b] → b.phase = .queued → s.role = .standalone →
      ({ s with now := max s.now (s.launchAt b - 57600000) } : State).launchChecks
        (({ s with now := max s.now (s.launchAt b - 57600000) } : State).loAt (s.launchAt b)) true b = (some v, c) →
      ∃ u, exec .txPreparation s = .next u ∧ u.tx.queue = [] ∧
        u.tx.outcomes.map (fun o => (o.id, o.outcome, o.cause)) =
          s.tx.outcomes.map (fun o => (o.id, o.outcome, o.cause)) ++ [(c.req.id, v.1, v.2)]) ∧
  (∀ (s : State) (b : Launch), s.tx.queue = [b] → b.coexOn = false → s.role = .standalone → s.tx.coexEnable = true →
      exec .coexRequestAssert s = .next { s with
        now := max s.now (max b.admittedAt (s.launchAt b - b.coexLead * 384000))
        tx := { s.tx with queue := [{ b with coexOn := true }] }
        pins := { s.pins with coexReq := true, coexPri := b.req.coexPri } }) ∧
  (∀ (s : State) (b : Launch), s.tx.queue = [b] → b.phase.committed = false → s.now ≤ s.launchAt b - 23 * 384000 →
      ∃ u, exec .calYield s = .next u ∧ u.now = s.launchAt b - 23 * 384000 ∧ (u.cal.kind 3).stopAt = u.now ∧
        (u.cal.kind 4).stopAt = u.now ∧ (u.cal.kind 8).stopAt = u.now ∧ { u with now := s.now, cal := s.cal } = s) ∧
  (∀ (s : State) (b : Launch), s.tx.queue = [b] → b.phase.committed = false → s.now ≤ s.launchAt b - 20 * 384000 →
      s.radio.base ≠ .standby →
      exec .txStateEntry s = .next ({ s with
        now := s.launchAt b - 20 * 384000
        radio := { s.radio with wantTx := true, lingerFrom := none } } : State).pursue) ∧
  (∀ (s : State) (t : Nat) (b : Launch), s.tx.queue = [b] → b.phase = .prepared → s.launchReady = true →
      s.radio.readySince ≤ s.launchAt b - 12 * 384000 → s.halo.slots = [] →
      ∃ u, exec (.launchDecision t) s = .next u ∧
        u.tx.queue = [{ b with phase := .decided, fixed := some (s.launchAt b), delay := 0 }] ∧
        { u with now := s.now, tx := s.tx } = s) ∧
  (∀ (s : State) (t : Nat) (b : Launch), s.tx.queue = [b] → b.phase = .prepared → s.launchReady = false → s.role = .standalone →
      s.launchAt b - 12 * 384000 + b.req.tolUs * 384000 ≤ t →
      ∃ u, exec (.launchDecision t) s = .next u ∧ u.tx.queue = [] ∧
        u.tx.outcomes.map (fun o => (o.id, o.outcome, o.cause)) =
          s.tx.outcomes.map (fun o => (o.id, o.outcome, o.cause)) ++
            [(b.req.id, 1, if s.calHolds = true then 0x03 else 0x02)]) ∧
  (∀ (s : State) (b : Launch), s.tx.queue = [b] → b.phase.committed = true → b.lines = none →
      exec .trswTransmit s = .next { s with
        now := max s.now (s.launchAt b - s.path.trswLead * 38400)
        tx := { s.tx with queue := [{ b with lines := some (s.path.trswLead * 38400, s.path.trswLag * 38400,
          s.path.rxBlank * 38400, s.quadrants) }] }
        pins := { s.pins with trsw := s.pins.trsw ||| s.quadrants } }) ∧
  (∀ (s : State) (b : Launch) (busy : Bool), s.tx.queue = [b] → b.phase = .decided → s.role = .standalone →
      s.tx.coexEnable = true →
      ∃ u, exec (.coexGrantSample false busy) s = .next u ∧ u.tx.queue = [] ∧ u.pins.coexReq = false ∧
        u.tx.outcomes.map (fun o => (o.id, o.outcome, o.cause)) =
          s.tx.outcomes.map (fun o => (o.id, o.outcome, o.cause)) ++ [(b.req.id, 5, 0x40)]) ∧
  (∀ (s : State) (b : Launch) (busy : Bool), s.tx.queue = [b] → b.phase = .decided → s.tx.busyMode = false →
      ∃ u, exec (.coexGrantSample true busy) s = .next u ∧ u.tx.queue = [{ b with phase := .granted }] ∧ u.tx.gnt = true ∧
        u.tx.busy = busy ∧ { u with now := s.now, tx := s.tx } = s) ∧
  (∀ (s : State) (b : Launch) (x : Nat × Nat × Nat) (q : BitVec 4), s.tx.queue = [b] → b.phase = .granted →
      b.lines = some (x.1, x.2.1, x.2.2, q) → s.thermal.trip = false → s.thermal.rateTrip = false →
      ∃ u, exec .burstLaunch s = .next u ∧ u.now = max s.now (s.launchAt b) ∧ u.pins.paen = s.pins.paen ||| q ∧
        u.tx.queue = [{ b with phase := .frame }] ∧
        { u with now := s.now, tx := s.tx, pins := s.pins, beam := s.beam, dpd := s.dpd } = s) ∧
  (∀ (s : State) (b : Launch), s.tx.queue = [b] → b.phase = .granted → s.thermal.trip = true → s.role = .standalone →
      ∃ u, exec .burstLaunch s = .next u ∧ u.tx.queue = [] ∧ u.pins.paen = s.pins.paen ∧
        u.tx.outcomes.map (fun o => (o.id, o.outcome, o.cause)) =
          s.tx.outcomes.map (fun o => (o.id, o.outcome, o.cause)) ++ [(b.req.id, 8, 0x71)]) ∧
  (∀ (s : State) (b : Launch), s.tx.queue = [b] → b.phase = .frame →
      exec .frameEnd s = .next { s with
        now := max s.now (s.frameEnd b)
        tx := { s.tx with queue := [{ b with phase := .rampDown, downAt := some (s.frameEnd b) }] } }) ∧
  (∀ (s : State) (b : Launch) (x : BurstStats), s.tx.queue = [b] → b.phase = .rampDown → s.role = .standalone →
      b.abort = none →
      ∃ u, exec (.burstRampDownEnd x) s = .next u ∧ u.tx.queue = [] ∧ u.pins.paen = 0#4 ∧
        u.tx.outcomes.map (fun o => (o.id, o.outcome, o.cause, o.radiatedNs)) =
          s.tx.outcomes.map (fun o => (o.id, o.outcome, o.cause, o.radiatedNs)) ++
            [(b.req.id, 0, 0, (roundDiv ((s.t4 b - s.launchAt b : Nat) : Int) 384).toNat)] ∧
        Tab.get u.tx.counts 0 0 = wrapAdd 32 (Tab.get s.tx.counts 0 0) 1) ∧
  (∀ (s : State) (x : BurstTail), s.tx.tails = [x] → x.returned = false → s.tx.queue = [] → s.radio.pending = none →
      s.radio.wantTx = false →
      exec .trswReturn s = .next { s with
        now := max s.now x.t5
        tx := { s.tx with tails := [{ x with returned := true }] }
        pins := { s.pins with trsw := 0#4 } }) ∧
  (∀ (s : State) (x : BurstTail), s.tx.tails = [x] → x.returned = true →
      exec .rxBlankEnd s = .next { s with now := max s.now x.t6, tx := { s.tx with tails := [] } }) ∧
  (∀ (s : State) (t5 : Nat), s.radio.wantTx = true → s.radio.lingerFrom = some t5 → s.tx.queue = [] → s.radio.pending = none →
      exec .txLingerExpiry s = .next ({ s with radio := { s.radio with wantTx := false, lingerFrom := none } } : State).pursue) ∧
  (∀ (s : State) (t5 : Nat) (b : Launch), s.radio.wantTx = true → s.radio.lingerFrom = some t5 → s.tx.queue = [b] →
      s.launchAt b - 20 * 384000 ≤ t5 + s.radio.linger * 384000 → exec .txLingerExpiry s = .next s) ∧
  (∀ (s : State) (t : Nat) (b : Launch), s.tx.queue = [b] → b.phase = .frame → s.role = .standalone → s.tx.coexEnable = true →
      ∃ u, exec (.coexWithdrawal t false) s = .next u ∧ u.now = max s.now t ∧
        u.tx.queue = [{ b with phase := .rampDown, downAt := some (max s.now t), abort := some (7, 0x60) }]) ∧
  (∀ (s : State) (t : Nat) (busy : Bool), s.tx.coexEnable = false →
      exec (.coexWithdrawal t busy) s = .next (s.advance t)) ∧
  (∀ s : State, s.boot.ready = true →
      ∃ u, exec .dutyHistorySave s = .next u ∧ u.tx.dutySavedAt = s.tx.dutySavedAt + 384000000000 ∧
        u.now = max s.now u.tx.dutySavedAt ∧ { u with now := s.now, tx := s.tx, nv := s.nv } = s) ∧
  (∀ s : State, s.boot.ready = false → exec .dutyHistorySave s = .next s)

/-- The pre-distorter's modes and tables, adaptation captures, solutions, the revert and the stale event.
DPD_SET_MODE leaves the mode of the paths named for their next burst and sets the device-wide settings; DPD_LOAD_TABLES
writes one branch into the pending set, eligible only with APPLY, and ends WRONG_STATE on a path in ADAPT; the active tables
do not move. A launch activates what is pending for the paths that take part and for no other. A capture of the selection's
own paths keeps their NMSE and gives the selection back; a solution of SNAP_COUNT captures becomes an eligible pending set;
a mean worse by more than 1.0 dB puts the previous tables back and raises EV_DPD_REVERT; EV_DPD_STALE is raised once. With
identity tables the output of the pre-distorter is its input. Rules: R258 (in part), R259 (in part), R260 (in part), R261
(in part), R262 (in part), R263 (in part), R264 (in part), R265 (in part), R278 (in part), 10_predistortion_and_aerials.md
Table DPD-4. -/
def Obligations.PreDistortion : Prop :=
  (∀ (s : State) (r : Running), Runs s r specDpdSetMode → u8 r.cmd.payload 8 ≤ 2 → 4 ≤ u8 r.cmd.payload 9 →
      u8 r.cmd.payload 9 ≤ 64 → 20 ≤ u16 r.cmd.payload 0xA → u16 r.cmd.payload 0xA ≤ 200 → 100 ≤ u16 r.cmd.payload 0xC →
      u16 r.cmd.payload 0xC ≤ 60000 → u8 r.cmd.payload 0xE ≤ 60 →
      (∀ k : Fin 4, u8 r.cmd.payload (0x10 + k) ≤ 7) →
      ∃ t, exec .dpdSetMode s = .next (s.close specDpdSetMode r (.ok t [])) ∧
        (∀ p : Fin 64, t.dpd.path p = { s.dpd.path p with modeNext :=
          (if (mask64 r.cmd.payload 0).getLsbD p = true then some (u8 r.cmd.payload 8) else (s.dpd.path p).modeNext) }) ∧
        t.dpd.snapCount = u8 r.cmd.payload 9 ∧ t.dpd.captureUs = u16 r.cmd.payload 0xA ∧
        t.dpd.staleMs = u16 r.cmd.payload 0xC ∧ t.dpd.peakExp = u8 r.cmd.payload 0xE ∧ t.dpd.envDelay = s.dpd.envDelay ∧
        t.dpd.envNext = some ((List.range 4).map (fun k => u8 r.cmd.payload (0x10 + k))) ∧ { t with dpd := s.dpd } = s) ∧
  (∀ (s : State) (r : Running), Runs s r specDpdLoadTables → u8 r.cmd.payload 0 ≤ 63 → u8 r.cmd.payload 1 ≤ 3 →
      (s.dpd.path (u8 r.cmd.payload 0)).mode ≠ 2 →
      ∃ t, exec .dpdLoadTables s = .next (s.close specDpdLoadTables r (.ok t [])) ∧
        (t.dpd.path (u8 r.cmd.payload 0)).tables = (s.dpd.path (u8 r.cmd.payload 0)).tables ∧
        (t.dpd.path (u8 r.cmd.payload 0)).mode = (s.dpd.path (u8 r.cmd.payload 0)).mode ∧
        (u8 r.cmd.payload 2 % 2 = 1 → (t.dpd.path (u8 r.cmd.payload 0)).eligible = true) ∧
        (∀ (m : Fin 4) (i : Fin 64), (t.dpd.path (u8 r.cmd.payload 0)).pending.map (fun x => (tableOf x (4 * u8 r.cmd.payload 1 + m)).getD i Cplx.zero) =
          some ⟨s16 r.cmd.payload (8 + 256 * m + 4 * i), s16 r.cmd.payload (10 + 256 * m + 4 * i)⟩) ∧
        (∀ q : Fin 64, q.val ≠ u8 r.cmd.payload 0 → t.dpd.path q = s.dpd.path q) ∧ { t with dpd := s.dpd } = s) ∧
  (∀ (s : State) (r : Running), Runs s r specDpdLoadTables → u8 r.cmd.payload 0 ≤ 63 → u8 r.cmd.payload 1 ≤ 3 →
      (s.dpd.path (u8 r.cmd.payload 0)).mode = 2 → exec .dpdLoadTables s = .next (s.respond r ⟨8, []⟩)) ∧
  (∀ (s : State) (r : Running), Runs s r specDpdReadTables → u8 r.cmd.payload 0 ≤ 63 → u8 r.cmd.payload 1 ≤ 3 →
      ∃ g, exec .dpdReadTables s = .next (s.close specDpdReadTables r (.ok s (bytesAt r.cmd.payload 0 2 ++ zeros 6 ++ g))) ∧
        (s.dpd.paths = [] → g.length = 1024 ∧ (∀ i : Fin 256, s16 g (4 * i) =
          (if u8 r.cmd.payload 1 = 0 ∧ i.val < 64 then 16384 else 0)))) ∧
  (∀ (s : State) (r : Running), Runs s r specDpdGetStatus →
      ∃ t p, exec .dpdGetStatus s = .next (s.close specDpdGetStatus r (.ok t p)) ∧ p.length = 0x404 ∧
        (∀ k : Fin 64, u8 p (16 * k) = (s.dpd.path k).mode % 256 ∧ u8 p (16 * k + 1) = (s.dpd.path k).mismatch.code ∧
          u16 p (16 * k + 2) = min (s.dpd.path k).sat 65535 ∧ t.dpd.path k = { s.dpd.path k with sat := 0 }) ∧
        u8 p 0x400 = s.dpd.selection % 256 ∧ { t with dpd := s.dpd, free := s.free } = s) ∧
  (∀ (s : State) (p : Fin 64) (x : DpdTables), s.burstInProgress = false → s.path.txMask.getLsbD p = true →
      (s.dpd.path p).pending = some x → (s.dpd.path p).eligible = true →
      (s.activateDpd.dpd.path p).tables = x ∧ (s.activateDpd.dpd.path p).pending = none ∧
        (s.activateDpd.dpd.path p).previous = (s.dpd.path p).tables) ∧
  (∀ (s : State) (p : Fin 64), s.path.txMask.getLsbD p = false → s.activateDpd.dpd.path p = s.dpd.path p) ∧
  (∀ s : State, s.burstInProgress = true → s.activateDpd = s) ∧
  (∀ (s : State) (t : Nat) (p : Fin 64) (v : Int) (b : Launch), s.path.obsOwner = some .dpd → s.tx.queue = [b] → s.now ≤ t →
      b.phase = .frame → s.launchAt b + b.tr + s.dpd.captureUs * 384000 ≤ t → t ≤ s.frameEnd b →
      s.path.obsSince + (2 + s.dpd.captureUs) * 384000 ≤ t → t ≤ s.path.obsSince + 96000000 →
      (s.advance t).adapts p = true → p.val % 4 = s.dpd.selection → (s.dpd.path p).nmseBefore = none →
      s.dpd.taken + 1 < s.dpd.snapCount →
      ∃ u, exec (.dpdAdaptCapture t [(p.val, v)]) s = .next u ∧ (u.dpd.path p).captures = (s.dpd.path p).captures + 1 ∧
        (u.dpd.path p).nmse = (v :: (s.dpd.path p).nmse).take 64 ∧ (u.dpd.path p).tables = (s.dpd.path p).tables ∧
        u.dpd.taken = s.dpd.taken + 1 ∧ u.dpd.selection = s.dpd.selection ∧ u.path.obsOwner = none ∧
        { u with now := s.now, dpd := s.dpd, path := s.path, halo := s.halo } = s) ∧
  (∀ (s : State) (t : Nat) (x : List (Nat × Int)), s.path.obsOwner = none →
      exec (.dpdAdaptCapture t x) s = .next (s.advance t)) ∧
  (∀ (s : State) (t : Nat) (p : Fin 64) (tabs : List (List Cplx)) (f : Int), (s.dpd.path p).mode ≠ 2 →
      exec (.dpdSolveDone t p tabs f) s = .next (s.advance t)) ∧
  (∀ (s : State) (t : Nat) (p : Fin 64) (tabs : List (List Cplx)) (f : Int), (s.dpd.path p).mode = 2 →
      s.dpd.snapCount ≤ (s.dpd.path p).captures → s.dpd.window = none → s.dpd.excluded = 0#64 →
      s.spare.txRetired.getLsbD p = false → s.thermal.throttle = false →
      ∃ u, exec (.dpdSolveDone t p tabs f) s = .next u ∧ (u.dpd.path p).captures = 0 ∧
        (u.dpd.path p).tables = (s.dpd.path p).tables ∧
        ((u.dpd.path p).pending = (s.dpd.path p).pending ∨ (u.dpd.path p).eligible = true ∧ (u.dpd.path p).adapted = true) ∧
        (∀ q : Fin 64, q ≠ p → u.dpd.path q = s.dpd.path q) ∧ { u with now := s.now, dpd := s.dpd } = s) ∧
  (∀ (s : State) (p : Nat) (v b : Int), s.dpd.snapCount = (s.dpd.path p).since + 1 → (s.dpd.path p).nmseBefore = some b →
      (s.dpd.path p).nmse = List.replicate (s.dpd.path p).since v → b + 100 < v → p < 64 →
      ((s.noteCapture p v).dpd.path p).pending = some (s.dpd.path p).previous ∧
        ((s.noteCapture p v).dpd.path p).eligible = true ∧
        ((s.noteCapture p v).dpd.path p).reverted = satAdd 16 (s.dpd.path p).reverted 1) ∧
  (∀ (s : State) (t : Nat) (p : Fin 64), (s.dpd.path p).mode = 2 → (s.dpd.path p).staleTold = false →
      s.dpd.staleMs * 384000000 ≤ (s.dpd.path p).age → s.tx.queue = [] →
      ∃ u : State, u = (s.advance t).setDpd p (fun d => { d with staleTold := true }) ∧
        exec (.dpdStale t p) s = .next (u.raiseEvent 0x0801 .warn
          (le 1 p ++ zeros 3 ++ leSat 4 ((s.dpd.path p).age / 384000000) ++ zeros 8))) ∧
  (∀ (s : State) (t : Nat) (p : Fin 64), (s.dpd.path p).staleTold = true → exec (.dpdStale t p) s = .next (s.advance t)) ∧
  (∀ (x : Cplx) (d : List Nat), x.i.natAbs ≤ 32767 → x.q.natAbs ≤ 32767 → predistort [] d [x] = (x, false))

/-- Mismatch judgement, tuner maps and windows, and RFFE transactions.
A path moves at most one mismatch state per judgement at the thresholds of Table DPD-1; DERATE puts 6 dB on top of its base
attenuation, at most 15, and RETIRED retires it from transmit. The commands set measurement and the tuner map, open one
window not earlier than 1 ms, cancel it, write codes only inside it, and put a host transaction at the end of its bus. START
excludes the covered paths and reads every element; the end lifts the exclusion after 10 us, reports the changed paths and
asks for their calibration. A transaction that ends answers its command, with RFFE_PARITY where a read fails. Rules: R267
(in part), R268 (in part), R269 (in part), R270 (in part), R271 (in part), R272 (in part), R274 (in part), R275 (in part),
R276 (in part), R277 (in part), 10_predistortion_and_aerials.md Table DPD-1. -/
def Obligations.AerialsAndTuners : Prop :=
  (∀ (m : Mismatch) (rl : Int), (Mismatch.judge m rl).code ≤ m.code + 1 ∧ m.code ≤ (Mismatch.judge m rl).code + 1 ∧
      (m = .retired → Mismatch.judge m rl = .retired) ∧
      (m = .normal → (Mismatch.judge m rl = .warn ↔ rl < 950)) ∧
      (m = .warn → (Mismatch.judge m rl = .derate ↔ rl < 600) ∧ (Mismatch.judge m rl = .normal ↔ 1050 ≤ rl)) ∧
      (m = .derate → (Mismatch.judge m rl = .retired ↔ rl < 350) ∧ (Mismatch.judge m rl = .warn ↔ 700 ≤ rl))) ∧
  (∀ (s : State) (p : Nat), (s.attenAfter p true = min 15 (s.attenAfter p false + 6))) ∧
  (∀ (s : State) (p : Nat) (rl : Int), (s.dpd.path p).mismatch.judge rl = (s.dpd.path p).mismatch →
      s.judgeMismatch p rl = s) ∧
  (∀ (s : State) (p : Fin 64) (rl : Int), (s.dpd.path p).mismatch = .derate → rl < 350 → s.burstInProgress = false →
      s.spare.txRetired.getLsbD p = false →
      ((s.judgeMismatch p rl).dpd.path p).mismatch = .retired ∧ (s.judgeMismatch p rl).spare.txRetired.getLsbD p = true ∧
        (s.judgeMismatch p rl).path.txMask.getLsbD p = false ∧
        (s.judgeMismatch p rl).spare.rxRetired = s.spare.rxRetired) ∧
  (∀ (s : State) (t : Nat) (x : List (Nat × Int × Int)), s.path.obsOwner ≠ some .mismatch →
      exec (.mismatchMeasurement t x) s = .next (s.advance t)) ∧
  (∀ (s : State) (t : Nat), s.path.obsOwner = some .mismatch →
      ∃ u, exec (.mismatchMeasurement t []) s = .next u ∧ u.path.obsOwner = none ∧
        u.dpd.mismatchSel = (s.dpd.mismatchSel + 1) % 4 ∧ u.pins.obsdir = 0#1 ∧ u.dpd.paths = s.dpd.paths ∧
        { u with now := s.now, dpd := s.dpd, path := s.path, pins := s.pins, halo := s.halo } = s) ∧
  (∀ (s : State) (t : Nat) (p : Fin 64) (f v : Int), s.path.obsOwner = some .mismatch → p.val % 4 = s.dpd.mismatchSel →
      (s.advance t).tuning = 0#64 → (s.advance t).audible p = true →
      ∃ u, exec (.mismatchMeasurement t [(p.val, f, v)]) s = .next u ∧
        (u.dpd.path p).rl = ((obsDbm f (2 * Tab.get s.path.obsAtten (p.val / 4) 10) - obsDbm v (2 * s.dpd.revAtten) +
          Tab.get s.dpd.offsets p 0) :: (s.dpd.path p).rl).take 4 ∧ u.path.obsOwner = none) ∧
  (∀ (s : State) (r : Running), Runs s r specDpdSetMismatch → u8 r.cmd.payload 0 ≤ 1 → u8 r.cmd.payload 1 ≤ 15 →
      20 ≤ u16 r.cmd.payload 2 → u16 r.cmd.payload 2 ≤ 10000 → u8 r.cmd.payload 4 ≤ 26 →
      (∀ p : Fin 64, -2000 ≤ s16 r.cmd.payload (8 + 2 * p) ∧ s16 r.cmd.payload (8 + 2 * p) ≤ 2000) →
      ∃ t, exec .dpdSetMismatch s = .next (s.close specDpdSetMismatch r (.ok t [])) ∧
        t.dpd.mismatchOn = (u8 r.cmd.payload 0 == 1) ∧ t.dpd.revAtten = u8 r.cmd.payload 1 ∧
        t.dpd.periodMs = u16 r.cmd.payload 2 ∧
        t.dpd.sclkMHz = (if u8 r.cmd.payload 4 = 0 then s.dpd.sclkMHz else u8 r.cmd.payload 4) ∧
        (∀ p : Fin 64, Tab.get t.dpd.offsets p 0 = s16 r.cmd.payload (8 + 2 * p)) ∧ t.dpd.paths = s.dpd.paths ∧
        { t with dpd := s.dpd } = s) ∧
  (∀ (s : State) (r : Running), Runs s r specDpdSetTunerMap → u8 r.cmd.payload 0 = 1 →
      tunerOk (tunerAt r.cmd.payload 0) = true →
      exec .dpdSetTunerMap s = .next (s.close specDpdSetTunerMap r (.ok { s with dpd := { s.dpd with
        tuners := [tunerAt r.cmd.payload 0] } } []))) ∧
  (∀ (p : List Byte), u8 p 10 ≤ 4 → 
      tunerAt p 0 = (u8 p 8, (⟨u8 p 9, u8 p 11, (([0, 1, 2, 3] : List Nat).take (u8 p 10)).map (fun k => u8 p (12 + k)),
        (([0, 1, 2, 3] : List Nat).take (u8 p 10)).map (fun k => u8 p (16 + k))⟩ : Tuner))) ∧
  (∀ (s : State) (r : Running), Runs s r specDpdTuneWindow → u8 r.cmd.payload 0x12 / 4 % 2 = 0 →
      1 ≤ u16 r.cmd.payload 0x10 → u16 r.cmd.payload 0x10 ≤ 1000 →
      (∀ k : Fin 64, (mask64 r.cmd.payload 0).getLsbD k = true → Tab.find? s.dpd.tuners k.val ≠ none) →
      s.time.state ≠ .invalid → s.dpd.window = none →
      s.time.deviceAt (r.reached + 384000000) ≤ s.instantOf r.cmd.payload 8 →
      exec .dpdTuneWindow s = .next (s.close specDpdTuneWindow r (.ok { s with dpd := { s.dpd with window := (some
        { mask := mask64 r.cmd.payload 0, start := s.time.localOf (s.instantOf r.cmd.payload 8)
          durationMs := u16 r.cmd.payload 0x10, search := u8 r.cmd.payload 0x12 % 2 == 1
          dither := u8 r.cmd.payload 0x12 / 2 % 2 == 1, scheduled := true }) } } []))) ∧
  (∀ (s : State) (r : Running) (w : TuneWindow), Runs s r specDpdTuneWindow → u8 r.cmd.payload 0x12 / 4 % 2 = 0 →
      1 ≤ u16 r.cmd.payload 0x10 → u16 r.cmd.payload 0x10 ≤ 1000 → mask64 r.cmd.payload 0 = 0#64 → s.time.state ≠ .invalid →
      s.dpd.window = some w → exec .dpdTuneWindow s = .next (s.respond r ⟨1, []⟩)) ∧
  (∀ (s : State) (r : Running) (w : TuneWindow), Runs s r specDpdTuneWindow → u8 r.cmd.payload 0x12 / 4 % 2 = 1 →
      s.dpd.window = some w → w.opened = false →
      exec .dpdTuneWindow s = .next (s.close specDpdTuneWindow r (.ok { s with dpd := { s.dpd with window := none } } []))) ∧
  (∀ (s : State) (r : Running) (w : TuneWindow) (u : Tuner), Runs s r specDpdSetTuner → u8 r.cmd.payload 0 ≤ 63 →
      s.dpd.window = some w → w.opened = true → w.mask.getLsbD (u8 r.cmd.payload 0) = true →
      Tab.find? s.dpd.tuners (u8 r.cmd.payload 0) = some u → u.codeMax = [255] → u.regs.length = 1 →
      ∃ t, exec .dpdSetTuner s = .next (s.close specDpdSetTuner r (.ok t [])) ∧
        Tab.get t.dpd.buses (u8 r.cmd.payload 0 / 4) [] = Tab.get s.dpd.buses (u8 r.cmd.payload 0 / 4) [] ++
          [{ kind := 3, usid := u.usid, count := 1, address := u.regs.getD 0 0, data := bytesAt r.cmd.payload 4 1 }] ∧
        { t with dpd := s.dpd } = s) ∧
  (∀ (s : State) (r : Running), Runs s r specDpdSetTuner → u8 r.cmd.payload 0 ≤ 63 → s.dpd.window = none →
      s.dpd.tuners = [] → exec .dpdSetTuner s = .next (s.respond r ⟨0x0801, []⟩)) ∧
  (∀ (s : State) (r : Running), Runs s r specDpdRffeXfer → u8 r.cmd.payload 0 ≤ 15 → u8 r.cmd.payload 2 ≤ 15 →
      rffeOk (u8 r.cmd.payload 1) (u8 r.cmd.payload 3) (u16 r.cmd.payload 4) (u8 r.cmd.payload 8) = true →
      exec .dpdRffeXfer s = .next (s.close specDpdRffeXfer r (.later (s.rffe (u8 r.cmd.payload 0)
        { kind := u8 r.cmd.payload 1, usid := u8 r.cmd.payload 2, count := u8 r.cmd.payload 3
          address := u16 r.cmd.payload 4, data := bytesAt r.cmd.payload 8 (u8 r.cmd.payload 3), owner := some r.order })
        (bytesAt r.cmd.payload 0 6 ++ zeros 18)))) ∧
  (∀ (s : State) (w : TuneWindow), s.dpd.window = some w → w.opened = false →
      ∃ u, exec .tuneWindowStart s = .next u ∧ u.now = max s.now w.start ∧ u.dpd.excluded = w.mask ∧
        u.dpd.window.map (fun x => (x.opened, x.mask, x.start)) = some (true, w.mask, u.now) ∧
        (∀ p : Fin 64, w.mask.getLsbD p = true → (u.dpd.path p).captures = 0) ∧
        { u with now := s.now, dpd := s.dpd, beam := s.beam } = s) ∧
  (∀ (s : State) (t : Nat) (x : List (Nat × Int)), s.path.obsOwner ≠ some .mismatch →
      exec (.tunerTrial t x) s = .next (s.advance t)) ∧
  (∀ (s : State) (t : Nat) (w : TuneWindow), s.path.obsOwner = some .mismatch → s.dpd.window = some w → w.opened = true →
      w.search = true →
      ∃ u, exec (.tunerTrial t []) s = .next u ∧ u.path.obsOwner = none ∧ u.dpd.mismatchSel = (s.dpd.mismatchSel + 1) % 4 ∧
        u.dpd.window = some w) ∧
  (∀ (s : State) (t : Nat) (w : TuneWindow), s.dpd.window = some w → w.opened = true → w.search = false → w.fault = false →
      w.paths = [] → w.start + w.durationMs * 384000000 ≤ t →
      ∃ u, exec (.tuneWindowEnd t) s = .next u ∧ u.dpd.window = none ∧
        u.dpd.excludedEnd = some (u.now + 3840000) ∧ u.now = max s.now (w.start + w.durationMs * 384000000) ∧
        u.dpd.paths = s.dpd.paths ∧ u.path = s.path ∧ u.cal = s.cal) ∧
  (∀ (s : State) (t : Nat) (b : Fin 16) (x : RffeXfer) (l : List RffeXfer) (d : List Byte),
      Tab.get s.dpd.buses b [] = x :: l → x.owner = none → x.tunerRead = none →
      exec (.rffeTransactionDone t b d true) s = .next { s.advance t with dpd := { s.dpd with
        buses := Tab.set s.dpd.buses b l } }) ∧
  (∀ (s : State) (t : Nat) (b : Fin 16) (x : RffeXfer) (l : List RffeXfer) (r : Running) (q d : List Byte),
      Tab.get s.dpd.buses b [] = x :: l → x.tunerRead = none → x.owner = some r.order → s.cmd.running = [r] →
      r.phase = .deferred ⟨0, q⟩ → rffeReads x.kind = true →
      exec (.rffeTransactionDone t b d false) s = .next (({ s.advance t with dpd := { s.dpd with
        buses := Tab.set s.dpd.buses b l, parity := satAdd 16 s.dpd.parity 1 } } : State).respond r ⟨0x0802, []⟩))

/-- The commands of calibration and the corrections of a set.
CAL_RUN starts a run of every kind named that is not already running, over the paths named, and with ACTIVE_SYN holds the
active synthesiser; naming XDEV on a worker it ends NOT_PERMITTED. CAL_SET_SUPERVISOR and CAL_SET_COUPLER write their
parameters or end BAD_PARAM; the two status commands return the fields of Table CAL-5; CAL_STORE queues the set of the
active entry, or ends TEMP_RANGE or NO_ENTRY; CAL_RESTORE writes back the values before the last update of the kind and with
HOLD clears it from AUTO_MASK, and ends SET_INVALID on an empty slot with nothing changed; CAL_READ_SET returns the factory
sets, a whole stored set, or SET_INVALID (the model's reading, log 1104). With X_d unity the receive correction at step 15
is C_BASE. Rules: R286 (in part), R288 (in part), R290 (in part), R294 (in part), R296 (in part), R297 (in part), R298 (in
part), R299 (in part), 11_calibration.md Table CAL-5. -/
def Obligations.CalibrationCommands : Prop :=
  (∀ (s : State) (r : Running), Runs s r specCalRun → (s.isWorker = false ∨ u16 r.cmd.payload 0 / 512 % 2 = 0) →
      u8 r.cmd.payload 2 % 2 = 0 →
      ∃ t, exec .calRun s = .next (s.close specCalRun r (.ok t [])) ∧
        (∀ k : Fin 10, t.cal.kind k =
          (if (u16 r.cmd.payload 0).testBit k = true ∧ (s.cal.kind k).run = none then
            { s.cal.kind k with
              ran := true
              run := some { cause := 2, paths := mask64 r.cmd.payload 8, activeSyn := false, usefulAt := s.now } }
          else s.cal.kind k)) ∧
        { t with cal := { t.cal with kinds := s.cal.kinds } } = s) ∧
  (∀ (s : State) (r : Running), Runs s r specCalRun → u16 r.cmd.payload 0 = 64 → u8 r.cmd.payload 2 % 2 = 1 →
      (s.cal.kind 6).run = none → (s.radio.synth s.radio.active).setting = none →
      ∃ t, exec .calRun s = .next (s.close specCalRun r (.ok t [])) ∧ t.calHolds = true ∧
        { t with cal := { t.cal with kinds := s.cal.kinds } } = s) ∧
  (∀ (s : State) (r : Running), Runs s r specCalRun → s.role = .worker → u16 r.cmd.payload 0 / 512 % 2 = 1 →
      exec .calRun s = .next (s.respond r ⟨4, []⟩)) ∧
  (∀ (s : State) (r : Running), Runs s r specCalSetSupervisor → 10 ≤ u16 r.cmd.payload 2 → u16 r.cmd.payload 2 ≤ 3600 →
      60 ≤ u16 r.cmd.payload 4 → 10 ≤ u8 r.cmd.payload 6 → u8 r.cmd.payload 6 ≤ 30 →
      (∀ k : Fin 10, u8 r.cmd.payload (0x10 + 4 * k) ≤ 20) →
      ∃ t, exec .calSetSupervisor s = .next (s.close specCalSetSupervisor r (.ok t [])) ∧
        (∀ k : Fin 10, t.cal.autoMask.getLsbD k = (u16 r.cmd.payload 0).testBit k ∧
          Tab.get t.cal.deltaT k 4 = u8 r.cmd.payload (0x10 + 4 * k) ∧
          Tab.get t.cal.intervalS k 3600 = u16 r.cmd.payload (0x12 + 4 * k)) ∧
        t.cal.starveS = u16 r.cmd.payload 2 ∧ t.cal.storeIntervalS = u16 r.cmd.payload 4 ∧
        t.cal.xdevSnrMin = u8 r.cmd.payload 6 ∧ t.cal.kinds = s.cal.kinds ∧ t.cal.channel = s.cal.channel ∧
        { t with cal := s.cal } = s) ∧
  (∀ (s : State) (r : Running) (k : Fin 10), Runs s r specCalSetSupervisor → 20 < u8 r.cmd.payload (0x10 + 4 * k) →
      exec .calSetSupervisor s = .next (s.respond r ⟨3, []⟩)) ∧
  (∀ (s : State) (r : Running), Runs s r specCalGetStatus → (∀ k : Fin 10, (s.cal.kind k).updatedAt ≠ none) →
      ∃ p, exec .calGetStatus s = .next (s.close specCalGetStatus r (.ok s p)) ∧ p.length = 0xB0 ∧
        (∀ k : Fin 10, u8 p (16 * k) = s.cal.stateOf k ∧ u8 p (16 * k + 1) = (s.cal.kind k).source % 256 ∧
          u16 p (16 * k + 2) = (s.cal.kind k).updates % 65536 ∧
          (∀ a, (s.cal.kind k).updatedAt = some a → u32 p (16 * k + 4) = (s.now - a) / 384000000000 % 2 ^ 32) ∧
          u16 p (16 * k + 0xA) = min (s.cal.kind k).residual 65535 ∧ u16 p (16 * k + 0xC) = min (s.cal.kind k).sigma 65535 ∧
          u16 p (16 * k + 0xE) = (s.cal.kind k).starved % 65536) ∧
        u16 p 0xA0 = (s.cal.entry.getD 0xFFFF) % 65536 ∧
        u8 p 0xA2 = (if s.role = .manager then (if s.cal.xdevConverged = true then 1 else 0) else 2)) ∧
  (∀ (s : State) (r : Running), Runs s r specCalGetPathStats →
      ∃ p, exec .calGetPathStats s = .next (s.close specCalGetPathStats r (.ok s p)) ∧ p.length = 0x480 ∧
        (∀ k : Fin 64, u16 p (16 * k) = min (Tab.get s.cal.stats k {}).phaseSigma 65535 ∧
          u16 p (16 * k + 2) = min (Tab.get s.cal.stats k {}).gainSigma 65535 ∧
          s16 p (16 * k + 4) = satSym 16 (Tab.get s.cal.stats k {}).phaseStep ∧
          u16 p (16 * k + 8) = min (Tab.get s.cal.stats k {}).rxImage 65535 ∧
          u16 p (16 * k + 0xA) = min (Tab.get s.cal.stats k {}).txLeak 65535 ∧
          u16 p (16 * k + 0xE) = min (Tab.get s.cal.stats k {}).dc 65535) ∧
        (s.role ≠ .manager → ∀ d : Fin 128, u8 p (0x400 + d) = 0)) ∧
  (∀ (s : State) (r : Running), Runs s r specCalSetCoupler →
      (∀ p : Fin 64, -18000 ≤ s16 r.cmd.payload (2 * p) ∧ s16 r.cmd.payload (2 * p) ≤ 18000) →
      ∃ t, exec .calSetCoupler s = .next (s.close specCalSetCoupler r (.ok { s with cal := { s.cal with coupler := t } } [])) ∧
        (∀ p : Fin 64, Tab.get t p 0 = s16 r.cmd.payload (2 * p))) ∧
  (∀ (s : State) (r : Running) (p : Fin 64), Runs s r specCalSetCoupler → 18000 < s16 r.cmd.payload (2 * p) →
      exec .calSetCoupler s = .next (s.respond r ⟨3, []⟩)) ∧
  (∀ (s : State) (r : Running), Runs s r specCalStore → (s.thermal.tj < 0 ∨ 10000 < s.thermal.tj) →
      exec .calStore s = .next (s.respond r ⟨6, []⟩)) ∧
  (∀ (s : State) (r : Running), Runs s r specCalStore → 0 ≤ s.thermal.tj → s.thermal.tj ≤ 10000 → s.cal.entry = none →
      u8 r.cmd.payload 0 % 2 = 1 → exec .calStore s = .next (s.respond r ⟨0x0902, []⟩)) ∧
  (∀ (s : State) (r : Running) (e : Nat), Runs s r specCalStore → 0 ≤ s.thermal.tj → s.thermal.tj ≤ 10000 →
      s.cal.entry = some e → u8 r.cmd.payload 0 = 1 →
      exec .calStore s = .next (s.close specCalStore r (.later
        { s with nv := { s.nv with queue := s.nv.queue ++
          [{ record := .calChannel e, data := s.sealChannel e, owner := some r.order }] } } []))) ∧
  (∀ (s : State) (r : Running), Runs s r specCalRestore → u8 r.cmd.payload 0 = 1 → u16 r.cmd.payload 4 ≤ 255 →
      u16 r.cmd.payload 2 / 8 % 2 = 1 → Tab.find? s.nv.calChannel (u16 r.cmd.payload 4) = none →
      exec .calRestore s = .next (s.respond r ⟨0x0901, []⟩)) ∧
  (∀ (s : State) (r : Running) (b old : List Byte) (o : Nat), Runs s r specCalRestore → u8 r.cmd.payload 0 = 2 →
      u8 r.cmd.payload 1 % 2 = 1 → u16 r.cmd.payload 2 = 8 → (s.cal.kind 3).updatedAt ≠ none → s.cal.channel = some b →
      (s.cal.kind 3).before = [(o, old)] →
      ∃ t, exec .calRestore s = .next (s.close specCalRestore r (.ok t [])) ∧ t.cal.channel = some (patch b o old) ∧
        t.cal.autoMask = s.cal.autoMask &&& ~~~8#10 ∧ (t.cal.kind 3).source = 3 ∧ (t.cal.kind 3).stopAt = s.now ∧
        (∀ k : Fin 10, k.val ≠ 3 → t.cal.kind k = s.cal.kind k) ∧
        { t with cal := s.cal } = s) ∧
  (∀ (s : State) (r : Running), Runs s r specCalReadSet → u8 r.cmd.payload 0 = 2 → u16 r.cmd.payload 2 ≤ 255 →
      exec .calReadSet s = .next (s.close specCalReadSet r (.ok s Config.factoryChannelSet))) ∧
  (∀ (s : State) (r : Running), Runs s r specCalReadSet → u8 r.cmd.payload 0 = 3 → u16 r.cmd.payload 2 ≤ 15 →
      exec .calReadSet s = .next (s.close specCalReadSet r (.ok s (Config.factoryStepSet (u16 r.cmd.payload 2))))) ∧
  (∀ (s : State) (r : Running), Runs s r specCalReadSet → u8 r.cmd.payload 0 = 0 → u16 r.cmd.payload 2 ≤ 255 →
      Tab.find? s.nv.calChannel (u16 r.cmd.payload 2) = none → exec .calReadSet s = .next (s.respond r ⟨0x0901, []⟩)) ∧
  (∀ (s : State) (r : Running) (b : List Byte), Runs s r specCalReadSet → u8 r.cmd.payload 0 = 1 → u16 r.cmd.payload 2 ≤ 15 →
      Tab.find? s.nv.calStep (u16 r.cmd.payload 2) = some b → s.nv.bad.contains (.calStep (u16 r.cmd.payload 2)) = false →
      exec .calReadSet s = .next
        (if setValid 576 1 b = true then s.close specCalReadSet r (.ok s b) else s.respond r ⟨0x0901, []⟩)) ∧
  (∀ (c : Cal) (b : List Byte) (p : Fin 64), c.channel = some b → c.xd = ⟨16384, 0⟩ →
      s16 b (0x30 + 24 * p) ≠ -32768 → s16 b (0x32 + 24 * p) ≠ -32768 →
      c.rxCorr p 15 = ⟨s16 b (0x30 + 24 * p), s16 b (0x32 + 24 * p)⟩)

/-- What the supervisor does: steps, triggers, starvation, cross-device snapshots and automatic stores.
A trim moves towards the estimate by at most four steps and within its range. A step whose measurement was disturbed writes
nothing; one that is kept writes the trims of its unit in the set in force and nothing of the other kinds, and one that has
settled ends the run with EV_CAL_DONE. A SYN step leaves the active synthesiser alone unless the host asked for it. A
trigger starts a run of cause 0 or 1 once the temperature has moved by more than DELTA_T or INTERVAL_S has passed; STARVE_S
without a usable step ends the run with the trims in force and raises EV_CAL_STARVED, at most once per STARVE_S. A snapshot
counts only with status OK, inside the air interval and at XDEV_SNR_MIN or above; convergence below 1 degree over at least 8
packets schedules the COHERENCE swap. Converged sets that differ are queued for storage. Rules: R282 (in part), R283 (in
part), R284 (in part), R286 (in part), R287 (in part), R291 (in part), R292 (in part), R293 (in part), R296 (in part), R299
(in part), R300 (in part), 11_calibration.md Tables CAL-2 and CAL-7. -/
def Obligations.CalibrationRuns : Prop :=
  (∀ (k : Fin 10) (old new : Int), k.val ≠ 2 → -(trimLimit k) ≤ old → old ≤ trimLimit k →
      old - 4 ≤ trimToward k old new ∧ trimToward k old new ≤ old + 4 ∧ -(trimLimit k) ≤ trimToward k old new ∧
        trimToward k old new ≤ trimLimit k ∧
        (-(trimLimit k) ≤ new → new ≤ trimLimit k → old - 4 ≤ new → new ≤ old + 4 → trimToward k old new = new)) ∧
  (∀ (s : State) (t : Nat) (k : Fin 10) (x : CalStep), k.val ≤ 2 → (s.cal.kind k).run = none →
      exec (.calStepComplete t k x) s = .next (s.advance t)) ∧
  (∀ (s : State) (t : Nat) (k : Fin 10) (x : CalStep), k.val ≤ 2 →
      (x.since ≤ s.cal.disturbedAt ∨ x.since ≤ (s.cal.kind k).stopAt) →
      exec (.calStepComplete t k x) s = .next (s.advance t)) ∧
  (∀ (s : State) (t : Nat) (x : CalStep) (r : CalRun) (b : List Byte) (p : Fin 64) (i q : Int), (s.cal.kind 1).run = some r →
      r.paths.getLsbD p = true → s.cal.channel = some b → b.length = 1664 → x.writes = [(p.val, i, q)] → x.figures = [] →
      x.settled = false → s.tx.queue = [] → s.tx.blanked = [] → (s.advance t).stepKept 1 x = true →
      ∃ u, exec (.calStepComplete t 1 x) s = .next u ∧ u.cal.channelBytes.length = 1664 ∧
        s16 u.cal.channelBytes (0x20 + 24 * p) = trimToward 1 (s16 b (0x20 + 24 * p)) i ∧
        s16 u.cal.channelBytes (0x22 + 24 * p) = trimToward 1 (s16 b (0x22 + 24 * p)) q ∧
        (∀ o : Fin 1664, (o.val < 0x20 + 24 * p ∨ 0x24 + 24 * p ≤ o.val) → u8 u.cal.channelBytes o = u8 b o) ∧
        (u.cal.kind 1).updates = min 65535 ((s.cal.kind 1).updates + 1) ∧ (u.cal.kind 1).source = 2 ∧
        (u.cal.kind 1).updatedAt = some u.now ∧ (u.cal.kind 1).residual = x.residual ∧ (u.cal.kind 1).sigma = x.sigma ∧
        (u.cal.kind 1).run = some { r with usefulAt := u.now } ∧
        (∀ j : Fin 10, j.val ≠ 1 → u.cal.kind j = s.cal.kind j) ∧ u.cal.steps = s.cal.steps ∧
        { u with now := s.now, cal := s.cal } = s) ∧
  (∀ (s : State) (t : Nat) (x : CalStep) (r : CalRun), (s.cal.kind 0).run = some r → x.writes = [] → x.figures = [] →
      x.settled = true → (s.advance t).stepKept 0 x = true →
      ∃ u : State, exec (.calStepComplete t 0 x) s = .next (u.raiseEvent 0x0901 .info (le 1 0 ++ le 1 0 ++ leSat 2 x.residual ++
          leSat 2 x.sigma ++ le 1 r.cause ++ zeros 9)) ∧
        (u.cal.kind 0).run = none ∧ (u.cal.kind 0).converged = true ∧ (u.cal.kind 0).runAt = some (u.now, s.thermal.tj) ∧
        u.cal.channel = s.cal.channel ∧ u.cal.steps = s.cal.steps ∧ u.now = max s.now t) ∧
  (∀ (s : State) (a b : Int), (s.synStep false [(s.radio.active, a, b)]).1 = s) ∧
  (∀ (s : State) (t : Nat) (k : Fin 10), (s.cal.kind k).runAt = none → exec (.calRunTrigger t k) s = .next (s.advance t)) ∧
  (∀ (s : State) (t : Nat) (k : Fin 10) (a : Nat) (tj : Int), (s.cal.kind k).runAt = some (a, tj) → k.val ≠ 9 →
      Tab.get s.cal.deltaT k 4 ≠ 0 → s.cal.auto k = true → (s.cal.kind k).run = none →
      100 * Tab.get s.cal.deltaT k 4 < (s.thermal.tj - tj).natAbs →
      ∃ u, exec (.calRunTrigger t k) s = .next u ∧
        u.cal.kind k = { s.cal.kind k with
          ran := true
          run := some { cause := 0, paths := s.path.rxMask ||| s.path.txMask, activeSyn := false, usefulAt := u.now } } ∧
        (∀ j : Fin 10, j ≠ k → u.cal.kind j = s.cal.kind j) ∧
        { u with now := s.now, cal := { u.cal with kinds := s.cal.kinds } } = s) ∧
  (∀ (s : State) (t : Nat) (k : Fin 10) (a : Nat) (tj : Int), (s.cal.kind k).runAt = some (a, tj) → k.val ≠ 9 →
      (s.thermal.tj - tj).natAbs ≤ 100 * Tab.get s.cal.deltaT k 4 → Tab.get s.cal.intervalS k 3600 ≠ 0 →
      s.cal.auto k = true → (s.cal.kind k).run = none → s.now ≤ t →
      ∃ u, exec (.calRunTrigger t k) s = .next u ∧
        (u.cal.kind k).run = (if a + Tab.get s.cal.intervalS k 3600 * 384000000000 ≤ t then
          some { cause := 1, paths := s.path.rxMask ||| s.path.txMask, activeSyn := false, usefulAt := t } else none)) ∧
  (∀ (s : State) (k : Fin 10) (l : Fin 4), (s.cal.kind k).run = none → exec (.calStarved k l) s = .next s) ∧
  (∀ (s : State) (k : Fin 10) (l : Fin 4) (r : CalRun) (a : Nat), (s.cal.kind k).run = some r →
      (s.cal.kind k).starvedAt = none → (s.cal.kind k).updatedAt = some a →
      ∃ u : State, exec (.calStarved k l) s = .next (u.raiseEvent 0x0903 .warn (le 1 k ++ le 1 l ++ zeros 2 ++
          le 4 ((u.now - a) / 384000000000) ++ zeros 8)) ∧
        u.now = max s.now (r.usefulAt + s.cal.starveS * 384000000000) ∧ (u.cal.kind k).run = none ∧
        (u.cal.kind k).starved = min 65535 ((s.cal.kind k).starved + 1) ∧ (u.cal.kind k).starvedAt = some u.now ∧
        (u.cal.kind k).converged = (s.cal.kind k).converged ∧ u.cal.channel = s.cal.channel ∧ u.cal.steps = s.cal.steps ∧
        (∀ j : Fin 10, j ≠ k → u.cal.kind j = s.cal.kind j)) ∧
  (∀ (s : State) (k : Fin 10) (l : Fin 4) (r : CalRun) (a : Nat), (s.cal.kind k).run = some r → r.activeSyn = false →
      (s.cal.kind k).starvedAt = some a →
      max s.now (r.usefulAt + s.cal.starveS * 384000000000) < a + s.cal.starveS * 384000000000 →
      ∃ u : State, exec (.calStarved k l) s = .next (u.raiseEvent 0x0901 .info (le 1 k ++ le 1 1 ++
          leSat 2 (s.cal.kind k).residual ++ leSat 2 (s.cal.kind k).sigma ++ le 1 r.cause ++ zeros 9)) ∧
        (u.cal.kind k).run = none ∧ (u.cal.kind k).starved = (s.cal.kind k).starved ∧
        { u with now := s.now, cal := { u.cal with kinds := s.cal.kinds } } = s) ∧
  (∀ (s : State) (t : Nat) (ok inside : Bool) (snr : Int) (span : Nat) (ps : List XdevPart),
      (s.role ≠ .manager ∨ ok = false ∨ inside = false ∨ snr < 100 * (s.cal.xdevSnrMin : Int)) →
      exec (.xdevSnapshotEval t ok snr inside span ps) s = .next (s.advance t)) ∧
  (∀ (s : State) (t : Nat) (snr : Int) (span : Nat) (p : XdevPart), s.role = .manager → s.joinedWorkers = [p.position] →
      100 * (s.cal.xdevSnrMin : Int) ≤ snr → (Tab.get s.cal.xdev p.position {}).packets < 7 →
      ∃ u, exec (.xdevSnapshotEval t true snr true span [p]) s = .next u ∧
        Tab.get u.cal.xdev p.position {} = (Tab.get s.cal.xdev p.position {}).add span p ∧
        u.cal.xdevPackets = s.cal.xdevPackets + 1 ∧ u.cal.xdevConverged = s.cal.xdevConverged ∧
        { u with now := s.now, cal := s.cal } = s) ∧
  (∀ (s : State) (t : Nat) (snr : Int) (span : Nat) (p : XdevPart), s.role = .manager → s.joinedWorkers = [p.position] →
      100 * (s.cal.xdevSnrMin : Int) ≤ snr → s.cal.xdevConverged = false → (s.cal.kind 9).run = none →
      s.beam.internal = none → s.beam.host = none →
      7 ≤ (Tab.get s.cal.xdev p.position {}).packets →
      ((Tab.get s.cal.xdev p.position {}).add span p).sigma < 1000 →
      ∃ u, exec (.xdevSnapshotEval t true snr true span [p]) s = .next u ∧ u.cal.xdevConverged = true ∧
        (u.cal.kind 9).converged = true ∧
        (Tab.get u.cal.xdev p.position {}).factor = ((Tab.get s.cal.xdev p.position {}).add span p).ratio ∧
        (∃ w, u.beam.internal = some w ∧ w.cause = 16 ∧ u.now + 76800000 ≤ w.instant) ∧
        u.beam.weights = s.beam.weights) ∧
  (∀ (s : State) (t : Nat), s.cal.entry = none → (s.cal.kind 0).converged = false →
      exec (.calAutoStore t) s = .next (s.advance t)) ∧
  (∀ (s : State) (t : Nat), s.cal.entry = none → (s.cal.kind 0).converged = true → s.nv.queue = [] →
      Tab.find? s.nv.calStep s.path.step = none → Tab.find? s.cal.storedAt (256 + s.path.step) = none →
      exec (.calAutoStore t) s = .next ((s.advance t).nvOwnWrite (.calStep s.path.step) (s.advance t).sealStep)) ∧
  (∀ (s : State) (t e a : Nat), s.cal.entry = some e → (∀ k : Fin 10, (s.cal.kind k).converged = true) → s.nv.queue = [] →
      Tab.find? s.nv.calChannel e = none → Tab.find? s.cal.storedAt e = some a → s.now ≤ t →
      a + s.cal.storeIntervalS * 384000000000 ≤ t → 0 ≤ s.thermal.tj → s.thermal.tj ≤ 10000 →
      ∃ u, exec (.calAutoStore t) s = .next u ∧
        u.nv.queue.head? = some { record := .calChannel e, data := (s.advance t).sealChannel e } ∧
        { u with now := s.now, nv := s.nv } = s)

/-- The commands of the cascade; hops that train, join, fail, break and rejoin; cut-off workers.
LCL_SET_CHAIN sets its parameters, queues EXPECTED for storage, and ends WRONG_STATE on a STANDALONE device, TEMP_RANGE
outside 0 to 100 degrees and CHAIN_BUSY while a hop trains; the other commands return the fields of Table LCL-6 or
NO_DEVICE; LCL_RETRAIN breaks the hop and trains it. A hop trains when the hop above it has joined; a device past the
configured length counts as EXTRA; a failed training, a missing heartbeat and 16 invalid headers break the hop, which cuts
off every position from the break down; a join makes the device at its lower end joined, counts as an acquisition on the
worker and leaves the manager own-only. A worker that loses its reverse link sends CUT; on receipt of CUT it is cut off. A
cut-off hop trains again by itself only with AUTO_REJOIN. Rules: R302 (in part), R310 (in part), R311 (in part), R314 (in
part), R322 (in part), R323 (in part), R324 (in part), R325 (in part), R326 (in part), R327 (in part), 12_lemila_cascade.md
Table LCL-6. -/
def Obligations.CascadeChain : Prop :=
  (∀ (s : State) (r : Running), Runs s r specLclSetChain → s.role = .manager → u8 r.cmd.payload 0 ≤ 16 →
      u8 r.cmd.payload 1 ≤ 1 → 10 ≤ u16 r.cmd.payload 2 → u16 r.cmd.payload 2 ≤ 10000 → 50 ≤ u16 r.cmd.payload 4 →
      u16 r.cmd.payload 4 ≤ 500 → 0 ≤ s.thermal.tj → s.thermal.tj ≤ 10000 → s.lcl.anyTraining = false →
      exec .lclSetChain s = .next (s.close specLclSetChain r (.later
        { s with
          lcl := { s.lcl with
            autoRejoin := u8 r.cmd.payload 1 == 1, relayTimeoutMs := u16 r.cmd.payload 2, marginMin := u16 r.cmd.payload 4 }
          nv := { s.nv with queue := s.nv.queue ++
            [{ record := .chainSettings, data := le 1 (u8 r.cmd.payload 0), owner := some r.order }] } } []))) ∧
  (∀ (s : State) (r : Running), Runs s r specLclSetChain → chainRanges r.cmd.payload = false →
      exec .lclSetChain s = .next (s.respond r ⟨3, []⟩)) ∧
  (∀ (s : State) (r : Running), Runs s r specLclSetChain → chainRanges r.cmd.payload = true → s.role = .standalone →
      exec .lclSetChain s = .next (s.respond r ⟨8, []⟩)) ∧
  (∀ (s : State) (r : Running), Runs s r specLclSetChain → chainRanges r.cmd.payload = true → s.role = .manager →
      (s.thermal.tj < 0 ∨ 10000 < s.thermal.tj) → exec .lclSetChain s = .next (s.respond r ⟨6, []⟩)) ∧
  (∀ (s : State) (r : Running), Runs s r specLclSetChain → chainRanges r.cmd.payload = true → s.role = .manager →
      0 ≤ s.thermal.tj → s.thermal.tj ≤ 10000 → s.lcl.anyTraining = true →
      exec .lclSetChain s = .next (s.respond r ⟨0x0B02, []⟩)) ∧
  (∀ (s : State) (r : Running), Runs s r specLclGetStatus →
      ∃ p, exec .lclGetStatus s = .next (s.close specLclGetStatus r (.ok s p)) ∧ p.length = 0x88 ∧
        (s.role = .manager → u8 p 0 = 1 ∧ u8 p 1 = s.lcl.position % 256 ∧ u8 p 2 = s.lcl.dCfg % 256 ∧
          u8 p 3 = (1 + s.joinedWorkers.length) % 256) ∧
        (s.role = .standalone → u8 p 0 = 0 ∧ u8 p 1 = 0 ∧ u8 p 2 = 1 ∧ u8 p 3 = 1) ∧
        (∀ d : Fin 16, u8 p (8 + 8 * d) = (if d.val = s.position then 2 else (s.lcl.pos d).state.code) ∧
          u16 p (10 + 8 * d) = (s.lcl.pos d).relayErr % 65536)) ∧
  (∀ (s : State) (r : Running) (h : Nat), Runs s r specLclRetrain → s.role = .manager → u8 r.cmd.payload 0 ≤ 14 →
      s.lcl.hopOf (u8 r.cmd.payload 0) = some h → s.upperReady h = true → s.lcl.anyTraining = false →
      ∃ t, exec .lclRetrain s = .next (s.close specLclRetrain r (.ok t [])) ∧ (t.lcl.hop h).training = true ∧
        (t.lcl.pos (u8 r.cmd.payload 0)).state = .training ∧
        (∀ q : Fin 16, q.val < u8 r.cmd.payload 0 → (t.lcl.pos q).state = .cutOff) ∧
        (∀ q : Fin 16, u8 r.cmd.payload 0 < q.val → t.lcl.pos q = s.lcl.pos q) ∧ t.lcl.dCfg = s.lcl.dCfg ∧
        t.beam.weights = s.beam.weights ∧ t.beam.shift = s.beam.shift) ∧
  (∀ (s : State) (r : Running), Runs s r specLclRetrain → s.role = .manager → u8 r.cmd.payload 0 ≤ 14 →
      s.lcl.dCfg < u8 r.cmd.payload 0 + 2 → exec .lclRetrain s = .next (s.respond r ⟨0x0B01, []⟩)) ∧
  (∀ (s : State) (r : Running) (h : Nat), Runs s r specLclGetLink → s.role = .manager → u8 r.cmd.payload 0 ≤ 14 →
      s.lcl.hopOf (u8 r.cmd.payload 0) = some h →
      ∃ p, exec .lclGetLink s = .next (s.close specLclGetLink r (.ok s p)) ∧ p.length = 0x78 ∧
        (∀ k : Fin 12, u8 p (8 * k) = (Tab.get (s.lcl.hop h).lanes k {}).state.code ∧
          u8 p (8 * k + 1) = (Tab.get (s.lcl.hop h).lanes k {}).logical % 256 ∧
          u16 p (8 * k + 4) = (Tab.get (s.lcl.hop h).lanes k {}).hdrErr % 65536 ∧
          u16 p (8 * k + 6) = min (Tab.get (s.lcl.hop h).lanes k {}).margin 65535) ∧
        u32 p 0x60 = min (s.lcl.hop h).oneWayPs (2 ^ 32 - 1) ∧ u32 p 0x64 = min (s.lcl.hop h).trigPs (2 ^ 32 - 1) ∧
        u32 p 0x68 = (s.lcl.hop h).groupErr % 2 ^ 32 ∧ u32 p 0x70 = (s.lcl.hop h).trigErr % 2 ^ 32) ∧
  (∀ (s : State) (r : Running), Runs s r specLclLastRelay → s.role = .manager → u8 r.cmd.payload 0 ≤ 3 →
      ∃ p, exec .lclLastRelay s = .next (s.close specLclLastRelay r (.ok s p)) ∧ p.length = 0x28 ∧
        u16 p 0 = (Tab.get s.cmd.lastRelay (u8 r.cmd.payload 0) {}).opcode % 65536 ∧
        (∀ d : Fin 16, u16 p (8 + 2 * d) =
          (Tab.get (Tab.get s.cmd.lastRelay (u8 r.cmd.payload 0) {}).status d 0xFFFF) % 65536)) ∧
  (∀ (s : State) (t : Nat) (h : Fin 16) (p : Nat), s.role = .manager → s.lcl.lowerOf h = some p →
      (s.lcl.pos p).state ≠ .joined → s.upperReady h = true →
      ∃ u, exec (.hopTraining t h) s = .next u ∧ (u.lcl.hop h).training = true ∧ (u.lcl.pos p).state = .training ∧
        { u with now := s.now, lcl := s.lcl } = s) ∧
  (∀ (s : State) (t : Nat) (h : Fin 16), s.role = .manager → s.lcl.dCfg < h.val + 2 → s.lcl.discovering = false →
      exec (.hopTraining t h) s = .next { s.advance t with lcl := { s.lcl with extra := max s.lcl.extra (h + 2 - s.lcl.dCfg) } }) ∧
  (∀ (s : State) (t : Nat) (h : Fin 16), s.role = .worker → s.radio.clock ≠ .locked →
      exec (.hopTraining t h) s = .next (s.advance t)) ∧
  (∀ (s : State) (t : Nat) (h : Fin 16) (x : List LaneTrain) (p : Nat), s.role = .manager → (s.lcl.hop h).training = true →
      (trainHop (s.lcl.hop h) x).2 = false → s.lcl.lowerOf h = some p → p ≤ 15 →
      (∀ q : Fin 16, (s.lcl.pos q).state ≠ .joined) →
      ∃ u, exec (.hopTrainingFail t h x) s = .next u ∧ (u.lcl.hop h).training = false ∧
        (∀ q : Fin 16, q.val ≤ p → (u.lcl.pos q).state = .cutOff) ∧ u.lcl.dCfg = s.lcl.dCfg ∧ u.beam = s.beam ∧ u.tx = s.tx) ∧
  (∀ (k : Fin 12) (x : Hop), (trainHop x []).2 = false ∧
      ((trainHop x []).1.map (fun l => l.state)).getD k .unused = .failed) ∧
  (∀ (s : State) (t : Nat) (h : Fin 16) (x : List LaneTrain) (j : JoinInfo) (p : Nat), s.role = .manager →
      (s.lcl.hop h).training = true → (trainHop (s.lcl.hop h) x).2 = true → s.lcl.lowerOf h = some p → p < s.lcl.position →
      ∃ u, exec (.hopJoin t h x j) s = .next u ∧ (u.lcl.pos p).state = .joined ∧ (u.lcl.pos p).fresh = j.fresh ∧
        (u.lcl.pos p).joinedOnce = true ∧ (u.lcl.hop h).training = false ∧ (u.lcl.hop h).oneWayPs = j.oneWayPs ∧
        u.beam.ownOnly = true ∧ u.cal.xdevConverged = false ∧ u.lcl.dCfg = s.lcl.dCfg) ∧
  (∀ (s : State) (t : Nat) (h : Fin 16) (x : List LaneTrain) (j : JoinInfo), s.role = .worker →
      (s.lcl.hop 0).training = true → (trainHop (s.lcl.hop 0) x).2 = true →
      ∃ u, exec (.hopJoin t h x j) s = .next u ∧ u.lcl.joined = true ∧ u.lcl.cut = false ∧ u.lcl.fresh = false ∧
        u.lcl.position = j.position ∧ u.lcl.dCfg = j.dCfg ∧ u.boot.gridAt = j.gridAt ∧
        u.radio.acqCount = (s.radio.acqCount + 1) % 65536 ∧ u.path = s.path ∧ u.tx = s.tx) ∧
  (∀ (s : State) (t : Nat) (h : Fin 15) (p : Nat), s.role = .manager → s.lcl.lowerOf h = some p →
      (s.lcl.pos p).state = .cutOff → s.upperReady h = true → (s.lcl.hop h).training = false →
      ∃ u, exec (.hopRejoin t h) s = .next u ∧
        ((u.lcl.hop h).training, (u.lcl.pos p).state) =
          (if s.lcl.autoRejoin = true then (true, .training) else (false, .cutOff)) ∧ { u with now := s.now, lcl := s.lcl } = s) ∧
  (∀ (s : State) (h : Fin 15) (p : Nat), s.role = .manager → s.lcl.lowerOf h = some p → (s.lcl.pos p).state = .joined →
      ∃ u, exec (.heartbeatTimeout h) s = .next u ∧ u.now = max s.now ((s.lcl.hop h).heartbeatAt + 3840000000) ∧
        (∀ q : Fin 16, q.val ≤ p → (u.lcl.pos q).state = .cutOff) ∧
        (∀ q : Fin 16, p < q.val → u.lcl.pos q = s.lcl.pos q) ∧ u.beam.shift = s.beam.shift ∧
        u.beam.ownOnly = s.beam.ownOnly) ∧
  (∀ (s : State) (t : Nat) (h : Fin 15) (l : Fin 12) (n g : Nat), s.role = .manager → n < 16 →
      (Tab.get (s.lcl.hop h).lanes l {}).state = .inUse →
      ∃ u, exec (.laneLockLoss t h l n g) s = .next u ∧
        (Tab.get (u.lcl.hop h).lanes l {}).hdrErr = min 65535 ((Tab.get (s.lcl.hop h).lanes l {}).hdrErr + n) ∧
        (u.lcl.hop h).groupErr = ((s.lcl.hop h).groupErr + g) % 2 ^ 32 ∧ u.lcl.positions = s.lcl.positions ∧
        { u with now := s.now, lcl := s.lcl } = s) ∧
  (∀ (s : State) (t : Nat) (h : Fin 15) (l : Fin 12) (n g p : Nat), s.role = .manager → 16 ≤ n →
      (Tab.get (s.lcl.hop h).lanes l {}).state = .inUse → s.lcl.lowerOf h = some p →
      ∃ u, exec (.laneLockLoss t h l n g) s = .next u ∧ ∀ q : Fin 16, q.val ≤ p → (u.lcl.pos q).state = .cutOff) ∧
  (∀ (s : State) (t : Nat) (received : Bool), s.role = .worker →
      ∃ u, exec (.cut t received) s = .next u ∧ u.lcl.joined = false ∧ u.lcl.cut = true ∧
        u.lcl.words = s.lcl.words ++ (if received = true then [] else [(0xA, max s.now t)]) ∧
        (u.tx.queue.all (fun b => b.phase == .rampDown)) = true ∧
        u.path.rxMask = s.path.rxMask ∧ u.path.txMask = s.path.txMask) ∧
  (∀ (s : State) (t : Nat) (received : Bool), s.role ≠ .worker → exec (.cut t received) s = .next (s.advance t))

/-- Delay, time and heartbeats, the trigger bus, messages and relayed events.
A measurement of 1,024 exchanges keeps the one-way delay and moves the worker's time by at most 10 ps; the manager sends
TIME every 1 ms and TIME_MARK at each whole second; a worker takes device time and the manager's time state from a TIME
message, and 10 ms without one make its time invalid. Each word is re-emitted two master clocks after its start edge, and
one with bad parity or an unknown code is counted and does nothing else; a timed code acts 1.000 us after the manager's
start edge. A message that fails its CRC-32 is counted and discarded; a heartbeat renews its hop; a worker's event keeps its
type, severity, time and payload and takes the manager's sequence number and the worker's position. Rules: R313 (in part),
R315 (in part), R316 (in part), R317 (in part), R318 (in part), R320 (in part), R322 (in part), 12_lemila_cascade.md Tables
LCL-3 and LCL-4. -/
def Obligations.CascadeTimeAndStrobes : Prop :=
  (∀ (s : State) (t : Nat) (h : Fin 15) (x : List Probe) (trig : Nat), x.length ≠ 1024 →
      exec (.delayMeasurement t h x trig) s = .next (s.advance t)) ∧
  (∀ (s : State) (t : Nat) (h : Fin 15) (x : List Probe) (trig p : Nat), s.role = .manager → x.length = 1024 →
      s.lcl.lowerOf h = some p → (s.lcl.pos p).state = .joined →
      ∃ u, exec (.delayMeasurement t h x trig) s = .next u ∧ (u.lcl.hop h).oneWayPs = (probeResult x).1.toNat ∧
        (u.lcl.hop h).trigPs = trig ∧ -10 ≤ (u.lcl.pos p).timeOffsetPs - (s.lcl.pos p).timeOffsetPs ∧
        (u.lcl.pos p).timeOffsetPs - (s.lcl.pos p).timeOffsetPs ≤ 10 ∧
        (∀ q : Fin 16, q.val ≠ p → u.lcl.pos q = s.lcl.pos q) ∧ { u with now := s.now, lcl := s.lcl } = s) ∧
  (∀ (s : State) (t : Nat) (h : Fin 15) (x : List Probe) (trig : Nat), s.role = .worker → s.lcl.joined = true → x.length = 1024 →
      ∃ u, exec (.delayMeasurement t h x trig) s = .next u ∧ (u.time.base - s.time.base).natAbs ≤ 4 ∧
        { u with now := s.now, lcl := s.lcl, time := s.time } = s) ∧
  (∀ s : State, s.role = .manager → s.joinedWorkers ≠ [] →
      ∃ u, exec .timeMessageSend s = .next u ∧ u.lcl.timeSent = some u.now ∧
        (∀ a, s.lcl.timeSent = some a → u.now = max s.now (a + 384000000)) ∧
        u.lcl.sent = s.lcl.sent ++ [⟨0xFF, 3, s.ts80 u.now ++
          le 1 (match s.time.state with | .invalid => 0 | .valid => 1 | .holdover => 2)⟩] ∧
        { u with now := s.now, lcl := s.lcl } = s) ∧
  (∀ (s : State) (t : Nat) (d : Int) (m : Fin 3), (s.role ≠ .worker ∨ s.lcl.joined = false ∨ s.lcl.timeMsgAt = none) →
      exec (.timeMessageReceive t d m) s = .next (s.advance t)) ∧
  (∀ (s : State) (t : Nat) (d : Int) (m : Fin 3), s.role = .worker → s.lcl.joined = true → s.lcl.timeMsgAt ≠ none →
      m.val ≠ 0 →
      ∃ u, exec (.timeMessageReceive t d m) s = .next u ∧ u.time.deviceAt u.now = d ∧ u.lcl.timeMsgAt = some u.now ∧
        u.time.state = (if m.val = 1 then .valid else .holdover) ∧ { u with now := s.now, lcl := s.lcl, time := s.time } = s) ∧
  (∀ (s : State) (a : Nat), s.role = .worker → s.lcl.timeMsgAt = some a →
      ∃ u, exec .timeMessageTimeout s = .next u ∧ u.now = max s.now (a + 3840000000) ∧ u.time.state = .invalid ∧
        u.lcl.timeMsgAt = none ∧ u.time.base = s.time.base) ∧
  (∀ s : State, s.role = .worker → s.lcl.joined = true →
      ∃ u, exec .heartbeatSend s = .next u ∧ u.lcl.heartbeatSent = some u.now ∧
        (∀ a, s.lcl.heartbeatSent = some a → u.now = max s.now (a + 384000000)) ∧
        u.lcl.sent = s.lcl.sent ++ [{ dst := s.lcl.dCfg - 1, kind := 4, body := [] },
          { dst := s.lcl.dCfg - 1, kind := 5, body := le 1 6 ++ le 4 s.lcl.trigErr ++ le 4 s.lcl.strobeMiss }] ∧
        { u with now := s.now, lcl := s.lcl } = s) ∧
  (∀ (s : State) (t : Nat) (c : Fin 16) (ok : Bool), s.role = .worker → (ok = false ∨ triggerCodes.contains c.val = false) →
      exec (.triggerWord t c ok) s = .next { s.advance t with lcl := { s.lcl with
        words := s.lcl.words ++ [(c.val, t + 1250)], trigErr := (s.lcl.trigErr + 1) % 2 ^ 32 } }) ∧
  (∀ (s : State) (t : Nat) (c : Fin 16), s.role = .worker → (c.val = 1 ∨ c.val = 2 ∨ c.val = 4) → s.lcl.trigSumPs = 0 →
      exec (.triggerWord t c true) s = .next { s.advance t with lcl := { s.lcl with
        words := s.lcl.words ++ [(c.val, t + 1250)]
        actions := s.lcl.actions ++ [{ code := c.val, due := t + 384000 }] } }) ∧
  (∀ (s : State) (t : Nat) (w : BeamSwap), s.role = .worker → s.lcl.trigSumPs = 0 → s.beam.host = some w → w.marked = false →
      s.beam.internal = none →
      ∃ u, exec (.triggerWord t 3 true) s = .next u ∧ u.beam.host = some { w with instant := t + 384000, marked := true } ∧
        u.lcl.words = s.lcl.words ++ [(3, t + 1250)] ∧ { u with now := s.now, lcl := s.lcl, beam := s.beam } = s) ∧
  (∀ (s : State) (t : Nat) (c : Fin 16), s.role = .worker → (c.val = 8 ∨ c.val = 9) → s.tx.queue = [] →
      ∃ u, exec (.triggerWord t c true) s = .next u ∧ u.lcl.words = s.lcl.words ++ [(c.val, t + 1250)] ∧
        u.lcl.actions = s.lcl.actions ∧ u.lcl.trigErr = s.lcl.trigErr ∧ u.tx.queue = []) ∧
  (∀ (s : State) (a : TrigAction), s.lcl.actions = [a] → a.code = 1 →
      exec .triggerWordAction s = .next (({ s.advance a.due with lcl := { s.lcl with actions := [] } } : State).strobe a.due 1 false false)) ∧
  (∀ (s : State) (a : TrigAction), s.lcl.actions = [a] → a.code = 4 →
      ∃ u, exec .triggerWordAction s = .next u ∧ u.lcl.actions = [] ∧
        u.lcl.trigErr = (if 2 * 384 < (((a.due - 384000 : Nat) : Int) - (s.markEdge (a.due - 384000) : Nat)).natAbs then
          (s.lcl.trigErr + 1) % 2 ^ 32 else s.lcl.trigErr) ∧ { u with now := s.now, lcl := s.lcl } = s) ∧
  (∀ s : State, s.lcl.actions = [] → exec .triggerWordAction s = .next s) ∧
  (∀ s : State, s.role = .manager → s.joinedWorkers ≠ [] → s.lcl.words = [] → s.time.ratePpb = 0 → s.time.baseAt ≤ s.now →
      ∃ u, exec .timeMarkSend s = .next u ∧ u.lcl.words = [(4, s.sampleAt u.now 625)] ∧
        u.lcl.actions = s.lcl.actions ++ [{ code := 4, due := s.sampleAt u.now 625 + 384000 }] ∧
        (s.time.deviceAt u.now) % 384000000000 = 0 ∧ s.now < u.now ∧
        { u with now := s.now, lcl := s.lcl } = s) ∧
  (∀ (s : State) (t src dst kind : Nat) (b : List Byte), s.role = .manager →
      ∃ u, exec (.cascadeMessage t src dst kind false b) s = .next u ∧
        (u.lcl.hop 0).msgCrcErr = ((s.lcl.hop 0).msgCrcErr + 1) % 2 ^ 32 ∧ u.lcl.positions = s.lcl.positions ∧
        { u with now := s.now, lcl := s.lcl } = s) ∧
  (∀ (s : State) (t src h : Nat) (b : List Byte), s.role = .manager → s.knows src = true → s.lcl.hopOf src = some h →
      ∃ u, exec (.cascadeMessage t src s.lcl.position 4 true b) s = .next u ∧ (u.lcl.hop h).heartbeatAt = u.now ∧
        u.lcl.positions = s.lcl.positions ∧ { u with now := s.now, lcl := s.lcl } = s) ∧
  (∀ (s : State) (t src dst kind : Nat) (b : List Byte), s.role = .manager → s.knows src = false →
      exec (.cascadeMessage t src dst kind true b) s = .next (s.advance t)) ∧
  (∀ (s : State) (t src g : Nat), s.role = .worker → s.lcl.joined = true → g ≤ 15 →
      exec (.cascadeMessage t src s.lcl.position 5 true [4#8, BitVec.ofNat 8 g]) s =
        .next { s.advance t with beam := { s.beam with shift := g } }) ∧
  (∀ (s : State) (t : Nat) (p : Fin 16) (b : List Byte), s.role = .manager → s.knows p = true → s.evq.store.length < 256 →
      exec (.workerEventRelay t p b) s = .next { s.advance t with evq := { s.evq with
        seqNext := (s.evq.seqNext + 1) % 2 ^ 32
        store := s.evq.store ++ [{ typ := u16 b 0, severity := u8 b 2, source := 16 * p + u8 b 3 % 16, seq := s.evq.seqNext,
                                   seconds := u32 b 8, nanos := u32 b 12, payload := bytesAt b 16 16 }] } }) ∧
  (∀ (s : State) (t : Nat) (p : Fin 16) (b : List Byte), s.role ≠ .manager →
      exec (.workerEventRelay t p b) s = .next (s.advance t))

/-- The four fabric and memory commands answer their status and change no setting.
SYS_FABRIC_GET_STATUS, SYS_MEM_GET_ECC, SYS_LEASE_GET and SYS_PROC_GET_STATUS answer the layouts of Table STR-8; without
FLAGS no setting changes, with FLAGS the counts are cleared and everything else stays. What the spec leaves open (LOAD, the
number of leases firmware holds, the ZENITH figures) is a free value (log entries 1301, 1302, 1312), whose count alone
moves. Rules: R359 (in part), 13_stratus_fabric_and_memory.md Table STR-8. -/
def Obligations.FabricCommands : Prop :=
  (∀ (s : State) (r : Running), Runs s r specSysFabricGetStatus → u8 r.cmd.payload 0 % 2 = 0 →
      exec .sysFabricGetStatus s = .next (s.close specSysFabricGetStatus r (.ok s.zenithObserved s.zenithObserved.fabricStatus))) ∧
  (∀ (s : State) (r : Running), Runs s r specSysFabricGetStatus → u8 r.cmd.payload 0 % 2 = 1 →
      exec .sysFabricGetStatus s = .next (s.close specSysFabricGetStatus r
        (.ok { s.zenithObserved with fab := { s.zenithObserved.fab with zenithHeld := 0 } } s.zenithObserved.fabricStatus))) ∧
  (∀ s : State, { s.zenithObserved with free := s.free, fab := s.fab } = s ∧ s.fab.zenithMaxNs ≤ s.zenithObserved.fab.zenithMaxNs ∧
      { s.zenithObserved.fab with zenithMaxNs := s.fab.zenithMaxNs, zenithHeld := s.fab.zenithHeld } = s.fab ∧
      s.fabricStatus.length = 88 ∧ s.fabricStatus.getD 4 0#8 = BitVec.ofNat 8 s.thermal.band ∧
      s.fabricStatus.getD 5 0#8 = BitVec.ofNat 8 s.fab.spared.length) ∧
  (∀ (s : State) (r : Running), Runs s r specSysMemGetEcc → u8 r.cmd.payload 0 % 2 = 0 →
      exec .sysMemGetEcc s = .next (s.close specSysMemGetEcc r (.ok s
        ((List.range 10).flatMap (fun i => le 4 (Tab.get s.fab.ecc i {}).corrected ++
          le 4 (Tab.get s.fab.ecc i {}).uncorrected ++ le 8 (Tab.get s.fab.ecc i {}).lastAddress))))) ∧
  (∀ (s : State) (r : Running), Runs s r specSysLeaseGet → u8 r.cmd.payload 0 % 2 = 0 →
      exec .sysLeaseGet s = .next (s.close specSysLeaseGet r
        (.ok { s with free := s.free + 1 } (s.leaseStatus (Config.freeNat s.free))))) ∧
  (∀ (s : State) (r : Running), Runs s r specSysProcGetStatus → u8 r.cmd.payload 0 % 2 = 0 →
      exec .sysProcGetStatus s = .next (s.close specSysProcGetStatus r
        (.ok { s with free := s.free + 18 } (procStatus s 18 0).1)))

/-- A failed unit loses its leases, is reset and returns, or is held out after three revocations in an hour.
A handshake stall, a parity fault or a second missed poll declares a unit failed: every lease of it is gone, every other
stays, the revocation counts once, the unit is being reset. One missed poll only counts. The unit's return raises
EV_SYS_LEASE_REVOKED and holds it out when three of its revocations lie within the hour. A release takes the one lease it
names away. Rules: R351 (in part), R352 (in part), R353 (in part), R354 (in part), R355 (in part), Table STR-9. -/
def Obligations.UnitRevocation : Prop :=
  (∀ (s : State) (t owner : Nat) (i : Instr), (i = .unitHandshakeStall t owner ∨ i = .unitParityFault t owner) →
      owner / 256 % 256 ≠ 3 → (s.fabUnit owner).restarting = none → (s.fabUnit owner).heldOut = false →
      ∃ u, exec i s = .next u ∧ u.fab.leases = s.fab.leases.filter (fun l => l.owner != owner) ∧
        u.fab.revocations = (s.fab.revocations + 1) % 2 ^ 32 ∧ (u.fabUnit owner).restarting.isSome = true ∧
        (u.fabUnit owner).revocations = min ((s.fabUnit owner).revocations + 1) 65535 ∧
        (∀ o, o ≠ owner → u.fabUnit o = s.fabUnit o) ∧
        { u with fab := s.fab, free := s.free, now := s.now } = s) ∧
  (∀ (s : State) (t owner : Nat), s.fab.units = [(owner, { missed := 0 })] →
      ∃ u, exec (.maintenanceRingPoll t [owner]) s = .next u ∧ (u.fabUnit owner).missed = 1 ∧
        u.fab.leases = s.fab.leases ∧ u.fab.revocations = s.fab.revocations) ∧
  (∀ (s : State) (t owner : Nat), s.fab.units = [(owner, { missed := 1 })] → owner / 256 % 256 ≠ 3 →
      ∃ u, exec (.maintenanceRingPoll t [owner]) s = .next u ∧ (u.fabUnit owner).missed = 0 ∧
        (u.fabUnit owner).restarting.isSome = true ∧
        u.fab.leases = s.fab.leases.filter (fun l => l.owner != owner)) ∧
  (∀ (s : State) (t owner : Nat) (r : Revocation), (s.fabUnit owner).restarting = some r →
      ∃ u, exec (.unitReturnToService t owner) s = .next u ∧ (u.fabUnit owner).restarting = none ∧
        (u.fabUnit owner).heldOut = decide (3 ≤ (s.fabUnit owner).revoked.length) ∧
        u.fab.lastRevoked = ((r, decide (3 ≤ (s.fabUnit owner).revoked.length)) :: s.fab.lastRevoked).take 16 ∧
        u.thermal.band = (if s.thermal.tj < 0 then 0 else if s.thermal.tj ≤ 7000 then 1 else 2) ∧
        u.fab.leases = s.fab.leases) ∧
  (∀ (s : State) (t owner : Nat) (r : Resource),
      exec (.leaseRelease t owner r) s = .next { s.advance t with fab := { s.fab with
        leases := s.fab.leases.filter (fun l => !(l.owner == owner && l.resource == r)) } })

/-- Link failures, slow readings, ECC words and the watchdog have the effects the rules give.
The first failed link of a row or column uses its spare; a second one is a fabric fault whose reset follows 1 ms later with
the boot cause kept. 36 readings at or above 740 are stored and raise nothing. A corrected word counts once and an
uncorrectable one counts, keeps its address and poisons its word; in the scratch pool it takes the lock of its word away. A
restart puts the watchdog off; its expiry holds PAEN low and its reset, 10 us later, leaves boot cause WATCHDOG, or
SYSC_ECC. Rules: R331 (in part), R332 (in part), R341 (in part), R345 (in part), R346 (in part), R356 (in part), R357 (in
part), Table STR-4. -/
def Obligations.FabricFaultsAndWatchdog : Prop :=
  (∀ (s : State) (t : Nat) (axis : Fin 2) (index : Fin 6) (link : Fin 5),
      Tab.find? s.fab.spared (6 * axis.val + index.val) = none →
      ∃ u, exec (.fabricLinkFailure t axis index link) s = .next u ∧
        Tab.find? u.fab.spared (6 * axis.val + index.val) = some link.val ∧
        (∀ k, k ≠ 6 * axis.val + index.val → Tab.find? u.fab.spared k = Tab.find? s.fab.spared k) ∧
        u.boot = s.boot) ∧
  (∀ (s : State) (t first : Nat) (axis : Fin 2) (index : Fin 6) (link : Fin 5),
      Tab.find? s.fab.spared (6 * axis.val + index.val) = some first → first ≠ link.val → s.boot.fabricFaultAt = none →
      ∃ u, exec (.fabricLinkFailure t axis index link) s = .next u ∧
        u.boot = { s.boot with fabricFaultAt := some (max s.now t) } ∧ u.evq.fatal = true ∧ u.fab = s.fab) ∧
  (∀ (s : State) (t0 : Nat), s.boot.fabricFaultAt = some t0 →
      ∃ u, exec .fabricFaultReset s = .next u ∧ u.now = max s.now (t0 + 384000000) ∧
        u.dawn.bootCause = s.dawn.bootCause ∧ u.boot.stage = 1 ∧ u.fab = {} ∧ u.mem = [] ∧ u.cmd = {}) ∧
  (∀ (s : State) (t : Nat) (l : List Nat), l.length = 36 → (∀ v ∈ l, 740 ≤ v) →
      ∃ u, exec (.fabricSpeedMonitor t l) s = .next u ∧ u.fab.monitors = (List.range 36).zip l ∧ u.evq = s.evq ∧
        { u with fab := s.fab, now := s.now } = s) ∧
  (∀ (s : State) (t addr : Nat) (pool : Fin 10),
      ∃ u, exec (.memoryScrub t pool addr (some true) none) s = .next u ∧
        (Tab.get u.fab.ecc pool {}).corrected = ((Tab.get s.fab.ecc pool {}).corrected + 1) % 2 ^ 32 ∧
        (∀ k, k ≠ pool.val → Tab.get u.fab.ecc k {} = Tab.get s.fab.ecc k {}) ∧
        { u with fab := s.fab, now := s.now } = s) ∧
  (∀ (s : State) (t addr : Nat),
      ∃ u, exec (.memoryScrub t 5 addr (some false) none) s = .next u ∧
        (Tab.get u.fab.ecc 5 {}).uncorrected = ((Tab.get s.fab.ecc 5 {}).uncorrected + 1) % 2 ^ 32 ∧
        (Tab.get u.fab.ecc 5 {}).lastAddress = addr ∧ (addr - addr % 8) ∈ u.fab.poison ∧
        u.fab.leases = s.fab.leases.filter (fun l => l.resource != .lock (addr - addr % 8)) ∧ u.mem = s.mem) ∧
  (∀ (s : State) (t : Nat), s.boot.watchdogExpired = none →
      exec (.watchdogRestart t) s = .next { s.advance t with boot := { s.boot with watchdogAt := max s.now t } }) ∧
  (∀ (s : State) (t : Nat), s.boot.watchdogExpired = none → s.boot.stage ≠ 0 →
      s.boot.watchdogAt + 97 * 384000000 ≤ max s.now t →
      ∃ u, exec (.watchdogExpiry t) s = .next u ∧ u.boot.watchdogExpired = some (max s.now t) ∧
        u.boot.syscEcc = false ∧ u.pins.paen = 0#4) ∧
  (∀ (s : State) (t0 : Nat), s.boot.watchdogExpired = some t0 →
      ∃ u, exec .watchdogReset s = .next u ∧ u.now = max s.now (t0 + 3840000) ∧
        u.dawn.bootCause = (if s.boot.syscEcc then 6#8 else 5#8) ∧ u.boot.stage = 1 ∧ u.boot.ready = false ∧
        u.tx = {} ∧ u.cmd = {} ∧ u.mem = [])

/-- A host channel starts, moves its bytes, notifies, stops, follows its chain and reports a fault.
On an idle channel in register mode START runs a transfer that keeps the address rules; its end moves every byte of the
range and leaves the channel IDLE, DONE; half of the bytes raise the half notification; STOP marks a running channel
STOPPING; a descriptor's end moves its bytes, writes its STATUS and either checks the tail or begins the next descriptor; a
tail that still ends the chain leaves it IDLE, CHAIN_END; an error ends it with its cause, EV_SYS_DMA_ERROR and nothing
further moved. A COUNT above 64 MiB, two addresses of one host space, and a destination outside the pools end with their
causes. Rules: R362 (in part), R363 (in part), R364 (in part), R365 (in part), R369 (in part), R370 (in part), R371 (in
part), R373 (in part). -/
def Obligations.DmaTransfers : Prop :=
  (∀ (s : State) (t : Nat) (c : Fin 8) (v : Word) (read : List Byte), s.hostAccess = true → v.getLsbD 0 = true →
      v.getLsbD 1 = false → v.getLsbD 2 = false → (s.channel c).state = .idle → 0 < (s.channel c).count →
      dmaFault (s.channel c).src.toNat (s.channel c).dst.toNat (s.channel c).count = none →
      ∃ u, exec (.dmaStart t c v read) s = .next u ∧ (u.channel c).state = .running ∧ (u.channel c).endCause = 0 ∧
        (u.channel c).doneBytes = 0 ∧
        (u.channel c).job = some {
          src := (s.channel c).src.toNat, dst := (s.channel c).dst.toNat, count := (s.channel c).count
          half := v.getLsbD 3, full := v.getLsbD 4 } ∧
        (∀ d, d ≠ c.val → u.channel d = s.channel d) ∧ { u with dma := s.dma, now := s.now } = s) ∧
  (∀ (s : State) (t : Nat) (c : Fin 8) (v : Word), s.hostAccess = true → v.getLsbD 1 = true → v.getLsbD 0 = false →
      (s.channel c).state = .running →
      exec (.dmaStop t c v) s = .next ((s.advance t).setChannel c { s.channel c with state := .stopping })) ∧
  (∀ (s : State) (t : Nat) (c : Fin 8) (read : List Byte) (x : Transfer), s.memoriesWf = true →
      (s.channel c).state = .running → (s.channel c).chain = false → (s.channel c).job = some x → x.moved = 0 → x.full = false →
      hostSpace x.src = false → hostSpace x.dst = false → s.dmaPoison x = none →
      ∃ u, exec (.dmaTransferDone t c read) s = .next u ∧ (u.channel c).state = .idle ∧ (u.channel c).endCause = 1 ∧
        (u.channel c).doneBytes = x.count ∧ (u.channel c).job = none ∧
        (∀ k, k < x.count → memRead unlisted u.mem (x.dst + k) = memRead unlisted s.mem (x.src + k)) ∧
        (∀ a, (a < x.dst ∨ x.dst + x.count ≤ a) → memRead unlisted u.mem a = memRead unlisted s.mem a) ∧
        { u with dma := s.dma, mem := s.mem, now := s.now } = s) ∧
  (∀ (s : State) (t : Nat) (c : Fin 8) (read : List Byte) (x : Transfer), (s.channel c).state = .running →
      (s.channel c).tailCheck = false → (s.channel c).job = some x → x.half = true → x.halfDone = false → x.moved = 0 →
      (s.channel c).msixEn = false → (s.channel c).eventEn = false → hostSpace x.src = false → hostSpace x.dst = false →
      s.dmaPoison x = none →
      ∃ u, exec (.dmaHalfNotify t c read) s = .next u ∧ (u.channel c).half = true ∧ (u.channel c).state = .running ∧
        (u.channel c).doneBytes = (x.count + 1) / 2 ∧
        (u.channel c).job = some { x with halfDone := true, moved := (x.count + 1) / 2 } ∧
        { u with dma := s.dma, mem := s.mem, now := s.now } = s) ∧
  (∀ (s : State) (t : Nat) (c : Fin 8) (read next : List Byte) (x : Transfer), (s.channel c).state = .running →
      (s.channel c).chain = true → (s.channel c).tailCheck = false → (s.channel c).job = some x → x.count = 0 →
      x.moved = 0 → x.full = false → x.last = true → s.dmaPoison x = none → hostSpace x.dst = false →
      hostSpace (s.channel c).cur = false →
      ∃ u, exec (.dmaDescriptorDone t c read next) s = .next u ∧ (u.channel c).state = .running ∧
        (u.channel c).tailCheck = true ∧ (u.channel c).lastDesc = (s.channel c).cur ∧
        u.mem = memWriteBytes unlisted s.mem ((s.channel c).cur + 0x16) [1#8, 0#8] ∧
        { u with dma := s.dma, mem := s.mem, now := s.now } = s) ∧
  (∀ (s : State) (t : Nat) (c : Fin 8) (tail next : List Byte), (s.channel c).state = .running →
      (s.channel c).tailCheck = true → (s.channel c).eventEn = false →
      u16 (s.descBytes (s.channel c).cur tail) 0x14 % 2 = 1 →
      ∃ u, exec (.dmaTailRecheck t c tail next) s = .next u ∧ (u.channel c).state = .idle ∧ (u.channel c).endCause = 2 ∧
        { u with dma := s.dma, now := s.now } = s) ∧
  (∀ (s : State) (t cause addr : Nat) (c : Fin 8) (read : List Byte), (s.channel c).state = .running →
      (s.channel c).job = none → (s.channel c).msixEn = false →
      ∃ u, exec (.dmaError t c cause 0 addr read) s = .next u ∧ (u.channel c).state = .idle ∧ (u.channel c).endCause = 4 ∧
        (u.channel c).errCause = cause ∧ (u.channel c).job = none ∧ u.mem = s.mem ∧ u.hostMem = s.hostMem) ∧
  (∀ src dst : Nat, dmaFault src dst 0x4000001 = some 0x03) ∧
  (∀ src dst n : Nat, n ≤ 0x4000000 → 2 ^ 63 ≤ src → 2 ^ 63 ≤ dst → dmaFault src dst n = some 0x02) ∧
  (∀ src dst n : Nat, 0 < n → n ≤ 0x4000000 → 2 ^ 63 ≤ src → 0x11000000 ≤ dst → dst < 0x11800000 →
      dmaFault src dst n = some 0x01)

/-- The doorbell, the scan and the release move every mailbox through its states, and touch nothing else.
With the host's access open: a write of MBX_DOORBELL moves every idle mailbox of its bits to PENDING and marks OVERRUN on
the others of its bits; a write of MBX_RESPONSE returns every mailbox of its bits that is in RESPONSE to IDLE; the mailboxes
of no bit and everything else stay. While READY, a scan takes the command of a PENDING mailbox whose opcode is assigned: the
mailbox is EXECUTING, its command is copied behind the commands taken earlier, and the count of commands taken grows by one;
with BARRIER set behind a command without a response it waits. A scan takes all four in index order. Rules: R387 (in part),
R388 (in part), R389 (in part), R402 (in part), Table HOST-8. -/
def Obligations.MailboxHandshake : Prop :=
  (∀ (s : State) (t : Nat) (b : BitVec 4), s.hostAccess = true →
      ∃ u, exec (.mbxDoorbellRing t b) s = .next u ∧
        (∀ n : Fin 4, u.host.mailbox n = (if b.getLsbD n then
            (if (s.host.mailbox n).state = .idle then { s.host.mailbox n with state := .pending }
             else { s.host.mailbox n with overrun := true })
          else s.host.mailbox n)) ∧
        { u with host := { u.host with mbx := s.host.mbx }, now := s.now } = s) ∧
  (∀ (s : State) (t : Nat) (b : BitVec 4), s.hostAccess = true →
      ∃ u, exec (.mbxResponseRelease t b) s = .next u ∧
        (∀ n : Fin 4, u.host.mailbox n =
          (if b.getLsbD n = true ∧ (s.host.mailbox n).state = .response then { s.host.mailbox n with state := .idle }
           else s.host.mailbox n)) ∧
        { u with host := { u.host with mbx := s.host.mbx }, now := s.now } = s) ∧
  (∀ (s : State) (t : Nat) (n : Fin 4), s.boot.ready = true → (s.host.mailbox n).state = .pending →
      (∀ m : Fin 4, m ≠ n → (s.host.mailbox m).state ≠ .pending) →
      opcodeKnown (cmdOf (s.host.mailbox n).area).opcode = true →
      ∃ u, exec (.mailboxScan t) s = .next u ∧
        u.host.mailbox n = { s.host.mailbox n with state := .executing } ∧
        (∀ m, m ≠ n.val → u.host.mailbox m = s.host.mailbox m) ∧
        u.cmd = { s.cmd with
          running := s.cmd.running ++ [{
            mbx := n.val, cmd := cmdOf (s.host.mailbox n).area, order := s.cmd.nextOrder, reached := max s.now t
            phase := if (cmdOf (s.host.mailbox n).area).flags / 2 % 2 = 1 ∧ s.cmd.running ≠ [] then .barrier else .ready }]
          nextOrder := s.cmd.nextOrder + 1
          taken := (s.cmd.taken + 1) % 2 ^ 32 } ∧
        { u with host := { u.host with mbx := s.host.mbx }, cmd := s.cmd, now := s.now } = s) ∧
  (∀ (s : State) (t : Nat), s.boot.ready = true → s.cmd.running = [] →
      (∀ n : Fin 4, (s.host.mailbox n).state = .pending ∧
        opcodeKnown (cmdOf (s.host.mailbox n).area).opcode = true) →
      ∃ u, exec (.mailboxScan t) s = .next u ∧ u.cmd.running.map (fun r => r.mbx) = [0, 1, 2, 3])

/-- Host writes of BAR0 and BAR2 reach their register or byte and nothing else.
With the host's access open: a word written to SYS_SCRATCH is held; ones written to HOST_INT_STATUS clear their bits; a
write of a reserved or read-only word is ignored; a byte written to an idle mailbox's area is there and the rest of the area
as before; unmasking a vector sends its pending message; a byte written through BAR2 to the capture, scratch or staging pool
is in device memory and every other byte as before; a BAR2 write to a read-only region is discarded and logged. Rules: R380
(in part), R382 (in part), R384 (in part), R386 (in part), R388 (in part). -/
def Obligations.HostRegisterWrites : Prop :=
  (∀ (s : State) (t : Nat) (a b c d : Byte) (w : Word), s.hostAccess = true →
      w = BitVec.ofNat 32 (a.toNat + 256 * b.toNat + 65536 * c.toNat + 16777216 * d.toNat) →
      exec (.registerWrite t 0x0020 [some a, some b, some c, some d]) s =
          .next { s.advance t with host := { s.host with scratch := w } } ∧
        exec (.registerWrite t 0x0104 [some a, some b, some c, some d]) s =
          .next { s.advance t with host := { s.host with intStatus := s.host.intStatus &&& ~~~w } }) ∧
  (∀ (s : State) (t : Nat) (data : List (Option Byte)) (off : Nat), s.hostAccess = true →
      off ∈ [0x0000, 0x0004, 0x0008, 0x000C, 0x0010, 0x0018, 0x001C, 0x0214, 0x0220, 0x0224, 0x0308, 0x0400, 0x1800, 0x3000] →
      data.length = 4 → exec (.registerWrite t off data) s = .next (s.advance t)) ∧
  (∀ (s : State) (t : Nat) (n : Fin 4) (o : Nat) (v : Byte), s.hostAccess = true → o < 0x1010 →
      (s.host.mailbox n).state = .idle →
      ∃ u, exec (.registerWrite t (0x8000 + 0x2000 * n.val + o) [some v]) s = .next u ∧
        (u.host.mailbox n).state = .idle ∧ (u.host.mailbox n).area.getD o 0#8 = v ∧
        (∀ k, k < 0x1010 → k ≠ o → (u.host.mailbox n).area.getD k 0#8 = (s.host.mailbox n).area.getD k 0#8) ∧
        (∀ m, m ≠ n.val → u.host.mailbox m = s.host.mailbox m) ∧
        { u with host := { u.host with mbx := s.host.mbx }, now := s.now } = s) ∧
  (∀ (s : State) (t : Nat) (v : Fin 32), s.hostAccess = true → s.host.msixPending.getLsbD v = true →
      ∃ u, exec (.msixVectorUnmask t v) s = .next u ∧ u.host.msixPending.getLsbD v = false ∧
        (u.host.entry v).control.getLsbD 0 = false ∧
        u.host.sent = s.host.sent ++ [⟨v.val,
          (s.host.entry v).addrLo.toNat + 2 ^ 32 * (s.host.entry v).addrHi.toNat, (s.host.entry v).data⟩] ∧
        { u with
          host := { u.host with msix := s.host.msix, msixPending := s.host.msixPending, sent := s.host.sent }
          now := s.now } = s) ∧
  (∀ (s : State) (t off : Nat) (v : Byte), s.memoriesWf = true → s.hostAccess = true →
      (off < 0x1000000 ∨ (0x1800000 ≤ off ∧ off < 0x1C00000)) →
      ∃ u, exec (.bar2Write t off [some v]) s = .next u ∧ memRead unlisted u.mem (0x10000000 + off) = v ∧
        (∀ a, a ≠ 0x10000000 + off → memRead unlisted u.mem a = memRead unlisted s.mem a) ∧
        { u with mem := s.mem, now := s.now } = s) ∧
  (∀ (s : State) (t off : Nat) (data : List (Option Byte)), s.hostAccess = true →
      ((0x1000000 ≤ off ∧ off < 0x1600000) ∨ (0x2000000 ≤ off ∧ off < 0x2400000)) →
      exec (.bar2Write t off data) s = .next { s.advance t with
        host := { s.host with unsupported := s.host.unsupported + 1 } })

/-- The event ring starts at the consumer index, writes records into their slots while slots are free, and notifies.
EVQ_ENABLE on a READY device with no event held sets EVQ_PROD to EVQ_CONS and writes it to the producer address; EVQ_DISABLE
stops the ring; EVQ_CONS accepts an index from EVQ_CONS to EVQ_PROD and ignores others with CONS_ERR; an open ring with F
below S minus 4 and no record owed writes the front event of the store into slot EVQ_PROD mod S and the producer value after
it, with MOD_COUNT 1 sends vector 0; with F at S minus 4 or more an event that is not FATAL is dropped and counted; the
timer sends what MOD_US holds back; returned credits let the ring write again. Rules: R392 (in part), R393 (in part), R394
(in part), R395 (in part), R396 (in part), Table HOST-9. -/
def Obligations.EventRingWrites : Prop :=
  (∀ (s : State) (t : Nat) (v : Word), s.hostAccess = true → s.evq.enabled = false → s.boot.ready = true →
      s.evq.store = [] →
      ∃ u, exec (.evqEnable t v) s = .next u ∧ u.evq.enabled = true ∧ u.evq.running = true ∧ u.evq.prod = s.evq.cons ∧
        u.evq.cons = s.evq.cons ∧
        u.hostMem = memWriteBytes unlisted s.hostMem s.evq.prodAddr.toNat (le 4 s.evq.cons) ∧
        { u with evq := s.evq, hostMem := s.hostMem, now := s.now } = s) ∧
  (∀ (s : State) (t : Nat) (v : Word), s.hostAccess = true → s.evq.enabled = true →
      ∃ u, exec (.evqDisable t v) s = .next u ∧ u.evq.enabled = false ∧ u.evq.running = false ∧
        u.evq.size = s.evq.size ∧ { u with evq := s.evq, now := s.now } = s) ∧
  (∀ (s : State) (t : Nat) (v : Word), s.hostAccess = true →
      exec (.evqConsWrite t v) s = .next
        (if (v.toNat + 2 ^ 32 - s.evq.cons) % 2 ^ 32 ≤ (s.evq.prod + 2 ^ 32 - s.evq.cons) % 2 ^ 32 then
          { s.advance t with evq := { s.evq with cons := v.toNat } }
        else { s.advance t with evq := { s.evq with consErr := true } })) ∧
  (∀ (s : State) (t : Nat) (e : EvRec) (rest : List EvRec), s.ringOpen = true → s.evq.store = e :: rest →
      e.severity ≠ 4 → s.evq.owed = 0 → s.evq.fill < s.evq.size - 4 → s.evq.modCount = 1 →
      ∃ u, exec (.eventRingWrite t false) s = .next u ∧ u.evq.store = rest ∧ u.evq.prod = (s.evq.prod + 1) % 2 ^ 32 ∧
        u.hostMem = memWriteBytes unlisted (memWriteBytes unlisted s.hostMem
          (s.evq.base.toNat + 32 * (s.evq.prod % s.evq.size)) e.bytes) s.evq.prodAddr.toNat
            (le 4 ((s.evq.prod + 1) % 2 ^ 32)) ∧
        u.host.intStatus = s.host.intStatus ||| 1#32 ∧ u.evq.unnotified = 0 ∧ u.evq.dropped = s.evq.dropped ∧
        { u with evq := s.evq, host := s.host, hostMem := s.hostMem, now := s.now } = s) ∧
  (∀ (s : State) (t : Nat) (e : EvRec) (rest : List EvRec), s.ringOpen = true → s.evq.store = e :: rest →
      e.severity ≠ 4 → s.evq.size - 4 ≤ s.evq.fill →
      ∃ u, exec (.eventRingWrite t false) s = .next u ∧ u.evq.store = rest ∧
        u.evq.dropped = (s.evq.dropped + 1) % 2 ^ 32 ∧ u.evq.owed = s.evq.owed + 1 ∧ u.evq.prod = s.evq.prod ∧
        u.hostMem = s.hostMem ∧ u.host = s.host) ∧
  (∀ (s : State) (t0 : Nat), s.evq.firstUnnotified = some t0 →
      ∃ u, exec .eventNotifyTimer s = .next u ∧ u.now = max s.now (t0 + s.evq.modUs * 384000) ∧
        u.host.intStatus = s.host.intStatus ||| 1#32 ∧ u.evq.unnotified = 0 ∧ u.evq.firstUnnotified = none ∧
        { u with evq := s.evq, host := s.host, now := s.now } = s) ∧
  (∀ (s : State) (t : Nat), s.evq.store = [] →
      exec (.pcieCreditReturn t) s = .next { s.advance t with host := { s.host with credits := true } })

/-- A FATAL record is written while F is below S, past the four reserved slots, and is notified at once on vectors 0 and 5.
With the ring open and a FATAL event at the front of the store: while F is below S it goes into its slot even when F has
reached S minus 4 and records are owed; HOST_INT_STATUS shows EVQ and FATAL; with F at S it is dropped and counted in the
FATAL_DROPPED owed. In the full pending store of a ring that is not open, a FATAL event replaces the oldest that is not
FATAL; one that is not FATAL is dropped. Rules: R394 (in part), R396 (in part), R395 (in part). -/
def Obligations.FatalEventTakesReservedSlot : Prop :=
  (∀ (s : State) (t : Nat) (e : EvRec) (rest : List EvRec), s.ringOpen = true → s.evq.store = e :: rest →
      e.severity = 4 → s.evq.fill < s.evq.size →
      ∃ u, exec (.eventRingWrite t false) s = .next u ∧ u.evq.store = rest ∧ u.evq.prod = (s.evq.prod + 1) % 2 ^ 32 ∧
        u.hostMem = memWriteBytes unlisted (memWriteBytes unlisted s.hostMem
          (s.evq.base.toNat + 32 * (s.evq.prod % s.evq.size)) e.bytes) s.evq.prodAddr.toNat
            (le 4 ((s.evq.prod + 1) % 2 ^ 32)) ∧
        u.host.intStatus.getLsbD 0 = true ∧ u.host.intStatus.getLsbD 5 = true ∧ u.evq.owed = s.evq.owed) ∧
  (∀ (s : State) (t : Nat) (e : EvRec) (rest : List EvRec), s.ringOpen = true → s.evq.store = e :: rest →
      e.severity = 4 → s.evq.size ≤ s.evq.fill →
      ∃ u, exec (.eventRingWrite t false) s = .next u ∧ u.evq.store = rest ∧ u.evq.owed = s.evq.owed + 1 ∧
        u.evq.owedFatal = min 255 (s.evq.owedFatal + 1) ∧ u.hostMem = s.hostMem) ∧
  (∀ (q : EventRing) (e : EvRec), 256 ≤ q.store.length → e.severity ≠ 4 →
      (q.keep false e).store = q.store ∧ (q.keep false e).dropped = (q.dropped + 1) % 2 ^ 32) ∧
  (∀ (q : EventRing) (e old : EvRec) (before after : List EvRec), q.store = before ++ old :: after →
      (∀ x ∈ before, x.severity = 4) → old.severity ≠ 4 → 256 ≤ q.store.length → e.severity = 4 →
      (q.keep false e).store = before ++ after ++ [e] ∧ (q.keep false e).dropped = (q.dropped + 1) % 2 ^ 32)

/-- Link changes, D3hot, PERST_L and Function Level Reset change the endpoint alone.
A trained link opens the host's access, D3hot closes it, on a device that is no worker. PERST_L and a Function Level Reset
return the event-ring registers but EVQ_DROPPED and EVQ_SEQ_NEXT, the interrupt status, the MSI-X table and every mailbox to
reset, keep SYS_SCRATCH and the pending events, end running DMA channels RESET, and let the commands in execution run on
with their responses discarded; PERST_L takes the link down, a Function Level Reset keeps it. Rules: R379 (in part), R383
(in part), R388 (in part), R374 (in part), Table HOST-5. -/
def Obligations.LinkAndEndpointResets : Prop :=
  (∀ (s : State) (t : Nat), s.isWorker = false → s.boot.stage ≠ 0 → s.evq.store = [] →
      exec (.pcieLinkChange t true) s = .next { s.advance t with
        host := { s.host with linkUp := true, perstLow := false, credits := true } }) ∧
  (∀ (s : State) (t : Nat), s.isWorker = false → s.boot.stage ≠ 0 →
      exec (.pcieLinkChange t false) s = .next { s.advance t with host := { s.host with linkUp := false } }) ∧
  (∀ (s : State) (t : Nat), s.host.linkUp = true →
      exec (.pcieD3hotChange t true) s = .next { s.advance t with host := { s.host with d3hot := true } }) ∧
  (∀ (s : State) (t : Nat), s.host.linkUp = true → s.evq.store = [] →
      exec (.pcieD3hotChange t false) s = .next { s.advance t with host := { s.host with d3hot := false } }) ∧
  (∀ (s : State) (t : Nat) (i : Instr) (down : Bool), (i = .perst t ∧ down = true) ∨ (i = .functionLevelReset t ∧ down = false) →
      ∃ u, exec i s = .next u ∧ u.host.linkUp = (if down then false else s.host.linkUp) ∧ u.host.intStatus = 0#32 ∧
        u.host.msix = [] ∧ u.host.msixPending = 0#32 ∧ (∀ n, u.host.mailbox n = {}) ∧
        u.host.scratch = s.host.scratch ∧ u.evq.base = 0#64 ∧ u.evq.prodAddr = 0#64 ∧ u.evq.ctrl = 0x0001000C#32 ∧
        u.evq.prod = 0 ∧ u.evq.cons = 0 ∧ u.evq.running = false ∧ u.evq.consErr = false ∧
        u.evq.dropped = s.evq.dropped ∧ u.evq.seqNext = s.evq.seqNext ∧ u.evq.store = s.evq.store ∧
        u.cmd.running.map (fun r => r.cmd) = s.cmd.running.map (fun r => r.cmd) ∧
        (∀ r ∈ u.cmd.running, r.cascade = false → r.orphan = true) ∧
        (∀ p ∈ u.dma, p.2.state = .idle ∧ p.2.endCause = 5) ∧
        { u with host := s.host, evq := s.evq, cmd := s.cmd, dma := s.dma, now := s.now } = s)

/-- The commands carry the opcodes of Table CMD-4 and the target rules of Table CMD-2.
The opcodes of the command rows, in order, are those of Table CMD-4 and the chapters' command tables; each is known to check
1 of R408; and the rows whose rule is not any target are those of Table CMD-2, of R427 and of R409's chain reset. Rules:
16_command_reference.md Table CMD-4 and the command tables of the other chapters, Table CMD-2. -/
def Obligations.CommandTable : Prop :=
  commandRows.map (fun p => p.2.opcode) =
    [0x0101, 0x0102, 0x0103, 0x0104, 0x0110, 0x0111, 0x0120, 0x0121, 0x0122, 0x0140, 0x0141, 0x0142, 0x0143,
     0x0201, 0x0202, 0x0203, 0x0204, 0x0205, 0x0206, 0x0207, 0x0208, 0x0209, 0x020A,
     0x0301, 0x0302, 0x0303, 0x0304, 0x0305, 0x0306, 0x0307, 0x0308, 0x0309, 0x030A, 0x030B,
     0x030C, 0x030D, 0x030E, 0x030F, 0x0310] ++
    [0x0401, 0x0402, 0x0403, 0x0404, 0x0405, 0x0406, 0x0407, 0x0408, 0x0409, 0x040A,
     0x0501, 0x0502, 0x0503, 0x0504, 0x0505, 0x0601, 0x0602, 0x0603, 0x0604,
     0x0701, 0x0702, 0x0703, 0x0704, 0x0705, 0x0706, 0x0707,
     0x0801, 0x0802, 0x0803, 0x0804, 0x0805, 0x0806, 0x0807, 0x0808, 0x0809,
     0x0901, 0x0902, 0x0903, 0x0904, 0x0905, 0x0906, 0x0907, 0x0908] ++
    [0x0A01, 0x0A02, 0x0A03, 0x0A04, 0x0A05, 0x0A06, 0x0B01, 0x0B02, 0x0B03, 0x0B04, 0x0B05,
     0x0C01, 0x0C02, 0x0C03, 0x0C04, 0x0C05, 0x0C06, 0x0C07, 0x0C08, 0x0C09,
     0x0D01, 0x0D02, 0x0D03, 0x0E01, 0x0E02, 0x0E03, 0x0E04, 0x0F01, 0x0F02, 0x0F03, 0x0F04, 0x0F05] ∧
  (∀ p ∈ commandRows, opcodeKnown p.2.opcode = true) ∧
  (commandRows.filter (fun p => p.2.rule == .allOnly)).map (fun p => p.2.opcode) =
    [0x0201, 0x0204, 0x0205, 0x0302, 0x030E, 0x0405, 0x0407, 0x0707] ∧
  (commandRows.filter (fun p => p.2.rule == .managerOnly)).map (fun p => p.2.opcode) =
    [0x0303, 0x0501, 0x0502, 0x0503, 0x0504, 0x0505, 0x0601, 0x0602, 0x0603, 0x0604,
     0x0701, 0x0702, 0x0703, 0x0704, 0x0705, 0x0A01, 0x0A02, 0x0A03, 0x0A04, 0x0A06,
     0x0B01, 0x0B02, 0x0B03, 0x0B04, 0x0B05]

/-- A command that fails its length, target or role check ends with that status, for every command.
For every command row: when SYSC starts it and a check of its envelope fails, the next state is the state with the response
written, its status that of the first check that fails, and nothing else; when another command or none is next, nothing
changes. The checks in order: a Payload length above 4,096 or below the layout's ends BAD_PARAM; on a device that is not the
manager of a chain a target other than 0 and 0xFFFF ends BAD_PARAM; on a manager a position above its own ends BAD_PARAM and
one at which no device has joined NO_DEVICE; a manager-only command on a worker and a 0xFFFF-only command sent to fewer
devices end NOT_PERMITTED. Rules: R400 (in part), R407 (in part), R408 (in part), R319 (in part). -/
def Obligations.CommandEnvelope : Prop :=
  (∀ (p : Instr × CmdSpec) (s : State) (r : Running) (st : Nat), p ∈ commandRows → TurnedAway s r p.2 st →
      exec p.1 s = .next (s.respond r ⟨st, []⟩)) ∧
  (∀ (p : Instr × CmdSpec) (s : State), p ∈ commandRows →
      s.nextCommand.map (fun r => r.cmd.opcode) ≠ some p.2.opcode → exec p.1 s = .next s) ∧
  (∀ (s : State) (sp : CmdSpec) (r : Running),
      (r.cmd.length > 4096 ∨ r.cmd.length < sp.minLen r.cmd.payload) → s.envelopeCheck sp r = some 3) ∧
  (∀ (s : State) (sp : CmdSpec) (r : Running), sp.minLen r.cmd.payload ≤ r.cmd.length → r.cmd.length ≤ 4096 →
      r.cascade = false → s.role ≠ .manager → r.cmd.target ≠ 0 → r.cmd.target ≠ 0xFFFF →
      s.envelopeCheck sp r = some 3) ∧
  (∀ (s : State) (sp : CmdSpec) (r : Running), sp.minLen r.cmd.payload ≤ r.cmd.length → r.cmd.length ≤ 4096 →
      r.cascade = false → s.role = .manager → s.lcl.position < r.cmd.target → r.cmd.target ≠ 0xFFFF →
      s.envelopeCheck sp r = some 3) ∧
  (∀ (s : State) (sp : CmdSpec) (r : Running), sp.minLen r.cmd.payload ≤ r.cmd.length → r.cmd.length ≤ 4096 →
      r.cascade = false → s.role = .manager → r.cmd.target < s.lcl.position → r.cmd.target ≠ 0xFFFF →
      (Tab.get s.lcl.positions r.cmd.target {}).state ≠ .joined → s.envelopeCheck sp r = some 0x0B01) ∧
  (∀ (s : State) (sp : CmdSpec) (r : Running), sp.minLen r.cmd.payload ≤ r.cmd.length → r.cmd.length ≤ 4096 →
      s.targetCheck r = none → s.role = .manager → sp.rule = .allOnly → r.cmd.target ≠ 0xFFFF →
      s.envelopeCheck sp r = some 4) ∧
  (∀ (s : State) (sp : CmdSpec) (r : Running), sp.minLen r.cmd.payload ≤ r.cmd.length → r.cmd.length ≤ 4096 →
      s.targetCheck r = none → s.role = .worker → sp.rule = .managerOnly → s.envelopeCheck sp r = some 4)

/-- A command that ends with a status other than OK changes nothing but its response, PWR_SLEEP's count and SEC_BOOT_LOAD's
fault aside.
On a STANDALONE device, for every command row that SYSC starts for a mailbox in EXECUTING: it answers a next state, and if
that state's mailbox holds a response whose Status field is not zero, then everything but the command unit and the host
interface (the mailbox, its interrupt bit and its vector) is as before, except that a refused PWR_SLEEP is counted in Dawn's
record and a failed SEC_BOOT_LOAD sets the boot fault. Rules: R408 (in part), R401 (in part). -/
def Obligations.FailedCommandChangesNothing : Prop :=
  ∀ (p : Instr × CmdSpec) (s : State) (r : Running), p ∈ commandRows → Runs s r p.2 → s.role = .standalone → r.cascade = false →
    r.orphan = false → (s.host.mailbox r.mbx).state = .executing →
    ∃ t, exec p.1 s = .next t ∧
      ((t.host.mailbox r.mbx).state = .response → u16 (t.host.mailbox r.mbx).area 8 ≠ 0 →
        { t with
          cmd := s.cmd, host := s.host, dawn := if p.1 = .pwrSleep then s.dawn else t.dawn
          boot := if p.1 = .secBootLoad then s.boot else t.boot } = s)

/-- A command's response repeats its header with RESPONSE, Status and the length of the response payload.
SYS_ECHO from a mailbox of the device, run here alone: the mailbox area then begins with the header (opcode, tag, flags with
RESPONSE set, payload length, Status OK, target, four zero bytes) and the payload, the mailbox is in RESPONSE, its bit of
HOST_INT_STATUS is set, its vector is sent, or pending where masked, the command is no longer without a response, and every
other mailbox and everything beyond the command unit and the host interface is as before. For a command over the cascade the
same bytes go to the manager instead; a command whose mailbox was reset leaves its response unwritten. Rules: R399. -/
def Obligations.CommandResponse : Prop :=
  (∀ (s : State) (r : Running), Runs s r specSysEcho → s.relayTargets specSysEcho r = [] → r.cascade = false →
      r.orphan = false →
      ∃ t, exec .sysEcho s = .next t ∧
        (t.host.mailbox r.mbx).area.take (16 + r.cmd.payload.length) =
          le 2 r.cmd.opcode ++ le 2 r.cmd.tag ++ le 2 (r.cmd.flags ||| 1) ++ le 2 r.cmd.payload.length ++ le 2 0 ++
            le 2 r.cmd.target ++ [0#8, 0#8, 0#8, 0#8] ++ r.cmd.payload ∧
        (t.host.mailbox r.mbx).state = .response ∧
        t.host.intStatus = s.host.intStatus ||| bitAt 32 (1 + r.mbx) ∧
        (if (s.host.entry (1 + r.mbx)).control.getLsbD 0 = true then
            t.host.sent = s.host.sent ∧ t.host.msixPending = s.host.msixPending ||| bitAt 32 (1 + r.mbx)
          else t.host.sent.length = s.host.sent.length + 1 ∧ t.host.msixPending = s.host.msixPending) ∧
        (∀ x ∈ t.cmd.running, x.order ≠ r.order) ∧
        (∀ m, m ≠ r.mbx → t.host.mailbox m = s.host.mailbox m) ∧
        { t with cmd := s.cmd, host := s.host } = s) ∧
  (∀ (s : State) (r : Running), Runs s r specSysEcho → s.relayTargets specSysEcho r = [] → r.cascade = true →
      ∃ t, exec .sysEcho s = .next t ∧
        t.lcl.sent = s.lcl.sent ++ [⟨s.lcl.dCfg - 1, 1,
          le 2 r.cmd.opcode ++ le 2 r.cmd.tag ++ le 2 (r.cmd.flags ||| 1) ++ le 2 r.cmd.payload.length ++ le 2 0 ++
            le 2 r.cmd.target ++ [0#8, 0#8, 0#8, 0#8] ++ r.cmd.payload⟩] ∧
        t.host = s.host) ∧
  (∀ (s : State) (r : Running), Runs s r specSysEcho → s.relayTargets specSysEcho r = [] → r.cascade = false →
      r.orphan = true → ∃ t, exec .sysEcho s = .next t ∧ { t with cmd := s.cmd } = s)

/-- A manager relays a command to the worker it names, or to every joined worker after running it itself.
On a manager, any command of a rule other than manager-only: addressed to a joined worker's position it goes there and does
not run here; addressed to 0xFFFF it goes to every joined worker besides running here. SYS_ECHO to one worker sends it one
message of channel 0 and waits for the answer until RELAY_TIMEOUT_MS; a deferred command's reply waits for its completion.
Rules: R319 (in part), R403 (in part), R407 (in part). -/
def Obligations.CommandRelay : Prop :=
  (∀ (s : State) (sp : CmdSpec) (r : Running), s.role = .manager → r.cascade = false → sp.rule ≠ .managerOnly →
      r.cmd.target < s.lcl.position → r.cmd.target ≠ 0xFFFF →
      s.relayTargets sp r = [r.cmd.target] ∧ s.runsHere r = false) ∧
  (∀ (s : State) (sp : CmdSpec) (r : Running), s.role = .manager → r.cascade = false → sp.rule ≠ .managerOnly →
      r.cmd.target = 0xFFFF → sp.noRelay r.cmd.payload = false →
      s.relayTargets sp r = s.joinedWorkers ∧ s.runsHere r = true) ∧
  (∀ (s : State) (sp : CmdSpec) (r : Running), s.role = .standalone →
      s.relayTargets sp r = [] ∧ s.runsHere r = true) ∧
  (∀ (s : State) (r : Running), s.nextCommand = some r → r.cmd.opcode = 0x0101 → r.cmd.length ≤ 4096 →
      s.role = .manager → r.cascade = false → r.cmd.target < s.lcl.position → r.cmd.target ≠ 0xFFFF →
      (Tab.get s.lcl.positions r.cmd.target {}).state = .joined →
      exec .sysEcho s = .next { s with
        lcl := { s.lcl with sent := s.lcl.sent ++ [⟨r.cmd.target, 0, relayBytes r.cmd⟩] }
        cmd := s.cmd.setPhase r.order (.relayed none
          { broadcast := false, targets := [r.cmd.target], sentAt := s.now
            deadline := s.now + s.lcl.relayTimeoutMs * Config.ms + 0 }) }) ∧
  (∀ (s : State) (sp : CmdSpec) (r : Running) (e : CmdEffect), e.reply.status = 0 → s.relayTargets sp r = [] →
      e.defer = true →
      s.close sp r e = { e.state with cmd := e.state.cmd.setPhase r.order (.deferred e.reply) })

/-- SYS_ECHO, SYS_GET_INFO, SYS_RESET, SYS_SET_EVENT_FILTER and SYS_NV_GET_INFO complete with their payloads.
SYS_ECHO answers its payload and changes nothing; SYS_GET_INFO answers the 64 bytes of Table CMD-6; SYS_RESET schedules the
reset DELAY_MS after its response; SCOPE 1 away from a manager ends NOT_PERMITTED; SYS_SET_EVENT_FILTER sets the lowest
severity of every group and answers the filter in force; SYS_NV_GET_INFO answers Table CMD-7. Rules: R409 (in part),
16_command_reference.md Tables CMD-6 CMD-7. -/
def Obligations.SystemCommands : Prop :=
  (∀ (s : State) (r : Running), Runs s r specSysEcho →
      exec .sysEcho s = .next (s.close specSysEcho r (.ok s r.cmd.payload))) ∧
  (∀ (s : State) (r : Running), Runs s r specSysGetInfo →
      exec .sysGetInfo s = .next (s.close specSysGetInfo r (.ok s
        (le 2 0x6440 ++ [0x21#8] ++ le 1 (roleCode s.role) ++ le 4 s.boot.release ++ le 8 Config.uid.toNat ++
          le 1 s.position ++ le 1 s.boot.source ++ le 1 s.dawn.bootCause.toNat ++
          le 1 ((if s.fuses.oemKeyHash.isSome then 1 else 0) + (if s.fuses.sealBit then 2 else 0) +
            (if s.fuses.debugLock then 4 else 0) + (if s.boot.trial then 8 else 0)) ++
          le 4 (if s.nv.bankA.valid then s.nv.bankA.release else 0) ++
          le 4 (if s.nv.bankB.valid then s.nv.bankB.release else 0) ++ zeros 4 ++
          le 8 ((s.now - s.boot.releasedAt) / 384000) ++ fit 16 s.boot.digest ++ le 4 s.cmd.taken ++ zeros 4)))) ∧
  (∀ (s : State) (r : Running), Runs s r specSysReset → u8 r.cmd.payload 1 = 0xA5 → 1 ≤ u16 r.cmd.payload 2 →
      u16 r.cmd.payload 2 ≤ 1000 →
      (u8 r.cmd.payload 0 = 0 ∨ (u8 r.cmd.payload 0 = 1 ∧ s.role = .manager ∧ r.cascade = false ∧
        (r.cmd.target = 0xFFFF ∨ r.cmd.target = s.lcl.position))) →
      exec .sysReset s = .next (s.close specSysReset r (.ok { s with cmd := { s.cmd with
        sysReset := some { due := s.now + u16 r.cmd.payload 2 * 384000000, chain := u8 r.cmd.payload 0 == 1 } } } []))) ∧
  (∀ (s : State) (r : Running), Runs s r specSysReset → u8 r.cmd.payload 0 = 1 → s.role ≠ .manager →
      exec .sysReset s = .next (s.respond r ⟨4, []⟩)) ∧
  (∀ (s : State) (r : Running), Runs s r specSysReset → u8 r.cmd.payload 0 = 0 → u8 r.cmd.payload 1 ≠ 0xA5 →
      exec .sysReset s = .next (s.respond r ⟨3, []⟩)) ∧
  (∀ (s : State) (r : Running), Runs s r specSysSetEventFilter → (∀ k : Fin 15, u8 r.cmd.payload (k.val + 1) ≤ 4) →
      ∃ t, exec .sysSetEventFilter s = .next (s.close specSysSetEventFilter r (.ok t ([0#8] ++ bytesAt r.cmd.payload 1 15))) ∧
        (∀ k : Fin 15, t.evq.minSeverity (k.val + 1) = u8 r.cmd.payload (k.val + 1)) ∧
        { t with evq := { t.evq with filter := s.evq.filter } } = s) ∧
  (∀ (s : State) (r : Running), Runs s r specSysNvGetInfo →
      exec .sysNvGetInfo s = .next (s.close specSysNvGetInfo r (.ok s
        (le 4 s.nv.hostWrites ++ le 2 s.nv.spareTotal ++ le 2 s.nv.spareUsed ++
          [if 0 ≤ s.thermal.tj ∧ s.thermal.tj ≤ 10000 then 1#8 else 0#8] ++ le 1 s.nv.writer.code ++ zeros 6))))

/-- SYS_NV_WRITE, SYS_FW_INSTALL, SYS_FW_ACTIVATE and SYS_FW_CONFIRM start, and SYS_NV_WRITE completes with its bytes in the
host area.
With their checks met (an image whose header is not valid ends IMAGE_INVALID, one whose signatures fail AUTH_FAIL),
SYS_NV_WRITE, SYS_FW_INSTALL and SYS_FW_CONFIRM become the writer of non-volatile memory and their replies wait; an install
and a confirm first mark the bank invalid and raise EV_SYS_FW_CHANGED; a confirm from the first bank ends OK with LENGTH 0;
SYS_FW_ACTIVATE sets the trial mark and the reset 1 ms later, 11 ms for a manager of a chain. With a writer in progress a
write ends BUSY. When SYS_NV_WRITE is done, the host area holds LENGTH bytes of the staging pool and every other byte of it
as before. Rules: R405 (in part), R411 (in part), R412 (in part), R413 (in part), R414 (in part), R415 (in part). -/
def Obligations.NonVolatileAndFirmwareCommands : Prop :=
  (∀ (s : State) (r : Running), Runs s r specSysNvWrite → 1 ≤ u32 r.cmd.payload 8 → u32 r.cmd.payload 8 ≤ 786432 →
      u32 r.cmd.payload 0 + u32 r.cmd.payload 8 ≤ 0x400000 → 0x300000 ≤ u32 r.cmd.payload 4 →
      u32 r.cmd.payload 4 + u32 r.cmd.payload 8 ≤ 0x3C0000 → s.nv.writer = .idle → 0 ≤ s.thermal.tj →
      s.thermal.tj ≤ 10000 →
      exec .sysNvWrite s = .next (s.close specSysNvWrite r
        (.later { s with nv := { s.nv with writer := .nvWrite, writerStart := s.now } } []))) ∧
  (∀ (s : State) (r : Running), Runs s r specSysNvWrite → 1 ≤ u32 r.cmd.payload 8 → u32 r.cmd.payload 8 ≤ 786432 →
      u32 r.cmd.payload 0 + u32 r.cmd.payload 8 ≤ 0x400000 → 0x300000 ≤ u32 r.cmd.payload 4 →
      u32 r.cmd.payload 4 + u32 r.cmd.payload 8 ≤ 0x3C0000 → s.nv.writer ≠ .idle →
      exec .sysNvWrite s = .next (s.respond r ⟨1, []⟩)) ∧
  (∀ (s : State) (r : Running) (img : List Byte), Runs s r specSysFwInstall → u8 r.cmd.payload 8 ≤ 1 →
      u32 r.cmd.payload 0 % 4096 = 0 → u32 r.cmd.payload 0 + u32 r.cmd.payload 4 ≤ 0x400000 →
      s.boot.source ≠ u8 r.cmd.payload 8 → 4096 ≤ u32 r.cmd.payload 4 → u32 r.cmd.payload 4 ≤ 1048576 →
      s.staged (u32 r.cmd.payload 0) (u32 r.cmd.payload 4) = some img →
      s.nv.writer = .idle → 0 ≤ s.thermal.tj → s.thermal.tj ≤ 10000 →
      exec .sysFwInstall s = .next (if imageHeaderOk img = true ∧ imageSigned img s.role = true then
          s.close specSysFwInstall r (.later
            ((({ s with nv := { s.nv with writer := .fwInstall, writerStart := s.now } } : State).markBank
              (u8 r.cmd.payload 8) false).fwChanged (u8 r.cmd.payload 8) 0) [])
        else s.respond r ⟨if imageHeaderOk img = true then 9 else 0x0102, []⟩)) ∧
  (∀ (s : State) (r : Running), Runs s r specSysFwActivate → u8 r.cmd.payload 0 ≤ 1 → u8 r.cmd.payload 1 = 0xA5 →
      (s.nv.bank (u8 r.cmd.payload 0)).valid = true → s.boot.source ≠ u8 r.cmd.payload 0 →
      exec .sysFwActivate s = .next (s.close specSysFwActivate r (.ok { s with
        dawn := { s.dawn with trialMark := some (u8 r.cmd.payload 0) }
        cmd := { s.cmd with fwReset := some ⟨s.now + 384000000 +
          (if s.role = .manager ∧ r.cmd.target = 0xFFFF then 10 * 384000000 else 0), false⟩ } } []))) ∧
  (∀ (s : State) (r : Running), Runs s r specSysFwConfirm → u8 r.cmd.payload 0 = 0xA5 → s.boot.source = s.firstBank →
      exec .sysFwConfirm s = .next (s.close specSysFwConfirm r (.ok s (le 4 s.boot.release ++ le 4 0 ++ le 4 0)))) ∧
  (∀ (s : State) (r : Running), Runs s r specSysFwConfirm → u8 r.cmd.payload 0 = 0xA5 → s.boot.source ≤ 1 →
      s.boot.source ≠ s.firstBank → s.nv.writer = .idle → 0 ≤ s.thermal.tj → s.thermal.tj ≤ 10000 →
      exec .sysFwConfirm s = .next (s.close specSysFwConfirm r (.later
        ((({ s with nv := { s.nv with writer := .fwConfirm, writerStart := s.now } } : State).markBank
          s.firstBank false).fwChanged s.firstBank 1) []))) ∧
  (∀ (s : State) (r : Running) (t : Nat) (mbx : Fin 4) (cascade : Bool) (own : Reply), s.memoriesWf = true →
      s.cmd.running = [r] → r.mbx = mbx.val → r.cascade = cascade → r.cmd.opcode = 0x0111 → r.phase = .deferred own →
      u32 r.cmd.payload 4 + u32 r.cmd.payload 8 ≤ 2 ^ 32 →
      ∃ (u : State) (rep : Reply), exec (.deferredCommandComplete t mbx cascade (.done 0)) s = .next (u.respond r rep) ∧
        rep.status = 0 ∧ u.nv.writer = .idle ∧ u.nv.hostWrites = s.nv.hostWrites + 1 ∧
        (∀ k, k < u32 r.cmd.payload 8 → memRead erased u.nv.hostArea (u32 r.cmd.payload 4 + k) =
          memRead unlisted s.mem (0x11800000 + u32 r.cmd.payload 0 + k)) ∧
        (∀ a, (a < u32 r.cmd.payload 4 ∨ u32 r.cmd.payload 4 + u32 r.cmd.payload 8 ≤ a) →
          memRead erased u.nv.hostArea a = memRead erased s.nv.hostArea a) ∧
        { u with nv := s.nv, now := s.now } = s)

/-- Scheduled resets and HOST_RESET reset every domain but Dawn with cause HOST_RESET, and a barrier lets the first command go.
At its due instant a scheduled SYS_RESET or trial reset, or a write of HOST_RESET with KEY 0xA5 and SOFT_RESET, resets every
domain except Dawn and non-volatile memory: BOOT_CAUSE is HOST_RESET, the boot ROM is at its first stage, READY is clear,
the units are at their reset values, straps stay as sampled. A chain reset sends SYS_RESET to every joined worker and the
manager's own follows 10 ms later. A HOST_RESET write without the key, and any with the link down, changes nothing but time.
BARRIER_RELEASE starts a command that has waited behind its barrier once no earlier one lacks a response. Rules: R34 (in
part), R382 (in part), R404 (in part), R409 (in part), R413 (in part). -/
def Obligations.ResetsAndBarriers : Prop :=
  (∀ (s : State) (d : Nat), s.cmd.sysReset = some { due := d, chain := false } →
      ∃ t, exec .sysResetDelayExpiry s = .next t ∧ t.now = max s.now d ∧ t.dawn.bootCause = 4#8 ∧ t.boot.stage = 1 ∧
        t.boot.ready = false ∧ t.boot.role = s.boot.role ∧ t.boot.bootsrc = s.boot.bootsrc ∧ t.radio = {} ∧ t.path = {} ∧
        t.tx = {} ∧ t.beam = {} ∧ t.hzn = {} ∧ t.dmd = {} ∧ t.cal = {} ∧ t.dpd = {} ∧ t.filt = {} ∧ t.halo = {} ∧
        t.cmd = {} ∧ t.evq = {} ∧ t.mem = [] ∧ t.hostMem = s.hostMem ∧ t.fuses = s.fuses ∧
        t.nv.hostArea = s.nv.hostArea ∧ t.nv.regRecord = s.nv.regRecord ∧ t.dawn.trialMark = s.dawn.trialMark ∧
        t.pending = s.pending) ∧
  (∀ (s : State) (d : Nat), s.cmd.sysReset = some { due := d, chain := true } →
      exec .sysResetDelayExpiry s = .next { s.advance d with
        lcl := { s.lcl with sent := s.lcl.sent ++ s.joinedWorkers.map (fun w => ⟨w, 0, workerResetBytes⟩) }
        cmd := { s.cmd with sysReset := some { due := d + 10 * 384000000, chain := false } } }) ∧
  (∀ (s : State) (d : Nat), s.cmd.fwReset = some { due := d, chain := false } →
      ∃ t, exec .fwTrialReset s = .next t ∧ t.now = max s.now d ∧ t.dawn.bootCause = 4#8 ∧ t.boot.stage = 1 ∧
        t.dawn.trialMark = s.dawn.trialMark ∧ t.boot.ready = false ∧ t.cmd = {} ∧ t.radio = {} ∧ t.mem = []) ∧
  (∀ (s : State) (t : Nat) (v : Word), s.hostAccess = true → v.toNat % 256 = 0xA5 → v.getLsbD 8 = true →
      ∃ u, exec (.hostReset t v) s = .next u ∧ u.dawn.bootCause = 4#8 ∧ u.boot.stage = 1 ∧ u.boot.ready = false ∧
        u.cmd = {} ∧ u.radio = {} ∧ u.mem = [] ∧ u.hostMem = s.hostMem ∧ u.dawn.log = s.dawn.log) ∧
  (∀ (s : State) (t : Nat) (v : Word), (v.toNat % 256 ≠ 0xA5 ∨ v.getLsbD 8 = false) →
      exec (.hostReset t v) s = .next (s.advance t)) ∧
  (∀ (s : State) (r : Running) (rest : List Running) (t : Nat), s.cmd.running = r :: rest → r.phase = .barrier →
      exec (.barrierRelease t) s = .next { s.advance t with cmd := s.cmd.setPhase r.order .ready })

/-- A worker's answer completes a relayed command, silence repeats it once and then ends it TIMEOUT, and a worker runs no tag
twice.
For a command relayed to one position: the worker's response is written unchanged; after 1 ms without one the command is
sent once more; at the relay timeout the response is TIMEOUT and RELAY_ERR of the position counts. A worker accepts a
command of a new tag and counts it taken; one that repeats the previous tag of its mailbox is answered from the stored
response and not run. Rules: R319 (in part), R406 (in part), 12_lemila_cascade.md Table LCL-4. -/
def Obligations.RelayedCommands : Prop :=
  (∀ (s : State) (r : Running) (rel : Relay) (t pos status : Nat) (mbx : Fin 4) (payload : List Byte),
      s.findRelayed mbx.val = some (r, none, rel) → rel.targets = [pos] → rel.answers = [] → s.ownBusy r = false →
      exec (.relayResponse t mbx r.cmd.tag pos status payload) s =
        .next ((s.advance t).respond r ⟨status, payload⟩)) ∧
  (∀ (s : State) (r : Running) (rel : Relay) (pos : Nat) (mbx : Fin 4),
      s.findRelayed mbx.val = some (r, none, rel) → rel.targets = [pos] → rel.answers = [] → rel.resent = false →
      exec (.relayResend mbx) s = .next { s.advance (rel.sentAt + 384000000) with
        lcl := { s.lcl with sent := s.lcl.sent ++ [⟨pos, 0, relayBytes r.cmd⟩] }
        cmd := s.cmd.setPhase r.order (.relayed none { rel with resent := true }) }) ∧
  (∀ (s : State) (r : Running) (rel : Relay) (pos : Nat) (mbx : Fin 4),
      s.findRelayed mbx.val = some (r, none, rel) → rel.targets = [pos] → rel.answers = [] → rel.reply = none →
      s.ownBusy r = false →
      exec (.relayTimeout mbx) s =
        .next (((s.advance rel.deadline).countRelayErr [pos]).respond r ⟨0x000A, []⟩)) ∧
  (∀ (s : State) (t reached : Nat) (mbx : Fin 4) (bytes : List Byte), s.isWorker = true → s.boot.ready = true →
      (Tab.find? s.cmd.relayIn mbx.val).map (fun x => x.tag) ≠ some (cmdOf bytes).tag →
      opcodeKnown (cmdOf bytes).opcode = true → s.cmd.running = [] →
      exec (.workerCommandReceive t mbx bytes reached) s = .next { s.advance t with cmd := { s.cmd with
        running := [{ mbx := mbx.val, cascade := true, cmd := cmdOf bytes, order := s.cmd.nextOrder, reached := reached }]
        nextOrder := s.cmd.nextOrder + 1
        taken := (s.cmd.taken + 1) % 2 ^ 32
        relayIn := Tab.set s.cmd.relayIn mbx.val ⟨(cmdOf bytes).tag, none⟩ } }) ∧
  (∀ (s : State) (t reached : Nat) (mbx : Fin 4) (bytes : List Byte) (rep : Reply), s.isWorker = true →
      s.boot.ready = true → Tab.find? s.cmd.relayIn mbx.val = some ⟨(cmdOf bytes).tag, some rep⟩ →
      exec (.workerCommandReceive t mbx bytes reached) s = .next ((s.advance t).toManager 1
        (responseHeader (cmdOf bytes) rep.status rep.payload.length ++ rep.payload)))

/-- Ports, streams, real-time control, eCPRI messages, records, outcomes and the line.
FH_SET_PORT, FH_SET_STREAM, FH_SET_RECORDS and FH_GET_PORT_STATUS set and return what Table FH-13 gives; a change of a
port's state raises EV_FH_LINK; a frame is accepted and counted, or counted as an FCS error or a discard. A type-2 message
with its E bit that finds room is processed at once; before READY or without its E bit it is discarded. An unsupported
message is counted and raises fault 0x400; a type-5 request is answered while time is usable and counted otherwise; a
Synchronization Request is acknowledged. The frame of records under assembly leaves as one type-3 message; an outcome of a
mailbox request raises EV_TX_OUTCOME; a frame that ends frees the line. A completed IQ frame takes the next SEQ_ID and is
queued, timed or untimed, or dropped whole and counted when it does not fit. Rules: R417 (in part), R418 (in part), R419 (in
part), R420 (in part), R422 (in part), R423 (in part), R424 (in part), R426 (in part), R428 (in part), R431 (in part), R432
(in part), R433 (in part). -/
def Obligations.FronthaulTraffic : Prop :=
  (∀ (s : State) (r : Running), Runs s r specFhSetPort → u8 r.cmd.payload 0 ≤ 3 → u8 r.cmd.payload 1 = 1 →
      u8 r.cmd.payload 2 = (if (s.fh.port (u8 r.cmd.payload 0)).fec = true then 1 else 0) →
      u16 r.cmd.payload 4 % 4096 ≤ 4094 → u8 r.cmd.payload 8 % 2 = 0 →
      ∃ t, exec .fhSetPort s = .next (s.close specFhSetPort r (.ok t [])) ∧
        t.fh.port (u8 r.cmd.payload 0) = { s.fh.port (u8 r.cmd.payload 0) with
          enable := true, vlan := u16 r.cmd.payload 4, srcMac := some (beNat r.cmd.payload 8 6)
          dstMac := beNat r.cmd.payload 14 6, boardTxPs := u16 r.cmd.payload 0x14, boardRxPs := u16 r.cmd.payload 0x16 } ∧
        (∀ p : Fin 4, p.val ≠ u8 r.cmd.payload 0 → t.fh.port p = s.fh.port p) ∧ { t with fh := s.fh } = s) ∧
  (∀ (s : State) (r : Running), Runs s r specFhSetPort → (3 < u8 r.cmd.payload 0 ∨ 1 < u8 r.cmd.payload 1 ∨
      1 < u8 r.cmd.payload 2 ∨ u16 r.cmd.payload 4 % 4096 = 4095 ∨ u8 r.cmd.payload 8 % 2 = 1) →
      exec .fhSetPort s = .next (s.respond r ⟨3, []⟩)) ∧
  (∀ (s : State) (r : Running), Runs s r specFhSetPort → u8 r.cmd.payload 0 ≤ 3 → u8 r.cmd.payload 1 = 0 →
      u8 r.cmd.payload 2 ≤ 1 → u16 r.cmd.payload 4 % 4096 ≤ 4094 → u8 r.cmd.payload 8 % 2 = 0 →
      ∃ t, exec .fhSetPort s = .next (s.close specFhSetPort r (.ok t [])) ∧
        (t.fh.port (u8 r.cmd.payload 0)).enable = false ∧ (t.fh.port (u8 r.cmd.payload 0)).sending = none ∧
        t.portUp (u8 r.cmd.payload 0) = false) ∧
  (∀ (s : State) (r : Running), Runs s r specFhSetStream → u8 r.cmd.payload 0 ≤ 31 → u8 r.cmd.payload 1 = 1 →
      s.streamOk (parseStream r.cmd.payload) = true → (s.fh.port (u8 r.cmd.payload 4)).enable = true → s.fh.streams = [] →
      (s.portNeed [(0, parseStream r.cmd.payload)] (u8 r.cmd.payload 4)).1 ≤
        25000000000 * (s.portNeed [(0, parseStream r.cmd.payload)] (u8 r.cmd.payload 4)).2 →
      exec .fhSetStream s = .next (s.close specFhSetStream r (.ok
        { s with fh := { s.fh with streams := [(u8 r.cmd.payload 0, parseStream r.cmd.payload)] } }
        (leSat 2 (s.minLatency (parseStream r.cmd.payload)) ++
          leSat 2 (portLoad (s.portNeed [(0, parseStream r.cmd.payload)] (u8 r.cmd.payload 4))))))) ∧
  (∀ (s : State) (r : Running), Runs s r specFhSetStream → u8 r.cmd.payload 0 ≤ 31 → u8 r.cmd.payload 1 ≤ 1 →
      s.streamOk (parseStream r.cmd.payload) = true → (s.fh.port (u8 r.cmd.payload 4)).enable = false →
      exec .fhSetStream s = .next (s.respond r ⟨0x0A02, []⟩)) ∧
  (∀ (s : State) (r : Running), Runs s r specFhSetRecords → (∀ k : Fin 4, u8 r.cmd.payload k ≤ 3) → u8 r.cmd.payload 4 ≤ 10 →
      s.fh.results = [] → s.dmd.pool = [] →
      exec .fhSetRecords s = .next (s.close specFhSetRecords r (.ok { s with fh := { s.fh with
        portOrder := (List.range 4).map (fun k => u8 r.cmd.payload k), recHoldUs := u8 r.cmd.payload 4 } } []))) ∧
  (∀ (s : State) (r : Running), Runs s r specFhSetRecords → 10 < u8 r.cmd.payload 4 →
      exec .fhSetRecords s = .next (s.respond r ⟨3, []⟩)) ∧
  (∀ (s : State) (r : Running), Runs s r specFhGetPortStatus →
      ∃ t p, exec .fhGetPortStatus s = .next (s.close specFhGetPortStatus r (.ok t p)) ∧ p.length = 0x100 ∧
        (∀ k : Fin 4, u8 p (0x40 * k) = (if (s.fh.port k).enable = false then 0 else if (s.fh.port k).up = true then 2 else 1) ∧
          u32 p (0x40 * k + 4) = (s.fh.port k).counts.rxFrames % 2 ^ 32 ∧
          u32 p (0x40 * k + 0xC) = (s.fh.port k).counts.rxDiscard % 2 ^ 32 ∧
          u32 p (0x40 * k + 0x14) = (s.fh.port k).counts.txFrames % 2 ^ 32 ∧
          u32 p (0x40 * k + 0x30) = (s.fh.port k).counts.rtcLate % 2 ^ 32 ∧
          (u8 r.cmd.payload 0 % 2 = 1 → (t.fh.port k).counts = {})) ∧
        (u8 r.cmd.payload 0 % 2 = 0 → t = s) ∧ { t with fh := s.fh } = s) ∧
  (∀ (s : State) (t : Nat) (p : Fin 4) (c : Fin 3), s.role ≠ .worker → (s.fh.port p).enable = true → (s.fh.port p).up = false →
      s.linksStopped = false → (s.fh.port p).queue = [] → s.fh.results = [] → s.dmd.pool = [] →
      exec (.fhLinkChange t p true c) s = .next
        (((s.advance t).setPort p (fun q => { q with up := true })).linkEvent p true 4)) ∧
  (∀ (s : State) (t : Nat) (p : Fin 4) (c : Fin 3), s.role ≠ .worker → (s.fh.port p).enable = true → (s.fh.port p).up = true →
      ∃ u, exec (.fhLinkChange t p false c) s = .next u ∧ (u.fh.port p).up = false ∧ (u.fh.port p).sending = none ∧
        (u.fh.port p).counts.linkDowns = ((s.fh.port p).counts.linkDowns + 1) % 2 ^ 32 ∧
        (p.val = s.time.ptpPort → u.time.master = none ∧ u.time.state ≠ .valid ∨ s.time.master = none)) ∧
  (∀ (s : State) (t : Nat) (p : Fin 4) (up : Bool) (c : Fin 3), (s.fh.port p).up = up →
      exec (.fhLinkChange t p up c) s = .next (s.advance t)) ∧
  (∀ (s : State) (t len ty : Nat) (p : Fin 4), s.portUp p = true → 64 ≤ len → len ≤ 9600 → (ty = 0xAEFE ∨ ty = 0x88F7) →
      exec (.fhFrameReceive t p true len (s.fh.srcMac p) ty false 0) s =
        .next ((s.advance t).portCount p (fun c => { c with rxFrames := (c.rxFrames + 1) % 2 ^ 32 }))) ∧
  (∀ (s : State) (t len dest ty : Nat) (p : Fin 4) (x : Bool), s.portUp p = true →
      exec (.fhFrameReceive t p false len dest ty x 0) s =
        .next ((s.advance t).portCount p (fun c => { c with rxFcsErr := (c.rxFcsErr + 1) % 2 ^ 32 }))) ∧
  (∀ (s : State) (t len dest ty : Nat) (p : Fin 4) (x : Bool), s.portUp p = true →
      (len < 64 ∨ 9600 < len ∨ (ty ≠ 0xAEFE ∧ ty ≠ 0x88F7) ∨ x = true) →
      exec (.fhFrameReceive t p true len dest ty x 0) s =
        .next ((s.advance t).portCount p (fun c => { c with rxDiscard := (c.rxDiscard + 1) % 2 ^ 32 }))) ∧
  (∀ (s : State) (t rid sid : Nat) (p : Fin 4) (b : List Byte), s.portUp p = true → s.boot.ready = true → sid / 128 % 2 = 1 →
      s.fh.ingress = [] → s.sharedUsed < 256 → b.length ≤ 9000 →
      exec (.rtcTransmitRequest t p rid sid b) s = .next ((s.advance t).processRtc ⟨p, t, 1, rid, sid, b⟩)) ∧
  (∀ (s : State) (t rid sid : Nat) (p : Fin 4) (b : List Byte), s.portUp p = true → s.boot.ready = true → sid / 128 % 2 = 1 →
      s.fh.ingress = [] → s.sharedUsed < 256 → b.length ≤ 9000 →
      exec (.rtcBeamSwap t p rid sid b) s = .next ((s.advance t).processRtc ⟨p, t, 2, rid, sid, b⟩)) ∧
  (∀ (s : State) (t rid sid : Nat) (p : Fin 4) (b : List Byte), s.portUp p = true → s.boot.ready = true → sid / 128 % 2 = 1 →
      s.fh.ingress = [] → s.sharedUsed < 256 → b.length ≤ 9000 →
      exec (.rtcTransmitCancel t p rid sid b) s = .next ((s.advance t).processRtc ⟨p, t, 3, rid, sid, b⟩)) ∧
  (∀ (s : State) (t rid sid : Nat) (p : Fin 4) (b : List Byte), s.portUp p = true → (s.boot.ready = false ∨ sid / 128 % 2 = 0) →
      exec (.rtcTransmitCancel t p rid sid b) s =
        .next ((s.advance t).portCount p (fun c => { c with rxDiscard := (c.rxDiscard + 1) % 2 ^ 32 }))) ∧
  (∀ (s : State) (m : RtcMessage), m.action = 3 → m.body.length = 8 → s.tx.queue = [] → s.fh.results = [] →
      s.portUp m.port = false → s.firstPort = none →
      (s.processRtc m).fh.results = [⟨m.port, 3, true, le 1 3 ++ zeros 1 ++ be 2 Status.noRequest ++ be 2 m.rtcId ++ be 2 m.seqId ++
        zeros 8⟩] ∧ (s.processRtc m).tx = s.tx ∧
        ((s.processRtc m).fh.port m.port).counts.rtcAccepted = ((s.fh.port m.port).counts.rtcAccepted + 1) % 2 ^ 32) ∧
  (∀ (s : State) (t ty : Nat) (p : Fin 4), s.portUp p = true → ty ≠ 2 → ty ≠ 5 → ty ≠ 7 →
      ∃ u, exec (.ecpriUnsupported t p ty) s = .next u ∧
        (u.fh.port p).counts.rxUnsupported = ((s.fh.port p).counts.rxUnsupported + 1) % 2 ^ 32 ∧
        Tab.find? (u.fh.port p).faults 0x400 = some u.now ∧ u.now = max s.now t ∧
        (∀ q : Fin 4, q ≠ p → u.fh.port q = s.fh.port q)) ∧
  (∀ (s : State) (t a i : Nat) (p : Fin 4), s.portUp p = true → s.timeUsable = true → a ≤ 1 → (s.fh.port p).queue = [] →
      (s.fh.port p).sending = none →
      ∃ u, exec (.ecpriDelayRequest t p a i) s = .next u ∧ (u.fh.port p).queue = [] ∧
        (u.fh.port p).sending.map (fun f => (f.cls, f.body)) = some (1, .oneWay 2 (i % 256) (psParts ((s.advance t).arrivalPs p t))) ∧
        u.fh.sent.length = s.fh.sent.length + 1 ∧ (∀ q : Fin 4, q ≠ p → u.fh.port q = s.fh.port q) ∧
        { u with now := s.now, fh := s.fh } = s) ∧
  (∀ (s : State) (t a i : Nat) (p : Fin 4), s.portUp p = true → (s.timeUsable = false ∨ 1 < a) →
      exec (.ecpriDelayRequest t p a i) s = .next ((s.advance t).countUnsupported p)) ∧
  (∀ (s : State) (t i : Nat) (p : Fin 4), s.portUp p = true → s.timeUsable = true → (s.fh.port p).queue = [] →
      (s.fh.port p).sending = none →
      ∃ u, exec (.ecpriRemoteRequest t p i) s = .next u ∧
        (u.fh.port p).sending.map (fun f => (f.cls, f.body)) = some (1, .oneWay 0 (i % 256) (0, 0)) ∧
        { u with now := s.now, fh := s.fh } = s) ∧
  (∀ (s : State) (t i : Nat) (p : Fin 4), s.portUp p = true → s.timeUsable = false →
      exec (.ecpriRemoteRequest t p i) s = .next ((s.advance t).countUnsupported p)) ∧
  (∀ (s : State) (t : Nat) (p : Fin 4), s.portUp p = true → (s.fh.port p).queue = [] → (s.fh.port p).sending = none →
      (s.fh.port p).faults = [] →
      ∃ u, exec (.ecpriSyncRequest t p) s = .next u ∧ (u.fh.port p).sending.map (fun f => f.body) = some (.event 4 0 true) ∧
        (u.fh.port p).queue.map (fun f => f.body) = [.event 5 0 true] ∧ { u with now := s.now, fh := s.fh } = s) ∧
  (∀ (s : State) (t : Nat) (p : Fin 4), exec (.ecpriFaultAck t p) s = .next (s.advance t)) ∧
  (∀ (s : State) (p : Fin 4) (f a : Nat), (s.fh.port p).faults = [(f, a)] →
      ∃ u, exec (.ecpriFaultCease p) s = .next u ∧ u.now = max s.now (a + 384000000000) ∧ (u.fh.port p).faults = [] ∧
        (s.portUp p = true → (s.fh.port p).queue = [] → (s.fh.port p).sending = none →
          (u.fh.port p).sending.map (fun x => (x.cls, x.body)) = some (6, .event 0 f false)) ∧
        ((s.fh.port p).queue = [] → { u with now := s.now, fh := s.fh } = s)) ∧
  (∀ (s : State) (f : RecordFrame) (p : Nat), s.fh.assembling = some f → s.firstPort = some p → s.dmd.pool = [] →
      (s.fh.port p).queue = [] → (s.fh.port p).sending = none →
      ∃ u, exec .recordFrameSend s = .next u ∧ u.now = max s.now (f.since + s.fh.recHoldUs * 384000) ∧ u.fh.assembling = none ∧
        (u.fh.port p).sending.map (fun x => (x.cls, x.body)) =
          some (4, .generic 1 (Tab.get (s.fh.port p).seqIds 1 0) f.records) ∧
        Tab.get (u.fh.port p).seqIds 1 0 = (Tab.get (s.fh.port p).seqIds 1 0 + 1) % 2 ^ 24 ∧
        { u with now := s.now, fh := s.fh } = s) ∧
  (∀ s : State, s.fh.assembling = none → exec .recordFrameSend s = .next s) ∧
  (∀ (s : State) (t : Nat) (o : TxOutcome), s.tx.outcomes = [o] → o.origin = .mailbox →
      exec (.outcomeSend t) s = .next (({ s.advance t with tx := { s.tx with outcomes := [] } } : State).raiseEvent 0x0701 .info
        (le 4 o.id ++ le 1 o.outcome ++ le 1 o.cause ++ le 1 o.flags ++ le 1 o.subband ++ leSat 4 o.radiatedNs ++
          leSat 4 o.delayNs))) ∧
  (∀ (s : State) (t : Nat) (o : TxOutcome) (p : Fin 4), s.tx.outcomes = [o] → o.origin = .port p → o.event = false →
      s.portUp p = true → (s.fh.port p).queue = [] → (s.fh.port p).sending = none → s.fh.results = [] → s.fh.ingress = [] →
      ∃ u, exec (.outcomeSend t) s = .next u ∧ u.tx.outcomes = [] ∧ u.fh.results = [] ∧
        (u.fh.port p).sending.map (fun x => (x.cls, x.body)) =
          some (3, .generic 2 (Tab.get (s.fh.port p).seqIds 2 0) [o.record]) ∧ u.evq = s.evq) ∧
  (∀ (s : State) (t : Nat), s.tx.outcomes = [] → exec (.outcomeSend t) s = .next (s.advance t)) ∧
  (∀ (s : State) (p : Fin 4) (f : Frame), (s.fh.port p).sending = some f → (s.fh.port p).queue = [] → s.fh.ingress = [] →
      exec (.egressFrameEnd p) s = .next ((s.advance ((s.fh.port p).sendingAt + lineTime f.length)).setPort p (fun q =>
        { q with sending := none, counts := { q.counts with txFrames := (q.counts.txFrames + 1) % 2 ^ 32 } }))) ∧
  (∀ (s : State) (p : Fin 4), (s.fh.port p).sending = none → exec (.egressFrameEnd p) s = .next s) ∧
  (∀ (s : State) (t stamp ge we : Nat) (k : Fin 32) (c : Nat) (x : Stream) (v : List Cplx), Tab.get s.fh.streams k {} = x →
      x.enable = true → x.port ≤ 3 → s.portUp x.port = true → 0 < x.instants → v.length = x.samples → x.latencyUs = 0 →
      (s.fh.port x.port).queue = [] → (s.fh.port x.port).sending = none → s.streamLength x ≤ 65536 →
      ∃ u, exec (.iqFrameComplete t k (c * x.instants) stamp ge we v) s = .next u ∧
        Tab.get u.fh.streams k {} = { x with seq := (x.seq + 1) % 256 } ∧
        (∃ h, (u.fh.port x.port).sending.map (fun f => (f.cls, f.body)) = some (5, .iq k x.pcId x.seq h (iqPack x.format v)) ∧
          h.length = 16) ∧ { u with now := s.now, fh := s.fh } = s) ∧
  (∀ (s : State) (t stamp ge we : Nat) (k : Fin 32) (c : Nat) (x : Stream) (v : List Cplx), Tab.get s.fh.streams k {} = x →
      x.enable = true → x.port ≤ 3 → s.portUp x.port = true → 0 < x.instants → v.length = x.samples →
      65536 < (s.fh.port x.port).iqBytes + s.streamLength x →
      ∃ u, exec (.iqFrameComplete t k (c * x.instants) stamp ge we v) s = .next u ∧
        Tab.get u.fh.streams k {} = { x with seq := (x.seq + 1) % 256 } ∧
        (u.fh.port x.port).counts.iqDropped = ((s.fh.port x.port).counts.iqDropped + 1) % 2 ^ 32 ∧
        Tab.find? (u.fh.port x.port).faults 0x402 = some u.now) ∧
  (∀ (s : State) (p : Fin 4) (f : Frame) (t : Nat), (s.fh.port p).queue = [f] → f.launch = some t → s.now < t →
      s.portUp p = true → (s.fh.port p).sending = none →
      ∃ u, exec (.iqFrameLaunch p) s = .next u ∧ u.now = t ∧ (u.fh.port p).sending = some f ∧ (u.fh.port p).queue = [] ∧
        u.fh.sent.length = s.fh.sent.length + 1) ∧
  (∀ (s : State) (p : Fin 4), (s.fh.port p).queue = [] → exec (.iqFrameLaunch p) s = .next s)

/-- Device time: its commands, PTP messages, and the transitions of the time state.
FH_SET_PTP sets its parameters, ends BAD_PARAM or PORT_DISABLED, loses the master when the port moves, and disables PTP with
0xFF, which makes time INVALID; FH_GET_TIME returns state, master, offset and delay. A Sync or Follow_Up of the selected
master gives an offset once a mean path delay is known; in INVALID the first offset steps time and 16 within LOCK_NS after
it make time VALID; in VALID the fourth consecutive offset above STEP_THRESHOLD_NS makes it INVALID; in HOLDOVER one such
offset makes it INVALID, and 16 within LOCK_NS with the clock locked make it VALID. A Delay_Resp gives the mean path delay;
losing the master takes VALID to HOLDOVER, and HOLDOVER_LIMIT_S in HOLDOVER takes it to INVALID. Rules: R434 (in part), R435
(in part), R436 (in part), R437 (in part), R440 (in part), R441 (in part), 17_fronthaul_and_time.md Tables FH-10, FH-11 and
FH-13. -/
def Obligations.DeviceTime : Prop :=
  (∀ (s : State) (r : Running), Runs s r specFhSetPtp → ptpRanges r.cmd.payload = true → u8 r.cmd.payload 0 ≤ 3 →
      (s.fh.port (u8 r.cmd.payload 0)).enable = true → s.time.ptpPort = u8 r.cmd.payload 0 →
      exec .fhSetPtp s = .next (s.close specFhSetPtp r (.ok { s with time := { s.time with
        profile := u8 r.cmd.payload 1, domain := u8 r.cmd.payload 2, dest := u8 r.cmd.payload 3
        localPriority := u8 r.cmd.payload 4, delayReqLog := s8 r.cmd.payload 5, lockNs := u16 r.cmd.payload 6
        stepThresholdNs := u32 r.cmd.payload 8, holdoverLimitS := u32 r.cmd.payload 12
        asymmetryPs := s32 r.cmd.payload 16 } } []))) ∧
  (∀ (s : State) (r : Running), Runs s r specFhSetPtp → ptpRanges r.cmd.payload = false →
      exec .fhSetPtp s = .next (s.respond r ⟨3, []⟩)) ∧
  (∀ (s : State) (r : Running), Runs s r specFhSetPtp → ptpRanges r.cmd.payload = true → u8 r.cmd.payload 0 ≤ 3 →
      (s.fh.port (u8 r.cmd.payload 0)).enable = false → exec .fhSetPtp s = .next (s.respond r ⟨0x0A02, []⟩)) ∧
  (∀ (s : State) (r : Running), Runs s r specFhSetPtp → ptpRanges r.cmd.payload = true → u8 r.cmd.payload 0 ≤ 3 →
      (s.fh.port (u8 r.cmd.payload 0)).enable = true → s.time.ptpPort ≤ 3 → s.time.ptpPort ≠ u8 r.cmd.payload 0 →
      s.time.master ≠ none → s.time.state = .valid →
      ∃ t, exec .fhSetPtp s = .next (s.close specFhSetPtp r (.ok t [])) ∧ t.time.state = .holdover ∧ t.time.master = none ∧
        t.time.holdoverAt = some s.now ∧ t.time.ptpPort = u8 r.cmd.payload 0 ∧ t.time.base = s.time.base ∧ t.tx = s.tx) ∧
  (∀ (s : State) (r : Running), Runs s r specFhSetPtp → ptpRanges r.cmd.payload = true → u8 r.cmd.payload 0 = 255 →
      ∃ t, exec .fhSetPtp s = .next (s.close specFhSetPtp r (.ok t [])) ∧ t.time.state = .invalid ∧ t.time.master = none ∧
        t.time.ptpPort = 255 ∧ t.time.base = s.time.base ∧ t.time.ratePpb = s.time.ratePpb) ∧
  (∀ (s : State) (r : Running), Runs s r specFhGetTime →
      ∃ p, exec .fhGetTime s = .next (s.close specFhGetTime r (.ok s p)) ∧ p.length = 0x2C ∧
        u8 p 0xC = (match s.time.state with | .invalid => 0 | .valid => 1 | .holdover => 2) ∧
        (s.time.master = none → u32 p 0x10 = 0 ∧ u32 p 0x14 = 0 ∧ u8 p 0xD = 0) ∧ u16 p 0x1A = s.time.steps % 65536 ∧
        s32 p 0x1C = sat32 s.time.offsetPs ∧ s32 p 0x20 = sat32 (s.time.pathDelayPs.getD 0) ∧
        (s.time.state ≠ .holdover → u32 p 0x28 = 0)) ∧
  (∀ (s : State) (t id sp n : Nat) (p : Fin 4) (two : Bool) (o c : Int), (p.val ≠ s.time.ptpPort ∨ s.time.master = none) →
      exec (.ptpSync t p id sp n two o c) s = .next (s.advance t)) ∧
  (∀ (s : State) (t id sp n : Nat) (p : Fin 4) (o c : Int), s.fromMaster p id sp = true →
      exec (.ptpSync t p id sp n true o c) s = .next { s.advance t with time := { s.time with
        syncAt := max s.now t, wait := some { seqId := n, arrivalPs := s.arrivalPs p t, correctionPs := c } } }) ∧
  (∀ (s : State) (t id sp n : Nat) (p : Fin 4) (o c : Int), s.fromMaster p id sp = true → s.time.pathDelayPs = none →
      exec (.ptpSync t p id sp n false o c) s = .next { s.advance t with time := { s.time with
        syncAt := max s.now t, wait := none, masterToSlavePs := some (s.arrivalPs p t - o - c) } }) ∧
  (∀ (s : State) (t id sp n : Nat) (p : Fin 4) (o c d : Int), s.fromMaster p id sp = true → s.time.pathDelayPs = some d →
      ∃ v : State, exec (.ptpSync t p id sp n false o c) s =
          .next (v.judgeOffset (s.arrivalPs p t - o - c - s.time.asymmetryPs - d)) ∧
        { v with now := s.now, time := s.time } = s ∧ v.time.state = s.time.state ∧ v.time.lockCount = s.time.lockCount ∧
        v.time.bigCount = s.time.bigCount ∧ v.time.stepped = s.time.stepped ∧ v.time.base = s.time.base) ∧
  (∀ (s : State) (t id sp n : Nat) (p : Fin 4) (o c : Int) (w : SyncWait), s.fromMaster p id sp = true → s.time.wait = some w →
      w.seqId = n → s.time.pathDelayPs = none →
      exec (.ptpFollowUp t p id sp n o c) s = .next { s.advance t with time := { s.time with
        wait := none, masterToSlavePs := some (w.arrivalPs - o - (w.correctionPs + c)) } }) ∧
  (∀ (s : State) (t id sp n : Nat) (p : Fin 4) (o c : Int), s.time.wait = none →
      exec (.ptpFollowUp t p id sp n o c) s = .next (s.advance t)) ∧
  (∀ (s : State) (o : Int), s.time.state = .invalid → s.time.stepped = false → s.time.ratePpb = 0 →
      ∃ n : Int, (s.judgeOffset o).time.deviceAt s.now = s.deviceNow - n ∧ 1000 * n - 384 * o ≤ 500 ∧
        384 * o - 1000 * n ≤ 500 ∧ (s.judgeOffset o).time.state = .invalid ∧ (s.judgeOffset o).time.stepped = true ∧
        (s.judgeOffset o).time.steps = (s.time.steps + 1) % 65536 ∧ (s.judgeOffset o).time.lockCount = 0) ∧
  (∀ (s : State) (o : Int), s.time.state = .invalid → s.time.stepped = true → o.natAbs ≤ 1000 * s.time.lockNs →
      (s.judgeOffset o).time.state = (if 15 ≤ s.time.lockCount then .valid else .invalid) ∧
        (s.time.lockCount < 15 → (s.judgeOffset o).time.lockCount = s.time.lockCount + 1)) ∧
  (∀ (s : State) (o : Int), s.time.state ≠ .valid → s.time.stepped = true → 1000 * s.time.lockNs < o.natAbs →
      o.natAbs ≤ 1000 * s.time.stepThresholdNs →
      (s.judgeOffset o).time.state = s.time.state ∧ (s.judgeOffset o).time.lockCount = 0) ∧
  (∀ (s : State) (o : Int), s.time.state = .valid → 1000 * s.time.stepThresholdNs < o.natAbs →
      (s.judgeOffset o).time.state = (if 3 ≤ s.time.bigCount then .invalid else .valid) ∧
        (s.judgeOffset o).time.base = s.time.base ∧ (s.judgeOffset o).time.ratePpb = s.time.ratePpb) ∧
  (∀ (s : State) (o : Int), s.time.state = .valid → o.natAbs ≤ 1000 * s.time.stepThresholdNs →
      (s.judgeOffset o).time.state = .valid ∧ (s.judgeOffset o).time.bigCount = 0 ∧
        (s.judgeOffset o).time.steps = s.time.steps) ∧
  (∀ (s : State) (o : Int), s.time.state = .holdover → 1000 * s.time.stepThresholdNs < o.natAbs →
      (s.judgeOffset o).time.state = .invalid) ∧
  (∀ (s : State) (o : Int), s.time.state = .holdover → o.natAbs ≤ 1000 * s.time.stepThresholdNs →
      o.natAbs ≤ 1000 * s.time.lockNs →
      (s.judgeOffset o).time.state = (if 15 ≤ s.time.lockCount ∧ s.radio.clock = .locked then .valid else .holdover)) ∧
  (∀ (s : State) (t : Nat) (p : Fin 4) (x : Announce), s.time.ptpPort = p → s.portUp p = true → x.domain = s.time.domain →
      s.time.master = none →
      ∃ u : State, exec (.ptpAnnounce t p x) s = .next (u.raiseEvent 0x0A05 .info
          (be 8 x.id ++ le 2 x.sport ++ le 1 x.clockClass ++ zeros 5)) ∧
        u.time.master = some { id := x.id, port := x.sport, clockClass := x.clockClass, utcOffset := x.utcOffset, dataset := x.dataset } ∧
        u.time.state = s.time.state ∧ u.time.lockCount = 0 ∧ u.time.pathDelayPs = none ∧
        { u with now := s.now, time := s.time } = s) ∧
  (∀ (s : State) (t : Nat) (p : Fin 4) (x : Announce) (m : Master), s.time.ptpPort = p → s.portUp p = true →
      x.domain = s.time.domain → s.time.master = some m → (m.id ≠ x.id ∨ m.port ≠ x.sport) → s.time.state = .valid →
      ∃ u, exec (.ptpAnnounce t p x) s = .next u ∧
        (if Config.betterMaster s.time.profile s.time.localPriority m.dataset x.dataset = true
         then u.time.state = .holdover ∧ u.time.master.map (fun m => m.id) = some x.id else u = s.advance t)) ∧
  (∀ (s : State) (t : Nat) (p : Fin 4) (x : Announce), (p.val ≠ s.time.ptpPort ∨ x.domain ≠ s.time.domain) →
      exec (.ptpAnnounce t p x) s = .next (s.advance t)) ∧
  (∀ (s : State) (t id sp n : Nat) (p : Fin 4) (a c sent m2s : Int), s.fromMaster p id sp = true →
      s.time.delayReq = some (n, sent) → s.time.masterToSlavePs = some m2s →
      exec (.ptpDelayResp t p id sp n a c) s = .next { s.advance t with time := { s.time with
        pathDelayPs := some (roundDiv (m2s + (a - sent - c)) 2), delayReq := none } }) ∧
  (∀ (s : State) (t id sp n : Nat) (p : Fin 4) (a c : Int), s.time.delayReq = none →
      exec (.ptpDelayResp t p id sp n a c) s = .next (s.advance t)) ∧
  (∀ (s : State), s.time.master ≠ none → s.time.ptpPort ≤ 3 → s.portUp s.time.ptpPort = true →
      (s.fh.port s.time.ptpPort).queue = [] → (s.fh.port s.time.ptpPort).sending = none →
      ∃ u, exec .ptpDelayReqSend s = .next u ∧ u.time.delayReqSeq = (s.time.delayReqSeq + 1) % 65536 ∧
        u.time.delayReq = some (s.time.delayReqSeq, u.departPs s.time.ptpPort u.now) ∧ u.time.delayReqAt = some u.now ∧
        (u.fh.port s.time.ptpPort).sending.map (fun f => (f.cls, f.body)) = some (1, .delayReq s.time.delayReqSeq) ∧
        { u with now := s.now, time := s.time, fh := s.fh } = s) ∧
  (∀ s : State, s.time.master = none → exec .ptpDelayReqSend s = .next s ∧ exec .ptpMasterLost s = .next s) ∧
  (∀ s : State, s.time.master ≠ none → s.time.state = .valid → 0 ≤ s.time.announceLog →
      ∃ u, exec .ptpMasterLost s = .next u ∧ u.time.state = .holdover ∧ u.time.master = none ∧ u.time.holdoverAt = some u.now ∧
        u.now = max s.now (min (s.time.announceAt + 3 * (384000000000 * 2 ^ s.time.announceLog.toNat))
          (s.time.syncAt + 384000000000)) ∧ u.time.base = s.time.base ∧ u.time.ratePpb = s.time.ratePpb ∧ u.tx = s.tx) ∧
  (∀ (s : State) (a : Nat), s.role ≠ .worker → s.time.state = .holdover → s.time.holdoverAt = some a →
      ∃ u, exec .holdoverLimitExpiry s = .next u ∧ u.time.state = .invalid ∧
        u.now = max s.now (a + s.time.holdoverLimitS * 384000000000) ∧ u.time.base = s.time.base ∧
        u.time.ratePpb = s.time.ratePpb ∧ (u.tx.queue.all (fun b => b.phase.radiating)) = true) ∧
  (∀ s : State, s.time.state ≠ .holdover → exec .holdoverLimitExpiry s = .next s)

/-- Capture slots: arming, accepting a trigger, segments, hold-off, stopping and reading.
HALO_ARM puts a slot that does not run to ARMING, or ends BAD_PARAM, BUSY, REGION_OVERLAP or CAP_RATE; when arming completes
the slot fills its first segment and only that segment's bytes of the pool change. A trigger no earlier than the pre-trigger
part allows fixes T and its sources, an earlier one is counted in IGNORED_EARLY, and of several decided on one clock the
earliest T counts with every source. A completed segment is written as a ring into its part of the region and announced;
after the last one the slot is DONE, otherwise the hold-off decides when the next one opens. HALO_DISARM ends the slot
DISARMED. HALO_GET_CAPTURE and HALO_READ return the slot and the pool. What the bytes of a segment that is not complete read
as is the model's free value (log entry 1803). Rules: R443, R445 (in part), R446 (in part), R447 (in part), R448 (in part),
R451 (in part), R452 (in part), R453 (in part), R454 (in part), R460 (in part), R461 (in part). -/
def Obligations.HaloCapture : Prop :=
  (∀ (s : State) (r : Running), Runs s r specHaloArm → armRanges r.cmd.payload s.isWorker = true →
      (s.halo.slot (u8 r.cmd.payload 0)).state.running = false → s.armedSlots (u8 r.cmd.payload 0) = [] →
      (haloCfg r.cmd.payload).need ≤ 98304 → u8 r.cmd.payload 1 ≠ 3 →
      exec .haloArm s = .next (s.close specHaloArm r (.ok (s.setSlot (u8 r.cmd.payload 0) (fun _ =>
        { state := .arming, cfg := haloCfg r.cmd.payload, armDue := s.nextSample (kindPeriod (u8 r.cmd.payload 1))
          patternTrue := (haloCfg r.cmd.payload).patternHolds s.pattern })) []))) ∧
  (∀ (s : State) (r : Running), Runs s r specHaloArm → armRanges r.cmd.payload s.isWorker = true →
      (s.halo.slot (u8 r.cmd.payload 0)).state.running = false → s.armedSlots (u8 r.cmd.payload 0) = [] →
      (haloCfg r.cmd.payload).need ≤ 98304 → u8 r.cmd.payload 1 = 3 →
      ∃ u, exec .haloArm s = .next (s.close specHaloArm r (.ok u [])) ∧
        (u.halo.slot (u8 r.cmd.payload 0)).state = .arming ∧ (u.halo.slot (u8 r.cmd.payload 0)).cfg = haloCfg r.cmd.payload ∧
        ObsUser.halo ∈ u.path.obsWaiting ∧ { u with halo := s.halo, path := s.path } = s) ∧
  (∀ (s : State) (r : Running), Runs s r specHaloArm → armRanges r.cmd.payload s.isWorker = false →
      exec .haloArm s = .next (s.respond r ⟨3, []⟩)) ∧
  (∀ (s : State) (r : Running), Runs s r specHaloArm → armRanges r.cmd.payload s.isWorker = true →
      (s.halo.slot (u8 r.cmd.payload 0)).state.running = true → exec .haloArm s = .next (s.respond r ⟨1, []⟩)) ∧
  (∀ (s : State) (r : Running) (n : Nat) (x : HaloSlot), Runs s r specHaloArm → armRanges r.cmd.payload s.isWorker = true →
      (s.halo.slot (u8 r.cmd.payload 0)).state.running = false → s.armedSlots (u8 r.cmd.payload 0) = [(n, x)] →
      x.cfg.offset < u32 r.cmd.payload 4 + u32 r.cmd.payload 8 → u32 r.cmd.payload 4 < x.cfg.offset + x.cfg.length →
      exec .haloArm s = .next (s.respond r ⟨0x0C02, []⟩)) ∧
  (∀ (s : State) (r : Running) (n : Nat) (x : HaloSlot), Runs s r specHaloArm → armRanges r.cmd.payload s.isWorker = true →
      (s.halo.slot (u8 r.cmd.payload 0)).state.running = false → s.armedSlots (u8 r.cmd.payload 0) = [(n, x)] →
      x.cfg.offset + x.cfg.length ≤ u32 r.cmd.payload 4 → 98304 < (haloCfg r.cmd.payload).need + x.cfg.need →
      exec .haloArm s = .next (s.respond r ⟨0x0C01, []⟩)) ∧
  (∀ (s : State) (n : Fin 4), (s.halo.slot n).state = .arming → (s.halo.slot n).cfg.kind ≠ 3 →
      ∃ u, exec (.haloArmingComplete n) s = .next u ∧ u.now = max s.now (s.halo.slot n).armDue ∧
        u.halo.slot n = { s.halo.slot n with state := .filling, trigger := none, firstSample := (s.halo.slot n).armDue } ∧
        (∀ k, k ≠ n.val → u.halo.slot k = s.halo.slot k) ∧
        (∀ a, (a < 0x10000000 + (s.halo.slot n).cfg.offset + (s.halo.slot n).done * (s.halo.slot n).cfg.segBytes ∨
            0x10000000 + (s.halo.slot n).cfg.offset + ((s.halo.slot n).done + 1) * (s.halo.slot n).cfg.segBytes ≤ a) →
          memRead unlisted u.mem a = memRead unlisted s.mem a) ∧
        { u with now := s.now, free := s.free, mem := s.mem, halo := s.halo } = s) ∧
  (∀ (s : State) (n : Fin 4), (s.halo.slot n).state = .arming → (s.halo.slot n).cfg.kind = 3 → s.halo.obsSlot = some n.val →
      ∃ u, exec (.haloArmingComplete n) s = .next u ∧ u.now = max s.now (s.path.obsSince + 768000) ∧
        (u.halo.slot n).state = .filling ∧ (u.halo.slot n).firstSample = u.sampleAt u.now 625 ∧
        { u with now := s.now, free := s.free, mem := s.mem, halo := s.halo } = s) ∧
  (∀ (s : State) (n : Fin 4), (s.halo.slot n).state ≠ .arming → exec (.haloArmingComplete n) s = .next s) ∧
  (∀ (s : State) (t : Nat) (n : Fin 4) (o : TrigOffer), s.halo.offers = [o] → o.slot = n.val → (s.halo.slot n).state = .filling →
      (s.halo.slot n).firstSample + (s.halo.slot n).cfg.pre * kindPeriod (s.halo.slot n).cfg.kind ≤ o.stamp →
      (s.halo.slot n).cfg.cascadeOut = false → s.halo.trigOutMask.getLsbD n = false →
      ∃ u, exec (.haloTriggerAccept t n) s = .next u ∧ u.now = max s.now t ∧ u.halo.offers = [] ∧
        u.halo.slot n = { s.halo.slot n with state := .post, trigger := some (o.stamp, 2 ^ o.source), held := 0 } ∧
        (∀ k, k ≠ n.val → u.halo.slot k = s.halo.slot k) ∧ { u with now := s.now, halo := s.halo } = s) ∧
  (∀ (s : State) (t : Nat) (n : Fin 4) (a b : TrigOffer), s.halo.offers = [a, b] → a.slot = n.val → b.slot = n.val →
      a.decidedAt = b.decidedAt → b.stamp ≤ a.stamp → (s.halo.slot n).state = .filling →
      (s.halo.slot n).firstSample + (s.halo.slot n).cfg.pre * kindPeriod (s.halo.slot n).cfg.kind ≤ b.stamp →
      ∃ u, exec (.haloTriggerAccept t n) s = .next u ∧ (u.halo.slot n).trigger = some (b.stamp, 2 ^ a.source ||| 2 ^ b.source) ∧
        u.halo.offers = []) ∧
  (∀ (s : State) (t : Nat) (n : Fin 4) (o : TrigOffer), s.halo.offers = [o] → o.slot = n.val → (s.halo.slot n).state = .filling →
      o.stamp < (s.halo.slot n).firstSample + (s.halo.slot n).cfg.pre * kindPeriod (s.halo.slot n).cfg.kind →
      ∃ u, exec (.haloTriggerAccept t n) s = .next u ∧
        u.halo.slot n = { s.halo.slot n with ignored := ((s.halo.slot n).ignored + 1) % 2 ^ 32 } ∧ u.halo.offers = [] ∧
        { u with now := s.now, halo := s.halo } = s) ∧
  (∀ (s : State) (t : Nat) (n : Fin 4) (o : TrigOffer), s.halo.offers = [o] → o.slot = n.val → (s.halo.slot n).state = .holdoff →
      (s.halo.slot n).cfg.byCount = true →
      ∃ u, exec (.haloTriggerAccept t n) s = .next u ∧ u.halo.slot n = { s.halo.slot n with
          heldOff := ((s.halo.slot n).heldOff + 1) % 2 ^ 32, held := (s.halo.slot n).held + 1 } ∧
        { u with now := s.now, halo := s.halo } = s) ∧
  (∀ (s : State) (t : Nat) (n : Fin 4) (o : TrigOffer), s.halo.offers = [o] → o.slot = n.val → (s.halo.slot n).state = .filling →
      (s.halo.slot n).firstSample + (s.halo.slot n).cfg.pre * kindPeriod (s.halo.slot n).cfg.kind ≤ o.stamp → o.source = 3 →
      (s.halo.slot n).cfg.cascadeOut = true → s.halo.trigOutMask.getLsbD n = true → s.role = .manager →
      ∃ u w, exec (.haloTriggerAccept t n) s = .next u ∧ u.pins.trigOut = true ∧
        u.halo.trigOutUntil = some (max (max s.now t + s.halo.trigOutWidth * 384) (s.halo.trigOutUntil.getD 0)) ∧
        u.lcl.words = s.lcl.words ++ [(2, w)] ∧ max s.now t ≤ w) ∧
  (∀ (s : State) (n : Fin 4) (data : List Byte) (t src : Nat), (s.halo.slot n).state = .post → (s.halo.slot n).trigger = some (t, src) →
      (s.halo.slot n).done + 1 < (s.halo.slot n).cfg.segments → (s.halo.slot n).cfg.byCount = false →
      max s.now (t + (s.halo.slot n).cfg.post) < t + (s.halo.slot n).cfg.holdoff * 384 →
      ∃ (u : State) (g : HaloSeg), exec (.segmentComplete n data) s = .next (u.raiseEvent 0x0C01 .info
          (le 1 n ++ le 1 (s.halo.slot n).done ++ le 1 src ++ zeros 5 ++ u.ts64Bytes t)) ∧
        u.now = max s.now (t + (s.halo.slot n).cfg.post) ∧
        u.halo.slot n = { s.halo.slot n with
          state := .holdoff, segs := Tab.set (s.halo.slot n).segs (s.halo.slot n).done g, done := (s.halo.slot n).done + 1 } ∧
        g.trigger = t ∧ g.sources = src ∧ g.bytes = (s.halo.slot n).cfg.instants * (s.halo.slot n).cfg.instantBytes ∧
        g.triggerOffset = (if (s.halo.slot n).cfg.instants = 0 then 0
          else ((t - (s.halo.slot n).firstSample + kindPeriod (s.halo.slot n).cfg.kind - 1) /
            kindPeriod (s.halo.slot n).cfg.kind) % (s.halo.slot n).cfg.instants * (s.halo.slot n).cfg.instantBytes) ∧
        u.mem = writeRing s.mem (0x10000000 + (s.halo.slot n).cfg.offset + (s.halo.slot n).done * (s.halo.slot n).cfg.segBytes)
          g.bytes g.oldest (data.take g.bytes) ∧
        { u with now := s.now, mem := s.mem, halo := s.halo } = s) ∧
  (∀ (s : State) (n : Fin 4) (data : List Byte) (t src : Nat), (s.halo.slot n).state = .post → (s.halo.slot n).trigger = some (t, src) →
      (s.halo.slot n).done + 1 = (s.halo.slot n).cfg.segments →
      ∃ u, exec (.segmentComplete n data) s = .next u ∧ (u.halo.slot n).state = .done ∧
        (u.halo.slot n).done = (s.halo.slot n).cfg.segments ∧ (u.halo.slot n).trigger = none) ∧
  (∀ (s : State) (n : Fin 4) (data : List Byte), (s.halo.slot n).state ≠ .post → exec (.segmentComplete n data) s = .next s) ∧
  (∀ (s : State) (n : Fin 4) (t src : Nat), (s.halo.slot n).state = .holdoff → (s.halo.slot n).trigger = some (t, src) →
      (s.halo.slot n).cfg.byCount = false →
      ∃ u, exec (.haloHoldoffEnd n) s = .next u ∧ u.now = max s.now (t + (s.halo.slot n).cfg.holdoff * 384) ∧
        u.halo.slot n = { s.halo.slot n with
          state := .filling, trigger := none, firstSample := u.sampleAt u.now (kindPeriod (s.halo.slot n).cfg.kind) } ∧
        { u with now := s.now, free := s.free, mem := s.mem, halo := s.halo } = s) ∧
  (∀ (s : State) (n : Fin 4) (t src : Nat), (s.halo.slot n).state = .holdoff → (s.halo.slot n).trigger = some (t, src) →
      (s.halo.slot n).cfg.byCount = true → (s.halo.slot n).held < (s.halo.slot n).cfg.holdoff →
      exec (.haloHoldoffEnd n) s = .next s) ∧
  (∀ (s : State) (r : Running), Runs s r specHaloDisarm → u8 r.cmd.payload 0 ≤ 3 →
      (s.halo.slot (u8 r.cmd.payload 0)).state.running = true → u8 r.cmd.payload 1 % 2 = 0 →
      ∃ u, exec .haloDisarm s = .next (s.close specHaloDisarm r (.ok u [])) ∧
        (u.halo.slot (u8 r.cmd.payload 0)).state = .disarmed ∧ (u.halo.slot (u8 r.cmd.payload 0)).done = 0 ∧
        (u.halo.slot (u8 r.cmd.payload 0)).segs = []) ∧
  (∀ (s : State) (r : Running), Runs s r specHaloDisarm → u8 r.cmd.payload 0 ≤ 3 →
      (s.halo.slot (u8 r.cmd.payload 0)).state = .post → (s.halo.slot (u8 r.cmd.payload 0)).trigger.isSome = true →
      u8 r.cmd.payload 1 % 2 = 1 →
      ∃ u g, exec .haloDisarm s = .next (s.close specHaloDisarm r (.ok u [])) ∧
        (u.halo.slot (u8 r.cmd.payload 0)).state = .disarmed ∧
        (u.halo.slot (u8 r.cmd.payload 0)).done = (s.halo.slot (u8 r.cmd.payload 0)).done + 1 ∧
        Tab.find? (u.halo.slot (u8 r.cmd.payload 0)).segs (s.halo.slot (u8 r.cmd.payload 0)).done = some g ∧
        g.flags.testBit 5 = true) ∧
  (∀ (s : State) (r : Running), Runs s r specHaloDisarm → u8 r.cmd.payload 0 ≤ 3 →
      (s.halo.slot (u8 r.cmd.payload 0)).state.running = false →
      exec .haloDisarm s = .next (s.close specHaloDisarm r (.ok s []))) ∧
  (∀ (s : State) (r : Running), Runs s r specHaloDisarm → 3 < u8 r.cmd.payload 0 →
      exec .haloDisarm s = .next (s.respond r ⟨3, []⟩)) ∧
  (∀ (s : State) (r : Running), Runs s r specHaloGetCapture → u8 r.cmd.payload 0 ≤ 3 →
      ∃ p, exec .haloGetCapture s = .next (s.close specHaloGetCapture r (.ok s p)) ∧
        p.length = 16 + 32 * (s.halo.slot (u8 r.cmd.payload 0)).cfg.segments ∧
        u8 p 0 = (s.halo.slot (u8 r.cmd.payload 0)).state.code ∧
        u8 p 3 = (s.halo.slot (u8 r.cmd.payload 0)).done % 256 ∧
        u32 p 4 = (s.halo.slot (u8 r.cmd.payload 0)).ignored % 2 ^ 32 ∧
        u32 p 8 = (s.halo.slot (u8 r.cmd.payload 0)).heldOff % 2 ^ 32 ∧
        u32 p 12 = (s.halo.slot (u8 r.cmd.payload 0)).cfg.instants % 2 ^ 32) ∧
  (∀ (s : State) (r : Running), Runs s r specHaloGetCapture → 3 < u8 r.cmd.payload 0 →
      exec .haloGetCapture s = .next (s.respond r ⟨3, []⟩)) ∧
  (∀ (s : State) (r : Running), Runs s r specHaloRead → 1 ≤ u32 r.cmd.payload 4 → u32 r.cmd.payload 4 ≤ 4080 →
      u32 r.cmd.payload 0 + u32 r.cmd.payload 4 ≤ 0x1000000 →
      exec .haloRead s = .next (s.close specHaloRead r (.ok s
        (memReadBytes unlisted s.mem (0x10000000 + u32 r.cmd.payload 0) (u32 r.cmd.payload 4))))) ∧
  (∀ (s : State) (r : Running), Runs s r specHaloRead → (u32 r.cmd.payload 4 = 0 ∨ 4080 < u32 r.cmd.payload 4 ∨
      0x1000000 < u32 r.cmd.payload 0 + u32 r.cmd.payload 4) → exec .haloRead s = .next (s.respond r ⟨3, []⟩))

/-- Triggers, TRIG_OUT, masks and snapshots.
HALO_TRIGGER and an edge at TRIG_IN of at least 10 ns offer a trigger to the running slots that select the source;
HALO_SET_TRIG_OUT sets its two parameters and the pulse ends at its time. HALO_SET_MASK loads a mask; a failing measurement
raises EV_HALO_MASK, triggers the slot or freezes it as the mask's actions say, and the freeze goes before the trigger.
HALO_SNAPSHOT schedules a strobe whose snapshot is pinned, sends a SNAPSHOT word to a chain, and ends NO_RESOURCE with four
pinned; a strobe latches a new snapshot, or merges into one that has not latched everywhere; HALO_SNAP_READ returns one,
releases it on request, and ends SNAP_GONE for one that is not in the store. Rules: R449 (in part), R451 (in part), R453 (in
part), R455 (in part), R456 (in part), R457 (in part), R458 (in part), R459 (in part), R461 (in part), R462 (in part). -/
def Obligations.HaloTriggersAndSnapshots : Prop :=
  (∀ (s : State) (t h : Nat), h < 10 → exec (.haloTrigIn t h) s = .next (s.advance t)) ∧
  (∀ (s : State) (t h : Nat), 10 ≤ h →
      ∃ u, exec (.haloTrigIn t h) s = .next u ∧ u.now = max s.now t ∧
        (∀ n x, s.halo.slots = [(n, x)] → x.state.running = true → x.cfg.trig.getLsbD 3 = true →
          u.halo.offers = s.halo.offers ++
            [{ slot := n, stamp := u.sampleAt u.now 625, source := 3, decidedAt := u.now, scheduled := false }]) ∧
        (∀ n x, s.halo.slots = [(n, x)] → x.cfg.trig.getLsbD 3 = false → u.halo = s.halo) ∧
        u.halo.slots = s.halo.slots ∧ { u with now := s.now, halo := s.halo } = s) ∧
  (∀ (s : State) (r : Running), Runs s r specHaloTrigger → u8 r.cmd.payload 0 ≤ 15 → u8 r.cmd.payload 1 % 2 = 1 →
      exec .haloTrigger s = .next (s.close specHaloTrigger r (.ok (s.offer 5 (s.nextSample 625) false
        (fun n _ => (u8 r.cmd.payload 0 / 2 ^ n) % 2 == 1)) []))) ∧
  (∀ (s : State) (r : Running), Runs s r specHaloTrigger → u8 r.cmd.payload 0 ≤ 15 → u8 r.cmd.payload 1 % 2 = 0 →
      s.timeUsable = true → s.time.deviceAt (r.reached + 38400000) ≤ s.instantOf r.cmd.payload 8 →
      exec .haloTrigger s = .next (s.close specHaloTrigger r (.ok (s.offer 5
        (s.sampleAt (s.time.localOf (s.instantOf r.cmd.payload 8)) 625) true
        (fun n _ => (u8 r.cmd.payload 0 / 2 ^ n) % 2 == 1)) []))) ∧
  (∀ (s : State) (r : Running), Runs s r specHaloTrigger → u8 r.cmd.payload 0 ≤ 15 → u8 r.cmd.payload 1 % 2 = 0 →
      s.timeUsable = false → exec .haloTrigger s = .next (s.respond r ⟨5, []⟩)) ∧
  (∀ (s : State) (r : Running), Runs s r specHaloTrigger → 15 < u8 r.cmd.payload 0 →
      exec .haloTrigger s = .next (s.respond r ⟨3, []⟩)) ∧
  (∀ (s : State) (r : Running), Runs s r specHaloSetTrigOut → u8 r.cmd.payload 0 ≤ 15 → 10 ≤ u32 r.cmd.payload 4 →
      u32 r.cmd.payload 4 ≤ 1000000 →
      exec .haloSetTrigOut s = .next (s.close specHaloSetTrigOut r (.ok { s with halo := { s.halo with
        trigOutMask := BitVec.ofNat 4 (u8 r.cmd.payload 0), trigOutWidth := u32 r.cmd.payload 4 } } []))) ∧
  (∀ (s : State) (r : Running), Runs s r specHaloSetTrigOut → (15 < u8 r.cmd.payload 0 ∨ u32 r.cmd.payload 4 < 10 ∨
      1000000 < u32 r.cmd.payload 4) → exec .haloSetTrigOut s = .next (s.respond r ⟨3, []⟩)) ∧
  (∀ (s : State) (t : Nat), s.halo.trigOutUntil = some t →
      exec .trigOutPulseEnd s = .next { s.advance t with
        pins := { s.pins with trigOut := false }, halo := { s.halo with trigOutUntil := none } }) ∧
  (∀ s : State, s.halo.trigOutUntil = none → exec .trigOutPulseEnd s = .next s) ∧
  (∀ (s : State) (r : Running), Runs s r specHaloSetMask → u8 r.cmd.payload 0 ≤ 3 → u8 r.cmd.payload 1 ≤ 1 →
      1 ≤ u8 r.cmd.payload 3 → u8 r.cmd.payload 3 ≤ 32 → (u8 r.cmd.payload 1 = 1 ∨ u8 r.cmd.payload 4 ≤ 6) →
      (∀ i, i < u8 r.cmd.payload 3 → s32 r.cmd.payload (8 + 12 * i) ≤ s32 r.cmd.payload (8 + 12 * i + 4)) →
      exec .haloSetMask s = .next (s.close specHaloSetMask r (.ok { s with halo := { s.halo with
        masks := Tab.set s.halo.masks (u8 r.cmd.payload 0)
          { envelope := u8 r.cmd.payload 1 == 1, action := BitVec.ofNat 3 (u8 r.cmd.payload 2), avgLog2 := u8 r.cmd.payload 4
            segs := (List.range (u8 r.cmd.payload 3)).map (fun i =>
              ⟨s32 r.cmd.payload (8 + 12 * i), s32 r.cmd.payload (8 + 12 * i + 4), s16 r.cmd.payload (8 + 12 * i + 8),
               s16 r.cmd.payload (8 + 12 * i + 10)⟩) } } } []))) ∧
  (∀ (s : State) (r : Running), Runs s r specHaloSetMask → (3 < u8 r.cmd.payload 0 ∨ 1 < u8 r.cmd.payload 1 ∨
      u8 r.cmd.payload 3 = 0 ∨ 32 < u8 r.cmd.payload 3 ∨ s32 r.cmd.payload 12 < s32 r.cmd.payload 8 ∨
      (u8 r.cmd.payload 1 = 0 ∧ 6 < u8 r.cmd.payload 4)) → exec .haloSetMask s = .next (s.respond r ⟨3, []⟩)) ∧
  (∀ (s : State) (t : Nat) (n : Fin 4) (k : Fin 16) (m : HaloMask) (g : MaskSeg) (hi lo : Int),
      Tab.find? s.halo.masks (s.halo.slot n).cfg.maskId = some m → m.segs = [g] → hi ≤ g.upper →
      (m.envelope = false ∨ g.lower ≤ lo) → exec (.maskFrameTest t n k [(hi, lo)]) s = .next (s.advance t)) ∧
  (∀ (s : State) (t : Nat) (n : Fin 4) (k : Fin 16) (m : HaloMask) (g : MaskSeg) (hi lo : Int),
      Tab.find? s.halo.masks (s.halo.slot n).cfg.maskId = some m → m.segs = [g] → g.upper < hi → m.action = 1#3 →
      m.eventAt = none → (s.halo.slot n).state = .filling → (s.halo.slot n).cfg.kind = 3 →
      (s.halo.slot n).cfg.sources.getLsbD k = true →
      ∃ u : State, exec (.maskFrameTest t n k [(hi, lo)]) s = .next (u.raiseEvent 0x0C03 .warn
          (le 1 (s.halo.slot n).cfg.maskId ++ le 1 k ++ le 1 0 ++ zeros 1 ++ leSat 2 (hi - g.upper).toNat ++ zeros 2 ++
            u.ts64Bytes u.now)) ∧ u.now = max s.now t ∧
        Tab.find? u.halo.masks (s.halo.slot n).cfg.maskId = some { m with eventAt := some u.now } ∧
        u.halo.slots = s.halo.slots ∧ { u with now := s.now, halo := s.halo } = s) ∧
  (∀ (s : State) (t : Nat) (n : Fin 4) (k : Fin 16) (m : HaloMask) (g : MaskSeg) (hi lo : Int) (a : Nat),
      Tab.find? s.halo.masks (s.halo.slot n).cfg.maskId = some m → m.segs = [g] → g.upper < hi → m.action = 1#3 →
      m.eventAt = some a → max s.now t < a + 384000000000 →
      exec (.maskFrameTest t n k [(hi, lo)]) s = .next (s.advance t)) ∧
  (∀ (s : State) (t : Nat) (n : Fin 4) (k : Fin 16) (m : HaloMask) (g : MaskSeg) (hi lo : Int),
      Tab.find? s.halo.masks (s.halo.slot n).cfg.maskId = some m → m.segs = [g] → g.upper < hi → m.action = 2#3 →
      (s.halo.slot n).state = .filling → (s.halo.slot n).cfg.kind = 3 → (s.halo.slot n).cfg.sources.getLsbD k = true →
      exec (.maskFrameTest t n k [(hi, lo)]) s = .next ((s.advance t).offer 6 (s.advance t).now false (fun i _ => i == n.val))) ∧
  (∀ (s : State) (t : Nat) (n : Fin 4) (k : Fin 16) (m : HaloMask) (g : MaskSeg) (hi lo : Int) (c : Nat × Nat),
      Tab.find? s.halo.masks (s.halo.slot n).cfg.maskId = some m → m.segs = [g] → g.upper < hi → m.action = 6#3 →
      (s.halo.slot n).state = .post → (s.halo.slot n).trigger = some c → (s.halo.slot n).cfg.trig.getLsbD 6 = true →
      (s.halo.slot n).cfg.kind = 3 → (s.halo.slot n).cfg.sources.getLsbD k = true →
      ∃ u q, exec (.maskFrameTest t n k [(hi, lo)]) s = .next u ∧ (u.halo.slot n).state = .frozen ∧
        Tab.find? (u.halo.slot n).segs (s.halo.slot n).done = some q ∧ q.flags.testBit 5 = true ∧ q.flags.testBit 6 = true ∧
        q.sources = c.2 ||| 64 ∧ (∀ o ∈ u.halo.offers, o.slot ≠ n.val)) ∧
  (∀ (s : State) (r : Running), Runs s r specHaloSnapshot → s.role = .standalone → r.cascade = false →
      u8 r.cmd.payload 0 % 2 = 1 → s.halo.pinned < 4 →
      exec .haloSnapshot s = .next (s.close specHaloSnapshot r (.ok { s with halo := { s.halo with
        strobes := s.halo.strobes ++ [{ due := s.nextSample 625, origin := 0, pin := true, scheduled := false }] } }
        (s.ts64Bytes (s.nextSample 625))))) ∧
  (∀ (s : State) (r : Running), Runs s r specHaloSnapshot → s.role = .manager → r.cascade = false → r.cmd.target = 0xFFFF →
      u8 r.cmd.payload 0 % 2 = 1 → s.halo.pinned < 4 →
      ∃ u w, exec .haloSnapshot s = .next (s.close specHaloSnapshot r (.ok u (s.ts64Bytes (w + 384000)))) ∧
        u.lcl.words = s.lcl.words ++ [(1, w)] ∧ u.halo.strobes = s.halo.strobes ++
          [{ due := w + 384000, origin := 0, pin := true, scheduled := false }] ∧ { u with lcl := s.lcl, halo := s.halo } = s) ∧
  (∀ (s : State) (r : Running), Runs s r specHaloSnapshot → r.cascade = true → r.cmd.target = 0xFFFF → s.halo.pinned < 4 →
      s.halo.snaps = [] →
      exec .haloSnapshot s = .next (s.close specHaloSnapshot r (.ok { s with halo := { s.halo with
        pinAt := s.halo.pinAt ++ [(u32 r.cmd.payload 8, u32 r.cmd.payload 12)] } } (bytesAt r.cmd.payload 8 8)))) ∧
  (∀ (s : State) (r : Running), Runs s r specHaloSnapshot → r.cascade = false → u8 r.cmd.payload 0 % 2 = 0 →
      s.timeUsable = false → exec .haloSnapshot s = .next (s.respond r ⟨5, []⟩)) ∧
  (∀ (s : State) (r : Running), Runs s r specHaloSnapshot → u8 r.cmd.payload 0 % 2 = 1 → 4 ≤ s.halo.pinned →
      exec .haloSnapshot s = .next (s.respond r ⟨7, []⟩)) ∧
  (∀ (s : State) (phase : Int) (x : Strobe), s.halo.strobes = [x] → s.halo.snaps = [] → s.halo.pinAt = [] →
      ∃ u y, exec (.snapshotStrobe phase) s = .next u ∧ u.now = max s.now x.due ∧ u.halo.strobes = [] ∧ u.halo.snaps = [y] ∧
        y.id = s.halo.nextSnap ∧ y.origin = x.origin ∧ y.pinned = x.pin ∧ y.strobe = x.due ∧ y.late = none ∧
        (y.seconds, y.nanos) = u.ts64 x.due ∧ u.halo.nextSnap = (s.halo.nextSnap + 1) % 2 ^ 16 ∧
        u.halo.snapMerged = s.halo.snapMerged ∧ { u with now := s.now, halo := s.halo } = s) ∧
  (∀ (s : State) (phase : Int) (x : Strobe) (y : Snapshot), s.halo.strobes = [x] → s.halo.snaps = [y] → y.late = none →
      exec (.snapshotStrobe phase) s = .next { s.advance x.due with halo := { s.halo with
        strobes := [], snaps := [{ y with merged := true }], snapMerged := min (s.halo.snapMerged + 1) 65535 } }) ∧
  (∀ (s : State) (phase : Int), s.halo.strobes = [] → exec (.snapshotStrobe phase) s = .next s) ∧
  (∀ (x n : Snapshot) (l : List Snapshot), l.length = 7 → x.pinned = false →
      (addSnapshot (l ++ [x]) n).length ≤ 8 ∧ x ∉ (addSnapshot (l ++ [x]) n).tail) ∧
  (∀ (s : State) (t : Nat) (y : Snapshot) (l : List Snapshot), s.halo.snaps = y :: l → y.late = none →
      ∃ u b, exec (.snapshotLatchComplete t) s = .next u ∧ b.length = 32 ∧ u.now = max s.now t ∧
        u.halo.snaps = { y with late := some b, spread := (u.now - y.strobe) / 384 } :: l ∧
        u32 b 12 = s.evq.prod % 2 ^ 32 ∧ { u with now := s.now, halo := s.halo } = s) ∧
  (∀ (s : State) (r : Running) (y : Snapshot), Runs s r specHaloSnapRead → u8 r.cmd.payload 0 = 0 → u8 r.cmd.payload 1 % 2 = 1 →
      s.halo.snaps = [y] → y.id = u16 r.cmd.payload 2 →
      exec .haloSnapRead s = .next (s.close specHaloSnapRead r (.ok { s with halo := { s.halo with
        snaps := [{ y with pinned := false }] } } y.encode))) ∧
  (∀ (s : State) (r : Running) (y : Snapshot), Runs s r specHaloSnapRead → u8 r.cmd.payload 0 = 1 → u8 r.cmd.payload 1 % 2 = 0 →
      s.halo.snaps = [y] → y.seconds = u32 r.cmd.payload 8 → y.nanos = u32 r.cmd.payload 12 →
      exec .haloSnapRead s = .next (s.close specHaloSnapRead r (.ok s y.encode))) ∧
  (∀ (s : State) (r : Running), Runs s r specHaloSnapRead → u8 r.cmd.payload 0 ≤ 1 → s.halo.snaps = [] →
      exec .haloSnapRead s = .next (s.respond r ⟨0x0C03, []⟩)) ∧
  (∀ (s : State) (r : Running), Runs s r specHaloSnapRead → 1 < u8 r.cmd.payload 0 →
      exec .haloSnapRead s = .next (s.respond r ⟨3, []⟩))

/-- Rails, RESET_L and wake events.
The VDD_AON power-on reset starts Dawn anew with I2C and WAKE_L armed and asserts PWR_EN 10 to 50 us later; the removal of
VDD_AON clears Dawn. PWR_GOOD within 100 ms is taken, without it Dawn records POWER_TIMEOUT and sleeps; a loss restarts
after 2 ms with cause POWER_FAULT, a second within 1 s is held. RESET_L low with PWR_GOOD high resets every domain but Dawn
and the non-volatile memory; its release samples the straps and starts the ROM. An armed wake event in SLEEP boots with
cause WAKE and its source, one after the grant with cause REPLAYED once PWR_EN has been low for 2 ms, one in STANDBY sets
WAKE_PENDING and raises its event once, one during sleep entry is kept for Dawn's refusal; an unarmed source changes
nothing. After a shutdown signal the rails fall, THERMAL_SHUTDOWN is recorded, and wakes are latched for the span. Where
PWR_EN rises between 10 and 50 us is the model's free value (log entry 1901). Rules: R28, R32, R34 (in part), R35, R37 (in
part), R464 (in part), R465 (in part), R466 (in part), R469 (in part), R470 (in part), R474 (in part), R480 (in part). -/
def Obligations.PowerAndWake : Prop :=
  (∀ (s : State) (t : Nat) (w : BitVec 2), s.dawn.aon = false →
      ∃ u d, exec (.vddAonPowerOn t w) s = .next u ∧ 3840000 ≤ d ∧ d ≤ 19200000 ∧ u.now = max s.now t ∧
        u.dawn = { aon := true, aonAt := u.now, waddr := w, power := .boot, wakeMask := 5#3, pwrEn := true, pwrEnRose := u.now + d } ∧
        u.boot = {} ∧ u.cmd = {} ∧ u.fuses = s.fuses ∧ u.pending = s.pending) ∧
  (∀ (s : State) (t : Nat) (w : BitVec 2), s.dawn.aon = true → exec (.vddAonPowerOn t w) s = .next (s.advance t)) ∧
  (∀ (s : State) (t : Nat),
      ∃ u, exec (.vddAonRemoved t) s = .next u ∧ u.dawn = {} ∧ u.boot = {} ∧ u.pins.pwrGood = false ∧ u.pins.resetL = false ∧
        u.fuses = s.fuses ∧ u.hostMem = s.hostMem ∧ u.pending = s.pending) ∧
  (∀ (s : State) (t : Nat), s.dawn.pwrEn = true → s.pins.pwrGood = false → max s.now t ≤ s.dawn.pwrEnRose + 38400000000 →
      exec (.pwrGoodRise t) s = .next { s.advance t with pins := { s.pins with pwrGood := true } }) ∧
  (∀ (s : State) (t : Nat), s.dawn.pwrEn = true → s.pins.pwrGood = false → s.dawn.pwrEnRose + 38400000000 < max s.now t →
      ∃ u, exec (.pwrGoodRise t) s = .next u ∧ u.now = max s.now t ∧ u.dawn.pwrEn = false ∧ u.dawn.power = .sleep ∧
        u.dawn.prior = s.dawn.prior ||| 1#4 ∧ u.dawn.wakeMask = s.dawn.wakeMask ∧ u.pins.pwrGood = false) ∧
  (∀ (s : State) (t : Nat), (s.dawn.pwrEn = false ∨ s.pins.pwrGood = true) → exec (.pwrGoodRise t) s = .next (s.advance t)) ∧
  (∀ s : State, s.dawn.pwrEn = true → s.pins.pwrGood = false →
      ∃ u, exec .pwrGoodTimeout s = .next u ∧ u.now = max s.now (s.dawn.pwrEnRose + 38400000000) ∧ u.dawn.pwrEn = false ∧
        u.dawn.pwrEnFell = u.now ∧ u.dawn.power = .sleep ∧ u.dawn.prior = s.dawn.prior ||| 1#4 ∧
        u.dawn.wakeMask = s.dawn.wakeMask ∧ u.boot = {}) ∧
  (∀ s : State, (s.dawn.pwrEn = false ∨ s.pins.pwrGood = true) → exec .pwrGoodTimeout s = .next s) ∧
  (∀ (s : State) (t : Nat), s.pins.pwrGood = true → s.dawn.pwrEn = true → s.dawn.lossAt = none →
      ∃ u, exec (.pwrGoodFall t) s = .next u ∧ u.now = max s.now t ∧ u.dawn.pwrEn = false ∧ u.dawn.bootCause = 0x07#8 ∧
        u.dawn.restart = some (u.now + 768000000) ∧ u.dawn.prior = s.dawn.prior ∧ u.dawn.lossAt = some u.now ∧ u.cmd = {} ∧
        u.nv.regRecord = s.nv.regRecord) ∧
  (∀ (s : State) (t x : Nat), s.pins.pwrGood = true → s.dawn.pwrEn = true → s.dawn.lossAt = some x →
      max s.now t ≤ x + 384000000000 →
      ∃ u, exec (.pwrGoodFall t) s = .next u ∧ u.dawn.pwrEn = false ∧ u.dawn.power = .sleep ∧ u.dawn.restart = s.dawn.restart ∧
        u.dawn.prior = s.dawn.prior ||| 8#4 ∧ u.dawn.bootCause = s.dawn.bootCause ∧ u.cmd = {}) ∧
  (∀ (s : State) (t : Nat), s.pins.pwrGood = false → exec (.pwrGoodFall t) s = .next (s.advance t)) ∧
  (∀ (s : State) (t : Nat), s.dawn.restart = some t → s.dawn.dropAt = none →
      ∃ u, exec .pwrEnRestart s = .next u ∧ u.now = max s.now t ∧ u.dawn.pwrEn = true ∧ u.dawn.pwrEnRose = u.now ∧
        u.dawn.power = .boot ∧ u.dawn.restart = none ∧ u.dawn.bootCause = s.dawn.bootCause ∧
        { u with now := s.now, dawn := s.dawn } = s) ∧
  (∀ s : State, s.dawn.restart = none → exec .pwrEnRestart s = .next s) ∧
  (∀ (s : State) (t : Nat), s.pins.resetL = true → s.pins.pwrGood = true →
      ∃ u, exec (.resetLAssert t) s = .next u ∧ u.pins.resetL = false ∧ u.boot = {} ∧ u.cmd = {} ∧ u.mem = [] ∧
        u.dawn = { s.dawn with power := .boot, bootCause := 0x03#8, faultBoots := [], entryWake := none } ∧
        u.nv.regRecord = s.nv.regRecord ∧ u.nv.hostArea = s.nv.hostArea ∧ u.fuses = s.fuses ∧ u.hostMem = s.hostMem) ∧
  (∀ (s : State) (t : Nat), s.pins.resetL = true → s.pins.pwrGood = false →
      exec (.resetLAssert t) s = .next { s.advance t with pins := { s.pins with resetL := false } }) ∧
  (∀ (s : State) (t : Nat), s.pins.resetL = false → exec (.resetLAssert t) s = .next (s.advance t)) ∧
  (∀ (s : State) (t : Nat) (a b : BitVec 2), s.pins.resetL = false → s.pins.pwrGood = true →
      ∃ u, exec (.resetLRelease t a b) s = .next u ∧ u.pins.resetL = true ∧ u.boot.role = a ∧ u.boot.bootsrc = b ∧
        u.boot.stage = 1 ∧ u.boot.releasedAt = u.now ∧ u.now = max s.now t ∧ u.time.base = 0 ∧ u.dawn = s.dawn) ∧
  (∀ (s : State) (t : Nat) (a b : BitVec 2), s.pins.resetL = false → s.pins.pwrGood = false →
      exec (.resetLRelease t a b) s = .next { s.advance t with pins := { s.pins with resetL := true } }) ∧
  (∀ (s : State) (t : Nat), s.dawn.aon = true → s.dawn.wakeMask.getLsbD 0 = true → s.dawn.power = .sleep → s.dawn.dropAt = none →
      s.dawn.restart = none → s.dawn.holdoffEnd = none → s.dawn.pwrEnFell + 768000000 ≤ max s.now t →
      ∃ u d, exec (.i2cAddressMatch t) s = .next u ∧ u.now = max s.now t ∧ 3840000 ≤ d ∧ d ≤ 19200000 ∧
        u.dawn.bootCause = 0x11#8 ∧ u.dawn.pwrEn = true ∧ u.dawn.pwrEnRose = u.now + d ∧ u.dawn.power = .boot ∧
        u.dawn.sourcesSeen = s.dawn.sourcesSeen ||| 1#3) ∧
  (∀ (s : State) (t g x : Nat), s.dawn.aon = true → s.dawn.wakeMask.getLsbD 0 = true → s.dawn.grantAt = some g →
      s.dawn.dropAt = some x → s.dawn.restart = none → s.dawn.holdoffEnd = none → s.dawn.slept = false →
      max s.now t < x + 768000000 →
      ∃ u y, exec (.i2cAddressMatch t) s = .next u ∧ u.dawn.bootCause = 0x12#8 ∧ u.dawn.restart = some y ∧ x + 768000000 ≤ y ∧
        u.dawn.dropAt = some x ∧ u.dawn.slept = true ∧ u.dawn.sleptTicks = dawnTicks (max s.now t - g) ∧
        u.dawn.sourcesSeen = s.dawn.sourcesSeen ||| 1#3) ∧
  (∀ (s : State) (t : Nat), s.dawn.wakeMask.getLsbD 0 = false → exec (.i2cAddressMatch t) s = .next (s.advance t)) ∧
  (∀ (s : State) (t : Nat), s.dawn.aon = true → s.dawn.wakeMask.getLsbD 0 = true → s.dawn.power = .running → s.dawn.dropAt = none →
      s.dawn.pwrEnRose ≤ max s.now t → s.thermal.sleep = .awake → s.dawn.wakePending.getLsbD 0 = false → s.boot.ready = true →
      exec (.i2cAddressMatch t) s = .next (({ s.advance t with dawn := { s.dawn with
        sourcesSeen := s.dawn.sourcesSeen ||| 1#3, wakePending := s.dawn.wakePending ||| 1#3 } } : State).raiseEvent 0x0D03 .notice
        (1#8 :: zeros 15))) ∧
  (∀ (s : State) (t : Nat), s.dawn.aon = true → s.dawn.wakeMask.getLsbD 0 = true → s.dawn.power = .running → s.dawn.dropAt = none →
      s.dawn.pwrEnRose ≤ max s.now t → s.thermal.sleep = .awake → s.dawn.wakePending.getLsbD 0 = true →
      exec (.i2cAddressMatch t) s = .next { s.advance t with dawn := { s.dawn with
        sourcesSeen := s.dawn.sourcesSeen ||| 1#3 } }) ∧
  (∀ (s : State) (t : Nat) (m : BitVec 3) (a b : Nat), s.dawn.aon = true → s.dawn.wakeMask.getLsbD 0 = true →
      s.dawn.power = .running → s.dawn.dropAt = none → s.dawn.pwrEnRose ≤ max s.now t → s.thermal.sleep = .preparing m a b →
      s.dawn.entryWake = none → s.dawn.wakePending.getLsbD 0 = true →
      exec (.i2cAddressMatch t) s = .next { s.advance t with dawn := { s.dawn with
        sourcesSeen := s.dawn.sourcesSeen ||| 1#3, entryWake := some .i2c } }) ∧
  (∀ (s : State) (t : Nat), s.dawn.wakeMask.getLsbD 2 = false →
      exec (.wakeLLow t true) s = .next { s.advance t with pins := { s.pins with wakeLow := true } }) ∧
  (∀ (s : State) (t : Nat), s.dawn.aon = true → s.dawn.wakeMask.getLsbD 2 = true → s.dawn.power = .running → s.dawn.dropAt = none →
      s.dawn.pwrEnRose ≤ max s.now t → s.thermal.sleep = .awake → s.dawn.wakePending.getLsbD 2 = false → s.boot.ready = true →
      exec (.wakeLLow t true) s = .next (({ s.advance t with
        pins := { s.pins with wakeLow := true }
        dawn := { s.dawn with
          sourcesSeen := s.dawn.sourcesSeen ||| 4#3, wakePending := s.dawn.wakePending ||| 4#3 } } : State).raiseEvent 0x0D03 .notice
        (3#8 :: zeros 15))) ∧
  (∀ (s : State) (t : Nat), exec (.wakeLLow t false) s = .next { s.advance t with pins := { s.pins with wakeLow := false } }) ∧
  (∀ (s : State) (g : Nat), s.dawn.aon = true → s.dawn.wakeMask.getLsbD 1 = true → s.dawn.timerTicks ≠ 0 → s.dawn.power = .sleep →
      s.dawn.dropAt = none → s.dawn.grantAt = some g → s.dawn.restart = none → s.dawn.holdoffEnd = none →
      ∃ u, exec .sleepTimerExpiry s = .next u ∧ u.now = max s.now (g + dawnSpan s.dawn.timerTicks) ∧
        u.dawn.sourcesSeen = s.dawn.sourcesSeen ||| 2#3 ∧
        (s.dawn.pwrEnFell + 768000000 ≤ u.now → u.dawn.bootCause = 0x21#8 ∧ u.dawn.pwrEn = true ∧ u.dawn.power = .boot)) ∧
  (∀ s : State, (s.dawn.wakeMask.getLsbD 1 = false ∨ s.dawn.asleep = false) → exec .sleepTimerExpiry s = .next s) ∧
  (∀ n : Nat, n * 384000000000 * 100 ≤ dawnSpan n * 1024 * 103 ∧
      dawnSpan n * 1024 * 97 ≤ n * 384000000000 * 100 + 1024 * 97) ∧
  (∀ (s : State) (a : Nat), s.dawn.shutdownAt = some a →
      ∃ u, exec .shutdownPowerOff s = .next u ∧ u.now = max s.now (a + 3840000) ∧ u.dawn.pwrEn = false ∧ u.dawn.power = .sleep ∧
        u.dawn.prior = s.dawn.prior ||| 2#4 ∧ u.dawn.holdoffEnd = some (u.now + dawnSpan 61440) ∧ u.dawn.restart = none ∧
        u.dawn.shutdownAt = none ∧ u.boot = {} ∧ u.cmd = {}) ∧
  (∀ s : State, s.dawn.shutdownAt = none → exec .shutdownPowerOff s = .next s) ∧
  (∀ (s : State) (t e : Nat), s.dawn.aon = true → s.dawn.wakeMask.getLsbD 0 = true → s.dawn.power = .sleep → s.dawn.dropAt = none →
      s.dawn.restart = none → s.dawn.holdoffEnd = some e → s.dawn.latched = none →
      ∃ u, exec (.i2cAddressMatch t) s = .next u ∧ u.dawn.latched = some .i2c ∧ u.dawn.power = .sleep ∧
        u.dawn.restart = none ∧ u.dawn.bootCause = s.dawn.bootCause) ∧
  (∀ (s : State) (e : Nat), s.dawn.holdoffEnd = some e → s.dawn.latched = some .i2c → s.dawn.power = .sleep → s.dawn.dropAt = none →
      s.dawn.pwrEnFell + 768000000 ≤ max s.now e →
      ∃ u, exec .thermalHoldoffEnd s = .next u ∧ u.now = max s.now e ∧ u.dawn.holdoffEnd = none ∧ u.dawn.bootCause = 0x11#8 ∧
        u.dawn.pwrEn = true ∧ u.dawn.power = .boot) ∧
  (∀ (s : State) (e : Nat), s.dawn.holdoffEnd = some e → s.dawn.latched = none →
      exec .thermalHoldoffEnd s = .next { s.advance e with dawn := { s.dawn with holdoffEnd := none } }) ∧
  (∀ s : State, s.dawn.holdoffEnd = none → exec .thermalHoldoffEnd s = .next s)

/-- Sleep entry, the thermal conditions, the recommended supply and the power commands.
PWR_SLEEP with no refuser ends OK and arms Dawn as it says, prepares the sleep and waits for the grant; a refuser ends it
SLEEP_REFUSED with its code and is counted and logged. The request writes EV_PWR_SLEEP and is granted, PWR_EN falling 10 us
later, or is refused where a wake event came before, and then entry is left with its event. A manager's entry for its chain
waits for the reports, goes on when all have come and abandons it after 100 ms; a prepared worker goes on at GO and leaves
at ABANDON and after 200 ms. A sample sets and clears each condition at its thresholds with EV_PWR_THERMAL; at 120 degree C
and with a faulty sensor the hardware shutdown starts; a trip aborts the bursts. The recommended VDD_CORE is the lowest
setting that reaches the speed. PWR_GET_STATUS and PWR_GET_WAKE return what Tables PWR-6 and PWR-7 give. Rules: R472 (in
part), R473 (in part), R475, R476 (in part), R478 (in part), R479 (in part), R480 (in part), R481 (in part), R485, R486 (in
part), R487 (in part). -/
def Obligations.SleepAndTemperature : Prop :=
  (∀ (s : State) (r : Running), Runs s r specPwrSleep → s.role ≠ .manager → r.cascade = false → u16 r.cmd.payload 2 ≤ 60000 →
      (u8 r.cmd.payload 0 / 2 % 2 = 0 ∨ 1 ≤ u32 r.cmd.payload 4) → s.thermal.sleep = .awake → s.dawn.asleep = false →
      s.refuser r (u16 r.cmd.payload 2 * 384000000) = none →
      exec .pwrSleep s = .next (s.close specPwrSleep r (.ok
        ((s.armWake (BitVec.ofNat 3 (u8 r.cmd.payload 0)) (u32 r.cmd.payload 4)).prepareSleep.2.beginEntry
          (.preparing (BitVec.ofNat 3 (u8 r.cmd.payload 0)) (u32 r.cmd.payload 4) (s.tx.queue.filter Launch.waiting).length))
        [0#8, 0xFF#8, 0#8, 0#8]))) ∧
  (∀ (s : State) (m : BitVec 3) (n : Nat), (s.armWake m n).dawn.wakeMask = m ∧
      (s.armWake m n).dawn.timerTicks = (if m.getLsbD 1 then n else s.dawn.timerTicks)) ∧
  (∀ s : State, s.tx.queue = [] → (∀ p : Fin 4, (s.fh.port p).up = false) → s.prepareSleep.2.time.state = .invalid) ∧
  (∀ (s : State) (r : Running) (c : Nat), Runs s r specPwrSleep → u16 r.cmd.payload 2 ≤ 60000 →
      (u8 r.cmd.payload 0 / 2 % 2 = 0 ∨ 1 ≤ u32 r.cmd.payload 4) → s.thermal.sleep = .awake → s.dawn.asleep = false →
      s.refuser r (u16 r.cmd.payload 2 * 384000000) = some c →
      exec .pwrSleep s = .next ((s.countRefusal c s.position).respond r
        ⟨0x0D01, le 1 c ++ le 1 s.position ++ [0#8, 0#8]⟩)) ∧
  (∀ (s : State) (r : Running), Runs s r specPwrSleep → (60000 < u16 r.cmd.payload 2 ∨
      (u8 r.cmd.payload 0 / 2 % 2 = 1 ∧ u32 r.cmd.payload 4 = 0)) → exec .pwrSleep s = .next (s.respond r ⟨3, []⟩)) ∧
  (∀ (s : State) (c p : Nat), (s.countRefusal c p).dawn.refusals = min (s.dawn.refusals + 1) 65535 ∧
      (s.countRefusal c p).dawn.log = (⟨c, p, s.dawnCount⟩ :: s.dawn.log).take 8) ∧
  (∀ (s : State) (r : Running) (g : Nat) (n : Fin 4), r.cascade = false → n.val ≠ r.mbx → (s.host.mailbox n).state ≠ .idle →
      s.refuser r g = some 1) ∧
  (∀ (s : State) (r : Running) (g : Nat), (∀ n : Fin 4, (s.host.mailbox n).state = .idle ∨ (n.val = r.mbx ∧ r.cascade = false)) →
      s.refuser r g = (if s.launchGuard g then some 2
        else if s.dma.any (fun p => p.2.state != .idle) then some 3
        else if s.nv.writer != .idle || !s.nv.queue.isEmpty then some 4
        else if s.workerAwake r then some 5
        else if s.dawn.wakePending != 0#3 || (s.dawn.wakeMask.getLsbD 2 && s.pins.wakeLow) then some 6
        else if s.thermal.sensorOk then none else some 7)) ∧
  (∀ (s : State) (r : Running), Runs s r specPwrSleep → s.role = .manager → r.cmd.target = 0xFFFF → s.joinedWorkers ≠ [] →
      u16 r.cmd.payload 2 ≤ 60000 → (u8 r.cmd.payload 0 / 2 % 2 = 0 ∨ 1 ≤ u32 r.cmd.payload 4) → s.thermal.sleep = .awake →
      s.dawn.asleep = false → s.refuser r (u16 r.cmd.payload 2 * 384000000) = none →
      exec .pwrSleep s = .next (s.close specPwrSleep r (.ok (s.beginEntry (.collecting (BitVec.ofNat 3 (u8 r.cmd.payload 0))
        (u32 r.cmd.payload 4) (u16 r.cmd.payload 2) s.joinedWorkers s.now)) [0#8, 0xFF#8, 0#8, 0#8]))) ∧
  (∀ (s : State) (t ticks ended : Nat) (m : BitVec 3), s.thermal.sleep = .preparing m ticks ended → s.radio.state = .standby →
      s.radio.moving = none → s.dawn.dropAt = none → s.nv.queue = [] → s.dawn.entryWake = none →
      ∃ u : State, u = ((s.advance t).raiseEvent 0x0D01 .notice
          (le 1 m.toNat ++ zeros 1 ++ leSat 2 ended ++ le 4 (if m.getLsbD 1 then ticks else 0) ++ zeros 8)).flushEvents ∧
        exec (.sleepRequest t) s = .next { u with dawn := { u.dawn with
          grantAt := some u.now, slept := false, sleptTicks := 0, dropAt := some (u.now + 3840000) } }) ∧
  (∀ (s : State) (t ticks ended : Nat) (m : BitVec 3) (src : WakeSource), s.thermal.sleep = .preparing m ticks ended →
      s.radio.state = .standby → s.radio.moving = none → s.dawn.dropAt = none → s.nv.queue = [] → s.dawn.entryWake = some src →
      exec (.sleepRequest t) s = .next ((((s.advance t).raiseEvent 0x0D01 .notice
          (le 1 m.toNat ++ zeros 1 ++ leSat 2 ended ++ le 4 (if m.getLsbD 1 then ticks else 0) ++ zeros 8)).flushEvents).leaveEntry
        8 src.code)) ∧
  (∀ (s : State) (c x : Nat),
      ∃ u : State, s.leaveEntry c x = u.raiseEvent 0x0D02 .warn (le 1 c ++ le 1 x ++ zeros 14) ∧ u.thermal.sleep = .awake ∧
        u.dawn.refusals = min (s.dawn.refusals + 1) 65535 ∧ u.dawn.entryWake = none ∧
        { u with dawn := s.dawn, thermal := s.thermal } = s) ∧
  (∀ (s : State) (t : Nat), s.radio.state ≠ .standby → exec (.sleepRequest t) s = .next (s.advance t)) ∧
  (∀ (s : State) (t : Nat), s.dawn.dropAt = some t →
      ∃ u, exec .sleepPwrEnDrop s = .next u ∧ u.now = max s.now t ∧ u.dawn.pwrEn = false ∧ u.dawn.pwrEnFell = u.now ∧
        u.dawn.power = .sleep ∧ u.dawn.dropAt = none ∧ u.dawn.grantAt = s.dawn.grantAt ∧ u.dawn.restart = s.dawn.restart ∧
        u.pins.resetL = false ∧ u.boot = {} ∧ u.mem = [] ∧ u.fuses = s.fuses ∧ u.pending = s.pending) ∧
  (∀ s : State, s.dawn.dropAt = none → exec .sleepPwrEnDrop s = .next s) ∧
  (∀ (s : State) (t ticks guard since : Nat) (m : BitVec 3) (p : Fin 16), s.thermal.sleep = .collecting m ticks guard [p.val] since →
      exec (.sleepReadyReport t p) s = .next ((s.advance t).chainGo m ticks)) ∧
  (∀ (s : State) (t ticks guard since q : Nat) (m : BitVec 3) (p : Fin 16),
      s.thermal.sleep = .collecting m ticks guard [p.val, q] since → q ≠ p.val → (s.lcl.pos q).state = .joined →
      exec (.sleepReadyReport t p) s = .next { s.advance t with thermal := { s.thermal with
        sleep := .collecting m ticks guard [q] since } }) ∧
  (∀ (s : State) (m : BitVec 3) (ticks : Nat), ∃ n, (s.chainGo m ticks).thermal.sleep = .preparing m ticks n) ∧
  (∀ (s : State) (ticks guard since q : Nat) (m : BitVec 3), s.thermal.sleep = .collecting m ticks guard [q] since →
      (s.lcl.pos q).state = .joined → s.cmd.running = [] →
      ∃ u, exec .sleepReportTimeout s = .next u ∧ u.now = max s.now (since + 38400000000) ∧ u.thermal.sleep = .awake ∧
        u.dawn.refusals = min (s.dawn.refusals + 1) 65535 ∧ (u.dawn.log.head?.map (fun e => (e.code, e.position))) = some (5, q) ∧
        u.dawn.dropAt = s.dawn.dropAt ∧ u.dawn.wakeMask = s.dawn.wakeMask) ∧
  (∀ s : State, s.thermal.sleep = .awake → exec .sleepReportTimeout s = .next s) ∧
  (∀ (s : State) (t ticks ended since : Nat) (m : BitVec 3), s.thermal.sleep = .prepared m ticks ended since →
      exec (.sleepGo t) s = .next { s.advance t with thermal := { s.thermal with sleep := .preparing m ticks ended } }) ∧
  (∀ (s : State) (t : Nat), s.thermal.sleep = .awake → exec (.sleepGo t) s = .next (s.advance t)) ∧
  (∀ (s : State) (t ticks ended since : Nat) (m : BitVec 3), s.thermal.sleep = .prepared m ticks ended since →
      exec (.sleepAbandon t) s = .next ((s.advance t).leaveEntry 5 0)) ∧
  (∀ (s : State) (t : Nat), s.thermal.sleep = .awake → exec (.sleepAbandon t) s = .next (s.advance t)) ∧
  (∀ (s : State) (ticks ended since : Nat) (m : BitVec 3), s.thermal.sleep = .prepared m ticks ended since →
      exec .workerSleepTimeout s = .next ((s.advance (since + 76800000000)).leaveEntry 5 0)) ∧
  (∀ s : State, s.thermal.sleep = .awake → exec .workerSleepTimeout s = .next s) ∧
  (∀ (h : Thermal) (tj : Int) (t : Nat),
      (h.sample tj t).warn = (if h.warn = true then decide (9800 ≤ tj) else decide (10000 ≤ tj)) ∧
      (h.sample tj t).throttle = (if h.throttle = true then decide (10300 ≤ tj) else decide (10600 ≤ tj)) ∧
      (h.sample tj t).trip = (if h.trip = true then decide (10800 ≤ tj ∨ h.belowTrip < 999) else decide (11200 ≤ tj)) ∧
      (h.sample tj t).tj = tj ∧ (h.sample tj t).tjMax = max h.tjMax tj) ∧
  (∀ (h : Thermal) (tj : Int) (t : Nat) (v : Int), h.history[998]? = some v →
      (h.sample tj t).rate = tj - v ∧
      (h.sample tj t).rateWarn = (if h.rateWarn = true then decide (200 < tj - v ∨ h.underTwo < 3999)
        else decide (200 < tj - v ∧ 3999 ≤ h.overTwo)) ∧
      (h.sample tj t).rateTrip = (if h.rateTrip = true
        then decide (200 < tj - v ∨ h.underTwo < 3999) || (h.sample tj t).trip
        else decide (600 < tj - v ∧ 999 ≤ h.overSix))) ∧
  (∀ (s : State) (tj : Int) (ok : Bool), (s.boot.stage ≤ 1 ∨ s.dawn.shutdownAt.isSome = true) →
      exec (.thermalSample tj ok) s = .next s) ∧
  (∀ (s : State) (tj : Int), 1 < s.boot.stage → s.dawn.shutdownAt = none → s.thermal.plausible tj true = true → tj < 10000 →
      s.thermal.conditions = [false, false, false, false, false] → s.thermal.history.length < 999 → s.spare.recordDue = false →
      ∃ u, exec (.thermalSample tj true) s = .next u ∧ u.now = max s.now (s.thermal.sampledAt + 384000000) ∧ u.thermal.tj = tj ∧
        u.thermal.conditions = [false, false, false, false, false] ∧ u.evq = s.evq ∧ { u with now := s.now, thermal := s.thermal } = s) ∧
  (∀ (s : State) (tj : Int), 1 < s.boot.stage → s.dawn.shutdownAt = none → s.thermal.plausible tj true = true → 10000 ≤ tj →
      tj < 10600 → s.thermal.conditions = [false, false, false, false, false] → s.thermal.history.length < 999 →
      s.spare.recordDue = false →
      ∃ u : State, exec (.thermalSample tj true) s = .next (u.raiseEvent 0x0D04 .warn
          ([0#8, 1#8] ++ leS 2 tj ++ leS 2 0 ++ zeros 2 ++ u.ts64Bytes u.now)) ∧
        u.thermal.conditions = [true, false, false, false, false] ∧ u.thermal.tripDue = s.thermal.tripDue ∧
        { u with now := s.now, thermal := s.thermal } = s) ∧
  (∀ (s : State) (tj : Int), 1 < s.boot.stage → s.dawn.shutdownAt = none → s.thermal.plausible tj true = true → 11200 ≤ tj →
      tj < 12000 → s.thermal.conditions = [true, true, false, false, false] → s.thermal.history.length < 999 →
      s.spare.recordDue = false →
      ∃ u : State, exec (.thermalSample tj true) s = .next (u.raiseEvent 0x0D04 .error
          ([2#8, 1#8] ++ leS 2 tj ++ leS 2 0 ++ zeros 2 ++ u.ts64Bytes u.now)) ∧
        u.thermal.conditions = [true, true, true, false, false] ∧ u.thermal.tripDue = true ∧
        u.thermal.trips = min (s.thermal.trips + 1) 65535 ∧ { u with now := s.now, thermal := s.thermal } = s) ∧
  (∀ (s : State) (tj : Int), 1 < s.boot.stage → s.dawn.shutdownAt = none → s.thermal.plausible tj true = true → 12000 ≤ tj →
      ∃ u, exec (.thermalSample tj true) s = .next u ∧ u.dawn.shutdownAt = some u.now ∧ u.dawn.prior = s.dawn.prior ∧
        u.pins.paen = 0#4) ∧
  (∀ (s : State) (tj : Int) (ok : Bool), 1 < s.boot.stage → s.dawn.shutdownAt = none →
      (ok = false ∨ tj < -6000 ∨ 15000 < tj ∨ 1000 < tj - s.thermal.tj ∨ 1000 < s.thermal.tj - tj) →
      ∃ u, exec (.thermalSample tj ok) s = .next u ∧ u.dawn.shutdownAt = some u.now ∧ u.dawn.prior = s.dawn.prior ||| 4#4 ∧
        u.thermal.sensorOk = false) ∧
  (∀ (s : State) (t : Nat), s.thermal.tripDue = true →
      exec (.transmitTrip t) s = .next (((({ s.advance t with thermal := { s.thermal with tripDue := false } } : State).abortBursts 8
        0x70).safeDacs).sendAbort 9)) ∧
  (∀ (s : State) (t : Nat), s.thermal.tripDue = false → exec (.transmitTrip t) s = .next (s.advance t)) ∧
  (∀ (s : State) (t : Nat), s.boot.ready = true →
      exec (.vcoreRecommend t) s = .next (if vcoreFor s.lowestSpeed = s.thermal.vcoreMv then s.advance t
        else ({ s.advance t with thermal := { s.thermal with vcoreMv := vcoreFor s.lowestSpeed } } : State).raiseEvent 0x0D05 .info
          (le 2 (vcoreFor s.lowestSpeed) ++ leSat 2 s.lowestSpeed ++ zeros 12))) ∧
  (∀ n : Nat, 700 ≤ vcoreFor n ∧ vcoreFor n ≤ 850 ∧ vcoreFor n % 10 = 0 ∧
      (vcoreFor n = 850 ∨ 740 ≤ Config.projectedSpeed n 110 (vcoreFor n)) ∧
      ¬ ∃ k, 700 ≤ k ∧ k < vcoreFor n ∧ k % 10 = 0 ∧ 740 ≤ Config.projectedSpeed n 110 k) ∧
  (∀ (s : State) (r : Running), Runs s r specPwrGetStatus →
      ∃ p, exec .pwrGetStatus s = .next (s.close specPwrGetStatus r (.ok s p)) ∧ p.length = 16 ∧
        u8 p 0 = (if s.radio.state = .standby then 3 else 4) ∧ s16 p 2 = (leS 2 s.thermal.tj |> fun b => s16 b 0) ∧
        u16 p 8 = s.thermal.vcoreMv % 65536 ∧ u8 p 10 = s.thermal.band % 256 ∧ u8 p 11 = s.dawn.wakePending.toNat ∧
        u16 p 12 = s.thermal.trips % 65536) ∧
  (∀ (s : State) (r : Running), Runs s r specPwrGetWake →
      ∃ p, exec .pwrGetWake s = .next (s.close specPwrGetWake r (.ok
          (if u8 r.cmd.payload 0 % 2 = 1 then
            { s with dawn := { s.dawn with prior := 0#4, sourcesSeen := 0#3, wakePending := 0#3 } } else s) p)) ∧
        p.length = 80 ∧ u8 p 0 = s.dawn.bootCause.toNat ∧ u8 p 1 = s.dawn.sourcesSeen.toNat ∧ u8 p 2 = s.dawn.prior.toNat ∧
        u8 p 3 = s.dawn.wakeMask.toNat ∧ u32 p 4 = s.dawn.sleptTicks % 2 ^ 32 ∧ u32 p 8 = s.dawnCount % 2 ^ 32 ∧
        u16 p 12 = s.dawn.refusals % 65536 ∧
        (∀ e ∈ s.dawn.log.head?, u8 p 16 = e.code % 256 ∧ u8 p 17 = e.position % 256 ∧ u32 p 20 = e.ticks % 2 ^ 32))

/-- The boot stages, the two image loads, provisioning, record writes and the debug port.
Each boot stage ends in the next one, in the boot fault of Table BOOT-2 with its consequence, or, in STRAPS, in a refusal
that returns the device to SLEEP. The trial mark's bank or the first bank of the strap order starts when it is authentic;
without one the ROM waits for the host, and a worker stops. SEC_BOOT_LOAD ends WRONG_STATE outside WAIT_HOST; an image that
fails keeps the ROM waiting with IMAGE_REJECTED, one that passes starts. Firmware raises READY. Each provisioning command
ends as R498 orders and is otherwise deferred to its record write, which programs the fuse and raises EV_SEC_PROVISIONED, or
ends FUSE_FAIL with the field absent. Once DEBUG_LOCK is committed the port executes only the four standard instructions;
IDCODE captures 0x16440F79. Whether a signature verifies is the model's free value (log entry 2005). Rules: R482, R488 (in
part), R489 (in part), R490 (in part), R491 (in part), R494 (in part), R495 (in part), R496 (in part), R497 (in part), R498
(in part), R499 (in part), R500 (in part). -/
def Obligations.StartUpAndProvisioning : Prop :=
  (∀ (s : State) (t : Nat) (x : BootFacts), s.boot.stage = 1 → s.dawn.shutdownAt = none → x.romEcc = false → x.sensorOk = true →
      -6000 ≤ x.tj → x.tj < 11200 → s.strapsValid = true → s.dawn.faultBoots.length < 3 →
      ∃ u, exec (.bootStageEnd t x) s = .next u ∧ u.boot = { s.boot with stage := 2, fault := 0 } ∧ u.thermal.tj = x.tj ∧
        u.thermal.tjMax = x.tj ∧ u.thermal.band = (if x.tj < 0 then 0 else if x.tj ≤ 7000 then 1 else 2) ∧
        { u with now := s.now, boot := s.boot, thermal := s.thermal } = s) ∧
  (∀ (s : State) (t : Nat) (x : BootFacts), s.boot.stage = 1 → s.dawn.shutdownAt = none → x.romEcc = false → x.sensorOk = true →
      -6000 ≤ x.tj → x.tj < 11200 →
      (s.role = .invalid ∨ (s.role = .worker ∧ s.boot.bootsrc = 2#2) ∨ (s.role = .standalone ∧ s.boot.bootsrc = 3#2) ∨
        (s.role = .manager ∧ s.boot.bootsrc = 3#2)) →
      ∃ u, exec (.bootStageEnd t x) s = .next u ∧ u.boot.stage = 0xFF ∧ u.boot.fault = 1 ∧ u.boot.lastFault = 1) ∧
  (∀ (s : State) (t a b c : Nat) (x : BootFacts), s.boot.stage = 1 → s.dawn.shutdownAt = none → x.romEcc = false →
      x.sensorOk = true → -6000 ≤ x.tj → x.tj < 11200 → s.strapsValid = true → s.dawn.faultBoots = [a, b, c] →
      a ≤ c + 230400000000000 →
      ∃ u, exec (.bootStageEnd t x) s = .next u ∧ u.boot.stage = 0xFF ∧ u.boot.fault = 8) ∧
  (∀ (s : State) (t : Nat) (x : BootFacts), s.boot.stage = 1 → s.dawn.shutdownAt = none → x.romEcc = false → x.sensorOk = true →
      11200 ≤ x.tj → x.tj ≤ 15000 →
      ∃ u, exec (.bootStageEnd t x) s = .next u ∧ u.dawn.power = .sleep ∧ u.dawn.pwrEn = false ∧
        u.dawn.refusals = min (s.dawn.refusals + 1) 65535 ∧ u.dawn.log.head?.map (fun e => e.code) = some 9 ∧
        u.dawn.prior = s.dawn.prior ∧ u.dawn.holdoffEnd = s.dawn.holdoffEnd) ∧
  (∀ (s : State) (t : Nat) (x : BootFacts), s.boot.stage = 1 → s.dawn.shutdownAt = none → x.romEcc = false →
      (x.sensorOk = false ∨ x.tj < -6000 ∨ 15000 < x.tj) →
      ∃ u, exec (.bootStageEnd t x) s = .next u ∧ u.dawn.power = .sleep ∧ u.dawn.pwrEn = false ∧
        u.dawn.refusals = min (s.dawn.refusals + 1) 65535 ∧ u.dawn.log.head?.map (fun e => e.code) = some 7 ∧
        u.dawn.prior = s.dawn.prior ||| 4#4 ∧ u.dawn.holdoffEnd = some (u.now + dawnSpan 61440)) ∧
  (∀ (s : State) (t : Nat) (x : BootFacts), s.boot.stage = 2 → s.dawn.shutdownAt = none → x.romEcc = false →
      ((x.crystal = true ∧ s.role ≠ .worker) ∨ x.refIn ≠ 0) →
      ∃ u, exec (.bootStageEnd t x) s = .next u ∧ u.boot = { s.boot with stage := 3, fault := 0 } ∧
        u.radio.refSource = (if x.crystal = true ∧ s.role ≠ .worker then 0 else 1) ∧
        { u with now := s.now, boot := s.boot, radio := s.radio } = s) ∧
  (∀ (s : State) (t : Nat) (x : BootFacts), s.boot.stage = 2 → s.dawn.shutdownAt = none → x.romEcc = false →
      (x.crystal = false ∨ s.role = .worker) → x.refIn = 0 →
      ∃ u, exec (.bootStageEnd t x) s = .next u ∧ u.boot.stage = 2 ∧ u.boot.fault = 2) ∧
  (∀ (s : State) (t : Nat) (x : BootFacts), s.boot.stage = 3 → s.dawn.shutdownAt = none → x.romEcc = false →
      exec (.bootStageEnd t x) s = .next (if x.repaired then (s.advance t).endMemory x else (s.advance t).stopBoot 4)) ∧
  (∀ (s : State) (x : BootFacts), x.repaired = true → x.units = [] →
      (s.endMemory x).boot = { s.boot with
        stage := 4, fault := 0, nvFailed := if x.mapOk then s.boot.nvFailed else s.boot.nvFailed + 1 }) ∧
  (∀ (s : State) (t : Nat) (x : BootFacts), s.boot.stage = 4 → s.dawn.shutdownAt = none → x.romEcc = false → x.links = [] →
      exec (.bootStageEnd t x) s = .next ((s.advance t).enterStage 5)) ∧
  (∀ (s : State) (t a i l m : Nat) (x : BootFacts), s.boot.stage = 4 → s.dawn.shutdownAt = none → x.romEcc = false →
      x.links = [(a, i, l), (a, i, m)] → l ≠ m → s.fab.spared = [] →
      exec (.bootStageEnd t x) s = .next ((s.advance t).stopBoot 5)) ∧
  (∀ (s : State) (t : Nat) (x : BootFacts), s.boot.stage = 5 → s.dawn.shutdownAt = none → x.romEcc = false →
      ∃ u, exec (.bootStageEnd t x) s = .next u ∧ u.boot = { s.boot with
          stage := if s.boot.bootsrc = 2#2 then 7 else if s.boot.bootsrc = 3#2 then 8 else 6
          fault := 0, nvFailed := s.boot.nvFailed + x.badRecords.length, keyFault := s.keyFaulty } ∧
        u.nv = { s.nv with bad := x.badRecords } ∧ { u with now := s.now, boot := s.boot, nv := s.nv } = s) ∧
  (∀ (s : State) (t : Nat) (x : BootFacts), s.boot.stage = 6 → s.dawn.shutdownAt = none → x.romEcc = false →
      s.dawn.trialMark = none → (s.nv.bank s.firstBank).shipped = true →
      ∃ u, exec (.bootStageEnd t x) s = .next u ∧ u.boot.stage = 9 ∧ u.boot.source = s.firstBank ∧
        u.boot.release = (s.nv.bank s.firstBank).release ∧ u.boot.trial = false ∧ u.boot.bankFailed = none ∧
        { u with now := s.now, boot := s.boot } = s) ∧
  (∀ (s : State) (t b : Nat) (x : BootFacts), s.boot.stage = 6 → s.dawn.shutdownAt = none → x.romEcc = false →
      s.dawn.trialMark = some b → (s.nv.bank b).shipped = true →
      ∃ u, exec (.bootStageEnd t x) s = .next u ∧ u.boot.stage = 9 ∧ u.boot.source = b ∧ u.boot.trial = true ∧
        u.dawn = { s.dawn with trialMark := none }) ∧
  (∀ (s : State) (t : Nat) (x : BootFacts), s.boot.stage = 6 → s.dawn.shutdownAt = none → x.romEcc = false →
      s.nv.bankA.valid = false → s.nv.bankB.valid = false →
      ∃ u, exec (.bootStageEnd t x) s = .next u ∧ u.boot.fault = 6 ∧ u.boot.stage = (if s.role = .worker then 0xFF else 7)) ∧
  (∀ (s : State) (t : Nat) (x : BootFacts), 0 < s.boot.stage → s.boot.stage < 10 → s.dawn.shutdownAt = none → x.romEcc = true →
      exec (.bootStageEnd t x) s = .next ((s.advance t).stopBoot 3)) ∧
  (∀ (s : State) (t : Nat) (x : BootFacts), (s.boot.stage = 0 ∨ 10 ≤ s.boot.stage) →
      exec (.bootStageEnd t x) s = .next (s.advance t)) ∧
  (∀ (s : State) (r : Running), Runs s r specSecBootLoad → s.boot.stage ≠ 7 →
      exec .secBootLoad s = .next (s.respond r ⟨8, []⟩)) ∧
  (∀ (s : State) (r : Running), Runs s r specSecBootLoad → s.boot.stage = 7 → (u32 r.cmd.payload 0 % 4096 ≠ 0 ∨
      u32 r.cmd.payload 4 < 4096 ∨ 1048576 < u32 r.cmd.payload 4) → exec .secBootLoad s = .next (s.respond r ⟨3, []⟩)) ∧
  (∀ (s : State) (r : Running), Runs s r specSecBootLoad → s.boot.stage = 7 → u32 r.cmd.payload 0 % 4096 = 0 →
      4096 ≤ u32 r.cmd.payload 4 → u32 r.cmd.payload 4 ≤ 1048576 → u32 r.cmd.payload 0 + u32 r.cmd.payload 4 ≤ 0x400000 →
      (∀ st, s.stagedStatus (u32 r.cmd.payload 0) (u32 r.cmd.payload 4) = some st →
        exec .secBootLoad s = .next (({ s with boot := { s.boot with fault := 7, lastFault := 7 } } : State).respond r ⟨st, []⟩)) ∧
      (s.stagedStatus (u32 r.cmd.payload 0) (u32 r.cmd.payload 4) = none →
        ∃ u, exec .secBootLoad s = .next (s.close specSecBootLoad r (.ok u [])) ∧ u.boot.stage = 9 ∧ u.boot.source = 2 ∧
          u.boot.fault = 0 ∧ { u with boot := s.boot } = s)) ∧
  (∀ (s : State) (t : Nat) (b : List Byte), s.role = .worker → s.boot.stage = 8 →
      ∃ u, exec (.cascadeImageReceive t b) s = .next u ∧
        u.boot.stage = (if authenticate b .worker = none then 9 else 8) ∧
        u.boot.fault = (if authenticate b .worker = none then 0 else 7) ∧
        (authenticate b .worker = none → u.boot.source = 3 ∧ u.lcl = s.lcl) ∧
        (authenticate b .worker ≠ none → u.lcl.sent.length = s.lcl.sent.length + 1)) ∧
  (∀ (s : State) (t : Nat) (b : List Byte), (s.role ≠ .worker ∨ s.boot.stage ≠ 8) →
      exec (.cascadeImageReceive t b) s = .next (s.advance t)) ∧
  (∀ (s : State) (t : Nat), s.boot.stage = 9 →
      ∃ u, exec (.firmwareReady t) s = .next u ∧ u.boot.stage = 10 ∧ u.boot.ready = true ∧ u.now = max s.now t) ∧
  (∀ (s : State) (t : Nat), s.boot.stage ≠ 9 → exec (.firmwareReady t) s = .next (s.advance t)) ∧
  (∀ (s : State) (r : Running), Runs s r specSecGetState →
      ∃ p, exec .secGetState s = .next (s.close specSecGetState r (.ok s p)) ∧ p.length = 40 ∧
        u8 p 0 = (if s.fuses.oemKeyHash.isSome then 1 else 0) + (if s.fuses.sealBit then 2 else 0) +
          (if s.fuses.debugLock then 4 else 0) + (if s.boot.keyFault then 8 else 0) ∧
        u8 p 1 = s.boot.lastFault % 256 ∧ u16 p 2 = min s.boot.nvFailed 65535 ∧ u32 p 4 = s.tx.version % 2 ^ 32) ∧
  (∀ (s : State) (r : Running), Runs s r specSecSetOemKey → s.fuses.oemKeyHash.isSome = true →
      exec .secSetOemKey s = .next (s.respond r ⟨4, []⟩)) ∧
  (∀ (s : State) (r : Running), Runs s r specSecSetOemKey → s.fuses.oemKeyHash = none → s.nvTempOk = false →
      exec .secSetOemKey s = .next (s.respond r ⟨6, []⟩)) ∧
  (∀ (s : State) (r : Running), Runs s r specSecSetOemKey → s.fuses.oemKeyHash = none → s.nvTempOk = true →
      exec .secSetOemKey s = .next (s.close specSecSetOemKey r (.later { s with nv := { s.nv with
        queue := s.nv.queue ++ [{ record := .oemKey, data := bytesAt r.cmd.payload 0 64, owner := some r.order }] } } []))) ∧
  (∀ (s : State) (r : Running), Runs s r specSecSealRecord → s.fuses.oemKeyHash = none →
      exec .secSealRecord s = .next (s.respond r ⟨0x0F01, []⟩)) ∧
  (∀ (s : State) (r : Running), Runs s r specSecSealRecord → s.fuses.oemKeyHash.isSome = true → s.fuses.sealBit = true →
      exec .secSealRecord s = .next (s.respond r ⟨4, []⟩)) ∧
  (∀ (s : State) (r : Running), Runs s r specSecSealRecord → s.fuses.oemKeyHash.isSome = true → s.fuses.sealBit = false →
      r.cmd.payload.length = 608 →
      exec .secSealRecord s = .next (if recordWhole r.cmd.payload = false then s.respond r ⟨3, []⟩
        else if s.recordSigned r.cmd.payload = false ∨ s.boot.keyFault = true then s.respond r ⟨9, []⟩
        else if s.nvTempOk = false then s.respond r ⟨6, []⟩
        else s.close specSecSealRecord r (.later { s with nv := { s.nv with
          queue := s.nv.queue ++ [{ record := .sealRecord, data := r.cmd.payload, owner := some r.order }] } } []))) ∧
  (∀ (s : State) (r : Running), Runs s r specSecLockDebug → (u8 r.cmd.payload 0 ≠ 0xA5 ∨ (s.role = .manager ∧
      r.cmd.target = 0xFFFF)) → exec .secLockDebug s = .next (s.respond r ⟨3, []⟩)) ∧
  (∀ (s : State) (r : Running), Runs s r specSecLockDebug → u8 r.cmd.payload 0 = 0xA5 → s.role ≠ .manager →
      exec .secLockDebug s = .next (if s.fuses.debugLock = true then s.respond r ⟨4, []⟩
        else if s.fuses.oemKeyHash = none ∨ s.fuses.sealBit = false then s.respond r ⟨0x0F02, []⟩
        else if u64 r.cmd.payload 8 ≠ Config.uid.toNat then s.respond r ⟨3, []⟩
        else if s.nvTempOk = false then s.respond r ⟨6, []⟩
        else s.close specSecLockDebug r (.later { s with nv := { s.nv with
          queue := s.nv.queue ++ [{ record := .debugLock, owner := some r.order }] } } []))) ∧
  (∀ (s : State) (t : Nat) (k : List Byte) (o : Option Nat), s.nv.queue = [{ record := .oemKey, data := k, owner := o }] →
      s.fuses.oemKeyHash = none → s.nvTempOk = true →
      exec (.nvRecordWriteDone t true) s = .next (({ s.advance t with
        nv := { s.nv with queue := [], bad := s.nv.bad.filter (fun r => r != .oemKey), oemKey := some k }
        fuses := { s.fuses with oemKeyHash := some (sha256 k) } } : State).provisionedEvent 0 0)) ∧
  (∀ (s : State) (t : Nat) (k : List Byte) (o : Option Nat), s.nv.queue = [{ record := .debugLock, data := k, owner := o }] →
      s.fuses.debugLock = false → s.nvTempOk = true →
      exec (.nvRecordWriteDone t true) s = .next (({ s.advance t with
        nv := { s.nv with queue := [], bad := s.nv.bad.filter (fun r => r != .debugLock) }
        fuses := { s.fuses with debugLock := true } } : State).provisionedEvent 2 0)) ∧
  (∀ (s : State) (t : Nat) (k : List Byte) (o : Option Nat), s.nv.queue = [{ record := .sealRecord, data := k, owner := o }] →
      s.fuses.sealBit = false → s.nvTempOk = true →
      ∃ u, exec (.nvRecordWriteDone t true) s = .next u ∧ u.nv.regRecord = some k ∧ u.fuses.sealBit = true ∧ u.nv.queue = [] ∧
        (∀ i, (Tab.get u.tx.duty i {}).slots = [])) ∧
  (∀ (s : State) (t o : Nat) (k : List Byte) (r : Running), s.nv.queue = [{ record := .oemKey, data := k, owner := some o }] →
      s.fuses.oemKeyHash = none → s.nvTempOk = true → s.cmd.running = [r] → r.order = o → r.phase = .deferred ⟨0, []⟩ →
      exec (.nvRecordWriteDone t false) s = .next { s.advance t with
        nv := { s.nv with queue := [] }
        cmd := { s.cmd with running := [{ r with phase := .deferred ⟨0x0F03, []⟩ }] } }) ∧
  (∀ (s : State) (t : Nat) (j : NvJob), s.nv.queue = [{ record := .chainSettings, data := [1#8] }, j] → j.owner = none →
      j.record = .dutyHistory → s.nvTempOk = false →
      ∃ u, exec (.nvRecordWriteDone t true) s = .next u ∧ u.nv.expected = 1 ∧ u.nv.queue = [] ∧ u.nv.duty = s.nv.duty) ∧
  (∀ (s : State) (t : Nat) (ok : Bool), s.nv.queue = [] → exec (.nvRecordWriteDone t ok) s = .next (s.advance t)) ∧
  (∀ (s : State) (t : Nat), s.pins.pwrGood = true →
      exec (.tapInstruction t .idcode) s = .next { s.advance t with tap := { instr := .idcode, captured := 0x16440F79 } }) ∧
  (∀ (s : State) (t : Nat) (x : TapInstr), s.fuses.debugLock = true → x ≠ .bypass → x ≠ .idcode → x ≠ .sample → x ≠ .extest →
      exec (.tapInstruction t x) s = .next (s.advance t)) ∧
  (∀ (s : State) (t a : Nat) (v : Byte), s.pins.pwrGood = true → s.fuses.debugLock = false → 0x10000000 ≤ a →
      exec (.tapInstruction t (.writeMemory a v)) s = .next { s.advance t with
        mem := memWrite unlisted s.mem a v, tap := { instr := .writeMemory a v, captured := 0 } })

/-- Declared failures, maintenance windows, retired paths and wear.
A declared failure takes the unit out, waits for a window while a spare is left, and is counted as held out with its cost
when none is; each raises EV_SPARE_FAILED. SPARE_SET_WINDOW records the one window, ends BUSY while one stands, and with
CANCEL removes it; the open window starts the first replacement in order that ends before it does. A replacement that ends
counts a spare in service, gives it the unit's work, raises EV_SPARE_REPLACED and starts the next; an engine that still
holds contexts after 2 ms has them aborted. SPARE_RETIRE_PATH and SPARE_RESTORE_PATH change the retirements of the paths and
directions named and store the service record, and a path whose slice is lost ends NO_SPARE. EV_SPARE_WEAR is raised once
per boot for each indicator and kind; each hour is counted when the temperature allows. SPARE_GET_STATUS returns Table
SPARE-3. Rules: R502 (in part), R505 (in part), R506 (in part), R507, R508 (in part), R509 (in part), R511 (in part), R512
(in part), R513 (in part), R514 (in part), R516 (in part), R517 (in part). -/
def Obligations.SparesAndServiceLife : Prop :=
  (∀ (s : State) (r : Running), Runs s r specSpareGetStatus →
      ∃ p, exec .spareGetStatus s = .next (s.close specSpareGetStatus r (.ok s p)) ∧ p.length = 0x74 ∧
        u64 p 0x48 = s.spare.rxRetired.toNat ∧ u64 p 0x50 = s.spare.txRetired.toNat ∧ u32 p 0x58 = s.nv.hours % 2 ^ 32 ∧
        u8 p 0x71 = (match s.spare.window with | none => 0 | some w => if w.opened then 2 else 1) ∧
        u16 p 0x20 = 1 ∧ u16 p 0x28 = 2 ∧ u16 p 0x30 = 4 ∧ u16 p 0x38 = 2 ∧ u16 p 0x40 = 4) ∧
  (∀ (s : State) (r : Running), Runs s r specSpareSetWindow → u8 r.cmd.payload 10 % 2 = 0 → 10 ≤ u16 r.cmd.payload 8 →
      u16 r.cmd.payload 8 ≤ 1000 → s.timeUsable = true → s.spare.window = none →
      s.time.deviceAt (r.reached + 38400000) ≤ s.instantOf r.cmd.payload 0 →
      exec .spareSetWindow s = .next (s.close specSpareSetWindow r (.ok { s with spare := { s.spare with
        window := some { start := s.sampleAt (s.time.localOf (s.instantOf r.cmd.payload 0)) 10000,
                         durationMs := u16 r.cmd.payload 8, scheduled := true } } } []))) ∧
  (∀ (s : State) (r : Running), Runs s r specSpareSetWindow → u8 r.cmd.payload 10 % 2 = 1 →
      exec .spareSetWindow s = .next (s.close specSpareSetWindow r (.ok { s with spare := { s.spare with window := none } } []))) ∧
  (∀ (s : State) (r : Running), Runs s r specSpareSetWindow → u8 r.cmd.payload 10 % 2 = 0 →
      (u16 r.cmd.payload 8 < 10 ∨ 1000 < u16 r.cmd.payload 8) → exec .spareSetWindow s = .next (s.respond r ⟨3, []⟩)) ∧
  (∀ (s : State) (r : Running), Runs s r specSpareSetWindow → u8 r.cmd.payload 10 % 2 = 0 → 10 ≤ u16 r.cmd.payload 8 →
      u16 r.cmd.payload 8 ≤ 1000 → s.timeUsable = false → exec .spareSetWindow s = .next (s.respond r ⟨5, []⟩)) ∧
  (∀ (s : State) (r : Running), Runs s r specSpareSetWindow → u8 r.cmd.payload 10 % 2 = 0 → 10 ≤ u16 r.cmd.payload 8 →
      u16 r.cmd.payload 8 ≤ 1000 → s.timeUsable = true → s.spare.window.isSome = true →
      exec .spareSetWindow s = .next (s.respond r ⟨1, []⟩)) ∧
  (∀ (s : State) (r : Running), Runs s r specSpareRetirePath → s.nvTempOk = true →
      exec .spareRetirePath s = .next (s.close specSpareRetirePath r (.later ((s.retirePaths (mask64 r.cmd.payload 0)
        (u8 r.cmd.payload 8 % 4) 1).ownRecordWrite r.order) []))) ∧
  (∀ (s : State) (r : Running), Runs s r specSpareRetirePath → s.nvTempOk = false →
      exec .spareRetirePath s = .next (s.respond r ⟨6, []⟩)) ∧
  (∀ (s : State) (m : Mask64) (dir cause : Nat), dir < 4 →
      (s.retirePaths m dir cause).spare.rxRetired = (if dir % 2 = 1 then s.spare.rxRetired ||| m else s.spare.rxRetired) ∧
      (s.retirePaths m dir cause).spare.txRetired = (if dir / 2 = 1 then s.spare.txRetired ||| m else s.spare.txRetired)) ∧
  (∀ (s : State) (r : Running), Runs s r specSpareRestorePath → mask64 r.cmd.payload 0 &&& s.spare.sliceLost ≠ 0#64 →
      exec .spareRestorePath s = .next (s.respond r ⟨0x0E01, []⟩)) ∧
  (∀ (s : State) (r : Running), Runs s r specSpareRestorePath → mask64 r.cmd.payload 0 &&& s.spare.sliceLost = 0#64 →
      s.nvTempOk = true →
      exec .spareRestorePath s = .next (s.close specSpareRestorePath r (.later ((s.restorePaths (mask64 r.cmd.payload 0)
        (u8 r.cmd.payload 8 % 4)).ownRecordWrite r.order) []))) ∧
  (∀ (s : State) (m : Mask64) (dir : Nat), dir < 4 →
      (s.restorePaths m dir).spare.rxRetired = (if dir % 2 = 1 then s.spare.rxRetired &&& ~~~m else s.spare.rxRetired) ∧
      (s.restorePaths m dir).spare.txRetired = (if dir / 2 = 1 then s.spare.txRetired &&& ~~~m else s.spare.txRetired) ∧
      (s.restorePaths m dir).path.rxMask = s.path.rxMask ∧ (s.restorePaths m dir).path.txMask = s.path.txMask) ∧
  (∀ (s : State) (t u : Nat), exec (.spareFailureDeclared t 2 u) s = .next ((s.advance t).failedEvent 2 u 0) ∧
      exec (.spareFailureDeclared t 3 u) s = .next ((s.advance t).failedEvent 3 u 0)) ∧
  (∀ (s : State) (t m : Nat), Tab.get s.spare.macros m 0 < 2 →
      exec (.spareFailureDeclared t 0 m) s = .next (({ s.advance t with spare := { s.spare with
        macros := Tab.set s.spare.macros m (Tab.get s.spare.macros m 0 + 1) } } : State).failedEvent 0 (m / 4) 0)) ∧
  (∀ (s : State) (t b : Nat), (5, b) ∉ s.spare.waiting → s.spare.window = none → s.spareFree 5 = true →
      ∃ u : State, exec (.spareFailureDeclared t 5 b) s = .next (u.failedEvent 5 b 1) ∧
        u.spare.waiting = s.spare.waiting ++ [(5, b)] ∧ u.spare.banks = s.spare.banks.filter (fun x => x != b) ∧
        u.spare.used = s.spare.used) ∧
  (∀ (s : State) (t p : Nat), (7, p) ∉ s.spare.waiting → s.sparesUsed 7 = 2 →
      ∃ u : State, exec (.spareFailureDeclared t 7 p) s = .next (u.failedEvent 7 p 2) ∧
        Tab.get u.spare.heldOut 7 0 = Tab.get s.spare.heldOut 7 0 + 1 ∧ (u.fabUnit (0x200 + p)).heldOut = true ∧
        u.spare.waiting = s.spare.waiting ∧ { u with now := s.now, spare := s.spare, fab := s.fab } = s) ∧
  (∀ (s : State) (t u : Nat) (k : Fin 9), 4 ≤ k.val → (k.val, u) ∈ s.spare.waiting →
      exec (.spareFailureDeclared t k u) s = .next (s.advance t)) ∧
  (∀ (s : State) (w : Maintenance), s.spare.window = some w → w.opened = false → s.spare.waiting = [] →
      exec .spareWindowOpen s = .next { s.advance w.start with
        spare := { s.spare with window := some { w with opened := true } } }) ∧
  (∀ (s : State) (w : Maintenance) (p : Nat), s.spare.window = some w → w.opened = false → w.turn = 0 → s.spare.current = none →
      s.spare.waiting = [(7, p)] → max s.now w.start + 768000000 < w.start + w.durationMs * 384000000 →
      ∃ u, exec .spareWindowOpen s = .next u ∧ u.now = max s.now w.start ∧ u.spare.waiting = [] ∧
        u.spare.current = some { kind := 7, unit := p, spare := 16 + s.sparesUsed 7, since := u.now } ∧
        u.spare.window = some { w with opened := true, turn := 7 } ∧ { u with now := s.now, spare := s.spare } = s) ∧
  (∀ (s : State) (w : Maintenance) (p : Nat), s.spare.window = some w → w.opened = false → s.spare.current = none →
      s.spare.waiting = [(7, p)] → w.start + w.durationMs * 384000000 ≤ max s.now w.start + 768000000 →
      exec .spareWindowOpen s = .next { s.advance w.start with
        spare := { s.spare with window := some { w with opened := true } } }) ∧
  (∀ s : State, s.spare.window = none → exec .spareWindowOpen s = .next s ∧ exec .maintenanceWindowEnd s = .next s) ∧
  (∀ (s : State) (w : Maintenance), s.spare.window = some w → w.opened = true →
      exec .maintenanceWindowEnd s = .next { s.advance (w.start + w.durationMs * 384000000) with
        spare := { s.spare with window := none } }) ∧
  (∀ (s : State) (t us : Nat) (c : Replacement), s.spare.current = some c → c.kind = 7 → c.since ≤ max s.now t →
      s.spare.window = none → c.unit < 16 → s.spare.procMap = [] →
      ∃ u : State, exec (.spareReplacementDone t us) s = .next (u.raiseEvent 0x0E02 .notice
          (le 1 7 ++ le 1 c.unit ++ le 1 c.spare ++ zeros 1 ++ le 4 (min us 2000) ++ u.ts64Bytes u.now)) ∧
        u.spare.current = none ∧ u.sparesUsed 7 = s.sparesUsed 7 + 1 ∧ u.spare.procMap = [(c.unit, c.spare)] ∧
        (∀ l ∈ u.fab.leases, l.owner ≠ 0x200 + c.unit ∨ c.spare = c.unit)) ∧
  (∀ (s : State) (t us : Nat), s.spare.current = none → exec (.spareReplacementDone t us) s = .next (s.advance t)) ∧
  (∀ (s : State) (t us : Nat) (c : Replacement), s.spare.current = some c → max s.now t < c.since →
      exec (.spareReplacementDone t us) s = .next (s.advance t)) ∧
  (∀ (s : State) (c : Replacement), s.spare.current = some c → c.kind = 8 → c.unit < 32 → s.spare.engineMap = [] →
      exec .engineDrainTimeout s = .next (if (s.advance (c.since + 768000000)).engineActive c.unit
        then (s.advance (c.since + 768000000)).abortEngine c.unit else s.advance (c.since + 768000000))) ∧
  (∀ s : State, s.spare.current = none → exec .engineDrainTimeout s = .next s) ∧
  (∀ (s : State) (t k v : Nat), s.boot.ready = true → 769 ∉ s.spare.wear → 36 ≤ s.nv.spareUsed →
      exec (.spareWear t 3 k v) s = .next (({ s.advance t with spare := { s.spare with
        wear := 769 :: s.spare.wear } } : State).raiseEvent 0x0E04 .notice ([3#8, 1#8, 0#8, 0#8] ++ zeros 12))) ∧
  (∀ (s : State) (t k v : Nat), (769 ∈ s.spare.wear ∨ s.nv.spareUsed < 36) → exec (.spareWear t 3 k v) s = .next (s.advance t)) ∧
  (∀ s : State, s.boot.ready = true → s.nvTempOk = true →
      exec .serviceRecordUpdate s = .next { s.advance (s.spare.hourAt + 1382400000000000) with
        spare := { s.spare with hourAt := s.spare.hourAt + 1382400000000000 }
        nv := { s.nv with
          queue := s.nv.queue ++ [{ record := .serviceRecord, data := le 1 1 ++ le 1 (hoursBand s.thermal.tj) }] } }) ∧
  (∀ s : State, s.boot.ready = true → s.nvTempOk = false →
      exec .serviceRecordUpdate s = .next { s.advance (s.spare.hourAt + 1382400000000000) with
        spare := { s.spare with hourAt := s.spare.hourAt + 1382400000000000 } }) ∧
  (∀ s : State, s.boot.ready = false → exec .serviceRecordUpdate s = .next s)
end

