-- ==== Sys2Proof/Laws/Commands.lean ====
section
/-!
SUPPORT. What running a Malette command does: one lemma per outcome, which later proofs cite in place of unfolding.
-/

namespace Sys2Proof.Machine

open Sys2Proof

/-- A command that runs here: its effect, closed with a response, a deferral or a relay. -/
theorem runCommand_runs {s : State} {r : Running} {sp : CmdSpec} (body : Running → State → CmdEffect)
    (h : Runs s r sp) : runCommand sp body s = .next (s.close sp r (body r s)) := by
  obtain ⟨hn, ho, he, hr⟩ := h
  simp [runCommand, hn, ho, State.execute, he, hr]

/-- A command that fails a check of its envelope: the status and nothing else. -/
theorem runCommand_turnedAway {s : State} {r : Running} {sp : CmdSpec} {st : Nat}
    (body : Running → State → CmdEffect) (h : TurnedAway s r sp st) :
    runCommand sp body s = .next (s.respond r ⟨st, []⟩) := by
  obtain ⟨hn, ho, he⟩ := h
  simp [runCommand, hn, ho, State.execute, he]

/-- Another command is next, or none: nothing changes. -/
theorem runCommand_other {s : State} {sp : CmdSpec} (body : Running → State → CmdEffect)
    (h : ∀ r, s.nextCommand = some r → r.cmd.opcode ≠ sp.opcode) : runCommand sp body s = .next s := by
  unfold runCommand
  split
  · rename_i r hr
    simp [h r hr]
  · rfl

/-- A command that ended with a status other than OK is answered at once. -/
theorem close_failed {s : State} {r : Running} {sp : CmdSpec} {e : CmdEffect}
    (h : e.reply.status ≠ Status.ok) (hd : e.defer = false) : s.close sp r e = e.state.respond r e.reply := by
  simp [State.close, State.finish, h, hd]

/-- A command that runs on this device alone and completes at once is answered at once. -/
theorem close_alone {s : State} {r : Running} {sp : CmdSpec} {e : CmdEffect}
    (h : s.relayTargets sp r = []) (hd : e.defer = false) : s.close sp r e = e.state.respond r e.reply := by
  simp [State.close, State.finish, h, hd]

/-- Writing a response changes the command unit, the host interface and the cascade's messages, and nothing else. -/
theorem respond_frame (s : State) (r : Running) (p : Reply) :
    { s.respond r p with cmd := s.cmd, host := s.host, lcl := s.lcl } = s := by
  unfold State.respond
  by_cases hc : r.cascade = true
  · simp [hc, State.toManager, State.message]
  · by_cases ho : r.orphan = true <;> simp [hc, ho]

end Sys2Proof.Machine
end

