-- ==== Sys2Proof/Laws/Events.lean ====
section
/-!
SUPPORT. Raising an event (R391 to R396): everything it can change.
-/

namespace Sys2Proof.Machine

open Sys2Proof

variable (s : State)

/-- A worker's event changes the event unit and the cascade's side alone. -/
theorem State.workerEvent_frame (r : EvRec) : { s.workerEvent r with evq := s.evq, lcl := s.lcl } = s := by
  unfold State.workerEvent
  by_cases hj : s.lcl.joined = true
  · simp [hj, State.toManager, State.message]
  · by_cases hl : s.lcl.events.length < 256 <;> simp [hj, hl]

/-- An event changes the event unit and, on a worker, the cascade's side: no register, mode or memory else. -/
theorem State.raiseEvent_frame (typ : Nat) (sev : Severity) (p : List Byte) :
    { s.raiseEvent typ sev p with evq := s.evq, lcl := s.lcl } = s := by
  unfold State.raiseEvent
  split
  · rfl
  · split
    · simp only []
      split
      · exact congrArg (fun t : State => { t with evq := s.evq })
          (State.workerEvent_frame { s with evq := { s.evq with fatal := true } } _)
      · split <;> rfl
    · simp only []
      split
      · exact State.workerEvent_frame _ _
      · split <;> rfl

end Sys2Proof.Machine
end

