-- ==== Sys2Proof/Laws/Memory.lean ====
section
/-!
SUPPORT. Every memory operation keeps the canonical form; a read after a write gives the byte written, and other bytes stay.
-/

namespace Sys2Proof.Machine

open Sys2Proof

/-- In a list above `lo`, an address at or below `lo` reads as unlisted. -/
theorem memRead_below {d : Byte} {lo : Nat} {m : List Host.Cell} (h : memWfFrom d (some lo) m = true) {a : Nat}
    (ha : a ≤ lo) : memRead d m a = d := by
  induction m generalizing lo with
  | nil => rfl
  | cons p r ih =>
    obtain ⟨b, w⟩ := p
    simp only [memWfFrom, Bool.and_eq_true, decide_eq_true_eq] at h
    have hb : b ≠ a := by omega
    simp only [memRead, hb, if_false]
    exact ih h.2 (by omega)

/-- The lower bound of a list may fall. -/
theorem memWfFrom_mono {d : Byte} {lo : Nat} {lo' : Option Nat} {m : List Host.Cell}
    (h : memWfFrom d (some lo) m = true) (hl : ∀ l, lo' = some l → l ≤ lo) : memWfFrom d lo' m = true := by
  cases m with
  | nil => rfl
  | cons p r =>
    obtain ⟨b, w⟩ := p
    simp only [memWfFrom, Bool.and_eq_true, decide_eq_true_eq] at h ⊢
    refine ⟨⟨?_, h.1.2⟩, h.2⟩
    cases lo' with
    | none => rfl
    | some l => have := hl l rfl; simp; omega

/-- A write above the lower bound keeps the form. -/
theorem memWfFrom_write {d : Byte} {lo : Option Nat} {m : List Host.Cell} (h : memWfFrom d lo m = true) (a : Nat)
    (v : Byte) (ha : ∀ l, lo = some l → l < a) : memWfFrom d lo (memWrite d m a v) = true := by
  induction m generalizing lo with
  | nil =>
    simp only [memWrite]
    split
    · rfl
    · cases lo with
      | none => simp_all [memWfFrom]
      | some l => have := ha l rfl; simp_all [memWfFrom]
  | cons p r ih =>
    obtain ⟨b, w⟩ := p
    have h0 := h
    simp only [memWfFrom, Bool.and_eq_true] at h
    simp only [memWrite]
    split
    · rename_i hab
      split
      · exact h0
      · rename_i hv
        have hs : memWfFrom d (some a) ((b, w) :: r) = true := by
          simp only [memWfFrom, Bool.and_eq_true, decide_eq_true_eq]
          exact ⟨⟨hab, h.1.2⟩, h.2⟩
        have hne : (v != d) = true := by simpa using hv
        cases lo with
        | none => simp [memWfFrom, hne] at hs ⊢; exact hs
        | some l => have := ha l rfl; simp [memWfFrom, hne, this] at hs ⊢; exact hs
    · split
      · rename_i hba heq
        subst heq
        split
        · refine memWfFrom_mono h.2 ?_
          intro l hl
          exact Nat.le_of_lt (ha l hl)
        · rename_i hv
          have hne : (v != d) = true := by simpa using hv
          simp only [memWfFrom, Bool.and_eq_true]
          exact ⟨⟨h.1.1, hne⟩, h.2⟩
      · rename_i h1 h2
        simp only [memWfFrom, Bool.and_eq_true]
        refine ⟨h.1, ih h.2 ?_⟩
        intro l hl
        cases hl
        omega

/-- One write keeps the canonical form. -/
theorem Memory.wf_write {d : Byte} {m : List Host.Cell} (h : Memory.wf d m = true) (a : Nat) (v : Byte) :
    Memory.wf d (memWrite d m a v) = true :=
  memWfFrom_write h a v (by simp)

/-- A string of writes keeps the canonical form. -/
theorem Memory.wf_writeBytes {d : Byte} {m : List Host.Cell} (h : Memory.wf d m = true) (a : Nat) (l : List Byte) :
    Memory.wf d (memWriteBytes d m a l) = true := by
  induction l generalizing m a with
  | nil => exact h
  | cons v r ih => exact ih (Memory.wf_write h a v) (a + 1)

/-- Writes under byte enables keep the canonical form. -/
theorem Memory.wf_writeEnabled {d : Byte} {m : List Host.Cell} (h : Memory.wf d m = true) (a : Nat)
    (l : List (Option Byte)) : Memory.wf d (memWriteEnabled d m a l) = true := by
  induction l generalizing m a with
  | nil => exact h
  | cons v r ih =>
    cases v with
    | none => exact ih h (a + 1)
    | some v => exact ih (Memory.wf_write h a v) (a + 1)

/-- Another address reads as before a write. -/
theorem memRead_write_ne {d : Byte} (m : List Host.Cell) {a b : Nat} (v : Byte) (hab : b ≠ a) :
    memRead d (memWrite d m a v) b = memRead d m b := by
  induction m with
  | nil =>
    simp only [memWrite]
    split
    · rfl
    · simp [memRead, Ne.symm hab]
  | cons p r ih =>
    obtain ⟨c, w⟩ := p
    simp only [memWrite]
    split
    · split
      · rfl
      · simp [memRead, Ne.symm hab]
    · split
      · rename_i heq
        subst heq
        split <;> simp [memRead, Ne.symm hab]
      · simp only [memRead, ih]

/-- In canonical form, a read after a write gives the byte written. -/
theorem memRead_write_self {d : Byte} {lo : Option Nat} {m : List Host.Cell} (h : memWfFrom d lo m = true) (a : Nat)
    (v : Byte) : memRead d (memWrite d m a v) a = v := by
  induction m generalizing lo with
  | nil =>
    simp only [memWrite]
    split
    · rename_i hv; simp [memRead, hv]
    · simp [memRead]
  | cons p r ih =>
    obtain ⟨c, w⟩ := p
    have h0 := h
    simp only [memWfFrom, Bool.and_eq_true] at h
    simp only [memWrite]
    split
    · rename_i hac
      split
      · rename_i hv
        have : c ≠ a := by omega
        simp only [memRead, this, if_false]
        rw [hv]
        exact memRead_below h.2 (by omega)
      · simp [memRead]
    · split
      · rename_i heq
        subst heq
        split
        · rename_i hv
          rw [hv]
          exact memRead_below h.2 (Nat.le_refl _)
        · simp [memRead]
      · rename_i h1 h2
        have : c ≠ a := fun hc => h2 hc.symm
        simp only [memRead, this, if_false]
        exact ih h.2

/-- A byte outside a written range reads as before. -/
theorem memRead_writeBytes_out {d : Byte} (m : List Host.Cell) (a : Nat) (l : List Byte) {b : Nat}
    (hb : b < a ∨ a + l.length ≤ b) : memRead d (memWriteBytes d m a l) b = memRead d m b := by
  induction l generalizing m a with
  | nil => rfl
  | cons v r ih =>
    simp only [memWriteBytes]
    simp only [List.length_cons] at hb
    rw [ih _ _ (by omega)]
    exact memRead_write_ne m v (by omega)

/-- In canonical form, a byte of a written range reads as written. -/
theorem memRead_writeBytes_in {d : Byte} {m : List Host.Cell} (h : Memory.wf d m = true) (a : Nat) (l : List Byte)
    {k : Nat} (hk : k < l.length) : memRead d (memWriteBytes d m a l) (a + k) = l[k] := by
  induction l generalizing m a k with
  | nil => simp at hk
  | cons v r ih =>
    simp only [memWriteBytes]
    cases k with
    | zero =>
      rw [memRead_writeBytes_out _ _ _ (by omega)]
      exact memRead_write_self h a v
    | succ k =>
      have := ih (Memory.wf_write h a v) (a + 1) (k := k) (by simpa using hk)
      simpa [Nat.add_assoc, Nat.add_comm 1 k] using this

/-- Reading a string reads each of its bytes. -/
theorem memReadBytes_get {d : Byte} (m : List Host.Cell) (a n : Nat) {k : Nat} (hk : k < n) :
    (memReadBytes d m a n)[k]? = some (memRead d m (a + k)) := by
  induction n generalizing a k with
  | zero => omega
  | succ n ih =>
    simp only [memReadBytes]
    cases k with
    | zero => rfl
    | succ k =>
      simp only [List.getElem?_cons_succ]
      rw [ih (a + 1) (by omega)]
      congr 2
      omega

/-- A string read has the length asked for. -/
@[simp] theorem memReadBytes_length {d : Byte} (m : List Host.Cell) (a n : Nat) : (memReadBytes d m a n).length = n := by
  induction n generalizing a with
  | zero => rfl
  | succ n ih => simp [memReadBytes, ih]

end Sys2Proof.Machine
end

