-- ==== Sys2Proof/Laws/State.lean ====
section
/-!
SUPPORT. What the named updates of the state leave unchanged, field by field: one lemma per update, which simp reads as one
rewrite rule per field, so that no later proof unfolds a record update. Where the new value of the changed part is a plain update
of a table, a second lemma gives it.
-/

namespace Sys2Proof.Machine

open Sys2Proof

variable (s : State)

/-- Moving local time changes `now` alone. -/
@[simp] theorem State.advance_frame (t : Nat) :
    (s.advance t).pending = s.pending ∧ (s.advance t).free = s.free ∧ (s.advance t).mem = s.mem ∧
    (s.advance t).hostMem = s.hostMem ∧ (s.advance t).host = s.host ∧ (s.advance t).evq = s.evq ∧ (s.advance t).cmd = s.cmd ∧
    (s.advance t).nv = s.nv ∧ (s.advance t).pins = s.pins ∧ (s.advance t).fuses = s.fuses ∧ (s.advance t).boot = s.boot ∧
    (s.advance t).dawn = s.dawn ∧ (s.advance t).thermal = s.thermal ∧ (s.advance t).tap = s.tap ∧ (s.advance t).lcl = s.lcl ∧
    (s.advance t).fh = s.fh ∧ (s.advance t).time = s.time ∧ (s.advance t).fab = s.fab ∧ (s.advance t).dma = s.dma ∧
    (s.advance t).path = s.path ∧ (s.advance t).radio = s.radio ∧ (s.advance t).filt = s.filt ∧ (s.advance t).beam = s.beam ∧
    (s.advance t).hzn = s.hzn ∧ (s.advance t).dmd = s.dmd ∧ (s.advance t).tx = s.tx ∧ (s.advance t).dpd = s.dpd ∧
    (s.advance t).halo = s.halo ∧ (s.advance t).cal = s.cal ∧ (s.advance t).spare = s.spare := by
  repeat' apply And.intro
  all_goals rfl

/-- Sending a message changes `lcl` alone. -/
@[simp] theorem State.message_frame (dst kind : Nat) (body : List Byte) :
    (s.message dst kind body).now = s.now ∧ (s.message dst kind body).pending = s.pending ∧
    (s.message dst kind body).free = s.free ∧ (s.message dst kind body).mem = s.mem ∧
    (s.message dst kind body).hostMem = s.hostMem ∧ (s.message dst kind body).host = s.host ∧
    (s.message dst kind body).evq = s.evq ∧ (s.message dst kind body).cmd = s.cmd ∧ (s.message dst kind body).nv = s.nv ∧
    (s.message dst kind body).pins = s.pins ∧ (s.message dst kind body).fuses = s.fuses ∧
    (s.message dst kind body).boot = s.boot ∧ (s.message dst kind body).dawn = s.dawn ∧
    (s.message dst kind body).thermal = s.thermal ∧ (s.message dst kind body).tap = s.tap ∧
    (s.message dst kind body).fh = s.fh ∧ (s.message dst kind body).time = s.time ∧ (s.message dst kind body).fab = s.fab ∧
    (s.message dst kind body).dma = s.dma ∧ (s.message dst kind body).path = s.path ∧
    (s.message dst kind body).radio = s.radio ∧ (s.message dst kind body).filt = s.filt ∧
    (s.message dst kind body).beam = s.beam ∧ (s.message dst kind body).hzn = s.hzn ∧ (s.message dst kind body).dmd = s.dmd ∧
    (s.message dst kind body).tx = s.tx ∧ (s.message dst kind body).dpd = s.dpd ∧ (s.message dst kind body).halo = s.halo ∧
    (s.message dst kind body).cal = s.cal ∧ (s.message dst kind body).spare = s.spare := by
  repeat' apply And.intro
  all_goals rfl

/-- A message to the manager changes `lcl` alone. -/
@[simp] theorem State.toManager_frame (kind : Nat) (body : List Byte) :
    (s.toManager kind body).now = s.now ∧ (s.toManager kind body).pending = s.pending ∧
    (s.toManager kind body).free = s.free ∧ (s.toManager kind body).mem = s.mem ∧
    (s.toManager kind body).hostMem = s.hostMem ∧ (s.toManager kind body).host = s.host ∧
    (s.toManager kind body).evq = s.evq ∧ (s.toManager kind body).cmd = s.cmd ∧ (s.toManager kind body).nv = s.nv ∧
    (s.toManager kind body).pins = s.pins ∧ (s.toManager kind body).fuses = s.fuses ∧ (s.toManager kind body).boot = s.boot ∧
    (s.toManager kind body).dawn = s.dawn ∧ (s.toManager kind body).thermal = s.thermal ∧
    (s.toManager kind body).tap = s.tap ∧ (s.toManager kind body).fh = s.fh ∧ (s.toManager kind body).time = s.time ∧
    (s.toManager kind body).fab = s.fab ∧ (s.toManager kind body).dma = s.dma ∧ (s.toManager kind body).path = s.path ∧
    (s.toManager kind body).radio = s.radio ∧ (s.toManager kind body).filt = s.filt ∧ (s.toManager kind body).beam = s.beam ∧
    (s.toManager kind body).hzn = s.hzn ∧ (s.toManager kind body).dmd = s.dmd ∧ (s.toManager kind body).tx = s.tx ∧
    (s.toManager kind body).dpd = s.dpd ∧ (s.toManager kind body).halo = s.halo ∧ (s.toManager kind body).cal = s.cal ∧
    (s.toManager kind body).spare = s.spare := by
  repeat' apply And.intro
  all_goals rfl

/-- Notifying the host changes `host` alone. -/
@[simp] theorem State.notify_frame (v bit : Nat) :
    (s.notify v bit).now = s.now ∧ (s.notify v bit).pending = s.pending ∧ (s.notify v bit).free = s.free ∧
    (s.notify v bit).mem = s.mem ∧ (s.notify v bit).hostMem = s.hostMem ∧ (s.notify v bit).evq = s.evq ∧
    (s.notify v bit).cmd = s.cmd ∧ (s.notify v bit).nv = s.nv ∧ (s.notify v bit).pins = s.pins ∧
    (s.notify v bit).fuses = s.fuses ∧ (s.notify v bit).boot = s.boot ∧ (s.notify v bit).dawn = s.dawn ∧
    (s.notify v bit).thermal = s.thermal ∧ (s.notify v bit).tap = s.tap ∧ (s.notify v bit).lcl = s.lcl ∧
    (s.notify v bit).fh = s.fh ∧ (s.notify v bit).time = s.time ∧ (s.notify v bit).fab = s.fab ∧
    (s.notify v bit).dma = s.dma ∧ (s.notify v bit).path = s.path ∧ (s.notify v bit).radio = s.radio ∧
    (s.notify v bit).filt = s.filt ∧ (s.notify v bit).beam = s.beam ∧ (s.notify v bit).hzn = s.hzn ∧
    (s.notify v bit).dmd = s.dmd ∧ (s.notify v bit).tx = s.tx ∧ (s.notify v bit).dpd = s.dpd ∧
    (s.notify v bit).halo = s.halo ∧ (s.notify v bit).cal = s.cal ∧ (s.notify v bit).spare = s.spare := by
  repeat' apply And.intro
  all_goals rfl

/-- Writing a mailbox changes `host` alone. -/
@[simp] theorem State.setMailbox_frame (n : Nat) (b : Mailbox) :
    (s.setMailbox n b).now = s.now ∧ (s.setMailbox n b).pending = s.pending ∧ (s.setMailbox n b).free = s.free ∧
    (s.setMailbox n b).mem = s.mem ∧ (s.setMailbox n b).hostMem = s.hostMem ∧ (s.setMailbox n b).evq = s.evq ∧
    (s.setMailbox n b).cmd = s.cmd ∧ (s.setMailbox n b).nv = s.nv ∧ (s.setMailbox n b).pins = s.pins ∧
    (s.setMailbox n b).fuses = s.fuses ∧ (s.setMailbox n b).boot = s.boot ∧ (s.setMailbox n b).dawn = s.dawn ∧
    (s.setMailbox n b).thermal = s.thermal ∧ (s.setMailbox n b).tap = s.tap ∧ (s.setMailbox n b).lcl = s.lcl ∧
    (s.setMailbox n b).fh = s.fh ∧ (s.setMailbox n b).time = s.time ∧ (s.setMailbox n b).fab = s.fab ∧
    (s.setMailbox n b).dma = s.dma ∧ (s.setMailbox n b).path = s.path ∧ (s.setMailbox n b).radio = s.radio ∧
    (s.setMailbox n b).filt = s.filt ∧ (s.setMailbox n b).beam = s.beam ∧ (s.setMailbox n b).hzn = s.hzn ∧
    (s.setMailbox n b).dmd = s.dmd ∧ (s.setMailbox n b).tx = s.tx ∧ (s.setMailbox n b).dpd = s.dpd ∧
    (s.setMailbox n b).halo = s.halo ∧ (s.setMailbox n b).cal = s.cal ∧ (s.setMailbox n b).spare = s.spare := by
  repeat' apply And.intro
  all_goals rfl

/-- Writing a DMA channel changes `dma` alone. -/
@[simp] theorem State.setChannel_frame (c : Nat) (ch : Channel) :
    (s.setChannel c ch).now = s.now ∧ (s.setChannel c ch).pending = s.pending ∧ (s.setChannel c ch).free = s.free ∧
    (s.setChannel c ch).mem = s.mem ∧ (s.setChannel c ch).hostMem = s.hostMem ∧ (s.setChannel c ch).host = s.host ∧
    (s.setChannel c ch).evq = s.evq ∧ (s.setChannel c ch).cmd = s.cmd ∧ (s.setChannel c ch).nv = s.nv ∧
    (s.setChannel c ch).pins = s.pins ∧ (s.setChannel c ch).fuses = s.fuses ∧ (s.setChannel c ch).boot = s.boot ∧
    (s.setChannel c ch).dawn = s.dawn ∧ (s.setChannel c ch).thermal = s.thermal ∧ (s.setChannel c ch).tap = s.tap ∧
    (s.setChannel c ch).lcl = s.lcl ∧ (s.setChannel c ch).fh = s.fh ∧ (s.setChannel c ch).time = s.time ∧
    (s.setChannel c ch).fab = s.fab ∧ (s.setChannel c ch).path = s.path ∧ (s.setChannel c ch).radio = s.radio ∧
    (s.setChannel c ch).filt = s.filt ∧ (s.setChannel c ch).beam = s.beam ∧ (s.setChannel c ch).hzn = s.hzn ∧
    (s.setChannel c ch).dmd = s.dmd ∧ (s.setChannel c ch).tx = s.tx ∧ (s.setChannel c ch).dpd = s.dpd ∧
    (s.setChannel c ch).halo = s.halo ∧ (s.setChannel c ch).cal = s.cal ∧ (s.setChannel c ch).spare = s.spare := by
  repeat' apply And.intro
  all_goals rfl

/-- Writing an order of the fabric changes `fab` alone. -/
@[simp] theorem State.setUnit_frame (o : Nat) (u : FabUnit) :
    (s.setUnit o u).now = s.now ∧ (s.setUnit o u).pending = s.pending ∧ (s.setUnit o u).free = s.free ∧
    (s.setUnit o u).mem = s.mem ∧ (s.setUnit o u).hostMem = s.hostMem ∧ (s.setUnit o u).host = s.host ∧
    (s.setUnit o u).evq = s.evq ∧ (s.setUnit o u).cmd = s.cmd ∧ (s.setUnit o u).nv = s.nv ∧ (s.setUnit o u).pins = s.pins ∧
    (s.setUnit o u).fuses = s.fuses ∧ (s.setUnit o u).boot = s.boot ∧ (s.setUnit o u).dawn = s.dawn ∧
    (s.setUnit o u).thermal = s.thermal ∧ (s.setUnit o u).tap = s.tap ∧ (s.setUnit o u).lcl = s.lcl ∧
    (s.setUnit o u).fh = s.fh ∧ (s.setUnit o u).time = s.time ∧ (s.setUnit o u).dma = s.dma ∧ (s.setUnit o u).path = s.path ∧
    (s.setUnit o u).radio = s.radio ∧ (s.setUnit o u).filt = s.filt ∧ (s.setUnit o u).beam = s.beam ∧
    (s.setUnit o u).hzn = s.hzn ∧ (s.setUnit o u).dmd = s.dmd ∧ (s.setUnit o u).tx = s.tx ∧ (s.setUnit o u).dpd = s.dpd ∧
    (s.setUnit o u).halo = s.halo ∧ (s.setUnit o u).cal = s.cal ∧ (s.setUnit o u).spare = s.spare := by
  repeat' apply And.intro
  all_goals rfl

/-- Writing a capture slot changes `halo` alone. -/
@[simp] theorem State.setSlot_frame (n : Nat) (f : HaloSlot → HaloSlot) :
    (s.setSlot n f).now = s.now ∧ (s.setSlot n f).pending = s.pending ∧ (s.setSlot n f).free = s.free ∧
    (s.setSlot n f).mem = s.mem ∧ (s.setSlot n f).hostMem = s.hostMem ∧ (s.setSlot n f).host = s.host ∧
    (s.setSlot n f).evq = s.evq ∧ (s.setSlot n f).cmd = s.cmd ∧ (s.setSlot n f).nv = s.nv ∧ (s.setSlot n f).pins = s.pins ∧
    (s.setSlot n f).fuses = s.fuses ∧ (s.setSlot n f).boot = s.boot ∧ (s.setSlot n f).dawn = s.dawn ∧
    (s.setSlot n f).thermal = s.thermal ∧ (s.setSlot n f).tap = s.tap ∧ (s.setSlot n f).lcl = s.lcl ∧
    (s.setSlot n f).fh = s.fh ∧ (s.setSlot n f).time = s.time ∧ (s.setSlot n f).fab = s.fab ∧ (s.setSlot n f).dma = s.dma ∧
    (s.setSlot n f).path = s.path ∧ (s.setSlot n f).radio = s.radio ∧ (s.setSlot n f).filt = s.filt ∧
    (s.setSlot n f).beam = s.beam ∧ (s.setSlot n f).hzn = s.hzn ∧ (s.setSlot n f).dmd = s.dmd ∧ (s.setSlot n f).tx = s.tx ∧
    (s.setSlot n f).dpd = s.dpd ∧ (s.setSlot n f).cal = s.cal ∧ (s.setSlot n f).spare = s.spare := by
  repeat' apply And.intro
  all_goals rfl

/-- Writing a synthesizer changes `radio` alone. -/
@[simp] theorem State.setSyn_frame (k : Nat) (f : Synth → Synth) :
    (s.setSyn k f).now = s.now ∧ (s.setSyn k f).pending = s.pending ∧ (s.setSyn k f).free = s.free ∧
    (s.setSyn k f).mem = s.mem ∧ (s.setSyn k f).hostMem = s.hostMem ∧ (s.setSyn k f).host = s.host ∧
    (s.setSyn k f).evq = s.evq ∧ (s.setSyn k f).cmd = s.cmd ∧ (s.setSyn k f).nv = s.nv ∧ (s.setSyn k f).pins = s.pins ∧
    (s.setSyn k f).fuses = s.fuses ∧ (s.setSyn k f).boot = s.boot ∧ (s.setSyn k f).dawn = s.dawn ∧
    (s.setSyn k f).thermal = s.thermal ∧ (s.setSyn k f).tap = s.tap ∧ (s.setSyn k f).lcl = s.lcl ∧ (s.setSyn k f).fh = s.fh ∧
    (s.setSyn k f).time = s.time ∧ (s.setSyn k f).fab = s.fab ∧ (s.setSyn k f).dma = s.dma ∧ (s.setSyn k f).path = s.path ∧
    (s.setSyn k f).filt = s.filt ∧ (s.setSyn k f).beam = s.beam ∧ (s.setSyn k f).hzn = s.hzn ∧ (s.setSyn k f).dmd = s.dmd ∧
    (s.setSyn k f).tx = s.tx ∧ (s.setSyn k f).dpd = s.dpd ∧ (s.setSyn k f).halo = s.halo ∧ (s.setSyn k f).cal = s.cal ∧
    (s.setSyn k f).spare = s.spare := by
  repeat' apply And.intro
  all_goals rfl

/-- Writing a hop changes `lcl` alone. -/
@[simp] theorem State.setHop_frame (h : Nat) (f : Hop → Hop) :
    (s.setHop h f).now = s.now ∧ (s.setHop h f).pending = s.pending ∧ (s.setHop h f).free = s.free ∧
    (s.setHop h f).mem = s.mem ∧ (s.setHop h f).hostMem = s.hostMem ∧ (s.setHop h f).host = s.host ∧
    (s.setHop h f).evq = s.evq ∧ (s.setHop h f).cmd = s.cmd ∧ (s.setHop h f).nv = s.nv ∧ (s.setHop h f).pins = s.pins ∧
    (s.setHop h f).fuses = s.fuses ∧ (s.setHop h f).boot = s.boot ∧ (s.setHop h f).dawn = s.dawn ∧
    (s.setHop h f).thermal = s.thermal ∧ (s.setHop h f).tap = s.tap ∧ (s.setHop h f).fh = s.fh ∧
    (s.setHop h f).time = s.time ∧ (s.setHop h f).fab = s.fab ∧ (s.setHop h f).dma = s.dma ∧ (s.setHop h f).path = s.path ∧
    (s.setHop h f).radio = s.radio ∧ (s.setHop h f).filt = s.filt ∧ (s.setHop h f).beam = s.beam ∧
    (s.setHop h f).hzn = s.hzn ∧ (s.setHop h f).dmd = s.dmd ∧ (s.setHop h f).tx = s.tx ∧ (s.setHop h f).dpd = s.dpd ∧
    (s.setHop h f).halo = s.halo ∧ (s.setHop h f).cal = s.cal ∧ (s.setHop h f).spare = s.spare := by
  repeat' apply And.intro
  all_goals rfl

/-- Writing a port changes `fh` alone. -/
@[simp] theorem State.setPort_frame (p : Nat) (f : Port → Port) :
    (s.setPort p f).now = s.now ∧ (s.setPort p f).pending = s.pending ∧ (s.setPort p f).free = s.free ∧
    (s.setPort p f).mem = s.mem ∧ (s.setPort p f).hostMem = s.hostMem ∧ (s.setPort p f).host = s.host ∧
    (s.setPort p f).evq = s.evq ∧ (s.setPort p f).cmd = s.cmd ∧ (s.setPort p f).nv = s.nv ∧ (s.setPort p f).pins = s.pins ∧
    (s.setPort p f).fuses = s.fuses ∧ (s.setPort p f).boot = s.boot ∧ (s.setPort p f).dawn = s.dawn ∧
    (s.setPort p f).thermal = s.thermal ∧ (s.setPort p f).tap = s.tap ∧ (s.setPort p f).lcl = s.lcl ∧
    (s.setPort p f).time = s.time ∧ (s.setPort p f).fab = s.fab ∧ (s.setPort p f).dma = s.dma ∧
    (s.setPort p f).path = s.path ∧ (s.setPort p f).radio = s.radio ∧ (s.setPort p f).filt = s.filt ∧
    (s.setPort p f).beam = s.beam ∧ (s.setPort p f).hzn = s.hzn ∧ (s.setPort p f).dmd = s.dmd ∧ (s.setPort p f).tx = s.tx ∧
    (s.setPort p f).dpd = s.dpd ∧ (s.setPort p f).halo = s.halo ∧ (s.setPort p f).cal = s.cal ∧
    (s.setPort p f).spare = s.spare := by
  repeat' apply And.intro
  all_goals rfl

/-- Counting at a port changes `fh` alone. -/
@[simp] theorem State.portCount_frame (p : Nat) (f : PortCounts → PortCounts) :
    (s.portCount p f).now = s.now ∧ (s.portCount p f).pending = s.pending ∧ (s.portCount p f).free = s.free ∧
    (s.portCount p f).mem = s.mem ∧ (s.portCount p f).hostMem = s.hostMem ∧ (s.portCount p f).host = s.host ∧
    (s.portCount p f).evq = s.evq ∧ (s.portCount p f).cmd = s.cmd ∧ (s.portCount p f).nv = s.nv ∧
    (s.portCount p f).pins = s.pins ∧ (s.portCount p f).fuses = s.fuses ∧ (s.portCount p f).boot = s.boot ∧
    (s.portCount p f).dawn = s.dawn ∧ (s.portCount p f).thermal = s.thermal ∧ (s.portCount p f).tap = s.tap ∧
    (s.portCount p f).lcl = s.lcl ∧ (s.portCount p f).time = s.time ∧ (s.portCount p f).fab = s.fab ∧
    (s.portCount p f).dma = s.dma ∧ (s.portCount p f).path = s.path ∧ (s.portCount p f).radio = s.radio ∧
    (s.portCount p f).filt = s.filt ∧ (s.portCount p f).beam = s.beam ∧ (s.portCount p f).hzn = s.hzn ∧
    (s.portCount p f).dmd = s.dmd ∧ (s.portCount p f).tx = s.tx ∧ (s.portCount p f).dpd = s.dpd ∧
    (s.portCount p f).halo = s.halo ∧ (s.portCount p f).cal = s.cal ∧ (s.portCount p f).spare = s.spare := by
  repeat' apply And.intro
  all_goals rfl

/-- Writing a path of the DPD changes `dpd` alone. -/
@[simp] theorem State.setDpd_frame (p : Nat) (f : DpdPath → DpdPath) :
    (s.setDpd p f).now = s.now ∧ (s.setDpd p f).pending = s.pending ∧ (s.setDpd p f).free = s.free ∧
    (s.setDpd p f).mem = s.mem ∧ (s.setDpd p f).hostMem = s.hostMem ∧ (s.setDpd p f).host = s.host ∧
    (s.setDpd p f).evq = s.evq ∧ (s.setDpd p f).cmd = s.cmd ∧ (s.setDpd p f).nv = s.nv ∧ (s.setDpd p f).pins = s.pins ∧
    (s.setDpd p f).fuses = s.fuses ∧ (s.setDpd p f).boot = s.boot ∧ (s.setDpd p f).dawn = s.dawn ∧
    (s.setDpd p f).thermal = s.thermal ∧ (s.setDpd p f).tap = s.tap ∧ (s.setDpd p f).lcl = s.lcl ∧ (s.setDpd p f).fh = s.fh ∧
    (s.setDpd p f).time = s.time ∧ (s.setDpd p f).fab = s.fab ∧ (s.setDpd p f).dma = s.dma ∧ (s.setDpd p f).path = s.path ∧
    (s.setDpd p f).radio = s.radio ∧ (s.setDpd p f).filt = s.filt ∧ (s.setDpd p f).beam = s.beam ∧
    (s.setDpd p f).hzn = s.hzn ∧ (s.setDpd p f).dmd = s.dmd ∧ (s.setDpd p f).tx = s.tx ∧ (s.setDpd p f).halo = s.halo ∧
    (s.setDpd p f).cal = s.cal ∧ (s.setDpd p f).spare = s.spare := by
  repeat' apply And.intro
  all_goals rfl

/-- Writing a path of the tuner changes `dpd` alone. -/
@[simp] theorem State.setTune_frame (p : Nat) (f : TunePath → TunePath) :
    (s.setTune p f).now = s.now ∧ (s.setTune p f).pending = s.pending ∧ (s.setTune p f).free = s.free ∧
    (s.setTune p f).mem = s.mem ∧ (s.setTune p f).hostMem = s.hostMem ∧ (s.setTune p f).host = s.host ∧
    (s.setTune p f).evq = s.evq ∧ (s.setTune p f).cmd = s.cmd ∧ (s.setTune p f).nv = s.nv ∧ (s.setTune p f).pins = s.pins ∧
    (s.setTune p f).fuses = s.fuses ∧ (s.setTune p f).boot = s.boot ∧ (s.setTune p f).dawn = s.dawn ∧
    (s.setTune p f).thermal = s.thermal ∧ (s.setTune p f).tap = s.tap ∧ (s.setTune p f).lcl = s.lcl ∧
    (s.setTune p f).fh = s.fh ∧ (s.setTune p f).time = s.time ∧ (s.setTune p f).fab = s.fab ∧ (s.setTune p f).dma = s.dma ∧
    (s.setTune p f).path = s.path ∧ (s.setTune p f).radio = s.radio ∧ (s.setTune p f).filt = s.filt ∧
    (s.setTune p f).beam = s.beam ∧ (s.setTune p f).hzn = s.hzn ∧ (s.setTune p f).dmd = s.dmd ∧ (s.setTune p f).tx = s.tx ∧
    (s.setTune p f).halo = s.halo ∧ (s.setTune p f).cal = s.cal ∧ (s.setTune p f).spare = s.spare := by
  repeat' apply And.intro
  all_goals rfl

/-- Writing a context of the demodulators changes `dmd` alone. -/
@[simp] theorem State.setContext_frame (c : Nat) (x : Context) :
    (s.setContext c x).now = s.now ∧ (s.setContext c x).pending = s.pending ∧ (s.setContext c x).free = s.free ∧
    (s.setContext c x).mem = s.mem ∧ (s.setContext c x).hostMem = s.hostMem ∧ (s.setContext c x).host = s.host ∧
    (s.setContext c x).evq = s.evq ∧ (s.setContext c x).cmd = s.cmd ∧ (s.setContext c x).nv = s.nv ∧
    (s.setContext c x).pins = s.pins ∧ (s.setContext c x).fuses = s.fuses ∧ (s.setContext c x).boot = s.boot ∧
    (s.setContext c x).dawn = s.dawn ∧ (s.setContext c x).thermal = s.thermal ∧ (s.setContext c x).tap = s.tap ∧
    (s.setContext c x).lcl = s.lcl ∧ (s.setContext c x).fh = s.fh ∧ (s.setContext c x).time = s.time ∧
    (s.setContext c x).fab = s.fab ∧ (s.setContext c x).dma = s.dma ∧ (s.setContext c x).path = s.path ∧
    (s.setContext c x).radio = s.radio ∧ (s.setContext c x).filt = s.filt ∧ (s.setContext c x).beam = s.beam ∧
    (s.setContext c x).hzn = s.hzn ∧ (s.setContext c x).tx = s.tx ∧ (s.setContext c x).dpd = s.dpd ∧
    (s.setContext c x).halo = s.halo ∧ (s.setContext c x).cal = s.cal ∧ (s.setContext c x).spare = s.spare := by
  repeat' apply And.intro
  all_goals rfl

/-- Writing a calibration kind changes `cal` alone. -/
@[simp] theorem State.setKind_frame (k : Nat) (f : CalKind → CalKind) :
    (s.setKind k f).now = s.now ∧ (s.setKind k f).pending = s.pending ∧ (s.setKind k f).free = s.free ∧
    (s.setKind k f).mem = s.mem ∧ (s.setKind k f).hostMem = s.hostMem ∧ (s.setKind k f).host = s.host ∧
    (s.setKind k f).evq = s.evq ∧ (s.setKind k f).cmd = s.cmd ∧ (s.setKind k f).nv = s.nv ∧ (s.setKind k f).pins = s.pins ∧
    (s.setKind k f).fuses = s.fuses ∧ (s.setKind k f).boot = s.boot ∧ (s.setKind k f).dawn = s.dawn ∧
    (s.setKind k f).thermal = s.thermal ∧ (s.setKind k f).tap = s.tap ∧ (s.setKind k f).lcl = s.lcl ∧
    (s.setKind k f).fh = s.fh ∧ (s.setKind k f).time = s.time ∧ (s.setKind k f).fab = s.fab ∧ (s.setKind k f).dma = s.dma ∧
    (s.setKind k f).path = s.path ∧ (s.setKind k f).radio = s.radio ∧ (s.setKind k f).filt = s.filt ∧
    (s.setKind k f).beam = s.beam ∧ (s.setKind k f).hzn = s.hzn ∧ (s.setKind k f).dmd = s.dmd ∧ (s.setKind k f).tx = s.tx ∧
    (s.setKind k f).dpd = s.dpd ∧ (s.setKind k f).halo = s.halo ∧ (s.setKind k f).spare = s.spare := by
  repeat' apply And.intro
  all_goals rfl

/-- Writing a position of the chain changes `lcl` alone. -/
@[simp] theorem State.setPos_frame (p : Nat) (f : Position → Position) :
    (s.setPos p f).now = s.now ∧ (s.setPos p f).pending = s.pending ∧ (s.setPos p f).free = s.free ∧
    (s.setPos p f).mem = s.mem ∧ (s.setPos p f).hostMem = s.hostMem ∧ (s.setPos p f).host = s.host ∧
    (s.setPos p f).evq = s.evq ∧ (s.setPos p f).cmd = s.cmd ∧ (s.setPos p f).nv = s.nv ∧ (s.setPos p f).pins = s.pins ∧
    (s.setPos p f).fuses = s.fuses ∧ (s.setPos p f).boot = s.boot ∧ (s.setPos p f).dawn = s.dawn ∧
    (s.setPos p f).thermal = s.thermal ∧ (s.setPos p f).tap = s.tap ∧ (s.setPos p f).fh = s.fh ∧
    (s.setPos p f).time = s.time ∧ (s.setPos p f).fab = s.fab ∧ (s.setPos p f).dma = s.dma ∧ (s.setPos p f).path = s.path ∧
    (s.setPos p f).radio = s.radio ∧ (s.setPos p f).filt = s.filt ∧ (s.setPos p f).beam = s.beam ∧
    (s.setPos p f).hzn = s.hzn ∧ (s.setPos p f).dmd = s.dmd ∧ (s.setPos p f).tx = s.tx ∧ (s.setPos p f).dpd = s.dpd ∧
    (s.setPos p f).halo = s.halo ∧ (s.setPos p f).cal = s.cal ∧ (s.setPos p f).spare = s.spare := by
  repeat' apply And.intro
  all_goals rfl

/-- Counting at a demodulator changes `dmd` alone. -/
@[simp] theorem State.dmdCount_frame (p : Nat) (f : DmdCounts → DmdCounts) :
    (s.dmdCount p f).now = s.now ∧ (s.dmdCount p f).pending = s.pending ∧ (s.dmdCount p f).free = s.free ∧
    (s.dmdCount p f).mem = s.mem ∧ (s.dmdCount p f).hostMem = s.hostMem ∧ (s.dmdCount p f).host = s.host ∧
    (s.dmdCount p f).evq = s.evq ∧ (s.dmdCount p f).cmd = s.cmd ∧ (s.dmdCount p f).nv = s.nv ∧
    (s.dmdCount p f).pins = s.pins ∧ (s.dmdCount p f).fuses = s.fuses ∧ (s.dmdCount p f).boot = s.boot ∧
    (s.dmdCount p f).dawn = s.dawn ∧ (s.dmdCount p f).thermal = s.thermal ∧ (s.dmdCount p f).tap = s.tap ∧
    (s.dmdCount p f).lcl = s.lcl ∧ (s.dmdCount p f).fh = s.fh ∧ (s.dmdCount p f).time = s.time ∧
    (s.dmdCount p f).fab = s.fab ∧ (s.dmdCount p f).dma = s.dma ∧ (s.dmdCount p f).path = s.path ∧
    (s.dmdCount p f).radio = s.radio ∧ (s.dmdCount p f).filt = s.filt ∧ (s.dmdCount p f).beam = s.beam ∧
    (s.dmdCount p f).hzn = s.hzn ∧ (s.dmdCount p f).tx = s.tx ∧ (s.dmdCount p f).dpd = s.dpd ∧
    (s.dmdCount p f).halo = s.halo ∧ (s.dmdCount p f).cal = s.cal ∧ (s.dmdCount p f).spare = s.spare := by
  repeat' apply And.intro
  all_goals rfl

/-- Counting at a profile changes `hzn` alone. -/
@[simp] theorem State.hznCount_frame (p : Nat) (f : HznCounts → HznCounts) :
    (s.hznCount p f).now = s.now ∧ (s.hznCount p f).pending = s.pending ∧ (s.hznCount p f).free = s.free ∧
    (s.hznCount p f).mem = s.mem ∧ (s.hznCount p f).hostMem = s.hostMem ∧ (s.hznCount p f).host = s.host ∧
    (s.hznCount p f).evq = s.evq ∧ (s.hznCount p f).cmd = s.cmd ∧ (s.hznCount p f).nv = s.nv ∧
    (s.hznCount p f).pins = s.pins ∧ (s.hznCount p f).fuses = s.fuses ∧ (s.hznCount p f).boot = s.boot ∧
    (s.hznCount p f).dawn = s.dawn ∧ (s.hznCount p f).thermal = s.thermal ∧ (s.hznCount p f).tap = s.tap ∧
    (s.hznCount p f).lcl = s.lcl ∧ (s.hznCount p f).fh = s.fh ∧ (s.hznCount p f).time = s.time ∧
    (s.hznCount p f).fab = s.fab ∧ (s.hznCount p f).dma = s.dma ∧ (s.hznCount p f).path = s.path ∧
    (s.hznCount p f).radio = s.radio ∧ (s.hznCount p f).filt = s.filt ∧ (s.hznCount p f).beam = s.beam ∧
    (s.hznCount p f).dmd = s.dmd ∧ (s.hznCount p f).tx = s.tx ∧ (s.hznCount p f).dpd = s.dpd ∧
    (s.hznCount p f).halo = s.halo ∧ (s.hznCount p f).cal = s.cal ∧ (s.hznCount p f).spare = s.spare := by
  repeat' apply And.intro
  all_goals rfl

/-- Keeping a reply changes `cmd` alone. -/
@[simp] theorem State.setReply_frame (order : Nat) (rep : Reply) :
    (s.setReply order rep).now = s.now ∧ (s.setReply order rep).pending = s.pending ∧ (s.setReply order rep).free = s.free ∧
    (s.setReply order rep).mem = s.mem ∧ (s.setReply order rep).hostMem = s.hostMem ∧ (s.setReply order rep).host = s.host ∧
    (s.setReply order rep).evq = s.evq ∧ (s.setReply order rep).nv = s.nv ∧ (s.setReply order rep).pins = s.pins ∧
    (s.setReply order rep).fuses = s.fuses ∧ (s.setReply order rep).boot = s.boot ∧ (s.setReply order rep).dawn = s.dawn ∧
    (s.setReply order rep).thermal = s.thermal ∧ (s.setReply order rep).tap = s.tap ∧ (s.setReply order rep).lcl = s.lcl ∧
    (s.setReply order rep).fh = s.fh ∧ (s.setReply order rep).time = s.time ∧ (s.setReply order rep).fab = s.fab ∧
    (s.setReply order rep).dma = s.dma ∧ (s.setReply order rep).path = s.path ∧ (s.setReply order rep).radio = s.radio ∧
    (s.setReply order rep).filt = s.filt ∧ (s.setReply order rep).beam = s.beam ∧ (s.setReply order rep).hzn = s.hzn ∧
    (s.setReply order rep).dmd = s.dmd ∧ (s.setReply order rep).tx = s.tx ∧ (s.setReply order rep).dpd = s.dpd ∧
    (s.setReply order rep).halo = s.halo ∧ (s.setReply order rep).cal = s.cal ∧ (s.setReply order rep).spare = s.spare := by
  repeat' apply And.intro
  all_goals rfl

/-- Marking a bank changes `nv` alone. -/
@[simp] theorem State.markBank_frame (b : Nat) (ok : Bool) :
    (s.markBank b ok).now = s.now ∧ (s.markBank b ok).pending = s.pending ∧ (s.markBank b ok).free = s.free ∧
    (s.markBank b ok).mem = s.mem ∧ (s.markBank b ok).hostMem = s.hostMem ∧ (s.markBank b ok).host = s.host ∧
    (s.markBank b ok).evq = s.evq ∧ (s.markBank b ok).cmd = s.cmd ∧ (s.markBank b ok).pins = s.pins ∧
    (s.markBank b ok).fuses = s.fuses ∧ (s.markBank b ok).boot = s.boot ∧ (s.markBank b ok).dawn = s.dawn ∧
    (s.markBank b ok).thermal = s.thermal ∧ (s.markBank b ok).tap = s.tap ∧ (s.markBank b ok).lcl = s.lcl ∧
    (s.markBank b ok).fh = s.fh ∧ (s.markBank b ok).time = s.time ∧ (s.markBank b ok).fab = s.fab ∧
    (s.markBank b ok).dma = s.dma ∧ (s.markBank b ok).path = s.path ∧ (s.markBank b ok).radio = s.radio ∧
    (s.markBank b ok).filt = s.filt ∧ (s.markBank b ok).beam = s.beam ∧ (s.markBank b ok).hzn = s.hzn ∧
    (s.markBank b ok).dmd = s.dmd ∧ (s.markBank b ok).tx = s.tx ∧ (s.markBank b ok).dpd = s.dpd ∧
    (s.markBank b ok).halo = s.halo ∧ (s.markBank b ok).cal = s.cal ∧ (s.markBank b ok).spare = s.spare := by
  repeat' apply And.intro
  all_goals rfl

/-- Counting a refused sleep changes `dawn` alone. -/
@[simp] theorem State.countRefusal_frame (code pos : Nat) :
    (s.countRefusal code pos).now = s.now ∧ (s.countRefusal code pos).pending = s.pending ∧
    (s.countRefusal code pos).free = s.free ∧ (s.countRefusal code pos).mem = s.mem ∧
    (s.countRefusal code pos).hostMem = s.hostMem ∧ (s.countRefusal code pos).host = s.host ∧
    (s.countRefusal code pos).evq = s.evq ∧ (s.countRefusal code pos).cmd = s.cmd ∧ (s.countRefusal code pos).nv = s.nv ∧
    (s.countRefusal code pos).pins = s.pins ∧ (s.countRefusal code pos).fuses = s.fuses ∧
    (s.countRefusal code pos).boot = s.boot ∧ (s.countRefusal code pos).thermal = s.thermal ∧
    (s.countRefusal code pos).tap = s.tap ∧ (s.countRefusal code pos).lcl = s.lcl ∧ (s.countRefusal code pos).fh = s.fh ∧
    (s.countRefusal code pos).time = s.time ∧ (s.countRefusal code pos).fab = s.fab ∧ (s.countRefusal code pos).dma = s.dma ∧
    (s.countRefusal code pos).path = s.path ∧ (s.countRefusal code pos).radio = s.radio ∧
    (s.countRefusal code pos).filt = s.filt ∧ (s.countRefusal code pos).beam = s.beam ∧
    (s.countRefusal code pos).hzn = s.hzn ∧ (s.countRefusal code pos).dmd = s.dmd ∧ (s.countRefusal code pos).tx = s.tx ∧
    (s.countRefusal code pos).dpd = s.dpd ∧ (s.countRefusal code pos).halo = s.halo ∧ (s.countRefusal code pos).cal = s.cal ∧
    (s.countRefusal code pos).spare = s.spare := by
  repeat' apply And.intro
  all_goals rfl

/-- Queuing an NV job changes `nv` alone. -/
@[simp] theorem State.nvEnqueue_frame (j : NvJob) :
    (s.nvEnqueue j).now = s.now ∧ (s.nvEnqueue j).pending = s.pending ∧ (s.nvEnqueue j).free = s.free ∧
    (s.nvEnqueue j).mem = s.mem ∧ (s.nvEnqueue j).hostMem = s.hostMem ∧ (s.nvEnqueue j).host = s.host ∧
    (s.nvEnqueue j).evq = s.evq ∧ (s.nvEnqueue j).cmd = s.cmd ∧ (s.nvEnqueue j).pins = s.pins ∧
    (s.nvEnqueue j).fuses = s.fuses ∧ (s.nvEnqueue j).boot = s.boot ∧ (s.nvEnqueue j).dawn = s.dawn ∧
    (s.nvEnqueue j).thermal = s.thermal ∧ (s.nvEnqueue j).tap = s.tap ∧ (s.nvEnqueue j).lcl = s.lcl ∧
    (s.nvEnqueue j).fh = s.fh ∧ (s.nvEnqueue j).time = s.time ∧ (s.nvEnqueue j).fab = s.fab ∧ (s.nvEnqueue j).dma = s.dma ∧
    (s.nvEnqueue j).path = s.path ∧ (s.nvEnqueue j).radio = s.radio ∧ (s.nvEnqueue j).filt = s.filt ∧
    (s.nvEnqueue j).beam = s.beam ∧ (s.nvEnqueue j).hzn = s.hzn ∧ (s.nvEnqueue j).dmd = s.dmd ∧ (s.nvEnqueue j).tx = s.tx ∧
    (s.nvEnqueue j).dpd = s.dpd ∧ (s.nvEnqueue j).halo = s.halo ∧ (s.nvEnqueue j).cal = s.cal ∧
    (s.nvEnqueue j).spare = s.spare := by
  repeat' apply And.intro
  all_goals rfl

/-- Producing a record changes `evq` alone. -/
@[simp] theorem State.produce_frame (typ sev : Nat) (payload : List Byte) :
    (s.produce typ sev payload).now = s.now ∧ (s.produce typ sev payload).pending = s.pending ∧
    (s.produce typ sev payload).free = s.free ∧ (s.produce typ sev payload).mem = s.mem ∧
    (s.produce typ sev payload).hostMem = s.hostMem ∧ (s.produce typ sev payload).host = s.host ∧
    (s.produce typ sev payload).cmd = s.cmd ∧ (s.produce typ sev payload).nv = s.nv ∧
    (s.produce typ sev payload).pins = s.pins ∧ (s.produce typ sev payload).fuses = s.fuses ∧
    (s.produce typ sev payload).boot = s.boot ∧ (s.produce typ sev payload).dawn = s.dawn ∧
    (s.produce typ sev payload).thermal = s.thermal ∧ (s.produce typ sev payload).tap = s.tap ∧
    (s.produce typ sev payload).lcl = s.lcl ∧ (s.produce typ sev payload).fh = s.fh ∧
    (s.produce typ sev payload).time = s.time ∧ (s.produce typ sev payload).fab = s.fab ∧
    (s.produce typ sev payload).dma = s.dma ∧ (s.produce typ sev payload).path = s.path ∧
    (s.produce typ sev payload).radio = s.radio ∧ (s.produce typ sev payload).filt = s.filt ∧
    (s.produce typ sev payload).beam = s.beam ∧ (s.produce typ sev payload).hzn = s.hzn ∧
    (s.produce typ sev payload).dmd = s.dmd ∧ (s.produce typ sev payload).tx = s.tx ∧
    (s.produce typ sev payload).dpd = s.dpd ∧ (s.produce typ sev payload).halo = s.halo ∧
    (s.produce typ sev payload).cal = s.cal ∧ (s.produce typ sev payload).spare = s.spare := by
  repeat' apply And.intro
  all_goals rfl

/-- Time never runs back. -/
@[simp] theorem State.advance_now (t : Nat) : (s.advance t).now = Nat.max s.now t := rfl

/-- The mailbox written. -/
@[simp] theorem State.setMailbox_mbx (n : Nat) (b : Mailbox) : (s.setMailbox n b).host.mbx = Tab.set s.host.mbx n b := rfl

/-- The channel written. -/
@[simp] theorem State.setChannel_dma (c : Nat) (ch : Channel) : (s.setChannel c ch).dma = Tab.set s.dma c ch := rfl

/-- The message sent. -/
@[simp] theorem State.message_sent (dst kind : Nat) (body : List Byte) :
    (s.message dst kind body).lcl.sent = s.lcl.sent ++ [⟨dst, kind, body⟩] := rfl

/-- The register bit set beside a vector. -/
@[simp] theorem HostIf.notify_intStatus (h : HostIf) (v bit : Nat) : (h.notify v bit).intStatus = h.intStatus ||| bitAt 32 bit := by
  rfl

/-- A vector leaves the mailboxes as they are. -/
@[simp] theorem HostIf.notify_mbx (h : HostIf) (v bit : Nat) : (h.notify v bit).mbx = h.mbx := by
  simp only [HostIf.notify, HostIf.sendVector]
  split <;> rfl

end Sys2Proof.Machine
end

