-- ==== Sys2Proof/Laws/Tab.lean ====
section
/-!
SUPPORT. Reading a sparse table after an update.
-/

namespace Sys2Proof

/-- Looking up after `set`. -/
@[simp] theorem Tab.find?_set {α : Type} (t : Tab α) (k j : Nat) (v : α) :
    (Tab.set t k v).find? j = if j = k then some v else t.find? j := by
  induction t with
  | nil => simp [Tab.set, Tab.find?, eq_comm]
  | cons a r ih =>
    obtain ⟨i, w⟩ := a
    simp only [Tab.set]
    split
    · simp [Tab.find?, eq_comm]
    · split
      · subst_vars
        simp only [Tab.find?]
        by_cases h : j = i
        · simp [h]
        · simp [h, Ne.symm h]
      · simp only [Tab.find?, ih]
        by_cases h : i = j
        · subst h; simp; intro h; omega
        · simp [h]

/-- The value at an index after `set`. -/
@[simp] theorem Tab.get_set {α : Type} (t : Tab α) (k j : Nat) (v d : α) :
    (Tab.set t k v).get j d = if j = k then v else t.get j d := by
  simp only [Tab.get, Tab.find?_set]
  split <;> simp

/-- An empty table holds the default everywhere. -/
@[simp] theorem Tab.get_nil {α : Type} (j : Nat) (d : α) : Tab.get ([] : Tab α) j d = d := rfl

/-- An empty table lists nothing. -/
@[simp] theorem Tab.find?_nil {α : Type} (j : Nat) : Tab.find? ([] : Tab α) j = none := rfl

end Sys2Proof
end

