-- ==== Sys2Proof/WellFormed.lean ====
section
/-!
DEFINITION. Which terms of Instr a sender can send: the operands of each row fit the fields, tables and buffers that the spec gives
them. The machine answers every term; a row that is not well-formed names a command that no sender of this device can form.
-/

namespace Sys2Proof

/-- An unsigned field of 16 bits. -/
def isU16 (x : Nat) : Bool := decide (x < 65536)

/-- A signed field of 16 bits. -/
def isS16 (x : Int) : Bool := decide (-32768 ≤ x) && decide (x ≤ 32767)

/-- Both parts fit 16 bits (R4). -/
def Cplx.fits (c : Cplx) : Bool := isS16 c.i && isS16 c.q

/-- A vector of one weight for each of the 64 paths. -/
def isVector (w : List Cplx) : Bool := decide (w.length = 64) && w.all Cplx.fits

/-- A count of one of the 64 paths. -/
def onPath (p : Nat × Nat) : Bool := decide (p.1 ≤ 63)

/-- The entries and steps of stored records (Tables SYN-4, CAL-3). -/
def NvRecord.ok : NvRecord → Bool
  | .channelEntry syn index => decide (syn ≤ 2) && decide (index ≤ 255)
  | .calChannel entry => decide (entry ≤ 255)
  | .calStep step => decide (step ≤ 15)
  | _ => true

/-- Resources by their numbers (R351). -/
def Resource.ok : Resource → Bool
  | .engine n => decide (n < 36)
  | .processor n => decide (n < 18)
  | .dmaChannel n => decide (n < 16)
  | _ => true

/-- An operation writes at most the host area or a bank. -/
def hostOpEndOk : HostOpEnd → Bool
  | .done n => decide (n ≤ 48)
  | .tempStop n => decide (n ≤ 1048576)
  | .verifyFail n => decide (n ≤ 1048576)

/-- Profile, beam and bin of a detection (R168, R173). -/
def RawDetection.ok (d : RawDetection) : Bool := decide (d.profile ≤ 7) && decide (d.beam ≤ 63) && decide (d.bin ≤ 383)

/-- LANE_SLIP and LANE of a lane in training (R310). -/
def LaneTrain.ok (l : LaneTrain) : Bool :=
  (match l.slip with | some k => decide (k ≤ 65) | none => true) && decide (l.field ≤ 15) && isU16 l.margin

/-- A debug write or read names a device address of 64 bits. -/
def tapOk : TapInstr → Bool
  | .readMemory a => decide (a < 2 ^ 64)
  | .writeMemory a _ => decide (a < 2 ^ 64)
  | _ => true

/-- The operands of a row lie in the ranges the spec gives them. -/
def Instr.wf (i : Instr) : Bool :=
  match i with
  | .sysEcho => true
  | .sysGetInfo => true
  | .sysReset => true
  | .sysSetEventFilter => true
  | .sysNvGetInfo => true
  | .sysNvWrite => true
  | .sysFwInstall => true
  | .sysFwActivate => true
  | .sysFwConfirm => true
  | .sysFabricGetStatus => true
  | .sysMemGetEcc => true
  | .sysLeaseGet => true
  | .sysProcGetStatus => true
  | .synSetState => true
  | .synSetMode => true
  | .synTune => true
  | .synCommit => true
  | .synSwitch => true
  | .synStoreEntry => true
  | .synReadEntry => true
  | .synSetClkout => true
  | .synSetReference => true
  | .synGetStatus => true
  | .pathSetEnable => true
  | .pathSetGain => true
  | .pathSetAgc => true
  | .pathSetTxAtten => true
  | .pathSetFeTiming => true
  | .pathSetObs => true
  | .pathGetStatus => true
  | .pathAuxAdcConfig => true
  | .pathAuxAdcRead => true
  | .pathAuxDacSet => true
  | .pathAuxDacSine => true
  | .filtLoadSet => true
  | .filtAssign => true
  | .filtApply => true
  | .filtSetDetector => true
  | .filtGetStatus => true
  | .beamSetGeometry => true
  | .beamSetGrid => true
  | .beamSetRxSource => true
  | .beamLoadBank => true
  | .beamSwap => true
  | .beamSetAdaptive => true
  | .beamSetScale => true
  | .beamSigPin => true
  | .beamSigRead => true
  | .beamGetStatus => true
  | .hznSetProfile => true
  | .hznSetNoise => true
  | .hznReadNoise => true
  | .hznGetStatus => true
  | .hznGetCounters => true
  | .dmdSetControl => true
  | .dmdGetControl => true
  | .dmdGetCounters => true
  | .dmdGetContexts => true
  | .txSubmit => true
  | .txCancel => true
  | .txSetRamp => true
  | .txSetCoex => true
  | .txGetStatus => true
  | .txRegRead => true
  | .txRegSupersede => true
  | .dpdSetMode => true
  | .dpdLoadTables => true
  | .dpdReadTables => true
  | .dpdGetStatus => true
  | .dpdSetMismatch => true
  | .dpdSetTunerMap => true
  | .dpdTuneWindow => true
  | .dpdSetTuner => true
  | .dpdRffeXfer => true
  | .calRun => true
  | .calSetSupervisor => true
  | .calGetStatus => true
  | .calGetPathStats => true
  | .calStore => true
  | .calRestore => true
  | .calReadSet => true
  | .calSetCoupler => true
  | .fhSetPort => true
  | .fhSetStream => true
  | .fhSetRecords => true
  | .fhSetPtp => true
  | .fhGetTime => true
  | .fhGetPortStatus => true
  | .lclSetChain => true
  | .lclGetStatus => true
  | .lclRetrain => true
  | .lclGetLink => true
  | .lclLastRelay => true
  | .haloArm => true
  | .haloDisarm => true
  | .haloTrigger => true
  | .haloSetMask => true
  | .haloGetCapture => true
  | .haloRead => true
  | .haloSnapshot => true
  | .haloSnapRead => true
  | .haloSetTrigOut => true
  | .pwrSleep => true
  | .pwrGetStatus => true
  | .pwrGetWake => true
  | .spareGetStatus => true
  | .spareSetWindow => true
  | .spareRetirePath => true
  | .spareRestorePath => true
  | .secBootLoad => true
  | .secGetState => true
  | .secSetOemKey => true
  | .secSealRecord => true
  | .secLockDebug => true
  | .mbxDoorbellRing _ _ => true
  | .mbxResponseRelease _ _ => true
  | .hostReset _ _ => true
  | .dmaStart _ _ _ read =>
    decide (read.length ≤ 32)
  | .dmaStop _ _ _ => true
  | .evqEnable _ _ => true
  | .evqDisable _ _ => true
  | .evqConsWrite _ _ => true
  | .msixVectorUnmask _ _ => true
  | .registerWrite _ off data =>
    decide (1 ≤ data.length) && decide (data.length ≤ 256) && decide (off + data.length ≤ 0x10000)
  | .mailboxScan _ => true
  | .relayResponse _ _ tag pos status payload =>
    isU16 tag && isU16 status && decide (pos ≤ 15) && decide (payload.length ≤ 4096)
  | .relayResend _ => true
  | .relayTimeout _ => true
  | .workerCommandReceive _ _ bytes _ =>
    decide (16 ≤ bytes.length) && decide (bytes.length ≤ 4112)
  | .deferredCommandComplete _ _ _ out =>
    hostOpEndOk out
  | .barrierRelease _ => true
  | .nvRecordWriteDone _ _ => true
  | .vddAonPowerOn _ _ => true
  | .vddAonRemoved _ => true
  | .pwrGoodRise _ => true
  | .pwrGoodTimeout => true
  | .pwrGoodFall _ => true
  | .pwrEnRestart => true
  | .resetLAssert _ => true
  | .resetLRelease _ _ _ => true
  | .perst _ => true
  | .functionLevelReset _ => true
  | .bootStageEnd _ x =>
    x.units.all (fun u => decide (4 ≤ u.1) && decide (u.1 ≤ 8)) && x.links.all (fun l => decide (l.1 ≤ 1) && decide (l.2.1 ≤ 5) && decide (l.2.2 ≤ 4)) &&
    x.badRecords.all NvRecord.ok
  | .cascadeImageReceive _ image =>
    decide (image.length ≤ 1048576)
  | .firmwareReady _ => true
  | .i2cAddressMatch _ => true
  | .wakeLLow _ _ => true
  | .sleepTimerExpiry => true
  | .sleepRequest _ => true
  | .sleepPwrEnDrop => true
  | .sleepReadyReport _ _ => true
  | .sleepGo _ => true
  | .sleepAbandon _ => true
  | .sleepReportTimeout => true
  | .workerSleepTimeout => true
  | .thermalSample tj _ =>
    isS16 tj
  | .transmitTrip _ => true
  | .shutdownPowerOff => true
  | .thermalHoldoffEnd => true
  | .vcoreRecommend _ => true
  | .fabricSpeedMonitor _ readings =>
    decide (readings.length = 36) && readings.all isU16
  | .fabricLinkFailure _ _ _ _ => true
  | .fabricFaultReset => true
  | .memoryScrub _ _ addr _ rec =>
    addr % 8 == 0 && (match rec with | some r => r.ok | none => true)
  | .maintenanceRingPoll _ missed =>
    missed.all isU16 && missed.Nodup
  | .unitHandshakeStall _ owner =>
    isU16 owner
  | .unitReturnToService _ owner =>
    isU16 owner
  | .leaseRelease _ owner r =>
    isU16 owner && r.ok
  | .watchdogRestart _ => true
  | .watchdogExpiry _ => true
  | .watchdogReset => true
  | .sysResetDelayExpiry => true
  | .fwTrialReset => true
  | .referenceLost _ _ _ => true
  | .referenceValid _ _ _ => true
  | .referenceReacquired _ => true
  | .freewheelLimit => true
  | .synAcquisitionStart _ => true
  | .synLock _ _ band gain tdcNorm kp ki =>
    decide (band ≤ 255) && decide (gain ≤ 1023) && isU16 tdcNorm && isU16 kp && isU16 ki
  | .synUnlock _ _ => true
  | .synCommitInstant => true
  | .synSwitchApply _ _ => true
  | .synSwitchAbandon => true
  | .baseStateChange => true
  | .radioTransitionDone _ => true
  | .gainChangeApply => true
  | .agcWindowEnd x =>
    x.rxSats.all (fun p => decide (p.1 ≤ 63)) && x.beamSats.all (fun p => decide (p.1 ≤ 63))
  | .pathRxEnableSettle _ => true
  | .auxAdcConversion _ _ _ => true
  | .auxOpenTest _ _ _ _ => true
  | .stuckAdc _ _ => true
  | .filtApplyInstant => true
  | .detectorAssert _ _ _ level =>
    isS16 level
  | .detectorRelease _ _ _ level =>
    isS16 level
  | .beamSwapFreeze => true
  | .beamSwapApply => true
  | .gridRecomputeDone _ => true
  | .adaptiveUpdate => true
  | .adaptiveSolveDone _ _ _ sols =>
    sols.all (fun p => decide (p.1 ≤ 63) && isVector p.2)
  | .signatureStore _ _ mant _ az el sigAz sigEl =>
    isVector mant && isS16 az && isS16 el && isU16 sigAz && isU16 sigEl
  | .searchEpoch _ raws powers _ =>
    raws.all RawDetection.ok && powers.all (fun p => decide (p.1 < 64 * 384))
  | .detectionResume => true
  | .candidateHoldEnd running =>
    running.all (fun p => decide (p.1 < 65536))
  | .contextClaim _ _ => true
  | .captureHandoff _ _ => true
  | .contextRelease _ _ => true
  | .sfdFound _ _ _ _ => true
  | .sfdWindowExpiry _ _ => true
  | .headerDecoded _ _ phr =>
    isU16 phr.length
  | .lastAirSymbol _ _ running =>
    isS16 running
  | .lostSync _ _ running =>
    isS16 running
  | .recordComplete _ _ x =>
    decide (x.psdu.length ≤ 2047) && isU16 x.fecCorrections
  | .fhLinkChange _ _ _ _ => true
  | .fhFrameReceive _ _ _ _ dest etherType _ _ =>
    decide (dest < 2 ^ 48) && isU16 etherType
  | .rtcTransmitRequest _ _ rtcId seqId body =>
    isU16 rtcId && isU16 seqId && decide (body.length ≤ 9000)
  | .rtcBeamSwap _ _ rtcId seqId body =>
    isU16 rtcId && isU16 seqId && decide (body.length ≤ 9000)
  | .rtcTransmitCancel _ _ rtcId seqId body =>
    isU16 rtcId && isU16 seqId && decide (body.length ≤ 9000)
  | .ecpriUnsupported _ _ typ =>
    decide (typ ≤ 255)
  | .ecpriDelayRequest _ _ action id =>
    decide (action ≤ 255) && decide (id ≤ 255)
  | .ecpriRemoteRequest _ _ id =>
    decide (id ≤ 255)
  | .ecpriSyncRequest _ _ => true
  | .ecpriFaultAck _ _ => true
  | .ecpriFaultCease _ => true
  | .recordFrameSend => true
  | .iqFrameComplete _ _ _ _ gainEpoch weightEpoch samples =>
    samples.all Cplx.fits && decide (gainEpoch ≤ 255) && decide (weightEpoch ≤ 255)
  | .iqFrameLaunch _ => true
  | .egressFrameEnd _ => true
  | .outcomeSend _ => true
  | .ptpSync _ _ id sport seqId _ _ _ =>
    decide (id < 2 ^ 64) && isU16 sport && isU16 seqId
  | .ptpFollowUp _ _ id sport seqId _ _ =>
    decide (id < 2 ^ 64) && isU16 sport && isU16 seqId
  | .ptpAnnounce _ _ x =>
    decide (x.id < 2 ^ 64) && isU16 x.sport && decide (x.clockClass ≤ 255) && isS16 x.utcOffset && decide (x.domain ≤ 255)
  | .ptpDelayResp _ _ id sport seqId _ _ =>
    decide (id < 2 ^ 64) && isU16 sport && isU16 seqId
  | .ptpDelayReqSend => true
  | .ptpMasterLost => true
  | .holdoverLimitExpiry => true
  | .txPreparation => true
  | .coexRequestAssert => true
  | .calYield => true
  | .txStateEntry => true
  | .launchDecision _ => true
  | .trswTransmit => true
  | .coexGrantSample _ _ => true
  | .burstLaunch => true
  | .frameEnd => true
  | .burstRampDownEnd x =>
    x.clips.all onPath && x.txSats.all onPath && x.precoderSats.all onPath && x.dpdSats.all onPath
  | .trswReturn => true
  | .rxBlankEnd => true
  | .txLingerExpiry => true
  | .coexWithdrawal _ _ => true
  | .dutyHistorySave => true
  | .obsSelectionGrant _ _ _ => true
  | .dpdAdaptCapture _ nmse =>
    nmse.all (fun p => decide (p.1 ≤ 63) && isS16 p.2)
  | .dpdSolveDone _ _ tables _ =>
    tables.all (fun w => w.all Cplx.fits)
  | .dpdStale _ _ => true
  | .mismatchMeasurement _ readings =>
    readings.all (fun p => decide (p.1 ≤ 63))
  | .tuneWindowStart => true
  | .tunerTrial _ ratios =>
    ratios.all (fun p => decide (p.1 ≤ 63))
  | .tuneWindowEnd _ => true
  | .rffeTransactionDone _ _ data _ =>
    decide (data.length ≤ 16)
  | .calRunTrigger _ _ => true
  | .calStepComplete _ _ x =>
    x.figures.all (fun f => decide (f.path ≤ 63)) && x.bins.all (fun b => decide (b ≤ 383))
  | .calStarved _ _ => true
  | .xdevSnapshotEval _ _ _ _ _ parts =>
    decide (parts.length ≤ 15) && parts.all (fun p => decide (p.position ≤ 14))
  | .calAutoStore _ => true
  | .hopTraining _ _ => true
  | .hopJoin _ _ lanes x =>
    decide (lanes.length = 12) && lanes.all LaneTrain.ok && decide (x.position ≤ 15) && decide (x.dCfg ≤ 16)
  | .hopRejoin _ _ => true
  | .delayMeasurement _ _ _ _ => true
  | .timeMessageSend => true
  | .timeMessageReceive _ _ _ => true
  | .timeMessageTimeout => true
  | .heartbeatSend => true
  | .heartbeatTimeout _ => true
  | .laneLockLoss _ _ _ headers groups =>
    decide (headers ≤ 65535) && decide (groups ≤ 65535)
  | .triggerWord _ _ _ => true
  | .triggerWordAction => true
  | .cut _ _ => true
  | .cascadeMessage _ src dst kind _ body =>
    decide (src ≤ 15) && decide (dst ≤ 15) && decide (kind ≤ 7) && decide (body.length ≤ 65535)
  | .workerEventRelay _ _ bytes =>
    decide (bytes.length = 32)
  | .eventRingWrite _ _ => true
  | .eventNotifyTimer => true
  | .dmaTransferDone _ _ read =>
    decide (read.length ≤ 2 ^ 27)
  | .dmaHalfNotify _ _ read =>
    decide (read.length ≤ 2 ^ 27)
  | .dmaDescriptorDone _ _ read nextDesc =>
    decide (read.length ≤ 2 ^ 27) && decide (nextDesc.length ≤ 32)
  | .dmaTailRecheck _ _ tail nextDesc =>
    decide (tail.length ≤ 32) && decide (nextDesc.length ≤ 32)
  | .dmaError _ _ cause written _ _ =>
    decide (cause ≤ 15) && decide (written ≤ 2 ^ 27)
  | .haloArmingComplete _ => true
  | .haloTrigIn _ _ => true
  | .haloTriggerAccept _ _ => true
  | .segmentComplete _ data =>
    decide (data.length ≤ 0x1000000)
  | .haloHoldoffEnd _ => true
  | .maskFrameTest _ _ _ meas =>
    decide (meas.length ≤ 32) && meas.all (fun v => decide (v.2 ≤ v.1))
  | .trigOutPulseEnd => true
  | .snapshotStrobe phaseErr =>
    isS16 phaseErr
  | .snapshotLatchComplete _ => true
  | .spareFailureDeclared _ kind unit =>
    decide (4 ≤ kind.val → unit ≤ 255)
  | .spareWindowOpen => true
  | .spareReplacementDone _ _ => true
  | .engineDrainTimeout => true
  | .spareWear _ _ kind _ =>
    decide (kind ≤ 8)
  | .serviceRecordUpdate => true
  | .hopTrainingFail _ _ lanes =>
    decide (lanes.length = 12) && lanes.all LaneTrain.ok
  | .maintenanceWindowEnd => true
  | .timeMarkSend => true
  | .unitParityFault _ owner =>
    isU16 owner
  | .pcieLinkChange _ _ => true
  | .pcieD3hotChange _ _ => true
  | .pcieCreditReturn _ => true
  | .bar2Write _ off data =>
    decide (1 ≤ data.length) && decide (off + data.length ≤ 0x4000000)
  | .tapInstruction _ x =>
    tapOk x

end Sys2Proof
end

