-- ==== Sys2Proof/Tests/Slice0.lean ====
section
/-!
SUPPORT. The tests: one state for every clause of every statement that meets the clause's hypotheses, ill-formed terms that the
checks refuse, and a few results worked out by hand from the spec.
-/

namespace Sys2Proof.Tests

open Sys2Proof
open Sys2Proof.Machine

set_option Elab.async false

/-! ### Small states -/

/-- A STANDALONE device, READY, its link up and its temperature at 25 degree C. -/
def up : State :=
  { boot := { stage := 0x20, ready := true, release := 0x00040100 }
    host := { linkUp := true }
    dawn := { aon := true, power := .running, pwrEn := true }
    pins := { pwrGood := true, resetL := true }
    thermal := { tj := 2500 } }

/-- The same device strapped as a manager at position 2 with one joined worker, position 1. -/
def boss : State :=
  { up with
    boot := { up.boot with role := 1#2 }
    lcl := { dCfg := 3, position := 2, positions := [(1, { state := .joined, joinedOnce := true })] } }

/-- The same device strapped as a worker at position 1 whose upper hop has joined. -/
def hand : State :=
  { up with
    boot := { up.boot with role := 2#2 }
    host := {}
    lcl := { dCfg := 3, position := 1, joined := true } }

/-- A taken command of MBX0 addressed to target 0. -/
def ask (op : Nat) (p : List Byte) : Running :=
  { mbx := 0, cmd := { opcode := op, tag := 1, flags := 0, length := p.length, target := 0, payload := p }, order := 0
    reached := 0 }

/-- `s` with that command taken and next to run. -/
def asked (s : State) (r : Running) : State :=
  { s with
    cmd := { s.cmd with running := [r], nextOrder := 1 }
    host := { s.host with mbx := [(0, { state := .executing })] } }

/-- A payload of `n` zero bytes with the bytes `b` at offset `o`. -/
def put (o : Nat) (b : List Byte) (p : List Byte) : List Byte := p.take o ++ b ++ p.drop (o + b.length)

/-- A relay to one position. -/
def relayTo (p : Nat) : Relay := { broadcast := false, targets := [p], sentAt := 0, deadline := 100 * Config.ms }

/-- SYS_ECHO as relayed to position `p`. -/
def relayed (p : Nat) : Running :=
  { ask 0x0101 [] with cmd := { (ask 0x0101 []).cmd with target := p }, phase := .relayed none (relayTo p) }

/-- A transmit request of one beam from MANUAL weights. -/
def request : TxRequest :=
  { id := 7, coexPri := false, outcomeEvent := true, fcs4 := false, whiten := false, fec := false, interleave := false, launchS := 1
    launchN := 0, tolUs := 0, phy := 0, mode := 0, submode := 0, scheme := 0, modIndex := 0, preamble := 0, sfd := 0, centre := 915000000
    psdu := [], beams := [] }

/-- A launch in a given phase: launch at 1 ms, Tr 1 us, a frame of 1 ms. -/
def burst (p : TxPhase) : Launch :=
  { req := request, origin := .mailbox, order := 0, admittedAt := 0, device := 384000000, rampTenths := 10, ramp := [], frame := 384000000
    coexLead := 0, phase := p, fixed := some 384000000 }

/-- An LO of 915 MHz. -/
def tuned : LoSetting := { freqHz := 915000000, divider := 4, fcw := 0x17D40000 }

/-- The device in RX at 915 MHz with SYN_A. -/
def onAir : State :=
  { up with radio := { state := .rx, base := .rx, syn := [(0, { loop := .locked, setting := some tuned })] } }

/-- A context of profile 0 on beam 3, bin 40. -/
def fresh : Context :=
  { profileIx := 0, profile := { enable := true }, control := {}, beam := 3, bin := 40, metric := 2000, running := 2000, time := 384000
    claimedAt := 800000, claimEpoch := 2, dual := false, captureStart := false, coarse := none }

/-- A packet decoded in it, its record not yet written. -/
def decoded : Ended := { order := 9, number := 3, ctx := fresh, status := 0, stop := 1600000, psdu := [] }

/-- A candidate of profile 0 on beam 3, bin 40, at 90.00 dB whose hold has ended. -/
def cand : Candidate :=
  { profile := 0, beam := 3, bin := 40, metric := 9000, offsetHz := 0, time := 384000, began := 0, order := 0, left := 0, seen := [] }

/-- The device in RX with profile 0 enabled on bank 0, bins 33 to 350, and all beams EXPLICIT. -/
def search : State :=
  { onAir with
    hzn := { profiles := [(0, { enable := true, binMask := BitVec.ofNat 384 (2 ^ 351 - 2 ^ 33) })] }
    spare := { up.spare with bankOf := [(0, 0)] }
    beam := { up.beam with beams := (List.range 64).map (fun b => (b, { source := .explicit })) } }

/-- HZN_SET_PROFILE for profile 7 with the default settings, enabled on all beams, `b` written at offset `o`. -/
def profilePayload (o : Nat) (b : List Byte) : List Byte :=
  put o b ([7#8, 1#8, 0#8, 7#8, 150#8, 0#8, 60#8, 0#8, 0xFF#8, 0x07#8] ++ zeros 6 ++
    [4#8, 0#8, 100#8, 0#8, 0#8, 2#8, 2#8, 0#8, 0x4E#8, 0x90#8, 0x4F#8, 0x6F#8, 0#8, 0#8, 0#8, 0#8] ++ List.replicate 8 0xFF#8 ++
    zeros 48)

/-- The grant of that candidate to a context. -/
def granted (ctx : Nat) (handoff : Bool) : Grant :=
  { context := ctx, cand := cand, profile := { enable := true }, dual := false, handoff := handoff, coarse := none, control := {}
    granted := 0, epoch := 3 }

/-- The device with context 1023 as `x`. -/
def receiving (x : Context) : State := { search with dmd := { search.dmd with contexts := [(1023, x)] } }

/-- A PHR that passes the checks of SUN FSK, for a PSDU of 2,047 octets. -/
def phr : PhrInfo :=
  { decoded := true, hcsOk := true, modeSwitch := false, submode := 0, mdsss := false, fcs4 := true, whitened := true, coded := false
    interleaved := false, length := 2047, bits := 0#32 }

/-- A back end that found a good FCS. -/
def back : BackEnd :=
  { fcsOk := true, psdu := [1#8, 2#8], cfo := -5, rssi := -9000, snr := 1000, toaSigma := 70000, fecCorrections := 3, saturated := false }

/-- A sub-band from 902 to 928 MHz, 10 % in 10 s, no off-time. -/
def band : Subband :=
  { chLow := 902000000, chHigh := 928000000, loLowKHz := 900000, loHighKHz := 930000, maxLevel := 0, dutyMax := 1000, windowS := 10
    minOffUs := 0 }

/-- The device on air with a record of that sub-band, its time valid and its transmit corrections unity. -/
def ready : State :=
  { onAir with
    beam := { up.beam with txCorr := (List.range 64).map (fun p => (p, ⟨16384, 0⟩)) }
    tx := { record := some (1, [band]) }
    time := { up.time with state := .valid } }

/-- `ready` with one launch in its queue. -/
def queued (p : TxPhase) : State := { ready with tx := { ready.tx with queue := [burst p] } }

/-- A request of Table TX-1: 2-FSK at 50 kb/s, one EXPLICIT beam of zeros, no PSDU, launch at 1 s, the bytes `b` written at `o`. -/
def requestPayload (o : Nat) (b : List Byte) : List Byte :=
  put o b (le 4 7 ++ le 2 0x140 ++ [1#8, 0#8] ++ le 4 1 ++ le 4 0 ++ le 2 0 ++ [0#8, 4#8, 0#8, 0#8] ++ le 2 100 ++ le 2 4 ++
    le 2 0x904E ++ le 4 915000000 ++ le 2 0 ++ [1#8, 0#8] ++ le 2 0x140 ++ zeros 10 ++ [3#8, 0#8] ++ leS 2 (-4000) ++ le 2 0 ++
    le 2 0x40 ++ zeros 8 ++ zeros 256)

/-- That request as parsed. -/
def asParsed : TxRequest := (parseRequest false 1 (requestPayload 0 [7#8])).getD request

/-- A burst that has passed t4. -/
def tail (returned : Bool) : BurstTail := { t4 := 5, t5 := 10, t6 := 20, quadrants := 0xF#4, returned := returned }

/-- A burst in its frame with one EXPLICIT beam of full weights at 0 dBFS. -/
def loud : Launch :=
  { burst .frame with req := { request with beams := [{ kind := .explicit, level := 0, index := 0, vector := List.replicate 64 ⟨32767, 0⟩ }] } }

/-- A pending tuning window of path 63 for 1 s with search. -/
def opening : TuneWindow :=
  { mask := 0x8000000000000000#64, start := 5, durationMs := 1000, search := true, dither := false, scheduled := true }

/-- Training saw all twelve lanes, each in its own place. -/
def lanes : List LaneTrain :=
  (List.range 12).map (fun k =>
    ({ slip := some 65, inverted := true, field := if k < 9 then k else k - 9, margin := 200, arrival := some (7, 20) } : LaneTrain))

/-- What a fresh device at the lower end of a hop reports. -/
def joining : JoinInfo :=
  { fresh := true, bootsCascade := false, rxRef := 0, txRef := 0, oneWayPs := 5000, trigPs := 4000, position := 0, dCfg := 3,
    trigSumPs := 8000, gridAt := 10000 }

/-- The manager with its hop 1 in training. -/
def trains : State := { boss with lcl := { boss.lcl with hops := [(1, { training := true })] } }

/-- The manager with the device at position 1 joined over a lane in use. -/
def linked : State :=
  { boss with lcl := { boss.lcl with hops := [(0, { lanes := [(11, { state := .inUse, margin := 200 })], heartbeatAt := 5 })] } }

/-- The worker whose time messages arrive. -/
def timed : State := { hand with lcl := { hand.lcl with timeMsgAt := some 0, heartbeatSent := some 0 } }

/-- A command addressed to position 2. -/
def ask2 (op : Nat) (p : List Byte) : Running := { ask op p with cmd := { (ask op p).cmd with target := 2 } }

/-- A command addressed to position 15. -/
def askF (op : Nat) (p : List Byte) : Running := { ask op p with cmd := { (ask op p).cmd with target := 15 } }

/-- Port 0 up with an address of its own. -/
def net : State := { up with fh := { ports := [(0, { up := true, srcMac := some 0x020000000001 })] } }

/-- A BEAM stream of beam 0 on port 0 in frames of 12 instants. -/
def stream : Stream := { enable := true, kind := 1, format := 2, port := 0, instants := 12, sources := 1#64, pcId := 7, seq := 255 }

/-- The device locked to a master on port 0. -/
def slave : State :=
  { net with time := { state := .valid, master := some { id := 9, port := 1, clockClass := 6, utcOffset := 37, dataset := [] } } }

/-- FH_SET_PTP with the default settings on port `p`. -/
def ptpPayload (p : Byte) : List Byte := [p, 0#8, 43#8, 1#8, 255#8, 0xF9#8] ++ le 2 10000 ++ le 4 1000000 ++ le 4 86400 ++ leS 4 (-1000000)

/-- HALO_ARM for slot 3 with one source, 64 segments of 64 bytes and a COMMAND trigger, `b` written at offset `o`. -/
def armPayload (kind : Byte) (o : Nat) (b : List Byte) : List Byte :=
  put o b ([3#8, kind, 0#8, 4#8] ++ le 4 0 ++ le 4 4096 ++ [64#8, 0#8] ++ le 2 512 ++ le 8 0x8000 ++ le 2 0 ++ le 2 1 ++
    [0x20#8, 0#8, 0#8, 0xFF#8] ++ le 4 1 ++ zeros 22 ++ le 2 0 ++ le 2 32 ++ le 2 351 ++ zeros 8)

/-- What such a command sets: 16 instants a segment, eight of them before the trigger. -/
def slotCfg : HaloCfg :=
  { kind := 0, offset := 0xFFF000, length := 4096, segments := 64, preFraction := 512, sources := 0x8000#64, trig := 0x7F#7
    holdoff := 1000 }

/-- The device with capture slot 3 as `x`. -/
def capturing (x : HaloSlot) : State := { up with halo := { slots := [(3, x)], trigOutMask := 0#4 } }

/-- The same with one trigger offered. -/
def offered (x : HaloSlot) (o : List TrigOffer) : State :=
  { capturing x with halo := { (capturing x).halo with offers := o } }

/-- An OBS slot with mask 2. -/
def obsSlot (st : SlotState) : HaloSlot :=
  { state := st, cfg := { slotCfg with kind := 3, maskId := 2 }, trigger := some (100000, 8) }

/-- The device with that slot and that mask. -/
def masked (st : SlotState) (m : HaloMask) : State :=
  { capturing (obsSlot st) with halo := { (capturing (obsSlot st)).halo with masks := [(2, m)] } }

/-- A mask with one spectral segment up to -40 dB. -/
def limit (a : BitVec 3) : HaloMask := { envelope := false, action := a, avgLog2 := 6, segs := [⟨-5, 5, -400, 0⟩] }

/-- A snapshot in the store. -/
def snap : Snapshot := { id := 65535, origin := 0, pinned := true, timeInvalid := true, strobe := 384, seconds := 1, nanos := 2, bytes := [] }

/-- The device asleep since local time 384000, every source armed, with Dawn changed by `f`. -/
def dozing (f : Dawn → Dawn) : State :=
  { now := 384000, dawn := f { aon := true, power := .sleep, wakeMask := 7#3, pwrEnFell := 384000, timerTicks := 1 } }

/-- The device in STANDBY with every source armed, with Dawn changed by `f`. -/
def waking (f : Dawn → Dawn) : State := { up with dawn := f { up.dawn with wakeMask := 7#3 } }

/-- The device in sleep entry. -/
def entering (x : SleepPhase) (w : Option WakeSource) : State :=
  { waking (fun d => { d with entryWake := w }) with thermal := { up.thermal with sleep := x } }

/-- The device with the thermal monitor changed by `f`. -/
def warm (f : Thermal → Thermal) : State := { up with thermal := f up.thermal }


/-! ### Ill-formed terms: one for each check of WellFormed -/

/-- What the boot ROM found, with nothing failed. -/
def facts : BootFacts :=
  { romEcc := false, tj := 2500, sensorOk := true, crystal := true, refIn := 0, repaired := true, mapOk := true, macros := []
    links := [], units := [], badRecords := [] }

/-- An announce that fits its fields. -/
def announce : Announce := { id := 1, sport := 1, clockClass := 6, utcOffset := 37, dataset := [], domain := 24, logInterval := 0 }

theorem test_ill_formed_host :
    ([.registerWrite 0 0 [], .registerWrite 0 0xFFFE [none, none, none], .bar2Write 0 0 [], .bar2Write 0 0x4000000 [none],
   .dmaStart 0 0 0 (List.replicate 33 0#8), .relayResponse 0 0 65536 0 0 [], .relayResponse 0 0 0 16 0 [],
   .relayResponse 0 0 0 0 65536 [], .workerCommandReceive 0 0 (List.replicate 15 0#8) 0, .deferredCommandComplete 0 0 false (.done 49),
   .deferredCommandComplete 0 0 false (.tempStop 1048577), .deferredCommandComplete 0 0 false (.verifyFail 1048577),
   .workerEventRelay 0 0 [], .dmaDescriptorDone 0 0 [] (List.replicate 33 0#8), .dmaTailRecheck 0 0 (List.replicate 33 0#8) [],
   .dmaTailRecheck 0 0 [] (List.replicate 33 0#8), .dmaError 0 0 16 0 0 [], .dmaError 0 0 0 134217729 0 [],
   .tapInstruction 0 (.readMemory 0x10000000000000000), .tapInstruction 0 (.writeMemory 0x10000000000000000 0)] : List Instr).all (fun i => !i.wf) = true := by decide +kernel

theorem test_ill_formed_core :
    ([.bootStageEnd 0 { facts with units := [(3, 0)] }, .bootStageEnd 0 { facts with units := [(9, 0)] },
   .bootStageEnd 0 { facts with links := [(2, 0, 0)] }, .bootStageEnd 0 { facts with links := [(0, 6, 0)] },
   .bootStageEnd 0 { facts with links := [(0, 0, 5)] }, .bootStageEnd 0 { facts with badRecords := [.channelEntry 3 0] },
   .bootStageEnd 0 { facts with badRecords := [.channelEntry 0 256] }, .bootStageEnd 0 { facts with badRecords := [.calChannel 256] },
   .bootStageEnd 0 { facts with badRecords := [.calStep 16] }, .thermalSample 32768 true, .thermalSample (-32769) true,
   .fabricSpeedMonitor 0 [], .fabricSpeedMonitor 0 (65536 :: List.replicate 35 0), .memoryScrub 0 0 4 none none,
   .memoryScrub 0 0 0 none (some (.calStep 16)), .maintenanceRingPoll 0 [65536], .maintenanceRingPoll 0 [1, 1],
   .unitHandshakeStall 0 65536, .unitReturnToService 0 65536, .unitParityFault 0 65536, .leaseRelease 0 65536 (.engine 0),
   .leaseRelease 0 0 (.engine 36), .leaseRelease 0 0 (.processor 18), .leaseRelease 0 0 (.dmaChannel 16),
   .spareFailureDeclared 0 4 256, .spareWear 0 0 9 0, .snapshotStrobe 32768, .maskFrameTest 0 0 0 (List.replicate 33 (0, 0)),
   .maskFrameTest 0 0 0 [(0, 1)]] : List Instr).all (fun i => !i.wf) = true := by decide +kernel

theorem test_ill_formed_radio :
    ([.synLock 0 0 256 0 0 0 0, .synLock 0 0 0 1024 0 0 0, .synLock 0 0 0 0 65536 0 0, .synLock 0 0 0 0 0 65536 0,
   .synLock 0 0 0 0 0 0 65536, .agcWindowEnd { ovr := [], peak := 0, rxSats := [(64, 1)] },
   .agcWindowEnd { ovr := [], peak := 0, beamSats := [(64, 1, 1)] }, .burstRampDownEnd { clips := [(64, 1)] },
   .burstRampDownEnd { txSats := [(64, 1)] }, .burstRampDownEnd { precoderSats := [(64, 1)] },
   .burstRampDownEnd { dpdSats := [(64, 1)] }, .detectorAssert 0 0 true 32768, .detectorRelease 0 0 true (-32769),
   .adaptiveSolveDone 0 false false [(64, List.replicate 64 ⟨0, 0⟩)], .adaptiveSolveDone 0 false false [(0, [])],
   .adaptiveSolveDone 0 false false [(0, ⟨32768, 0⟩ :: List.replicate 63 ⟨0, 0⟩)], .signatureStore 0 0 [] 0 0 0 0 0,
   .signatureStore 0 0 (List.replicate 64 ⟨0, 0⟩) 0 32768 0 0 0, .signatureStore 0 0 (List.replicate 64 ⟨0, 0⟩) 0 0 32768 0 0,
   .signatureStore 0 0 (List.replicate 64 ⟨0, 0⟩) 0 0 0 65536 0, .signatureStore 0 0 (List.replicate 64 ⟨0, 0⟩) 0 0 0 0 65536,
   .searchEpoch 0 [{ profile := 8, beam := 0, bin := 0, metric := 0, offsetHz := 0, time := 0 }] [] 0,
   .searchEpoch 0 [{ profile := 0, beam := 64, bin := 0, metric := 0, offsetHz := 0, time := 0 }] [] 0,
   .searchEpoch 0 [{ profile := 0, beam := 0, bin := 384, metric := 0, offsetHz := 0, time := 0 }] [] 0,
   .searchEpoch 0 [] [(24576, 0)] 0, .candidateHoldEnd [(65536, 0)], .headerDecoded 0 0 { phr with length := 65536 },
   .lastAirSymbol 0 0 32768, .lostSync 0 0 32768, .recordComplete 0 0 { back with fecCorrections := 65536 },
   .dpdAdaptCapture 0 [(64, 0)], .dpdAdaptCapture 0 [(0, 32768)], .dpdSolveDone 0 0 [[⟨0, 32768⟩]] 0,
   .mismatchMeasurement 0 [(64, 0, 0)], .tunerTrial 0 [(64, 0)], .rffeTransactionDone 0 0 (List.replicate 17 0#8) true,
   .calStepComplete 0 0 { since := 0, bins := [384], writes := [], residual := 0, sigma := 0, settled := true, figures := [], cornerKHz := none },
   .calStepComplete 0 0 { since := 0, bins := [], writes := [], residual := 0, sigma := 0, settled := true
                          figures := [⟨64, 0, 0, 0, 0⟩], cornerKHz := none },
   .xdevSnapshotEval 0 true 0 true 0 [⟨15, 0, 0, 0, 0⟩], .xdevSnapshotEval 0 true 0 true 0 (List.replicate 16 ⟨0, 0, 0, 0, 0⟩)] : List Instr).all (fun i => !i.wf) = true := by decide +kernel

theorem test_ill_formed_links :
    ([.hopJoin 0 0 [] joining, .hopJoin 0 0 ({ slip := some 66, inverted := false, field := 0, margin := 0, arrival := none } :: lanes.drop 1) joining,
   .hopJoin 0 0 ({ slip := none, inverted := false, field := 16, margin := 0, arrival := none } :: lanes.drop 1) joining,
   .hopJoin 0 0 ({ slip := none, inverted := false, field := 0, margin := 65536, arrival := none } :: lanes.drop 1) joining,
   .hopJoin 0 0 lanes { joining with position := 16 }, .hopJoin 0 0 lanes { joining with dCfg := 17 }, .hopTrainingFail 0 0 [],
   .hopTrainingFail 0 0 ({ slip := some 66, inverted := false, field := 0, margin := 0, arrival := none } :: lanes.drop 1),
   .laneLockLoss 0 0 0 65536 0, .laneLockLoss 0 0 0 0 65536, .cascadeMessage 0 16 0 0 true [], .cascadeMessage 0 0 16 0 true [],
   .cascadeMessage 0 0 0 8 true [], .fhFrameReceive 0 0 true 64 0x1000000000000 0 false 0, .fhFrameReceive 0 0 true 64 0 65536 false 0,
   .rtcTransmitRequest 0 0 65536 0 [], .rtcTransmitRequest 0 0 0 65536 [], .rtcBeamSwap 0 0 65536 0 [], .rtcBeamSwap 0 0 0 65536 [],
   .rtcTransmitCancel 0 0 65536 0 [], .rtcTransmitCancel 0 0 0 65536 [], .ecpriUnsupported 0 0 256, .ecpriDelayRequest 0 0 256 0,
   .ecpriDelayRequest 0 0 0 256, .ecpriRemoteRequest 0 0 256, .iqFrameComplete 0 0 0 0 256 0 [], .iqFrameComplete 0 0 0 0 0 256 [],
   .iqFrameComplete 0 0 0 0 0 0 [⟨32768, 0⟩], .ptpSync 0 0 0x10000000000000000 0 0 true 0 0, .ptpSync 0 0 0 65536 0 true 0 0,
   .ptpSync 0 0 0 0 65536 true 0 0, .ptpFollowUp 0 0 0x10000000000000000 0 0 0 0, .ptpFollowUp 0 0 0 65536 0 0 0,
   .ptpFollowUp 0 0 0 0 65536 0 0, .ptpDelayResp 0 0 0x10000000000000000 0 0 0 0, .ptpDelayResp 0 0 0 65536 0 0 0,
   .ptpDelayResp 0 0 0 0 65536 0 0, .ptpAnnounce 0 0 { announce with id := 0x10000000000000000 },
   .ptpAnnounce 0 0 { announce with sport := 65536 }, .ptpAnnounce 0 0 { announce with clockClass := 256 },
   .ptpAnnounce 0 0 { announce with utcOffset := 32768 }, .ptpAnnounce 0 0 { announce with domain := 256 }] : List Instr).all (fun i => !i.wf) = true := by decide +kernel

/-- Byte strings longer than their buffers. -/
theorem test_ill_formed_long (b : List Byte) :
    (4096 < b.length → Instr.wf (.relayResponse 0 0 0 0 0 b) = false) ∧
    (4112 < b.length → Instr.wf (.workerCommandReceive 0 0 b 0) = false) ∧
    (1048576 < b.length → Instr.wf (.cascadeImageReceive 0 b) = false) ∧
    (2047 < b.length → Instr.wf (.recordComplete 0 0 { back with psdu := b }) = false) ∧
    (9000 < b.length → Instr.wf (.rtcTransmitRequest 0 0 0 0 b) = false ∧ Instr.wf (.rtcBeamSwap 0 0 0 0 b) = false ∧
      Instr.wf (.rtcTransmitCancel 0 0 0 0 b) = false) ∧
    (65535 < b.length → Instr.wf (.cascadeMessage 0 0 0 0 true b) = false) ∧
    (134217728 < b.length → Instr.wf (.dmaTransferDone 0 0 b) = false ∧ Instr.wf (.dmaHalfNotify 0 0 b) = false ∧
      Instr.wf (.dmaDescriptorDone 0 0 b []) = false) ∧
    (16777216 < b.length → Instr.wf (.segmentComplete 0 b) = false) := by
  refine ⟨?_, ?_, ?_, ?_, ?_, ?_, ?_, ?_⟩ <;> intro h <;> simp [Instr.wf, isU16] <;> omega

theorem test_ill_formed_register_run (d : List (Option Byte)) (h : 256 < d.length) : Instr.wf (.registerWrite 0 0 d) = false := by
  simp [Instr.wf]; omega

/-- Terms at the limits of their fields are well-formed. -/
theorem test_well_formed :
    [Instr.relayResponse 0 3 65535 15 65535 [], .dmaError 0 7 15 134217728 0 [], .thermalSample (-32768) false,
     .bootStageEnd 0 { facts with units := [(8, 35)], links := [(1, 5, 4)], badRecords := [.channelEntry 2 255] },
     .synLock 0 2 255 1023 65535 65535 65535, .hopJoin 0 15 lanes { joining with position := 15, dCfg := 16 },
     .ptpAnnounce 0 3 announce, .recordComplete 0 0 back].all Instr.wf = true := by decide +kernel


/-! ### The spec's worked examples -/

/-- A duty refusal (chapter 9): 107.568 ms in 10 s is reported as 1.08 %, above 1.00 %; a PSDU of 48 octets gives 99.888 ms. -/
theorem test_duty_example :
    dutyShare (107568 * Config.us) (10 * Config.sec) = 108 ∧
    dutyShare (99888 * Config.us) (10 * Config.sec) ≤ 100 ∧ 100 < dutyShare (100048 * Config.us) (10 * Config.sec) := by
  decide +kernel

/-- One retired path in a uniform beam of 64 (R158): the weights move from 16,384 to 16,644. -/
theorem test_renormalise_example :
    renormalise 1#64 (List.replicate 64 ⟨16384, 0⟩) = (⟨0, 0⟩ :: List.replicate 63 ⟨16644, 0⟩, 0) := by decide +kernel

/-- A segmented Horizon capture (chapter 18): 16 bytes an instant, 32,768 instants a segment, 8,192 of them before the trigger. -/
theorem test_halo_segment_example :
    let c : HaloCfg := { kind := 0, length := 0x800000, segments := 16, preFraction := 256, sources := 0xF00000#64 }
    c.instantBytes = 16 ∧ c.segBytes = 524288 ∧ c.instants = 32768 ∧ c.pre = 8192 ∧ c.post = 640 * Config.us ∧
      c.need = 16 * 192 := by decide +kernel

/-- Placing two beam groups (chapter 17): a frame of 256 BFP blocks on a tagged port has 7,214 bytes. -/
theorem test_stream_frame_example : frameLength 5 (4 + 16 + 192 * 16 / 12 * 28) = 7214 := by decide +kernel

/-- The delay behind a time of arrival and a launch (chapter 5): 96 taps at 16.2 MHz give 1,837.305 ns, 64 taps 1,431.871 ns. -/
theorem test_delay_example :
    Filt.dRx { cornerKHz := 16200 } (95 * 128) = 1837305 ∧ dTx (63 * 128) = 1431871 := by decide +kernel

/-- A ring that fills (chapter 15): F = 421 after the host has consumed up to 5,600 of 6,021, in a ring of 1,024. -/
theorem test_ring_fill_example :
    let q : EventRing := { ctrl := 0x15#32, prod := 6021, cons := 5600 }
    q.fill = 421 ∧ q.size = 1024 := by decide +kernel

/-- Halves round to the even neighbour on either side of zero (R4). -/
theorem test_convergent : roundDiv 5 2 = 2 ∧ roundDiv 7 2 = 4 ∧ roundDiv (-5) 2 = -2 ∧ roundDiv (-7) 2 = -4 := by decide +kernel

/-! ### Every clause of every statement is met by some state -/

/-- Clause 2 of StepRunsFrontCommand is met. -/
theorem witness_StepRunsFrontCommand_2 :
    ∃ (s : State),
      s.pending = [] :=
  ⟨up, by decide +kernel⟩

/-- Clause 1 of MemoriesStayCanonical is met. -/
theorem witness_MemoriesStayCanonical_1 :
    ∃ (s : State) (t : State),
      s.memoriesWf = true ∧
      step s = .next t :=
  ⟨{ up with pending := [.mailboxScan 5] }, up.advance 5, by exact ⟨by decide +kernel, rfl⟩⟩

/-- Clause 1 of PathMasksAndGain is met. -/
theorem witness_PathMasksAndGain_1 :
    ∃ (s : State) (r : Running),
      Runs s r specPathSetEnable ∧
      mask64 r.cmd.payload 0 &&& s.spare.rxRetired = 0#64 ∧
      mask64 r.cmd.payload 8 &&& s.spare.txRetired = 0#64 ∧
      s.role ≠ .worker :=
  ⟨asked { up with radio := { up.radio with state := .rx } } (ask 0x0301 (le 8 (2 ^ 63 + 1) ++ le 8 1)), ask 0x0301 (le 8 (2 ^ 63 + 1) ++ le 8 1), by decide +kernel⟩

/-- Clause 2 of PathMasksAndGain is met. -/
theorem witness_PathMasksAndGain_2 :
    ∃ (s : State) (r : Running),
      Runs s r specPathSetEnable ∧
      (mask64 r.cmd.payload 0 &&& s.spare.rxRetired ≠ 0#64 ∨ mask64 r.cmd.payload 8 &&& s.spare.txRetired ≠ 0#64) :=
  ⟨asked { up with spare := { up.spare with txRetired := 0x8000000000000000#64 } } (ask 0x0301 (le 8 1 ++ le 8 (2 ^ 63))), ask 0x0301 (le 8 1 ++ le 8 (2 ^ 63)), by decide +kernel⟩

/-- Clause 3 of PathMasksAndGain is met. -/
theorem witness_PathMasksAndGain_3 :
    ∃ (s : State) (r : Running) (k : Nat),
      Runs s r specPathSetGain ∧
      u8 r.cmd.payload 0 ≤ 15 ∧
      (u8 r.cmd.payload 1 % 2 = 1 ∨ s.time.state ≠ .invalid) ∧
      gainSlot s.path.slots (u8 r.cmd.payload 1 % 2 == 1) (s.instantOf r.cmd.payload 8) = some k :=
  ⟨asked { up with time := { up.time with state := .valid } } (ask 0x0302 ([15#8] ++ zeros 11 ++ le 4 500000000)), ask 0x0302 ([15#8] ++ zeros 11 ++ le 4 500000000), 0, by decide +kernel⟩

/-- Clause 4 of PathMasksAndGain is met. -/
theorem witness_PathMasksAndGain_4 :
    ∃ (s : State) (r : Running),
      Runs s r specPathSetGain ∧
      u8 r.cmd.payload 0 ≤ 15 ∧
      u8 r.cmd.payload 1 % 2 = 0 ∧
      s.time.state = .invalid :=
  ⟨asked up (ask 0x0302 (zeros 16)), ask 0x0302 (zeros 16), by decide +kernel⟩

/-- Clause 5 of PathMasksAndGain is met. -/
theorem witness_PathMasksAndGain_5 :
    ∃ (s : State) (r : Running),
      Runs s r specPathSetGain ∧
      u8 r.cmd.payload 0 ≤ 15 ∧
      u8 r.cmd.payload 1 % 2 = 1 ∧
      (∀ k : Fin 4, (Tab.find? s.path.slots k.val).isSome = true) :=
  ⟨asked { up with path := { up.path with slots := (List.range 4).map (fun k => (k, ⟨k, k, false, k⟩)) } } (ask 0x0302 ([15#8, 1#8] ++ zeros 14)), ask 0x0302 ([15#8, 1#8] ++ zeros 14), by decide +kernel⟩

/-- Clause 6 of PathMasksAndGain is met. -/
theorem witness_PathMasksAndGain_6 :
    ∃ (s : State) (n : Nat) (due : Nat) (cause : Nat) (slot : Option Nat),
      s.nextGain = some (slot, due, n, cause) ∧
      n ≠ s.path.step :=
  ⟨{ up with path := { up.path with slots := [(3, ⟨2500, 0, false, 14⟩)] } }, 14, 2500, 0, some 3, by decide +kernel⟩

/-- Clause 7 of PathMasksAndGain is met. -/
theorem witness_PathMasksAndGain_7 :
    ∃ (s : State) (due : Nat) (cause : Nat) (k : Nat),
      s.nextGain = some (some k, due, s.path.step, cause) :=
  ⟨{ up with path := { up.path with slots := [(3, ⟨2500, 0, false, 15⟩)] } }, 2500, 0, 3, by decide +kernel⟩

/-- Clause 8 of PathMasksAndGain is met. -/
theorem witness_PathMasksAndGain_8 :
    ∃ (s : State) (p : Fin 64) (t : Nat),
      Tab.find? s.path.settling p.val = some t :=
  ⟨{ up with path := { up.path with settling := [(63, 7)] } }, 63, 7, by decide +kernel⟩

/-- Clause 1 of ArrayAgc is met. -/
theorem witness_ArrayAgc_1 :
    ∃ (s : State) (r : Running),
      Runs s r specPathSetAgc ∧
      u8 r.cmd.payload 0 ≤ 1 ∧
      u8 r.cmd.payload 2 ≤ 15 ∧
      u8 r.cmd.payload 1 ≤ u8 r.cmd.payload 2 ∧
      1 ≤ u8 r.cmd.payload 3 ∧
      u8 r.cmd.payload 3 ≤ 4 ∧
      1 ≤ u16 r.cmd.payload 4 ∧
      6 ≤ u8 r.cmd.payload 6 ∧
      u8 r.cmd.payload 6 ≤ 30 ∧
      1 ≤ u8 r.cmd.payload 7 ∧
      u8 r.cmd.payload 7 ≤ 100 :=
  ⟨asked { up with path := { up.path with agcEnable := false } } (ask 0x0303 [1#8, 0#8, 15#8, 4#8, 1#8, 0#8, 30#8, 100#8]), ask 0x0303 [1#8, 0#8, 15#8, 4#8, 1#8, 0#8, 30#8, 100#8], by decide +kernel⟩

/-- Clause 2 of ArrayAgc is met. -/
theorem witness_ArrayAgc_2 :
    ∃ (s : State) (r : Running),
      Runs s r specPathSetAgc ∧
      u8 r.cmd.payload 2 < u8 r.cmd.payload 1 :=
  ⟨asked up (ask 0x0303 [1#8, 9#8, 8#8, 4#8, 1#8, 0#8, 30#8, 100#8]), ask 0x0303 [1#8, 9#8, 8#8, 4#8, 1#8, 0#8, 30#8, 100#8], by decide +kernel⟩

/-- Clause 3 of ArrayAgc is met. -/
theorem witness_ArrayAgc_3 :
    ∃ (q : PathUnit),
      q.stepMax < q.step :=
  ⟨{ stepMax := 14 }, by decide +kernel⟩

/-- Clause 4 of ArrayAgc is met. -/
theorem witness_ArrayAgc_4 :
    ∃ (q : PathUnit),
      q.step < q.stepMin ∧
      q.step ≤ q.stepMax :=
  ⟨{ step := 0, stepMin := 1 }, by decide +kernel⟩

/-- Clause 5 of ArrayAgc is met. -/
theorem witness_ArrayAgc_5 :
    ∃ (q : PathUnit) (m : Nat),
      q.step ≤ q.stepMax ∧
      q.stepMin ≤ q.step ∧
      q.ovrLimit < m :=
  ⟨{ step := 1 }, 17, by decide +kernel⟩

/-- Clause 6 of ArrayAgc is met. -/
theorem witness_ArrayAgc_6 :
    ∃ (q : PathUnit) (peak : Int),
      q.step ≤ q.stepMax ∧
      q.stepMin ≤ q.step ∧
      peak < -(100 * ((q.headroomDb : Int) + 3)) :=
  ⟨{ hold := 9 }, -1501, by decide +kernel⟩

/-- Clause 7 of ArrayAgc is met. -/
theorem witness_ArrayAgc_7 :
    ∃ (q : PathUnit) (peak : Int) (m : Nat),
      q.step ≤ q.stepMax ∧
      q.stepMin ≤ q.step ∧
      m ≤ q.ovrLimit ∧
      (m ≠ 0 ∨ -(100 * ((q.headroomDb : Int) + 3)) ≤ peak) :=
  ⟨{}, -1500, 0, by decide +kernel⟩

/-- Clause 9 of ArrayAgc is met. -/
theorem witness_ArrayAgc_9 :
    ∃ (s : State),
      s.role = .standalone ∧
      s.path.agcEnable = true ∧
      s.path.rxTime = 1920000000 ∧
      s.path.rxSince = none :=
  ⟨{ up with path := { up.path with rxTime := 1920000000, hold := 9, step := 3 } }, by decide +kernel⟩

/-- Clause 10 of ArrayAgc is met. -/
theorem witness_ArrayAgc_10 :
    ∃ (s : State) (n : Nat),
      s.role = .standalone ∧
      s.path.agcEnable = false ∧
      s.path.rxMask.getLsbD 0 = true ∧
      s.path.ovrLimit < min 65535 n :=
  ⟨{ up with path := { up.path with agcEnable := false, rxMask := 1#64 } }, 70000, by decide +kernel⟩

/-- Clause 1 of PathSettings is met. -/
theorem witness_PathSettings_1 :
    ∃ (s : State) (r : Running),
      Runs s r specPathSetTxAtten ∧
      u8 r.cmd.payload 8 ≤ 15 ∧
      s.burstInProgress = false :=
  ⟨asked up (ask 0x0304 (le 8 (2 ^ 64 - 1) ++ [15#8] ++ zeros 7)), ask 0x0304 (le 8 (2 ^ 64 - 1) ++ [15#8] ++ zeros 7), by decide +kernel⟩

/-- Clause 2 of PathSettings is met. -/
theorem witness_PathSettings_2 :
    ∃ (s : State) (r : Running),
      Runs s r specPathSetTxAtten ∧
      u8 r.cmd.payload 8 ≤ 15 ∧
      s.burstInProgress = true ∧
      mask64 r.cmd.payload 0 = s.path.txMask :=
  ⟨asked { up with path := { up.path with txMask := 0x8000000000000001#64 }, tx := { up.tx with queue := [burst .frame] } } (ask 0x0304 (le 8 0x8000000000000001 ++ [15#8] ++ zeros 7)), ask 0x0304 (le 8 0x8000000000000001 ++ [15#8] ++ zeros 7), by decide +kernel⟩

/-- Clause 3 of PathSettings is met. -/
theorem witness_PathSettings_3 :
    ∃ (s : State) (r : Running),
      Runs s r specPathSetTxAtten ∧
      15 < u8 r.cmd.payload 8 :=
  ⟨asked up (ask 0x0304 (zeros 8 ++ [16#8] ++ zeros 7)), ask 0x0304 (zeros 8 ++ [16#8] ++ zeros 7), by decide +kernel⟩

/-- Clause 4 of PathSettings is met. -/
theorem witness_PathSettings_4 :
    ∃ (s : State) (r : Running),
      Runs s r specPathSetFeTiming ∧
      5 ≤ u16 r.cmd.payload 0 ∧
      u16 r.cmd.payload 0 ≤ 150 ∧
      5 ≤ u16 r.cmd.payload 2 ∧
      u16 r.cmd.payload 2 ≤ 100 ∧
      u16 r.cmd.payload 4 ≤ 100 :=
  ⟨asked up (ask 0x0305 (le 2 150 ++ le 2 5 ++ le 2 0 ++ zeros 2)), ask 0x0305 (le 2 150 ++ le 2 5 ++ le 2 0 ++ zeros 2), by decide +kernel⟩

/-- Clause 5 of PathSettings is met. -/
theorem witness_PathSettings_5 :
    ∃ (s : State) (r : Running),
      Runs s r specPathSetFeTiming ∧
      (u16 r.cmd.payload 0 < 5 ∨ 150 < u16 r.cmd.payload 0 ∨ u16 r.cmd.payload 2 < 5 ∨ 100 < u16 r.cmd.payload 2 ∨ 100 < u16 r.cmd.payload 4) :=
  ⟨asked up (ask 0x0305 (le 2 151 ++ le 2 5 ++ le 2 0 ++ zeros 2)), ask 0x0305 (le 2 151 ++ le 2 5 ++ le 2 0 ++ zeros 2), by decide +kernel⟩

/-- Clause 6 of PathSettings is met. -/
theorem witness_PathSettings_6 :
    ∃ (s : State) (r : Running),
      Runs s r specPathSetObs ∧
      u8 r.cmd.payload 2 ≤ 15 :=
  ⟨asked up (ask 0x0306 ([1#8, 0x80#8, 15#8] ++ zeros 5)), ask 0x0306 ([1#8, 0x80#8, 15#8] ++ zeros 5), by decide +kernel⟩

/-- Clause 7 of PathSettings is met. -/
theorem witness_PathSettings_7 :
    ∃ (s : State) (r : Running),
      Runs s r specPathGetStatus :=
  ⟨asked up (ask 0x0307 []), ask 0x0307 [], by decide +kernel⟩

/-- Clause 1 of AuxConverters is met. -/
theorem witness_AuxConverters_1 :
    ∃ (s : State) (r : Running),
      Runs s r specPathAuxAdcConfig ∧
      u8 r.cmd.payload 0 ≤ 15 ∧
      u8 r.cmd.payload 1 ≤ 1 ∧
      u8 r.cmd.payload 2 ≤ 8 ∧
      u8 r.cmd.payload 3 ≤ 1 ∧
      1000 ≤ u32 r.cmd.payload 4 ∧
      u32 r.cmd.payload 4 ≤ 10000000 ∧
      u16 r.cmd.payload 10 ≤ 4095 ∧
      u16 r.cmd.payload 8 ≤ u16 r.cmd.payload 10 :=
  ⟨asked up (ask 0x0308 ([15#8, 1#8, 8#8, 1#8] ++ le 4 10000000 ++ le 2 4095 ++ le 2 4095 ++ zeros 4)), ask 0x0308 ([15#8, 1#8, 8#8, 1#8] ++ le 4 10000000 ++ le 2 4095 ++ le 2 4095 ++ zeros 4), by decide +kernel⟩

/-- Clause 2 of AuxConverters is met. -/
theorem witness_AuxConverters_2 :
    ∃ (s : State) (r : Running),
      Runs s r specPathAuxAdcConfig ∧
      u16 r.cmd.payload 10 < u16 r.cmd.payload 8 :=
  ⟨asked up (ask 0x0308 ([15#8, 1#8, 8#8, 1#8] ++ le 4 10000000 ++ le 2 4095 ++ le 2 4094 ++ zeros 4)), ask 0x0308 ([15#8, 1#8, 8#8, 1#8] ++ le 4 10000000 ++ le 2 4095 ++ le 2 4094 ++ zeros 4), by decide +kernel⟩

/-- Clause 3 of AuxConverters is met. -/
theorem witness_AuxConverters_3 :
    ∃ (s : State) (r : Running),
      Runs s r specPathAuxAdcRead :=
  ⟨asked up (ask 0x0309 [1#8, 0x80#8, 0#8, 0#8]), ask 0x0309 [1#8, 0x80#8, 0#8, 0#8], by decide +kernel⟩

/-- Clause 4 of AuxConverters is met. -/
theorem witness_AuxConverters_4 :
    ∃ (s : State) (c : Fin 16) (raw : BitVec 12),
      (Tab.get s.path.adc c.val {}).enable = true ∧
      (Tab.get s.path.adc c.val {}).avgLog2 = 0 ∧
      (Tab.get s.path.adc c.val {}).sum = 0 ∧
      (Tab.get s.path.adc c.val {}).count = 0 ∧
      (Tab.get s.path.adc c.val {}).limitLo ≤ raw.toNat ∧
      raw.toNat ≤ (Tab.get s.path.adc c.val {}).limitHi :=
  ⟨{ up with path := { up.path with adc := [(15, { enable := true })] } }, 15, 4095#12, by decide +kernel⟩

/-- Clause 5 of AuxConverters is met. -/
theorem witness_AuxConverters_5 :
    ∃ (s : State) (c : Fin 16) (raw : BitVec 12),
      (Tab.get s.path.adc c.val {}).enable = true ∧
      (Tab.get s.path.adc c.val {}).avgLog2 = 0 ∧
      (Tab.get s.path.adc c.val {}).sum = 0 ∧
      (Tab.get s.path.adc c.val {}).count = 0 ∧
      (Tab.get s.path.adc c.val {}).limitHi < raw.toNat ∧
      (Tab.get s.path.adc c.val {}).limitLo ≤ raw.toNat ∧
      (Tab.get s.path.adc c.val {}).highTold = false :=
  ⟨{ up with path := { up.path with adc := [(15, { enable := true, limitHi := 4094 })] } }, 15, 4095#12, by decide +kernel⟩

/-- Clause 6 of AuxConverters is met. -/
theorem witness_AuxConverters_6 :
    ∃ (s : State) (c : Fin 16),
      (Tab.get s.path.adc c.val {}).enable = true ∧
      (Tab.get s.path.adc c.val {}).openTest = true :=
  ⟨{ up with path := { up.path with adc := [(0, { enable := true, openTest := true })] } }, 0, by decide +kernel⟩

/-- Clause 7 of AuxConverters is met. -/
theorem witness_AuxConverters_7 :
    ∃ (s : State) (r : Running),
      Runs s r specPathAuxDacSet ∧
      u8 r.cmd.payload 0 ≤ 15 ∧
      u8 r.cmd.payload 1 = 1 ∧
      u8 r.cmd.payload 8 ≤ 1 ∧
      (Tab.get s.path.dac (u8 r.cmd.payload 0) {}).mode = .highZ :=
  ⟨asked up (ask 0x030A ([15#8, 1#8] ++ le 2 65535 ++ le 2 1 ++ le 2 7 ++ [1#8] ++ zeros 7)), ask 0x030A ([15#8, 1#8] ++ le 2 65535 ++ le 2 1 ++ le 2 7 ++ [1#8] ++ zeros 7), by decide +kernel⟩

/-- Clause 8 of AuxConverters is met. -/
theorem witness_AuxConverters_8 :
    ∃ (s : State) (r : Running),
      Runs s r specPathAuxDacSet ∧
      u8 r.cmd.payload 0 ≤ 15 ∧
      u8 r.cmd.payload 1 = 2 ∧
      u8 r.cmd.payload 8 ≤ 1 ∧
      (Tab.get s.path.dac (u8 r.cmd.payload 0) {}).mode = .sine ∧
      (Tab.get s.path.dac (u8 r.cmd.payload 0) {}).outAt = s.now :=
  ⟨asked { up with path := { up.path with dac := [(15, { mode := .sine, phase := 0xFFFFFF })] } } (ask 0x030A ([15#8, 2#8] ++ le 2 65535 ++ le 2 1 ++ le 2 7 ++ [1#8] ++ zeros 7)), ask 0x030A ([15#8, 2#8] ++ le 2 65535 ++ le 2 1 ++ le 2 7 ++ [1#8] ++ zeros 7), by decide +kernel⟩

/-- Clause 9 of AuxConverters is met. -/
theorem witness_AuxConverters_9 :
    ∃ (s : State) (r : Running),
      Runs s r specPathAuxDacSine ∧
      u8 r.cmd.payload 0 ≤ 15 ∧
      1 ≤ u32 r.cmd.payload 4 % 2 ^ 24 ∧
      u32 r.cmd.payload 4 % 2 ^ 24 ≤ 699051 ∧
      u16 r.cmd.payload 8 ≤ 32767 ∧
      (Tab.get s.path.dac (u8 r.cmd.payload 0) {}).mode = .highZ :=
  ⟨asked up (ask 0x030B ([0#8] ++ zeros 3 ++ le 4 699051 ++ le 2 32767 ++ zeros 6)), ask 0x030B ([0#8] ++ zeros 3 ++ le 4 699051 ++ le 2 32767 ++ zeros 6), by decide +kernel⟩

/-- Clause 10 of AuxConverters is met. -/
theorem witness_AuxConverters_10 :
    ∃ (s : State) (r : Running),
      Runs s r specPathAuxDacSine ∧
      u8 r.cmd.payload 0 ≤ 15 ∧
      1 ≤ u32 r.cmd.payload 4 % 2 ^ 24 ∧
      u32 r.cmd.payload 4 % 2 ^ 24 ≤ 699051 ∧
      u16 r.cmd.payload 8 ≤ 32767 ∧
      (Tab.get s.path.dac (u8 r.cmd.payload 0) {}).mode = .static :=
  ⟨asked { up with path := { up.path with dac := [(9, { mode := .static })] } } (ask 0x030B ([9#8] ++ zeros 3 ++ le 4 6991 ++ le 2 82 ++ le 2 65535 ++ zeros 4)), ask 0x030B ([9#8] ++ zeros 3 ++ le 4 6991 ++ le 2 82 ++ le 2 65535 ++ zeros 4), by decide +kernel⟩

/-- Clause 11 of AuxConverters is met. -/
theorem witness_AuxConverters_11 :
    ∃ (d : AuxDac),
      d.slew ≠ 0 :=
  ⟨{ slew := 1 }, by decide +kernel⟩

/-- Clause 12 of AuxConverters is met. -/
theorem witness_AuxConverters_12 :
    ∃ (s : State),
      s.path.obsOwner = some .halo :=
  ⟨{ up with path := { up.path with obsOwner := some .halo } }, by decide +kernel⟩

/-- Clause 13 of AuxConverters is met. -/
theorem witness_AuxConverters_13 :
    ∃ (s : State),
      s.path.obsOwner = none ∧
      bestUser s.obsUsers = some .cal :=
  ⟨{ up with path := { up.path with obsWaiting := [.cal] } }, by decide +kernel⟩

/-- Clause 2 of LoFrequencyPlan is met. -/
theorem witness_LoFrequencyPlan_2 :
    ∃ (f : Nat) (d : Nat),
      loDivider f = some d :=
  ⟨2700000000, 2, by decide +kernel⟩

/-- Clause 3 of LoFrequencyPlan is met. -/
theorem witness_LoFrequencyPlan_3 :
    ∃ (s : State) (r : Running),
      Runs s r specSynTune ∧
      u8 r.cmd.payload 0 ≤ 2 ∧
      u8 r.cmd.payload 1 % 2 = 0 ∧
      s.radio.inService (u8 r.cmd.payload 0) = true ∧
      (u8 r.cmd.payload 0 = s.radio.active ∨ s.radio.base ≠ .standby) ∧
      loDivider (u32 r.cmd.payload 4) = none :=
  ⟨asked up (ask 0x0203 (zeros 4 ++ le 4 700000001)), ask 0x0203 (zeros 4 ++ le 4 700000001), by decide +kernel⟩

/-- Clause 1 of ClockOutputOfTheChain is met. -/
theorem witness_ClockOutputOfTheChain_1 :
    ∃ (s : State),
      s.boot.stage = 9 ∧
      (s.role = .manager ∨ s.role = .worker) :=
  ⟨{ boss with boot := { boss.boot with stage := 9, ready := false } }, by decide +kernel⟩

/-- Clause 2 of ClockOutputOfTheChain is met. -/
theorem witness_ClockOutputOfTheChain_2 :
    ∃ (s : State) (r : Running),
      Runs s r specSynSetClkout ∧
      u8 r.cmd.payload 0 = 3 ∧
      (s.role = .manager ∨ s.role = .worker) :=
  ⟨asked hand { ask 0x0208 (3#8 :: zeros 7) with cascade := true }, { ask 0x0208 (3#8 :: zeros 7) with cascade := true }, by decide +kernel⟩

/-- Clause 1 of SynthesiserCommands is met. -/
theorem witness_SynthesiserCommands_1 :
    ∃ (s : State) (r : Running),
      Runs s r specSynSetMode ∧
      u8 r.cmd.payload 0 ≤ 2 ∧
      u8 r.cmd.payload 1 ≤ 1 ∧
      5 ≤ u8 r.cmd.payload 2 ∧
      u8 r.cmd.payload 2 ≤ 60 ∧
      s.radio.inService (u8 r.cmd.payload 0) = true ∧
      s.radio.commit = none ∧
      (s.radio.synth (u8 r.cmd.payload 0)).waiting = none ∧
      ((s.radio.synth (u8 r.cmd.payload 0)).loop = .locked ∨ (s.radio.synth (u8 r.cmd.payload 0)).loop = .off) :=
  ⟨asked up (ask 0x0202 [1#8, 1#8, 60#8, 0#8]), ask 0x0202 [1#8, 1#8, 60#8, 0#8], by decide +kernel⟩

/-- Clause 2 of SynthesiserCommands is met. -/
theorem witness_SynthesiserCommands_2 :
    ∃ (s : State) (r : Running) (c : Commit) (x : LoSetting),
      Runs s r specSynSetMode ∧
      u8 r.cmd.payload 0 ≤ 2 ∧
      u8 r.cmd.payload 1 ≤ 1 ∧
      5 ≤ u8 r.cmd.payload 2 ∧
      u8 r.cmd.payload 2 ≤ 60 ∧
      s.radio.inService (u8 r.cmd.payload 0) = true ∧
      s.radio.commit = some c ∧
      Tab.find? c.settings (u8 r.cmd.payload 0) = some x :=
  ⟨asked { up with radio := { up.radio with commit := some ⟨[(1, tuned)], 5, 0, false⟩ } } (ask 0x0202 [1#8, 0#8, 5#8, 0#8]), ask 0x0202 [1#8, 0#8, 5#8, 0#8], ⟨[(1, tuned)], 5, 0, false⟩, tuned, by decide +kernel⟩

/-- Clause 3 of SynthesiserCommands is met. -/
theorem witness_SynthesiserCommands_3 :
    ∃ (s : State) (r : Running) (d : Nat),
      Runs s r specSynTune ∧
      u8 r.cmd.payload 0 ≤ 2 ∧
      u8 r.cmd.payload 1 = 0 ∧
      s.radio.inService (u8 r.cmd.payload 0) = true ∧
      s.radio.base ≠ .standby ∧
      loDivider (u32 r.cmd.payload 4) = some d ∧
      (s.radio.synth (u8 r.cmd.payload 0)).commitMode = true :=
  ⟨asked { onAir with radio := { onAir.radio with syn := [(1, { commitMode := true })] } } (ask 0x0203 ([1#8] ++ zeros 3 ++ le 4 380000000)), ask 0x0203 ([1#8] ++ zeros 3 ++ le 4 380000000), 8, by decide +kernel⟩

/-- Clause 4 of SynthesiserCommands is met. -/
theorem witness_SynthesiserCommands_4 :
    ∃ (s : State) (r : Running) (d : Nat),
      Runs s r specSynTune ∧
      u8 r.cmd.payload 0 ≤ 2 ∧
      u8 r.cmd.payload 1 = 2 ∧
      s.radio.second = some (u8 r.cmd.payload 0) ∧
      s.radio.active ≠ u8 r.cmd.payload 0 ∧
      s.radio.base ≠ .standby ∧
      loDivider (u32 r.cmd.payload 4) = some d ∧
      (s.radio.synth (u8 r.cmd.payload 0)).commitMode = false :=
  ⟨asked onAir (ask 0x0203 ([1#8, 2#8] ++ zeros 2 ++ le 4 1500000000)), ask 0x0203 ([1#8, 2#8] ++ zeros 2 ++ le 4 1500000000), 2, by decide +kernel⟩

/-- Clause 5 of SynthesiserCommands is met. -/
theorem witness_SynthesiserCommands_5 :
    ∃ (s : State) (r : Running),
      Runs s r specSynTune ∧
      u8 r.cmd.payload 0 ≤ 2 ∧
      u8 r.cmd.payload 1 % 2 = 0 ∧
      s.radio.inService (u8 r.cmd.payload 0) = false :=
  ⟨asked onAir (ask 0x0203 ([2#8] ++ zeros 3 ++ le 4 915000000)), ask 0x0203 ([2#8] ++ zeros 3 ++ le 4 915000000), by decide +kernel⟩

/-- Clause 6 of SynthesiserCommands is met. -/
theorem witness_SynthesiserCommands_6 :
    ∃ (s : State) (r : Running) (k : Fin 3) (x : LoSetting),
      Runs s r specSynCommit ∧
      u8 r.cmd.payload 0 = 2 ^ k.val ∧
      (u8 r.cmd.payload 1 % 2 = 1 ∨ s.time.state ≠ .invalid) ∧
      s.radio.inService k.val = true ∧
      (s.radio.synth k.val).commitMode = true ∧
      (s.radio.synth k.val).staged = some x ∧
      (s.radio.base ≠ .standby ∨ k.val = s.radio.active) :=
  ⟨asked { onAir with radio := { onAir.radio with syn := [(1, { commitMode := true, staged := some tuned })] } } (ask 0x0204 ([2#8, 1#8] ++ zeros 14)), ask 0x0204 ([2#8, 1#8] ++ zeros 14), 1, tuned, by decide +kernel⟩

/-- Clause 7 of SynthesiserCommands is met. -/
theorem witness_SynthesiserCommands_7 :
    ∃ (s : State) (r : Running),
      Runs s r specSynSwitch ∧
      u8 r.cmd.payload 0 ≤ 2 ∧
      (u8 r.cmd.payload 1 % 2 = 1 ∨ s.time.state ≠ .invalid) ∧
      u8 r.cmd.payload 0 ≠ s.radio.active ∧
      s.radio.second = some (u8 r.cmd.payload 0) ∧
      s.radio.switch = none :=
  ⟨asked onAir (ask 0x0205 ([1#8, 1#8] ++ zeros 14)), ask 0x0205 ([1#8, 1#8] ++ zeros 14), by decide +kernel⟩

/-- Clause 8 of SynthesiserCommands is met. -/
theorem witness_SynthesiserCommands_8 :
    ∃ (s : State) (r : Running) (w : Switch),
      Runs s r specSynSwitch ∧
      u8 r.cmd.payload 0 ≤ 2 ∧
      u8 r.cmd.payload 1 % 2 = 1 ∧
      u8 r.cmd.payload 0 ≠ s.radio.active ∧
      s.radio.second = some (u8 r.cmd.payload 0) ∧
      s.radio.switch = some w :=
  ⟨asked { onAir with radio := { onAir.radio with switch := some ⟨1, 5, 5, 384000005, 0, false⟩ } } (ask 0x0205 ([1#8, 1#8] ++ zeros 14)), ask 0x0205 ([1#8, 1#8] ++ zeros 14), ⟨1, 5, 5, 384000005, 0, false⟩, by decide +kernel⟩

/-- Clause 9 of SynthesiserCommands is met. -/
theorem witness_SynthesiserCommands_9 :
    ∃ (s : State) (r : Running),
      Runs s r specSynStoreEntry ∧
      u8 r.cmd.payload 0 ≤ 2 ∧
      u8 r.cmd.payload 1 = 0 ∧
      u16 r.cmd.payload 2 ≤ 255 ∧
      s.radio.inService (u8 r.cmd.payload 0) = true ∧
      (s.radio.synth (u8 r.cmd.payload 0)).loop = .locked ∧
      0 ≤ s.thermal.tj ∧
      s.thermal.tj ≤ 10000 :=
  ⟨asked onAir (ask 0x0206 [0#8, 0#8, 255#8, 0#8]), ask 0x0206 [0#8, 0#8, 255#8, 0#8], by decide +kernel⟩

/-- Clause 10 of SynthesiserCommands is met. -/
theorem witness_SynthesiserCommands_10 :
    ∃ (s : State) (r : Running),
      Runs s r specSynReadEntry ∧
      u8 r.cmd.payload 0 ≤ 2 ∧
      u16 r.cmd.payload 2 ≤ 255 ∧
      s.radio.inService (u8 r.cmd.payload 0) = true :=
  ⟨asked onAir (ask 0x0207 [1#8, 0#8, 255#8, 0#8]), ask 0x0207 [1#8, 0#8, 255#8, 0#8], by decide +kernel⟩

/-- Clause 11 of SynthesiserCommands is met. -/
theorem witness_SynthesiserCommands_11 :
    ∃ (s : State) (r : Running),
      Runs s r specSynGetStatus :=
  ⟨asked onAir (ask 0x020A []), ask 0x020A [], by decide +kernel⟩

/-- Clause 1 of RadioStates is met. -/
theorem witness_RadioStates_1 :
    ∃ (s : State) (r : Running),
      Runs s r specSynSetState ∧
      1 ≤ u8 r.cmd.payload 0 ∧
      u8 r.cmd.payload 0 ≤ 2 ∧
      u16 r.cmd.payload 2 ≤ 10000 ∧
      (u8 r.cmd.payload 1 % 2 = 1 ∨ s.time.state ≠ .invalid) ∧
      (s.radio.synth s.radio.active).setting.isSome = true :=
  ⟨asked onAir (ask 0x0201 ([2#8, 1#8] ++ le 2 10000 ++ zeros 12)), ask 0x0201 ([2#8, 1#8] ++ le 2 10000 ++ zeros 12), by decide +kernel⟩

/-- Clause 2 of RadioStates is met. -/
theorem witness_RadioStates_2 :
    ∃ (s : State) (r : Running),
      Runs s r specSynSetState ∧
      u8 r.cmd.payload 0 = 0 ∧
      u16 r.cmd.payload 2 ≤ 10000 ∧
      u8 r.cmd.payload 1 = 1 ∧
      s.tx.queue ≠ [] :=
  ⟨asked { onAir with tx := { onAir.tx with queue := [burst .queued] } } (ask 0x0201 ([0#8, 1#8] ++ zeros 14)), ask 0x0201 ([0#8, 1#8] ++ zeros 14), by decide +kernel⟩

/-- Clause 3 of RadioStates is met. -/
theorem witness_RadioStates_3 :
    ∃ (s : State) (r : Running),
      Runs s r specSynSetState ∧
      u8 r.cmd.payload 0 = 2 ∧
      u16 r.cmd.payload 2 ≤ 10000 ∧
      u8 r.cmd.payload 1 = 1 ∧
      (s.radio.synth s.radio.active).setting = none ∧
      (s.radio.synth s.radio.active).waiting = none :=
  ⟨asked up (ask 0x0201 ([2#8, 1#8] ++ zeros 14)), ask 0x0201 ([2#8, 1#8] ++ zeros 14), by decide +kernel⟩

/-- Clause 4 of RadioStates is met. -/
theorem witness_RadioStates_4 :
    ∃ (s : State) (n : Nat) (d : Nat) (sch : Bool),
      s.radio.pending = some ⟨.loReady, n, .instant d, sch⟩ ∧
      s.radio.wantTx = false ∧
      (s.radio.synth s.radio.active).loop = .locked ∧
      s.spare.synFailed = [] ∧
      s.radio.state = .rx ∧
      s.radio.moving = none ∧
      s.radio.gapSince = none :=
  ⟨{ onAir with radio := { onAir.radio with pending := some ⟨.loReady, 7, .instant 5, false⟩ } }, 7, 5, false, by decide +kernel⟩

/-- Clause 5 of RadioStates is met. -/
theorem witness_RadioStates_5 :
    ∃ (s : State),
      s.radio.moving = some .rx ∧
      s.radio.state = .loReady ∧
      s.radio.base = .rx ∧
      s.radio.gapSince = none ∧
      s.radio.wantTx = false :=
  ⟨{ onAir with radio := { onAir.radio with state := .loReady, moving := some .rx } }, by decide +kernel⟩

/-- Clause 6 of RadioStates is met. -/
theorem witness_RadioStates_6 :
    ∃ (s : State) (k : Fin 3) (x : LoSetting) (t0 : Nat),
      (s.radio.synth k.val).waiting = some (x, some t0) ∧
      k.val ≠ s.radio.active ∧
      s.radio.base ≠ .standby ∧
      x.forceCold = true :=
  ⟨{ onAir with radio := { onAir.radio with syn := [(1, { waiting := some ({ tuned with forceCold := true }, some 7) })] } }, 1, { tuned with forceCold := true }, 7, by decide +kernel⟩

/-- Clause 7 of RadioStates is met. -/
theorem witness_RadioStates_7 :
    ∃ (s : State) (k : Fin 3) (x : LoSetting) (d : Nat) (since : Nat) (sch : Bool),
      s.radio.commit = some ⟨[(k.val, x)], d, since, sch⟩ ∧
      k.val ≠ s.radio.active ∧
      s.radio.base ≠ .standby ∧
      x.forceCold = true :=
  ⟨{ onAir with radio := { onAir.radio with commit := some ⟨[(1, { tuned with forceCold := true })], 5, 0, false⟩ } }, 1, { tuned with forceCold := true }, 5, 0, false, by decide +kernel⟩

/-- Clause 8 of RadioStates is met. -/
theorem witness_RadioStates_8 :
    ∃ (s : State) (k : Fin 3),
      (s.radio.synth k.val).loop = .acquiring ∧
      k.val = s.radio.active ∧
      s.role = .standalone ∧
      s.radio.pending = none :=
  ⟨{ onAir with radio := { onAir.radio with state := .loReady, gapSince := some 1, acqCount := 65535, syn := [(0, { loop := .acquiring, setting := some tuned })] } }, 0, by decide +kernel⟩

/-- Clause 9 of RadioStates is met. -/
theorem witness_RadioStates_9 :
    ∃ (s : State) (k : Fin 3),
      (s.radio.synth k.val).loop = .locked ∧
      k.val = s.radio.active ∧
      s.tx.queue.any (fun b => b.phase.committed) = true :=
  ⟨{ onAir with tx := { onAir.tx with queue := [burst .frame] } }, 0, by decide +kernel⟩

/-- Clause 10 of RadioStates is met. -/
theorem witness_RadioStates_10 :
    ∃ (s : State) (k : Fin 3) (x : LoSetting),
      (s.radio.synth k.val).loop = .locked ∧
      (s.radio.synth k.val).setting = some x ∧
      (s.radio.synth k.val).entryUsed = none ∧
      k.val = s.radio.active ∧
      s.tx.queue = [] :=
  ⟨onAir, 0, tuned, by decide +kernel⟩

/-- Clause 11 of RadioStates is met. -/
theorem witness_RadioStates_11 :
    ∃ (s : State) (w : Switch) (y : Nat),
      s.radio.switch = some w ∧
      s.role = .standalone ∧
      (s.radio.synth w.target).loop = .locked ∧
      s.radio.moving = none ∧
      (s.radio.synth w.target).entryUsed = none ∧
      s.radio.active = y ∧
      s.spare.synFailed = [] :=
  ⟨{ onAir with radio := { onAir.radio with switch := some ⟨1, 5, 5, 384000005, 0, false⟩, syn := [(0, { loop := .locked, setting := some tuned }), (1, { loop := .locked, setting := some tuned })] } }, ⟨1, 5, 5, 384000005, 0, false⟩, 0, by decide +kernel⟩

/-- Clause 12 of RadioStates is met. -/
theorem witness_RadioStates_12 :
    ∃ (s : State) (w : Switch),
      s.radio.switch = some w ∧
      s.tx.queue = [] ∧
      s.tx.guardUntil ≤ s.now ∧
      s.tx.guardUntil ≤ w.deadline :=
  ⟨{ onAir with radio := { onAir.radio with switch := some ⟨1, 5, 5, 384000005, 0, false⟩ } }, ⟨1, 5, 5, 384000005, 0, false⟩, by decide +kernel⟩

/-- Clause 1 of ClockAndReference is met. -/
theorem witness_ClockAndReference_1 :
    ∃ (s : State) (r : Running),
      Runs s r specSynSetClkout ∧
      u8 r.cmd.payload 0 ≤ 2 ∧
      u8 r.cmd.payload 1 ≤ 1 ∧
      1 ≤ u16 r.cmd.payload 2 ∧
      u16 r.cmd.payload 2 ≤ 1024 ∧
      u16 r.cmd.payload 4 ≤ 2047 :=
  ⟨asked up (ask 0x0208 ([2#8, 1#8] ++ le 2 1024 ++ le 2 2047 ++ zeros 2)), ask 0x0208 ([2#8, 1#8] ++ le 2 1024 ++ le 2 2047 ++ zeros 2), by decide +kernel⟩

/-- Clause 2 of ClockAndReference is met. -/
theorem witness_ClockAndReference_2 :
    ∃ (s : State) (r : Running),
      Runs s r specSynSetReference ∧
      s.role = .worker :=
  ⟨asked hand { ask 0x0209 (zeros 8) with cascade := true }, { ask 0x0209 (zeros 8) with cascade := true }, by decide +kernel⟩

/-- Clause 3 of ClockAndReference is met. -/
theorem witness_ClockAndReference_3 :
    ∃ (s : State) (r : Running),
      Runs s r specSynSetReference ∧
      s.role ≠ .worker ∧
      u8 r.cmd.payload 0 ≤ 1 ∧
      u8 r.cmd.payload 1 ≤ 1 ∧
      100 ≤ u32 r.cmd.payload 4 ∧
      u32 r.cmd.payload 4 ≤ 60000 ∧
      s.radio.sourceValid (u8 r.cmd.payload 0) = false :=
  ⟨asked up (ask 0x0209 ([1#8, 1#8] ++ zeros 2 ++ le 4 60000)), ask 0x0209 ([1#8, 1#8] ++ zeros 2 ++ le 4 60000), by decide +kernel⟩

/-- Clause 4 of ClockAndReference is met. -/
theorem witness_ClockAndReference_4 :
    ∃ (s : State) (r : Running),
      Runs s r specSynSetReference ∧
      s.role ≠ .worker ∧
      u8 r.cmd.payload 0 ≤ 1 ∧
      u8 r.cmd.payload 1 ≤ 1 ∧
      100 ≤ u32 r.cmd.payload 4 ∧
      u32 r.cmd.payload 4 ≤ 60000 ∧
      s.radio.sourceValid (u8 r.cmd.payload 0) = true :=
  ⟨asked { up with radio := { up.radio with refInValid := true } } (ask 0x0209 ([1#8, 1#8] ++ zeros 2 ++ le 4 100)), ask 0x0209 ([1#8, 1#8] ++ zeros 2 ++ le 4 100), by decide +kernel⟩

/-- Clause 5 of ClockAndReference is met. -/
theorem witness_ClockAndReference_5 :
    ∃ (s : State) (src : Fin 2),
      s.radio.refSource = src.val ∧
      s.role = .standalone ∧
      s.time.state = .valid :=
  ⟨{ up with time := { up.time with state := .valid }, radio := { up.radio with refInValid := true, crystalValid := true } }, 0, by decide +kernel⟩

/-- Clause 6 of ClockAndReference is met. -/
theorem witness_ClockAndReference_6 :
    ∃ (s : State) (src : Fin 2),
      s.radio.refSource ≠ src.val :=
  ⟨up, 1, by decide +kernel⟩

/-- Clause 7 of ClockAndReference is met. -/
theorem witness_ClockAndReference_7 :
    ∃ (s : State),
      s.radio.refSource = 1 ∧
      s.role = .worker ∧
      s.tx.queue = [] :=
  ⟨{ hand with radio := { hand.radio with refSource := 1 } }, by decide +kernel⟩

/-- Clause 8 of ClockAndReference is met. -/
theorem witness_ClockAndReference_8 :
    ∃ (s : State) (src : Fin 2),
      s.radio.clock = .freewheel ∧
      s.radio.refSource = src.val :=
  ⟨{ up with radio := { up.radio with clock := .freewheel } }, 0, by decide +kernel⟩

/-- Clause 9 of ClockAndReference is met. -/
theorem witness_ClockAndReference_9 :
    ∃ (s : State),
      s.radio.clock = .slewing ∧
      s.role = .standalone :=
  ⟨{ up with radio := { up.radio with clock := .slewing, freewheelAt := some 3 } }, by decide +kernel⟩

/-- Clause 10 of ClockAndReference is met. -/
theorem witness_ClockAndReference_10 :
    ∃ (s : State) (t0 : Nat),
      s.radio.clock = .freewheel ∧
      s.radio.freewheelAt = some t0 ∧
      s.radio.limitTold = false :=
  ⟨{ up with radio := { up.radio with clock := .freewheel, freewheelAt := some 3 } }, 3, by decide +kernel⟩

/-- Clause 1 of FilterCommands is met. -/
theorem witness_FilterCommands_1 :
    ∃ (s : State) (r : Running),
      Runs s r specFiltLoadSet ∧
      u8 r.cmd.payload 0 = 0 ∧
      u8 r.cmd.payload 1 ≤ 3 ∧
      u8 r.cmd.payload 2 ≤ 1 ∧
      1 ≤ u16 r.cmd.payload 4 ∧
      u16 r.cmd.payload 4 ≤ 256 ∧
      r.cmd.length = 8 + 4 * (if u8 r.cmd.payload 2 = 1 then (u16 r.cmd.payload 4 + 1) / 2 else u16 r.cmd.payload 4) ∧
      (u8 r.cmd.payload 2 = 1 ∨ u16 r.cmd.payload 6 = 0xFFFF ∨ u16 r.cmd.payload 6 ≤ 256 * (u16 r.cmd.payload 4 - 1)) :=
  ⟨asked up (ask 0x030C ([0#8, 3#8, 1#8, 0#8] ++ le 2 3 ++ le 2 0 ++ le 4 1 ++ le 4 0x3FFFF)), ask 0x030C ([0#8, 3#8, 1#8, 0#8] ++ le 2 3 ++ le 2 0 ++ le 4 1 ++ le 4 0x3FFFF), by decide +kernel⟩

/-- Clause 2 of FilterCommands is met. -/
theorem witness_FilterCommands_2 :
    ∃ (s : State) (r : Running),
      Runs s r specFiltLoadSet ∧
      r.cmd.length ≠ 8 + 4 * loadCount (u16 r.cmd.payload 4) (u8 r.cmd.payload 2 == 1) :=
  ⟨asked up (ask 0x030C ([0#8, 3#8, 1#8, 0#8] ++ le 2 4 ++ le 2 0 ++ le 4 1)), ask 0x030C ([0#8, 3#8, 1#8, 0#8] ++ le 2 4 ++ le 2 0 ++ le 4 1), by decide +kernel⟩

/-- Clause 3 of FilterCommands is met. -/
theorem witness_FilterCommands_3 :
    ∃ (s : State) (r : Running),
      Runs s r specFiltAssign ∧
      u8 r.cmd.payload 0 = 1 ∧
      u8 r.cmd.payload 1 ≤ 3 :=
  ⟨asked up (ask 0x030D ([1#8, 3#8] ++ zeros 6 ++ le 8 0x8000000000000001)), ask 0x030D ([1#8, 3#8] ++ zeros 6 ++ le 8 0x8000000000000001), by decide +kernel⟩

/-- Clause 4 of FilterCommands is met. -/
theorem witness_FilterCommands_4 :
    ∃ (s : State) (r : Running),
      Runs s r specFiltApply ∧
      u8 r.cmd.payload 0 = 1 ∧
      (u8 r.cmd.payload 1 % 2 = 1 ∨ s.time.state ≠ .invalid) ∧
      s.filt.stagedRx.any = true ∧
      ((s.filt.rxBy (s.applyDue r)).after s.filt.stagedRx).aligned = true ∧
      (s.role = .manager → s.chainAligned (((s.filt.rxBy (s.applyDue r)).after s.filt.stagedRx).delayOf 0) = true) :=
  ⟨asked { up with filt := { up.filt with stagedRx := { member := [(5, 3)] } } } (ask 0x030E ([1#8, 1#8] ++ zeros 14)), ask 0x030E ([1#8, 1#8] ++ zeros 14), by decide +kernel⟩

/-- Clause 5 of FilterCommands is met. -/
theorem witness_FilterCommands_5 :
    ∃ (s : State) (r : Running),
      Runs s r specFiltApply ∧
      u8 r.cmd.payload 0 = 1 ∧
      u8 r.cmd.payload 1 % 2 = 1 ∧
      s.filt.stagedRx.any = true ∧
      ((s.filt.rxBy (s.applyDue r)).after s.filt.stagedRx).aligned = false :=
  ⟨asked { up with filt := { up.filt with stagedRx := { sets := [(3, { taps := 3, refDelay := 256 })], member := [(5, 3)] } } } (ask 0x030E ([1#8, 1#8] ++ zeros 14)), ask 0x030E ([1#8, 1#8] ++ zeros 14), by decide +kernel⟩

/-- Clause 6 of FilterCommands is met. -/
theorem witness_FilterCommands_6 :
    ∃ (s : State) (r : Running),
      Runs s r specFiltApply ∧
      u8 r.cmd.payload 0 = 3 ∧
      u8 r.cmd.payload 1 % 2 = 1 ∧
      s.filt.stagedRx = {} ∧
      s.filt.stagedTx = {} :=
  ⟨asked up (ask 0x030E ([3#8, 1#8] ++ zeros 14)), ask 0x030E ([3#8, 1#8] ++ zeros 14), by decide +kernel⟩

/-- Clause 7 of FilterCommands is met. -/
theorem witness_FilterCommands_7 :
    ∃ (s : State) (r : Running),
      Runs s r specFiltSetDetector ∧
      u8 r.cmd.payload 8 = 1 ∧
      u8 r.cmd.payload 10 ≤ 10 ∧
      u8 r.cmd.payload 11 ≤ 100 ∧
      -900 ≤ s16 r.cmd.payload 12 ∧
      s16 r.cmd.payload 12 ≤ 0 ∧
      1 ≤ u16 r.cmd.payload 14 ∧
      1 ≤ u16 r.cmd.payload 16 ∧
      u16 r.cmd.payload 16 ≤ 10000 :=
  ⟨asked up (ask 0x030F (le 8 (2 ^ 63) ++ [1#8, 7#8, 10#8, 100#8] ++ le 2 (65536 - 900) ++ le 2 1 ++ le 2 10000 ++ zeros 6)), ask 0x030F (le 8 (2 ^ 63) ++ [1#8, 7#8, 10#8, 100#8] ++ le 2 (65536 - 900) ++ le 2 1 ++ le 2 10000 ++ zeros 6), by decide +kernel⟩

/-- Clause 8 of FilterCommands is met. -/
theorem witness_FilterCommands_8 :
    ∃ (s : State) (r : Running),
      Runs s r specFiltGetStatus :=
  ⟨asked up (ask 0x0310 []), ask 0x0310 [], by decide +kernel⟩

/-- Clause 1 of FilterEvents is met. -/
theorem witness_FilterEvents_1 :
    ∃ (s : State) (rx : FirBank) (tx : FirBank) (due : Nat) (sch : Bool) (rest : List FiltApply),
      s.role = .standalone ∧
      s.filt.applies = ⟨some rx, some tx, due, sch⟩ :: rest :=
  ⟨{ up with filt := { up.filt with applies := [⟨some { member := [(5, 3)] }, some { member := [(63, 1)] }, 10000, true⟩] } }, { member := [(5, 3)] }, { member := [(63, 1)] }, 10000, true, [], by decide +kernel⟩

/-- Clause 2 of FilterEvents is met. -/
theorem witness_FilterEvents_2 :
    ∃ (s : State) (p : Fin 64) (lower : Bool),
      ((if lower = true then s.filt.lowerOf p.val else s.filt.upperOf p.val).enable = false ∨ s.path.rxMask.getLsbD p = false) :=
  ⟨up, 63, true, by exact Or.inl rfl⟩

/-- Clause 3 of FilterEvents is met. -/
theorem witness_FilterEvents_3 :
    ∃ (s : State) (p : Fin 64),
      (s.filt.upperOf p.val).enable = true ∧
      s.path.rxMask.getLsbD p = true ∧
      (s.filt.upperOf p.val).asserted = false ∧
      (s.filt.upperOf p.val).event = false :=
  ⟨{ up with path := { up.path with rxMask := BitVec.allOnes 64 }, filt := { up.filt with upper := [(63, { level := -60, enable := true })] } }, 63, by decide +kernel⟩

/-- Clause 4 of FilterEvents is met. -/
theorem witness_FilterEvents_4 :
    ∃ (s : State) (t : Nat) (a : Nat) (p : Fin 64),
      (s.filt.lowerOf p.val).enable = true ∧
      s.path.rxMask.getLsbD p = true ∧
      (s.filt.lowerOf p.val).asserted = false ∧
      (s.filt.lowerOf p.val).event = true ∧
      (s.filt.lowerOf p.val).eventAt = some a ∧
      max s.now t < a + (s.filt.lowerOf p.val).holdoffMs * 384000000 :=
  ⟨{ up with path := { up.path with rxMask := BitVec.allOnes 64 }, filt := { up.filt with lower := [(63, { level := -60, enable := true, event := true, eventAt := some 0 })] } }, 5, 0, 63, by decide +kernel⟩

/-- Clause 5 of FilterEvents is met. -/
theorem witness_FilterEvents_5 :
    ∃ (s : State) (p : Fin 64),
      (s.filt.upperOf p.val).enable = true ∧
      s.path.rxMask.getLsbD p = true ∧
      (s.filt.upperOf p.val).asserted = true ∧
      (s.filt.upperOf p.val).event = true ∧
      (s.filt.upperOf p.val).eventAt = none ∧
      s.role = .standalone :=
  ⟨{ up with path := { up.path with rxMask := BitVec.allOnes 64 }, filt := { up.filt with upper := [(63, { level := -60, enable := true, asserted := true, event := true })] } }, 63, by decide +kernel⟩

/-- Clause 2 of ConvergentRounding is met. -/
theorem witness_ConvergentRounding_2 :
    ∃ (d : Nat),
      0 < d :=
  ⟨2, by decide +kernel⟩

/-- Clause 3 of ConvergentRounding is met. -/
theorem witness_ConvergentRounding_3 :
    ∃ (w : Nat),
      1 < w :=
  ⟨16, by decide +kernel⟩

/-- Clause 1 of BeamStaging is met. -/
theorem witness_BeamStaging_1 :
    ∃ (s : State) (r : Running),
      Runs s r specBeamSetGeometry ∧
      u16 r.cmd.payload 0 = 1 ∧
      u8 r.cmd.payload 2 = 0 ∧
      u8 r.cmd.payload 8 = 0 ∧
      u8 r.cmd.payload 9 ≤ 63 ∧
      s.role = .standalone :=
  ⟨asked up (ask 0x0401 (le 2 1 ++ zeros 6 ++ [0#8, 63#8, 0#8, 0#8] ++ le 4 0xFFFFFFFF ++ le 4 1 ++ le 4 2)), ask 0x0401 (le 2 1 ++ zeros 6 ++ [0#8, 63#8, 0#8, 0#8] ++ le 4 0xFFFFFFFF ++ le 4 1 ++ le 4 2), by decide +kernel⟩

/-- Clause 2 of BeamStaging is met. -/
theorem witness_BeamStaging_2 :
    ∃ (s : State) (r : Running),
      Runs s r specBeamSetGrid ∧
      u16 r.cmd.payload 0 ≤ 255 ∧
      u16 r.cmd.payload 2 = 1 ∧
      (u32 r.cmd.payload 4 = 0 ∨ (380000 ≤ u32 r.cmd.payload 4 ∧ u32 r.cmd.payload 4 ≤ 2700000)) ∧
      -18000 ≤ s16 r.cmd.payload 8 ∧
      s16 r.cmd.payload 8 ≤ 18000 ∧
      -9000 ≤ s16 r.cmd.payload 10 ∧
      s16 r.cmd.payload 10 ≤ 9000 :=
  ⟨asked { up with beam := { up.beam with geometry := [(0, (0, 0, 0))] } } (ask 0x0402 (le 2 255 ++ le 2 1 ++ le 4 2700000 ++ le 2 18000 ++ le 2 9000)), ask 0x0402 (le 2 255 ++ le 2 1 ++ le 4 2700000 ++ le 2 18000 ++ le 2 9000), by decide +kernel⟩

/-- Clause 3 of BeamStaging is met. -/
theorem witness_BeamStaging_3 :
    ∃ (s : State) (r : Running),
      Runs s r specBeamSetRxSource ∧
      u16 r.cmd.payload 0 = 1 ∧
      rxSourceOk r.cmd.payload 8 = true ∧
      s.beam.geometry ≠ [] ∧
      s.beam.host = none :=
  ⟨asked { up with beam := { up.beam with geometry := [(0, (0, 0, 0))] } } (ask 0x0403 (le 2 1 ++ zeros 6 ++ [63#8, 4#8, 255#8, 0#8, 1#8, 8#8, 0#8, 0#8] ++ zeros 8)), ask 0x0403 (le 2 1 ++ zeros 6 ++ [63#8, 4#8, 255#8, 0#8, 1#8, 8#8, 0#8, 0#8] ++ zeros 8), by decide +kernel⟩

/-- Clause 4 of BeamStaging is met. -/
theorem witness_BeamStaging_4 :
    ∃ (s : State) (r : Running) (h : BeamSwap),
      Runs s r specBeamSetRxSource ∧
      u16 r.cmd.payload 0 = 1 ∧
      rxSourceOk r.cmd.payload 8 = true ∧
      s.beam.geometry ≠ [] ∧
      s.beam.host = some h ∧
      h.instant ≤ s.now + 20 * 384000 :=
  ⟨asked { up with beam := { up.beam with geometry := [(0, (0, 0, 0))], host := some { instant := 7680000, scheduled := true, cause := 1 } } } (ask 0x0403 (le 2 1 ++ zeros 6 ++ [63#8, 4#8, 255#8, 0#8, 1#8, 8#8, 0#8, 0#8] ++ zeros 8)), ask 0x0403 (le 2 1 ++ zeros 6 ++ [63#8, 4#8, 255#8, 0#8, 1#8, 8#8, 0#8, 0#8] ++ zeros 8), { instant := 7680000, scheduled := true, cause := 1 }, by decide +kernel⟩

/-- Clause 5 of BeamStaging is met. -/
theorem witness_BeamStaging_5 :
    ∃ (s : State) (r : Running),
      Runs s r specBeamSetRxSource ∧
      u16 r.cmd.payload 0 = 1 ∧
      rxSourceOk r.cmd.payload 8 = true ∧
      u8 r.cmd.payload 9 = 1 ∧
      s.beam.geometry = [] :=
  ⟨asked up (ask 0x0403 (le 2 1 ++ zeros 6 ++ [63#8, 1#8, 255#8, 0#8, 1#8, 8#8, 0#8, 0#8] ++ zeros 8)), ask 0x0403 (le 2 1 ++ zeros 6 ++ [63#8, 1#8, 255#8, 0#8, 1#8, 8#8, 0#8, 0#8] ++ zeros 8), by decide +kernel⟩

/-- Clause 6 of BeamStaging is met. -/
theorem witness_BeamStaging_6 :
    ∃ (s : State) (r : Running),
      Runs s r specBeamLoadBank ∧
      u8 r.cmd.payload 0 ≤ 63 ∧
      u8 r.cmd.payload 1 = 1 ∧
      (s.defAtSwap (u8 r.cmd.payload 0)).source = .explicit ∧
      s.hostFrozen = false :=
  ⟨asked { up with beam := { up.beam with beams := [(63, { source := .explicit })] } } (ask 0x0404 ([63#8, 1#8] ++ zeros 6 ++ zeros 256)), ask 0x0404 ([63#8, 1#8] ++ zeros 6 ++ zeros 256), by decide +kernel⟩

/-- Clause 7 of BeamStaging is met. -/
theorem witness_BeamStaging_7 :
    ∃ (s : State) (r : Running),
      Runs s r specBeamLoadBank ∧
      u8 r.cmd.payload 0 ≤ 63 ∧
      u8 r.cmd.payload 1 = 1 ∧
      (s.defAtSwap (u8 r.cmd.payload 0)).source ≠ .explicit :=
  ⟨asked up (ask 0x0404 ([63#8, 1#8] ++ zeros 6 ++ zeros 256)), ask 0x0404 ([63#8, 1#8] ++ zeros 6 ++ zeros 256), by decide +kernel⟩

/-- Clause 8 of BeamStaging is met. -/
theorem witness_BeamStaging_8 :
    ∃ (s : State) (r : Running),
      Runs s r specBeamSetScale ∧
      u8 r.cmd.payload 0 ≤ 8 :=
  ⟨asked up (ask 0x0407 [8#8, 0#8, 0#8, 0#8]), ask 0x0407 [8#8, 0#8, 0#8, 0#8], by decide +kernel⟩

/-- Clause 9 of BeamStaging is met. -/
theorem witness_BeamStaging_9 :
    ∃ (s : State) (r : Running),
      Runs s r specBeamSetAdaptive ∧
      10 ≤ u16 r.cmd.payload 0 ∧
      u16 r.cmd.payload 0 ≤ 10000 ∧
      12 ≤ u8 r.cmd.payload 2 ∧
      u8 r.cmd.payload 2 ≤ 20 ∧
      -40 ≤ s8 r.cmd.payload 3 ∧
      s8 r.cmd.payload 3 ≤ 0 ∧
      1 ≤ u32 r.cmd.payload 4 ∧
      u32 r.cmd.payload 4 ≤ 600000 :=
  ⟨asked up (ask 0x0406 (le 2 10000 ++ [20#8, 0xD8#8] ++ le 4 600000)), ask 0x0406 (le 2 10000 ++ [20#8, 0xD8#8] ++ le 4 600000), by decide +kernel⟩

/-- Clause 10 of BeamStaging is met. -/
theorem witness_BeamStaging_10 :
    ∃ (s : State) (r : Running),
      Runs s r specBeamGetStatus :=
  ⟨asked up (ask 0x040A []), ask 0x040A [], by decide +kernel⟩

/-- Clause 1 of BeamSwaps is met. -/
theorem witness_BeamSwaps_1 :
    ∃ (s : State) (r : Running),
      Runs s r specBeamSwap ∧
      u8 r.cmd.payload 0 % 4 < 2 ∧
      (u8 r.cmd.payload 0 % 2 = 1 ∨ s.time.state ≠ .invalid) ∧
      s.beam.host = none :=
  ⟨asked { up with time := { up.time with state := .valid } } (ask 0x0405 (zeros 8 ++ le 4 1 ++ le 4 0)), ask 0x0405 (zeros 8 ++ le 4 1 ++ le 4 0), by decide +kernel⟩

/-- Clause 2 of BeamSwaps is met. -/
theorem witness_BeamSwaps_2 :
    ∃ (s : State) (r : Running) (h : BeamSwap),
      Runs s r specBeamSwap ∧
      u8 r.cmd.payload 0 % 4 = 1 ∧
      s.beam.host = some h :=
  ⟨asked { up with beam := { up.beam with host := some { instant := 384000000, scheduled := true, cause := 1 } } } (ask 0x0405 (1#8 :: zeros 15)), ask 0x0405 (1#8 :: zeros 15), { instant := 384000000, scheduled := true, cause := 1 }, by decide +kernel⟩

/-- Clause 3 of BeamSwaps is met. -/
theorem witness_BeamSwaps_3 :
    ∃ (s : State) (r : Running) (h : BeamSwap),
      Runs s r specBeamSwap ∧
      u8 r.cmd.payload 0 % 4 = 2 ∧
      s.beam.host = some h ∧
      s.hostFrozen = false ∧
      h.cause = 1 :=
  ⟨asked { up with beam := { up.beam with host := some { instant := 384000000, scheduled := true, cause := 1 } } } (ask 0x0405 (2#8 :: zeros 15)), ask 0x0405 (2#8 :: zeros 15), { instant := 384000000, scheduled := true, cause := 1 }, by decide +kernel⟩

/-- Clause 4 of BeamSwaps is met. -/
theorem witness_BeamSwaps_4 :
    ∃ (s : State) (r : Running),
      Runs s r specBeamSwap ∧
      u8 r.cmd.payload 0 % 4 = 2 ∧
      (s.beam.host = none ∨ s.hostFrozen = true) :=
  ⟨asked up (ask 0x0405 (2#8 :: zeros 15)), ask 0x0405 (2#8 :: zeros 15), by decide +kernel⟩

/-- Clause 5 of BeamSwaps is met. -/
theorem witness_BeamSwaps_5 :
    ∃ (s : State) (h : BeamSwap),
      s.beam.host = some h ∧
      s.beam.internal = none ∧
      h.frozen = none ∧
      s.inCascade = false ∧
      20 * 384000 ≤ h.instant :=
  ⟨{ up with beam := { up.beam with host := some { instant := 384000000, scheduled := true, cause := 1 } } }, { instant := 384000000, scheduled := true, cause := 1 }, by decide +kernel⟩

/-- Clause 6 of BeamSwaps is met. -/
theorem witness_BeamSwaps_6 :
    ∃ (s : State) (h : BeamSwap),
      s.beam.host = some h ∧
      s.beam.internal = none ∧
      s.role = .standalone ∧
      s.beam.ownOnly = false :=
  ⟨{ up with beam := { up.beam with host := some { instant := 384000000, scheduled := true, cause := 1 } } }, { instant := 384000000, scheduled := true, cause := 1 }, by decide +kernel⟩

/-- Clause 7 of BeamSwaps is met. -/
theorem witness_BeamSwaps_7 :
    ∃ (s : State) (w : BeamSwap),
      s.beam.host = none ∧
      s.beam.internal = some w ∧
      s.role = .standalone ∧
      s.beam.ownOnly = false :=
  ⟨{ up with beam := { up.beam with internal := some { instant := 384000000, scheduled := false, cause := 8 } } }, { instant := 384000000, scheduled := false, cause := 8 }, by decide +kernel⟩

/-- Clause 8 of BeamSwaps is met. -/
theorem witness_BeamSwaps_8 :
    ∃ (s : State) (b : Nat),
      (s.beam.defOf b).source = .explicit :=
  ⟨{ up with beam := { up.beam with beams := [(63, { source := .explicit })] } }, 63, by decide +kernel⟩

/-- Clause 9 of BeamSwaps is met. -/
theorem witness_BeamSwaps_9 :
    ∃ (s : State) (t0 : Nat),
      s.beam.recomputing = some t0 :=
  ⟨{ up with beam := { up.beam with recomputing := some 0 } }, 0, by decide +kernel⟩

/-- Clause 11 of BeamSwaps is met. -/
theorem witness_BeamSwaps_11 :
    ∃ (s : State),
      s.beam.solving = true ∧
      s.role = .standalone :=
  ⟨{ up with beam := { up.beam with solving := true } }, by decide +kernel⟩

/-- Clause 12 of BeamSwaps is met. -/
theorem witness_BeamSwaps_12 :
    ∃ (s : State) (b : Nat) (w : List Cplx),
      s.beam.solving = true ∧
      s.beam.adaptive.contains b = true ∧
      w.length = 64 ∧
      (∀ c ∈ w, c.i.natAbs ≤ 32767 ∧ c.q.natAbs ≤ 32767) ∧
      s.beam.host = none ∧
      s.beam.internal = none :=
  ⟨{ up with beam := { up.beam with solving := true, beams := [(63, { source := .zf })] } }, 63, List.replicate 64 ⟨32767, -32767⟩, by decide +kernel⟩

/-- Clause 1 of SignatureCache is met. -/
theorem witness_SignatureCache_1 :
    ∃ (s : State) (r : Running),
      Runs s r specBeamSigPin ∧
      u8 r.cmd.payload 2 ≤ 1 ∧
      s.beam.matchesSig (u16 r.cmd.payload 0) = true ∧
      (u8 r.cmd.payload 2 = 1 ∨ s.beam.pinned < 256) :=
  ⟨asked { up with beam := { up.beam with sigs := [(4095, { gen := 15, valid := true })] } } (ask 0x0408 [0xFF#8, 0xFF#8, 0#8, 0#8]), ask 0x0408 [0xFF#8, 0xFF#8, 0#8, 0#8], by decide +kernel⟩

/-- Clause 2 of SignatureCache is met. -/
theorem witness_SignatureCache_2 :
    ∃ (s : State) (r : Running),
      Runs s r specBeamSigPin ∧
      u8 r.cmd.payload 2 = 0 ∧
      s.beam.matchesSig (u16 r.cmd.payload 0) = true ∧
      (s.beam.sig (u16 r.cmd.payload 0 % 4096)).pinned = false ∧
      256 ≤ s.beam.pinned :=
  ⟨asked { up with beam := { up.beam with sigs := (4095, { gen := 15, valid := true }) :: (List.range 256).map (fun k => (k, { pinned := true })) } } (ask 0x0408 [0xFF#8, 0xFF#8, 0#8, 0#8]), ask 0x0408 [0xFF#8, 0xFF#8, 0#8, 0#8], by decide +kernel⟩

/-- Clause 3 of SignatureCache is met. -/
theorem witness_SignatureCache_3 :
    ∃ (s : State) (r : Running),
      Runs s r specBeamSigPin ∧
      u8 r.cmd.payload 2 ≤ 1 ∧
      s.beam.matchesSig (u16 r.cmd.payload 0) = false :=
  ⟨asked up (ask 0x0408 (zeros 4)), ask 0x0408 (zeros 4), by decide +kernel⟩

/-- Clause 4 of SignatureCache is met. -/
theorem witness_SignatureCache_4 :
    ∃ (s : State) (r : Running),
      Runs s r specBeamSigRead ∧
      s.beam.matchesSig (u16 r.cmd.payload 0) = false :=
  ⟨asked up (ask 0x0409 (zeros 2)), ask 0x0409 (zeros 2), by decide +kernel⟩

/-- Clause 5 of SignatureCache is met. -/
theorem witness_SignatureCache_5 :
    ∃ (s : State) (r : Running),
      Runs s r specBeamSigRead ∧
      s.beam.matchesSig (u16 r.cmd.payload 0) = true :=
  ⟨asked { up with beam := { up.beam with sigs := [(4095, { gen := 15, valid := true })] } } (ask 0x0409 [0xFF#8, 0xFF#8]), ask 0x0409 [0xFF#8, 0xFF#8], by decide +kernel⟩

/-- Clause 6 of SignatureCache is met. -/
theorem witness_SignatureCache_6 :
    ∃ (u : BeamUnit) (h : Nat),
      u.matchesSig h = true :=
  ⟨{ sigs := [(4095, { gen := 15, valid := true })] }, 0xFFFF, by decide +kernel⟩

/-- Clause 7 of SignatureCache is met. -/
theorem witness_SignatureCache_7 :
    ∃ (s : State) (order : Nat) (i : Nat) (x : Ended),
      s.dmd.ended = [x] ∧
      x.order = order ∧
      x.status = 0 ∧
      x.handle = none ∧
      s.beam.nextIndex = some i :=
  ⟨{ up with dmd := { up.dmd with ended := [decoded] }, beam := { up.beam with lastSig := some 4095, sigs := [(0, { pinned := true })] } }, 9, 1, decoded, by decide +kernel⟩

/-- Clause 8 of SignatureCache is met. -/
theorem witness_SignatureCache_8 :
    ∃ (s : State) (i : Nat) (k : Nat),
      s.memoriesWf = true ∧
      k < 64 ∧
      s.path.rxMask.getLsbD k = false ∧
      i < 4096 :=
  ⟨up, 4095, 63, by decide +kernel⟩

/-- Clause 9 of SignatureCache is met. -/
theorem witness_SignatureCache_9 :
    ∃ (s : State) (p : Fin 64),
      s.path.rxMask.getLsbD p = true ∧
      s.spare.rxRetired.getLsbD p = false :=
  ⟨{ up with path := { up.path with rxMask := 0x8000000000000001#64 } }, 63, by decide +kernel⟩

/-- Clause 10 of SignatureCache is met. -/
theorem witness_SignatureCache_10 :
    ∃ (s : State) (p : Fin 64),
      s.path.rxMask.getLsbD p = false :=
  ⟨up, 63, by decide +kernel⟩

/-- Clause 1 of SpanOfFskModes is met. -/
theorem witness_SpanOfFskModes_1 :
    ∃ (p : Profile) (rs : Nat) (k : Nat),
      p.phy = 0 ∧
      (p.mode, rs, k) ∈ [(0, 2400, 1), (1, 4800, 1), (2, 9600, 1), (3, 19200, 1), (4, 50000, 1), (5, 100000, 1), (6, 150000, 1), (7, 200000, 1), (8, 300000, 1), (9, 100000, 3), (10, 150000, 3), (11, 200000, 3)] :=
  ⟨{ params := [11#8, 0#8, 33#8, 0#8] }, 200000, 3, by decide +kernel⟩

/-- Clause 1 of MergingAndArbitration is met. -/
theorem witness_MergingAndArbitration_1 :
    ∃ (s : State) (tm : Nat) (n : Nat) (l : List RawDetection) (a : List RawDetection) (h : RawDetection),
      (h, a) ∈ s.mergeHeads tm n l :=
  ⟨search, 384000, 5, [⟨0, 3, 40, 2000, 0, 384000⟩, ⟨0, 3, 42, 1900, 0, 768000⟩], [⟨0, 3, 42, 1900, 0, 768000⟩], ⟨0, 3, 40, 2000, 0, 384000⟩, by decide +kernel⟩

/-- Clause 3 of MergingAndArbitration is met. -/
theorem witness_MergingAndArbitration_3 :
    ∃ (s : State),
      s.dmd.contexts = [] :=
  ⟨up, by decide +kernel⟩

/-- Clause 4 of MergingAndArbitration is met. -/
theorem witness_MergingAndArbitration_4 :
    ∃ (s : State) (c : Candidate) (n : Nat) (x : Context),
      s.dmd.contexts = [(n, x)] ∧
      x.active = true ∧
      x.profileIx = c.profile ∧
      x.beam = c.beam ∧
      x.bin = c.bin :=
  ⟨{ search with dmd := { search.dmd with contexts := [(1023, { fresh with state := .payload, running := 8400 })] } }, cand, 1023, { fresh with state := .payload, running := 8400 }, by decide +kernel⟩

/-- Clause 5 of MergingAndArbitration is met. -/
theorem witness_MergingAndArbitration_5 :
    ∃ (s : State) (c : Candidate) (m : Nat) (n : Nat) (x : Context) (y : Context),
      s.dmd.contexts = [(m, x), (n, y)] ∧
      x.active = true ∧
      y.active = true ∧
      x.profileIx = c.profile ∧
      y.profileIx = c.profile ∧
      x.beam = c.beam ∧
      y.beam = c.beam ∧
      x.bin = c.bin ∧
      y.bin = c.bin :=
  ⟨{ search with dmd := { search.dmd with contexts := [(0, fresh), (1023, { fresh with running := 8401 })] } }, cand, 0, 1023, fresh, { fresh with running := 8401 }, by decide +kernel⟩

/-- Clause 6 of MergingAndArbitration is met. -/
theorem witness_MergingAndArbitration_6 :
    ∃ (busy : List Nat) (c : Nat),
      pickContext busy = some c :=
  ⟨List.range 1023, 1023, by decide +kernel⟩

/-- Clause 7 of MergingAndArbitration is met. -/
theorem witness_MergingAndArbitration_7 :
    ∃ (busy : List Nat),
      busy.Nodup :=
  ⟨List.range 5, by decide⟩

/-- Clause 1 of HorizonSearch is met. -/
theorem witness_HorizonSearch_1 :
    ∃ (s : State) (t : Nat),
      s.role = .standalone ∧
      s.hzn.ended = [] ∧
      s.boot.releasedAt + (s.hzn.epoch + 1) * 3840000 ≤ t :=
  ⟨search, 3840000, by decide +kernel⟩

/-- Clause 2 of HorizonSearch is met. -/
theorem witness_HorizonSearch_2 :
    ∃ (s : State) (t : Nat),
      t < s.boot.releasedAt + (s.hzn.epoch + 1) * 3840000 :=
  ⟨up, 3839999, by decide +kernel⟩

/-- Clause 3 of HorizonSearch is met. -/
theorem witness_HorizonSearch_3 :
    ∃ (s : State) (t : Nat) (d : RawDetection),
      s.role = .standalone ∧
      s.hzn.ended = [] ∧
      s.hzn.held = [] ∧
      s.hzn.suspended = none ∧
      s.hzn.waiting = [] ∧
      s.receiving = true ∧
      s.radio.blanked = [] ∧
      s.radio.gapSince = none ∧
      s.tx.blanked = [] ∧
      s.tx.queue = [] ∧
      s.tx.tails = [] ∧
      s.detects d = true ∧
      (t - s.boot.releasedAt) / 3840000 = s.hzn.epoch + 1 :=
  ⟨search, 7679999, ⟨0, 63, 350, 1500, 0, 384000⟩, by decide +kernel⟩

/-- Clause 4 of HorizonSearch is met. -/
theorem witness_HorizonSearch_4 :
    ∃ (s : State) (t : Nat),
      s.role = .standalone ∧
      s.hzn.ended = [] ∧
      s.hzn.suspended = none ∧
      s.dmd.contexts = [] ∧
      s.receiving = true ∧
      s.radio.blanked = [] ∧
      s.radio.gapSince = none ∧
      s.tx.blanked = [] ∧
      s.tx.queue = [] ∧
      s.tx.tails = [] ∧
      s.path.flagged = [] ∧
      s.filt.flagged = [] ∧
      s.boot.releasedAt + (s.hzn.epoch + 1) * 3840000 ≤ t :=
  ⟨search, 3840000, by decide +kernel⟩

/-- Clause 5 of HorizonSearch is met. -/
theorem witness_HorizonSearch_5 :
    ∃ (s : State) (t : Nat) (n : Nat) (x : Profile),
      s.role = .standalone ∧
      s.hzn.ended = [] ∧
      s.hzn.held = [] ∧
      s.hzn.waiting = [(n, x)] ∧
      s.boot.releasedAt + (s.hzn.epoch + 1) * 3840000 ≤ t :=
  ⟨{ search with hzn := { search.hzn with waiting := [(7, { enable := true })] } }, 3840000, 7, { enable := true }, by decide +kernel⟩

/-- Clause 6 of HorizonSearch is met. -/
theorem witness_HorizonSearch_6 :
    ∃ (s : State) (c : Candidate),
      s.role = .standalone ∧
      s.hzn.ended = [c] ∧
      s.dmd.contexts = [] ∧
      s.hzn.mapBusy = [] ∧
      s.hzn.applying = [] ∧
      s.dmd.applying = [] ∧
      s.hzn.noContextSince = [] :=
  ⟨{ search with hzn := { search.hzn with ended := [cand] } }, cand, by decide +kernel⟩

/-- Clause 7 of HorizonSearch is met. -/
theorem witness_HorizonSearch_7 :
    ∃ (s : State) (c : Candidate),
      s.role = .standalone ∧
      s.hzn.ended = [c] ∧
      s.dmd.contexts = [] ∧
      pickContext s.hzn.mapBusy = none ∧
      s.hzn.applying = [] ∧
      s.dmd.applying = [] :=
  ⟨{ search with hzn := { search.hzn with ended := [cand], mapBusy := List.range 1024 } }, cand, by decide +kernel⟩

/-- Clause 8 of HorizonSearch is met. -/
theorem witness_HorizonSearch_8 :
    ∃ (s : State) (c : Candidate) (n : Nat),
      s.role = .standalone ∧
      s.hzn.ended = [c] ∧
      s.classify c = .capture n ∧
      s.hzn.applying = [] ∧
      s.dmd.applying = [] ∧
      s.hzn.noContextSince = [] ∧
      s.dmd.contexts.map (fun p => p.1) = [n] :=
  ⟨{ search with hzn := { search.hzn with ended := [cand] }, dmd := { search.dmd with contexts := [(1023, { fresh with state := .payload })] } }, cand, 1023, by decide +kernel⟩

/-- Clause 9 of HorizonSearch is met. -/
theorem witness_HorizonSearch_9 :
    ∃ (s : State),
      s.hzn.ended = [] :=
  ⟨up, by rfl⟩

/-- Clause 10 of HorizonSearch is met. -/
theorem witness_HorizonSearch_10 :
    ∃ (s : State),
      s.hzn.suspended = some 0 :=
  ⟨{ search with hzn := { search.hzn with suspended := some 0 } }, by decide +kernel⟩

/-- Clause 11 of HorizonSearch is met. -/
theorem witness_HorizonSearch_11 :
    ∃ (s : State) (i : Nat) (sum : Nat) (n : Nat),
      s.hzn.suspended = some 0 ∧
      s.hzn.suspendSum = [(i, (n * sum, n))] ∧
      0 < n :=
  ⟨{ search with hzn := { search.hzn with suspended := some 0, suspendSum := [(24575, (64 * 7, 64))] } }, 24575, 7, 64, by decide +kernel⟩

/-- Clause 1 of HorizonCommands is met. -/
theorem witness_HorizonCommands_1 :
    ∃ (s : State) (r : Running),
      Runs s r specHznSetProfile ∧
      profileRanges r.cmd.payload = true ∧
      modeOk (parseProfile r.cmd.payload) = true ∧
      binMaskOk (parseProfile r.cmd.payload) = true ∧
      (u8 r.cmd.payload 1 = 1 → s.bankFor (u8 r.cmd.payload 0) = true) :=
  ⟨asked up (ask 0x0501 (profilePayload 0x2C [2#8])), ask 0x0501 (profilePayload 0x2C [2#8]), by decide +kernel⟩

/-- Clause 3 of HorizonCommands is met. -/
theorem witness_HorizonCommands_3 :
    ∃ (s : State) (r : Running),
      Runs s r specHznSetProfile ∧
      profileRanges r.cmd.payload = true ∧
      u8 r.cmd.payload 2 = 1 ∧
      u8 r.cmd.payload 0x12 = 1 ∧
      (u8 r.cmd.payload 0x10 = 0 ∨ u8 r.cmd.payload 0x11 % 2 = 1 ∨ u8 r.cmd.payload 0x11 / 2 % 2 = 1) :=
  ⟨asked up (ask 0x0501 (profilePayload 2 [1#8] |> put 0x10 [1#8, 0xE#8, 1#8])), ask 0x0501 (profilePayload 2 [1#8] |> put 0x10 [1#8, 0xE#8, 1#8]), by decide +kernel⟩

/-- Clause 4 of HorizonCommands is met. -/
theorem witness_HorizonCommands_4 :
    ∃ (s : State) (r : Running) (k : Fin 384),
      Runs s r specHznSetProfile ∧
      profileRanges r.cmd.payload = true ∧
      modeOk (parseProfile r.cmd.payload) = true ∧
      (parseProfile r.cmd.payload).binMask.getLsbD k = true ∧
      (k.val < 32 + (parseProfile r.cmd.payload).half ∨ 351 - (parseProfile r.cmd.payload).half < k.val) :=
  ⟨asked up (ask 0x0501 (profilePayload 0x2C [1#8])), ask 0x0501 (profilePayload 0x2C [1#8]), 32, by decide +kernel⟩

/-- Clause 5 of HorizonCommands is met. -/
theorem witness_HorizonCommands_5 :
    ∃ (s : State) (r : Running),
      Runs s r specHznSetProfile ∧
      profileRanges r.cmd.payload = true ∧
      modeOk (parseProfile r.cmd.payload) = true ∧
      binMaskOk (parseProfile r.cmd.payload) = true ∧
      u8 r.cmd.payload 1 = 1 ∧
      s.spare.banks = [] ∧
      s.spare.bankOf = [] :=
  ⟨asked { up with spare := { up.spare with banks := [] } } (ask 0x0501 (profilePayload 0x2C [2#8])), ask 0x0501 (profilePayload 0x2C [2#8]), by decide +kernel⟩

/-- Clause 6 of HorizonCommands is met. -/
theorem witness_HorizonCommands_6 :
    ∃ (s : State) (r : Running),
      Runs s r specHznSetNoise ∧
      6 ≤ u8 r.cmd.payload 0 ∧
      u8 r.cmd.payload 0 ≤ 14 :=
  ⟨asked up (ask 0x0502 [14#8, 0#8, 0#8, 0#8]), ask 0x0502 [14#8, 0#8, 0#8, 0#8], by decide +kernel⟩

/-- Clause 7 of HorizonCommands is met. -/
theorem witness_HorizonCommands_7 :
    ∃ (s : State) (r : Running),
      Runs s r specHznReadNoise ∧
      u8 r.cmd.payload 0 ≤ 63 :=
  ⟨asked { up with beam := { up.beam with beams := [(63, { source := .grid })] }, hzn := { up.hzn with noise := [(384 * 63 + 351, 5000)] } } (ask 0x0503 [63#8]), ask 0x0503 [63#8], by decide +kernel⟩

/-- Clause 8 of HorizonCommands is met. -/
theorem witness_HorizonCommands_8 :
    ∃ (s : State) (r : Running),
      Runs s r specHznGetStatus :=
  ⟨asked up (ask 0x0504 []), ask 0x0504 [], by decide +kernel⟩

/-- Clause 9 of HorizonCommands is met. -/
theorem witness_HorizonCommands_9 :
    ∃ (s : State) (r : Running),
      Runs s r specHznGetCounters :=
  ⟨asked up (ask 0x0505 [1#8]), ask 0x0505 [1#8], by decide +kernel⟩

/-- Clause 1 of ReceptionLife is met. -/
theorem witness_ReceptionLife_1 :
    ∃ (s : State) (c : Fin 1024) (g : Grant),
      s.hzn.grants = [g] ∧
      g.context = c ∧
      g.handoff = false :=
  ⟨{ search with hzn := { search.hzn with grants := [granted 1023 false] } }, 1023, granted 1023 false, by decide +kernel⟩

/-- Clause 3 of ReceptionLife is met. -/
theorem witness_ReceptionLife_3 :
    ∃ (s : State) (c : Fin 1024) (g : Grant) (x : Context),
      s.hzn.grants = [g] ∧
      g.context = c ∧
      g.handoff = true ∧
      s.context c = some x ∧
      x.state = .payload :=
  ⟨{ receiving { fresh with state := .payload } with hzn := { search.hzn with grants := [granted 1023 true] } }, 1023, granted 1023 true, { fresh with state := .payload }, by decide +kernel⟩

/-- Clause 4 of ReceptionLife is met. -/
theorem witness_ReceptionLife_4 :
    ∃ (s : State) (c : Fin 1024) (g : Grant) (x : Context),
      s.hzn.grants = [g] ∧
      g.context = c ∧
      g.handoff = true ∧
      s.context c = some x ∧
      (x.state = .sync ∨ x.state = .header) :=
  ⟨{ receiving fresh with hzn := { search.hzn with grants := [granted 1023 true] } }, 1023, granted 1023 true, fresh, by decide +kernel⟩

/-- Clause 5 of ReceptionLife is met. -/
theorem witness_ReceptionLife_5 :
    ∃ (s : State) (c : Fin 1024) (x : Context),
      s.context c = some x ∧
      x.state = .ended :=
  ⟨receiving { fresh with state := .ended }, 1023, { fresh with state := .ended }, by decide +kernel⟩

/-- Clause 6 of ReceptionLife is met. -/
theorem witness_ReceptionLife_6 :
    ∃ (s : State) (c : Fin 1024) (x : Context),
      s.context c = some x ∧
      x.state ≠ .ended :=
  ⟨receiving fresh, 1023, fresh, by decide +kernel⟩

/-- Clause 7 of ReceptionLife is met. -/
theorem witness_ReceptionLife_7 :
    ∃ (s : State) (t : Nat) (c : Fin 1024) (x : Context),
      s.context c = some x ∧
      x.state = .sync ∧
      x.profile.phy = 0 ∧
      x.time ≤ t ∧
      t ≤ x.time + x.control.sfdWindow * x.profile.mergeTime :=
  ⟨receiving fresh, 1966464000, 1023, fresh, by decide +kernel⟩

/-- Clause 8 of ReceptionLife is met. -/
theorem witness_ReceptionLife_8 :
    ∃ (s : State) (t : Nat) (c : Fin 1024) (x : Context),
      s.context c = some x ∧
      x.state = .sync ∧
      x.profile.phy = 0 ∧
      x.time + (x.control.sfdWindow + 16) * x.profile.mergeTime ≤ t :=
  ⟨receiving fresh, 2089344000, 1023, fresh, by decide +kernel⟩

/-- Clause 9 of ReceptionLife is met. -/
theorem witness_ReceptionLife_9 :
    ∃ (s : State) (c : Fin 1024) (x : Context) (h : PhrInfo),
      s.context c = some x ∧
      x.state = .header ∧
      x.checkHeader h = .pass ∧
      s.dmd.contexts = [(c.val, x)] :=
  ⟨receiving { fresh with state := .header }, 1023, { fresh with state := .header }, phr, by decide +kernel⟩

/-- Clause 10 of ReceptionLife is met. -/
theorem witness_ReceptionLife_10 :
    ∃ (s : State) (c : Fin 1024) (x : Context) (h : PhrInfo),
      s.context c = some x ∧
      x.state = .header ∧
      x.profile.phy = 0 ∧
      h.decoded = true ∧
      h.modeSwitch = true :=
  ⟨receiving { fresh with state := .header }, 1023, { fresh with state := .header }, { phr with modeSwitch := true }, by decide +kernel⟩

/-- Clause 12 of ReceptionLife is met. -/
theorem witness_ReceptionLife_12 :
    ∃ (s : State) (a : Fin 1024) (c : Fin 1024) (x : Context) (y : Context) (h : PhrInfo),
      a ≠ c ∧
      s.dmd.contexts = [(a.val, y), (c.val, x)] ∧
      x.state = .header ∧
      y.state = .payload ∧
      x.checkHeader h = .pass ∧
      x.dual = true ∧
      y.profileIx = x.profileIx ∧
      y.beam = x.beam ∧
      y.bin = x.bin ∧
      y.toa = x.toa ∧
      y.claimEpoch < x.claimEpoch :=
  ⟨{ search with dmd := { search.dmd with contexts := [(0, { fresh with state := .payload, claimEpoch := 1 }), (1023, { fresh with state := .header, dual := true })] } }, 0, 1023, { fresh with state := .header, dual := true }, { fresh with state := .payload, claimEpoch := 1 }, phr, by decide +kernel⟩

/-- Clause 13 of ReceptionLife is met. -/
theorem witness_ReceptionLife_13 :
    ∃ (s : State) (c : Fin 1024) (x : Context),
      s.context c = some x ∧
      x.state = .payload :=
  ⟨receiving { fresh with state := .payload }, 1023, { fresh with state := .payload }, by decide +kernel⟩

/-- Clause 14 of ReceptionLife is met. -/
theorem witness_ReceptionLife_14 :
    ∃ (s : State) (t : Nat) (c : Fin 1024) (x : Context) (m : Int),
      s.context c = some x ∧
      x.state = .payload ∧
      x.payloadAt + x.control.lossSymbols * x.profile.mergeTime ≤ t ∧
      m < 10 * x.profile.threshold - 600 :=
  ⟨receiving { fresh with state := .payload, control := { report := 2#2 } }, 245760000, 1023, { fresh with state := .payload, control := { report := 2#2 } }, 899, by decide +kernel⟩

/-- Clause 15 of ReceptionLife is met. -/
theorem witness_ReceptionLife_15 :
    ∃ (s : State) (c : Fin 1024) (x : Context) (m : Int),
      s.context c = some x ∧
      10 * x.profile.threshold - 600 ≤ m :=
  ⟨receiving { fresh with state := .payload }, 1023, { fresh with state := .payload }, 900, by decide +kernel⟩

/-- Clause 1 of PacketRecords is met. -/
theorem witness_PacketRecords_1 :
    ∃ (e : Ended) (h : PhrInfo),
      e.ctx.phr = some h ∧
      h.length ≤ 2047 :=
  ⟨{ decoded with ctx := { fresh with phr := some phr } }, phr, by decide +kernel⟩

/-- Clause 2 of PacketRecords is met. -/
theorem witness_PacketRecords_2 :
    ∃ (st : Nat),
      st ≠ 0 :=
  ⟨3, by decide +kernel⟩

/-- Clause 4 of PacketRecords is met. -/
theorem witness_PacketRecords_4 :
    ∃ (s : State) (e : Ended) (b : BackEnd),
      s.dmd.ended = [e] ∧
      e.status = 0 ∧
      b.fcsOk = true :=
  ⟨{ up with dmd := { up.dmd with ended := [decoded] } }, decoded, back, by decide +kernel⟩

/-- Clause 5 of PacketRecords is met. -/
theorem witness_PacketRecords_5 :
    ∃ (s : State) (e : Ended) (b : BackEnd),
      s.dmd.ended = [e] ∧
      e.status = 0 ∧
      b.fcsOk = false :=
  ⟨{ up with dmd := { up.dmd with ended := [decoded] } }, decoded, { back with fcsOk := false }, by decide +kernel⟩

/-- Clause 6 of PacketRecords is met. -/
theorem witness_PacketRecords_6 :
    ∃ (s : State) (e : Ended),
      s.dmd.ended = [e] ∧
      e.status ≠ 0 :=
  ⟨{ up with dmd := { up.dmd with ended := [{ decoded with status := 3 }] } }, { decoded with status := 3 }, by decide +kernel⟩

/-- Clause 7 of PacketRecords is met. -/
theorem witness_PacketRecords_7 :
    ∃ (s : State),
      s.dmd.ended = [] :=
  ⟨up, by decide +kernel⟩

/-- Clause 1 of DemodulationCommands is met. -/
theorem witness_DemodulationCommands_1 :
    ∃ (s : State) (r : Running),
      Runs s r specDmdSetControl ∧
      u8 r.cmd.payload 0 ≤ 7 ∧
      16 ≤ u16 r.cmd.payload 2 ∧
      u16 r.cmd.payload 2 ≤ 8000 ∧
      (u8 r.cmd.payload 4 = 2 ∨ u8 r.cmd.payload 4 = 4) ∧
      8 ≤ u8 r.cmd.payload 5 :=
  ⟨asked up (ask 0x0601 ([7#8, 3#8] ++ le 2 8000 ++ [4#8, 8#8, 0#8, 0#8])), ask 0x0601 ([7#8, 3#8] ++ le 2 8000 ++ [4#8, 8#8, 0#8, 0#8]), by decide +kernel⟩

/-- Clause 2 of DemodulationCommands is met. -/
theorem witness_DemodulationCommands_2 :
    ∃ (s : State) (r : Running),
      Runs s r specDmdSetControl ∧
      (7 < u8 r.cmd.payload 0 ∨ u16 r.cmd.payload 2 < 16 ∨ 8000 < u16 r.cmd.payload 2 ∨ (u8 r.cmd.payload 4 ≠ 2 ∧ u8 r.cmd.payload 4 ≠ 4) ∨ u8 r.cmd.payload 5 < 8) :=
  ⟨asked up (ask 0x0601 ([7#8, 3#8] ++ le 2 8000 ++ [3#8, 8#8, 0#8, 0#8])), ask 0x0601 ([7#8, 3#8] ++ le 2 8000 ++ [3#8, 8#8, 0#8, 0#8]), by decide +kernel⟩

/-- Clause 3 of DemodulationCommands is met. -/
theorem witness_DemodulationCommands_3 :
    ∃ (s : State) (r : Running),
      Runs s r specDmdGetControl ∧
      u8 r.cmd.payload 0 ≤ 7 :=
  ⟨asked up (ask 0x0602 [7#8]), ask 0x0602 [7#8], by decide +kernel⟩

/-- Clause 4 of DemodulationCommands is met. -/
theorem witness_DemodulationCommands_4 :
    ∃ (s : State) (r : Running),
      Runs s r specDmdGetCounters :=
  ⟨asked up (ask 0x0603 [1#8]), ask 0x0603 [1#8], by decide +kernel⟩

/-- Clause 5 of DemodulationCommands is met. -/
theorem witness_DemodulationCommands_5 :
    ∃ (s : State) (r : Running),
      Runs s r specDmdGetContexts :=
  ⟨asked (receiving fresh) (ask 0x0604 []), ask 0x0604 [], by decide +kernel⟩

/-- Clause 2 of TransmitRequests is met. -/
theorem witness_TransmitRequests_2 :
    ∃ (s : State) (lo : Nat) (i : Nat) (b : Launch) (band : Subband),
      inPassband lo b.req = true ∧
      findSubband s.tx.bands lo b.req = .ok (i, band) :=
  ⟨ready, 915000000, 0, burst .queued, band, by exact ⟨by decide, rfl⟩⟩

/-- Clause 3 of TransmitRequests is met. -/
theorem witness_TransmitRequests_3 :
    ∃ (s : State) (lo : Nat) (c : Nat) (b : Launch),
      inPassband lo b.req = true ∧
      findSubband s.tx.bands lo b.req = .error c :=
  ⟨ready, 900000000, 0x10, { burst .queued with req := { request with centre := 899000000 } }, by exact ⟨by decide, rfl⟩⟩

/-- Clause 4 of TransmitRequests is met. -/
theorem witness_TransmitRequests_4 :
    ∃ (lo : Nat) (b : Launch),
      inPassband lo b.req = false :=
  ⟨915000000, { burst .queued with req := { request with centre := 935000000 } }, by decide +kernel⟩

/-- Clause 5 of TransmitRequests is met. -/
theorem witness_TransmitRequests_5 :
    ∃ (bands : List Subband) (lo : Nat) (i : Nat) (q : TxRequest) (x : Subband),
      findSubband bands lo q = .ok (i, x) :=
  ⟨[{ band with loHighKHz := 1 }, band], 915000000, 1, request, band, by rfl⟩

/-- Clause 6 of TransmitRequests is met. -/
theorem witness_TransmitRequests_6 :
    ∃ (bands : List Subband) (lo : Nat) (c : Nat) (q : TxRequest),
      findSubband bands lo q = .error c :=
  ⟨[{ band with loHighKHz := 1 }], 915000000, 0x11, request, by rfl⟩

/-- Clause 7 of TransmitRequests is met. -/
theorem witness_TransmitRequests_7 :
    ∃ (s : State) (r : Running) (q : TxRequest) (b : Launch),
      Runs s r specTxSubmit ∧
      s.role = .standalone ∧
      parseRequest false 1 r.cmd.payload = some q ∧
      s.admissionChecks (s.candidateLaunch q .mailbox) r.reached = (none, b) :=
  ⟨asked ready (ask 0x0701 (requestPayload 0 [7#8])), ask 0x0701 (requestPayload 0 [7#8]), asParsed, ((asked ready (ask 0x0701 (requestPayload 0 [7#8]))).admissionChecks ((asked ready (ask 0x0701 (requestPayload 0 [7#8]))).candidateLaunch asParsed .mailbox) 0).2, by decide +kernel⟩

/-- Clause 8 of TransmitRequests is met. -/
theorem witness_TransmitRequests_8 :
    ∃ (s : State) (r : Running) (q : TxRequest) (b : Launch) (v : Nat × Nat),
      Runs s r specTxSubmit ∧
      s.role = .standalone ∧
      parseRequest false 1 r.cmd.payload = some q ∧
      s.admissionChecks (s.candidateLaunch q .mailbox) r.reached = (some v, b) :=
  ⟨asked up (ask 0x0701 (requestPayload 0 [7#8])), ask 0x0701 (requestPayload 0 [7#8]), asParsed, (asked up (ask 0x0701 (requestPayload 0 [7#8]))).candidateLaunch asParsed .mailbox, (6, 0x50), by decide +kernel⟩

/-- Clause 9 of TransmitRequests is met. -/
theorem witness_TransmitRequests_9 :
    ∃ (s : State) (r : Running),
      Runs s r specTxSubmit ∧
      s.role = .standalone ∧
      parseRequest false 1 r.cmd.payload = none :=
  ⟨asked up (ask 0x0701 (requestPayload 0x22 [5#8] ++ zeros 64)), ask 0x0701 (requestPayload 0x22 [5#8] ++ zeros 64), by decide +kernel⟩

/-- Clause 10 of TransmitRequests is met. -/
theorem witness_TransmitRequests_10 :
    ∃ (s : State) (r : Running) (b : Launch),
      Runs s r specTxCancel ∧
      s.tx.queue = [b] ∧
      b.req.id = u32 r.cmd.payload 0 ∧
      b.phase = .queued ∧
      s.role = .standalone :=
  ⟨asked (queued .queued) (ask 0x0702 (le 4 7 ++ zeros 4)), ask 0x0702 (le 4 7 ++ zeros 4), burst .queued, by decide +kernel⟩

/-- Clause 11 of TransmitRequests is met. -/
theorem witness_TransmitRequests_11 :
    ∃ (s : State) (r : Running) (b : Launch),
      Runs s r specTxCancel ∧
      s.tx.queue = [b] ∧
      b.req.id = u32 r.cmd.payload 0 ∧
      b.phase ≠ .queued :=
  ⟨asked (queued .prepared) (ask 0x0702 (le 4 7 ++ zeros 4)), ask 0x0702 (le 4 7 ++ zeros 4), burst .prepared, by decide +kernel⟩

/-- Clause 12 of TransmitRequests is met. -/
theorem witness_TransmitRequests_12 :
    ∃ (s : State) (r : Running),
      Runs s r specTxCancel ∧
      s.tx.queue = [] :=
  ⟨asked up (ask 0x0702 (zeros 8)), ask 0x0702 (zeros 8), by decide +kernel⟩

/-- Clause 13 of TransmitRequests is met. -/
theorem witness_TransmitRequests_13 :
    ∃ (s : State) (r : Running),
      Runs s r specTxSetRamp ∧
      5 ≤ u16 r.cmd.payload 0 ∧
      u16 r.cmd.payload 0 ≤ 320 ∧
      u8 r.cmd.payload 2 ≤ 1 :=
  ⟨asked up (ask 0x0703 (le 2 320 ++ [1#8] ++ zeros 5 ++ List.replicate 128 0xFF#8)), ask 0x0703 (le 2 320 ++ [1#8] ++ zeros 5 ++ List.replicate 128 0xFF#8), by decide +kernel⟩

/-- Clause 14 of TransmitRequests is met. -/
theorem witness_TransmitRequests_14 :
    ∃ (s : State) (r : Running),
      Runs s r specTxSetRamp ∧
      (u16 r.cmd.payload 0 < 5 ∨ 320 < u16 r.cmd.payload 0) :=
  ⟨asked up (ask 0x0703 (le 2 4 ++ zeros 6)), ask 0x0703 (le 2 4 ++ zeros 6), by decide +kernel⟩

/-- Clause 15 of TransmitRequests is met. -/
theorem witness_TransmitRequests_15 :
    ∃ (s : State) (r : Running),
      Runs s r specTxSetCoex ∧
      u8 r.cmd.payload 0 ≤ 1 ∧
      u8 r.cmd.payload 1 ≤ 1 ∧
      u16 r.cmd.payload 2 ≤ 500 ∧
      u16 r.cmd.payload 4 ≤ 1000 :=
  ⟨asked up (ask 0x0704 ([0#8, 1#8] ++ le 2 500 ++ le 2 1000 ++ zeros 2)), ask 0x0704 ([0#8, 1#8] ++ le 2 500 ++ le 2 1000 ++ zeros 2), by decide +kernel⟩

/-- Clause 16 of TransmitRequests is met. -/
theorem witness_TransmitRequests_16 :
    ∃ (s : State) (r : Running),
      Runs s r specTxGetStatus :=
  ⟨asked up (ask 0x0705 [1#8]), ask 0x0705 [1#8], by decide +kernel⟩

/-- Clause 18 of TransmitRequests is met. -/
theorem witness_TransmitRequests_18 :
    ∃ (s : State) (r : Running) (p : List Byte),
      Runs s r specTxRegRead ∧
      s.nv.regRecord = some p ∧
      s.fuses.sealBit = true :=
  ⟨asked { up with nv := { up.nv with regRecord := some [1#8, 2#8] }, fuses := { up.fuses with sealBit := true } } (ask 0x0706 []), ask 0x0706 [], [1#8, 2#8], by decide +kernel⟩

/-- Clause 19 of TransmitRequests is met. -/
theorem witness_TransmitRequests_19 :
    ∃ (s : State) (r : Running),
      Runs s r specTxRegRead ∧
      s.fuses.sealBit = false :=
  ⟨asked up (ask 0x0706 []), ask 0x0706 [], by decide +kernel⟩

/-- Clause 20 of TransmitRequests is met. -/
theorem witness_TransmitRequests_20 :
    ∃ (s : State) (r : Running),
      Runs s r specTxRegSupersede ∧
      r.cmd.payload.length = 608 :=
  ⟨asked up { ask 0x0707 (zeros 608) with cmd := { (ask 0x0707 (zeros 608)).cmd with target := 0xFFFF } }, { ask 0x0707 (zeros 608) with cmd := { (ask 0x0707 (zeros 608)).cmd with target := 0xFFFF } }, by decide +kernel⟩

/-- Clause 1 of LaunchSequence is met. -/
theorem witness_LaunchSequence_1 :
    ∃ (s : State) (b : Launch) (c : Launch),
      s.tx.queue = [b] ∧
      b.phase = .queued ∧
      s.role = .standalone ∧
      ({ s with now := max s.now (s.launchAt b - 57600000) } : State).launchChecks (({ s with now := max s.now (s.launchAt b - 57600000) } : State).loAt (s.launchAt b)) true b = (none, c) ∧
      s.beam.txUse = 0#16 ∧
      b.req.beams.length ≤ 4 :=
  ⟨queued .queued, burst .queued, (({ queued .queued with now := max (queued .queued).now ((queued .queued).launchAt (burst .queued) - 57600000) } : State).launchChecks 915000000 true (burst .queued)).2, by decide +kernel⟩

/-- Clause 2 of LaunchSequence is met. -/
theorem witness_LaunchSequence_2 :
    ∃ (s : State) (b : Launch) (c : Launch) (v : Nat × Nat),
      s.tx.queue = [b] ∧
      b.phase = .queued ∧
      s.role = .standalone ∧
      ({ s with now := max s.now (s.launchAt b - 57600000) } : State).launchChecks (({ s with now := max s.now (s.launchAt b - 57600000) } : State).loAt (s.launchAt b)) true b = (some v, c) :=
  ⟨{ queued .queued with tx := { (queued .queued).tx with record := none } }, burst .queued, { burst .queued with subband := 0xFF }, (2, 0x10), by decide +kernel⟩

/-- Clause 3 of LaunchSequence is met. -/
theorem witness_LaunchSequence_3 :
    ∃ (s : State) (b : Launch),
      s.tx.queue = [b] ∧
      b.coexOn = false ∧
      s.role = .standalone ∧
      s.tx.coexEnable = true :=
  ⟨queued .queued, burst .queued, by decide +kernel⟩

/-- Clause 4 of LaunchSequence is met. -/
theorem witness_LaunchSequence_4 :
    ∃ (s : State) (b : Launch),
      s.tx.queue = [b] ∧
      b.phase.committed = false ∧
      s.now ≤ s.launchAt b - 23 * 384000 :=
  ⟨queued .queued, burst .queued, by decide +kernel⟩

/-- Clause 5 of LaunchSequence is met. -/
theorem witness_LaunchSequence_5 :
    ∃ (s : State) (b : Launch),
      s.tx.queue = [b] ∧
      b.phase.committed = false ∧
      s.now ≤ s.launchAt b - 20 * 384000 ∧
      s.radio.base ≠ .standby :=
  ⟨queued .queued, burst .queued, by decide +kernel⟩

/-- Clause 6 of LaunchSequence is met. -/
theorem witness_LaunchSequence_6 :
    ∃ (s : State) (b : Launch),
      s.tx.queue = [b] ∧
      b.phase = .prepared ∧
      s.launchReady = true ∧
      s.radio.readySince ≤ s.launchAt b - 12 * 384000 ∧
      s.halo.slots = [] :=
  ⟨queued .prepared, burst .prepared, by decide +kernel⟩

/-- Clause 7 of LaunchSequence is met. -/
theorem witness_LaunchSequence_7 :
    ∃ (s : State) (t : Nat) (b : Launch),
      s.tx.queue = [b] ∧
      b.phase = .prepared ∧
      s.launchReady = false ∧
      s.role = .standalone ∧
      s.launchAt b - 12 * 384000 + b.req.tolUs * 384000 ≤ t :=
  ⟨{ queued .prepared with radio := {} }, 384000000, burst .prepared, by decide +kernel⟩

/-- Clause 8 of LaunchSequence is met. -/
theorem witness_LaunchSequence_8 :
    ∃ (s : State) (b : Launch),
      s.tx.queue = [b] ∧
      b.phase.committed = true ∧
      b.lines = none :=
  ⟨queued .decided, burst .decided, by decide +kernel⟩

/-- Clause 9 of LaunchSequence is met. -/
theorem witness_LaunchSequence_9 :
    ∃ (s : State) (b : Launch),
      s.tx.queue = [b] ∧
      b.phase = .decided ∧
      s.role = .standalone ∧
      s.tx.coexEnable = true :=
  ⟨queued .decided, burst .decided, by decide +kernel⟩

/-- Clause 10 of LaunchSequence is met. -/
theorem witness_LaunchSequence_10 :
    ∃ (s : State) (b : Launch),
      s.tx.queue = [b] ∧
      b.phase = .decided ∧
      s.tx.busyMode = false :=
  ⟨queued .decided, burst .decided, by decide +kernel⟩

/-- Clause 11 of LaunchSequence is met. -/
theorem witness_LaunchSequence_11 :
    ∃ (s : State) (b : Launch) (x : Nat × Nat × Nat) (q : BitVec 4),
      s.tx.queue = [b] ∧
      b.phase = .granted ∧
      b.lines = some (x.1, x.2.1, x.2.2, q) ∧
      s.thermal.trip = false ∧
      s.thermal.rateTrip = false :=
  ⟨{ queued .granted with tx := { (queued .granted).tx with queue := [{ burst .granted with lines := some (5, 5, 5, 0xF#4) }] } }, { burst .granted with lines := some (5, 5, 5, 0xF#4) }, (5, 5, 5), 0xF, by decide +kernel⟩

/-- Clause 12 of LaunchSequence is met. -/
theorem witness_LaunchSequence_12 :
    ∃ (s : State) (b : Launch),
      s.tx.queue = [b] ∧
      b.phase = .granted ∧
      s.thermal.trip = true ∧
      s.role = .standalone :=
  ⟨{ queued .granted with thermal := { up.thermal with trip := true } }, burst .granted, by decide +kernel⟩

/-- Clause 13 of LaunchSequence is met. -/
theorem witness_LaunchSequence_13 :
    ∃ (s : State) (b : Launch),
      s.tx.queue = [b] ∧
      b.phase = .frame :=
  ⟨queued .frame, burst .frame, by decide +kernel⟩

/-- Clause 14 of LaunchSequence is met. -/
theorem witness_LaunchSequence_14 :
    ∃ (s : State) (b : Launch),
      s.tx.queue = [b] ∧
      b.phase = .rampDown ∧
      s.role = .standalone ∧
      b.abort = none :=
  ⟨queued .rampDown, burst .rampDown, by decide +kernel⟩

/-- Clause 15 of LaunchSequence is met. -/
theorem witness_LaunchSequence_15 :
    ∃ (s : State) (x : BurstTail),
      s.tx.tails = [x] ∧
      x.returned = false ∧
      s.tx.queue = [] ∧
      s.radio.pending = none ∧
      s.radio.wantTx = false :=
  ⟨{ up with tx := { up.tx with tails := [tail false] } }, tail false, by decide +kernel⟩

/-- Clause 16 of LaunchSequence is met. -/
theorem witness_LaunchSequence_16 :
    ∃ (s : State) (x : BurstTail),
      s.tx.tails = [x] ∧
      x.returned = true :=
  ⟨{ up with tx := { up.tx with tails := [tail true] } }, tail true, by decide +kernel⟩

/-- Clause 17 of LaunchSequence is met. -/
theorem witness_LaunchSequence_17 :
    ∃ (s : State) (t5 : Nat),
      s.radio.wantTx = true ∧
      s.radio.lingerFrom = some t5 ∧
      s.tx.queue = [] ∧
      s.radio.pending = none :=
  ⟨{ onAir with radio := { onAir.radio with wantTx := true, lingerFrom := some 5 } }, 5, by decide +kernel⟩

/-- Clause 18 of LaunchSequence is met. -/
theorem witness_LaunchSequence_18 :
    ∃ (s : State) (t5 : Nat) (b : Launch),
      s.radio.wantTx = true ∧
      s.radio.lingerFrom = some t5 ∧
      s.tx.queue = [b] ∧
      s.launchAt b - 20 * 384000 ≤ t5 + s.radio.linger * 384000 :=
  ⟨{ queued .queued with radio := { onAir.radio with wantTx := true, lingerFrom := some 384000000 } }, 384000000, burst .queued, by decide +kernel⟩

/-- Clause 19 of LaunchSequence is met. -/
theorem witness_LaunchSequence_19 :
    ∃ (s : State) (b : Launch),
      s.tx.queue = [b] ∧
      b.phase = .frame ∧
      s.role = .standalone ∧
      s.tx.coexEnable = true :=
  ⟨queued .frame, burst .frame, by decide +kernel⟩

/-- Clause 20 of LaunchSequence is met. -/
theorem witness_LaunchSequence_20 :
    ∃ (s : State),
      s.tx.coexEnable = false :=
  ⟨{ up with tx := { up.tx with coexEnable := false } }, by decide +kernel⟩

/-- Clause 21 of LaunchSequence is met. -/
theorem witness_LaunchSequence_21 :
    ∃ (s : State),
      s.boot.ready = true :=
  ⟨up, by decide +kernel⟩

/-- Clause 22 of LaunchSequence is met. -/
theorem witness_LaunchSequence_22 :
    ∃ (s : State),
      s.boot.ready = false :=
  ⟨{ up with boot := { up.boot with ready := false } }, by decide +kernel⟩

/-- Clause 1 of PreDistortion is met. -/
theorem witness_PreDistortion_1 :
    ∃ (s : State) (r : Running),
      Runs s r specDpdSetMode ∧
      u8 r.cmd.payload 8 ≤ 2 ∧
      4 ≤ u8 r.cmd.payload 9 ∧
      u8 r.cmd.payload 9 ≤ 64 ∧
      20 ≤ u16 r.cmd.payload 0xA ∧
      u16 r.cmd.payload 0xA ≤ 200 ∧
      100 ≤ u16 r.cmd.payload 0xC ∧
      u16 r.cmd.payload 0xC ≤ 60000 ∧
      u8 r.cmd.payload 0xE ≤ 60 ∧
      (∀ k : Fin 4, u8 r.cmd.payload (0x10 + k) ≤ 7) :=
  ⟨asked up (ask 0x0801 (le 8 (2 ^ 63) ++ [1#8, 64#8] ++ le 2 200 ++ le 2 60000 ++ [60#8, 0#8, 7#8, 7#8, 7#8, 7#8])), ask 0x0801 (le 8 (2 ^ 63) ++ [1#8, 64#8] ++ le 2 200 ++ le 2 60000 ++ [60#8, 0#8, 7#8, 7#8, 7#8, 7#8]), by decide +kernel⟩

/-- Clause 2 of PreDistortion is met. -/
theorem witness_PreDistortion_2 :
    ∃ (s : State) (r : Running),
      Runs s r specDpdLoadTables ∧
      u8 r.cmd.payload 0 ≤ 63 ∧
      u8 r.cmd.payload 1 ≤ 3 ∧
      (s.dpd.path (u8 r.cmd.payload 0)).mode ≠ 2 :=
  ⟨asked { up with dpd := { up.dpd with paths := [(63, { mode := 1 })] } } (ask 0x0802 ([63#8, 3#8, 1#8] ++ zeros 1029)), ask 0x0802 ([63#8, 3#8, 1#8] ++ zeros 1029), by decide +kernel⟩

/-- Clause 3 of PreDistortion is met. -/
theorem witness_PreDistortion_3 :
    ∃ (s : State) (r : Running),
      Runs s r specDpdLoadTables ∧
      u8 r.cmd.payload 0 ≤ 63 ∧
      u8 r.cmd.payload 1 ≤ 3 ∧
      (s.dpd.path (u8 r.cmd.payload 0)).mode = 2 :=
  ⟨asked up (ask 0x0802 ([63#8, 3#8, 1#8] ++ zeros 1029)), ask 0x0802 ([63#8, 3#8, 1#8] ++ zeros 1029), by decide +kernel⟩

/-- Clause 4 of PreDistortion is met. -/
theorem witness_PreDistortion_4 :
    ∃ (s : State) (r : Running),
      Runs s r specDpdReadTables ∧
      u8 r.cmd.payload 0 ≤ 63 ∧
      u8 r.cmd.payload 1 ≤ 3 :=
  ⟨asked up (ask 0x0803 [63#8, 0#8, 0#8, 0#8]), ask 0x0803 [63#8, 0#8, 0#8, 0#8], by decide +kernel⟩

/-- Clause 5 of PreDistortion is met. -/
theorem witness_PreDistortion_5 :
    ∃ (s : State) (r : Running),
      Runs s r specDpdGetStatus :=
  ⟨asked up (ask 0x0804 []), ask 0x0804 [], by decide +kernel⟩

/-- Clause 6 of PreDistortion is met. -/
theorem witness_PreDistortion_6 :
    ∃ (s : State) (p : Fin 64) (x : DpdTables),
      s.burstInProgress = false ∧
      s.path.txMask.getLsbD p = true ∧
      (s.dpd.path p).pending = some x ∧
      (s.dpd.path p).eligible = true :=
  ⟨{ up with path := { up.path with txMask := BitVec.allOnes 64 }, dpd := { up.dpd with paths := [(63, { pending := some [], eligible := true })] } }, 63, [], by decide +kernel⟩

/-- Clause 7 of PreDistortion is met. -/
theorem witness_PreDistortion_7 :
    ∃ (s : State) (p : Fin 64),
      s.path.txMask.getLsbD p = false :=
  ⟨{ up with path := { up.path with txMask := 1#64 } }, 63, by decide +kernel⟩

/-- Clause 8 of PreDistortion is met. -/
theorem witness_PreDistortion_8 :
    ∃ (s : State),
      s.burstInProgress = true :=
  ⟨queued .frame, by decide +kernel⟩

/-- Clause 9 of PreDistortion is met. -/
theorem witness_PreDistortion_9 :
    ∃ (s : State) (t : Nat) (p : Fin 64) (b : Launch),
      s.path.obsOwner = some .dpd ∧
      s.tx.queue = [b] ∧
      s.now ≤ t ∧
      b.phase = .frame ∧
      s.launchAt b + b.tr + s.dpd.captureUs * 384000 ≤ t ∧
      t ≤ s.frameEnd b ∧
      s.path.obsSince + (2 + s.dpd.captureUs) * 384000 ≤ t ∧
      t ≤ s.path.obsSince + 96000000 ∧
      (s.advance t).adapts p = true ∧
      p.val % 4 = s.dpd.selection ∧
      (s.dpd.path p).nmseBefore = none ∧
      s.dpd.taken + 1 < s.dpd.snapCount :=
  ⟨{ queued .frame with path := { up.path with obsOwner := some .dpd, obsSince := 500000000, txMask := BitVec.allOnes 64 }, tx := { (queued .frame).tx with queue := [loud] } }, 576768000, 0, loud, by decide +kernel⟩

/-- Clause 10 of PreDistortion is met. -/
theorem witness_PreDistortion_10 :
    ∃ (s : State),
      s.path.obsOwner = none :=
  ⟨up, by decide +kernel⟩

/-- Clause 11 of PreDistortion is met. -/
theorem witness_PreDistortion_11 :
    ∃ (s : State) (p : Fin 64),
      (s.dpd.path p).mode ≠ 2 :=
  ⟨{ up with dpd := { up.dpd with paths := [(63, { mode := 1 })] } }, 63, by decide +kernel⟩

/-- Clause 12 of PreDistortion is met. -/
theorem witness_PreDistortion_12 :
    ∃ (s : State) (p : Fin 64),
      (s.dpd.path p).mode = 2 ∧
      s.dpd.snapCount ≤ (s.dpd.path p).captures ∧
      s.dpd.window = none ∧
      s.dpd.excluded = 0#64 ∧
      s.spare.txRetired.getLsbD p = false ∧
      s.thermal.throttle = false :=
  ⟨{ up with dpd := { up.dpd with paths := [(63, { captures := 16 })] } }, 63, by decide +kernel⟩

/-- Clause 13 of PreDistortion is met. -/
theorem witness_PreDistortion_13 :
    ∃ (s : State) (p : Nat) (v : Int) (b : Int),
      s.dpd.snapCount = (s.dpd.path p).since + 1 ∧
      (s.dpd.path p).nmseBefore = some b ∧
      (s.dpd.path p).nmse = List.replicate (s.dpd.path p).since v ∧
      b + 100 < v ∧
      p < 64 :=
  ⟨{ up with dpd := { up.dpd with snapCount := 4, paths := [(63, { nmseBefore := some (-3000), since := 3, nmse := [-2899, -2899, -2899] })] } }, 63, -2899, -3000, by decide +kernel⟩

/-- Clause 14 of PreDistortion is met. -/
theorem witness_PreDistortion_14 :
    ∃ (s : State) (p : Fin 64),
      (s.dpd.path p).mode = 2 ∧
      (s.dpd.path p).staleTold = false ∧
      s.dpd.staleMs * 384000000 ≤ (s.dpd.path p).age ∧
      s.tx.queue = [] :=
  ⟨{ up with dpd := { up.dpd with paths := [(63, { age := 192000000000 })] } }, 63, by decide +kernel⟩

/-- Clause 15 of PreDistortion is met. -/
theorem witness_PreDistortion_15 :
    ∃ (s : State) (p : Fin 64),
      (s.dpd.path p).staleTold = true :=
  ⟨{ up with dpd := { up.dpd with paths := [(63, { staleTold := true })] } }, 63, by decide +kernel⟩

/-- Clause 16 of PreDistortion is met. -/
theorem witness_PreDistortion_16 :
    ∃ (x : Cplx),
      x.i.natAbs ≤ 32767 ∧
      x.q.natAbs ≤ 32767 :=
  ⟨⟨32767, -32767⟩, by decide +kernel⟩

/-- Clause 3 of AerialsAndTuners is met. -/
theorem witness_AerialsAndTuners_3 :
    ∃ (s : State) (p : Nat) (rl : Int),
      (s.dpd.path p).mismatch.judge rl = (s.dpd.path p).mismatch :=
  ⟨up, 5, 950, by decide +kernel⟩

/-- Clause 4 of AerialsAndTuners is met. -/
theorem witness_AerialsAndTuners_4 :
    ∃ (s : State) (p : Fin 64) (rl : Int),
      (s.dpd.path p).mismatch = .derate ∧
      rl < 350 ∧
      s.burstInProgress = false ∧
      s.spare.txRetired.getLsbD p = false :=
  ⟨{ up with dpd := { up.dpd with paths := [(63, { mismatch := .derate })] } }, 63, 349, by decide +kernel⟩

/-- Clause 5 of AerialsAndTuners is met. -/
theorem witness_AerialsAndTuners_5 :
    ∃ (s : State),
      s.path.obsOwner ≠ some .mismatch :=
  ⟨up, by decide +kernel⟩

/-- Clause 6 of AerialsAndTuners is met. -/
theorem witness_AerialsAndTuners_6 :
    ∃ (s : State),
      s.path.obsOwner = some .mismatch :=
  ⟨{ up with path := { up.path with obsOwner := some .mismatch } }, by decide +kernel⟩

/-- Clause 7 of AerialsAndTuners is met. -/
theorem witness_AerialsAndTuners_7 :
    ∃ (s : State) (t : Nat) (p : Fin 64),
      s.path.obsOwner = some .mismatch ∧
      p.val % 4 = s.dpd.mismatchSel ∧
      (s.advance t).tuning = 0#64 ∧
      (s.advance t).audible p = true :=
  ⟨{ queued .frame with path := { up.path with obsOwner := some .mismatch, txMask := BitVec.allOnes 64 }, tx := { (queued .frame).tx with queue := [loud] } }, 576768000, 0, by decide +kernel⟩

/-- Clause 8 of AerialsAndTuners is met. -/
theorem witness_AerialsAndTuners_8 :
    ∃ (s : State) (r : Running),
      Runs s r specDpdSetMismatch ∧
      u8 r.cmd.payload 0 ≤ 1 ∧
      u8 r.cmd.payload 1 ≤ 15 ∧
      20 ≤ u16 r.cmd.payload 2 ∧
      u16 r.cmd.payload 2 ≤ 10000 ∧
      u8 r.cmd.payload 4 ≤ 26 ∧
      (∀ p : Fin 64, -2000 ≤ s16 r.cmd.payload (8 + 2 * p) ∧ s16 r.cmd.payload (8 + 2 * p) ≤ 2000) :=
  ⟨asked up (ask 0x0805 ([1#8, 15#8] ++ le 2 10000 ++ [26#8, 0#8, 0#8, 0#8] ++ zeros 126 ++ leS 2 (-2000))), ask 0x0805 ([1#8, 15#8] ++ le 2 10000 ++ [26#8, 0#8, 0#8, 0#8] ++ zeros 126 ++ leS 2 (-2000)), by decide +kernel⟩

/-- Clause 9 of AerialsAndTuners is met. -/
theorem witness_AerialsAndTuners_9 :
    ∃ (s : State) (r : Running),
      Runs s r specDpdSetTunerMap ∧
      u8 r.cmd.payload 0 = 1 ∧
      tunerOk (tunerAt r.cmd.payload 0) = true :=
  ⟨asked up (ask 0x0806 ([1#8] ++ zeros 7 ++ [63#8, 15#8, 1#8, 255#8, 5#8, 0#8, 0#8, 0#8, 255#8, 0#8, 0#8, 0#8])), ask 0x0806 ([1#8] ++ zeros 7 ++ [63#8, 15#8, 1#8, 255#8, 5#8, 0#8, 0#8, 0#8, 255#8, 0#8, 0#8, 0#8]), by decide +kernel⟩

/-- Clause 10 of AerialsAndTuners is met. -/
theorem witness_AerialsAndTuners_10 :
    ∃ (p : List Byte),
      u8 p 10 ≤ 4 :=
  ⟨zeros 8 ++ [63#8, 15#8, 4#8, 255#8, 5#8, 0#8, 0#8, 0#8, 255#8, 0#8, 0#8, 0#8], by decide +kernel⟩

/-- Clause 11 of AerialsAndTuners is met. -/
theorem witness_AerialsAndTuners_11 :
    ∃ (s : State) (r : Running),
      Runs s r specDpdTuneWindow ∧
      u8 r.cmd.payload 0x12 / 4 % 2 = 0 ∧
      1 ≤ u16 r.cmd.payload 0x10 ∧
      u16 r.cmd.payload 0x10 ≤ 1000 ∧
      (∀ k : Fin 64, (mask64 r.cmd.payload 0).getLsbD k = true → Tab.find? s.dpd.tuners k.val ≠ none) ∧
      s.time.state ≠ .invalid ∧
      s.dpd.window = none ∧
      s.time.deviceAt (r.reached + 384000000) ≤ s.instantOf r.cmd.payload 8 :=
  ⟨asked { up with time := { up.time with state := .valid }, dpd := { up.dpd with tuners := [(63, { usid := 15, aux := 255, regs := [5], codeMax := [255] })] } } (ask 0x0807 (le 8 (2 ^ 63) ++ le 4 1 ++ le 4 0 ++ le 2 1000 ++ [3#8] ++ zeros 5)), ask 0x0807 (le 8 (2 ^ 63) ++ le 4 1 ++ le 4 0 ++ le 2 1000 ++ [3#8] ++ zeros 5), by decide +kernel⟩

/-- Clause 12 of AerialsAndTuners is met. -/
theorem witness_AerialsAndTuners_12 :
    ∃ (s : State) (r : Running) (w : TuneWindow),
      Runs s r specDpdTuneWindow ∧
      u8 r.cmd.payload 0x12 / 4 % 2 = 0 ∧
      1 ≤ u16 r.cmd.payload 0x10 ∧
      u16 r.cmd.payload 0x10 ≤ 1000 ∧
      mask64 r.cmd.payload 0 = 0#64 ∧
      s.time.state ≠ .invalid ∧
      s.dpd.window = some w :=
  ⟨asked { up with time := { up.time with state := .valid }, dpd := { up.dpd with window := some opening } } (ask 0x0807 (zeros 16 ++ le 2 1000 ++ zeros 6)), ask 0x0807 (zeros 16 ++ le 2 1000 ++ zeros 6), opening, by decide +kernel⟩

/-- Clause 13 of AerialsAndTuners is met. -/
theorem witness_AerialsAndTuners_13 :
    ∃ (s : State) (r : Running) (w : TuneWindow),
      Runs s r specDpdTuneWindow ∧
      u8 r.cmd.payload 0x12 / 4 % 2 = 1 ∧
      s.dpd.window = some w ∧
      w.opened = false :=
  ⟨asked { up with dpd := { up.dpd with window := some opening } } (ask 0x0807 (zeros 18 ++ [4#8] ++ zeros 5)), ask 0x0807 (zeros 18 ++ [4#8] ++ zeros 5), opening, by decide +kernel⟩

/-- Clause 14 of AerialsAndTuners is met. -/
theorem witness_AerialsAndTuners_14 :
    ∃ (s : State) (r : Running) (w : TuneWindow) (u : Tuner),
      Runs s r specDpdSetTuner ∧
      u8 r.cmd.payload 0 ≤ 63 ∧
      s.dpd.window = some w ∧
      w.opened = true ∧
      w.mask.getLsbD (u8 r.cmd.payload 0) = true ∧
      Tab.find? s.dpd.tuners (u8 r.cmd.payload 0) = some u ∧
      u.codeMax = [255] ∧
      u.regs.length = 1 :=
  ⟨asked { up with dpd := { up.dpd with window := some { opening with opened := true }, tuners := [(63, { usid := 15, aux := 255, regs := [5], codeMax := [255] })] } } (ask 0x0808 [63#8, 0#8, 0#8, 0#8, 255#8, 0#8, 0#8, 0#8]), ask 0x0808 [63#8, 0#8, 0#8, 0#8, 255#8, 0#8, 0#8, 0#8], { opening with opened := true }, { usid := 15, aux := 255, regs := [5], codeMax := [255] }, by decide +kernel⟩

/-- Clause 15 of AerialsAndTuners is met. -/
theorem witness_AerialsAndTuners_15 :
    ∃ (s : State) (r : Running),
      Runs s r specDpdSetTuner ∧
      u8 r.cmd.payload 0 ≤ 63 ∧
      s.dpd.window = none ∧
      s.dpd.tuners = [] :=
  ⟨asked up (ask 0x0808 [63#8, 0#8, 0#8, 0#8, 255#8, 0#8, 0#8, 0#8]), ask 0x0808 [63#8, 0#8, 0#8, 0#8, 255#8, 0#8, 0#8, 0#8], by decide +kernel⟩

/-- Clause 16 of AerialsAndTuners is met. -/
theorem witness_AerialsAndTuners_16 :
    ∃ (s : State) (r : Running),
      Runs s r specDpdRffeXfer ∧
      u8 r.cmd.payload 0 ≤ 15 ∧
      u8 r.cmd.payload 2 ≤ 15 ∧
      rffeOk (u8 r.cmd.payload 1) (u8 r.cmd.payload 3) (u16 r.cmd.payload 4) (u8 r.cmd.payload 8) = true :=
  ⟨asked up (ask 0x0809 ([15#8, 6#8, 15#8, 8#8, 0xFF#8, 0xFF#8] ++ zeros 18)), ask 0x0809 ([15#8, 6#8, 15#8, 8#8, 0xFF#8, 0xFF#8] ++ zeros 18), by decide +kernel⟩

/-- Clause 17 of AerialsAndTuners is met. -/
theorem witness_AerialsAndTuners_17 :
    ∃ (s : State) (w : TuneWindow),
      s.dpd.window = some w ∧
      w.opened = false :=
  ⟨{ up with dpd := { up.dpd with window := some opening } }, opening, by decide +kernel⟩

/-- Clause 18 of AerialsAndTuners is met. -/
theorem witness_AerialsAndTuners_18 :
    ∃ (s : State),
      s.path.obsOwner ≠ some .mismatch :=
  ⟨up, by decide +kernel⟩

/-- Clause 19 of AerialsAndTuners is met. -/
theorem witness_AerialsAndTuners_19 :
    ∃ (s : State) (w : TuneWindow),
      s.path.obsOwner = some .mismatch ∧
      s.dpd.window = some w ∧
      w.opened = true ∧
      w.search = true :=
  ⟨{ up with path := { up.path with obsOwner := some .mismatch }, dpd := { up.dpd with window := some { opening with opened := true } } }, { opening with opened := true }, by decide +kernel⟩

/-- Clause 20 of AerialsAndTuners is met. -/
theorem witness_AerialsAndTuners_20 :
    ∃ (s : State) (t : Nat) (w : TuneWindow),
      s.dpd.window = some w ∧
      w.opened = true ∧
      w.search = false ∧
      w.fault = false ∧
      w.paths = [] ∧
      w.start + w.durationMs * 384000000 ≤ t :=
  ⟨{ up with dpd := { up.dpd with window := some { opening with opened := true, search := false } } }, 384000000005, { opening with opened := true, search := false }, by decide +kernel⟩

/-- Clause 21 of AerialsAndTuners is met. -/
theorem witness_AerialsAndTuners_21 :
    ∃ (s : State) (b : Fin 16) (x : RffeXfer) (l : List RffeXfer),
      Tab.get s.dpd.buses b [] = x :: l ∧
      x.owner = none ∧
      x.tunerRead = none :=
  ⟨{ up with dpd := { up.dpd with buses := [(15, [{ kind := 3, usid := 1, count := 1, address := 5, data := [] }])] } }, 15, { kind := 3, usid := 1, count := 1, address := 5, data := [] }, [], by decide +kernel⟩

/-- Clause 22 of AerialsAndTuners is met. -/
theorem witness_AerialsAndTuners_22 :
    ∃ (s : State) (b : Fin 16) (x : RffeXfer) (l : List RffeXfer) (r : Running) (q : List Byte),
      Tab.get s.dpd.buses b [] = x :: l ∧
      x.tunerRead = none ∧
      x.owner = some r.order ∧
      s.cmd.running = [r] ∧
      r.phase = .deferred ⟨0, q⟩ ∧
      rffeReads x.kind = true :=
  ⟨{ up with dpd := { up.dpd with buses := [(15, [{ kind := 6, usid := 1, count := 1, address := 5, data := [], owner := some 0 }])] }, cmd := { up.cmd with running := [{ ask 0x0809 (zeros 24) with phase := .deferred ⟨0, zeros 24⟩ }] } }, 15, { kind := 6, usid := 1, count := 1, address := 5, data := [], owner := some 0 }, [], { ask 0x0809 (zeros 24) with phase := .deferred ⟨0, zeros 24⟩ }, zeros 24, by decide +kernel⟩

/-- Clause 1 of CalibrationCommands is met. -/
theorem witness_CalibrationCommands_1 :
    ∃ (s : State) (r : Running),
      Runs s r specCalRun ∧
      (s.isWorker = false ∨ u16 r.cmd.payload 0 / 512 % 2 = 0) ∧
      u8 r.cmd.payload 2 % 2 = 0 :=
  ⟨asked up (ask 0x0901 (le 2 1023 ++ zeros 6 ++ le 8 (2 ^ 63 + 1))), ask 0x0901 (le 2 1023 ++ zeros 6 ++ le 8 (2 ^ 63 + 1)), by decide +kernel⟩

/-- Clause 2 of CalibrationCommands is met. -/
theorem witness_CalibrationCommands_2 :
    ∃ (s : State) (r : Running),
      Runs s r specCalRun ∧
      u16 r.cmd.payload 0 = 64 ∧
      u8 r.cmd.payload 2 % 2 = 1 ∧
      (s.cal.kind 6).run = none ∧
      (s.radio.synth s.radio.active).setting = none :=
  ⟨asked up (ask 0x0901 (le 2 64 ++ [1#8] ++ zeros 13)), ask 0x0901 (le 2 64 ++ [1#8] ++ zeros 13), by decide +kernel⟩

/-- Clause 3 of CalibrationCommands is met. -/
theorem witness_CalibrationCommands_3 :
    ∃ (s : State) (r : Running),
      Runs s r specCalRun ∧
      s.role = .worker ∧
      u16 r.cmd.payload 0 / 512 % 2 = 1 :=
  ⟨asked hand (ask 0x0901 (le 2 1023 ++ zeros 14)), ask 0x0901 (le 2 1023 ++ zeros 14), by decide +kernel⟩

/-- Clause 4 of CalibrationCommands is met. -/
theorem witness_CalibrationCommands_4 :
    ∃ (s : State) (r : Running),
      Runs s r specCalSetSupervisor ∧
      10 ≤ u16 r.cmd.payload 2 ∧
      u16 r.cmd.payload 2 ≤ 3600 ∧
      60 ≤ u16 r.cmd.payload 4 ∧
      10 ≤ u8 r.cmd.payload 6 ∧
      u8 r.cmd.payload 6 ≤ 30 ∧
      (∀ k : Fin 10, u8 r.cmd.payload (0x10 + 4 * k) ≤ 20) :=
  ⟨asked up (ask 0x0902 (le 2 1023 ++ le 2 3600 ++ le 2 65535 ++ [30#8] ++ zeros 9 ++ [20#8, 0#8, 255#8, 255#8] ++ zeros 36)), ask 0x0902 (le 2 1023 ++ le 2 3600 ++ le 2 65535 ++ [30#8] ++ zeros 9 ++ [20#8, 0#8, 255#8, 255#8] ++ zeros 36), by decide +kernel⟩

/-- Clause 5 of CalibrationCommands is met. -/
theorem witness_CalibrationCommands_5 :
    ∃ (s : State) (r : Running) (k : Fin 10),
      Runs s r specCalSetSupervisor ∧
      20 < u8 r.cmd.payload (0x10 + 4 * k) :=
  ⟨asked up (ask 0x0902 (le 2 1023 ++ le 2 10 ++ le 2 60 ++ [10#8] ++ zeros 9 ++ zeros 36 ++ [21#8, 0#8, 255#8, 255#8])), ask 0x0902 (le 2 1023 ++ le 2 10 ++ le 2 60 ++ [10#8] ++ zeros 9 ++ zeros 36 ++ [21#8, 0#8, 255#8, 255#8]), 9, by decide +kernel⟩

/-- Clause 6 of CalibrationCommands is met. -/
theorem witness_CalibrationCommands_6 :
    ∃ (s : State) (r : Running),
      Runs s r specCalGetStatus ∧
      (∀ k : Fin 10, (s.cal.kind k).updatedAt ≠ none) :=
  ⟨asked { up with now := 384000000000, cal := { up.cal with entry := some 255, kinds := (List.range 10).map (fun k => (k, ({ updatedAt := some k, source := 3, ran := true, residual := 70000, run := none } : CalKind))) } } (ask 0x0903 []), ask 0x0903 [], by decide +kernel⟩

/-- Clause 7 of CalibrationCommands is met. -/
theorem witness_CalibrationCommands_7 :
    ∃ (s : State) (r : Running),
      Runs s r specCalGetPathStats :=
  ⟨asked { up with cal := { up.cal with stats := [(63, { phaseSigma := 70000, phaseStep := -40000, dc := 7 })] } } (ask 0x0904 []), ask 0x0904 [], by decide +kernel⟩

/-- Clause 8 of CalibrationCommands is met. -/
theorem witness_CalibrationCommands_8 :
    ∃ (s : State) (r : Running),
      Runs s r specCalSetCoupler ∧
      (∀ p : Fin 64, -18000 ≤ s16 r.cmd.payload (2 * p) ∧ s16 r.cmd.payload (2 * p) ≤ 18000) :=
  ⟨asked up (ask 0x0908 (leS 2 (-18000) ++ zeros 124 ++ leS 2 18000)), ask 0x0908 (leS 2 (-18000) ++ zeros 124 ++ leS 2 18000), by decide +kernel⟩

/-- Clause 9 of CalibrationCommands is met. -/
theorem witness_CalibrationCommands_9 :
    ∃ (s : State) (r : Running) (p : Fin 64),
      Runs s r specCalSetCoupler ∧
      18000 < s16 r.cmd.payload (2 * p) :=
  ⟨asked up (ask 0x0908 (zeros 126 ++ leS 2 18001)), ask 0x0908 (zeros 126 ++ leS 2 18001), 63, by decide +kernel⟩

/-- Clause 10 of CalibrationCommands is met. -/
theorem witness_CalibrationCommands_10 :
    ∃ (s : State) (r : Running),
      Runs s r specCalStore ∧
      (s.thermal.tj < 0 ∨ 10000 < s.thermal.tj) :=
  ⟨asked { up with thermal := { up.thermal with tj := 10001 } } (ask 0x0905 [3#8, 0#8, 0#8, 0#8]), ask 0x0905 [3#8, 0#8, 0#8, 0#8], by decide +kernel⟩

/-- Clause 11 of CalibrationCommands is met. -/
theorem witness_CalibrationCommands_11 :
    ∃ (s : State) (r : Running),
      Runs s r specCalStore ∧
      0 ≤ s.thermal.tj ∧
      s.thermal.tj ≤ 10000 ∧
      s.cal.entry = none ∧
      u8 r.cmd.payload 0 % 2 = 1 :=
  ⟨asked { up with thermal := { up.thermal with tj := 10000 } } (ask 0x0905 [3#8, 0#8, 0#8, 0#8]), ask 0x0905 [3#8, 0#8, 0#8, 0#8], by decide +kernel⟩

/-- Clause 12 of CalibrationCommands is met. -/
theorem witness_CalibrationCommands_12 :
    ∃ (s : State) (r : Running) (e : Nat),
      Runs s r specCalStore ∧
      0 ≤ s.thermal.tj ∧
      s.thermal.tj ≤ 10000 ∧
      s.cal.entry = some e ∧
      u8 r.cmd.payload 0 = 1 :=
  ⟨asked { up with thermal := { up.thermal with tj := 0 }, cal := { up.cal with entry := some 255 } } (ask 0x0905 [1#8, 0#8, 0#8, 0#8]), ask 0x0905 [1#8, 0#8, 0#8, 0#8], 255, by decide +kernel⟩

/-- Clause 13 of CalibrationCommands is met. -/
theorem witness_CalibrationCommands_13 :
    ∃ (s : State) (r : Running),
      Runs s r specCalRestore ∧
      u8 r.cmd.payload 0 = 1 ∧
      u16 r.cmd.payload 4 ≤ 255 ∧
      u16 r.cmd.payload 2 / 8 % 2 = 1 ∧
      Tab.find? s.nv.calChannel (u16 r.cmd.payload 4) = none :=
  ⟨asked up (ask 0x0906 ([1#8, 1#8] ++ le 2 8 ++ le 2 255 ++ zeros 2)), ask 0x0906 ([1#8, 1#8] ++ le 2 8 ++ le 2 255 ++ zeros 2), by decide +kernel⟩

/-- Clause 14 of CalibrationCommands is met. -/
theorem witness_CalibrationCommands_14 :
    ∃ (s : State) (r : Running) (b : List Byte) (old : List Byte) (o : Nat),
      Runs s r specCalRestore ∧
      u8 r.cmd.payload 0 = 2 ∧
      u8 r.cmd.payload 1 % 2 = 1 ∧
      u16 r.cmd.payload 2 = 8 ∧
      (s.cal.kind 3).updatedAt ≠ none ∧
      s.cal.channel = some b ∧
      (s.cal.kind 3).before = [(o, old)] :=
  ⟨asked { up with cal := { up.cal with channel := some (zeros 1664), kinds := [(3, { updatedAt := some 0, before := [(0x60C, [1#8, 2#8, 3#8, 4#8])] })] } } (ask 0x0906 ([2#8, 1#8] ++ le 2 8 ++ zeros 4)), ask 0x0906 ([2#8, 1#8] ++ le 2 8 ++ zeros 4), zeros 1664, [1#8, 2#8, 3#8, 4#8], 0x60C, by decide +kernel⟩

/-- Clause 15 of CalibrationCommands is met. -/
theorem witness_CalibrationCommands_15 :
    ∃ (s : State) (r : Running),
      Runs s r specCalReadSet ∧
      u8 r.cmd.payload 0 = 2 ∧
      u16 r.cmd.payload 2 ≤ 255 :=
  ⟨asked up (ask 0x0907 [2#8, 0#8, 255#8, 0#8]), ask 0x0907 [2#8, 0#8, 255#8, 0#8], by decide +kernel⟩

/-- Clause 16 of CalibrationCommands is met. -/
theorem witness_CalibrationCommands_16 :
    ∃ (s : State) (r : Running),
      Runs s r specCalReadSet ∧
      u8 r.cmd.payload 0 = 3 ∧
      u16 r.cmd.payload 2 ≤ 15 :=
  ⟨asked up (ask 0x0907 [3#8, 0#8, 15#8, 0#8]), ask 0x0907 [3#8, 0#8, 15#8, 0#8], by decide +kernel⟩

/-- Clause 17 of CalibrationCommands is met. -/
theorem witness_CalibrationCommands_17 :
    ∃ (s : State) (r : Running),
      Runs s r specCalReadSet ∧
      u8 r.cmd.payload 0 = 0 ∧
      u16 r.cmd.payload 2 ≤ 255 ∧
      Tab.find? s.nv.calChannel (u16 r.cmd.payload 2) = none :=
  ⟨asked up (ask 0x0907 [0#8, 0#8, 255#8, 0#8]), ask 0x0907 [0#8, 0#8, 255#8, 0#8], by decide +kernel⟩

/-- Clause 18 of CalibrationCommands is met. -/
theorem witness_CalibrationCommands_18 :
    ∃ (s : State) (r : Running) (b : List Byte),
      Runs s r specCalReadSet ∧
      u8 r.cmd.payload 0 = 1 ∧
      u16 r.cmd.payload 2 ≤ 15 ∧
      Tab.find? s.nv.calStep (u16 r.cmd.payload 2) = some b ∧
      s.nv.bad.contains (.calStep (u16 r.cmd.payload 2)) = false :=
  ⟨asked { up with nv := { up.nv with calStep := [(15, zeros 576)] } } (ask 0x0907 [1#8, 0#8, 15#8, 0#8]), ask 0x0907 [1#8, 0#8, 15#8, 0#8], zeros 576, by decide +kernel⟩

/-- Clause 19 of CalibrationCommands is met. -/
theorem witness_CalibrationCommands_19 :
    ∃ (c : Cal) (b : List Byte) (p : Fin 64),
      c.channel = some b ∧
      c.xd = ⟨16384, 0⟩ ∧
      s16 b (0x30 + 24 * p) ≠ -32768 ∧
      s16 b (0x32 + 24 * p) ≠ -32768 :=
  ⟨{ up.cal with channel := some (zeros 0x618 ++ leS 2 32767 ++ leS 2 (-32767) ++ zeros 72) }, zeros 0x618 ++ leS 2 32767 ++ leS 2 (-32767) ++ zeros 72, 63, by decide +kernel⟩

/-- Clause 1 of CalibrationRuns is met. -/
theorem witness_CalibrationRuns_1 :
    ∃ (k : Fin 10) (old : Int),
      k.val ≠ 2 ∧
      -(trimLimit k) ≤ old ∧
      old ≤ trimLimit k :=
  ⟨3, 2048, by decide +kernel⟩

/-- Clause 2 of CalibrationRuns is met. -/
theorem witness_CalibrationRuns_2 :
    ∃ (s : State) (k : Fin 10),
      k.val ≤ 2 ∧
      (s.cal.kind k).run = none :=
  ⟨up, 2, by decide +kernel⟩

/-- Clause 3 of CalibrationRuns is met. -/
theorem witness_CalibrationRuns_3 :
    ∃ (s : State) (k : Fin 10) (x : CalStep),
      k.val ≤ 2 ∧
      (x.since ≤ s.cal.disturbedAt ∨ x.since ≤ (s.cal.kind k).stopAt) :=
  ⟨{ up with cal := { up.cal with disturbedAt := 7, kinds := [(2, { run := some { cause := 2, paths := 1#64, usefulAt := 0 } })] } }, 2, { since := 7, bins := [], writes := [], residual := 0, sigma := 0, settled := true, figures := [], cornerKHz := none }, by decide +kernel⟩

/-- Clause 4 of CalibrationRuns is met. -/
theorem witness_CalibrationRuns_4 :
    ∃ (s : State) (t : Nat) (x : CalStep) (r : CalRun) (b : List Byte) (p : Fin 64) (i : Int) (q : Int),
      (s.cal.kind 1).run = some r ∧
      r.paths.getLsbD p = true ∧
      s.cal.channel = some b ∧
      b.length = 1664 ∧
      x.writes = [(p.val, i, q)] ∧
      x.figures = [] ∧
      x.settled = false ∧
      s.tx.queue = [] ∧
      s.tx.blanked = [] ∧
      (s.advance t).stepKept 1 x = true :=
  ⟨{ up with cal := { up.cal with channel := some (zeros 1664), kinds := [(1, { run := some { cause := 2, paths := BitVec.allOnes 64, usefulAt := 0 } })] } }, 76800001, { since := 1, bins := List.range 16, writes := [(63, 9, -3)], residual := 5, sigma := 6, settled := false, figures := [], cornerKHz := none }, { cause := 2, paths := BitVec.allOnes 64, usefulAt := 0 }, zeros 1664, 63, 9, -3, by decide +kernel⟩

/-- Clause 5 of CalibrationRuns is met. -/
theorem witness_CalibrationRuns_5 :
    ∃ (s : State) (t : Nat) (x : CalStep) (r : CalRun),
      (s.cal.kind 0).run = some r ∧
      x.writes = [] ∧
      x.figures = [] ∧
      x.settled = true ∧
      (s.advance t).stepKept 0 x = true :=
  ⟨{ up with cal := { up.cal with kinds := [(0, { run := some { cause := 4, paths := 1#64, usefulAt := 0 } })] } }, 76800001, { since := 1, bins := [], writes := [], residual := 70000, sigma := 1, settled := true, figures := [], cornerKHz := none }, { cause := 4, paths := 1#64, usefulAt := 0 }, by decide +kernel⟩

/-- Clause 7 of CalibrationRuns is met. -/
theorem witness_CalibrationRuns_7 :
    ∃ (s : State) (k : Fin 10),
      (s.cal.kind k).runAt = none :=
  ⟨up, 9, by decide +kernel⟩

/-- Clause 8 of CalibrationRuns is met. -/
theorem witness_CalibrationRuns_8 :
    ∃ (s : State) (k : Fin 10) (a : Nat) (tj : Int),
      (s.cal.kind k).runAt = some (a, tj) ∧
      k.val ≠ 9 ∧
      Tab.get s.cal.deltaT k 4 ≠ 0 ∧
      s.cal.auto k = true ∧
      (s.cal.kind k).run = none ∧
      100 * Tab.get s.cal.deltaT k 4 < (s.thermal.tj - tj).natAbs :=
  ⟨{ up with cal := { up.cal with kinds := [(8, { runAt := some (0, 2099) })] } }, 8, 0, 2099, by decide +kernel⟩

/-- Clause 9 of CalibrationRuns is met. -/
theorem witness_CalibrationRuns_9 :
    ∃ (s : State) (t : Nat) (k : Fin 10) (a : Nat) (tj : Int),
      (s.cal.kind k).runAt = some (a, tj) ∧
      k.val ≠ 9 ∧
      (s.thermal.tj - tj).natAbs ≤ 100 * Tab.get s.cal.deltaT k 4 ∧
      Tab.get s.cal.intervalS k 3600 ≠ 0 ∧
      s.cal.auto k = true ∧
      (s.cal.kind k).run = none ∧
      s.now ≤ t :=
  ⟨{ up with cal := { up.cal with kinds := [(8, { runAt := some (5, 2900) })] } }, 1382400000000005, 8, 5, 2900, by decide +kernel⟩

/-- Clause 10 of CalibrationRuns is met. -/
theorem witness_CalibrationRuns_10 :
    ∃ (s : State) (k : Fin 10),
      (s.cal.kind k).run = none :=
  ⟨up, 9, by decide +kernel⟩

/-- Clause 11 of CalibrationRuns is met. -/
theorem witness_CalibrationRuns_11 :
    ∃ (s : State) (k : Fin 10) (r : CalRun) (a : Nat),
      (s.cal.kind k).run = some r ∧
      (s.cal.kind k).starvedAt = none ∧
      (s.cal.kind k).updatedAt = some a :=
  ⟨{ up with cal := { up.cal with kinds := [(9, { updatedAt := some 5, run := some { cause := 3, paths := 0#64, usefulAt := 7 } })] } }, 9, { cause := 3, paths := 0#64, usefulAt := 7 }, 5, by decide +kernel⟩

/-- Clause 12 of CalibrationRuns is met. -/
theorem witness_CalibrationRuns_12 :
    ∃ (s : State) (k : Fin 10) (r : CalRun) (a : Nat),
      (s.cal.kind k).run = some r ∧
      r.activeSyn = false ∧
      (s.cal.kind k).starvedAt = some a ∧
      max s.now (r.usefulAt + s.cal.starveS * 384000000000) < a + s.cal.starveS * 384000000000 :=
  ⟨{ up with cal := { up.cal with kinds := [(9, { starvedAt := some 8, run := some { cause := 3, paths := 0#64, usefulAt := 7 } })] } }, 9, { cause := 3, paths := 0#64, usefulAt := 7 }, 8, by decide +kernel⟩

/-- Clause 13 of CalibrationRuns is met. -/
theorem witness_CalibrationRuns_13 :
    ∃ (s : State) (ok : Bool) (inside : Bool) (snr : Int),
      (s.role ≠ .manager ∨ ok = false ∨ inside = false ∨ snr < 100 * (s.cal.xdevSnrMin : Int)) :=
  ⟨boss, true, true, 1499, by decide +kernel⟩

/-- Clause 14 of CalibrationRuns is met. -/
theorem witness_CalibrationRuns_14 :
    ∃ (s : State) (snr : Int) (p : XdevPart),
      s.role = .manager ∧
      s.joinedWorkers = [p.position] ∧
      100 * (s.cal.xdevSnrMin : Int) ≤ snr ∧
      (Tab.get s.cal.xdev p.position {}).packets < 7 :=
  ⟨boss, 1500, { position := 1, rhoManager := 2072445, rhoDevice := 2072445, ratioI := 16384, ratioQ := 0 }, by decide +kernel⟩

/-- Clause 15 of CalibrationRuns is met. -/
theorem witness_CalibrationRuns_15 :
    ∃ (s : State) (snr : Int) (span : Nat) (p : XdevPart),
      s.role = .manager ∧
      s.joinedWorkers = [p.position] ∧
      100 * (s.cal.xdevSnrMin : Int) ≤ snr ∧
      s.cal.xdevConverged = false ∧
      (s.cal.kind 9).run = none ∧
      s.beam.internal = none ∧
      s.beam.host = none ∧
      7 ≤ (Tab.get s.cal.xdev p.position {}).packets ∧
      ((Tab.get s.cal.xdev p.position {}).add span p).sigma < 1000 :=
  ⟨{ boss with beam := { boss.beam with ownOnly := true }, cal := { boss.cal with xdev := [(1, ({ weight := 198954720, packets := 12, sum := ⟨198954720 * 16384, 0⟩ } : XdevEstimate))] } }, 1500, 3, { position := 1, rhoManager := 2072445, rhoDevice := 2072445, ratioI := 16384, ratioQ := 0 }, by decide +kernel⟩

/-- Clause 16 of CalibrationRuns is met. -/
theorem witness_CalibrationRuns_16 :
    ∃ (s : State),
      s.cal.entry = none ∧
      (s.cal.kind 0).converged = false :=
  ⟨up, by decide +kernel⟩

/-- Clause 17 of CalibrationRuns is met. -/
theorem witness_CalibrationRuns_17 :
    ∃ (s : State),
      s.cal.entry = none ∧
      (s.cal.kind 0).converged = true ∧
      s.nv.queue = [] ∧
      Tab.find? s.nv.calStep s.path.step = none ∧
      Tab.find? s.cal.storedAt (256 + s.path.step) = none :=
  ⟨{ up with cal := { up.cal with kinds := [(0, { converged := true })] } }, by decide +kernel⟩

/-- Clause 18 of CalibrationRuns is met. -/
theorem witness_CalibrationRuns_18 :
    ∃ (s : State) (t : Nat) (e : Nat) (a : Nat),
      s.cal.entry = some e ∧
      (∀ k : Fin 10, (s.cal.kind k).converged = true) ∧
      s.nv.queue = [] ∧
      Tab.find? s.nv.calChannel e = none ∧
      Tab.find? s.cal.storedAt e = some a ∧
      s.now ≤ t ∧
      a + s.cal.storeIntervalS * 384000000000 ≤ t ∧
      0 ≤ s.thermal.tj ∧
      s.thermal.tj ≤ 10000 :=
  ⟨{ up with cal := { up.cal with entry := some 255, storedAt := [(255, 5)], kinds := (List.range 10).map (fun k => (k, ({ converged := true } : CalKind))) } }, 230400000000005, 255, 5, by decide +kernel⟩

/-- Clause 1 of CascadeChain is met. -/
theorem witness_CascadeChain_1 :
    ∃ (s : State) (r : Running),
      Runs s r specLclSetChain ∧
      s.role = .manager ∧
      u8 r.cmd.payload 0 ≤ 16 ∧
      u8 r.cmd.payload 1 ≤ 1 ∧
      10 ≤ u16 r.cmd.payload 2 ∧
      u16 r.cmd.payload 2 ≤ 10000 ∧
      50 ≤ u16 r.cmd.payload 4 ∧
      u16 r.cmd.payload 4 ≤ 500 ∧
      0 ≤ s.thermal.tj ∧
      s.thermal.tj ≤ 10000 ∧
      s.lcl.anyTraining = false :=
  ⟨asked boss (ask2 0x0B01 ([16#8, 1#8] ++ le 2 10000 ++ le 2 500 ++ zeros 2)), ask2 0x0B01 ([16#8, 1#8] ++ le 2 10000 ++ le 2 500 ++ zeros 2), by decide +kernel⟩

/-- Clause 2 of CascadeChain is met. -/
theorem witness_CascadeChain_2 :
    ∃ (s : State) (r : Running),
      Runs s r specLclSetChain ∧
      chainRanges r.cmd.payload = false :=
  ⟨asked up (ask 0x0B01 ([17#8, 1#8] ++ le 2 10000 ++ le 2 500 ++ zeros 2)), ask 0x0B01 ([17#8, 1#8] ++ le 2 10000 ++ le 2 500 ++ zeros 2), by decide +kernel⟩

/-- Clause 3 of CascadeChain is met. -/
theorem witness_CascadeChain_3 :
    ∃ (s : State) (r : Running),
      Runs s r specLclSetChain ∧
      chainRanges r.cmd.payload = true ∧
      s.role = .standalone :=
  ⟨asked up (ask 0x0B01 ([16#8, 1#8] ++ le 2 10 ++ le 2 50 ++ zeros 2)), ask 0x0B01 ([16#8, 1#8] ++ le 2 10 ++ le 2 50 ++ zeros 2), by decide +kernel⟩

/-- Clause 4 of CascadeChain is met. -/
theorem witness_CascadeChain_4 :
    ∃ (s : State) (r : Running),
      Runs s r specLclSetChain ∧
      chainRanges r.cmd.payload = true ∧
      s.role = .manager ∧
      (s.thermal.tj < 0 ∨ 10000 < s.thermal.tj) :=
  ⟨asked { boss with thermal := { boss.thermal with tj := -1 } } (ask2 0x0B01 ([16#8, 1#8] ++ le 2 10 ++ le 2 50 ++ zeros 2)), ask2 0x0B01 ([16#8, 1#8] ++ le 2 10 ++ le 2 50 ++ zeros 2), by decide +kernel⟩

/-- Clause 5 of CascadeChain is met. -/
theorem witness_CascadeChain_5 :
    ∃ (s : State) (r : Running),
      Runs s r specLclSetChain ∧
      chainRanges r.cmd.payload = true ∧
      s.role = .manager ∧
      0 ≤ s.thermal.tj ∧
      s.thermal.tj ≤ 10000 ∧
      s.lcl.anyTraining = true :=
  ⟨asked trains (ask2 0x0B01 ([16#8, 1#8] ++ le 2 10 ++ le 2 50 ++ zeros 2)), ask2 0x0B01 ([16#8, 1#8] ++ le 2 10 ++ le 2 50 ++ zeros 2), by decide +kernel⟩

/-- Clause 6 of CascadeChain is met. -/
theorem witness_CascadeChain_6 :
    ∃ (s : State) (r : Running),
      Runs s r specLclGetStatus :=
  ⟨asked linked (ask2 0x0B02 (zeros 0)), ask2 0x0B02 (zeros 0), by decide +kernel⟩

/-- Clause 7 of CascadeChain is met. -/
theorem witness_CascadeChain_7 :
    ∃ (s : State) (r : Running) (h : Nat),
      Runs s r specLclRetrain ∧
      s.role = .manager ∧
      u8 r.cmd.payload 0 ≤ 14 ∧
      s.lcl.hopOf (u8 r.cmd.payload 0) = some h ∧
      s.upperReady h = true ∧
      s.lcl.anyTraining = false :=
  ⟨asked { boss with lcl := { boss.lcl with dCfg := 16, position := 15, positions := [(14, { state := .joined, joinedOnce := true })] } } (askF 0x0B03 ([14#8, 0#8, 0#8, 0#8])), askF 0x0B03 ([14#8, 0#8, 0#8, 0#8]), 0, by decide +kernel⟩

/-- Clause 8 of CascadeChain is met. -/
theorem witness_CascadeChain_8 :
    ∃ (s : State) (r : Running),
      Runs s r specLclRetrain ∧
      s.role = .manager ∧
      u8 r.cmd.payload 0 ≤ 14 ∧
      s.lcl.dCfg < u8 r.cmd.payload 0 + 2 :=
  ⟨asked boss (ask2 0x0B03 ([14#8, 0#8, 0#8, 0#8])), ask2 0x0B03 ([14#8, 0#8, 0#8, 0#8]), by decide +kernel⟩

/-- Clause 9 of CascadeChain is met. -/
theorem witness_CascadeChain_9 :
    ∃ (s : State) (r : Running) (h : Nat),
      Runs s r specLclGetLink ∧
      s.role = .manager ∧
      u8 r.cmd.payload 0 ≤ 14 ∧
      s.lcl.hopOf (u8 r.cmd.payload 0) = some h :=
  ⟨asked linked (ask2 0x0B04 ([1#8, 0#8, 0#8, 0#8])), ask2 0x0B04 ([1#8, 0#8, 0#8, 0#8]), 0, by decide +kernel⟩

/-- Clause 10 of CascadeChain is met. -/
theorem witness_CascadeChain_10 :
    ∃ (s : State) (r : Running),
      Runs s r specLclLastRelay ∧
      s.role = .manager ∧
      u8 r.cmd.payload 0 ≤ 3 :=
  ⟨asked { boss with cmd := { boss.cmd with lastRelay := [(3, { opcode := 0x0401, tag := 7, status := [(1, 5), (15, 65535)] })] } } (ask2 0x0B05 ([3#8, 0#8, 0#8, 0#8])), ask2 0x0B05 ([3#8, 0#8, 0#8, 0#8]), by decide +kernel⟩

/-- Clause 11 of CascadeChain is met. -/
theorem witness_CascadeChain_11 :
    ∃ (s : State) (h : Fin 16) (p : Nat),
      s.role = .manager ∧
      s.lcl.lowerOf h = some p ∧
      (s.lcl.pos p).state ≠ .joined ∧
      s.upperReady h = true :=
  ⟨boss, 1, 0, by decide +kernel⟩

/-- Clause 12 of CascadeChain is met. -/
theorem witness_CascadeChain_12 :
    ∃ (s : State) (h : Fin 16),
      s.role = .manager ∧
      s.lcl.dCfg < h.val + 2 ∧
      s.lcl.discovering = false :=
  ⟨boss, 15, by decide +kernel⟩

/-- Clause 13 of CascadeChain is met. -/
theorem witness_CascadeChain_13 :
    ∃ (s : State),
      s.role = .worker ∧
      s.radio.clock ≠ .locked :=
  ⟨{ hand with radio := { hand.radio with clock := .freewheel } }, by decide +kernel⟩

/-- Clause 14 of CascadeChain is met. -/
theorem witness_CascadeChain_14 :
    ∃ (s : State) (h : Fin 16) (x : List LaneTrain) (p : Nat),
      s.role = .manager ∧
      (s.lcl.hop h).training = true ∧
      (trainHop (s.lcl.hop h) x).2 = false ∧
      s.lcl.lowerOf h = some p ∧
      p ≤ 15 ∧
      (∀ q : Fin 16, (s.lcl.pos q).state ≠ .joined) :=
  ⟨{ trains with lcl := { trains.lcl with positions := [(1, { state := .training })] } }, 1, [], 0, by decide +kernel⟩

/-- Clause 16 of CascadeChain is met. -/
theorem witness_CascadeChain_16 :
    ∃ (s : State) (h : Fin 16) (x : List LaneTrain) (p : Nat),
      s.role = .manager ∧
      (s.lcl.hop h).training = true ∧
      (trainHop (s.lcl.hop h) x).2 = true ∧
      s.lcl.lowerOf h = some p ∧
      p < s.lcl.position :=
  ⟨trains, 1, lanes, 0, by decide +kernel⟩

/-- Clause 17 of CascadeChain is met. -/
theorem witness_CascadeChain_17 :
    ∃ (s : State) (x : List LaneTrain),
      s.role = .worker ∧
      (s.lcl.hop 0).training = true ∧
      (trainHop (s.lcl.hop 0) x).2 = true :=
  ⟨{ hand with lcl := { hand.lcl with joined := false, cut := true, hops := [(0, { training := true })] } }, lanes, by decide +kernel⟩

/-- Clause 18 of CascadeChain is met. -/
theorem witness_CascadeChain_18 :
    ∃ (s : State) (h : Fin 15) (p : Nat),
      s.role = .manager ∧
      s.lcl.lowerOf h = some p ∧
      (s.lcl.pos p).state = .cutOff ∧
      s.upperReady h = true ∧
      (s.lcl.hop h).training = false :=
  ⟨{ boss with lcl := { boss.lcl with positions := [(1, { state := .cutOff })] } }, 0, 1, by decide +kernel⟩

/-- Clause 19 of CascadeChain is met. -/
theorem witness_CascadeChain_19 :
    ∃ (s : State) (h : Fin 15) (p : Nat),
      s.role = .manager ∧
      s.lcl.lowerOf h = some p ∧
      (s.lcl.pos p).state = .joined :=
  ⟨linked, 0, 1, by decide +kernel⟩

/-- Clause 20 of CascadeChain is met. -/
theorem witness_CascadeChain_20 :
    ∃ (s : State) (h : Fin 15) (l : Fin 12) (n : Nat),
      s.role = .manager ∧
      n < 16 ∧
      (Tab.get (s.lcl.hop h).lanes l {}).state = .inUse :=
  ⟨linked, 0, 11, 15, by decide +kernel⟩

/-- Clause 21 of CascadeChain is met. -/
theorem witness_CascadeChain_21 :
    ∃ (s : State) (h : Fin 15) (l : Fin 12) (n : Nat) (p : Nat),
      s.role = .manager ∧
      16 ≤ n ∧
      (Tab.get (s.lcl.hop h).lanes l {}).state = .inUse ∧
      s.lcl.lowerOf h = some p :=
  ⟨linked, 0, 11, 16, 1, by decide +kernel⟩

/-- Clause 22 of CascadeChain is met. -/
theorem witness_CascadeChain_22 :
    ∃ (s : State),
      s.role = .worker :=
  ⟨{ hand with tx := (queued .frame).tx }, by decide +kernel⟩

/-- Clause 23 of CascadeChain is met. -/
theorem witness_CascadeChain_23 :
    ∃ (s : State),
      s.role ≠ .worker :=
  ⟨boss, by decide +kernel⟩

/-- Clause 1 of CascadeTimeAndStrobes is met. -/
theorem witness_CascadeTimeAndStrobes_1 :
    ∃ (x : List Probe),
      x.length ≠ 1024 :=
  ⟨[], by decide +kernel⟩

/-- Clause 2 of CascadeTimeAndStrobes is met. -/
theorem witness_CascadeTimeAndStrobes_2 :
    ∃ (s : State) (h : Fin 15) (x : List Probe) (p : Nat),
      s.role = .manager ∧
      x.length = 1024 ∧
      s.lcl.lowerOf h = some p ∧
      (s.lcl.pos p).state = .joined :=
  ⟨boss, 0, List.replicate 1024 { t1 := 0, t2 := 5000000, t3 := 6000000, t4 := 11000000 }, 1, by decide +kernel⟩

/-- Clause 3 of CascadeTimeAndStrobes is met. -/
theorem witness_CascadeTimeAndStrobes_3 :
    ∃ (s : State) (x : List Probe),
      s.role = .worker ∧
      s.lcl.joined = true ∧
      x.length = 1024 :=
  ⟨hand, List.replicate 1024 { t1 := 0, t2 := 5000000, t3 := 6000000, t4 := 11000000 }, by decide +kernel⟩

/-- Clause 4 of CascadeTimeAndStrobes is met. -/
theorem witness_CascadeTimeAndStrobes_4 :
    ∃ (s : State),
      s.role = .manager ∧
      s.joinedWorkers ≠ [] :=
  ⟨{ boss with lcl := { boss.lcl with timeSent := some 7 } }, by decide +kernel⟩

/-- Clause 5 of CascadeTimeAndStrobes is met. -/
theorem witness_CascadeTimeAndStrobes_5 :
    ∃ (s : State),
      (s.role ≠ .worker ∨ s.lcl.joined = false ∨ s.lcl.timeMsgAt = none) :=
  ⟨boss, by decide +kernel⟩

/-- Clause 6 of CascadeTimeAndStrobes is met. -/
theorem witness_CascadeTimeAndStrobes_6 :
    ∃ (s : State) (m : Fin 3),
      s.role = .worker ∧
      s.lcl.joined = true ∧
      s.lcl.timeMsgAt ≠ none ∧
      m.val ≠ 0 :=
  ⟨timed, 2, by decide +kernel⟩

/-- Clause 7 of CascadeTimeAndStrobes is met. -/
theorem witness_CascadeTimeAndStrobes_7 :
    ∃ (s : State) (a : Nat),
      s.role = .worker ∧
      s.lcl.timeMsgAt = some a :=
  ⟨timed, 0, by decide +kernel⟩

/-- Clause 8 of CascadeTimeAndStrobes is met. -/
theorem witness_CascadeTimeAndStrobes_8 :
    ∃ (s : State),
      s.role = .worker ∧
      s.lcl.joined = true :=
  ⟨timed, by decide +kernel⟩

/-- Clause 9 of CascadeTimeAndStrobes is met. -/
theorem witness_CascadeTimeAndStrobes_9 :
    ∃ (s : State) (c : Fin 16) (ok : Bool),
      s.role = .worker ∧
      (ok = false ∨ triggerCodes.contains c.val = false) :=
  ⟨hand, 5, true, by decide +kernel⟩

/-- Clause 10 of CascadeTimeAndStrobes is met. -/
theorem witness_CascadeTimeAndStrobes_10 :
    ∃ (s : State) (c : Fin 16),
      s.role = .worker ∧
      (c.val = 1 ∨ c.val = 2 ∨ c.val = 4) ∧
      s.lcl.trigSumPs = 0 :=
  ⟨hand, 4, by decide +kernel⟩

/-- Clause 11 of CascadeTimeAndStrobes is met. -/
theorem witness_CascadeTimeAndStrobes_11 :
    ∃ (s : State) (w : BeamSwap),
      s.role = .worker ∧
      s.lcl.trigSumPs = 0 ∧
      s.beam.host = some w ∧
      w.marked = false ∧
      s.beam.internal = none :=
  ⟨{ hand with beam := { hand.beam with host := some { instant := 9, scheduled := true, cause := 1 } } }, { instant := 9, scheduled := true, cause := 1 }, by decide +kernel⟩

/-- Clause 12 of CascadeTimeAndStrobes is met. -/
theorem witness_CascadeTimeAndStrobes_12 :
    ∃ (s : State) (c : Fin 16),
      s.role = .worker ∧
      (c.val = 8 ∨ c.val = 9) ∧
      s.tx.queue = [] :=
  ⟨hand, 9, by decide +kernel⟩

/-- Clause 13 of CascadeTimeAndStrobes is met. -/
theorem witness_CascadeTimeAndStrobes_13 :
    ∃ (s : State) (a : TrigAction),
      s.lcl.actions = [a] ∧
      a.code = 1 :=
  ⟨{ hand with lcl := { hand.lcl with actions := [{ code := 1, due := 384005 }] } }, { code := 1, due := 384005 }, by decide +kernel⟩

/-- Clause 14 of CascadeTimeAndStrobes is met. -/
theorem witness_CascadeTimeAndStrobes_14 :
    ∃ (s : State) (a : TrigAction),
      s.lcl.actions = [a] ∧
      a.code = 4 :=
  ⟨{ hand with lcl := { hand.lcl with actions := [{ code := 4, due := 384000000000 }] } }, { code := 4, due := 384000000000 }, by decide +kernel⟩

/-- Clause 15 of CascadeTimeAndStrobes is met. -/
theorem witness_CascadeTimeAndStrobes_15 :
    ∃ (s : State),
      s.lcl.actions = [] :=
  ⟨hand, by decide +kernel⟩

/-- Clause 16 of CascadeTimeAndStrobes is met. -/
theorem witness_CascadeTimeAndStrobes_16 :
    ∃ (s : State),
      s.role = .manager ∧
      s.joinedWorkers ≠ [] ∧
      s.lcl.words = [] ∧
      s.time.ratePpb = 0 ∧
      s.time.baseAt ≤ s.now :=
  ⟨boss, by decide +kernel⟩

/-- Clause 17 of CascadeTimeAndStrobes is met. -/
theorem witness_CascadeTimeAndStrobes_17 :
    ∃ (s : State),
      s.role = .manager :=
  ⟨boss, by decide +kernel⟩

/-- Clause 18 of CascadeTimeAndStrobes is met. -/
theorem witness_CascadeTimeAndStrobes_18 :
    ∃ (s : State) (src : Nat) (h : Nat),
      s.role = .manager ∧
      s.knows src = true ∧
      s.lcl.hopOf src = some h :=
  ⟨linked, 1, 0, by decide +kernel⟩

/-- Clause 19 of CascadeTimeAndStrobes is met. -/
theorem witness_CascadeTimeAndStrobes_19 :
    ∃ (s : State) (src : Nat),
      s.role = .manager ∧
      s.knows src = false :=
  ⟨boss, 0, by decide +kernel⟩

/-- Clause 20 of CascadeTimeAndStrobes is met. -/
theorem witness_CascadeTimeAndStrobes_20 :
    ∃ (s : State) (g : Nat),
      s.role = .worker ∧
      s.lcl.joined = true ∧
      g ≤ 15 :=
  ⟨hand, 15, by decide +kernel⟩

/-- Clause 21 of CascadeTimeAndStrobes is met. -/
theorem witness_CascadeTimeAndStrobes_21 :
    ∃ (s : State) (p : Fin 16),
      s.role = .manager ∧
      s.knows p = true ∧
      s.evq.store.length < 256 :=
  ⟨boss, 1, by decide +kernel⟩

/-- Clause 22 of CascadeTimeAndStrobes is met. -/
theorem witness_CascadeTimeAndStrobes_22 :
    ∃ (s : State),
      s.role ≠ .manager :=
  ⟨hand, by decide +kernel⟩

/-- Clause 1 of FabricCommands is met. -/
theorem witness_FabricCommands_1 :
    ∃ (s : State) (r : Running),
      Runs s r specSysFabricGetStatus ∧
      u8 r.cmd.payload 0 % 2 = 0 :=
  ⟨asked up (ask 0x0140 (zeros 4)), ask 0x0140 (zeros 4), by decide +kernel⟩

/-- Clause 2 of FabricCommands is met. -/
theorem witness_FabricCommands_2 :
    ∃ (s : State) (r : Running),
      Runs s r specSysFabricGetStatus ∧
      u8 r.cmd.payload 0 % 2 = 1 :=
  ⟨asked up (ask 0x0140 [1#8, 0#8, 0#8, 0#8]), ask 0x0140 [1#8, 0#8, 0#8, 0#8], by decide +kernel⟩

/-- Clause 4 of FabricCommands is met. -/
theorem witness_FabricCommands_4 :
    ∃ (s : State) (r : Running),
      Runs s r specSysMemGetEcc ∧
      u8 r.cmd.payload 0 % 2 = 0 :=
  ⟨asked up (ask 0x0141 (zeros 4)), ask 0x0141 (zeros 4), by decide +kernel⟩

/-- Clause 5 of FabricCommands is met. -/
theorem witness_FabricCommands_5 :
    ∃ (s : State) (r : Running),
      Runs s r specSysLeaseGet ∧
      u8 r.cmd.payload 0 % 2 = 0 :=
  ⟨asked up (ask 0x0142 (zeros 4)), ask 0x0142 (zeros 4), by decide +kernel⟩

/-- Clause 6 of FabricCommands is met. -/
theorem witness_FabricCommands_6 :
    ∃ (s : State) (r : Running),
      Runs s r specSysProcGetStatus ∧
      u8 r.cmd.payload 0 % 2 = 0 :=
  ⟨asked up (ask 0x0143 (zeros 4)), ask 0x0143 (zeros 4), by decide +kernel⟩

/-- Clause 1 of UnitRevocation is met. -/
theorem witness_UnitRevocation_1 :
    ∃ (s : State) (t : Nat) (owner : Nat) (i : Instr),
      (i = .unitHandshakeStall t owner ∨ i = .unitParityFault t owner) ∧
      owner / 256 % 256 ≠ 3 ∧
      (s.fabUnit owner).restarting = none ∧
      (s.fabUnit owner).heldOut = false :=
  ⟨up, 0, 0x0200, .unitParityFault 0 0x0200, by exact ⟨Or.inr rfl, by decide +kernel⟩⟩

/-- Clause 2 of UnitRevocation is met. -/
theorem witness_UnitRevocation_2 :
    ∃ (s : State) (owner : Nat),
      s.fab.units = [(owner, { missed := 0 })] :=
  ⟨{ up with fab := { units := [(0x0311, { missed := 0 })] } }, 0x0311, by decide +kernel⟩

/-- Clause 3 of UnitRevocation is met. -/
theorem witness_UnitRevocation_3 :
    ∃ (s : State) (owner : Nat),
      s.fab.units = [(owner, { missed := 1 })] ∧
      owner / 256 % 256 ≠ 3 :=
  ⟨{ up with fab := { units := [(0x0211, { missed := 1 })] } }, 0x0211, by decide +kernel⟩

/-- Clause 4 of UnitRevocation is met. -/
theorem witness_UnitRevocation_4 :
    ∃ (s : State) (owner : Nat) (r : Revocation),
      (s.fabUnit owner).restarting = some r :=
  ⟨{ up with fab := { units := [(0x0211, { restarting := some ⟨0x0211, 0, 1, 5⟩ })] } }, 0x0211, ⟨0x0211, 0, 1, 5⟩, by decide +kernel⟩

/-- Clause 1 of FabricFaultsAndWatchdog is met. -/
theorem witness_FabricFaultsAndWatchdog_1 :
    ∃ (s : State) (axis : Fin 2) (index : Fin 6),
      Tab.find? s.fab.spared (6 * axis.val + index.val) = none :=
  ⟨up, 1, 5, by decide +kernel⟩

/-- Clause 2 of FabricFaultsAndWatchdog is met. -/
theorem witness_FabricFaultsAndWatchdog_2 :
    ∃ (s : State) (first : Nat) (axis : Fin 2) (index : Fin 6) (link : Fin 5),
      Tab.find? s.fab.spared (6 * axis.val + index.val) = some first ∧
      first ≠ link.val ∧
      s.boot.fabricFaultAt = none :=
  ⟨{ up with fab := { spared := [(11, 3)] } }, 3, 1, 5, 4, by decide +kernel⟩

/-- Clause 3 of FabricFaultsAndWatchdog is met. -/
theorem witness_FabricFaultsAndWatchdog_3 :
    ∃ (s : State) (t0 : Nat),
      s.boot.fabricFaultAt = some t0 :=
  ⟨{ up with boot := { up.boot with fabricFaultAt := some 3 } }, 3, by decide +kernel⟩

/-- Clause 4 of FabricFaultsAndWatchdog is met. -/
theorem witness_FabricFaultsAndWatchdog_4 :
    ∃ (l : List Nat),
      l.length = 36 ∧
      (∀ v ∈ l, 740 ≤ v) :=
  ⟨List.replicate 36 740, by decide +kernel⟩

/-- Clause 7 of FabricFaultsAndWatchdog is met. -/
theorem witness_FabricFaultsAndWatchdog_7 :
    ∃ (s : State),
      s.boot.watchdogExpired = none :=
  ⟨up, by decide +kernel⟩

/-- Clause 8 of FabricFaultsAndWatchdog is met. -/
theorem witness_FabricFaultsAndWatchdog_8 :
    ∃ (s : State) (t : Nat),
      s.boot.watchdogExpired = none ∧
      s.boot.stage ≠ 0 ∧
      s.boot.watchdogAt + 97 * 384000000 ≤ max s.now t :=
  ⟨up, 97 * 384000000, by decide +kernel⟩

/-- Clause 9 of FabricFaultsAndWatchdog is met. -/
theorem witness_FabricFaultsAndWatchdog_9 :
    ∃ (s : State) (t0 : Nat),
      s.boot.watchdogExpired = some t0 :=
  ⟨{ up with boot := { up.boot with watchdogExpired := some 3 } }, 3, by decide +kernel⟩

/-- Clause 1 of DmaTransfers is met. -/
theorem witness_DmaTransfers_1 :
    ∃ (s : State) (c : Fin 8) (v : Word),
      s.hostAccess = true ∧
      v.getLsbD 0 = true ∧
      v.getLsbD 1 = false ∧
      v.getLsbD 2 = false ∧
      (s.channel c).state = .idle ∧
      0 < (s.channel c).count ∧
      dmaFault (s.channel c).src.toNat (s.channel c).dst.toNat (s.channel c).count = none :=
  ⟨{ up with dma := [(7, { src := 0x10000000#64, dst := 0x10FFFFFF#64, count := 1 })] }, 7, 1#32, by decide +kernel⟩

/-- Clause 2 of DmaTransfers is met. -/
theorem witness_DmaTransfers_2 :
    ∃ (s : State) (c : Fin 8) (v : Word),
      s.hostAccess = true ∧
      v.getLsbD 1 = true ∧
      v.getLsbD 0 = false ∧
      (s.channel c).state = .running :=
  ⟨{ up with dma := [(0, { state := .running })] }, 0, 2#32, by decide +kernel⟩

/-- Clause 3 of DmaTransfers is met. -/
theorem witness_DmaTransfers_3 :
    ∃ (s : State) (c : Fin 8) (x : Transfer),
      s.memoriesWf = true ∧
      (s.channel c).state = .running ∧
      (s.channel c).chain = false ∧
      (s.channel c).job = some x ∧
      x.moved = 0 ∧
      x.full = false ∧
      hostSpace x.src = false ∧
      hostSpace x.dst = false ∧
      s.dmaPoison x = none :=
  ⟨{ up with dma := [(0, { state := .running, job := some { src := 0x10000000, dst := 0x10000001, count := 3 } })] }, 0, { src := 0x10000000, dst := 0x10000001, count := 3 }, by decide +kernel⟩

/-- Clause 4 of DmaTransfers is met. -/
theorem witness_DmaTransfers_4 :
    ∃ (s : State) (c : Fin 8) (x : Transfer),
      (s.channel c).state = .running ∧
      (s.channel c).tailCheck = false ∧
      (s.channel c).job = some x ∧
      x.half = true ∧
      x.halfDone = false ∧
      x.moved = 0 ∧
      (s.channel c).msixEn = false ∧
      (s.channel c).eventEn = false ∧
      hostSpace x.src = false ∧
      hostSpace x.dst = false ∧
      s.dmaPoison x = none :=
  ⟨{ up with dma := [(0, { state := .running, job := some { src := 0x10000000, dst := 0x10001000, count := 3, half := true } })] }, 0, { src := 0x10000000, dst := 0x10001000, count := 3, half := true }, by decide +kernel⟩

/-- Clause 5 of DmaTransfers is met. -/
theorem witness_DmaTransfers_5 :
    ∃ (s : State) (c : Fin 8) (x : Transfer),
      (s.channel c).state = .running ∧
      (s.channel c).chain = true ∧
      (s.channel c).tailCheck = false ∧
      (s.channel c).job = some x ∧
      x.count = 0 ∧
      x.moved = 0 ∧
      x.full = false ∧
      x.last = true ∧
      s.dmaPoison x = none ∧
      hostSpace x.dst = false ∧
      hostSpace (s.channel c).cur = false :=
  ⟨{ up with dma := [(0, { state := .running, ctrl := 4#32, cur := 0x11800000, job := some { src := 0x10000000, dst := 0x10001000, count := 0 } })] }, 0, { src := 0x10000000, dst := 0x10001000, count := 0 }, by decide +kernel⟩

/-- Clause 6 of DmaTransfers is met. -/
theorem witness_DmaTransfers_6 :
    ∃ (s : State) (c : Fin 8) (tail : List Byte),
      (s.channel c).state = .running ∧
      (s.channel c).tailCheck = true ∧
      (s.channel c).eventEn = false ∧
      u16 (s.descBytes (s.channel c).cur tail) 0x14 % 2 = 1 :=
  ⟨{ up with mem := [(0x11800014, 1#8)], dma := [(0, { state := .running, ctrl := 4#32, cur := 0x11800000, tailCheck := true })] }, 0, [], by decide +kernel⟩

/-- Clause 7 of DmaTransfers is met. -/
theorem witness_DmaTransfers_7 :
    ∃ (s : State) (c : Fin 8),
      (s.channel c).state = .running ∧
      (s.channel c).job = none ∧
      (s.channel c).msixEn = false :=
  ⟨{ up with dma := [(0, { state := .running })] }, 0, by decide +kernel⟩

/-- Clause 9 of DmaTransfers is met. -/
theorem witness_DmaTransfers_9 :
    ∃ (src : Nat) (dst : Nat) (n : Nat),
      n ≤ 0x4000000 ∧
      2 ^ 63 ≤ src ∧
      2 ^ 63 ≤ dst :=
  ⟨2 ^ 63, 2 ^ 64 - 1, 0x4000000, by decide +kernel⟩

/-- Clause 10 of DmaTransfers is met. -/
theorem witness_DmaTransfers_10 :
    ∃ (src : Nat) (dst : Nat) (n : Nat),
      0 < n ∧
      n ≤ 0x4000000 ∧
      2 ^ 63 ≤ src ∧
      0x11000000 ≤ dst ∧
      dst < 0x11800000 :=
  ⟨2 ^ 63, 0x117FFFFF, 0x4000000, by decide +kernel⟩

/-- Clause 1 of MailboxHandshake is met. -/
theorem witness_MailboxHandshake_1 :
    ∃ (s : State),
      s.hostAccess = true :=
  ⟨up, by decide +kernel⟩

/-- Clause 2 of MailboxHandshake is met. -/
theorem witness_MailboxHandshake_2 :
    ∃ (s : State),
      s.hostAccess = true :=
  ⟨up, by decide +kernel⟩

/-- Clause 3 of MailboxHandshake is met. -/
theorem witness_MailboxHandshake_3 :
    ∃ (s : State) (n : Fin 4),
      s.boot.ready = true ∧
      (s.host.mailbox n).state = .pending ∧
      (∀ m : Fin 4, m ≠ n → (s.host.mailbox m).state ≠ .pending) ∧
      opcodeKnown (cmdOf (s.host.mailbox n).area).opcode = true :=
  ⟨{ up with host := { up.host with mbx := [(3, { area := [0x01#8, 0x01#8], state := .pending })] } }, 3, by decide +kernel⟩

/-- Clause 4 of MailboxHandshake is met. -/
theorem witness_MailboxHandshake_4 :
    ∃ (s : State),
      s.boot.ready = true ∧
      s.cmd.running = [] ∧
      (∀ n : Fin 4, (s.host.mailbox n).state = .pending ∧ opcodeKnown (cmdOf (s.host.mailbox n).area).opcode = true) :=
  ⟨{ up with host := { up.host with mbx := (List.range 4).map (fun n => (n, { area := [0x01#8, 0x01#8], state := .pending })) } }, by decide +kernel⟩

/-- Clause 1 of HostRegisterWrites is met. -/
theorem witness_HostRegisterWrites_1 :
    ∃ (s : State) (a : Byte) (b : Byte) (c : Byte) (d : Byte) (w : Word),
      s.hostAccess = true ∧
      w = BitVec.ofNat 32 (a.toNat + 256 * b.toNat + 65536 * c.toNat + 16777216 * d.toNat) :=
  ⟨up, 1#8, 2#8, 3#8, 0xFF#8, 0xFF030201#32, by decide +kernel⟩

/-- Clause 2 of HostRegisterWrites is met. -/
theorem witness_HostRegisterWrites_2 :
    ∃ (s : State) (data : List (Option Byte)) (off : Nat),
      s.hostAccess = true ∧
      off ∈ [0x0000, 0x0004, 0x0008, 0x000C, 0x0010, 0x0018, 0x001C, 0x0214, 0x0220, 0x0224, 0x0308, 0x0400, 0x1800, 0x3000] ∧
      data.length = 4 :=
  ⟨up, [some 1#8, some 1#8, some 1#8, some 1#8], 0x0224, by decide +kernel⟩

/-- Clause 3 of HostRegisterWrites is met. -/
theorem witness_HostRegisterWrites_3 :
    ∃ (s : State) (n : Fin 4) (o : Nat),
      s.hostAccess = true ∧
      o < 0x1010 ∧
      (s.host.mailbox n).state = .idle :=
  ⟨up, 3, 0x100F, by decide +kernel⟩

/-- Clause 4 of HostRegisterWrites is met. -/
theorem witness_HostRegisterWrites_4 :
    ∃ (s : State) (v : Fin 32),
      s.hostAccess = true ∧
      s.host.msixPending.getLsbD v = true :=
  ⟨{ up with host := { up.host with msixPending := 0x80000000#32 } }, 31, by decide +kernel⟩

/-- Clause 5 of HostRegisterWrites is met. -/
theorem witness_HostRegisterWrites_5 :
    ∃ (s : State) (off : Nat),
      s.memoriesWf = true ∧
      s.hostAccess = true ∧
      (off < 0x1000000 ∨ (0x1800000 ≤ off ∧ off < 0x1C00000)) :=
  ⟨up, 0x1BFFFFF, by decide +kernel⟩

/-- Clause 6 of HostRegisterWrites is met. -/
theorem witness_HostRegisterWrites_6 :
    ∃ (s : State) (off : Nat),
      s.hostAccess = true ∧
      ((0x1000000 ≤ off ∧ off < 0x1600000) ∨ (0x2000000 ≤ off ∧ off < 0x2400000)) :=
  ⟨up, 0x23FFFFF, by decide +kernel⟩

/-- Clause 1 of EventRingWrites is met. -/
theorem witness_EventRingWrites_1 :
    ∃ (s : State),
      s.hostAccess = true ∧
      s.evq.enabled = false ∧
      s.boot.ready = true ∧
      s.evq.store = [] :=
  ⟨up, by decide +kernel⟩

/-- Clause 2 of EventRingWrites is met. -/
theorem witness_EventRingWrites_2 :
    ∃ (s : State),
      s.hostAccess = true ∧
      s.evq.enabled = true :=
  ⟨{ up with evq := { ctrl := 1#32, running := true } }, by decide +kernel⟩

/-- Clause 3 of EventRingWrites is met. -/
theorem witness_EventRingWrites_3 :
    ∃ (s : State),
      s.hostAccess = true :=
  ⟨up, by decide +kernel⟩

/-- Clause 4 of EventRingWrites is met. -/
theorem witness_EventRingWrites_4 :
    ∃ (s : State) (e : EvRec) (rest : List EvRec),
      s.ringOpen = true ∧
      s.evq.store = e :: rest ∧
      e.severity ≠ 4 ∧
      s.evq.owed = 0 ∧
      s.evq.fill < s.evq.size - 4 ∧
      s.evq.modCount = 1 :=
  ⟨{ up with evq := { ctrl := 0x1000D#32, running := true, prod := 59, store := [up.record 0x0102 1 []] } }, up.record 0x0102 1 [], [], by decide +kernel⟩

/-- Clause 5 of EventRingWrites is met. -/
theorem witness_EventRingWrites_5 :
    ∃ (s : State) (e : EvRec) (rest : List EvRec),
      s.ringOpen = true ∧
      s.evq.store = e :: rest ∧
      e.severity ≠ 4 ∧
      s.evq.size - 4 ≤ s.evq.fill :=
  ⟨{ up with evq := { ctrl := 0x1000D#32, running := true, prod := 60, store := [up.record 0x0102 1 []] } }, up.record 0x0102 1 [], [], by decide +kernel⟩

/-- Clause 6 of EventRingWrites is met. -/
theorem witness_EventRingWrites_6 :
    ∃ (s : State) (t0 : Nat),
      s.evq.firstUnnotified = some t0 :=
  ⟨{ up with evq := { ctrl := 0x1000D#32, running := true, firstUnnotified := some 7 } }, 7, by decide +kernel⟩

/-- Clause 7 of EventRingWrites is met. -/
theorem witness_EventRingWrites_7 :
    ∃ (s : State),
      s.evq.store = [] :=
  ⟨up, by decide +kernel⟩

/-- Clause 1 of FatalEventTakesReservedSlot is met. -/
theorem witness_FatalEventTakesReservedSlot_1 :
    ∃ (s : State) (e : EvRec) (rest : List EvRec),
      s.ringOpen = true ∧
      s.evq.store = e :: rest ∧
      e.severity = 4 ∧
      s.evq.fill < s.evq.size :=
  ⟨{ up with evq := { ctrl := 0x1000D#32, running := true, prod := 63, store := [up.record 0x0144 4 []] } }, up.record 0x0144 4 [], [], by decide +kernel⟩

/-- Clause 2 of FatalEventTakesReservedSlot is met. -/
theorem witness_FatalEventTakesReservedSlot_2 :
    ∃ (s : State) (e : EvRec) (rest : List EvRec),
      s.ringOpen = true ∧
      s.evq.store = e :: rest ∧
      e.severity = 4 ∧
      s.evq.size ≤ s.evq.fill :=
  ⟨{ up with evq := { ctrl := 0x1000D#32, running := true, prod := 64, store := [up.record 0x0144 4 []] } }, up.record 0x0144 4 [], [], by decide +kernel⟩

/-- Clause 3 of FatalEventTakesReservedSlot is met. -/
theorem witness_FatalEventTakesReservedSlot_3 :
    ∃ (q : EventRing) (e : EvRec),
      256 ≤ q.store.length ∧
      e.severity ≠ 4 :=
  ⟨{ store := List.replicate 256 (up.record 0x0144 4 []) }, up.record 0x0102 3 [], by decide +kernel⟩

/-- Clause 4 of FatalEventTakesReservedSlot is met. -/
theorem witness_FatalEventTakesReservedSlot_4 :
    ∃ (q : EventRing) (e : EvRec) (old : EvRec) (before : List EvRec) (after : List EvRec),
      q.store = before ++ old :: after ∧
      (∀ x ∈ before, x.severity = 4) ∧
      old.severity ≠ 4 ∧
      256 ≤ q.store.length ∧
      e.severity = 4 :=
  ⟨{ store := List.replicate 255 (up.record 0x0144 4 []) ++ [up.record 0x0102 1 []] }, up.record 0x0144 4 [], up.record 0x0102 1 [], List.replicate 255 (up.record 0x0144 4 []), [], by decide +kernel⟩

/-- Clause 1 of LinkAndEndpointResets is met. -/
theorem witness_LinkAndEndpointResets_1 :
    ∃ (s : State),
      s.isWorker = false ∧
      s.boot.stage ≠ 0 ∧
      s.evq.store = [] :=
  ⟨up, by decide +kernel⟩

/-- Clause 2 of LinkAndEndpointResets is met. -/
theorem witness_LinkAndEndpointResets_2 :
    ∃ (s : State),
      s.isWorker = false ∧
      s.boot.stage ≠ 0 :=
  ⟨up, by decide +kernel⟩

/-- Clause 3 of LinkAndEndpointResets is met. -/
theorem witness_LinkAndEndpointResets_3 :
    ∃ (s : State),
      s.host.linkUp = true :=
  ⟨up, by decide +kernel⟩

/-- Clause 4 of LinkAndEndpointResets is met. -/
theorem witness_LinkAndEndpointResets_4 :
    ∃ (s : State),
      s.host.linkUp = true ∧
      s.evq.store = [] :=
  ⟨up, by decide +kernel⟩

/-- Clause 5 of LinkAndEndpointResets is met. -/
theorem witness_LinkAndEndpointResets_5 :
    ∃ (t : Nat) (i : Instr) (down : Bool),
      (i = .perst t ∧ down = true) ∨ (i = .functionLevelReset t ∧ down = false) :=
  ⟨0, .perst 0, true, by exact Or.inl ⟨rfl, rfl⟩⟩

/-- Clause 1 of CommandEnvelope is met. -/
theorem witness_CommandEnvelope_1 :
    ∃ (p : Instr × CmdSpec) (s : State) (r : Running) (st : Nat),
      p ∈ commandRows ∧
      TurnedAway s r p.2 st :=
  ⟨(.sysReset, specSysReset), asked up (ask 0x0103 [0#8]), ask 0x0103 [0#8], 3, by exact ⟨by simp [commandRows, commandRowsSys], by decide +kernel⟩⟩

/-- Clause 2 of CommandEnvelope is met. -/
theorem witness_CommandEnvelope_2 :
    ∃ (p : Instr × CmdSpec) (s : State),
      p ∈ commandRows ∧
      s.nextCommand.map (fun r => r.cmd.opcode) ≠ some p.2.opcode :=
  ⟨(.sysReset, specSysReset), up, by exact ⟨by simp [commandRows, commandRowsSys], by decide +kernel⟩⟩

/-- Clause 3 of CommandEnvelope is met. -/
theorem witness_CommandEnvelope_3 :
    ∃ (sp : CmdSpec) (r : Running),
      (r.cmd.length > 4096 ∨ r.cmd.length < sp.minLen r.cmd.payload) :=
  ⟨specSysReset, ask 0x0103 [0#8, 0xA5#8, 1#8], by decide +kernel⟩

/-- Clause 4 of CommandEnvelope is met. -/
theorem witness_CommandEnvelope_4 :
    ∃ (s : State) (sp : CmdSpec) (r : Running),
      sp.minLen r.cmd.payload ≤ r.cmd.length ∧
      r.cmd.length ≤ 4096 ∧
      r.cascade = false ∧
      s.role ≠ .manager ∧
      r.cmd.target ≠ 0 ∧
      r.cmd.target ≠ 0xFFFF :=
  ⟨up, specSysEcho, { ask 0x0101 [] with cmd := { (ask 0x0101 []).cmd with target := 1 } }, by decide +kernel⟩

/-- Clause 5 of CommandEnvelope is met. -/
theorem witness_CommandEnvelope_5 :
    ∃ (s : State) (sp : CmdSpec) (r : Running),
      sp.minLen r.cmd.payload ≤ r.cmd.length ∧
      r.cmd.length ≤ 4096 ∧
      r.cascade = false ∧
      s.role = .manager ∧
      s.lcl.position < r.cmd.target ∧
      r.cmd.target ≠ 0xFFFF :=
  ⟨boss, specSysEcho, { ask 0x0101 [] with cmd := { (ask 0x0101 []).cmd with target := 3 } }, by decide +kernel⟩

/-- Clause 6 of CommandEnvelope is met. -/
theorem witness_CommandEnvelope_6 :
    ∃ (s : State) (sp : CmdSpec) (r : Running),
      sp.minLen r.cmd.payload ≤ r.cmd.length ∧
      r.cmd.length ≤ 4096 ∧
      r.cascade = false ∧
      s.role = .manager ∧
      r.cmd.target < s.lcl.position ∧
      r.cmd.target ≠ 0xFFFF ∧
      (Tab.get s.lcl.positions r.cmd.target {}).state ≠ .joined :=
  ⟨boss, specSysEcho, ask 0x0101 [], by decide +kernel⟩

/-- Clause 7 of CommandEnvelope is met. -/
theorem witness_CommandEnvelope_7 :
    ∃ (s : State) (sp : CmdSpec) (r : Running),
      sp.minLen r.cmd.payload ≤ r.cmd.length ∧
      r.cmd.length ≤ 4096 ∧
      s.targetCheck r = none ∧
      s.role = .manager ∧
      sp.rule = .allOnly ∧
      r.cmd.target ≠ 0xFFFF :=
  ⟨boss, specSynCommit, { ask 0x0204 (zeros 16) with cmd := { (ask 0x0204 (zeros 16)).cmd with target := 2 } }, by decide +kernel⟩

/-- Clause 8 of CommandEnvelope is met. -/
theorem witness_CommandEnvelope_8 :
    ∃ (s : State) (sp : CmdSpec) (r : Running),
      sp.minLen r.cmd.payload ≤ r.cmd.length ∧
      r.cmd.length ≤ 4096 ∧
      s.targetCheck r = none ∧
      s.role = .worker ∧
      sp.rule = .managerOnly :=
  ⟨hand, specHznGetStatus, { ask 0x0504 [] with cascade := true }, by decide +kernel⟩

/-- Clause 1 of FailedCommandChangesNothing is met. -/
theorem witness_FailedCommandChangesNothing_1 :
    ∃ (p : Instr × CmdSpec) (s : State) (r : Running),
      p ∈ commandRows ∧
      Runs s r p.2 ∧
      s.role = .standalone ∧
      r.cascade = false ∧
      r.orphan = false ∧
      (s.host.mailbox r.mbx).state = .executing :=
  ⟨(.sysReset, specSysReset), asked up (ask 0x0103 [1#8, 0xA5#8, 1#8, 0#8]), ask 0x0103 [1#8, 0xA5#8, 1#8, 0#8], by exact ⟨by simp [commandRows, commandRowsSys], by decide +kernel⟩⟩

/-- Clause 1 of CommandResponse is met. -/
theorem witness_CommandResponse_1 :
    ∃ (s : State) (r : Running),
      Runs s r specSysEcho ∧
      s.relayTargets specSysEcho r = [] ∧
      r.cascade = false ∧
      r.orphan = false :=
  ⟨asked up (ask 0x0101 [7#8]), ask 0x0101 [7#8], by decide +kernel⟩

/-- Clause 2 of CommandResponse is met. -/
theorem witness_CommandResponse_2 :
    ∃ (s : State) (r : Running),
      Runs s r specSysEcho ∧
      s.relayTargets specSysEcho r = [] ∧
      r.cascade = true :=
  ⟨asked hand { ask 0x0101 [7#8] with cascade := true }, { ask 0x0101 [7#8] with cascade := true }, by decide +kernel⟩

/-- Clause 3 of CommandResponse is met. -/
theorem witness_CommandResponse_3 :
    ∃ (s : State) (r : Running),
      Runs s r specSysEcho ∧
      s.relayTargets specSysEcho r = [] ∧
      r.cascade = false ∧
      r.orphan = true :=
  ⟨asked up { ask 0x0101 [7#8] with orphan := true }, { ask 0x0101 [7#8] with orphan := true }, by decide +kernel⟩

/-- Clause 1 of CommandRelay is met. -/
theorem witness_CommandRelay_1 :
    ∃ (s : State) (sp : CmdSpec) (r : Running),
      s.role = .manager ∧
      r.cascade = false ∧
      sp.rule ≠ .managerOnly ∧
      r.cmd.target < s.lcl.position ∧
      r.cmd.target ≠ 0xFFFF :=
  ⟨boss, specSysEcho, { ask 0x0101 [] with cmd := { (ask 0x0101 []).cmd with target := 1 } }, by decide +kernel⟩

/-- Clause 2 of CommandRelay is met. -/
theorem witness_CommandRelay_2 :
    ∃ (s : State) (sp : CmdSpec) (r : Running),
      s.role = .manager ∧
      r.cascade = false ∧
      sp.rule ≠ .managerOnly ∧
      r.cmd.target = 0xFFFF ∧
      sp.noRelay r.cmd.payload = false :=
  ⟨boss, specSysEcho, { ask 0x0101 [] with cmd := { (ask 0x0101 []).cmd with target := 0xFFFF } }, by decide +kernel⟩

/-- Clause 3 of CommandRelay is met. -/
theorem witness_CommandRelay_3 :
    ∃ (s : State),
      s.role = .standalone :=
  ⟨up, by decide +kernel⟩

/-- Clause 4 of CommandRelay is met. -/
theorem witness_CommandRelay_4 :
    ∃ (s : State) (r : Running),
      s.nextCommand = some r ∧
      r.cmd.opcode = 0x0101 ∧
      r.cmd.length ≤ 4096 ∧
      s.role = .manager ∧
      r.cascade = false ∧
      r.cmd.target < s.lcl.position ∧
      r.cmd.target ≠ 0xFFFF ∧
      (Tab.get s.lcl.positions r.cmd.target {}).state = .joined :=
  ⟨asked boss { ask 0x0101 [] with cmd := { (ask 0x0101 []).cmd with target := 1 } }, { ask 0x0101 [] with cmd := { (ask 0x0101 []).cmd with target := 1 } }, by decide +kernel⟩

/-- Clause 5 of CommandRelay is met. -/
theorem witness_CommandRelay_5 :
    ∃ (s : State) (sp : CmdSpec) (r : Running) (e : CmdEffect),
      e.reply.status = 0 ∧
      s.relayTargets sp r = [] ∧
      e.defer = true :=
  ⟨up, specSysNvWrite, ask 0x0111 [], .later up [], by decide +kernel⟩

/-- Clause 1 of SystemCommands is met. -/
theorem witness_SystemCommands_1 :
    ∃ (s : State) (r : Running),
      Runs s r specSysEcho :=
  ⟨asked up (ask 0x0101 [7#8]), ask 0x0101 [7#8], by decide +kernel⟩

/-- Clause 2 of SystemCommands is met. -/
theorem witness_SystemCommands_2 :
    ∃ (s : State) (r : Running),
      Runs s r specSysGetInfo :=
  ⟨asked up (ask 0x0102 []), ask 0x0102 [], by decide +kernel⟩

/-- Clause 3 of SystemCommands is met. -/
theorem witness_SystemCommands_3 :
    ∃ (s : State) (r : Running),
      Runs s r specSysReset ∧
      u8 r.cmd.payload 1 = 0xA5 ∧
      1 ≤ u16 r.cmd.payload 2 ∧
      u16 r.cmd.payload 2 ≤ 1000 ∧
      (u8 r.cmd.payload 0 = 0 ∨ (u8 r.cmd.payload 0 = 1 ∧ s.role = .manager ∧ r.cascade = false ∧ (r.cmd.target = 0xFFFF ∨ r.cmd.target = s.lcl.position))) :=
  ⟨asked up (ask 0x0103 [0#8, 0xA5#8, 0xE8#8, 3#8]), ask 0x0103 [0#8, 0xA5#8, 0xE8#8, 3#8], by decide +kernel⟩

/-- Clause 4 of SystemCommands is met. -/
theorem witness_SystemCommands_4 :
    ∃ (s : State) (r : Running),
      Runs s r specSysReset ∧
      u8 r.cmd.payload 0 = 1 ∧
      s.role ≠ .manager :=
  ⟨asked up (ask 0x0103 [1#8, 0xA5#8, 1#8, 0#8]), ask 0x0103 [1#8, 0xA5#8, 1#8, 0#8], by decide +kernel⟩

/-- Clause 5 of SystemCommands is met. -/
theorem witness_SystemCommands_5 :
    ∃ (s : State) (r : Running),
      Runs s r specSysReset ∧
      u8 r.cmd.payload 0 = 0 ∧
      u8 r.cmd.payload 1 ≠ 0xA5 :=
  ⟨asked up (ask 0x0103 [0#8, 0xA4#8, 1#8, 0#8]), ask 0x0103 [0#8, 0xA4#8, 1#8, 0#8], by decide +kernel⟩

/-- Clause 6 of SystemCommands is met. -/
theorem witness_SystemCommands_6 :
    ∃ (s : State) (r : Running),
      Runs s r specSysSetEventFilter ∧
      (∀ k : Fin 15, u8 r.cmd.payload (k.val + 1) ≤ 4) :=
  ⟨asked up (ask 0x0104 (List.replicate 16 4#8)), ask 0x0104 (List.replicate 16 4#8), by decide +kernel⟩

/-- Clause 7 of SystemCommands is met. -/
theorem witness_SystemCommands_7 :
    ∃ (s : State) (r : Running),
      Runs s r specSysNvGetInfo :=
  ⟨asked up (ask 0x0110 []), ask 0x0110 [], by decide +kernel⟩

/-- Clause 1 of NonVolatileAndFirmwareCommands is met. -/
theorem witness_NonVolatileAndFirmwareCommands_1 :
    ∃ (s : State) (r : Running),
      Runs s r specSysNvWrite ∧
      1 ≤ u32 r.cmd.payload 8 ∧
      u32 r.cmd.payload 8 ≤ 786432 ∧
      u32 r.cmd.payload 0 + u32 r.cmd.payload 8 ≤ 0x400000 ∧
      0x300000 ≤ u32 r.cmd.payload 4 ∧
      u32 r.cmd.payload 4 + u32 r.cmd.payload 8 ≤ 0x3C0000 ∧
      s.nv.writer = .idle ∧
      0 ≤ s.thermal.tj ∧
      s.thermal.tj ≤ 10000 :=
  ⟨asked up (ask 0x0111 (le 4 0x3FFFFF ++ le 4 0x3BFFFF ++ le 4 1 ++ zeros 4)), ask 0x0111 (le 4 0x3FFFFF ++ le 4 0x3BFFFF ++ le 4 1 ++ zeros 4), by decide +kernel⟩

/-- Clause 2 of NonVolatileAndFirmwareCommands is met. -/
theorem witness_NonVolatileAndFirmwareCommands_2 :
    ∃ (s : State) (r : Running),
      Runs s r specSysNvWrite ∧
      1 ≤ u32 r.cmd.payload 8 ∧
      u32 r.cmd.payload 8 ≤ 786432 ∧
      u32 r.cmd.payload 0 + u32 r.cmd.payload 8 ≤ 0x400000 ∧
      0x300000 ≤ u32 r.cmd.payload 4 ∧
      u32 r.cmd.payload 4 + u32 r.cmd.payload 8 ≤ 0x3C0000 ∧
      s.nv.writer ≠ .idle :=
  ⟨{ asked up (ask 0x0111 (le 4 0 ++ le 4 0x300000 ++ le 4 786432 ++ zeros 4)) with nv := { writer := .fwInstall } }, ask 0x0111 (le 4 0 ++ le 4 0x300000 ++ le 4 786432 ++ zeros 4), by decide +kernel⟩

/-- Clause 3 of NonVolatileAndFirmwareCommands is met. -/
theorem witness_NonVolatileAndFirmwareCommands_3 :
    ∃ (s : State) (r : Running) (img : List Byte),
      Runs s r specSysFwInstall ∧
      u8 r.cmd.payload 8 ≤ 1 ∧
      u32 r.cmd.payload 0 % 4096 = 0 ∧
      u32 r.cmd.payload 0 + u32 r.cmd.payload 4 ≤ 0x400000 ∧
      s.boot.source ≠ u8 r.cmd.payload 8 ∧
      4096 ≤ u32 r.cmd.payload 4 ∧
      u32 r.cmd.payload 4 ≤ 1048576 ∧
      s.staged (u32 r.cmd.payload 0) (u32 r.cmd.payload 4) = some img ∧
      s.nv.writer = .idle ∧
      0 ≤ s.thermal.tj ∧
      s.thermal.tj ≤ 10000 :=
  ⟨asked up (ask 0x0120 (le 4 0 ++ le 4 4096 ++ [1#8] ++ zeros 7)), ask 0x0120 (le 4 0 ++ le 4 4096 ++ [1#8] ++ zeros 7), memReadBytes unlisted [] 0x11800000 4096, by refine ⟨by decide +kernel, by decide +kernel, by decide +kernel, by decide +kernel, by decide +kernel, by decide +kernel, by decide +kernel, rfl, by decide +kernel, by decide +kernel, by decide +kernel⟩⟩

/-- Clause 4 of NonVolatileAndFirmwareCommands is met. -/
theorem witness_NonVolatileAndFirmwareCommands_4 :
    ∃ (s : State) (r : Running),
      Runs s r specSysFwActivate ∧
      u8 r.cmd.payload 0 ≤ 1 ∧
      u8 r.cmd.payload 1 = 0xA5 ∧
      (s.nv.bank (u8 r.cmd.payload 0)).valid = true ∧
      s.boot.source ≠ u8 r.cmd.payload 0 :=
  ⟨{ asked up (ask 0x0121 [1#8, 0xA5#8, 0#8, 0#8]) with nv := { bankB := { valid := true } } }, ask 0x0121 [1#8, 0xA5#8, 0#8, 0#8], by decide +kernel⟩

/-- Clause 5 of NonVolatileAndFirmwareCommands is met. -/
theorem witness_NonVolatileAndFirmwareCommands_5 :
    ∃ (s : State) (r : Running),
      Runs s r specSysFwConfirm ∧
      u8 r.cmd.payload 0 = 0xA5 ∧
      s.boot.source = s.firstBank :=
  ⟨asked up (ask 0x0122 [0xA5#8, 0#8, 0#8, 0#8]), ask 0x0122 [0xA5#8, 0#8, 0#8, 0#8], by decide +kernel⟩

/-- Clause 6 of NonVolatileAndFirmwareCommands is met. -/
theorem witness_NonVolatileAndFirmwareCommands_6 :
    ∃ (s : State) (r : Running),
      Runs s r specSysFwConfirm ∧
      u8 r.cmd.payload 0 = 0xA5 ∧
      s.boot.source ≤ 1 ∧
      s.boot.source ≠ s.firstBank ∧
      s.nv.writer = .idle ∧
      0 ≤ s.thermal.tj ∧
      s.thermal.tj ≤ 10000 :=
  ⟨asked { up with boot := { up.boot with source := 1 } } (ask 0x0122 [0xA5#8, 0#8, 0#8, 0#8]), ask 0x0122 [0xA5#8, 0#8, 0#8, 0#8], by decide +kernel⟩

/-- Clause 7 of NonVolatileAndFirmwareCommands is met. -/
theorem witness_NonVolatileAndFirmwareCommands_7 :
    ∃ (s : State) (r : Running) (mbx : Fin 4) (cascade : Bool) (own : Reply),
      s.memoriesWf = true ∧
      s.cmd.running = [r] ∧
      r.mbx = mbx.val ∧
      r.cascade = cascade ∧
      r.cmd.opcode = 0x0111 ∧
      r.phase = .deferred own ∧
      u32 r.cmd.payload 4 + u32 r.cmd.payload 8 ≤ 2 ^ 32 :=
  ⟨asked up { ask 0x0111 (le 4 0 ++ le 4 0x300000 ++ le 4 2 ++ zeros 4) with phase := .deferred ⟨0, []⟩ }, { ask 0x0111 (le 4 0 ++ le 4 0x300000 ++ le 4 2 ++ zeros 4) with phase := .deferred ⟨0, []⟩ }, 0, false, ⟨0, []⟩, by decide +kernel⟩

/-- Clause 1 of ResetsAndBarriers is met. -/
theorem witness_ResetsAndBarriers_1 :
    ∃ (s : State) (d : Nat),
      s.cmd.sysReset = some { due := d, chain := false } :=
  ⟨{ up with cmd := { sysReset := some { due := 9, chain := false } } }, 9, by decide +kernel⟩

/-- Clause 2 of ResetsAndBarriers is met. -/
theorem witness_ResetsAndBarriers_2 :
    ∃ (s : State) (d : Nat),
      s.cmd.sysReset = some { due := d, chain := true } :=
  ⟨{ boss with cmd := { sysReset := some { due := 9, chain := true } } }, 9, by decide +kernel⟩

/-- Clause 3 of ResetsAndBarriers is met. -/
theorem witness_ResetsAndBarriers_3 :
    ∃ (s : State) (d : Nat),
      s.cmd.fwReset = some { due := d, chain := false } :=
  ⟨{ up with cmd := { fwReset := some { due := 9, chain := false } } }, 9, by decide +kernel⟩

/-- Clause 4 of ResetsAndBarriers is met. -/
theorem witness_ResetsAndBarriers_4 :
    ∃ (s : State) (v : Word),
      s.hostAccess = true ∧
      v.toNat % 256 = 0xA5 ∧
      v.getLsbD 8 = true :=
  ⟨up, 0x1A5#32, by decide +kernel⟩

/-- Clause 5 of ResetsAndBarriers is met. -/
theorem witness_ResetsAndBarriers_5 :
    ∃ (v : Word),
      (v.toNat % 256 ≠ 0xA5 ∨ v.getLsbD 8 = false) :=
  ⟨0x0A5#32, by decide +kernel⟩

/-- Clause 6 of ResetsAndBarriers is met. -/
theorem witness_ResetsAndBarriers_6 :
    ∃ (s : State) (r : Running) (rest : List Running),
      s.cmd.running = r :: rest ∧
      r.phase = .barrier :=
  ⟨asked up { ask 0x0101 [] with phase := .barrier }, { ask 0x0101 [] with phase := .barrier }, [], by decide +kernel⟩

/-- Clause 1 of RelayedCommands is met. -/
theorem witness_RelayedCommands_1 :
    ∃ (s : State) (r : Running) (rel : Relay) (pos : Nat) (mbx : Fin 4),
      s.findRelayed mbx.val = some (r, none, rel) ∧
      rel.targets = [pos] ∧
      rel.answers = [] ∧
      s.ownBusy r = false :=
  ⟨asked boss (relayed 1), relayed 1, relayTo 1, 1, 0, by decide +kernel⟩

/-- Clause 2 of RelayedCommands is met. -/
theorem witness_RelayedCommands_2 :
    ∃ (s : State) (r : Running) (rel : Relay) (pos : Nat) (mbx : Fin 4),
      s.findRelayed mbx.val = some (r, none, rel) ∧
      rel.targets = [pos] ∧
      rel.answers = [] ∧
      rel.resent = false :=
  ⟨asked boss (relayed 1), relayed 1, relayTo 1, 1, 0, by decide +kernel⟩

/-- Clause 3 of RelayedCommands is met. -/
theorem witness_RelayedCommands_3 :
    ∃ (s : State) (r : Running) (rel : Relay) (pos : Nat) (mbx : Fin 4),
      s.findRelayed mbx.val = some (r, none, rel) ∧
      rel.targets = [pos] ∧
      rel.answers = [] ∧
      rel.reply = none ∧
      s.ownBusy r = false :=
  ⟨asked boss (relayed 1), relayed 1, relayTo 1, 1, 0, by decide +kernel⟩

/-- Clause 4 of RelayedCommands is met. -/
theorem witness_RelayedCommands_4 :
    ∃ (s : State) (mbx : Fin 4) (bytes : List Byte),
      s.isWorker = true ∧
      s.boot.ready = true ∧
      (Tab.find? s.cmd.relayIn mbx.val).map (fun x => x.tag) ≠ some (cmdOf bytes).tag ∧
      opcodeKnown (cmdOf bytes).opcode = true ∧
      s.cmd.running = [] :=
  ⟨hand, 3, [0x01#8, 0x01#8, 5#8], by decide +kernel⟩

/-- Clause 5 of RelayedCommands is met. -/
theorem witness_RelayedCommands_5 :
    ∃ (s : State) (mbx : Fin 4) (bytes : List Byte) (rep : Reply),
      s.isWorker = true ∧
      s.boot.ready = true ∧
      Tab.find? s.cmd.relayIn mbx.val = some ⟨(cmdOf bytes).tag, some rep⟩ :=
  ⟨{ hand with cmd := { relayIn := [(3, ⟨5, some ⟨0, []⟩⟩)] } }, 3, [0x01#8, 0x01#8, 5#8], ⟨0, []⟩, by decide +kernel⟩

/-- Clause 1 of FronthaulTraffic is met. -/
theorem witness_FronthaulTraffic_1 :
    ∃ (s : State) (r : Running),
      Runs s r specFhSetPort ∧
      u8 r.cmd.payload 0 ≤ 3 ∧
      u8 r.cmd.payload 1 = 1 ∧
      u8 r.cmd.payload 2 = (if (s.fh.port (u8 r.cmd.payload 0)).fec = true then 1 else 0) ∧
      u16 r.cmd.payload 4 % 4096 ≤ 4094 ∧
      u8 r.cmd.payload 8 % 2 = 0 :=
  ⟨asked net (ask 0x0A01 ([3#8, 1#8, 0#8, 0#8] ++ le 2 61438 ++ zeros 2 ++ [2#8] ++ zeros 11 ++ le 2 65535 ++ le 2 65535)), ask 0x0A01 ([3#8, 1#8, 0#8, 0#8] ++ le 2 61438 ++ zeros 2 ++ [2#8] ++ zeros 11 ++ le 2 65535 ++ le 2 65535), by decide +kernel⟩

/-- Clause 2 of FronthaulTraffic is met. -/
theorem witness_FronthaulTraffic_2 :
    ∃ (s : State) (r : Running),
      Runs s r specFhSetPort ∧
      (3 < u8 r.cmd.payload 0 ∨ 1 < u8 r.cmd.payload 1 ∨ 1 < u8 r.cmd.payload 2 ∨ u16 r.cmd.payload 4 % 4096 = 4095 ∨ u8 r.cmd.payload 8 % 2 = 1) :=
  ⟨asked net (ask 0x0A01 ([3#8, 1#8, 0#8, 0#8] ++ le 2 4095 ++ zeros 2 ++ [2#8] ++ zeros 11 ++ le 2 65535 ++ le 2 65535)), ask 0x0A01 ([3#8, 1#8, 0#8, 0#8] ++ le 2 4095 ++ zeros 2 ++ [2#8] ++ zeros 11 ++ le 2 65535 ++ le 2 65535), by decide +kernel⟩

/-- Clause 3 of FronthaulTraffic is met. -/
theorem witness_FronthaulTraffic_3 :
    ∃ (s : State) (r : Running),
      Runs s r specFhSetPort ∧
      u8 r.cmd.payload 0 ≤ 3 ∧
      u8 r.cmd.payload 1 = 0 ∧
      u8 r.cmd.payload 2 ≤ 1 ∧
      u16 r.cmd.payload 4 % 4096 ≤ 4094 ∧
      u8 r.cmd.payload 8 % 2 = 0 :=
  ⟨asked { net with fh := { net.fh with ports := [(3, { up := true })] } } (ask 0x0A01 ([3#8, 0#8, 1#8, 0#8] ++ le 2 4094 ++ zeros 2 ++ [2#8] ++ zeros 11 ++ le 2 65535 ++ le 2 65535)), ask 0x0A01 ([3#8, 0#8, 1#8, 0#8] ++ le 2 4094 ++ zeros 2 ++ [2#8] ++ zeros 11 ++ le 2 65535 ++ le 2 65535), by decide +kernel⟩

/-- Clause 4 of FronthaulTraffic is met. -/
theorem witness_FronthaulTraffic_4 :
    ∃ (s : State) (r : Running),
      Runs s r specFhSetStream ∧
      u8 r.cmd.payload 0 ≤ 31 ∧
      u8 r.cmd.payload 1 = 1 ∧
      s.streamOk (parseStream r.cmd.payload) = true ∧
      (s.fh.port (u8 r.cmd.payload 4)).enable = true ∧
      s.fh.streams = [] ∧
      (s.portNeed [(0, parseStream r.cmd.payload)] (u8 r.cmd.payload 4)).1 ≤ 25000000000 * (s.portNeed [(0, parseStream r.cmd.payload)] (u8 r.cmd.payload 4)).2 :=
  ⟨asked net (ask 0x0A02 ([31#8, 1#8, 1#8, 2#8, 0#8, 0#8] ++ le 2 192 ++ le 8 65535 ++ zeros 4 ++ le 2 10 ++ le 2 7 ++ zeros 8)), ask 0x0A02 ([31#8, 1#8, 1#8, 2#8, 0#8, 0#8] ++ le 2 192 ++ le 8 65535 ++ zeros 4 ++ le 2 10 ++ le 2 7 ++ zeros 8), by decide +kernel⟩

/-- Clause 5 of FronthaulTraffic is met. -/
theorem witness_FronthaulTraffic_5 :
    ∃ (s : State) (r : Running),
      Runs s r specFhSetStream ∧
      u8 r.cmd.payload 0 ≤ 31 ∧
      u8 r.cmd.payload 1 ≤ 1 ∧
      s.streamOk (parseStream r.cmd.payload) = true ∧
      (s.fh.port (u8 r.cmd.payload 4)).enable = false :=
  ⟨asked { net with fh := { net.fh with ports := [(0, { enable := false })] } } (ask 0x0A02 ([31#8, 1#8, 1#8, 2#8, 0#8, 0#8] ++ le 2 192 ++ le 8 65535 ++ zeros 4 ++ le 2 10 ++ le 2 7 ++ zeros 8)), ask 0x0A02 ([31#8, 1#8, 1#8, 2#8, 0#8, 0#8] ++ le 2 192 ++ le 8 65535 ++ zeros 4 ++ le 2 10 ++ le 2 7 ++ zeros 8), by decide +kernel⟩

/-- Clause 6 of FronthaulTraffic is met. -/
theorem witness_FronthaulTraffic_6 :
    ∃ (s : State) (r : Running),
      Runs s r specFhSetRecords ∧
      (∀ k : Fin 4, u8 r.cmd.payload k ≤ 3) ∧
      u8 r.cmd.payload 4 ≤ 10 ∧
      s.fh.results = [] ∧
      s.dmd.pool = [] :=
  ⟨asked net (ask 0x0A03 ([3#8, 2#8, 1#8, 0#8, 10#8, 0#8, 0#8, 0#8])), ask 0x0A03 ([3#8, 2#8, 1#8, 0#8, 10#8, 0#8, 0#8, 0#8]), by decide +kernel⟩

/-- Clause 7 of FronthaulTraffic is met. -/
theorem witness_FronthaulTraffic_7 :
    ∃ (s : State) (r : Running),
      Runs s r specFhSetRecords ∧
      10 < u8 r.cmd.payload 4 :=
  ⟨asked net (ask 0x0A03 ([3#8, 2#8, 1#8, 0#8, 11#8, 0#8, 0#8, 0#8])), ask 0x0A03 ([3#8, 2#8, 1#8, 0#8, 11#8, 0#8, 0#8, 0#8]), by decide +kernel⟩

/-- Clause 8 of FronthaulTraffic is met. -/
theorem witness_FronthaulTraffic_8 :
    ∃ (s : State) (r : Running),
      Runs s r specFhGetPortStatus :=
  ⟨asked { net with fh := { net.fh with ports := [(3, { counts := { rxFrames := 7, rtcLate := 9 } })] } } (ask 0x0A06 ([1#8, 0#8, 0#8, 0#8])), ask 0x0A06 ([1#8, 0#8, 0#8, 0#8]), by decide +kernel⟩

/-- Clause 9 of FronthaulTraffic is met. -/
theorem witness_FronthaulTraffic_9 :
    ∃ (s : State) (p : Fin 4),
      s.role ≠ .worker ∧
      (s.fh.port p).enable = true ∧
      (s.fh.port p).up = false ∧
      s.linksStopped = false ∧
      (s.fh.port p).queue = [] ∧
      s.fh.results = [] ∧
      s.dmd.pool = [] :=
  ⟨up, 3, by decide +kernel⟩

/-- Clause 10 of FronthaulTraffic is met. -/
theorem witness_FronthaulTraffic_10 :
    ∃ (s : State) (p : Fin 4),
      s.role ≠ .worker ∧
      (s.fh.port p).enable = true ∧
      (s.fh.port p).up = true :=
  ⟨slave, 0, by decide +kernel⟩

/-- Clause 11 of FronthaulTraffic is met. -/
theorem witness_FronthaulTraffic_11 :
    ∃ (s : State) (p : Fin 4) (up : Bool),
      (s.fh.port p).up = up :=
  ⟨slave, 0, true, by decide +kernel⟩

/-- Clause 12 of FronthaulTraffic is met. -/
theorem witness_FronthaulTraffic_12 :
    ∃ (s : State) (len : Nat) (ty : Nat) (p : Fin 4),
      s.portUp p = true ∧
      64 ≤ len ∧
      len ≤ 9600 ∧
      (ty = 0xAEFE ∨ ty = 0x88F7) :=
  ⟨net, 9600, 0x88F7, 0, by decide +kernel⟩

/-- Clause 13 of FronthaulTraffic is met. -/
theorem witness_FronthaulTraffic_13 :
    ∃ (s : State) (p : Fin 4),
      s.portUp p = true :=
  ⟨net, 0, by decide +kernel⟩

/-- Clause 14 of FronthaulTraffic is met. -/
theorem witness_FronthaulTraffic_14 :
    ∃ (s : State) (len : Nat) (ty : Nat) (p : Fin 4) (x : Bool),
      s.portUp p = true ∧
      (len < 64 ∨ 9600 < len ∨ (ty ≠ 0xAEFE ∧ ty ≠ 0x88F7) ∨ x = true) :=
  ⟨net, 9601, 0xAEFE, 0, false, by decide +kernel⟩

/-- Clause 15 of FronthaulTraffic is met. -/
theorem witness_FronthaulTraffic_15 :
    ∃ (s : State) (sid : Nat) (p : Fin 4) (b : List Byte),
      s.portUp p = true ∧
      s.boot.ready = true ∧
      sid / 128 % 2 = 1 ∧
      s.fh.ingress = [] ∧
      s.sharedUsed < 256 ∧
      b.length ≤ 9000 :=
  ⟨net, 128, 0, zeros 8, by decide +kernel⟩

/-- Clause 16 of FronthaulTraffic is met. -/
theorem witness_FronthaulTraffic_16 :
    ∃ (s : State) (sid : Nat) (p : Fin 4) (b : List Byte),
      s.portUp p = true ∧
      s.boot.ready = true ∧
      sid / 128 % 2 = 1 ∧
      s.fh.ingress = [] ∧
      s.sharedUsed < 256 ∧
      b.length ≤ 9000 :=
  ⟨net, 128, 0, zeros 8, by decide +kernel⟩

/-- Clause 17 of FronthaulTraffic is met. -/
theorem witness_FronthaulTraffic_17 :
    ∃ (s : State) (sid : Nat) (p : Fin 4) (b : List Byte),
      s.portUp p = true ∧
      s.boot.ready = true ∧
      sid / 128 % 2 = 1 ∧
      s.fh.ingress = [] ∧
      s.sharedUsed < 256 ∧
      b.length ≤ 9000 :=
  ⟨net, 128, 0, zeros 8, by decide +kernel⟩

/-- Clause 18 of FronthaulTraffic is met. -/
theorem witness_FronthaulTraffic_18 :
    ∃ (s : State) (sid : Nat) (p : Fin 4),
      s.portUp p = true ∧
      (s.boot.ready = false ∨ sid / 128 % 2 = 0) :=
  ⟨net, 127, 0, by decide +kernel⟩

/-- Clause 19 of FronthaulTraffic is met. -/
theorem witness_FronthaulTraffic_19 :
    ∃ (s : State) (m : RtcMessage),
      m.action = 3 ∧
      m.body.length = 8 ∧
      s.tx.queue = [] ∧
      s.fh.results = [] ∧
      s.portUp m.port = false ∧
      s.firstPort = none :=
  ⟨up, ⟨0, 5, 3, 7, 128, zeros 8⟩, by decide +kernel⟩

/-- Clause 20 of FronthaulTraffic is met. -/
theorem witness_FronthaulTraffic_20 :
    ∃ (s : State) (ty : Nat) (p : Fin 4),
      s.portUp p = true ∧
      ty ≠ 2 ∧
      ty ≠ 5 ∧
      ty ≠ 7 :=
  ⟨net, 8, 0, by decide +kernel⟩

/-- Clause 21 of FronthaulTraffic is met. -/
theorem witness_FronthaulTraffic_21 :
    ∃ (s : State) (a : Nat) (p : Fin 4),
      s.portUp p = true ∧
      s.timeUsable = true ∧
      a ≤ 1 ∧
      (s.fh.port p).queue = [] ∧
      (s.fh.port p).sending = none :=
  ⟨slave, 1, 0, by decide +kernel⟩

/-- Clause 22 of FronthaulTraffic is met. -/
theorem witness_FronthaulTraffic_22 :
    ∃ (s : State) (a : Nat) (p : Fin 4),
      s.portUp p = true ∧
      (s.timeUsable = false ∨ 1 < a) :=
  ⟨slave, 2, 0, by decide +kernel⟩

/-- Clause 23 of FronthaulTraffic is met. -/
theorem witness_FronthaulTraffic_23 :
    ∃ (s : State) (p : Fin 4),
      s.portUp p = true ∧
      s.timeUsable = true ∧
      (s.fh.port p).queue = [] ∧
      (s.fh.port p).sending = none :=
  ⟨slave, 0, by decide +kernel⟩

/-- Clause 24 of FronthaulTraffic is met. -/
theorem witness_FronthaulTraffic_24 :
    ∃ (s : State) (p : Fin 4),
      s.portUp p = true ∧
      s.timeUsable = false :=
  ⟨net, 0, by decide +kernel⟩

/-- Clause 25 of FronthaulTraffic is met. -/
theorem witness_FronthaulTraffic_25 :
    ∃ (s : State) (p : Fin 4),
      s.portUp p = true ∧
      (s.fh.port p).queue = [] ∧
      (s.fh.port p).sending = none ∧
      (s.fh.port p).faults = [] :=
  ⟨net, 0, by decide +kernel⟩

/-- Clause 27 of FronthaulTraffic is met. -/
theorem witness_FronthaulTraffic_27 :
    ∃ (s : State) (p : Fin 4) (f : Nat) (a : Nat),
      (s.fh.port p).faults = [(f, a)] :=
  ⟨{ net with fh := { net.fh with ports := [(0, { up := true, srcMac := some 2, faults := [(0x400, 5)] })] } }, 0, 0x400, 5, by decide +kernel⟩

/-- Clause 28 of FronthaulTraffic is met. -/
theorem witness_FronthaulTraffic_28 :
    ∃ (s : State) (f : RecordFrame) (p : Nat),
      s.fh.assembling = some f ∧
      s.firstPort = some p ∧
      s.dmd.pool = [] ∧
      (s.fh.port p).queue = [] ∧
      (s.fh.port p).sending = none :=
  ⟨{ net with fh := { net.fh with assembling := some { records := [[1#8, 2#8]], bytes := 2, since := 7 } } }, { records := [[1#8, 2#8]], bytes := 2, since := 7 }, 0, by decide +kernel⟩

/-- Clause 29 of FronthaulTraffic is met. -/
theorem witness_FronthaulTraffic_29 :
    ∃ (s : State),
      s.fh.assembling = none :=
  ⟨net, by decide +kernel⟩

/-- Clause 30 of FronthaulTraffic is met. -/
theorem witness_FronthaulTraffic_30 :
    ∃ (s : State) (o : TxOutcome),
      s.tx.outcomes = [o] ∧
      o.origin = .mailbox :=
  ⟨{ net with tx := { net.tx with outcomes := [{ origin := .mailbox, shared := false, event := false, id := 7, outcome := 0, cause := 0, subband := 0, flags := 0, seconds := 1, nanos := 2, delayNs := 0, radiatedNs := 9, dutyUsed := 0, margin := 0, seq := 3 }] } }, { origin := .mailbox, shared := false, event := false, id := 7, outcome := 0, cause := 0, subband := 0, flags := 0, seconds := 1, nanos := 2, delayNs := 0, radiatedNs := 9, dutyUsed := 0, margin := 0, seq := 3 }, by decide +kernel⟩

/-- Clause 31 of FronthaulTraffic is met. -/
theorem witness_FronthaulTraffic_31 :
    ∃ (s : State) (o : TxOutcome) (p : Fin 4),
      s.tx.outcomes = [o] ∧
      o.origin = .port p ∧
      o.event = false ∧
      s.portUp p = true ∧
      (s.fh.port p).queue = [] ∧
      (s.fh.port p).sending = none ∧
      s.fh.results = [] ∧
      s.fh.ingress = [] :=
  ⟨{ net with tx := { net.tx with outcomes := [{ origin := .port 0, shared := false, event := false, id := 7, outcome := 0, cause := 0, subband := 0, flags := 0, seconds := 1, nanos := 2, delayNs := 0, radiatedNs := 9, dutyUsed := 0, margin := 0, seq := 3 }] } }, { origin := .port 0, shared := false, event := false, id := 7, outcome := 0, cause := 0, subband := 0, flags := 0, seconds := 1, nanos := 2, delayNs := 0, radiatedNs := 9, dutyUsed := 0, margin := 0, seq := 3 }, 0, by decide +kernel⟩

/-- Clause 32 of FronthaulTraffic is met. -/
theorem witness_FronthaulTraffic_32 :
    ∃ (s : State),
      s.tx.outcomes = [] :=
  ⟨net, by decide +kernel⟩

/-- Clause 33 of FronthaulTraffic is met. -/
theorem witness_FronthaulTraffic_33 :
    ∃ (s : State) (p : Fin 4) (f : Frame),
      (s.fh.port p).sending = some f ∧
      (s.fh.port p).queue = [] ∧
      s.fh.ingress = [] :=
  ⟨{ net with fh := { net.fh with ports := [(0, { up := true, srcMac := some 2, sending := some { cls := 5, length := 100, body := .delayReq 1 } })] } }, 0, { cls := 5, length := 100, body := .delayReq 1 }, by decide +kernel⟩

/-- Clause 34 of FronthaulTraffic is met. -/
theorem witness_FronthaulTraffic_34 :
    ∃ (s : State) (p : Fin 4),
      (s.fh.port p).sending = none :=
  ⟨net, 0, by decide +kernel⟩

/-- Clause 35 of FronthaulTraffic is met. -/
theorem witness_FronthaulTraffic_35 :
    ∃ (s : State) (k : Fin 32) (x : Stream) (v : List Cplx),
      Tab.get s.fh.streams k {} = x ∧
      x.enable = true ∧
      x.port ≤ 3 ∧
      s.portUp x.port = true ∧
      0 < x.instants ∧
      v.length = x.samples ∧
      x.latencyUs = 0 ∧
      (s.fh.port x.port).queue = [] ∧
      (s.fh.port x.port).sending = none ∧
      s.streamLength x ≤ 65536 :=
  ⟨{ net with fh := { net.fh with streams := [(31, stream)] } }, 31, stream, List.replicate 12 ⟨-32767, 32767⟩, by decide +kernel⟩

/-- Clause 36 of FronthaulTraffic is met. -/
theorem witness_FronthaulTraffic_36 :
    ∃ (s : State) (k : Fin 32) (x : Stream) (v : List Cplx),
      Tab.get s.fh.streams k {} = x ∧
      x.enable = true ∧
      x.port ≤ 3 ∧
      s.portUp x.port = true ∧
      0 < x.instants ∧
      v.length = x.samples ∧
      65536 < (s.fh.port x.port).iqBytes + s.streamLength x :=
  ⟨{ net with fh := { ports := [(0, { up := true, srcMac := some 2, queue := [{ cls := 5, length := 65500, body := .iq 0 0 0 [] [] }] })], streams := [(31, stream)] } }, 31, stream, List.replicate 12 ⟨-32767, 32767⟩, by decide +kernel⟩

/-- Clause 37 of FronthaulTraffic is met. -/
theorem witness_FronthaulTraffic_37 :
    ∃ (s : State) (p : Fin 4) (f : Frame) (t : Nat),
      (s.fh.port p).queue = [f] ∧
      f.launch = some t ∧
      s.now < t ∧
      s.portUp p = true ∧
      (s.fh.port p).sending = none :=
  ⟨{ net with fh := { net.fh with ports := [(0, { up := true, srcMac := some 2, queue := [{ cls := 2, length := 100, launch := some 9, body := .iq 0 0 0 [] [] }] })] } }, 0, { cls := 2, length := 100, launch := some 9, body := .iq 0 0 0 [] [] }, 9, by decide +kernel⟩

/-- Clause 38 of FronthaulTraffic is met. -/
theorem witness_FronthaulTraffic_38 :
    ∃ (s : State) (p : Fin 4),
      (s.fh.port p).queue = [] :=
  ⟨net, 0, by decide +kernel⟩

/-- Clause 1 of DeviceTime is met. -/
theorem witness_DeviceTime_1 :
    ∃ (s : State) (r : Running),
      Runs s r specFhSetPtp ∧
      ptpRanges r.cmd.payload = true ∧
      u8 r.cmd.payload 0 ≤ 3 ∧
      (s.fh.port (u8 r.cmd.payload 0)).enable = true ∧
      s.time.ptpPort = u8 r.cmd.payload 0 :=
  ⟨asked slave (ask 0x0A04 (ptpPayload 0#8)), ask 0x0A04 (ptpPayload 0#8), by decide +kernel⟩

/-- Clause 2 of DeviceTime is met. -/
theorem witness_DeviceTime_2 :
    ∃ (s : State) (r : Running),
      Runs s r specFhSetPtp ∧
      ptpRanges r.cmd.payload = false :=
  ⟨asked slave (ask 0x0A04 (ptpPayload 4#8)), ask 0x0A04 (ptpPayload 4#8), by decide +kernel⟩

/-- Clause 3 of DeviceTime is met. -/
theorem witness_DeviceTime_3 :
    ∃ (s : State) (r : Running),
      Runs s r specFhSetPtp ∧
      ptpRanges r.cmd.payload = true ∧
      u8 r.cmd.payload 0 ≤ 3 ∧
      (s.fh.port (u8 r.cmd.payload 0)).enable = false :=
  ⟨asked { net with fh := { net.fh with ports := [(0, { enable := false })] } } (ask 0x0A04 (ptpPayload 0#8)), ask 0x0A04 (ptpPayload 0#8), by decide +kernel⟩

/-- Clause 4 of DeviceTime is met. -/
theorem witness_DeviceTime_4 :
    ∃ (s : State) (r : Running),
      Runs s r specFhSetPtp ∧
      ptpRanges r.cmd.payload = true ∧
      u8 r.cmd.payload 0 ≤ 3 ∧
      (s.fh.port (u8 r.cmd.payload 0)).enable = true ∧
      s.time.ptpPort ≤ 3 ∧
      s.time.ptpPort ≠ u8 r.cmd.payload 0 ∧
      s.time.master ≠ none ∧
      s.time.state = .valid :=
  ⟨asked slave (ask 0x0A04 (ptpPayload 3#8)), ask 0x0A04 (ptpPayload 3#8), by decide +kernel⟩

/-- Clause 5 of DeviceTime is met. -/
theorem witness_DeviceTime_5 :
    ∃ (s : State) (r : Running),
      Runs s r specFhSetPtp ∧
      ptpRanges r.cmd.payload = true ∧
      u8 r.cmd.payload 0 = 255 :=
  ⟨asked slave (ask 0x0A04 (ptpPayload 255#8)), ask 0x0A04 (ptpPayload 255#8), by decide +kernel⟩

/-- Clause 6 of DeviceTime is met. -/
theorem witness_DeviceTime_6 :
    ∃ (s : State) (r : Running),
      Runs s r specFhGetTime :=
  ⟨asked up (ask 0x0A05 (zeros 0)), ask 0x0A05 (zeros 0), by decide +kernel⟩

/-- Clause 7 of DeviceTime is met. -/
theorem witness_DeviceTime_7 :
    ∃ (s : State) (p : Fin 4),
      (p.val ≠ s.time.ptpPort ∨ s.time.master = none) :=
  ⟨slave, 3, by decide +kernel⟩

/-- Clause 8 of DeviceTime is met. -/
theorem witness_DeviceTime_8 :
    ∃ (s : State) (id : Nat) (sp : Nat) (p : Fin 4),
      s.fromMaster p id sp = true :=
  ⟨slave, 9, 1, 0, by decide +kernel⟩

/-- Clause 9 of DeviceTime is met. -/
theorem witness_DeviceTime_9 :
    ∃ (s : State) (id : Nat) (sp : Nat) (p : Fin 4),
      s.fromMaster p id sp = true ∧
      s.time.pathDelayPs = none :=
  ⟨slave, 9, 1, 0, by decide +kernel⟩

/-- Clause 10 of DeviceTime is met. -/
theorem witness_DeviceTime_10 :
    ∃ (s : State) (id : Nat) (sp : Nat) (p : Fin 4) (d : Int),
      s.fromMaster p id sp = true ∧
      s.time.pathDelayPs = some d :=
  ⟨{ slave with time := { slave.time with pathDelayPs := some 5000 } }, 9, 1, 0, 5000, by decide +kernel⟩

/-- Clause 11 of DeviceTime is met. -/
theorem witness_DeviceTime_11 :
    ∃ (s : State) (id : Nat) (sp : Nat) (n : Nat) (p : Fin 4) (w : SyncWait),
      s.fromMaster p id sp = true ∧
      s.time.wait = some w ∧
      w.seqId = n ∧
      s.time.pathDelayPs = none :=
  ⟨{ slave with time := { slave.time with wait := some { seqId := 7, arrivalPs := 100, correctionPs := 3 } } }, 9, 1, 7, 0, { seqId := 7, arrivalPs := 100, correctionPs := 3 }, by decide +kernel⟩

/-- Clause 12 of DeviceTime is met. -/
theorem witness_DeviceTime_12 :
    ∃ (s : State),
      s.time.wait = none :=
  ⟨slave, by decide +kernel⟩

/-- Clause 13 of DeviceTime is met. -/
theorem witness_DeviceTime_13 :
    ∃ (s : State),
      s.time.state = .invalid ∧
      s.time.stepped = false ∧
      s.time.ratePpb = 0 :=
  ⟨{ slave with time := { slave.time with state := .invalid, stepped := false, lockCount := 0 } }, by decide +kernel⟩

/-- Clause 14 of DeviceTime is met. -/
theorem witness_DeviceTime_14 :
    ∃ (s : State) (o : Int),
      s.time.state = .invalid ∧
      s.time.stepped = true ∧
      o.natAbs ≤ 1000 * s.time.lockNs :=
  ⟨{ slave with time := { slave.time with state := .invalid, stepped := true, lockCount := 15 } }, -100000, by decide +kernel⟩

/-- Clause 15 of DeviceTime is met. -/
theorem witness_DeviceTime_15 :
    ∃ (s : State) (o : Int),
      s.time.state ≠ .valid ∧
      s.time.stepped = true ∧
      1000 * s.time.lockNs < o.natAbs ∧
      o.natAbs ≤ 1000 * s.time.stepThresholdNs :=
  ⟨{ slave with time := { slave.time with state := .invalid, stepped := true, lockCount := 15 } }, -100001, by decide +kernel⟩

/-- Clause 16 of DeviceTime is met. -/
theorem witness_DeviceTime_16 :
    ∃ (s : State) (o : Int),
      s.time.state = .valid ∧
      1000 * s.time.stepThresholdNs < o.natAbs :=
  ⟨{ slave with time := { slave.time with bigCount := 3 } }, -1000001, by decide +kernel⟩

/-- Clause 17 of DeviceTime is met. -/
theorem witness_DeviceTime_17 :
    ∃ (s : State) (o : Int),
      s.time.state = .valid ∧
      o.natAbs ≤ 1000 * s.time.stepThresholdNs :=
  ⟨{ slave with time := { slave.time with bigCount := 3 } }, -1000000, by decide +kernel⟩

/-- Clause 18 of DeviceTime is met. -/
theorem witness_DeviceTime_18 :
    ∃ (s : State) (o : Int),
      s.time.state = .holdover ∧
      1000 * s.time.stepThresholdNs < o.natAbs :=
  ⟨{ slave with time := { slave.time with state := .holdover, holdoverAt := some 5, lockCount := 15 } }, 1000001, by decide +kernel⟩

/-- Clause 19 of DeviceTime is met. -/
theorem witness_DeviceTime_19 :
    ∃ (s : State) (o : Int),
      s.time.state = .holdover ∧
      o.natAbs ≤ 1000 * s.time.stepThresholdNs ∧
      o.natAbs ≤ 1000 * s.time.lockNs :=
  ⟨{ slave with time := { slave.time with state := .holdover, holdoverAt := some 5, lockCount := 15 } }, 100000, by decide +kernel⟩

/-- Clause 20 of DeviceTime is met. -/
theorem witness_DeviceTime_20 :
    ∃ (s : State) (p : Fin 4) (x : Announce),
      s.time.ptpPort = p ∧
      s.portUp p = true ∧
      x.domain = s.time.domain ∧
      s.time.master = none :=
  ⟨net, 0, { id := 9, sport := 2, clockClass := 6, utcOffset := 37, dataset := [], domain := 24, logInterval := -3 }, by decide +kernel⟩

/-- Clause 21 of DeviceTime is met. -/
theorem witness_DeviceTime_21 :
    ∃ (s : State) (p : Fin 4) (x : Announce) (m : Master),
      s.time.ptpPort = p ∧
      s.portUp p = true ∧
      x.domain = s.time.domain ∧
      s.time.master = some m ∧
      (m.id ≠ x.id ∨ m.port ≠ x.sport) ∧
      s.time.state = .valid :=
  ⟨slave, 0, { id := 9, sport := 2, clockClass := 6, utcOffset := 37, dataset := [], domain := 24, logInterval := -3 }, { id := 9, port := 1, clockClass := 6, utcOffset := 37, dataset := [] }, by decide +kernel⟩

/-- Clause 22 of DeviceTime is met. -/
theorem witness_DeviceTime_22 :
    ∃ (s : State) (p : Fin 4) (x : Announce),
      (p.val ≠ s.time.ptpPort ∨ x.domain ≠ s.time.domain) :=
  ⟨slave, 3, { id := 9, sport := 2, clockClass := 6, utcOffset := 37, dataset := [], domain := 24, logInterval := -3 }, by decide +kernel⟩

/-- Clause 23 of DeviceTime is met. -/
theorem witness_DeviceTime_23 :
    ∃ (s : State) (id : Nat) (sp : Nat) (n : Nat) (p : Fin 4) (sent : Int) (m2s : Int),
      s.fromMaster p id sp = true ∧
      s.time.delayReq = some (n, sent) ∧
      s.time.masterToSlavePs = some m2s :=
  ⟨{ slave with time := { slave.time with delayReq := some (7, 100), masterToSlavePs := some 50 } }, 9, 1, 7, 0, 100, 50, by decide +kernel⟩

/-- Clause 24 of DeviceTime is met. -/
theorem witness_DeviceTime_24 :
    ∃ (s : State),
      s.time.delayReq = none :=
  ⟨slave, by decide +kernel⟩

/-- Clause 25 of DeviceTime is met. -/
theorem witness_DeviceTime_25 :
    ∃ (s : State),
      s.time.master ≠ none ∧
      s.time.ptpPort ≤ 3 ∧
      s.portUp s.time.ptpPort = true ∧
      (s.fh.port s.time.ptpPort).queue = [] ∧
      (s.fh.port s.time.ptpPort).sending = none :=
  ⟨slave, by decide +kernel⟩

/-- Clause 26 of DeviceTime is met. -/
theorem witness_DeviceTime_26 :
    ∃ (s : State),
      s.time.master = none :=
  ⟨net, by decide +kernel⟩

/-- Clause 27 of DeviceTime is met. -/
theorem witness_DeviceTime_27 :
    ∃ (s : State),
      s.time.master ≠ none ∧
      s.time.state = .valid ∧
      0 ≤ s.time.announceLog :=
  ⟨slave, by decide +kernel⟩

/-- Clause 28 of DeviceTime is met. -/
theorem witness_DeviceTime_28 :
    ∃ (s : State) (a : Nat),
      s.role ≠ .worker ∧
      s.time.state = .holdover ∧
      s.time.holdoverAt = some a :=
  ⟨{ slave with time := { slave.time with state := .holdover, holdoverAt := some 5, lockCount := 15 } }, 5, by decide +kernel⟩

/-- Clause 29 of DeviceTime is met. -/
theorem witness_DeviceTime_29 :
    ∃ (s : State),
      s.time.state ≠ .holdover :=
  ⟨net, by decide +kernel⟩

/-- Clause 1 of HaloCapture is met. -/
theorem witness_HaloCapture_1 :
    ∃ (s : State) (r : Running),
      Runs s r specHaloArm ∧
      armRanges r.cmd.payload s.isWorker = true ∧
      (s.halo.slot (u8 r.cmd.payload 0)).state.running = false ∧
      s.armedSlots (u8 r.cmd.payload 0) = [] ∧
      (haloCfg r.cmd.payload).need ≤ 98304 ∧
      u8 r.cmd.payload 1 ≠ 3 :=
  ⟨asked (up) (ask 0x0C01 (armPayload 4#8 0x1C [0x20#8])), ask 0x0C01 (armPayload 4#8 0x1C [0x20#8]), by decide +kernel⟩

/-- Clause 2 of HaloCapture is met. -/
theorem witness_HaloCapture_2 :
    ∃ (s : State) (r : Running),
      Runs s r specHaloArm ∧
      armRanges r.cmd.payload s.isWorker = true ∧
      (s.halo.slot (u8 r.cmd.payload 0)).state.running = false ∧
      s.armedSlots (u8 r.cmd.payload 0) = [] ∧
      (haloCfg r.cmd.payload).need ≤ 98304 ∧
      u8 r.cmd.payload 1 = 3 :=
  ⟨asked (up) (ask 0x0C01 (armPayload 3#8 0x1C [0x20#8])), ask 0x0C01 (armPayload 3#8 0x1C [0x20#8]), by decide +kernel⟩

/-- Clause 3 of HaloCapture is met. -/
theorem witness_HaloCapture_3 :
    ∃ (s : State) (r : Running),
      Runs s r specHaloArm ∧
      armRanges r.cmd.payload s.isWorker = false :=
  ⟨asked (up) (ask 0x0C01 (armPayload 0#8 0x0E (le 2 1024))), ask 0x0C01 (armPayload 0#8 0x0E (le 2 1024)), by decide +kernel⟩

/-- Clause 4 of HaloCapture is met. -/
theorem witness_HaloCapture_4 :
    ∃ (s : State) (r : Running),
      Runs s r specHaloArm ∧
      armRanges r.cmd.payload s.isWorker = true ∧
      (s.halo.slot (u8 r.cmd.payload 0)).state.running = true :=
  ⟨asked (capturing { state := .holdoff, cfg := slotCfg }) (ask 0x0C01 (armPayload 0#8 0x1C [0x20#8])), ask 0x0C01 (armPayload 0#8 0x1C [0x20#8]), by decide +kernel⟩

/-- Clause 5 of HaloCapture is met. -/
theorem witness_HaloCapture_5 :
    ∃ (s : State) (r : Running) (n : Nat) (x : HaloSlot),
      Runs s r specHaloArm ∧
      armRanges r.cmd.payload s.isWorker = true ∧
      (s.halo.slot (u8 r.cmd.payload 0)).state.running = false ∧
      s.armedSlots (u8 r.cmd.payload 0) = [(n, x)] ∧
      x.cfg.offset < u32 r.cmd.payload 4 + u32 r.cmd.payload 8 ∧
      u32 r.cmd.payload 4 < x.cfg.offset + x.cfg.length :=
  ⟨asked ({ up with halo := { slots := [(0, { state := .filling, cfg := { slotCfg with offset := 4095, length := 8192 } })] } }) (ask 0x0C01 (armPayload 0#8 0x1C [0x20#8])), ask 0x0C01 (armPayload 0#8 0x1C [0x20#8]), 0, { state := .filling, cfg := { slotCfg with offset := 4095, length := 8192 } }, by decide +kernel⟩

/-- Clause 6 of HaloCapture is met. -/
theorem witness_HaloCapture_6 :
    ∃ (s : State) (r : Running) (n : Nat) (x : HaloSlot),
      Runs s r specHaloArm ∧
      armRanges r.cmd.payload s.isWorker = true ∧
      (s.halo.slot (u8 r.cmd.payload 0)).state.running = false ∧
      s.armedSlots (u8 r.cmd.payload 0) = [(n, x)] ∧
      x.cfg.offset + x.cfg.length ≤ u32 r.cmd.payload 4 ∧
      98304 < (haloCfg r.cmd.payload).need + x.cfg.need :=
  ⟨asked ({ up with halo := { slots := [(0, { state := .filling, cfg := { slotCfg with offset := 0, length := 4096, kind := 3, sources := 0xFFFF#64 } })] } }) (ask 0x0C01 (armPayload 0#8 4 (le 4 4096))), ask 0x0C01 (armPayload 0#8 4 (le 4 4096)), 0, { state := .filling, cfg := { slotCfg with offset := 0, length := 4096, kind := 3, sources := 0xFFFF#64 } }, by decide +kernel⟩

/-- Clause 7 of HaloCapture is met. -/
theorem witness_HaloCapture_7 :
    ∃ (s : State) (n : Fin 4),
      (s.halo.slot n).state = .arming ∧
      (s.halo.slot n).cfg.kind ≠ 3 :=
  ⟨capturing { state := .arming, cfg := slotCfg, done := 2, armDue := 10000 }, 3, by decide +kernel⟩

/-- Clause 8 of HaloCapture is met. -/
theorem witness_HaloCapture_8 :
    ∃ (s : State) (n : Fin 4),
      (s.halo.slot n).state = .arming ∧
      (s.halo.slot n).cfg.kind = 3 ∧
      s.halo.obsSlot = some n.val :=
  ⟨{ capturing { state := .arming, cfg := { slotCfg with kind := 3 } } with halo := { (capturing { state := .arming, cfg := { slotCfg with kind := 3 } }).halo with obsSlot := some 3 } }, 3, by decide +kernel⟩

/-- Clause 9 of HaloCapture is met. -/
theorem witness_HaloCapture_9 :
    ∃ (s : State) (n : Fin 4),
      (s.halo.slot n).state ≠ .arming :=
  ⟨capturing { state := .done }, 3, by decide +kernel⟩

/-- Clause 10 of HaloCapture is met. -/
theorem witness_HaloCapture_10 :
    ∃ (s : State) (n : Fin 4) (o : TrigOffer),
      s.halo.offers = [o] ∧
      o.slot = n.val ∧
      (s.halo.slot n).state = .filling ∧
      (s.halo.slot n).firstSample + (s.halo.slot n).cfg.pre * kindPeriod (s.halo.slot n).cfg.kind ≤ o.stamp ∧
      (s.halo.slot n).cfg.cascadeOut = false ∧
      s.halo.trigOutMask.getLsbD n = false :=
  ⟨offered { state := .filling, cfg := slotCfg, firstSample := 20000 } [{ slot := 3, stamp := 100000, source := 5, decidedAt := 5 }], 3, { slot := 3, stamp := 100000, source := 5, decidedAt := 5 }, by decide +kernel⟩

/-- Clause 11 of HaloCapture is met. -/
theorem witness_HaloCapture_11 :
    ∃ (s : State) (n : Fin 4) (a : TrigOffer) (b : TrigOffer),
      s.halo.offers = [a, b] ∧
      a.slot = n.val ∧
      b.slot = n.val ∧
      a.decidedAt = b.decidedAt ∧
      b.stamp ≤ a.stamp ∧
      (s.halo.slot n).state = .filling ∧
      (s.halo.slot n).firstSample + (s.halo.slot n).cfg.pre * kindPeriod (s.halo.slot n).cfg.kind ≤ b.stamp :=
  ⟨offered { state := .filling, cfg := slotCfg, firstSample := 20000 } [{ slot := 3, stamp := 100001, source := 5, decidedAt := 5 }, { slot := 3, stamp := 100000, source := 0, decidedAt := 5 }], 3, { slot := 3, stamp := 100001, source := 5, decidedAt := 5 }, { slot := 3, stamp := 100000, source := 0, decidedAt := 5 }, by decide +kernel⟩

/-- Clause 12 of HaloCapture is met. -/
theorem witness_HaloCapture_12 :
    ∃ (s : State) (n : Fin 4) (o : TrigOffer),
      s.halo.offers = [o] ∧
      o.slot = n.val ∧
      (s.halo.slot n).state = .filling ∧
      o.stamp < (s.halo.slot n).firstSample + (s.halo.slot n).cfg.pre * kindPeriod (s.halo.slot n).cfg.kind :=
  ⟨offered { state := .filling, cfg := slotCfg, firstSample := 20000 } [{ slot := 3, stamp := 99999, source := 5, decidedAt := 5 }], 3, { slot := 3, stamp := 99999, source := 5, decidedAt := 5 }, by decide +kernel⟩

/-- Clause 13 of HaloCapture is met. -/
theorem witness_HaloCapture_13 :
    ∃ (s : State) (n : Fin 4) (o : TrigOffer),
      s.halo.offers = [o] ∧
      o.slot = n.val ∧
      (s.halo.slot n).state = .holdoff ∧
      (s.halo.slot n).cfg.byCount = true :=
  ⟨offered { state := .holdoff, cfg := { slotCfg with byCount := true } } [{ slot := 3, stamp := 99999, source := 5, decidedAt := 5 }], 3, { slot := 3, stamp := 99999, source := 5, decidedAt := 5 }, by decide +kernel⟩

/-- Clause 14 of HaloCapture is met. -/
theorem witness_HaloCapture_14 :
    ∃ (s : State) (n : Fin 4) (o : TrigOffer),
      s.halo.offers = [o] ∧
      o.slot = n.val ∧
      (s.halo.slot n).state = .filling ∧
      (s.halo.slot n).firstSample + (s.halo.slot n).cfg.pre * kindPeriod (s.halo.slot n).cfg.kind ≤ o.stamp ∧
      o.source = 3 ∧
      (s.halo.slot n).cfg.cascadeOut = true ∧
      s.halo.trigOutMask.getLsbD n = true ∧
      s.role = .manager :=
  ⟨{ boss with halo := { slots := [(3, { state := .filling, cfg := { slotCfg with cascadeOut := true }, firstSample := 20000 })], offers := [{ slot := 3, stamp := 100000, source := 3, decidedAt := 5 }], trigOutMask := 8#4 } }, 3, { slot := 3, stamp := 100000, source := 3, decidedAt := 5 }, by decide +kernel⟩

/-- Clause 15 of HaloCapture is met. -/
theorem witness_HaloCapture_15 :
    ∃ (s : State) (n : Fin 4) (t : Nat) (src : Nat),
      (s.halo.slot n).state = .post ∧
      (s.halo.slot n).trigger = some (t, src) ∧
      (s.halo.slot n).done + 1 < (s.halo.slot n).cfg.segments ∧
      (s.halo.slot n).cfg.byCount = false ∧
      max s.now (t + (s.halo.slot n).cfg.post) < t + (s.halo.slot n).cfg.holdoff * 384 :=
  ⟨capturing { state := .post, cfg := slotCfg, firstSample := 20000, trigger := some (100000, 8), done := 62 }, 3, 100000, 8, by decide +kernel⟩

/-- Clause 16 of HaloCapture is met. -/
theorem witness_HaloCapture_16 :
    ∃ (s : State) (n : Fin 4) (t : Nat) (src : Nat),
      (s.halo.slot n).state = .post ∧
      (s.halo.slot n).trigger = some (t, src) ∧
      (s.halo.slot n).done + 1 = (s.halo.slot n).cfg.segments :=
  ⟨capturing { state := .post, cfg := slotCfg, firstSample := 20000, trigger := some (100000, 8), done := 63 }, 3, 100000, 8, by decide +kernel⟩

/-- Clause 17 of HaloCapture is met. -/
theorem witness_HaloCapture_17 :
    ∃ (s : State) (n : Fin 4),
      (s.halo.slot n).state ≠ .post :=
  ⟨capturing { state := .filling, cfg := slotCfg, firstSample := 20000 }, 3, by decide +kernel⟩

/-- Clause 18 of HaloCapture is met. -/
theorem witness_HaloCapture_18 :
    ∃ (s : State) (n : Fin 4) (t : Nat) (src : Nat),
      (s.halo.slot n).state = .holdoff ∧
      (s.halo.slot n).trigger = some (t, src) ∧
      (s.halo.slot n).cfg.byCount = false :=
  ⟨capturing { state := .holdoff, cfg := slotCfg, trigger := some (100000, 8), done := 1 }, 3, 100000, 8, by decide +kernel⟩

/-- Clause 19 of HaloCapture is met. -/
theorem witness_HaloCapture_19 :
    ∃ (s : State) (n : Fin 4) (t : Nat) (src : Nat),
      (s.halo.slot n).state = .holdoff ∧
      (s.halo.slot n).trigger = some (t, src) ∧
      (s.halo.slot n).cfg.byCount = true ∧
      (s.halo.slot n).held < (s.halo.slot n).cfg.holdoff :=
  ⟨capturing { state := .holdoff, cfg := { slotCfg with byCount := true, holdoff := 2 }, trigger := some (100000, 8), held := 1 }, 3, 100000, 8, by decide +kernel⟩

/-- Clause 20 of HaloCapture is met. -/
theorem witness_HaloCapture_20 :
    ∃ (s : State) (r : Running),
      Runs s r specHaloDisarm ∧
      u8 r.cmd.payload 0 ≤ 3 ∧
      (s.halo.slot (u8 r.cmd.payload 0)).state.running = true ∧
      u8 r.cmd.payload 1 % 2 = 0 :=
  ⟨asked (capturing { state := .post, cfg := slotCfg, firstSample := 20000, trigger := some (100000, 8), done := 62 }) (ask 0x0C02 [3#8, 0#8, 0#8, 0#8]), ask 0x0C02 [3#8, 0#8, 0#8, 0#8], by decide +kernel⟩

/-- Clause 21 of HaloCapture is met. -/
theorem witness_HaloCapture_21 :
    ∃ (s : State) (r : Running),
      Runs s r specHaloDisarm ∧
      u8 r.cmd.payload 0 ≤ 3 ∧
      (s.halo.slot (u8 r.cmd.payload 0)).state = .post ∧
      (s.halo.slot (u8 r.cmd.payload 0)).trigger.isSome = true ∧
      u8 r.cmd.payload 1 % 2 = 1 :=
  ⟨asked (capturing { state := .post, cfg := slotCfg, firstSample := 20000, trigger := some (100000, 8), done := 62 }) (ask 0x0C02 [3#8, 1#8, 0#8, 0#8]), ask 0x0C02 [3#8, 1#8, 0#8, 0#8], by decide +kernel⟩

/-- Clause 22 of HaloCapture is met. -/
theorem witness_HaloCapture_22 :
    ∃ (s : State) (r : Running),
      Runs s r specHaloDisarm ∧
      u8 r.cmd.payload 0 ≤ 3 ∧
      (s.halo.slot (u8 r.cmd.payload 0)).state.running = false :=
  ⟨asked (capturing { state := .done }) (ask 0x0C02 [3#8, 0#8, 0#8, 0#8]), ask 0x0C02 [3#8, 0#8, 0#8, 0#8], by decide +kernel⟩

/-- Clause 23 of HaloCapture is met. -/
theorem witness_HaloCapture_23 :
    ∃ (s : State) (r : Running),
      Runs s r specHaloDisarm ∧
      3 < u8 r.cmd.payload 0 :=
  ⟨asked (up) (ask 0x0C02 [4#8, 0#8, 0#8, 0#8]), ask 0x0C02 [4#8, 0#8, 0#8, 0#8], by decide +kernel⟩

/-- Clause 24 of HaloCapture is met. -/
theorem witness_HaloCapture_24 :
    ∃ (s : State) (r : Running),
      Runs s r specHaloGetCapture ∧
      u8 r.cmd.payload 0 ≤ 3 :=
  ⟨asked (capturing { state := .frozen, cfg := { slotCfg with segments := 2 }, done := 1, ignored := 7, segs := [(0, { trigger := 5, sources := 8 })] }) (ask 0x0C05 [3#8]), ask 0x0C05 [3#8], by decide +kernel⟩

/-- Clause 25 of HaloCapture is met. -/
theorem witness_HaloCapture_25 :
    ∃ (s : State) (r : Running),
      Runs s r specHaloGetCapture ∧
      3 < u8 r.cmd.payload 0 :=
  ⟨asked (up) (ask 0x0C05 [4#8]), ask 0x0C05 [4#8], by decide +kernel⟩

/-- Clause 26 of HaloCapture is met. -/
theorem witness_HaloCapture_26 :
    ∃ (s : State) (r : Running),
      Runs s r specHaloRead ∧
      1 ≤ u32 r.cmd.payload 4 ∧
      u32 r.cmd.payload 4 ≤ 4080 ∧
      u32 r.cmd.payload 0 + u32 r.cmd.payload 4 ≤ 0x1000000 :=
  ⟨asked ({ up with mem := [(0x10FFFFFF, 9#8)] }) (ask 0x0C06 (le 4 0xFFFFFE ++ le 4 2)), ask 0x0C06 (le 4 0xFFFFFE ++ le 4 2), by decide +kernel⟩

/-- Clause 27 of HaloCapture is met. -/
theorem witness_HaloCapture_27 :
    ∃ (s : State) (r : Running),
      Runs s r specHaloRead ∧
      (u32 r.cmd.payload 4 = 0 ∨ 4080 < u32 r.cmd.payload 4 ∨ 0x1000000 < u32 r.cmd.payload 0 + u32 r.cmd.payload 4) :=
  ⟨asked (up) (ask 0x0C06 (le 4 0xFFFFFE ++ le 4 3)), ask 0x0C06 (le 4 0xFFFFFE ++ le 4 3), by decide +kernel⟩

/-- Clause 1 of HaloTriggersAndSnapshots is met. -/
theorem witness_HaloTriggersAndSnapshots_1 :
    ∃ (h : Nat),
      h < 10 :=
  ⟨9, by decide +kernel⟩

/-- Clause 2 of HaloTriggersAndSnapshots is met. -/
theorem witness_HaloTriggersAndSnapshots_2 :
    ∃ (h : Nat),
      10 ≤ h :=
  ⟨10, by decide +kernel⟩

/-- Clause 3 of HaloTriggersAndSnapshots is met. -/
theorem witness_HaloTriggersAndSnapshots_3 :
    ∃ (s : State) (r : Running),
      Runs s r specHaloTrigger ∧
      u8 r.cmd.payload 0 ≤ 15 ∧
      u8 r.cmd.payload 1 % 2 = 1 :=
  ⟨asked (capturing { state := .filling, cfg := slotCfg, firstSample := 20000 }) (ask 0x0C03 ([15#8, 1#8] ++ zeros 14)), ask 0x0C03 ([15#8, 1#8] ++ zeros 14), by decide +kernel⟩

/-- Clause 4 of HaloTriggersAndSnapshots is met. -/
theorem witness_HaloTriggersAndSnapshots_4 :
    ∃ (s : State) (r : Running),
      Runs s r specHaloTrigger ∧
      u8 r.cmd.payload 0 ≤ 15 ∧
      u8 r.cmd.payload 1 % 2 = 0 ∧
      s.timeUsable = true ∧
      s.time.deviceAt (r.reached + 38400000) ≤ s.instantOf r.cmd.payload 8 :=
  ⟨asked ({ capturing { state := .filling, cfg := slotCfg, firstSample := 20000 } with time := { up.time with state := .valid } }) (ask 0x0C03 ([8#8, 0#8] ++ zeros 6 ++ le 4 1 ++ le 4 5)), ask 0x0C03 ([8#8, 0#8] ++ zeros 6 ++ le 4 1 ++ le 4 5), by decide +kernel⟩

/-- Clause 5 of HaloTriggersAndSnapshots is met. -/
theorem witness_HaloTriggersAndSnapshots_5 :
    ∃ (s : State) (r : Running),
      Runs s r specHaloTrigger ∧
      u8 r.cmd.payload 0 ≤ 15 ∧
      u8 r.cmd.payload 1 % 2 = 0 ∧
      s.timeUsable = false :=
  ⟨asked (up) (ask 0x0C03 ([8#8, 0#8] ++ zeros 6 ++ le 4 1 ++ le 4 5)), ask 0x0C03 ([8#8, 0#8] ++ zeros 6 ++ le 4 1 ++ le 4 5), by decide +kernel⟩

/-- Clause 6 of HaloTriggersAndSnapshots is met. -/
theorem witness_HaloTriggersAndSnapshots_6 :
    ∃ (s : State) (r : Running),
      Runs s r specHaloTrigger ∧
      15 < u8 r.cmd.payload 0 :=
  ⟨asked (up) (ask 0x0C03 ([16#8, 1#8] ++ zeros 14)), ask 0x0C03 ([16#8, 1#8] ++ zeros 14), by decide +kernel⟩

/-- Clause 7 of HaloTriggersAndSnapshots is met. -/
theorem witness_HaloTriggersAndSnapshots_7 :
    ∃ (s : State) (r : Running),
      Runs s r specHaloSetTrigOut ∧
      u8 r.cmd.payload 0 ≤ 15 ∧
      10 ≤ u32 r.cmd.payload 4 ∧
      u32 r.cmd.payload 4 ≤ 1000000 :=
  ⟨asked (up) (ask 0x0C09 ([15#8] ++ zeros 3 ++ le 4 1000000)), ask 0x0C09 ([15#8] ++ zeros 3 ++ le 4 1000000), by decide +kernel⟩

/-- Clause 8 of HaloTriggersAndSnapshots is met. -/
theorem witness_HaloTriggersAndSnapshots_8 :
    ∃ (s : State) (r : Running),
      Runs s r specHaloSetTrigOut ∧
      (15 < u8 r.cmd.payload 0 ∨ u32 r.cmd.payload 4 < 10 ∨ 1000000 < u32 r.cmd.payload 4) :=
  ⟨asked (up) (ask 0x0C09 ([15#8] ++ zeros 3 ++ le 4 1000001)), ask 0x0C09 ([15#8] ++ zeros 3 ++ le 4 1000001), by decide +kernel⟩

/-- Clause 9 of HaloTriggersAndSnapshots is met. -/
theorem witness_HaloTriggersAndSnapshots_9 :
    ∃ (s : State) (t : Nat),
      s.halo.trigOutUntil = some t :=
  ⟨{ up with halo := { trigOutUntil := some 384 }, pins := { up.pins with trigOut := true } }, 384, by decide +kernel⟩

/-- Clause 10 of HaloTriggersAndSnapshots is met. -/
theorem witness_HaloTriggersAndSnapshots_10 :
    ∃ (s : State),
      s.halo.trigOutUntil = none :=
  ⟨up, by decide +kernel⟩

/-- Clause 11 of HaloTriggersAndSnapshots is met. -/
theorem witness_HaloTriggersAndSnapshots_11 :
    ∃ (s : State) (r : Running),
      Runs s r specHaloSetMask ∧
      u8 r.cmd.payload 0 ≤ 3 ∧
      u8 r.cmd.payload 1 ≤ 1 ∧
      1 ≤ u8 r.cmd.payload 3 ∧
      u8 r.cmd.payload 3 ≤ 32 ∧
      (u8 r.cmd.payload 1 = 1 ∨ u8 r.cmd.payload 4 ≤ 6) ∧
      (∀ i, i < u8 r.cmd.payload 3 → s32 r.cmd.payload (8 + 12 * i) ≤ s32 r.cmd.payload (8 + 12 * i + 4)) :=
  ⟨asked (up) (ask 0x0C04 ([3#8, 1#8, 7#8, 2#8, 7#8, 0#8, 0#8, 0#8] ++ leS 4 (-5) ++ leS 4 (-5) ++ leS 2 (-400) ++ leS 2 3 ++ leS 4 (-6) ++ leS 4 5 ++ leS 2 (-400) ++ leS 2 3)), ask 0x0C04 ([3#8, 1#8, 7#8, 2#8, 7#8, 0#8, 0#8, 0#8] ++ leS 4 (-5) ++ leS 4 (-5) ++ leS 2 (-400) ++ leS 2 3 ++ leS 4 (-6) ++ leS 4 5 ++ leS 2 (-400) ++ leS 2 3), by decide +kernel⟩

/-- Clause 12 of HaloTriggersAndSnapshots is met. -/
theorem witness_HaloTriggersAndSnapshots_12 :
    ∃ (s : State) (r : Running),
      Runs s r specHaloSetMask ∧
      (3 < u8 r.cmd.payload 0 ∨ 1 < u8 r.cmd.payload 1 ∨ u8 r.cmd.payload 3 = 0 ∨ 32 < u8 r.cmd.payload 3 ∨ s32 r.cmd.payload 12 < s32 r.cmd.payload 8 ∨ (u8 r.cmd.payload 1 = 0 ∧ 6 < u8 r.cmd.payload 4)) :=
  ⟨asked (up) (ask 0x0C04 ([3#8, 1#8, 7#8, 1#8, 6#8, 0#8, 0#8, 0#8] ++ leS 4 (-5) ++ leS 4 (-6) ++ leS 2 (-400) ++ leS 2 3)), ask 0x0C04 ([3#8, 1#8, 7#8, 1#8, 6#8, 0#8, 0#8, 0#8] ++ leS 4 (-5) ++ leS 4 (-6) ++ leS 2 (-400) ++ leS 2 3), by decide +kernel⟩

/-- Clause 13 of HaloTriggersAndSnapshots is met. -/
theorem witness_HaloTriggersAndSnapshots_13 :
    ∃ (s : State) (n : Fin 4) (m : HaloMask) (g : MaskSeg) (hi : Int) (lo : Int),
      Tab.find? s.halo.masks (s.halo.slot n).cfg.maskId = some m ∧
      m.segs = [g] ∧
      hi ≤ g.upper ∧
      (m.envelope = false ∨ g.lower ≤ lo) :=
  ⟨masked .filling (limit 7#3), 3, limit 7#3, ⟨-5, 5, -400, 0⟩, -400, -900, by decide +kernel⟩

/-- Clause 14 of HaloTriggersAndSnapshots is met. -/
theorem witness_HaloTriggersAndSnapshots_14 :
    ∃ (s : State) (n : Fin 4) (k : Fin 16) (m : HaloMask) (g : MaskSeg) (hi : Int),
      Tab.find? s.halo.masks (s.halo.slot n).cfg.maskId = some m ∧
      m.segs = [g] ∧
      g.upper < hi ∧
      m.action = 1#3 ∧
      m.eventAt = none ∧
      (s.halo.slot n).state = .filling ∧
      (s.halo.slot n).cfg.kind = 3 ∧
      (s.halo.slot n).cfg.sources.getLsbD k = true :=
  ⟨masked .filling (limit 1#3), 3, 15, limit 1#3, ⟨-5, 5, -400, 0⟩, -399, by decide +kernel⟩

/-- Clause 15 of HaloTriggersAndSnapshots is met. -/
theorem witness_HaloTriggersAndSnapshots_15 :
    ∃ (s : State) (t : Nat) (n : Fin 4) (m : HaloMask) (g : MaskSeg) (hi : Int) (a : Nat),
      Tab.find? s.halo.masks (s.halo.slot n).cfg.maskId = some m ∧
      m.segs = [g] ∧
      g.upper < hi ∧
      m.action = 1#3 ∧
      m.eventAt = some a ∧
      max s.now t < a + 384000000000 :=
  ⟨masked .filling { limit 1#3 with eventAt := some 5 }, 384000000004, 3, { limit 1#3 with eventAt := some 5 }, ⟨-5, 5, -400, 0⟩, -399, 5, by decide +kernel⟩

/-- Clause 16 of HaloTriggersAndSnapshots is met. -/
theorem witness_HaloTriggersAndSnapshots_16 :
    ∃ (s : State) (n : Fin 4) (k : Fin 16) (m : HaloMask) (g : MaskSeg) (hi : Int),
      Tab.find? s.halo.masks (s.halo.slot n).cfg.maskId = some m ∧
      m.segs = [g] ∧
      g.upper < hi ∧
      m.action = 2#3 ∧
      (s.halo.slot n).state = .filling ∧
      (s.halo.slot n).cfg.kind = 3 ∧
      (s.halo.slot n).cfg.sources.getLsbD k = true :=
  ⟨masked .filling (limit 2#3), 3, 15, limit 2#3, ⟨-5, 5, -400, 0⟩, -399, by decide +kernel⟩

/-- Clause 17 of HaloTriggersAndSnapshots is met. -/
theorem witness_HaloTriggersAndSnapshots_17 :
    ∃ (s : State) (n : Fin 4) (k : Fin 16) (m : HaloMask) (g : MaskSeg) (hi : Int) (c : Nat × Nat),
      Tab.find? s.halo.masks (s.halo.slot n).cfg.maskId = some m ∧
      m.segs = [g] ∧
      g.upper < hi ∧
      m.action = 6#3 ∧
      (s.halo.slot n).state = .post ∧
      (s.halo.slot n).trigger = some c ∧
      (s.halo.slot n).cfg.trig.getLsbD 6 = true ∧
      (s.halo.slot n).cfg.kind = 3 ∧
      (s.halo.slot n).cfg.sources.getLsbD k = true :=
  ⟨masked .post (limit 6#3), 3, 15, limit 6#3, ⟨-5, 5, -400, 0⟩, -399, (100000, 8), by decide +kernel⟩

/-- Clause 18 of HaloTriggersAndSnapshots is met. -/
theorem witness_HaloTriggersAndSnapshots_18 :
    ∃ (s : State) (r : Running),
      Runs s r specHaloSnapshot ∧
      s.role = .standalone ∧
      r.cascade = false ∧
      u8 r.cmd.payload 0 % 2 = 1 ∧
      s.halo.pinned < 4 :=
  ⟨asked (up) (ask 0x0C07 ([1#8] ++ zeros 15)), ask 0x0C07 ([1#8] ++ zeros 15), by decide +kernel⟩

/-- Clause 19 of HaloTriggersAndSnapshots is met. -/
theorem witness_HaloTriggersAndSnapshots_19 :
    ∃ (s : State) (r : Running),
      Runs s r specHaloSnapshot ∧
      s.role = .manager ∧
      r.cascade = false ∧
      r.cmd.target = 0xFFFF ∧
      u8 r.cmd.payload 0 % 2 = 1 ∧
      s.halo.pinned < 4 :=
  ⟨asked (boss) ({ ask 0x0C07 ([1#8] ++ zeros 15) with cmd := { (ask 0x0C07 ([1#8] ++ zeros 15)).cmd with target := 0xFFFF } }), { ask 0x0C07 ([1#8] ++ zeros 15) with cmd := { (ask 0x0C07 ([1#8] ++ zeros 15)).cmd with target := 0xFFFF } }, by decide +kernel⟩

/-- Clause 20 of HaloTriggersAndSnapshots is met. -/
theorem witness_HaloTriggersAndSnapshots_20 :
    ∃ (s : State) (r : Running),
      Runs s r specHaloSnapshot ∧
      r.cascade = true ∧
      r.cmd.target = 0xFFFF ∧
      s.halo.pinned < 4 ∧
      s.halo.snaps = [] :=
  ⟨asked (hand) ({ ask 0x0C07 ([0#8] ++ zeros 7 ++ le 4 1 ++ le 4 5) with cascade := true, cmd := { (ask 0x0C07 ([0#8] ++ zeros 7 ++ le 4 1 ++ le 4 5)).cmd with target := 0xFFFF } }), { ask 0x0C07 ([0#8] ++ zeros 7 ++ le 4 1 ++ le 4 5) with cascade := true, cmd := { (ask 0x0C07 ([0#8] ++ zeros 7 ++ le 4 1 ++ le 4 5)).cmd with target := 0xFFFF } }, by decide +kernel⟩

/-- Clause 21 of HaloTriggersAndSnapshots is met. -/
theorem witness_HaloTriggersAndSnapshots_21 :
    ∃ (s : State) (r : Running),
      Runs s r specHaloSnapshot ∧
      r.cascade = false ∧
      u8 r.cmd.payload 0 % 2 = 0 ∧
      s.timeUsable = false :=
  ⟨asked (up) (ask 0x0C07 (zeros 16)), ask 0x0C07 (zeros 16), by decide +kernel⟩

/-- Clause 22 of HaloTriggersAndSnapshots is met. -/
theorem witness_HaloTriggersAndSnapshots_22 :
    ∃ (s : State) (r : Running),
      Runs s r specHaloSnapshot ∧
      u8 r.cmd.payload 0 % 2 = 1 ∧
      4 ≤ s.halo.pinned :=
  ⟨asked ({ up with halo := { snaps := [snap, snap, snap], strobes := [{ due := 9, origin := 0, pin := true, scheduled := false }] } }) (ask 0x0C07 ([1#8] ++ zeros 15)), ask 0x0C07 ([1#8] ++ zeros 15), by decide +kernel⟩

/-- Clause 23 of HaloTriggersAndSnapshots is met. -/
theorem witness_HaloTriggersAndSnapshots_23 :
    ∃ (s : State) (x : Strobe),
      s.halo.strobes = [x] ∧
      s.halo.snaps = [] ∧
      s.halo.pinAt = [] :=
  ⟨{ up with halo := { strobes := [{ due := 625, origin := 1, pin := false, scheduled := true }], nextSnap := 65535 } }, { due := 625, origin := 1, pin := false, scheduled := true }, by decide +kernel⟩

/-- Clause 24 of HaloTriggersAndSnapshots is met. -/
theorem witness_HaloTriggersAndSnapshots_24 :
    ∃ (s : State) (x : Strobe) (y : Snapshot),
      s.halo.strobes = [x] ∧
      s.halo.snaps = [y] ∧
      y.late = none :=
  ⟨{ up with halo := { strobes := [{ due := 625, origin := 1, pin := false, scheduled := true }], snaps := [snap], snapMerged := 65535 } }, { due := 625, origin := 1, pin := false, scheduled := true }, snap, by decide +kernel⟩

/-- Clause 25 of HaloTriggersAndSnapshots is met. -/
theorem witness_HaloTriggersAndSnapshots_25 :
    ∃ (s : State),
      s.halo.strobes = [] :=
  ⟨up, by decide +kernel⟩

/-- Clause 26 of HaloTriggersAndSnapshots is met. -/
theorem witness_HaloTriggersAndSnapshots_26 :
    ∃ (x : Snapshot) (l : List Snapshot),
      l.length = 7 ∧
      x.pinned = false :=
  ⟨{ snap with pinned := false, id := 1 }, List.replicate 7 snap, by decide +kernel⟩

/-- Clause 27 of HaloTriggersAndSnapshots is met. -/
theorem witness_HaloTriggersAndSnapshots_27 :
    ∃ (s : State) (y : Snapshot) (l : List Snapshot),
      s.halo.snaps = y :: l ∧
      y.late = none :=
  ⟨{ up with halo := { snaps := [snap, snap] } }, snap, [snap], by decide +kernel⟩

/-- Clause 28 of HaloTriggersAndSnapshots is met. -/
theorem witness_HaloTriggersAndSnapshots_28 :
    ∃ (s : State) (r : Running) (y : Snapshot),
      Runs s r specHaloSnapRead ∧
      u8 r.cmd.payload 0 = 0 ∧
      u8 r.cmd.payload 1 % 2 = 1 ∧
      s.halo.snaps = [y] ∧
      y.id = u16 r.cmd.payload 2 :=
  ⟨asked ({ up with halo := { snaps := [snap] } }) (ask 0x0C08 ([0#8, 1#8] ++ le 2 65535 ++ zeros 12)), ask 0x0C08 ([0#8, 1#8] ++ le 2 65535 ++ zeros 12), snap, by decide +kernel⟩

/-- Clause 29 of HaloTriggersAndSnapshots is met. -/
theorem witness_HaloTriggersAndSnapshots_29 :
    ∃ (s : State) (r : Running) (y : Snapshot),
      Runs s r specHaloSnapRead ∧
      u8 r.cmd.payload 0 = 1 ∧
      u8 r.cmd.payload 1 % 2 = 0 ∧
      s.halo.snaps = [y] ∧
      y.seconds = u32 r.cmd.payload 8 ∧
      y.nanos = u32 r.cmd.payload 12 :=
  ⟨asked ({ up with halo := { snaps := [snap] } }) (ask 0x0C08 ([1#8, 0#8] ++ zeros 6 ++ le 4 1 ++ le 4 2)), ask 0x0C08 ([1#8, 0#8] ++ zeros 6 ++ le 4 1 ++ le 4 2), snap, by decide +kernel⟩

/-- Clause 30 of HaloTriggersAndSnapshots is met. -/
theorem witness_HaloTriggersAndSnapshots_30 :
    ∃ (s : State) (r : Running),
      Runs s r specHaloSnapRead ∧
      u8 r.cmd.payload 0 ≤ 1 ∧
      s.halo.snaps = [] :=
  ⟨asked (up) (ask 0x0C08 ([1#8, 0#8] ++ zeros 6 ++ le 4 1 ++ le 4 2)), ask 0x0C08 ([1#8, 0#8] ++ zeros 6 ++ le 4 1 ++ le 4 2), by decide +kernel⟩

/-- Clause 31 of HaloTriggersAndSnapshots is met. -/
theorem witness_HaloTriggersAndSnapshots_31 :
    ∃ (s : State) (r : Running),
      Runs s r specHaloSnapRead ∧
      1 < u8 r.cmd.payload 0 :=
  ⟨asked (up) (ask 0x0C08 ([2#8, 0#8] ++ zeros 6 ++ le 4 1 ++ le 4 2)), ask 0x0C08 ([2#8, 0#8] ++ zeros 6 ++ le 4 1 ++ le 4 2), by decide +kernel⟩

/-- Clause 1 of PowerAndWake is met. -/
theorem witness_PowerAndWake_1 :
    ∃ (s : State),
      s.dawn.aon = false :=
  ⟨{ now := 5, fuses := { sealBit := true } }, by decide +kernel⟩

/-- Clause 2 of PowerAndWake is met. -/
theorem witness_PowerAndWake_2 :
    ∃ (s : State),
      s.dawn.aon = true :=
  ⟨up, by decide +kernel⟩

/-- Clause 4 of PowerAndWake is met. -/
theorem witness_PowerAndWake_4 :
    ∃ (s : State) (t : Nat),
      s.dawn.pwrEn = true ∧
      s.pins.pwrGood = false ∧
      max s.now t ≤ s.dawn.pwrEnRose + 38400000000 :=
  ⟨{ now := 5, dawn := { aon := true, power := .boot, pwrEn := true, pwrEnRose := 5 } }, 38400000005, by decide +kernel⟩

/-- Clause 5 of PowerAndWake is met. -/
theorem witness_PowerAndWake_5 :
    ∃ (s : State) (t : Nat),
      s.dawn.pwrEn = true ∧
      s.pins.pwrGood = false ∧
      s.dawn.pwrEnRose + 38400000000 < max s.now t :=
  ⟨{ now := 5, dawn := { aon := true, power := .boot, pwrEn := true, pwrEnRose := 5 } }, 38400000006, by decide +kernel⟩

/-- Clause 6 of PowerAndWake is met. -/
theorem witness_PowerAndWake_6 :
    ∃ (s : State),
      (s.dawn.pwrEn = false ∨ s.pins.pwrGood = true) :=
  ⟨up, by decide +kernel⟩

/-- Clause 7 of PowerAndWake is met. -/
theorem witness_PowerAndWake_7 :
    ∃ (s : State),
      s.dawn.pwrEn = true ∧
      s.pins.pwrGood = false :=
  ⟨{ now := 5, dawn := { aon := true, power := .boot, pwrEn := true, pwrEnRose := 5 } }, by decide +kernel⟩

/-- Clause 8 of PowerAndWake is met. -/
theorem witness_PowerAndWake_8 :
    ∃ (s : State),
      (s.dawn.pwrEn = false ∨ s.pins.pwrGood = true) :=
  ⟨up, by decide +kernel⟩

/-- Clause 9 of PowerAndWake is met. -/
theorem witness_PowerAndWake_9 :
    ∃ (s : State),
      s.pins.pwrGood = true ∧
      s.dawn.pwrEn = true ∧
      s.dawn.lossAt = none :=
  ⟨up, by decide +kernel⟩

/-- Clause 10 of PowerAndWake is met. -/
theorem witness_PowerAndWake_10 :
    ∃ (s : State) (t : Nat) (x : Nat),
      s.pins.pwrGood = true ∧
      s.dawn.pwrEn = true ∧
      s.dawn.lossAt = some x ∧
      max s.now t ≤ x + 384000000000 :=
  ⟨waking (fun d => { d with lossAt := some 5 }), 384000000005, 5, by decide +kernel⟩

/-- Clause 11 of PowerAndWake is met. -/
theorem witness_PowerAndWake_11 :
    ∃ (s : State),
      s.pins.pwrGood = false :=
  ⟨{ now := 5, dawn := { aon := true, power := .boot, pwrEn := true, pwrEnRose := 5 } }, by decide +kernel⟩

/-- Clause 12 of PowerAndWake is met. -/
theorem witness_PowerAndWake_12 :
    ∃ (s : State) (t : Nat),
      s.dawn.restart = some t ∧
      s.dawn.dropAt = none :=
  ⟨dozing (fun d => { d with restart := some 768384000 }), 768384000, by decide +kernel⟩

/-- Clause 13 of PowerAndWake is met. -/
theorem witness_PowerAndWake_13 :
    ∃ (s : State),
      s.dawn.restart = none :=
  ⟨up, by decide +kernel⟩

/-- Clause 14 of PowerAndWake is met. -/
theorem witness_PowerAndWake_14 :
    ∃ (s : State),
      s.pins.resetL = true ∧
      s.pins.pwrGood = true :=
  ⟨up, by decide +kernel⟩

/-- Clause 15 of PowerAndWake is met. -/
theorem witness_PowerAndWake_15 :
    ∃ (s : State),
      s.pins.resetL = true ∧
      s.pins.pwrGood = false :=
  ⟨{ up with pins := { resetL := true } }, by decide +kernel⟩

/-- Clause 16 of PowerAndWake is met. -/
theorem witness_PowerAndWake_16 :
    ∃ (s : State),
      s.pins.resetL = false :=
  ⟨{ now := 5, dawn := { aon := true, power := .boot, pwrEn := true, pwrEnRose := 5 } }, by decide +kernel⟩

/-- Clause 17 of PowerAndWake is met. -/
theorem witness_PowerAndWake_17 :
    ∃ (s : State),
      s.pins.resetL = false ∧
      s.pins.pwrGood = true :=
  ⟨{ up with pins := { pwrGood := true } }, by decide +kernel⟩

/-- Clause 18 of PowerAndWake is met. -/
theorem witness_PowerAndWake_18 :
    ∃ (s : State),
      s.pins.resetL = false ∧
      s.pins.pwrGood = false :=
  ⟨{ now := 5, dawn := { aon := true, power := .boot, pwrEn := true, pwrEnRose := 5 } }, by decide +kernel⟩

/-- Clause 19 of PowerAndWake is met. -/
theorem witness_PowerAndWake_19 :
    ∃ (s : State) (t : Nat),
      s.dawn.aon = true ∧
      s.dawn.wakeMask.getLsbD 0 = true ∧
      s.dawn.power = .sleep ∧
      s.dawn.dropAt = none ∧
      s.dawn.restart = none ∧
      s.dawn.holdoffEnd = none ∧
      s.dawn.pwrEnFell + 768000000 ≤ max s.now t :=
  ⟨dozing id, 768384000, by decide +kernel⟩

/-- Clause 20 of PowerAndWake is met. -/
theorem witness_PowerAndWake_20 :
    ∃ (s : State) (t : Nat) (g : Nat) (x : Nat),
      s.dawn.aon = true ∧
      s.dawn.wakeMask.getLsbD 0 = true ∧
      s.dawn.grantAt = some g ∧
      s.dawn.dropAt = some x ∧
      s.dawn.restart = none ∧
      s.dawn.holdoffEnd = none ∧
      s.dawn.slept = false ∧
      max s.now t < x + 768000000 :=
  ⟨waking (fun d => { d with grantAt := some 5, dropAt := some 3840005 }), 771840004, 5, 3840005, by decide +kernel⟩

/-- Clause 21 of PowerAndWake is met. -/
theorem witness_PowerAndWake_21 :
    ∃ (s : State),
      s.dawn.wakeMask.getLsbD 0 = false :=
  ⟨up, by decide +kernel⟩

/-- Clause 22 of PowerAndWake is met. -/
theorem witness_PowerAndWake_22 :
    ∃ (s : State) (t : Nat),
      s.dawn.aon = true ∧
      s.dawn.wakeMask.getLsbD 0 = true ∧
      s.dawn.power = .running ∧
      s.dawn.dropAt = none ∧
      s.dawn.pwrEnRose ≤ max s.now t ∧
      s.thermal.sleep = .awake ∧
      s.dawn.wakePending.getLsbD 0 = false ∧
      s.boot.ready = true :=
  ⟨waking id, 7, by decide +kernel⟩

/-- Clause 23 of PowerAndWake is met. -/
theorem witness_PowerAndWake_23 :
    ∃ (s : State) (t : Nat),
      s.dawn.aon = true ∧
      s.dawn.wakeMask.getLsbD 0 = true ∧
      s.dawn.power = .running ∧
      s.dawn.dropAt = none ∧
      s.dawn.pwrEnRose ≤ max s.now t ∧
      s.thermal.sleep = .awake ∧
      s.dawn.wakePending.getLsbD 0 = true :=
  ⟨waking (fun d => { d with wakePending := 1#3 }), 7, by decide +kernel⟩

/-- Clause 24 of PowerAndWake is met. -/
theorem witness_PowerAndWake_24 :
    ∃ (s : State) (t : Nat) (m : BitVec 3) (a : Nat) (b : Nat),
      s.dawn.aon = true ∧
      s.dawn.wakeMask.getLsbD 0 = true ∧
      s.dawn.power = .running ∧
      s.dawn.dropAt = none ∧
      s.dawn.pwrEnRose ≤ max s.now t ∧
      s.thermal.sleep = .preparing m a b ∧
      s.dawn.entryWake = none ∧
      s.dawn.wakePending.getLsbD 0 = true :=
  ⟨{ entering (.preparing 7#3 1 0) none with dawn := { (waking id).dawn with wakePending := 1#3 } }, 7, 7#3, 1, 0, by decide +kernel⟩

/-- Clause 25 of PowerAndWake is met. -/
theorem witness_PowerAndWake_25 :
    ∃ (s : State),
      s.dawn.wakeMask.getLsbD 2 = false :=
  ⟨up, by decide +kernel⟩

/-- Clause 26 of PowerAndWake is met. -/
theorem witness_PowerAndWake_26 :
    ∃ (s : State) (t : Nat),
      s.dawn.aon = true ∧
      s.dawn.wakeMask.getLsbD 2 = true ∧
      s.dawn.power = .running ∧
      s.dawn.dropAt = none ∧
      s.dawn.pwrEnRose ≤ max s.now t ∧
      s.thermal.sleep = .awake ∧
      s.dawn.wakePending.getLsbD 2 = false ∧
      s.boot.ready = true :=
  ⟨waking id, 7, by decide +kernel⟩

/-- Clause 28 of PowerAndWake is met. -/
theorem witness_PowerAndWake_28 :
    ∃ (s : State) (g : Nat),
      s.dawn.aon = true ∧
      s.dawn.wakeMask.getLsbD 1 = true ∧
      s.dawn.timerTicks ≠ 0 ∧
      s.dawn.power = .sleep ∧
      s.dawn.dropAt = none ∧
      s.dawn.grantAt = some g ∧
      s.dawn.restart = none ∧
      s.dawn.holdoffEnd = none :=
  ⟨dozing (fun d => { d with grantAt := some 5 }), 5, by decide +kernel⟩

/-- Clause 29 of PowerAndWake is met. -/
theorem witness_PowerAndWake_29 :
    ∃ (s : State),
      (s.dawn.wakeMask.getLsbD 1 = false ∨ s.dawn.asleep = false) :=
  ⟨waking id, by decide +kernel⟩

/-- Clause 31 of PowerAndWake is met. -/
theorem witness_PowerAndWake_31 :
    ∃ (s : State) (a : Nat),
      s.dawn.shutdownAt = some a :=
  ⟨waking (fun d => { d with shutdownAt := some 5 }), 5, by decide +kernel⟩

/-- Clause 32 of PowerAndWake is met. -/
theorem witness_PowerAndWake_32 :
    ∃ (s : State),
      s.dawn.shutdownAt = none :=
  ⟨up, by decide +kernel⟩

/-- Clause 33 of PowerAndWake is met. -/
theorem witness_PowerAndWake_33 :
    ∃ (s : State) (e : Nat),
      s.dawn.aon = true ∧
      s.dawn.wakeMask.getLsbD 0 = true ∧
      s.dawn.power = .sleep ∧
      s.dawn.dropAt = none ∧
      s.dawn.restart = none ∧
      s.dawn.holdoffEnd = some e ∧
      s.dawn.latched = none :=
  ⟨dozing (fun d => { d with holdoffEnd := some 900000000 }), 900000000, by decide +kernel⟩

/-- Clause 34 of PowerAndWake is met. -/
theorem witness_PowerAndWake_34 :
    ∃ (s : State) (e : Nat),
      s.dawn.holdoffEnd = some e ∧
      s.dawn.latched = some .i2c ∧
      s.dawn.power = .sleep ∧
      s.dawn.dropAt = none ∧
      s.dawn.pwrEnFell + 768000000 ≤ max s.now e :=
  ⟨dozing (fun d => { d with holdoffEnd := some 768384000, latched := some .i2c }), 768384000, by decide +kernel⟩

/-- Clause 35 of PowerAndWake is met. -/
theorem witness_PowerAndWake_35 :
    ∃ (s : State) (e : Nat),
      s.dawn.holdoffEnd = some e ∧
      s.dawn.latched = none :=
  ⟨dozing (fun d => { d with holdoffEnd := some 768384000 }), 768384000, by decide +kernel⟩

/-- Clause 36 of PowerAndWake is met. -/
theorem witness_PowerAndWake_36 :
    ∃ (s : State),
      s.dawn.holdoffEnd = none :=
  ⟨up, by decide +kernel⟩

/-- Clause 1 of SleepAndTemperature is met. -/
theorem witness_SleepAndTemperature_1 :
    ∃ (s : State) (r : Running),
      Runs s r specPwrSleep ∧
      s.role ≠ .manager ∧
      r.cascade = false ∧
      u16 r.cmd.payload 2 ≤ 60000 ∧
      (u8 r.cmd.payload 0 / 2 % 2 = 0 ∨ 1 ≤ u32 r.cmd.payload 4) ∧
      s.thermal.sleep = .awake ∧
      s.dawn.asleep = false ∧
      s.refuser r (u16 r.cmd.payload 2 * 384000000) = none :=
  ⟨asked (waking id) (ask 0x0D01 ([2#8, 0#8] ++ le 2 60000 ++ le 4 1)), ask 0x0D01 ([2#8, 0#8] ++ le 2 60000 ++ le 4 1), by decide +kernel⟩

/-- Clause 3 of SleepAndTemperature is met. -/
theorem witness_SleepAndTemperature_3 :
    ∃ (s : State),
      s.tx.queue = [] ∧
      (∀ p : Fin 4, (s.fh.port p).up = false) :=
  ⟨up, by decide +kernel⟩

/-- Clause 4 of SleepAndTemperature is met. -/
theorem witness_SleepAndTemperature_4 :
    ∃ (s : State) (r : Running) (c : Nat),
      Runs s r specPwrSleep ∧
      u16 r.cmd.payload 2 ≤ 60000 ∧
      (u8 r.cmd.payload 0 / 2 % 2 = 0 ∨ 1 ≤ u32 r.cmd.payload 4) ∧
      s.thermal.sleep = .awake ∧
      s.dawn.asleep = false ∧
      s.refuser r (u16 r.cmd.payload 2 * 384000000) = some c :=
  ⟨asked (waking (fun d => { d with wakePending := 2#3 })) (ask 0x0D01 ([2#8, 0#8] ++ le 2 60000 ++ le 4 1)), ask 0x0D01 ([2#8, 0#8] ++ le 2 60000 ++ le 4 1), 6, by decide +kernel⟩

/-- Clause 5 of SleepAndTemperature is met. -/
theorem witness_SleepAndTemperature_5 :
    ∃ (s : State) (r : Running),
      Runs s r specPwrSleep ∧
      (60000 < u16 r.cmd.payload 2 ∨ (u8 r.cmd.payload 0 / 2 % 2 = 1 ∧ u32 r.cmd.payload 4 = 0)) :=
  ⟨asked (up) (ask 0x0D01 ([2#8, 0#8] ++ le 2 60000 ++ le 4 0)), ask 0x0D01 ([2#8, 0#8] ++ le 2 60000 ++ le 4 0), by decide +kernel⟩

/-- Clause 7 of SleepAndTemperature is met. -/
theorem witness_SleepAndTemperature_7 :
    ∃ (s : State) (r : Running) (n : Fin 4),
      r.cascade = false ∧
      n.val ≠ r.mbx ∧
      (s.host.mailbox n).state ≠ .idle :=
  ⟨{ up with host := { up.host with mbx := [(3, { state := .response })] } }, ask 0x0D01 (zeros 8), 3, by decide +kernel⟩

/-- Clause 8 of SleepAndTemperature is met. -/
theorem witness_SleepAndTemperature_8 :
    ∃ (s : State) (r : Running),
      (∀ n : Fin 4, (s.host.mailbox n).state = .idle ∨ (n.val = r.mbx ∧ r.cascade = false)) :=
  ⟨up, ask 0x0D01 (zeros 8), by decide +kernel⟩

/-- Clause 9 of SleepAndTemperature is met. -/
theorem witness_SleepAndTemperature_9 :
    ∃ (s : State) (r : Running),
      Runs s r specPwrSleep ∧
      s.role = .manager ∧
      r.cmd.target = 0xFFFF ∧
      s.joinedWorkers ≠ [] ∧
      u16 r.cmd.payload 2 ≤ 60000 ∧
      (u8 r.cmd.payload 0 / 2 % 2 = 0 ∨ 1 ≤ u32 r.cmd.payload 4) ∧
      s.thermal.sleep = .awake ∧
      s.dawn.asleep = false ∧
      s.refuser r (u16 r.cmd.payload 2 * 384000000) = none :=
  ⟨asked (boss) ({ ask 0x0D01 ([2#8, 0#8] ++ le 2 60000 ++ le 4 1) with cmd := { (ask 0x0D01 ([2#8, 0#8] ++ le 2 60000 ++ le 4 1)).cmd with target := 0xFFFF } }), { ask 0x0D01 ([2#8, 0#8] ++ le 2 60000 ++ le 4 1) with cmd := { (ask 0x0D01 ([2#8, 0#8] ++ le 2 60000 ++ le 4 1)).cmd with target := 0xFFFF } }, by decide +kernel⟩

/-- Clause 10 of SleepAndTemperature is met. -/
theorem witness_SleepAndTemperature_10 :
    ∃ (s : State) (ticks : Nat) (ended : Nat) (m : BitVec 3),
      s.thermal.sleep = .preparing m ticks ended ∧
      s.radio.state = .standby ∧
      s.radio.moving = none ∧
      s.dawn.dropAt = none ∧
      s.nv.queue = [] ∧
      s.dawn.entryWake = none :=
  ⟨entering (.preparing 3#3 9 2) none, 9, 2, 3#3, by decide +kernel⟩

/-- Clause 11 of SleepAndTemperature is met. -/
theorem witness_SleepAndTemperature_11 :
    ∃ (s : State) (ticks : Nat) (ended : Nat) (m : BitVec 3) (src : WakeSource),
      s.thermal.sleep = .preparing m ticks ended ∧
      s.radio.state = .standby ∧
      s.radio.moving = none ∧
      s.dawn.dropAt = none ∧
      s.nv.queue = [] ∧
      s.dawn.entryWake = some src :=
  ⟨entering (.preparing 3#3 9 2) (some .wakeL), 9, 2, 3#3, .wakeL, by decide +kernel⟩

/-- Clause 13 of SleepAndTemperature is met. -/
theorem witness_SleepAndTemperature_13 :
    ∃ (s : State),
      s.radio.state ≠ .standby :=
  ⟨onAir, by decide +kernel⟩

/-- Clause 14 of SleepAndTemperature is met. -/
theorem witness_SleepAndTemperature_14 :
    ∃ (s : State) (t : Nat),
      s.dawn.dropAt = some t :=
  ⟨waking (fun d => { d with grantAt := some 5, dropAt := some 3840005 }), 3840005, by decide +kernel⟩

/-- Clause 15 of SleepAndTemperature is met. -/
theorem witness_SleepAndTemperature_15 :
    ∃ (s : State),
      s.dawn.dropAt = none :=
  ⟨up, by decide +kernel⟩

/-- Clause 16 of SleepAndTemperature is met. -/
theorem witness_SleepAndTemperature_16 :
    ∃ (s : State) (ticks : Nat) (guard : Nat) (since : Nat) (m : BitVec 3) (p : Fin 16),
      s.thermal.sleep = .collecting m ticks guard [p.val] since :=
  ⟨{ boss with thermal := { boss.thermal with sleep := .collecting 3#3 9 5 [1] 7 } }, 9, 5, 7, 3#3, 1, by decide +kernel⟩

/-- Clause 17 of SleepAndTemperature is met. -/
theorem witness_SleepAndTemperature_17 :
    ∃ (s : State) (ticks : Nat) (guard : Nat) (since : Nat) (q : Nat) (m : BitVec 3) (p : Fin 16),
      s.thermal.sleep = .collecting m ticks guard [p.val, q] since ∧
      q ≠ p.val ∧
      (s.lcl.pos q).state = .joined :=
  ⟨{ boss with thermal := { boss.thermal with sleep := .collecting 3#3 9 5 [0, 1] 7 } }, 9, 5, 7, 1, 3#3, 0, by decide +kernel⟩

/-- Clause 19 of SleepAndTemperature is met. -/
theorem witness_SleepAndTemperature_19 :
    ∃ (s : State) (ticks : Nat) (guard : Nat) (since : Nat) (q : Nat) (m : BitVec 3),
      s.thermal.sleep = .collecting m ticks guard [q] since ∧
      (s.lcl.pos q).state = .joined ∧
      s.cmd.running = [] :=
  ⟨{ boss with thermal := { boss.thermal with sleep := .collecting 3#3 9 5 [1] 7 } }, 9, 5, 7, 1, 3#3, by decide +kernel⟩

/-- Clause 20 of SleepAndTemperature is met. -/
theorem witness_SleepAndTemperature_20 :
    ∃ (s : State),
      s.thermal.sleep = .awake :=
  ⟨up, by decide +kernel⟩

/-- Clause 21 of SleepAndTemperature is met. -/
theorem witness_SleepAndTemperature_21 :
    ∃ (s : State) (ticks : Nat) (ended : Nat) (since : Nat) (m : BitVec 3),
      s.thermal.sleep = .prepared m ticks ended since :=
  ⟨entering (.prepared 3#3 9 2 7) none, 9, 2, 7, 3#3, by decide +kernel⟩

/-- Clause 22 of SleepAndTemperature is met. -/
theorem witness_SleepAndTemperature_22 :
    ∃ (s : State),
      s.thermal.sleep = .awake :=
  ⟨up, by decide +kernel⟩

/-- Clause 23 of SleepAndTemperature is met. -/
theorem witness_SleepAndTemperature_23 :
    ∃ (s : State) (ticks : Nat) (ended : Nat) (since : Nat) (m : BitVec 3),
      s.thermal.sleep = .prepared m ticks ended since :=
  ⟨entering (.prepared 3#3 9 2 7) none, 9, 2, 7, 3#3, by decide +kernel⟩

/-- Clause 24 of SleepAndTemperature is met. -/
theorem witness_SleepAndTemperature_24 :
    ∃ (s : State),
      s.thermal.sleep = .awake :=
  ⟨up, by decide +kernel⟩

/-- Clause 25 of SleepAndTemperature is met. -/
theorem witness_SleepAndTemperature_25 :
    ∃ (s : State) (ticks : Nat) (ended : Nat) (since : Nat) (m : BitVec 3),
      s.thermal.sleep = .prepared m ticks ended since :=
  ⟨entering (.prepared 3#3 9 2 7) none, 9, 2, 7, 3#3, by decide +kernel⟩

/-- Clause 26 of SleepAndTemperature is met. -/
theorem witness_SleepAndTemperature_26 :
    ∃ (s : State),
      s.thermal.sleep = .awake :=
  ⟨up, by decide +kernel⟩

/-- Clause 28 of SleepAndTemperature is met. -/
theorem witness_SleepAndTemperature_28 :
    ∃ (h : Thermal) (v : Int),
      h.history[998]? = some v :=
  ⟨{ history := List.replicate 999 10400, overTwo := 3999, overSix := 999 }, 10400, by decide +kernel⟩

/-- Clause 29 of SleepAndTemperature is met. -/
theorem witness_SleepAndTemperature_29 :
    ∃ (s : State),
      (s.boot.stage ≤ 1 ∨ s.dawn.shutdownAt.isSome = true) :=
  ⟨{}, by decide +kernel⟩

/-- Clause 30 of SleepAndTemperature is met. -/
theorem witness_SleepAndTemperature_30 :
    ∃ (s : State) (tj : Int),
      1 < s.boot.stage ∧
      s.dawn.shutdownAt = none ∧
      s.thermal.plausible tj true = true ∧
      tj < 10000 ∧
      s.thermal.conditions = [false, false, false, false, false] ∧
      s.thermal.history.length < 999 ∧
      s.spare.recordDue = false :=
  ⟨warm id, 3500, by decide +kernel⟩

/-- Clause 31 of SleepAndTemperature is met. -/
theorem witness_SleepAndTemperature_31 :
    ∃ (s : State) (tj : Int),
      1 < s.boot.stage ∧
      s.dawn.shutdownAt = none ∧
      s.thermal.plausible tj true = true ∧
      10000 ≤ tj ∧
      tj < 10600 ∧
      s.thermal.conditions = [false, false, false, false, false] ∧
      s.thermal.history.length < 999 ∧
      s.spare.recordDue = false :=
  ⟨warm (fun h => { h with tj := 9900 }), 10000, by decide +kernel⟩

/-- Clause 32 of SleepAndTemperature is met. -/
theorem witness_SleepAndTemperature_32 :
    ∃ (s : State) (tj : Int),
      1 < s.boot.stage ∧
      s.dawn.shutdownAt = none ∧
      s.thermal.plausible tj true = true ∧
      11200 ≤ tj ∧
      tj < 12000 ∧
      s.thermal.conditions = [true, true, false, false, false] ∧
      s.thermal.history.length < 999 ∧
      s.spare.recordDue = false :=
  ⟨warm (fun h => { h with tj := 11199, warn := true, throttle := true }), 11200, by decide +kernel⟩

/-- Clause 33 of SleepAndTemperature is met. -/
theorem witness_SleepAndTemperature_33 :
    ∃ (s : State) (tj : Int),
      1 < s.boot.stage ∧
      s.dawn.shutdownAt = none ∧
      s.thermal.plausible tj true = true ∧
      12000 ≤ tj :=
  ⟨warm (fun h => { h with tj := 11999 }), 12000, by decide +kernel⟩

/-- Clause 34 of SleepAndTemperature is met. -/
theorem witness_SleepAndTemperature_34 :
    ∃ (s : State) (tj : Int) (ok : Bool),
      1 < s.boot.stage ∧
      s.dawn.shutdownAt = none ∧
      (ok = false ∨ tj < -6000 ∨ 15000 < tj ∨ 1000 < tj - s.thermal.tj ∨ 1000 < s.thermal.tj - tj) :=
  ⟨warm (fun h => { h with tj := 2500 }), 3501, true, by decide +kernel⟩

/-- Clause 35 of SleepAndTemperature is met. -/
theorem witness_SleepAndTemperature_35 :
    ∃ (s : State),
      s.thermal.tripDue = true :=
  ⟨warm (fun h => { h with tripDue := true }), by decide +kernel⟩

/-- Clause 36 of SleepAndTemperature is met. -/
theorem witness_SleepAndTemperature_36 :
    ∃ (s : State),
      s.thermal.tripDue = false :=
  ⟨up, by decide +kernel⟩

/-- Clause 37 of SleepAndTemperature is met. -/
theorem witness_SleepAndTemperature_37 :
    ∃ (s : State),
      s.boot.ready = true :=
  ⟨up, by decide +kernel⟩

/-- Clause 39 of SleepAndTemperature is met. -/
theorem witness_SleepAndTemperature_39 :
    ∃ (s : State) (r : Running),
      Runs s r specPwrGetStatus :=
  ⟨asked (onAir) (ask 0x0D02 []), ask 0x0D02 [], by decide +kernel⟩

/-- Clause 40 of SleepAndTemperature is met. -/
theorem witness_SleepAndTemperature_40 :
    ∃ (s : State) (r : Running),
      Runs s r specPwrGetWake :=
  ⟨asked (waking (fun d => { d with prior := 5#4, log := [⟨6, 0, 77⟩] })) (ask 0x0D03 [1#8, 0#8, 0#8, 0#8]), ask 0x0D03 [1#8, 0#8, 0#8, 0#8], by decide +kernel⟩

/-- Clause 1 of StartUpAndProvisioning is met. -/
theorem witness_StartUpAndProvisioning_1 :
    ∃ (s : State) (x : BootFacts),
      s.boot.stage = 1 ∧
      s.dawn.shutdownAt = none ∧
      x.romEcc = false ∧
      x.sensorOk = true ∧
      -6000 ≤ x.tj ∧
      x.tj < 11200 ∧
      s.strapsValid = true ∧
      s.dawn.faultBoots.length < 3 :=
  ⟨{ up with boot := { up.boot with stage := 1, ready := false } }, { romEcc := false, tj := 11199, sensorOk := true, crystal := true, refIn := 0, repaired := true, mapOk := false, macros := [], links := [], units := [], badRecords := [.oemKey] }, by decide +kernel⟩

/-- Clause 2 of StartUpAndProvisioning is met. -/
theorem witness_StartUpAndProvisioning_2 :
    ∃ (s : State) (x : BootFacts),
      s.boot.stage = 1 ∧
      s.dawn.shutdownAt = none ∧
      x.romEcc = false ∧
      x.sensorOk = true ∧
      -6000 ≤ x.tj ∧
      x.tj < 11200 ∧
      (s.role = .invalid ∨ (s.role = .worker ∧ s.boot.bootsrc = 2#2) ∨ (s.role = .standalone ∧ s.boot.bootsrc = 3#2) ∨ (s.role = .manager ∧ s.boot.bootsrc = 3#2)) :=
  ⟨{ up with boot := { up.boot with stage := 1, ready := false, bootsrc := 3#2 } }, { romEcc := false, tj := 2500, sensorOk := true, crystal := true, refIn := 0, repaired := true, mapOk := false, macros := [], links := [], units := [], badRecords := [.oemKey] }, by decide +kernel⟩

/-- Clause 3 of StartUpAndProvisioning is met. -/
theorem witness_StartUpAndProvisioning_3 :
    ∃ (s : State) (a : Nat) (b : Nat) (c : Nat) (x : BootFacts),
      s.boot.stage = 1 ∧
      s.dawn.shutdownAt = none ∧
      x.romEcc = false ∧
      x.sensorOk = true ∧
      -6000 ≤ x.tj ∧
      x.tj < 11200 ∧
      s.strapsValid = true ∧
      s.dawn.faultBoots = [a, b, c] ∧
      a ≤ c + 230400000000000 :=
  ⟨{ { up with boot := { up.boot with stage := 1, ready := false } } with dawn := { up.dawn with faultBoots := [230400000000007, 9, 7] } }, 230400000000007, 9, 7, { romEcc := false, tj := 2500, sensorOk := true, crystal := true, refIn := 0, repaired := true, mapOk := false, macros := [], links := [], units := [], badRecords := [.oemKey] }, by decide +kernel⟩

/-- Clause 4 of StartUpAndProvisioning is met. -/
theorem witness_StartUpAndProvisioning_4 :
    ∃ (s : State) (x : BootFacts),
      s.boot.stage = 1 ∧
      s.dawn.shutdownAt = none ∧
      x.romEcc = false ∧
      x.sensorOk = true ∧
      11200 ≤ x.tj ∧
      x.tj ≤ 15000 :=
  ⟨{ up with boot := { up.boot with stage := 1, ready := false } }, { romEcc := false, tj := 11200, sensorOk := true, crystal := true, refIn := 0, repaired := true, mapOk := false, macros := [], links := [], units := [], badRecords := [.oemKey] }, by decide +kernel⟩

/-- Clause 5 of StartUpAndProvisioning is met. -/
theorem witness_StartUpAndProvisioning_5 :
    ∃ (s : State) (x : BootFacts),
      s.boot.stage = 1 ∧
      s.dawn.shutdownAt = none ∧
      x.romEcc = false ∧
      (x.sensorOk = false ∨ x.tj < -6000 ∨ 15000 < x.tj) :=
  ⟨{ up with boot := { up.boot with stage := 1, ready := false } }, { romEcc := false, tj := -6001, sensorOk := true, crystal := true, refIn := 0, repaired := true, mapOk := false, macros := [], links := [], units := [], badRecords := [.oemKey] }, by decide +kernel⟩

/-- Clause 6 of StartUpAndProvisioning is met. -/
theorem witness_StartUpAndProvisioning_6 :
    ∃ (s : State) (x : BootFacts),
      s.boot.stage = 2 ∧
      s.dawn.shutdownAt = none ∧
      x.romEcc = false ∧
      ((x.crystal = true ∧ s.role ≠ .worker) ∨ x.refIn ≠ 0) :=
  ⟨{ up with boot := { up.boot with stage := 2, ready := false } }, { romEcc := false, tj := 2500, sensorOk := true, crystal := true, refIn := 0, repaired := true, mapOk := false, macros := [], links := [], units := [], badRecords := [.oemKey] }, by decide +kernel⟩

/-- Clause 7 of StartUpAndProvisioning is met. -/
theorem witness_StartUpAndProvisioning_7 :
    ∃ (s : State) (x : BootFacts),
      s.boot.stage = 2 ∧
      s.dawn.shutdownAt = none ∧
      x.romEcc = false ∧
      (x.crystal = false ∨ s.role = .worker) ∧
      x.refIn = 0 :=
  ⟨{ up with boot := { up.boot with stage := 2, ready := false } }, { romEcc := false, tj := 2500, sensorOk := true, crystal := false, refIn := 0, repaired := true, mapOk := false, macros := [], links := [], units := [], badRecords := [.oemKey] }, by decide +kernel⟩

/-- Clause 8 of StartUpAndProvisioning is met. -/
theorem witness_StartUpAndProvisioning_8 :
    ∃ (s : State) (x : BootFacts),
      s.boot.stage = 3 ∧
      s.dawn.shutdownAt = none ∧
      x.romEcc = false :=
  ⟨{ up with boot := { up.boot with stage := 3, ready := false } }, { romEcc := false, tj := 2500, sensorOk := true, crystal := true, refIn := 0, repaired := true, mapOk := false, macros := [], links := [], units := [], badRecords := [.oemKey] }, by decide +kernel⟩

/-- Clause 9 of StartUpAndProvisioning is met. -/
theorem witness_StartUpAndProvisioning_9 :
    ∃ (x : BootFacts),
      x.repaired = true ∧
      x.units = [] :=
  ⟨{ romEcc := false, tj := 2500, sensorOk := true, crystal := true, refIn := 0, repaired := true, mapOk := false, macros := [], links := [], units := [], badRecords := [.oemKey] }, by decide +kernel⟩

/-- Clause 10 of StartUpAndProvisioning is met. -/
theorem witness_StartUpAndProvisioning_10 :
    ∃ (s : State) (x : BootFacts),
      s.boot.stage = 4 ∧
      s.dawn.shutdownAt = none ∧
      x.romEcc = false ∧
      x.links = [] :=
  ⟨{ up with boot := { up.boot with stage := 4, ready := false } }, { romEcc := false, tj := 2500, sensorOk := true, crystal := true, refIn := 0, repaired := true, mapOk := false, macros := [], links := [], units := [], badRecords := [.oemKey] }, by decide +kernel⟩

/-- Clause 11 of StartUpAndProvisioning is met. -/
theorem witness_StartUpAndProvisioning_11 :
    ∃ (s : State) (a : Nat) (i : Nat) (l : Nat) (m : Nat) (x : BootFacts),
      s.boot.stage = 4 ∧
      s.dawn.shutdownAt = none ∧
      x.romEcc = false ∧
      x.links = [(a, i, l), (a, i, m)] ∧
      l ≠ m ∧
      s.fab.spared = [] :=
  ⟨{ up with boot := { up.boot with stage := 4, ready := false } }, 1, 2, 3, 4, { romEcc := false, tj := 2500, sensorOk := true, crystal := true, refIn := 0, repaired := true, mapOk := false, macros := [], links := [(1, 2, 3), (1, 2, 4)], units := [], badRecords := [.oemKey] }, by decide +kernel⟩

/-- Clause 12 of StartUpAndProvisioning is met. -/
theorem witness_StartUpAndProvisioning_12 :
    ∃ (s : State) (x : BootFacts),
      s.boot.stage = 5 ∧
      s.dawn.shutdownAt = none ∧
      x.romEcc = false :=
  ⟨{ up with boot := { up.boot with stage := 5, ready := false, bootsrc := 2#2 } }, { romEcc := false, tj := 2500, sensorOk := true, crystal := true, refIn := 0, repaired := true, mapOk := false, macros := [], links := [], units := [], badRecords := [.oemKey] }, by decide +kernel⟩

/-- Clause 13 of StartUpAndProvisioning is met. -/
theorem witness_StartUpAndProvisioning_13 :
    ∃ (s : State) (x : BootFacts),
      s.boot.stage = 6 ∧
      s.dawn.shutdownAt = none ∧
      x.romEcc = false ∧
      s.dawn.trialMark = none ∧
      (s.nv.bank s.firstBank).shipped = true :=
  ⟨{ up with boot := { up.boot with stage := 6, ready := false } }, { romEcc := false, tj := 2500, sensorOk := true, crystal := true, refIn := 0, repaired := true, mapOk := false, macros := [], links := [], units := [], badRecords := [.oemKey] }, by decide +kernel⟩

/-- Clause 14 of StartUpAndProvisioning is met. -/
theorem witness_StartUpAndProvisioning_14 :
    ∃ (s : State) (b : Nat) (x : BootFacts),
      s.boot.stage = 6 ∧
      s.dawn.shutdownAt = none ∧
      x.romEcc = false ∧
      s.dawn.trialMark = some b ∧
      (s.nv.bank b).shipped = true :=
  ⟨{ { up with boot := { up.boot with stage := 6, ready := false, bootsrc := 1#2 } } with dawn := { up.dawn with trialMark := some 0 } }, 0, { romEcc := false, tj := 2500, sensorOk := true, crystal := true, refIn := 0, repaired := true, mapOk := false, macros := [], links := [], units := [], badRecords := [.oemKey] }, by decide +kernel⟩

/-- Clause 15 of StartUpAndProvisioning is met. -/
theorem witness_StartUpAndProvisioning_15 :
    ∃ (s : State) (x : BootFacts),
      s.boot.stage = 6 ∧
      s.dawn.shutdownAt = none ∧
      x.romEcc = false ∧
      s.nv.bankA.valid = false ∧
      s.nv.bankB.valid = false :=
  ⟨{ { up with boot := { up.boot with stage := 6, ready := false } } with nv := { bankA := {} } }, { romEcc := false, tj := 2500, sensorOk := true, crystal := true, refIn := 0, repaired := true, mapOk := false, macros := [], links := [], units := [], badRecords := [.oemKey] }, by decide +kernel⟩

/-- Clause 16 of StartUpAndProvisioning is met. -/
theorem witness_StartUpAndProvisioning_16 :
    ∃ (s : State) (x : BootFacts),
      0 < s.boot.stage ∧
      s.boot.stage < 10 ∧
      s.dawn.shutdownAt = none ∧
      x.romEcc = true :=
  ⟨{ up with boot := { up.boot with stage := 9, ready := false } }, { romEcc := true, tj := 2500, sensorOk := true, crystal := true, refIn := 0, repaired := true, mapOk := false, macros := [], links := [], units := [], badRecords := [.oemKey] }, by decide +kernel⟩

/-- Clause 17 of StartUpAndProvisioning is met. -/
theorem witness_StartUpAndProvisioning_17 :
    ∃ (s : State),
      (s.boot.stage = 0 ∨ 10 ≤ s.boot.stage) :=
  ⟨up, by decide +kernel⟩

/-- Clause 18 of StartUpAndProvisioning is met. -/
theorem witness_StartUpAndProvisioning_18 :
    ∃ (s : State) (r : Running),
      Runs s r specSecBootLoad ∧
      s.boot.stage ≠ 7 :=
  ⟨asked (up) (ask 0x0F01 (le 4 0 ++ le 4 4096)), ask 0x0F01 (le 4 0 ++ le 4 4096), by decide +kernel⟩

/-- Clause 19 of StartUpAndProvisioning is met. -/
theorem witness_StartUpAndProvisioning_19 :
    ∃ (s : State) (r : Running),
      Runs s r specSecBootLoad ∧
      s.boot.stage = 7 ∧
      (u32 r.cmd.payload 0 % 4096 ≠ 0 ∨ u32 r.cmd.payload 4 < 4096 ∨ 1048576 < u32 r.cmd.payload 4) :=
  ⟨asked ({ up with boot := { up.boot with stage := 7, ready := false } }) (ask 0x0F01 (le 4 0 ++ le 4 4095)), ask 0x0F01 (le 4 0 ++ le 4 4095), by decide +kernel⟩

/-- Clause 20 of StartUpAndProvisioning is met. -/
theorem witness_StartUpAndProvisioning_20 :
    ∃ (s : State) (r : Running),
      Runs s r specSecBootLoad ∧
      s.boot.stage = 7 ∧
      u32 r.cmd.payload 0 % 4096 = 0 ∧
      4096 ≤ u32 r.cmd.payload 4 ∧
      u32 r.cmd.payload 4 ≤ 1048576 ∧
      u32 r.cmd.payload 0 + u32 r.cmd.payload 4 ≤ 0x400000 :=
  ⟨asked ({ up with boot := { up.boot with stage := 7, ready := false } }) (ask 0x0F01 (le 4 0x3FF000 ++ le 4 4096)), ask 0x0F01 (le 4 0x3FF000 ++ le 4 4096), by decide +kernel⟩

/-- Clause 21 of StartUpAndProvisioning is met. -/
theorem witness_StartUpAndProvisioning_21 :
    ∃ (s : State),
      s.role = .worker ∧
      s.boot.stage = 8 :=
  ⟨{ hand with boot := { hand.boot with stage := 8 } }, by decide +kernel⟩

/-- Clause 22 of StartUpAndProvisioning is met. -/
theorem witness_StartUpAndProvisioning_22 :
    ∃ (s : State),
      (s.role ≠ .worker ∨ s.boot.stage ≠ 8) :=
  ⟨up, by decide +kernel⟩

/-- Clause 23 of StartUpAndProvisioning is met. -/
theorem witness_StartUpAndProvisioning_23 :
    ∃ (s : State),
      s.boot.stage = 9 :=
  ⟨{ up with boot := { up.boot with stage := 9, ready := false } }, by decide +kernel⟩

/-- Clause 24 of StartUpAndProvisioning is met. -/
theorem witness_StartUpAndProvisioning_24 :
    ∃ (s : State),
      s.boot.stage ≠ 9 :=
  ⟨{ up with boot := { up.boot with stage := 8, ready := false } }, by decide +kernel⟩

/-- Clause 25 of StartUpAndProvisioning is met. -/
theorem witness_StartUpAndProvisioning_25 :
    ∃ (s : State) (r : Running),
      Runs s r specSecGetState :=
  ⟨asked ({ up with fuses := { sealBit := true } }) (ask 0x0F02 []), ask 0x0F02 [], by decide +kernel⟩

/-- Clause 26 of StartUpAndProvisioning is met. -/
theorem witness_StartUpAndProvisioning_26 :
    ∃ (s : State) (r : Running),
      Runs s r specSecSetOemKey ∧
      s.fuses.oemKeyHash.isSome = true :=
  ⟨asked ({ up with fuses := { oemKeyHash := some [1#8] } }) (ask 0x0F03 (List.replicate 64 9#8)), ask 0x0F03 (List.replicate 64 9#8), by decide +kernel⟩

/-- Clause 27 of StartUpAndProvisioning is met. -/
theorem witness_StartUpAndProvisioning_27 :
    ∃ (s : State) (r : Running),
      Runs s r specSecSetOemKey ∧
      s.fuses.oemKeyHash = none ∧
      s.nvTempOk = false :=
  ⟨asked ({ up with thermal := { up.thermal with tj := -1 } }) (ask 0x0F03 (List.replicate 64 9#8)), ask 0x0F03 (List.replicate 64 9#8), by decide +kernel⟩

/-- Clause 28 of StartUpAndProvisioning is met. -/
theorem witness_StartUpAndProvisioning_28 :
    ∃ (s : State) (r : Running),
      Runs s r specSecSetOemKey ∧
      s.fuses.oemKeyHash = none ∧
      s.nvTempOk = true :=
  ⟨asked (up) (ask 0x0F03 (List.replicate 64 9#8)), ask 0x0F03 (List.replicate 64 9#8), by decide +kernel⟩

/-- Clause 29 of StartUpAndProvisioning is met. -/
theorem witness_StartUpAndProvisioning_29 :
    ∃ (s : State) (r : Running),
      Runs s r specSecSealRecord ∧
      s.fuses.oemKeyHash = none :=
  ⟨asked (up) (ask 0x0F04 (zeros 608)), ask 0x0F04 (zeros 608), by decide +kernel⟩

/-- Clause 30 of StartUpAndProvisioning is met. -/
theorem witness_StartUpAndProvisioning_30 :
    ∃ (s : State) (r : Running),
      Runs s r specSecSealRecord ∧
      s.fuses.oemKeyHash.isSome = true ∧
      s.fuses.sealBit = true :=
  ⟨asked ({ up with fuses := { oemKeyHash := some [1#8], sealBit := true } }) (ask 0x0F04 (zeros 608)), ask 0x0F04 (zeros 608), by decide +kernel⟩

/-- Clause 31 of StartUpAndProvisioning is met. -/
theorem witness_StartUpAndProvisioning_31 :
    ∃ (s : State) (r : Running),
      Runs s r specSecSealRecord ∧
      s.fuses.oemKeyHash.isSome = true ∧
      s.fuses.sealBit = false ∧
      r.cmd.payload.length = 608 :=
  ⟨asked ({ up with fuses := { oemKeyHash := some [1#8] } }) (ask 0x0F04 (zeros 608)), ask 0x0F04 (zeros 608), by decide +kernel⟩

/-- Clause 32 of StartUpAndProvisioning is met. -/
theorem witness_StartUpAndProvisioning_32 :
    ∃ (s : State) (r : Running),
      Runs s r specSecLockDebug ∧
      (u8 r.cmd.payload 0 ≠ 0xA5 ∨ (s.role = .manager ∧ r.cmd.target = 0xFFFF)) :=
  ⟨asked (up) (ask 0x0F05 (zeros 16)), ask 0x0F05 (zeros 16), by decide +kernel⟩

/-- Clause 33 of StartUpAndProvisioning is met. -/
theorem witness_StartUpAndProvisioning_33 :
    ∃ (s : State) (r : Running),
      Runs s r specSecLockDebug ∧
      u8 r.cmd.payload 0 = 0xA5 ∧
      s.role ≠ .manager :=
  ⟨asked ({ up with fuses := { oemKeyHash := some [1#8] } }) (ask 0x0F05 ([0xA5#8] ++ zeros 15)), ask 0x0F05 ([0xA5#8] ++ zeros 15), by decide +kernel⟩

/-- Clause 34 of StartUpAndProvisioning is met. -/
theorem witness_StartUpAndProvisioning_34 :
    ∃ (s : State) (k : List Byte) (o : Option Nat),
      s.nv.queue = [{ record := .oemKey, data := k, owner := o }] ∧
      s.fuses.oemKeyHash = none ∧
      s.nvTempOk = true :=
  ⟨{ up with nv := { queue := [{ record := .oemKey, data := [9#8], owner := some 4 }] } }, [9#8], some 4, by decide +kernel⟩

/-- Clause 35 of StartUpAndProvisioning is met. -/
theorem witness_StartUpAndProvisioning_35 :
    ∃ (s : State) (k : List Byte) (o : Option Nat),
      s.nv.queue = [{ record := .debugLock, data := k, owner := o }] ∧
      s.fuses.debugLock = false ∧
      s.nvTempOk = true :=
  ⟨{ up with nv := { queue := [{ record := .debugLock, owner := some 4 }] } }, [], some 4, by decide +kernel⟩

/-- Clause 36 of StartUpAndProvisioning is met. -/
theorem witness_StartUpAndProvisioning_36 :
    ∃ (s : State) (k : List Byte) (o : Option Nat),
      s.nv.queue = [{ record := .sealRecord, data := k, owner := o }] ∧
      s.fuses.sealBit = false ∧
      s.nvTempOk = true :=
  ⟨{ up with nv := { queue := [{ record := .sealRecord, data := [9#8], owner := some 4 }] } }, [9#8], some 4, by decide +kernel⟩

/-- Clause 37 of StartUpAndProvisioning is met. -/
theorem witness_StartUpAndProvisioning_37 :
    ∃ (s : State) (o : Nat) (k : List Byte) (r : Running),
      s.nv.queue = [{ record := .oemKey, data := k, owner := some o }] ∧
      s.fuses.oemKeyHash = none ∧
      s.nvTempOk = true ∧
      s.cmd.running = [r] ∧
      r.order = o ∧
      r.phase = .deferred ⟨0, []⟩ :=
  ⟨{ up with nv := { queue := [{ record := .oemKey, data := [9#8], owner := some 0 }] }, cmd := { running := [{ ask 0x0F03 (List.replicate 64 9#8) with phase := .deferred ⟨0, []⟩ }] } }, 0, [9#8], { ask 0x0F03 (List.replicate 64 9#8) with phase := .deferred ⟨0, []⟩ }, by decide +kernel⟩

/-- Clause 38 of StartUpAndProvisioning is met. -/
theorem witness_StartUpAndProvisioning_38 :
    ∃ (s : State) (j : NvJob),
      s.nv.queue = [{ record := .chainSettings, data := [1#8] }, j] ∧
      j.owner = none ∧
      j.record = .dutyHistory ∧
      s.nvTempOk = false :=
  ⟨{ up with thermal := { up.thermal with tj := 10001 }, nv := { queue := [{ record := .chainSettings, data := [1#8] }, { record := .dutyHistory }] } }, { record := .dutyHistory }, by decide +kernel⟩

/-- Clause 39 of StartUpAndProvisioning is met. -/
theorem witness_StartUpAndProvisioning_39 :
    ∃ (s : State),
      s.nv.queue = [] :=
  ⟨up, by decide +kernel⟩

/-- Clause 40 of StartUpAndProvisioning is met. -/
theorem witness_StartUpAndProvisioning_40 :
    ∃ (s : State),
      s.pins.pwrGood = true :=
  ⟨up, by decide +kernel⟩

/-- Clause 41 of StartUpAndProvisioning is met. -/
theorem witness_StartUpAndProvisioning_41 :
    ∃ (s : State) (x : TapInstr),
      s.fuses.debugLock = true ∧
      x ≠ .bypass ∧
      x ≠ .idcode ∧
      x ≠ .sample ∧
      x ≠ .extest :=
  ⟨{ up with fuses := { debugLock := true } }, .readFuses, by decide +kernel⟩

/-- Clause 42 of StartUpAndProvisioning is met. -/
theorem witness_StartUpAndProvisioning_42 :
    ∃ (s : State) (a : Nat),
      s.pins.pwrGood = true ∧
      s.fuses.debugLock = false ∧
      0x10000000 ≤ a :=
  ⟨up, 0x10000000, by decide +kernel⟩

/-- Clause 1 of SparesAndServiceLife is met. -/
theorem witness_SparesAndServiceLife_1 :
    ∃ (s : State) (r : Running),
      Runs s r specSpareGetStatus :=
  ⟨asked ({ up with spare := { rxRetired := 0x8000000000000001#64 } }) (ask 0x0E01 []), ask 0x0E01 [], by decide +kernel⟩

/-- Clause 2 of SparesAndServiceLife is met. -/
theorem witness_SparesAndServiceLife_2 :
    ∃ (s : State) (r : Running),
      Runs s r specSpareSetWindow ∧
      u8 r.cmd.payload 10 % 2 = 0 ∧
      10 ≤ u16 r.cmd.payload 8 ∧
      u16 r.cmd.payload 8 ≤ 1000 ∧
      s.timeUsable = true ∧
      s.spare.window = none ∧
      s.time.deviceAt (r.reached + 38400000) ≤ s.instantOf r.cmd.payload 0 :=
  ⟨asked ({ up with time := { up.time with state := .valid } }) (ask 0x0E02 (le 4 1 ++ le 4 5 ++ le 2 1000 ++ [0#8] ++ zeros 5)), ask 0x0E02 (le 4 1 ++ le 4 5 ++ le 2 1000 ++ [0#8] ++ zeros 5), by decide +kernel⟩

/-- Clause 3 of SparesAndServiceLife is met. -/
theorem witness_SparesAndServiceLife_3 :
    ∃ (s : State) (r : Running),
      Runs s r specSpareSetWindow ∧
      u8 r.cmd.payload 10 % 2 = 1 :=
  ⟨asked ({ up with time := { up.time with state := .valid }, spare := { window := some { start := 5, durationMs := 10, scheduled := true } } }) (ask 0x0E02 (le 4 1 ++ le 4 5 ++ le 2 0 ++ [1#8] ++ zeros 5)), ask 0x0E02 (le 4 1 ++ le 4 5 ++ le 2 0 ++ [1#8] ++ zeros 5), by decide +kernel⟩

/-- Clause 4 of SparesAndServiceLife is met. -/
theorem witness_SparesAndServiceLife_4 :
    ∃ (s : State) (r : Running),
      Runs s r specSpareSetWindow ∧
      u8 r.cmd.payload 10 % 2 = 0 ∧
      (u16 r.cmd.payload 8 < 10 ∨ 1000 < u16 r.cmd.payload 8) :=
  ⟨asked ({ up with time := { up.time with state := .valid } }) (ask 0x0E02 (le 4 1 ++ le 4 5 ++ le 2 1001 ++ [0#8] ++ zeros 5)), ask 0x0E02 (le 4 1 ++ le 4 5 ++ le 2 1001 ++ [0#8] ++ zeros 5), by decide +kernel⟩

/-- Clause 5 of SparesAndServiceLife is met. -/
theorem witness_SparesAndServiceLife_5 :
    ∃ (s : State) (r : Running),
      Runs s r specSpareSetWindow ∧
      u8 r.cmd.payload 10 % 2 = 0 ∧
      10 ≤ u16 r.cmd.payload 8 ∧
      u16 r.cmd.payload 8 ≤ 1000 ∧
      s.timeUsable = false :=
  ⟨asked (up) (ask 0x0E02 (le 4 1 ++ le 4 5 ++ le 2 10 ++ [0#8] ++ zeros 5)), ask 0x0E02 (le 4 1 ++ le 4 5 ++ le 2 10 ++ [0#8] ++ zeros 5), by decide +kernel⟩

/-- Clause 6 of SparesAndServiceLife is met. -/
theorem witness_SparesAndServiceLife_6 :
    ∃ (s : State) (r : Running),
      Runs s r specSpareSetWindow ∧
      u8 r.cmd.payload 10 % 2 = 0 ∧
      10 ≤ u16 r.cmd.payload 8 ∧
      u16 r.cmd.payload 8 ≤ 1000 ∧
      s.timeUsable = true ∧
      s.spare.window.isSome = true :=
  ⟨asked ({ up with time := { up.time with state := .valid }, spare := { window := some { start := 5, durationMs := 10, scheduled := true } } }) (ask 0x0E02 (le 4 1 ++ le 4 5 ++ le 2 10 ++ [0#8] ++ zeros 5)), ask 0x0E02 (le 4 1 ++ le 4 5 ++ le 2 10 ++ [0#8] ++ zeros 5), by decide +kernel⟩

/-- Clause 7 of SparesAndServiceLife is met. -/
theorem witness_SparesAndServiceLife_7 :
    ∃ (s : State) (r : Running),
      Runs s r specSpareRetirePath ∧
      s.nvTempOk = true :=
  ⟨asked (up) (ask 0x0E03 (le 8 1 ++ [3#8] ++ zeros 7)), ask 0x0E03 (le 8 1 ++ [3#8] ++ zeros 7), by decide +kernel⟩

/-- Clause 8 of SparesAndServiceLife is met. -/
theorem witness_SparesAndServiceLife_8 :
    ∃ (s : State) (r : Running),
      Runs s r specSpareRetirePath ∧
      s.nvTempOk = false :=
  ⟨asked ({ up with thermal := { up.thermal with tj := 10001 } }) (ask 0x0E03 (le 8 1 ++ [3#8] ++ zeros 7)), ask 0x0E03 (le 8 1 ++ [3#8] ++ zeros 7), by decide +kernel⟩

/-- Clause 9 of SparesAndServiceLife is met. -/
theorem witness_SparesAndServiceLife_9 :
    ∃ (dir : Nat),
      dir < 4 :=
  ⟨3, by decide +kernel⟩

/-- Clause 10 of SparesAndServiceLife is met. -/
theorem witness_SparesAndServiceLife_10 :
    ∃ (s : State) (r : Running),
      Runs s r specSpareRestorePath ∧
      mask64 r.cmd.payload 0 &&& s.spare.sliceLost ≠ 0#64 :=
  ⟨asked ({ up with spare := { sliceLost := 1#64 } }) (ask 0x0E04 (le 8 1 ++ [3#8] ++ zeros 7)), ask 0x0E04 (le 8 1 ++ [3#8] ++ zeros 7), by decide +kernel⟩

/-- Clause 11 of SparesAndServiceLife is met. -/
theorem witness_SparesAndServiceLife_11 :
    ∃ (s : State) (r : Running),
      Runs s r specSpareRestorePath ∧
      mask64 r.cmd.payload 0 &&& s.spare.sliceLost = 0#64 ∧
      s.nvTempOk = true :=
  ⟨asked ({ up with spare := { rxRetired := 1#64 } }) (ask 0x0E04 (le 8 1 ++ [3#8] ++ zeros 7)), ask 0x0E04 (le 8 1 ++ [3#8] ++ zeros 7), by decide +kernel⟩

/-- Clause 12 of SparesAndServiceLife is met. -/
theorem witness_SparesAndServiceLife_12 :
    ∃ (dir : Nat),
      dir < 4 :=
  ⟨3, by decide +kernel⟩

/-- Clause 14 of SparesAndServiceLife is met. -/
theorem witness_SparesAndServiceLife_14 :
    ∃ (s : State) (m : Nat),
      Tab.get s.spare.macros m 0 < 2 :=
  ⟨up, 4, by decide +kernel⟩

/-- Clause 15 of SparesAndServiceLife is met. -/
theorem witness_SparesAndServiceLife_15 :
    ∃ (s : State) (b : Nat),
      (5, b) ∉ s.spare.waiting ∧
      s.spare.window = none ∧
      s.spareFree 5 = true :=
  ⟨up, 3, by decide +kernel⟩

/-- Clause 16 of SparesAndServiceLife is met. -/
theorem witness_SparesAndServiceLife_16 :
    ∃ (s : State) (p : Nat),
      (7, p) ∉ s.spare.waiting ∧
      s.sparesUsed 7 = 2 :=
  ⟨{ up with spare := { used := [(7, 2)] } }, 15, by decide +kernel⟩

/-- Clause 17 of SparesAndServiceLife is met. -/
theorem witness_SparesAndServiceLife_17 :
    ∃ (s : State) (u : Nat) (k : Fin 9),
      4 ≤ k.val ∧
      (k.val, u) ∈ s.spare.waiting :=
  ⟨{ up with spare := { waiting := [(8, 31)] } }, 31, 8, by decide +kernel⟩

/-- Clause 18 of SparesAndServiceLife is met. -/
theorem witness_SparesAndServiceLife_18 :
    ∃ (s : State) (w : Maintenance),
      s.spare.window = some w ∧
      w.opened = false ∧
      s.spare.waiting = [] :=
  ⟨{ up with spare := { window := some { start := 5, durationMs := 10, scheduled := true } } }, { start := 5, durationMs := 10, scheduled := true }, by decide +kernel⟩

/-- Clause 19 of SparesAndServiceLife is met. -/
theorem witness_SparesAndServiceLife_19 :
    ∃ (s : State) (w : Maintenance) (p : Nat),
      s.spare.window = some w ∧
      w.opened = false ∧
      w.turn = 0 ∧
      s.spare.current = none ∧
      s.spare.waiting = [(7, p)] ∧
      max s.now w.start + 768000000 < w.start + w.durationMs * 384000000 :=
  ⟨{ up with spare := { window := some { start := 5, durationMs := 10, scheduled := true }, waiting := [(7, 15)] } }, { start := 5, durationMs := 10, scheduled := true }, 15, by decide +kernel⟩

/-- Clause 20 of SparesAndServiceLife is met. -/
theorem witness_SparesAndServiceLife_20 :
    ∃ (s : State) (w : Maintenance) (p : Nat),
      s.spare.window = some w ∧
      w.opened = false ∧
      s.spare.current = none ∧
      s.spare.waiting = [(7, p)] ∧
      w.start + w.durationMs * 384000000 ≤ max s.now w.start + 768000000 :=
  ⟨{ up with spare := { window := some { start := 5, durationMs := 2, scheduled := true }, waiting := [(7, 15)] } }, { start := 5, durationMs := 2, scheduled := true }, 15, by decide +kernel⟩

/-- Clause 21 of SparesAndServiceLife is met. -/
theorem witness_SparesAndServiceLife_21 :
    ∃ (s : State),
      s.spare.window = none :=
  ⟨up, by decide +kernel⟩

/-- Clause 22 of SparesAndServiceLife is met. -/
theorem witness_SparesAndServiceLife_22 :
    ∃ (s : State) (w : Maintenance),
      s.spare.window = some w ∧
      w.opened = true :=
  ⟨{ up with spare := { window := some { start := 5, durationMs := 10, scheduled := true, opened := true } } }, { start := 5, durationMs := 10, scheduled := true, opened := true }, by decide +kernel⟩

/-- Clause 23 of SparesAndServiceLife is met. -/
theorem witness_SparesAndServiceLife_23 :
    ∃ (s : State) (t : Nat) (c : Replacement),
      s.spare.current = some c ∧
      c.kind = 7 ∧
      c.since ≤ max s.now t ∧
      s.spare.window = none ∧
      c.unit < 16 ∧
      s.spare.procMap = [] :=
  ⟨{ up with spare := { current := some { kind := 7, unit := 15, spare := 17, since := 5 }, used := [(7, 1)] } }, 5, { kind := 7, unit := 15, spare := 17, since := 5 }, by decide +kernel⟩

/-- Clause 24 of SparesAndServiceLife is met. -/
theorem witness_SparesAndServiceLife_24 :
    ∃ (s : State),
      s.spare.current = none :=
  ⟨up, by decide +kernel⟩

/-- Clause 25 of SparesAndServiceLife is met. -/
theorem witness_SparesAndServiceLife_25 :
    ∃ (s : State) (t : Nat) (c : Replacement),
      s.spare.current = some c ∧
      max s.now t < c.since :=
  ⟨{ up with spare := { current := some { kind := 7, unit := 15, spare := 17, since := 5 }, used := [(7, 1)] } }, 4, { kind := 7, unit := 15, spare := 17, since := 5 }, by decide +kernel⟩

/-- Clause 26 of SparesAndServiceLife is met. -/
theorem witness_SparesAndServiceLife_26 :
    ∃ (s : State) (c : Replacement),
      s.spare.current = some c ∧
      c.kind = 8 ∧
      c.unit < 32 ∧
      s.spare.engineMap = [] :=
  ⟨{ receiving fresh with spare := { current := some { kind := 8, unit := 31, spare := 32, since := 5 }, drained := [31] } }, { kind := 8, unit := 31, spare := 32, since := 5 }, by decide +kernel⟩

/-- Clause 27 of SparesAndServiceLife is met. -/
theorem witness_SparesAndServiceLife_27 :
    ∃ (s : State),
      s.spare.current = none :=
  ⟨up, by decide +kernel⟩

/-- Clause 28 of SparesAndServiceLife is met. -/
theorem witness_SparesAndServiceLife_28 :
    ∃ (s : State),
      s.boot.ready = true ∧
      769 ∉ s.spare.wear ∧
      36 ≤ s.nv.spareUsed :=
  ⟨{ up with nv := { spareUsed := 36 } }, by decide +kernel⟩

/-- Clause 29 of SparesAndServiceLife is met. -/
theorem witness_SparesAndServiceLife_29 :
    ∃ (s : State),
      (769 ∈ s.spare.wear ∨ s.nv.spareUsed < 36) :=
  ⟨{ up with nv := { spareUsed := 36 }, spare := { wear := [769] } }, by decide +kernel⟩

/-- Clause 30 of SparesAndServiceLife is met. -/
theorem witness_SparesAndServiceLife_30 :
    ∃ (s : State),
      s.boot.ready = true ∧
      s.nvTempOk = true :=
  ⟨up, by decide +kernel⟩

/-- Clause 31 of SparesAndServiceLife is met. -/
theorem witness_SparesAndServiceLife_31 :
    ∃ (s : State),
      s.boot.ready = true ∧
      s.nvTempOk = false :=
  ⟨{ up with thermal := { up.thermal with tj := -1 } }, by decide +kernel⟩

/-- Clause 32 of SparesAndServiceLife is met. -/
theorem witness_SparesAndServiceLife_32 :
    ∃ (s : State),
      s.boot.ready = false :=
  ⟨{}, by decide +kernel⟩

end Sys2Proof.Tests
end

section
/-!
PROOFS. Resets, rails and wake events (family 02): one rule per shared operation of the resets and of Dawn, then the statements.
-/

namespace Sys2Proof.Machine

open Sys2Proof

/-! ### Resets (R34, R382) -/

section
variable (s : State)

/-- What outlives a reset of every domain but Dawn. -/
@[simp] theorem State.domainReset_keeps :
    s.domainReset.now = s.now ∧ s.domainReset.pending = s.pending ∧ s.domainReset.free = s.free ∧
    s.domainReset.hostMem = s.hostMem ∧ s.domainReset.dawn = s.dawn ∧ s.domainReset.fuses = s.fuses ∧
    s.domainReset.nv.hostArea = s.nv.hostArea ∧ s.domainReset.nv.regRecord = s.nv.regRecord := by
  repeat' apply And.intro
  all_goals rfl

/-- The units that a reset returns to their reset values, wherever the straps do not count. -/
@[simp] theorem State.domainReset_clears :
    s.domainReset.boot = {} ∧ s.domainReset.cmd = {} ∧ s.domainReset.mem = [] := ⟨rfl, rfl, rfl⟩

/-- What outlives a reset from inside: the straps and Dawn's records too. -/
@[simp] theorem State.internalReset_keeps (cause : Option Nat) :
    (s.internalReset cause).now = s.now ∧ (s.internalReset cause).pending = s.pending ∧
    (s.internalReset cause).hostMem = s.hostMem ∧ (s.internalReset cause).fuses = s.fuses ∧
    (s.internalReset cause).nv.hostArea = s.nv.hostArea ∧ (s.internalReset cause).nv.regRecord = s.nv.regRecord ∧
    (s.internalReset cause).dawn.trialMark = s.dawn.trialMark ∧ (s.internalReset cause).dawn.log = s.dawn.log ∧
    (s.internalReset cause).boot.role = s.boot.role ∧ (s.internalReset cause).boot.bootsrc = s.boot.bootsrc := by
  repeat' apply And.intro
  all_goals rfl

/-- The units that a reset from inside returns to their reset values. -/
@[simp] theorem State.internalReset_clears (cause : Option Nat) :
    (s.internalReset cause).mem = [] ∧ (s.internalReset cause).evq = {} ∧ (s.internalReset cause).cmd = {} ∧
    (s.internalReset cause).path = {} ∧ (s.internalReset cause).radio = {} ∧ (s.internalReset cause).filt = {} ∧
    (s.internalReset cause).beam = {} ∧ (s.internalReset cause).hzn = {} ∧ (s.internalReset cause).dmd = {} ∧
    (s.internalReset cause).tx = {} ∧ (s.internalReset cause).dpd = {} ∧ (s.internalReset cause).halo = {} ∧
    (s.internalReset cause).cal = {} := by
  repeat' apply And.intro
  all_goals rfl

/-- A reset from inside leaves the boot ROM at its first stage. -/
@[simp] theorem State.internalReset_boot (cause : Option Nat) :
    (s.internalReset cause).boot.stage = 1 ∧ (s.internalReset cause).boot.ready = false := ⟨rfl, rfl⟩

/-- Dawn records the cause of a reset from inside. -/
@[simp] theorem State.internalReset_bootCause (c : Nat) :
    (s.internalReset (some c)).dawn.bootCause = BitVec.ofNat 8 c := rfl

end

section
variable {s : State}

/-- A scheduled reset of this device alone. -/
theorem exec_sysResetDelayExpiry_alone {d : Nat} (h : s.cmd.sysReset = some { due := d, chain := false }) :
    exec .sysResetDelayExpiry s = .next ((s.advance d).internalReset (some 0x04)) := by
  change execSysResetDelayExpiry s = _
  simp [execSysResetDelayExpiry, h]

/-- A scheduled reset of a chain: the workers are told, and the manager's own reset follows. -/
theorem exec_sysResetDelayExpiry_chain {d : Nat} (h : s.cmd.sysReset = some { due := d, chain := true }) :
    exec .sysResetDelayExpiry s = .next { s.advance d with
      lcl := { s.lcl with sent := s.lcl.sent ++ s.joinedWorkers.map (fun w => ⟨w, 0, workerResetBytes⟩) }
      cmd := { s.cmd with sysReset := some { due := d + 10 * 384000000, chain := false } } } := by
  change execSysResetDelayExpiry s = _
  simp [execSysResetDelayExpiry, h, State.joinedWorkers, Config.ms]

/-- The reset into a trial bank. -/
theorem exec_fwTrialReset_due {d : Nat} {chain : Bool} (h : s.cmd.fwReset = some { due := d, chain := chain }) :
    exec .fwTrialReset s = .next ((s.advance d).internalReset (some 0x04)) := by
  change execFwTrialReset s = _
  simp [execFwTrialReset, h]

/-- The host reaches the registers or not whatever the time. -/
@[simp] theorem State.hostAccess_advance (t : Nat) : (s.advance t).hostAccess = s.hostAccess := rfl

/-- A host write of HOST_RESET with its key. -/
theorem exec_hostReset_key {t : Nat} {v : Word} (ha : s.hostAccess = true) (hk : v.toNat % 256 = 0xA5)
    (hr : v.getLsbD 8 = true) : exec (.hostReset t v) s = .next ((s.advance t).internalReset (some 0x04)) := by
  change execHostReset t v s = _
  simp [execHostReset, State.hostReset, ha, hk, hr]

/-- A host write of HOST_RESET without its key or without SOFT_RESET. -/
theorem exec_hostReset_noKey {t : Nat} {v : Word} (h : v.toNat % 256 ≠ 0xA5 ∨ v.getLsbD 8 = false) :
    exec (.hostReset t v) s = .next (s.advance t) := by
  change execHostReset t v s = _
  have hr : (s.advance t).hostReset v = s.advance t := by
    rcases h with hk | hr
    · simp [State.hostReset, hk]
    · simp only [State.hostReset, hr, Bool.and_false, Bool.false_eq_true, if_false]
  simp [execHostReset, hr]

/-- The first command without a response leaves its barrier. -/
theorem exec_barrierRelease_first {r : Running} {rest : List Running} {t : Nat} (h : s.cmd.running = r :: rest)
    (hp : r.phase = .barrier) :
    exec (.barrierRelease t) s = .next { s.advance t with cmd := s.cmd.setPhase r.order .ready } := by
  change execBarrierRelease t s = _
  simp [execBarrierRelease, h, hp]

end

/-- Settles O51: each clause is the row's rule above, read field by field through the rules of `internalReset`. -/
theorem resetsAndBarriers : Obligations.ResetsAndBarriers := by
  unfold Obligations.ResetsAndBarriers
  refine ⟨?_, ?_, ?_, ?_, ?_, ?_⟩
  · intro s d h
    exact ⟨_, exec_sysResetDelayExpiry_alone h, by simp⟩
  · intro s d h
    exact exec_sysResetDelayExpiry_chain h
  · intro s d h
    exact ⟨_, exec_fwTrialReset_due h, by simp⟩
  · intro s t v ha hk hr
    exact ⟨_, exec_hostReset_key ha hk hr, by simp⟩
  · intro s t v h
    exact exec_hostReset_noKey h
  · intro s r rest t h hp
    exact exec_barrierRelease_first h hp

/-! ### The rails (R30 to R37) -/

section
variable (s : State)

/-- PWR_EN rises 10 to 50 us after its cause (t1 of Table BALL-5). -/
theorem State.riseDelay_bounds : 3840000 ≤ s.riseDelay.1 ∧ s.riseDelay.1 ≤ 19200000 := by
  have h := Nat.mod_lt (Config.freeNat s.free) (show 0 < 40 * Config.us + 1 by decide)
  simp only [State.riseDelay, State.draw, Config.us] at h ⊢
  omega

/-- The fall of PWR_EN, as Dawn sees it. -/
@[simp] theorem State.powerDown_dawn (granted : Bool) :
    (s.powerDown granted).dawn = { s.dawn with
      pwrEn := false, pwrEnFell := s.now, power := .sleep, dropAt := none, entryWake := none, shutdownAt := none
      grantAt := if granted then s.dawn.grantAt else none
      slept := granted && s.dawn.slept } := rfl

/-- The fall of PWR_EN, as the rest of the device sees it. -/
@[simp] theorem State.powerDown_resets (granted : Bool) :
    (s.powerDown granted).now = s.now ∧ (s.powerDown granted).boot = {} ∧ (s.powerDown granted).cmd = {} ∧
    (s.powerDown granted).pins.pwrGood = false ∧ (s.powerDown granted).nv.regRecord = s.nv.regRecord :=
  ⟨rfl, rfl, rfl, rfl, rfl⟩

/-- The time at which a missing PWR_GOOD is noticed. -/
@[simp] theorem State.goodTimeout_now : s.goodTimeout.now = max s.now (s.dawn.pwrEnRose + 38400000000) := rfl

/-- A PWR_GOOD that comes too late comes after that time. -/
theorem State.goodTimeout_advance_now {t : Nat} (h : s.dawn.pwrEnRose + 38400000000 < max s.now t) :
    (s.goodTimeout.advance t).now = max s.now t := by
  change max (max s.now (s.dawn.pwrEnRose + 38400000000)) t = max s.now t
  omega

/-- What a missing PWR_GOOD leaves: POWER_TIMEOUT recorded, and the rails down. -/
@[simp] theorem State.goodTimeout_sleeps :
    s.goodTimeout.dawn.pwrEn = false ∧ s.goodTimeout.dawn.pwrEnFell = s.goodTimeout.now ∧
    s.goodTimeout.dawn.power = .sleep ∧ s.goodTimeout.dawn.prior = s.dawn.prior ||| 1#4 ∧
    s.goodTimeout.dawn.wakeMask = s.dawn.wakeMask ∧ s.goodTimeout.pins.pwrGood = false ∧ s.goodTimeout.boot = {} :=
  ⟨rfl, rfl, rfl, rfl, rfl, rfl, rfl⟩

/-- A boot decided when the minimum off-time (R37) is over: PWR_EN is asserted. -/
theorem State.decideBoot_now {cause : Nat} (h : s.dawn.dropAt.getD s.dawn.pwrEnFell + 768000000 ≤ s.now) :
    s.decideBoot cause = { s with
      free := s.free + 1
      dawn := { s.dawn with
        bootCause := BitVec.ofNat 8 cause, pwrEn := true, pwrEnRose := s.now + s.riseDelay.1, restart := none, power := .boot
        latched := none, dropAt := none } } := by
  have hoff : offTime = 768000000 := rfl
  simp [State.decideBoot, State.riseDelay, State.draw, State.assertPwrEn, hoff, h]

/-- A boot decided within the minimum off-time (R37): PWR_EN waits for its end. -/
theorem State.decideBoot_later {cause : Nat} (h : s.now < s.dawn.dropAt.getD s.dawn.pwrEnFell + 768000000) :
    s.decideBoot cause = { s with
      free := s.free + 1
      dawn := { s.dawn with
        bootCause := BitVec.ofNat 8 cause
        restart := some (max (s.now + s.riseDelay.1) (s.dawn.dropAt.getD s.dawn.pwrEnFell + 768000000)) } } := by
  have hoff : offTime = 768000000 := rfl
  simp [State.decideBoot, State.riseDelay, State.draw, hoff, Nat.not_le.mpr h]

/-- Deciding a boot moves no time and forgets no source. -/
theorem State.decideBoot_keeps (cause : Nat) :
    (s.decideBoot cause).now = s.now ∧ (s.decideBoot cause).dawn.sourcesSeen = s.dawn.sourcesSeen := by
  rcases Nat.lt_or_ge s.now (s.dawn.dropAt.getD s.dawn.pwrEnFell + 768000000) with h | h
  · simp [State.decideBoot_later s h]
  · simp [State.decideBoot_now s h]

end

section
variable {s : State}

/-- The power-on reset of VDD_AON. -/
theorem exec_vddAonPowerOn_off {t : Nat} {w : BitVec 2} (h : s.dawn.aon = false) :
    exec (.vddAonPowerOn t w) s = .next { (s.advance t).domainReset with
      free := s.free + 1
      dawn := {
        aon := true, aonAt := max s.now t, waddr := w, power := .boot, wakeMask := 5#3, pwrEn := true
        pwrEnRose := max s.now t + s.riseDelay.1 } } := by
  change execVddAonPowerOn t w s = _
  simp [execVddAonPowerOn, h, State.riseDelay, State.draw, State.assertPwrEn]

/-- VDD_AON is there already. -/
theorem exec_vddAonPowerOn_on {t : Nat} {w : BitVec 2} (h : s.dawn.aon = true) :
    exec (.vddAonPowerOn t w) s = .next (s.advance t) := by
  change execVddAonPowerOn t w s = _
  simp [execVddAonPowerOn, h]

/-- PWR_GOOD rises in time. -/
theorem exec_pwrGoodRise_inTime {t : Nat} (he : s.dawn.pwrEn = true) (hg : s.pins.pwrGood = false)
    (ht : max s.now t ≤ s.dawn.pwrEnRose + 38400000000) :
    exec (.pwrGoodRise t) s = .next { s.advance t with pins := { s.pins with pwrGood := true } } := by
  change execPwrGoodRise t s = _
  have h : ¬ s.dawn.pwrEnRose + 100 * Config.ms < max s.now t := Nat.not_lt.mpr ht
  simp [execPwrGoodRise, he, hg, h]

/-- PWR_GOOD rises too late: the timeout has come first. -/
theorem exec_pwrGoodRise_late {t : Nat} (he : s.dawn.pwrEn = true) (hg : s.pins.pwrGood = false)
    (ht : s.dawn.pwrEnRose + 38400000000 < max s.now t) :
    exec (.pwrGoodRise t) s = .next (s.goodTimeout.advance t) := by
  change execPwrGoodRise t s = _
  have h : s.dawn.pwrEnRose + 100 * Config.ms < max s.now t := ht
  simp [execPwrGoodRise, he, hg, h]

/-- PWR_GOOD rises with PWR_EN low, or is high already. -/
theorem exec_pwrGoodRise_ignored {t : Nat} (h : s.dawn.pwrEn = false ∨ s.pins.pwrGood = true) :
    exec (.pwrGoodRise t) s = .next (s.advance t) := by
  change execPwrGoodRise t s = _
  rcases h with h | h <;> simp [execPwrGoodRise, h]

/-- PWR_GOOD is missing. -/
theorem exec_pwrGoodTimeout_missing (he : s.dawn.pwrEn = true) (hg : s.pins.pwrGood = false) :
    exec .pwrGoodTimeout s = .next s.goodTimeout := by
  change execPwrGoodTimeout s = _
  simp [execPwrGoodTimeout, he, hg]

/-- PWR_GOOD is not awaited. -/
theorem exec_pwrGoodTimeout_ignored (h : s.dawn.pwrEn = false ∨ s.pins.pwrGood = true) :
    exec .pwrGoodTimeout s = .next s := by
  change execPwrGoodTimeout s = _
  rcases h with h | h <;> simp [execPwrGoodTimeout, h]

/-- A loss of PWR_GOOD that is not the second within 1 s. -/
theorem exec_pwrGoodFall_restarts {t : Nat} (hg : s.pins.pwrGood = true) (he : s.dawn.pwrEn = true)
    (hl : ∀ x, s.dawn.lossAt = some x → x + 384000000000 < max s.now t) :
    exec (.pwrGoodFall t) s = .next { (s.advance t).powerDown false with
      dawn := { ((s.advance t).powerDown false).dawn with
        lossAt := some (max s.now t), bootCause := 0x07#8, restart := some (max s.now t + 768000000) } } := by
  change execPwrGoodFall t s = _
  cases hx : s.dawn.lossAt with
  | none => simp [execPwrGoodFall, hg, he, hx, offTime, Config.ms]
  | some x =>
    have h : ¬ Nat.max s.now t ≤ x + Config.sec := Nat.not_le.mpr (hl x hx)
    simp only [execPwrGoodFall, State.advance_frame, State.advance_now, hg, he, hx, h, decide_false, Bool.not_true,
      Bool.false_eq_true, if_false]
    rfl

/-- A second loss of PWR_GOOD within 1 s. -/
theorem exec_pwrGoodFall_held {t x : Nat} (hg : s.pins.pwrGood = true) (he : s.dawn.pwrEn = true)
    (hl : s.dawn.lossAt = some x) (ht : max s.now t ≤ x + 384000000000) :
    exec (.pwrGoodFall t) s = .next { (s.advance t).powerDown false with
      dawn := { ((s.advance t).powerDown false).dawn with
        lossAt := some (max s.now t), prior := s.dawn.prior ||| 8#4 } } := by
  change execPwrGoodFall t s = _
  have h : max s.now t ≤ x + Config.sec := ht
  simp [execPwrGoodFall, hg, he, hl, h]

/-- PWR_GOOD is low already. -/
theorem exec_pwrGoodFall_ignored {t : Nat} (hg : s.pins.pwrGood = false) :
    exec (.pwrGoodFall t) s = .next (s.advance t) := by
  change execPwrGoodFall t s = _
  simp [execPwrGoodFall, hg]

/-- The restart that was decided. -/
theorem exec_pwrEnRestart_due {t : Nat} (hr : s.dawn.restart = some t) (hd : s.dawn.dropAt = none) :
    exec .pwrEnRestart s = .next ((s.advance t).assertPwrEn (max s.now t)) := by
  change execPwrEnRestart s = _
  simp [execPwrEnRestart, hr, hd]

/-- No restart was decided. -/
theorem exec_pwrEnRestart_none (hr : s.dawn.restart = none) : exec .pwrEnRestart s = .next s := by
  change execPwrEnRestart s = _
  simp [execPwrEnRestart, hr]

/-! ### RESET_L (R26, R34) -/

/-- RESET_L goes low with the supplies good. -/
theorem exec_resetLAssert_resets {t : Nat} (hr : s.pins.resetL = true) (hg : s.pins.pwrGood = true) :
    exec (.resetLAssert t) s = .next
      { ({ s.advance t with pins := { s.pins with resetL := false } } : State).domainReset with
        dawn := { s.dawn with power := .boot, bootCause := 0x03#8, faultBoots := [], entryWake := none } } := by
  change execResetLAssert t s = _
  simp [execResetLAssert, hr, hg]

/-- RESET_L goes low without PWR_GOOD. -/
theorem exec_resetLAssert_noPower {t : Nat} (hr : s.pins.resetL = true) (hg : s.pins.pwrGood = false) :
    exec (.resetLAssert t) s = .next { s.advance t with pins := { s.pins with resetL := false } } := by
  change execResetLAssert t s = _
  simp [execResetLAssert, hr, hg]

/-- RESET_L is low already. -/
theorem exec_resetLAssert_ignored {t : Nat} (hr : s.pins.resetL = false) :
    exec (.resetLAssert t) s = .next (s.advance t) := by
  change execResetLAssert t s = _
  simp [execResetLAssert, hr]

/-- RESET_L goes high with the supplies good. -/
theorem exec_resetLRelease_starts {t : Nat} {a b : BitVec 2} (hr : s.pins.resetL = false) (hg : s.pins.pwrGood = true) :
    exec (.resetLRelease t a b) s = .next ({ s.advance t with
      pins := { s.pins with resetL := true }, boot := { s.boot with role := a, bootsrc := b } } : State).startRom := by
  change execResetLRelease t a b s = _
  simp [execResetLRelease, hr, hg]

/-- RESET_L goes high without PWR_GOOD. -/
theorem exec_resetLRelease_noPower {t : Nat} {a b : BitVec 2} (hr : s.pins.resetL = false) (hg : s.pins.pwrGood = false) :
    exec (.resetLRelease t a b) s = .next { s.advance t with pins := { s.pins with resetL := true } } := by
  change execResetLRelease t a b s = _
  simp [execResetLRelease, hr, hg]

end

/-! ### Wake events (R464 to R473) -/

/-- The position of a wake source's bit in WAKE_MASK, WAKE_PENDING and SOURCES_SEEN. -/
def WakeSource.index : WakeSource → Nat
  | .i2c => 0 | .timer => 1 | .wakeL => 2

/-- A source's bit of a mask is the one at its index. -/
theorem WakeSource.and_bit_eq_zero (src : WakeSource) (m : BitVec 3) :
    m &&& src.bit = 0#3 ↔ m.getLsbD src.index = false := by
  cases src <;> revert m <;> decide

section
variable {s : State} {src : WakeSource}

/-- A source that is not armed has no wake event. -/
theorem State.wake_unarmed (hm : s.dawn.wakeMask.getLsbD src.index = false) : s.wake src = s := by
  simp [State.wake, (src.and_bit_eq_zero _).mpr hm]

/-- The boot cause of a wake event once the minimum off-time is over: WAKE. -/
theorem State.wakeCause_wake (hd : s.dawn.dropAt = none) (ht : s.dawn.pwrEnFell + 768000000 ≤ s.now) :
    s.wakeCause src = 1 + 16 * src.code := by
  have h : ¬ s.now < s.dawn.pwrEnFell + offTime := Nat.not_lt.mpr ht
  simp [State.wakeCause, hd, h]

/-- The boot cause of a wake event between the grant and the fall of PWR_EN: REPLAYED. -/
theorem State.wakeCause_replayed {g x : Nat} (hg : s.dawn.grantAt = some g) (hd : s.dawn.dropAt = some x) :
    s.wakeCause src = 2 + 16 * src.code := by
  simp [State.wakeCause, hg, hd]

/-- A wake event in SLEEP with no restart decided and no span of R480: SLEPT_TICKS is fixed, and a boot decided. -/
theorem State.wakeAsleep_boots (hr : s.dawn.restart = none) (hh : s.dawn.holdoffEnd = none) :
    s.wakeAsleep src = ({ s with dawn := { s.dawn with
      slept := true
      sleptTicks := if s.dawn.slept then s.dawn.sleptTicks
        else dawnTicks (s.now - s.dawn.grantAt.getD s.dawn.pwrEnFell) } } : State).decideBoot (s.wakeCause src) := by
  by_cases hs : s.dawn.slept = true
  · have hk : s = { s with dawn := { s.dawn with slept := true } } := by rw [← hs]
    have hw : s.wakeAsleep src = s.decideBoot (s.wakeCause src) := by simp [State.wakeAsleep, hs, hr, hh]
    rw [hw, if_pos hs]
    exact congrArg (·.decideBoot (s.wakeCause src)) hk
  · simp [State.wakeAsleep, hs, hr, hh, State.wakeCause]

/-- A wake event in the span of R480 is latched and decides nothing. -/
theorem State.wakeAsleep_latches {e : Nat} (hr : s.dawn.restart = none) (hh : s.dawn.holdoffEnd = some e) :
    (s.wakeAsleep src).dawn.latched = some (s.dawn.latched.getD src) ∧ (s.wakeAsleep src).dawn.power = s.dawn.power ∧
    (s.wakeAsleep src).dawn.restart = none ∧ (s.wakeAsleep src).dawn.bootCause = s.dawn.bootCause := by
  by_cases hs : s.dawn.slept = true <;> simp [State.wakeAsleep, hs, hr, hh]

/-- A wake event while the device is awake, from a source that is pending already. -/
theorem State.wakeAwake_pending (ha : s.thermal.sleep = .awake) (hp : s.dawn.wakePending.getLsbD src.index = true) :
    s.wakeAwake src = s := by
  simp [State.wakeAwake, ha, src.and_bit_eq_zero, hp]

/-- A wake event while the device is awake, from a source that was not pending. -/
theorem State.wakeAwake_announces (ha : s.thermal.sleep = .awake) (hp : s.dawn.wakePending.getLsbD src.index = false)
    (hr : s.boot.ready = true) :
    s.wakeAwake src = ({ s with dawn := { s.dawn with
      wakePending := s.dawn.wakePending ||| src.bit } } : State).wakeEvent src := by
  simp [State.wakeAwake, ha, (src.and_bit_eq_zero _).mpr hp, hr]

/-- The first wake event of a sleep entry, from a source that is pending already. -/
theorem State.wakeAwake_entry (ha : s.thermal.sleep ≠ .awake) (he : s.dawn.entryWake = none)
    (hp : s.dawn.wakePending.getLsbD src.index = true) :
    s.wakeAwake src = { s with dawn := { s.dawn with entryWake := some src } } := by
  simp [State.wakeAwake, ha, he, src.and_bit_eq_zero, hp]

section
variable (hv : s.dawn.aon = true) (hm : s.dawn.wakeMask.getLsbD src.index = true)
include hv hm

/-- A wake event of an armed source in SLEEP or after the grant. -/
theorem State.wake_asleep (ha : s.dawn.asleep = true) :
    s.wake src = ({ s with dawn := { s.dawn with
      sourcesSeen := s.dawn.sourcesSeen ||| src.bit } } : State).wakeAsleep src := by
  rw [State.wake, if_neg (by simp [hv, src.and_bit_eq_zero, hm])]
  exact if_pos ha

/-- A wake event of an armed source decides a boot, where none is decided and no span of R480 runs. -/
theorem State.wake_decides (ha : s.dawn.asleep = true) (hr : s.dawn.restart = none) (hh : s.dawn.holdoffEnd = none) :
    s.wake src = ({ s with dawn := { s.dawn with
      sourcesSeen := s.dawn.sourcesSeen ||| src.bit
      slept := true
      sleptTicks := if s.dawn.slept then s.dawn.sleptTicks
        else dawnTicks (s.now - s.dawn.grantAt.getD s.dawn.pwrEnFell) } } : State).decideBoot (s.wakeCause src) :=
  (State.wake_asleep hv hm ha).trans (State.wakeAsleep_boots (s := _) hr hh)

/-- A wake event of an armed source while the device runs. -/
theorem State.wake_running (hw : s.dawn.power = .running) (hd : s.dawn.dropAt = none) (ht : s.dawn.pwrEnRose ≤ s.now) :
    s.wake src = ({ s with dawn := { s.dawn with
      sourcesSeen := s.dawn.sourcesSeen ||| src.bit } } : State).wakeAwake src := by
  simp [State.wake, Dawn.asleep, hv, src.and_bit_eq_zero, hm, hw, hd, Nat.not_lt.mpr ht]

/-- A wake event of an armed source that is not pending sets WAKE_PENDING and raises its event. -/
theorem State.wake_announces (hw : s.dawn.power = .running) (hd : s.dawn.dropAt = none) (ht : s.dawn.pwrEnRose ≤ s.now)
    (ha : s.thermal.sleep = .awake) (hp : s.dawn.wakePending.getLsbD src.index = false) (hr : s.boot.ready = true) :
    s.wake src = ({ s with dawn := { s.dawn with
      sourcesSeen := s.dawn.sourcesSeen ||| src.bit
      wakePending := s.dawn.wakePending ||| src.bit } } : State).wakeEvent src :=
  (State.wake_running hv hm hw hd ht).trans (State.wakeAwake_announces (s := _) ha hp hr)

/-- A wake event of an armed source that is pending raises nothing. -/
theorem State.wake_pending (hw : s.dawn.power = .running) (hd : s.dawn.dropAt = none) (ht : s.dawn.pwrEnRose ≤ s.now)
    (ha : s.thermal.sleep = .awake) (hp : s.dawn.wakePending.getLsbD src.index = true) :
    s.wake src = { s with dawn := { s.dawn with sourcesSeen := s.dawn.sourcesSeen ||| src.bit } } :=
  (State.wake_running hv hm hw hd ht).trans (State.wakeAwake_pending (s := _) ha hp)

/-- The first wake event during sleep entry is kept for Dawn's refusal (R473). -/
theorem State.wake_entry (hw : s.dawn.power = .running) (hd : s.dawn.dropAt = none) (ht : s.dawn.pwrEnRose ≤ s.now)
    (ha : s.thermal.sleep ≠ .awake) (he : s.dawn.entryWake = none) (hp : s.dawn.wakePending.getLsbD src.index = true) :
    s.wake src = { s with dawn := { s.dawn with
      sourcesSeen := s.dawn.sourcesSeen ||| src.bit, entryWake := some src } } :=
  (State.wake_running hv hm hw hd ht).trans (State.wakeAwake_entry (s := _) ha he hp)

/-- A wake event of an armed source in the span of R480 is latched and decides nothing. -/
theorem State.wake_latches {e : Nat} (hw : s.dawn.power = .sleep) (hr : s.dawn.restart = none)
    (hh : s.dawn.holdoffEnd = some e) :
    (s.wake src).dawn.latched = some (s.dawn.latched.getD src) ∧ (s.wake src).dawn.power = .sleep ∧
    (s.wake src).dawn.restart = none ∧ (s.wake src).dawn.bootCause = s.dawn.bootCause := by
  rw [State.wake_asleep hv hm (by simp [Dawn.asleep, hw]), ← hw]
  exact State.wakeAsleep_latches (s := _) hr hh

/-- A wake event of an armed source in SLEEP moves no time, and its source is seen. -/
theorem State.wake_seen (ha : s.dawn.asleep = true) (hr : s.dawn.restart = none) (hh : s.dawn.holdoffEnd = none) :
    (s.wake src).now = s.now ∧ (s.wake src).dawn.sourcesSeen = s.dawn.sourcesSeen ||| src.bit := by
  rw [State.wake_decides hv hm ha hr hh]
  exact State.decideBoot_keeps _ _

/-- A wake event of an armed source in SLEEP with the minimum off-time over boots the device. -/
theorem State.wake_boots (hw : s.dawn.power = .sleep) (hd : s.dawn.dropAt = none) (hr : s.dawn.restart = none)
    (hh : s.dawn.holdoffEnd = none) (ht : s.dawn.pwrEnFell + 768000000 ≤ s.now) :
    (s.wake src).dawn.bootCause = BitVec.ofNat 8 (1 + 16 * src.code) ∧ (s.wake src).dawn.pwrEn = true ∧
    (s.wake src).dawn.pwrEnRose = s.now + s.riseDelay.1 ∧ (s.wake src).dawn.power = .boot ∧
    (s.wake src).dawn.sourcesSeen = s.dawn.sourcesSeen ||| src.bit := by
  rw [State.wake_decides hv hm (by simp [Dawn.asleep, hw]) hr hh,
    State.wakeCause_wake hd ht, State.decideBoot_now _ (by simpa [hd] using ht)]
  exact ⟨rfl, rfl, rfl, rfl, rfl⟩

/-- The first wake event of an armed source between the grant and the fall of PWR_EN: its boot waits for the off-time. -/
theorem State.wake_replayed {g x : Nat} (hg : s.dawn.grantAt = some g) (hd : s.dawn.dropAt = some x)
    (hr : s.dawn.restart = none) (hh : s.dawn.holdoffEnd = none) (hs : s.dawn.slept = false) (ht : s.now < x + 768000000) :
    s.wake src = { s with
      free := s.free + 1
      dawn := { s.dawn with
        sourcesSeen := s.dawn.sourcesSeen ||| src.bit, slept := true, sleptTicks := dawnTicks (s.now - g)
        bootCause := BitVec.ofNat 8 (2 + 16 * src.code), restart := some (max (s.now + s.riseDelay.1) (x + 768000000)) } } := by
  rw [State.wake_decides hv hm (by simp [Dawn.asleep, hd]) hr hh,
    State.wakeCause_replayed hg hd, State.decideBoot_later _ (by simpa [hd] using ht)]
  simp [hg, hd, hs, State.riseDelay, State.draw]

end
end

section
variable {s : State}

/-- A match of the I2C address is a wake event of I2C. -/
theorem exec_i2cAddressMatch_of_wake {t : Nat} {u : State} (h : (s.advance t).wake .i2c = u) :
    exec (.i2cAddressMatch t) s = .next u :=
  congrArg Host.Outcome.next h

/-- WAKE_L low is a wake event of WAKE_L. -/
theorem exec_wakeLLow_of_wake {t : Nat} {u : State}
    (h : ({ s.advance t with pins := { s.pins with wakeLow := true } } : State).wake .wakeL = u) :
    exec (.wakeLLow t true) s = .next u :=
  congrArg Host.Outcome.next h

/-- The timer's event. -/
theorem exec_sleepTimerExpiry_asleep {g : Nat} (hm : s.dawn.wakeMask.getLsbD 1 = true) (hn : s.dawn.timerTicks ≠ 0)
    (ha : s.dawn.asleep = true) (hg : s.dawn.grantAt = some g) :
    exec .sleepTimerExpiry s = .next ((s.advance (g + dawnSpan s.dawn.timerTicks)).wake .timer) := by
  change execSleepTimerExpiry s = _
  have hm' : ¬ s.dawn.wakeMask &&& 2#3 = 0#3 := fun h =>
    Bool.false_ne_true (((WakeSource.timer.and_bit_eq_zero _).mp h).symm.trans hm)
  simp [execSleepTimerExpiry, hm', hn, ha, hg]

/-- The timer is not armed, or the device is not asleep. -/
theorem exec_sleepTimerExpiry_ignored (h : s.dawn.wakeMask.getLsbD 1 = false ∨ s.dawn.asleep = false) :
    exec .sleepTimerExpiry s = .next s := by
  change execSleepTimerExpiry s = _
  rcases h with hm | ha
  · have hm' : s.dawn.wakeMask &&& 2#3 = 0#3 := (WakeSource.timer.and_bit_eq_zero _).mpr hm
    simp [execSleepTimerExpiry, hm']
  · simp [execSleepTimerExpiry, ha]

/-- The matcher's event in SLEEP, with the minimum off-time over: a boot with cause WAKE from I2C. -/
theorem exec_i2cAddressMatch_boots {t : Nat} (hv : s.dawn.aon = true) (hm : s.dawn.wakeMask.getLsbD 0 = true)
    (hw : s.dawn.power = .sleep) (hd : s.dawn.dropAt = none) (hr : s.dawn.restart = none) (hh : s.dawn.holdoffEnd = none)
    (ht : s.dawn.pwrEnFell + 768000000 ≤ max s.now t) :
    ∃ u d, exec (.i2cAddressMatch t) s = .next u ∧ u.now = max s.now t ∧ 3840000 ≤ d ∧ d ≤ 19200000 ∧
      u.dawn.bootCause = 0x11#8 ∧ u.dawn.pwrEn = true ∧ u.dawn.pwrEnRose = u.now + d ∧ u.dawn.power = .boot ∧
      u.dawn.sourcesSeen = s.dawn.sourcesSeen ||| 1#3 := by
  have ha : s.dawn.asleep = true := by simp [Dawn.asleep, hw]
  have hnow := (State.wake_seen (s := s.advance t) (src := .i2c) hv hm ha hr hh).1
  obtain ⟨hcause, hen, hrose, hpower, hseen⟩ := State.wake_boots (s := s.advance t) (src := .i2c) hv hm hw hd hr hh ht
  obtain ⟨hlo, hhi⟩ := s.riseDelay_bounds
  exact ⟨_, s.riseDelay.1, exec_i2cAddressMatch_of_wake rfl, hnow, hlo, hhi, hcause, hen, by rw [hnow]; exact hrose,
    hpower, hseen⟩

/-- The matcher's event in the span of R480 is latched. -/
theorem exec_i2cAddressMatch_latches {t e : Nat} (hv : s.dawn.aon = true) (hm : s.dawn.wakeMask.getLsbD 0 = true)
    (hw : s.dawn.power = .sleep) (hr : s.dawn.restart = none) (hh : s.dawn.holdoffEnd = some e)
    (hl : s.dawn.latched = none) :
    ∃ u, exec (.i2cAddressMatch t) s = .next u ∧ u.dawn.latched = some .i2c ∧ u.dawn.power = .sleep ∧
      u.dawn.restart = none ∧ u.dawn.bootCause = s.dawn.bootCause := by
  obtain ⟨hlatched, hrest⟩ := State.wake_latches (s := s.advance t) (src := .i2c) hv hm hw hr hh
  exact ⟨_, exec_i2cAddressMatch_of_wake rfl, by simpa [hl] using hlatched, hrest⟩

/-- The timer's event in SLEEP: the source is seen, and with the minimum off-time over a boot has cause WAKE from the timer. -/
theorem exec_sleepTimerExpiry_boots {g : Nat} (hv : s.dawn.aon = true) (hm : s.dawn.wakeMask.getLsbD 1 = true)
    (hn : s.dawn.timerTicks ≠ 0) (hw : s.dawn.power = .sleep) (hd : s.dawn.dropAt = none) (hg : s.dawn.grantAt = some g)
    (hr : s.dawn.restart = none) (hh : s.dawn.holdoffEnd = none) :
    ∃ u, exec .sleepTimerExpiry s = .next u ∧ u.now = max s.now (g + dawnSpan s.dawn.timerTicks) ∧
      u.dawn.sourcesSeen = s.dawn.sourcesSeen ||| 2#3 ∧
      (s.dawn.pwrEnFell + 768000000 ≤ u.now → u.dawn.bootCause = 0x21#8 ∧ u.dawn.pwrEn = true ∧ u.dawn.power = .boot) := by
  have ha : s.dawn.asleep = true := by simp [Dawn.asleep, hw]
  obtain ⟨hnow, hseen⟩ :=
    State.wake_seen (s := s.advance (g + dawnSpan s.dawn.timerTicks)) (src := .timer) hv hm ha hr hh
  refine ⟨_, exec_sleepTimerExpiry_asleep hm hn ha hg, hnow, hseen, fun ht => ?_⟩
  obtain ⟨hcause, hen, -, hpower, -⟩ := State.wake_boots
    (s := s.advance (g + dawnSpan s.dawn.timerTicks)) (src := .timer) hv hm hw hd hr hh (hnow ▸ ht)
  exact ⟨hcause, hen, hpower⟩

/-! ### Shutdown (R480) -/

/-- The rails fall 10 us after the shutdown signal. -/
theorem exec_shutdownPowerOff_due {a : Nat} (h : s.dawn.shutdownAt = some a) :
    exec .shutdownPowerOff s = .next { (s.advance (a + 3840000)).powerDown false with
      dawn := { ((s.advance (a + 3840000)).powerDown false).dawn with
        prior := s.dawn.prior ||| 2#4, holdoffEnd := some (max s.now (a + 3840000) + dawnSpan 61440), restart := none } } := by
  change execShutdownPowerOff s = _
  simp [execShutdownPowerOff, h, Config.us]

/-- No shutdown signal has come. -/
theorem exec_shutdownPowerOff_none (h : s.dawn.shutdownAt = none) : exec .shutdownPowerOff s = .next s := by
  change execShutdownPowerOff s = _
  simp [execShutdownPowerOff, h]

/-- The span without wakes ends with a wake event latched in it, and the minimum off-time over: that event boots the device. -/
theorem exec_thermalHoldoffEnd_latched {e : Nat} {src : WakeSource} (h : s.dawn.holdoffEnd = some e)
    (hl : s.dawn.latched = some src) (hw : s.dawn.power = .sleep) (hd : s.dawn.dropAt = none)
    (ht : s.dawn.pwrEnFell + 768000000 ≤ max s.now e) :
    exec .thermalHoldoffEnd s = .next { s.advance e with
      free := s.free + 1
      dawn := { s.dawn with
        holdoffEnd := none, bootCause := BitVec.ofNat 8 (1 + 16 * src.code), pwrEn := true
        pwrEnRose := max s.now e + s.riseDelay.1, restart := none, power := .boot, latched := none, dropAt := none } } := by
  have hboot : exec .thermalHoldoffEnd s =
      .next (({ s.advance e with dawn := { s.dawn with holdoffEnd := none } } : State).decideBoot (1 + 16 * src.code)) := by
    change execThermalHoldoffEnd s = _
    simp [execThermalHoldoffEnd, h, hl, hw]
  rw [hboot, State.decideBoot_now _ (by simpa [hd] using ht)]
  rfl

/-- The span without wakes ends with none. -/
theorem exec_thermalHoldoffEnd_quiet {e : Nat} (h : s.dawn.holdoffEnd = some e) (hl : s.dawn.latched = none) :
    exec .thermalHoldoffEnd s = .next { s.advance e with dawn := { s.dawn with holdoffEnd := none } } := by
  change execThermalHoldoffEnd s = _
  simp [execThermalHoldoffEnd, h, hl]

/-- No span runs. -/
theorem exec_thermalHoldoffEnd_none (h : s.dawn.holdoffEnd = none) : exec .thermalHoldoffEnd s = .next s := by
  change execThermalHoldoffEnd s = _
  simp [execThermalHoldoffEnd, h]

end

/-! ### Dawn's oscillator (R465) -/

/-- Dawn's oscillator runs within 3 % of its nominal rate. -/
theorem dawnRate_bounds : 970000 ≤ dawnRate ∧ dawnRate ≤ 1030000 := by
  have h := Nat.mod_lt Config.dawnOffset (show 0 < 60001 by decide)
  simp only [dawnRate]
  omega

/-- The span of `n` ticks at the actual rate: long enough, and shorter by a unit it would not be. -/
theorem dawnSpan_bounds (n : Nat) :
    n * Config.sec * 1000000 ≤ 1024 * (dawnSpan n * dawnRate) ∧
    1024 * (dawnSpan n * dawnRate) < n * Config.sec * 1000000 + 1024 * dawnRate := by
  have hpos : 0 < 1024 * dawnRate := by have := dawnRate_bounds.1; omega
  have hdiv := Nat.div_add_mod (n * Config.sec * 1000000 + 1024 * dawnRate - 1) (1024 * dawnRate)
  have hmod := Nat.mod_lt (n * Config.sec * 1000000 + 1024 * dawnRate - 1) hpos
  rw [Nat.mul_assoc 1024, Nat.mul_comm dawnRate] at hdiv
  simp only [dawnSpan]
  omega

/-- The span of `n` ticks is within 3 % of the nominal one, to a unit of time. -/
theorem dawnSpan_tolerance (n : Nat) :
    n * 384000000000 * 100 ≤ dawnSpan n * 1024 * 103 ∧
    dawnSpan n * 1024 * 97 ≤ n * 384000000000 * 100 + 1024 * 97 := by
  obtain ⟨hlo, hhi⟩ := dawnRate_bounds
  constructor
  · have hge := (dawnSpan_bounds n).1
    have hmul := Nat.mul_le_mul_left (dawnSpan n) hhi
    simp only [Config.sec] at hge
    omega
  · have hlt := (dawnSpan_bounds n).2
    simp only [Config.sec] at hlt
    cases hspan : dawnSpan n with
    | zero => simp
    | succ d =>
      have hmul := Nat.mul_le_mul_left d hlo
      rw [hspan, Nat.succ_mul d] at hlt
      omega

/-- Settles O57: each clause is its row's rule above, and the wake rows go through the rules of `State.wake`. -/
theorem powerAndWake : Obligations.PowerAndWake := by
  unfold Obligations.PowerAndWake
  exact ⟨
    -- VDD_AON and PWR_GOOD
    fun s _ _ h =>
      ⟨_, s.riseDelay.1, exec_vddAonPowerOn_off h, s.riseDelay_bounds.1, s.riseDelay_bounds.2, by simp⟩,
    fun _ _ _ h => exec_vddAonPowerOn_on h,
    fun _ _ => ⟨_, rfl, by simp⟩,
    fun _ _ he hg ht => exec_pwrGoodRise_inTime he hg ht,
    fun s _ he hg ht => ⟨_, exec_pwrGoodRise_late he hg ht, s.goodTimeout_advance_now ht, by simp⟩,
    fun _ _ h => exec_pwrGoodRise_ignored h,
    fun _ he hg => ⟨_, exec_pwrGoodTimeout_missing he hg, by simp⟩,
    fun _ h => exec_pwrGoodTimeout_ignored h,
    fun _ _ hg he hl => ⟨_, exec_pwrGoodFall_restarts hg he (by simp [hl]), by simp⟩,
    fun _ _ _ hg he hl ht => ⟨_, exec_pwrGoodFall_held hg he hl ht, by simp⟩,
    fun _ _ hg => exec_pwrGoodFall_ignored hg,
    fun _ _ hr hd => ⟨_, exec_pwrEnRestart_due hr hd, by simp [State.assertPwrEn]⟩,
    fun _ hr => exec_pwrEnRestart_none hr,
    -- RESET_L
    fun _ _ hr hg => ⟨_, exec_resetLAssert_resets hr hg, by simp [State.domainReset]⟩,
    fun _ _ hr hg => exec_resetLAssert_noPower hr hg,
    fun _ _ hr => exec_resetLAssert_ignored hr,
    fun _ _ _ _ hr hg => ⟨_, exec_resetLRelease_starts hr hg, by simp [State.startRom]⟩,
    fun _ _ _ _ hr hg => exec_resetLRelease_noPower hr hg,
    -- wake events
    fun _ _ hv hm hw hd hr hh ht => exec_i2cAddressMatch_boots hv hm hw hd hr hh ht,
    fun s t _ _ hv hm hg hd hr hh hs ht =>
      ⟨_, _, exec_i2cAddressMatch_of_wake
          (State.wake_replayed (s := s.advance t) (src := .i2c) hv hm hg hd hr hh hs ht),
        rfl, rfl, Nat.le_max_right _ _, hd, rfl, rfl, rfl⟩,
    fun _ _ hm => exec_i2cAddressMatch_of_wake (State.wake_unarmed hm),
    fun _ _ hv hm hw hd ht ha hp hr =>
      exec_i2cAddressMatch_of_wake (State.wake_announces hv hm hw hd ht ha hp hr),
    fun _ _ hv hm hw hd ht ha hp => exec_i2cAddressMatch_of_wake (State.wake_pending hv hm hw hd ht ha hp),
    fun _ _ _ _ _ hv hm hw hd ht ha he hp =>
      exec_i2cAddressMatch_of_wake (State.wake_entry hv hm hw hd ht (by simp [ha]) he hp),
    fun _ _ hm => exec_wakeLLow_of_wake (State.wake_unarmed hm),
    fun _ _ hv hm hw hd ht ha hp hr => exec_wakeLLow_of_wake (State.wake_announces hv hm hw hd ht ha hp hr),
    fun _ _ => rfl,
    fun _ _ hv hm hn hw hd hg hr hh => exec_sleepTimerExpiry_boots hv hm hn hw hd hg hr hh,
    fun _ h => exec_sleepTimerExpiry_ignored h,
    dawnSpan_tolerance,
    -- shutdown
    fun _ _ h => ⟨_, exec_shutdownPowerOff_due h, by simp⟩,
    fun _ h => exec_shutdownPowerOff_none h,
    fun _ _ _ hv hm hw _ hr hh hl => exec_i2cAddressMatch_latches hv hm hw hr hh hl,
    fun _ _ h hl hw hd ht => ⟨_, exec_thermalHoldoffEnd_latched h hl hw hd ht, rfl, rfl, rfl, rfl, rfl⟩,
    fun _ _ h hl => exec_thermalHoldoffEnd_quiet h hl,
    fun _ h => exec_thermalHoldoffEnd_none h⟩

end Sys2Proof.Machine
end

section
/-!
PROOFS. Synthesis and radio states (family 04): what the shared operations of the radio leave unchanged, one rule per command and
row of the radio, then the statements.
-/

namespace Sys2Proof.Machine

open Sys2Proof

/-! ### Checks, commands and rounding -/

/-- No check left: none has failed. -/
@[simp] theorem firstFailure_nil : firstFailure [] = none := rfl

/-- A check that holds hands over to the next. -/
@[simp] theorem firstFailure_pass (st : Nat) (l : List (Bool × Nat)) : firstFailure ((true, st) :: l) = firstFailure l := rfl

/-- A check that fails gives its status. -/
@[simp] theorem firstFailure_fail (st : Nat) (l : List (Bool × Nat)) : firstFailure ((false, st) :: l) = some st := rfl

/-- A command whose body ends with a status other than OK: the status, and nothing else. -/
theorem runCommand_status {s : State} {r : Running} {sp : CmdSpec} {body : Running → State → CmdEffect} {st : Nat}
    (h : Runs s r sp) (hb : body r s = .status s st) (hst : st ≠ Status.ok) :
    runCommand sp body s = .next (s.respond r ⟨st, []⟩) := by
  rw [runCommand_runs body h, hb, close_failed hst rfl]
  rfl

/-- A command whose body has the effect `e`. -/
theorem runCommand_effect {s : State} {r : Running} {sp : CmdSpec} {body : Running → State → CmdEffect} {e : CmdEffect}
    (h : Runs s r sp) (hb : body r s = e) : runCommand sp body s = .next (s.close sp r e) := by
  rw [runCommand_runs body h, hb]

/-- Convergent rounding gives a nearest integer: it is off by half the divisor at most. -/
theorem roundDiv_nearest (a : Int) {b : Nat} (hb : 0 < b) :
    2 * (roundDiv a b * b) ≤ 2 * a + b ∧ 2 * a ≤ 2 * (roundDiv a b * b) + b := by
  have hdef : roundDiv a b = if 2 * (a % b) < b then a / b else if 2 * (a % b) > b then a / b + 1
      else if a / b % 2 = 0 then a / b else a / b + 1 := rfl
  have hlo : 0 ≤ a % (b : Int) := Int.emod_nonneg a (by omega)
  have hlt : a % (b : Int) < b := Int.emod_lt_of_pos a (by omega)
  have hdiv : a / (b : Int) * b + a % (b : Int) = a := Int.ediv_mul_add_emod a b
  have hup : (a / (b : Int) + 1) * b = a / (b : Int) * b + b := by rw [Int.add_mul, Int.one_mul]
  rw [hdef]
  split
  · omega
  · split
    · rw [hup]; omega
    · split
      · omega
      · rw [hup]; omega

/-- Rounding keeps the sign. -/
theorem roundDiv_nonneg {a : Int} (ha : 0 ≤ a) {b : Nat} (hb : 0 < b) : 0 ≤ roundDiv a b := by
  refine Int.not_lt.mp fun hneg => ?_
  have hn := (roundDiv_nearest a hb).2
  have hle : roundDiv a b * b ≤ -1 * b := Int.mul_le_mul_of_nonneg_right (by omega) (by omega)
  omega

/-! ### The LO plan (R97, R98) -/

/-- The rows of Table SYN-2. -/
theorem loDivider_eq (f : Nat) :
    loDivider f = (if 380000000 ≤ f ∧ f ≤ 700000000 then some 8 else if 750000000 ≤ f ∧ f ≤ 1400000000 then some 4
      else if 1500000000 ≤ f ∧ f ≤ 2700000000 then some 2 else none) := by
  simp [loDivider, inRange]

/-- In each row the oscillator runs from 3,000 to 5,600 MHz. -/
theorem loDivider_range {f d : Nat} (h : loDivider f = some d) : 3000000000 ≤ f * d ∧ f * d ≤ 5600000000 := by
  rw [loDivider_eq] at h
  split at h
  · cases h; omega
  · split at h
    · cases h; omega
    · split at h
      · cases h; omega
      · cases h

/-- The frequency control word is a nearest integer to f · D · 2^24 / 153.6 MHz. -/
theorem loFcw_nearest (f d : Nat) :
    2 * (loFcw f d * 153600000) ≤ 2 * (f * d * 2 ^ 24) + 153600000 ∧
    2 * (f * d * 2 ^ 24) ≤ 2 * (loFcw f d * 153600000) + 153600000 := by
  have hpos : 0 < 153600000 := by decide
  have hcast : (loFcw f d : Int) = roundDiv ((f * d * 2 ^ 24 : Nat) : Int) 153600000 :=
    Int.toNat_of_nonneg (roundDiv_nonneg (Int.natCast_nonneg _) hpos)
  have hn := roundDiv_nearest ((f * d * 2 ^ 24 : Nat) : Int) hpos
  rw [← hcast] at hn
  exact_mod_cast hn

/-- The frequency control word of an oscillator up to 5,600 MHz fits 32 bits. -/
theorem loFcw_fits {f d : Nat} (h : f * d ≤ 5600000000) : loFcw f d < 2 ^ 32 := by
  have hn := (loFcw_nearest f d).1
  omega

/-- A frequency outside Table SYN-2 gives no setting. -/
@[simp] theorem loSetting_none {f : Nat} (h : loDivider f = none) (e : Option Nat) (c : Bool) : loSetting f e c = none := by
  simp [loSetting, h]

/-- The setting for a frequency of Table SYN-2. -/
@[simp] theorem loSetting_some {f d : Nat} (h : loDivider f = some d) (e : Option Nat) (c : Bool) :
    loSetting f e c = some { freqHz := f, divider := d, fcw := loFcw f d, byEntry := e, forceCold := c } := by
  simp [loSetting, h]

/-! ### SYN_TUNE (R99 to R105) -/

section
variable {s : State} {r : Running}

/-- A tune by frequency asks for the setting of its frequency. -/
theorem tuneSetting_byFrequency {p : List Byte} (h : u8 p 1 % 2 = 0) :
    s.tuneSetting p = loSetting (u32 p 4) none (u8 p 1 / 2 % 2 == 1) := by
  simp [State.tuneSetting, h]

/-- A tune by frequency of a synthesiser in service that STANDBY does not hold back fails only where Table SYN-2 has no row. -/
theorem tuneCheck_byFrequency (hk : u8 r.cmd.payload 0 ≤ 2) (he : u8 r.cmd.payload 1 % 2 = 0)
    (hi : s.radio.inService (u8 r.cmd.payload 0) = true)
    (hb : u8 r.cmd.payload 0 = s.radio.active ∨ s.radio.base ≠ .standby) :
    tuneCheck r s = if (s.tuneSetting r.cmd.payload).isSome then none else some Status.loUnreachable := by
  have hs : (u8 r.cmd.payload 0 == s.radio.active || !s.inStandby) = true := by
    rcases hb with hb | hb <;> simp [State.inStandby, hb]
  cases hx : s.tuneSetting r.cmd.payload <;> simp [tuneCheck, firstFailure, hk, he, hi, hs, hx]

/-- A tune to a frequency outside every row ends LO_UNREACHABLE. -/
theorem tuneBody_unreachable (hk : u8 r.cmd.payload 0 ≤ 2) (he : u8 r.cmd.payload 1 % 2 = 0)
    (hi : s.radio.inService (u8 r.cmd.payload 0) = true)
    (hb : u8 r.cmd.payload 0 = s.radio.active ∨ s.radio.base ≠ .standby) (hd : loDivider (u32 r.cmd.payload 4) = none) :
    tuneBody r s = .status s Status.loUnreachable := by
  have hx : s.tuneSetting r.cmd.payload = none := by rw [tuneSetting_byFrequency he, loSetting_none hd]
  simp [tuneBody, tuneCheck_byFrequency hk he hi hb, hx]

/-- A tune of a synthesiser out of service ends SYN_NOT_IN_SERVICE. -/
theorem tuneBody_notInService (hk : u8 r.cmd.payload 0 ≤ 2) (he : u8 r.cmd.payload 1 % 2 = 0)
    (hi : s.radio.inService (u8 r.cmd.payload 0) = false) : tuneBody r s = .status s Status.synNotInService := by
  simp [tuneBody, tuneCheck, firstFailure, hk, he, hi]

/-- A tune to a frequency of Table SYN-2: its setting is staged in COMMIT mode, and else acquired or put off. -/
theorem tuneBody_reachable {d : Nat} (hk : u8 r.cmd.payload 0 ≤ 2) (he : u8 r.cmd.payload 1 % 2 = 0)
    (hi : s.radio.inService (u8 r.cmd.payload 0) = true)
    (hb : u8 r.cmd.payload 0 = s.radio.active ∨ s.radio.base ≠ .standby) (hd : loDivider (u32 r.cmd.payload 4) = some d)
    {x : LoSetting} (hx : x = { freqHz := u32 r.cmd.payload 4, divider := d, fcw := loFcw (u32 r.cmd.payload 4) d,
                                forceCold := u8 r.cmd.payload 1 / 2 % 2 == 1 }) :
    tuneBody r s = .ok
      (if (s.radio.synth (u8 r.cmd.payload 0)).commitMode then
        s.setSyn (u8 r.cmd.payload 0) (fun y => { y with staged := some x })
       else s.acquireOrWait (u8 r.cmd.payload 0) x r.reached)
      (le 8 (loMicroHz x.fcw x.divider) ++ le 4 x.fcw ++ le 1 x.divider ++ zeros 1 ++
        le 2 ((s.judgeEntry (u8 r.cmd.payload 0) x).2.1.getD 0xFFFF)) := by
  have ht : s.tuneSetting r.cmd.payload = some x := by rw [tuneSetting_byFrequency he, loSetting_some hd, hx]
  simp only [tuneBody, tuneCheck_byFrequency hk he hi hb, ht, Option.isSome_some, if_true]
  cases (s.judgeEntry (u8 r.cmd.payload 0) x).2.1 <;> rfl

end

/-- Settles O9: Table SYN-2 row by row, convergent rounding for the control word, and the one check of SYN_TUNE that fails. -/
theorem loFrequencyPlan : Obligations.LoFrequencyPlan := by
  unfold Obligations.LoFrequencyPlan
  refine ⟨loDivider_eq, ?_, ?_⟩
  · intro f d h
    obtain ⟨hlo, hhi⟩ := loDivider_range h
    exact ⟨hlo, hhi, loFcw_fits hhi, loFcw_nearest f d⟩
  · intro s r h hk he hi hb hd
    exact runCommand_status h (tuneBody_unreachable hk he hi hb hd) (by decide)

/-! ### What events and folds leave unchanged -/

/-- What a change of the event unit and the cascade's side alone leaves as it was. -/
theorem State.keeps_of_frame {s t : State} (h : { t with evq := s.evq, lcl := s.lcl } = s) :
    t.now = s.now ∧ t.pending = s.pending ∧ t.free = s.free ∧ t.mem = s.mem ∧ t.hostMem = s.hostMem ∧ t.host = s.host ∧
    t.cmd = s.cmd ∧ t.nv = s.nv ∧ t.pins = s.pins ∧ t.fuses = s.fuses ∧ t.boot = s.boot ∧ t.dawn = s.dawn ∧
    t.thermal = s.thermal ∧ t.tap = s.tap ∧ t.fh = s.fh ∧ t.time = s.time ∧ t.fab = s.fab ∧ t.dma = s.dma ∧
    t.path = s.path ∧ t.radio = s.radio ∧ t.filt = s.filt ∧ t.beam = s.beam ∧ t.hzn = s.hzn ∧ t.dmd = s.dmd ∧
    t.tx = s.tx ∧ t.dpd = s.dpd ∧ t.halo = s.halo ∧ t.cal = s.cal ∧ t.spare = s.spare := by
  rw [← h]
  repeat' apply And.intro
  all_goals rfl

section
variable (s : State)

/-- An event changes the event unit and, on a worker, the cascade's side alone. -/
@[simp] theorem State.raiseEvent_keeps (typ : Nat) (sev : Severity) (p : List Byte) :
    (s.raiseEvent typ sev p).now = s.now ∧ (s.raiseEvent typ sev p).pending = s.pending ∧
    (s.raiseEvent typ sev p).free = s.free ∧ (s.raiseEvent typ sev p).mem = s.mem ∧
    (s.raiseEvent typ sev p).hostMem = s.hostMem ∧ (s.raiseEvent typ sev p).host = s.host ∧
    (s.raiseEvent typ sev p).cmd = s.cmd ∧ (s.raiseEvent typ sev p).nv = s.nv ∧ (s.raiseEvent typ sev p).pins = s.pins ∧
    (s.raiseEvent typ sev p).fuses = s.fuses ∧ (s.raiseEvent typ sev p).boot = s.boot ∧
    (s.raiseEvent typ sev p).dawn = s.dawn ∧ (s.raiseEvent typ sev p).thermal = s.thermal ∧
    (s.raiseEvent typ sev p).tap = s.tap ∧ (s.raiseEvent typ sev p).fh = s.fh ∧ (s.raiseEvent typ sev p).time = s.time ∧
    (s.raiseEvent typ sev p).fab = s.fab ∧ (s.raiseEvent typ sev p).dma = s.dma ∧
    (s.raiseEvent typ sev p).path = s.path ∧ (s.raiseEvent typ sev p).radio = s.radio ∧
    (s.raiseEvent typ sev p).filt = s.filt ∧ (s.raiseEvent typ sev p).beam = s.beam ∧
    (s.raiseEvent typ sev p).hzn = s.hzn ∧ (s.raiseEvent typ sev p).dmd = s.dmd ∧ (s.raiseEvent typ sev p).tx = s.tx ∧
    (s.raiseEvent typ sev p).dpd = s.dpd ∧ (s.raiseEvent typ sev p).halo = s.halo ∧
    (s.raiseEvent typ sev p).cal = s.cal ∧ (s.raiseEvent typ sev p).spare = s.spare :=
  State.keeps_of_frame (s.raiseEvent_frame typ sev p)

/-- Folding operations that each leave `F` as it was leaves it as it was. -/
theorem foldl_keeps {α β γ : Type} (F : α → γ) (f : α → β → α) (h : ∀ a b, F (f a b) = F a) (l : List β) (a : α) :
    F (l.foldl f a) = F a := by
  induction l generalizing a with
  | nil => rfl
  | cons b l ih => rw [List.foldl_cons, ih, h]

/-- The roles of two states with the same straps. -/
theorem State.role_congr {s t : State} (h : t.boot = s.boot) : t.role = s.role := by
  simp only [State.role, h]

/-! ### READY on a device of a chain (R116, R489) -/

/-- What READY does to the chain's settings leaves the radio and the boot as they are. -/
@[simp] theorem State.bringUpChain_keeps : s.bringUpChain.radio = s.radio ∧ s.bringUpChain.boot = s.boot := by
  unfold State.bringUpChain
  split <;> exact ⟨rfl, rfl⟩

/-- Restoring the retirements leaves the radio and the boot as they are. -/
@[simp] theorem State.restoreRetired_keeps : s.restoreRetired.radio = s.radio ∧ s.restoreRetired.boot = s.boot := by
  unfold State.restoreRetired
  split <;> exact ⟨rfl, rfl⟩

/-- On a device of a chain, CLKOUT3 carries 122.88 MHz. -/
theorem State.chainClock_clkOut (h : s.role = .manager ∨ s.role = .worker) :
    s.chainClock.radio.clkOut = Tab.set s.radio.clkOut 3 { enable := true, divider := 5, delay := 0 } := by
  simp [State.chainClock, h]

/-- Starting the clocks leaves the radio as it is. -/
@[simp] theorem State.startClocks_radio : s.startClocks.radio = s.radio := rfl

/-- Restoring the duty history leaves the radio as it is. -/
@[simp] theorem State.restoreDuty_radio : s.restoreDuty.radio = s.radio := by
  unfold State.restoreDuty State.regFault
  cases s.storedRecord <;> simp [apply_ite State.radio]

/-- EV_SYS_READY leaves the radio and the boot as they are. -/
@[simp] theorem State.readyEvent_keeps : s.readyEvent.radio = s.radio ∧ s.readyEvent.boot = s.boot := by
  simp [State.readyEvent]

/-- The events after EV_SYS_READY leave the radio and the boot as they are. -/
@[simp] theorem State.afterReady_keeps : s.afterReady.radio = s.radio ∧ s.afterReady.boot = s.boot := by
  cases h : s.boot.bankFailed <;>
    simp [State.afterReady, h, State.wakeEvent, apply_ite State.radio, apply_ite State.boot]

/-- Reporting the regional record leaves the radio and the boot as they are. -/
@[simp] theorem State.reportRecord_keeps : s.reportRecord.radio = s.radio ∧ s.reportRecord.boot = s.boot := by
  unfold State.reportRecord
  split <;> simp

/-- Writing a record to the ring leaves the radio and the boot as they are. -/
@[simp] theorem State.writeRecord_keeps (r : EvRec) :
    (s.writeRecord r).radio = s.radio ∧ (s.writeRecord r).boot = s.boot := by
  unfold State.writeRecord State.writeProducer State.ringNotify
  dsimp only
  split
  · simp
  · split <;> simp

/-- Taking an event from the store leaves the radio and the boot as they are. -/
@[simp] theorem State.ringTake_keeps (r : EvRec) : (s.ringTake r).radio = s.radio ∧ (s.ringTake r).boot = s.boot := by
  unfold State.ringTake
  split <;> split <;> simp

/-- A turn of the ring leaves the radio and the boot as they are. -/
@[simp] theorem State.ringTurn_keeps : s.ringTurn.radio = s.radio ∧ s.ringTurn.boot = s.boot := by
  unfold State.ringTurn
  split
  · simp
  · split
    · simp
    · dsimp only
      split <;> simp [State.takeOverflow]

/-- Turns of the ring leave the radio and the boot as they are. -/
theorem State.ringTurns_keeps (n : Nat) :
    (State.ringTurns n s).radio = s.radio ∧ (State.ringTurns n s).boot = s.boot := by
  induction n generalizing s with
  | zero => exact ⟨rfl, rfl⟩
  | succ n ih => simpa [State.ringTurns] using ih s.ringTurn

/-- The start of the ring leaves the radio and the boot as they are. -/
@[simp] theorem State.ringStart_keeps : s.ringStart.radio = s.radio ∧ s.ringStart.boot = s.boot := by
  unfold State.ringStart State.flushEvents
  exact State.ringTurns_keeps _ _

/-- FIRMWARE_READY at its stage on a device of a chain. -/
theorem exec_firmwareReady_chain {t : Nat} (hs : s.boot.stage = 9) (hr : s.role = .manager ∨ s.role = .worker) :
    ∃ u, exec (.firmwareReady t) s = .next u ∧
      u.radio.clkOut = Tab.set s.radio.clkOut 3 { enable := true, divider := 5, delay := 0 } ∧ u.boot.ready = true := by
  change ∃ u, execFirmwareReady t s = .next u ∧ _
  have hrole : (s.advance t).bringUpChain.restoreRetired.role = s.role := State.role_congr (by simp)
  have hclk := State.chainClock_clkOut _ (hrole.symm ▸ hr)
  refine ⟨_, by simp only [execFirmwareReady, State.advance_frame, hs]; rfl, ?_⟩
  split <;> simp [hclk]

end

/-! ### Clock outputs (R115, R116) -/

section
variable {s : State} {r : Running}

/-- CLKOUT3 of a device of a chain is not the host's to set. -/
theorem setClkoutBody_chain (hi : u8 r.cmd.payload 0 = 3) (hr : s.role = .manager ∨ s.role = .worker) :
    setClkoutBody r s = .status s Status.notPermitted := by
  rcases hr with hr | hr <;> simp [setClkoutBody, hi, hr]

end

/-- Settles O10: READY's clock output and the command's first check, each by its rule above. -/
theorem clockOutputOfTheChain : Obligations.ClockOutputOfTheChain := by
  unfold Obligations.ClockOutputOfTheChain
  refine ⟨?_, ?_⟩
  · intro s t hs hr
    obtain ⟨u, hu, hclk, hready⟩ := exec_firmwareReady_chain s hs hr
    exact ⟨u, hu, by simp [hclk], by simp [hclk], hready⟩
  · intro s r h hi hr
    exact runCommand_status h (setClkoutBody_chain hi hr) (by decide)

/-! ### Synthesiser commands (R96 to R105, R110, R122) -/

section
variable (s : State)

/-- Radios with the same table of synthesisers have the same synthesisers. -/
theorem Radio.synth_congr {q r : Radio} (h : q.syn = r.syn) (k : Nat) : q.synth k = r.synth k := by
  simp only [Radio.synth, h]

/-- Changing a synthesiser changes it alone. -/
@[simp] theorem State.setSyn_synth (k j : Nat) (f : Synth → Synth) :
    (s.setSyn k f).radio.synth j = if j = k then f (s.radio.synth k) else s.radio.synth j := by
  simp [State.setSyn, Radio.synth]

/-- Changing a synthesiser leaves the rest of the radio as it is. -/
@[simp] theorem State.setSyn_radio (k : Nat) (f : Synth → Synth) :
    (s.setSyn k f).radio.state = s.radio.state ∧ (s.setSyn k f).radio.moving = s.radio.moving ∧
    (s.setSyn k f).radio.base = s.radio.base ∧ (s.setSyn k f).radio.wantTx = s.radio.wantTx ∧
    (s.setSyn k f).radio.linger = s.radio.linger ∧ (s.setSyn k f).radio.lingerFrom = s.radio.lingerFrom ∧
    (s.setSyn k f).radio.pending = s.radio.pending ∧ (s.setSyn k f).radio.active = s.radio.active ∧
    (s.setSyn k f).radio.second = s.radio.second ∧ (s.setSyn k f).radio.commit = s.radio.commit ∧
    (s.setSyn k f).radio.switch = s.radio.switch ∧ (s.setSyn k f).radio.relock = s.radio.relock ∧
    (s.setSyn k f).radio.acqCount = s.radio.acqCount ∧ (s.setSyn k f).radio.gapSince = s.radio.gapSince ∧
    (s.setSyn k f).radio.readySince = s.radio.readySince ∧ (s.setSyn k f).radio.blanked = s.radio.blanked ∧
    (s.setSyn k f).radio.clock = s.radio.clock ∧ (s.setSyn k f).radio.refSource = s.radio.refSource ∧
    (s.setSyn k f).radio.clkOut = s.radio.clkOut := by
  repeat' apply And.intro
  all_goals rfl

/-- An acquisition forced cold uses no entry. -/
theorem State.judgeEntry_cold {k : Nat} {x : LoSetting} (h : x.forceCold = true) :
    s.judgeEntry k x = (1, none, none) := by
  simp [State.judgeEntry, h]

variable {s}

/-- A cold acquisition of a synthesiser that is not the active one touches that synthesiser alone. -/
theorem State.acquire_cold_other {k : Nat} {x : LoSetting} (hk : k ≠ s.radio.active) (hc : x.forceCold = true) (b : Bool) :
    s.acquire k x b = s.setSyn k (fun y => { y with
      loop := .acquiring, setting := some x, waiting := none, entryUsed := none, kind := if b then 3 else 1,
      acqStart := s.now }) := by
  simp [State.acquire, s.judgeEntry_cold hc, hk]

/-- Out of STANDBY an acquisition of a synthesiser that is not the active one starts at once. -/
theorem State.acquireOrWait_other {k since : Nat} {x : LoSetting} (hk : k ≠ s.radio.active) (hb : s.radio.base ≠ .standby) :
    s.acquireOrWait k x since = s.acquire k x false := by
  simp [State.acquireOrWait, hb, hk]

end

section
variable {s : State} {r : Running}

/-- SYN_SET_MODE of a synthesiser that no commit or acquisition holds: the mode and the window, RESTART dropping what is staged. -/
theorem setModeBody_idle (hk : u8 r.cmd.payload 0 ≤ 2) (hm : u8 r.cmd.payload 1 ≤ 1) (hlo : 5 ≤ u8 r.cmd.payload 2)
    (hhi : u8 r.cmd.payload 2 ≤ 60) (hi : s.radio.inService (u8 r.cmd.payload 0) = true) (hc : s.radio.commit = none)
    (hw : (s.radio.synth (u8 r.cmd.payload 0)).waiting = none)
    (hl : (s.radio.synth (u8 r.cmd.payload 0)).loop = .locked ∨ (s.radio.synth (u8 r.cmd.payload 0)).loop = .off) :
    setModeBody r s = .ok (s.setSyn (u8 r.cmd.payload 0) (fun y => { y with
      commitMode := u8 r.cmd.payload 1 == 1, tempWindow := u8 r.cmd.payload 2
      staged := if u8 r.cmd.payload 1 = 1 then y.staged else none })) [] := by
  have hcheck : setModeCheck r s = none := by
    rcases hl with hl | hl <;> simp [setModeCheck, inRange, hk, hm, hlo, hhi, hi, hc, hw, hl] <;> rfl
  simp [setModeBody, hcheck]

/-- SYN_SET_MODE while a commit of the synthesiser is pending ends BUSY. -/
theorem setModeBody_commitPending {c : Commit} {x : LoSetting} (hk : u8 r.cmd.payload 0 ≤ 2) (hm : u8 r.cmd.payload 1 ≤ 1)
    (hlo : 5 ≤ u8 r.cmd.payload 2) (hhi : u8 r.cmd.payload 2 ≤ 60)
    (hi : s.radio.inService (u8 r.cmd.payload 0) = true) (hc : s.radio.commit = some c)
    (hx : Tab.find? c.settings (u8 r.cmd.payload 0) = some x) : setModeBody r s = .status s Status.busy := by
  simp [setModeBody, setModeCheck, inRange, hk, hm, hlo, hhi, hi, hc, hx]

/-- The mask of one synthesiser. -/
theorem synMask_one (k : Fin 3) : synMask (2 ^ k.val) = [k.val] := by
  revert k
  decide

/-- A timed command passes its check of time when it is immediate or time is usable. -/
theorem immediate_or_timeUsable {n : Nat} (h : n % 2 = 1 ∨ s.time.state ≠ .invalid) :
    (n % 2 == 1 || s.timeUsable) = true := by
  rcases h with h | h <;> simp [State.timeUsable, h]

/-- A timed command that is not immediate is scheduled. -/
theorem not_immediate (n : Nat) : (!(n % 2 == 1)) = (n % 2 == 0) := by
  rcases Nat.mod_two_eq_zero_or_one n with h | h <;> rw [h] <;> rfl

/-- SYN_COMMIT of one synthesiser takes what is staged there into the pending commit. -/
theorem commitBody_one {k : Fin 3} {x : LoSetting} (hm : u8 r.cmd.payload 0 = 2 ^ k.val)
    (ht : u8 r.cmd.payload 1 % 2 = 1 ∨ s.time.state ≠ .invalid) (hi : s.radio.inService k.val = true)
    (hc : (s.radio.synth k.val).commitMode = true) (hx : (s.radio.synth k.val).staged = some x)
    (hb : s.radio.base ≠ .standby ∨ k.val = s.radio.active) :
    commitBody r s = .ok { s with radio := { s.radio with
        commit := some { settings := [(k.val, x)]
                         due := s.dueInstant r (u8 r.cmd.payload 1 % 2 == 1) (s.instantOf r.cmd.payload 8) lead100 Config.outSample
                         since := r.reached
                         scheduled := u8 r.cmd.payload 1 % 2 == 0 } } }
      (bytesAt r.cmd.payload 0 8 ++ s.ts64Bytes
        (s.dueInstant r (u8 r.cmd.payload 1 % 2 == 1) (s.instantOf r.cmd.payload 8) lead100 Config.outSample)) := by
  have hmask : ∀ j : Fin 3, inRange 1 (2 ^ j.val) 7 = true := by decide
  have hs : (!s.inStandby || k.val == s.radio.active) = true := by
    rcases hb with hb | hb <;> simp [State.inStandby, hb]
  have hcheck : commitCheck r s = none := by
    simp [commitCheck, hm, synMask_one, hmask, immediate_or_timeUsable ht, hi, hc, hx, hs]
  simp [commitBody, hcheck, hm, synMask_one, hx, not_immediate]

/-- The pending switch that a SYN_SWITCH asks for (R110): it may apply from its instant on, for 1 ms. -/
def State.requestedSwitch (s : State) (r : Running) : Switch :=
  let imm := u8 r.cmd.payload 1 % 2 == 1
  let due := s.dueInstant r imm (s.instantOf r.cmd.payload 8) lead100 Config.outSample
  let inst := if imm || s.tooSoon r (s.instantOf r.cmd.payload 8) lead100 then due
    else s.time.localOf (s.instantOf r.cmd.payload 8)
  { target := u8 r.cmd.payload 0, instant := inst, due := due, deadline := inst + Config.ms, since := r.reached
    scheduled := !imm }

/-- SYN_SWITCH to the second synthesiser becomes the pending switch; calibration of a synthesiser yields. -/
theorem switchBody_idle (hk : u8 r.cmd.payload 0 ≤ 2) (ht : u8 r.cmd.payload 1 % 2 = 1 ∨ s.time.state ≠ .invalid)
    (ha : u8 r.cmd.payload 0 ≠ s.radio.active) (h2 : s.radio.second = some (u8 r.cmd.payload 0)) (hw : s.radio.switch = none) :
    switchBody r s = .ok
      { s.setKind 6 (fun c => { c with stopAt := s.now }) with
        radio := { s.radio with switch := some (s.requestedSwitch r) } }
      (bytesAt r.cmd.payload 0 8 ++ s.ts64Bytes (s.requestedSwitch r).due) := by
  have hcheck : switchCheck r s = none := by
    simp [switchCheck, Radio.inService, hk, immediate_or_timeUsable ht, bne_iff_ne.mpr ha, h2, hw]
  simp only [switchBody, hcheck]
  rfl

/-- SYN_SWITCH while a switch is pending ends BUSY. -/
theorem switchBody_pending {w : Switch} (hk : u8 r.cmd.payload 0 ≤ 2) (ht : u8 r.cmd.payload 1 % 2 = 1)
    (ha : u8 r.cmd.payload 0 ≠ s.radio.active) (h2 : s.radio.second = some (u8 r.cmd.payload 0))
    (hw : s.radio.switch = some w) : switchBody r s = .status s Status.busy := by
  have hcheck : switchCheck r s = some Status.busy := by
    simp [switchCheck, Radio.inService, hk, ht, bne_iff_ne.mpr ha, h2, hw]
  simp only [switchBody, hcheck]

/-- SYN_STORE_ENTRY with OP 0 of a locked synthesiser queues the write of its entry. -/
theorem storeEntryBody_store (hk : u8 r.cmd.payload 0 ≤ 2) (ho : u8 r.cmd.payload 1 = 0) (hn : u16 r.cmd.payload 2 ≤ 255)
    (hi : s.radio.inService (u8 r.cmd.payload 0) = true) (hl : (s.radio.synth (u8 r.cmd.payload 0)).loop = .locked)
    (hlo : 0 ≤ s.thermal.tj) (hhi : s.thermal.tj ≤ 10000) :
    storeEntryBody r s = .later (s.nvEnqueue
      { record := .channelEntry (u8 r.cmd.payload 0) (u16 r.cmd.payload 2)
        data := s.entryToStore (u8 r.cmd.payload 0)
        owner := some r.order }) [] := by
  simp [storeEntryBody, State.nvTempOk, inRangeZ, hk, ho, hn, hi, hl, hlo, hhi]

/-- SYN_READ_ENTRY of a synthesiser in service answers the stored bytes. -/
theorem readEntryBody_inService (hk : u8 r.cmd.payload 0 ≤ 2) (hn : u16 r.cmd.payload 2 ≤ 255)
    (hi : s.radio.inService (u8 r.cmd.payload 0) = true) :
    readEntryBody r s = .ok s (s.entryBytes (u8 r.cmd.payload 0) (u16 r.cmd.payload 2)) := by
  simp [readEntryBody, hi, Nat.not_lt.mpr hk, Nat.not_lt.mpr hn]

end

/-- Settles O11: each clause is the rule of its command's body above. -/
theorem synthesiserCommands : Obligations.SynthesiserCommands := by
  unfold Obligations.SynthesiserCommands
  refine ⟨?_, ?_, ?_, ?_, ?_, ?_, ?_, ?_, ?_, ?_, ?_⟩
  · intro s r h hk hm hlo hhi hi hc hw hl
    exact runCommand_effect h (setModeBody_idle hk hm hlo hhi hi hc hw hl)
  · intro s r c x h hk hm hlo hhi hi hc hx
    exact runCommand_status h (setModeBody_commitPending hk hm hlo hhi hi hc hx) (by decide)
  · intro s r d h hk h0 hi hb hd hm
    have hbody := tuneBody_reachable hk (by omega) hi (.inr hb) hd rfl
    simp only [hm, if_true, h0] at hbody
    exact runCommand_effect h hbody
  · intro s r d h hk h2 hs ha hb hd hm
    have hi : s.radio.inService (u8 r.cmd.payload 0) = true := by simp [Radio.inService, hs]
    have hbody := tuneBody_reachable hk (by omega) hi (.inr hb) hd rfl
    rw [hm, State.acquireOrWait_other (Ne.symm ha) hb, State.acquire_cold_other (Ne.symm ha) (by simp [h2]),
      State.judgeEntry_cold _ (by simp [h2])] at hbody
    simp only [h2] at hbody
    exact runCommand_effect h hbody
  · intro s r h hk he hi
    exact runCommand_status h (tuneBody_notInService hk he hi) (by decide)
  · intro s r k x h hm ht hi hc hx hb
    exact runCommand_effect h (commitBody_one hm ht hi hc hx hb)
  · intro s r h hk ht ha h2 hw
    refine ⟨_, runCommand_effect h (switchBody_idle hk ht ha h2 hw), ?_, ?_⟩
    · simp only [Option.map_some, State.requestedSwitch, Nat.add_sub_cancel_left]
      rfl
    · rw [← hw]
      rfl
  · intro s r w h hk ht ha h2 hw
    exact runCommand_status h (switchBody_pending hk ht ha h2 hw) (by decide)
  · intro s r h hk ho hn hi hl hlo hhi
    exact runCommand_effect h (storeEntryBody_store hk ho hn hi hl hlo hhi)
  · intro s r h hk hn hi
    exact runCommand_effect h (readEntryBody_inService hk hn hi)
  · intro s r h
    exact runCommand_effect h rfl

/-! ### Transitions of the radio (R92 to R95, R108, R211) -/

section
variable (s : State)

/-- Aborting receptions changes the demodulators, the events and the cascade's messages alone. -/
theorem State.abortContexts_frame (sel : Nat → Bool) (cause engine : Nat) :
    { s.abortContexts sel cause engine with dmd := s.dmd, evq := s.evq, lcl := s.lcl } = s := by
  unfold State.abortContexts
  dsimp only
  split
  · rfl
  · have hcount := foldl_keeps (fun t : State => { t with dmd := s.dmd, evq := s.evq, lcl := s.lcl })
      (fun t (p : Nat × Context) => t.dmdCount p.2.profileIx (fun c => { c with aborted := wrapAdd 32 c.aborted 1 }))
      (fun _ _ => rfl)
    exact (congrArg (fun t : State => { t with dmd := s.dmd, evq := s.evq, lcl := s.lcl })
      (State.raiseEvent_frame _ _ _ _)).trans (hcount _ _)

/-- Aborting receptions leaves these as they are. -/
@[simp] theorem State.abortReceptions_keeps (cause : Nat) :
    (s.abortReceptions cause).now = s.now ∧ (s.abortReceptions cause).time = s.time ∧
    (s.abortReceptions cause).path = s.path ∧ (s.abortReceptions cause).tx = s.tx ∧
    (s.abortReceptions cause).pins = s.pins ∧ (s.abortReceptions cause).hzn = s.hzn ∧
    (s.abortReceptions cause).boot = s.boot ∧ (s.abortReceptions cause).cal = s.cal ∧
    (s.abortReceptions cause).spare = s.spare ∧ (s.abortReceptions cause).beam = s.beam ∧
    (s.abortReceptions cause).nv = s.nv ∧ (s.abortReceptions cause).radio = s.radio := by
  have h := s.abortContexts_frame (fun _ => true) cause 0xFF
  change { s.abortReceptions cause with dmd := s.dmd, evq := s.evq, lcl := s.lcl } = s at h
  generalize s.abortReceptions cause = t at h
  rw [← h]
  repeat' apply And.intro
  all_goals rfl

/-- Beginning a transition changes of the radio the transition in progress alone, and leaves these units as they are. -/
@[simp] theorem State.pursue_keeps :
    s.pursue.now = s.now ∧ s.pursue.time = s.time ∧ s.pursue.tx = s.tx ∧ s.pursue.pins = s.pins ∧ s.pursue.hzn = s.hzn ∧
    s.pursue.boot = s.boot ∧ s.pursue.cal = s.cal ∧ s.pursue.spare = s.spare ∧ s.pursue.beam = s.beam ∧
    s.pursue.radio.state = s.radio.state ∧ s.pursue.radio.base = s.radio.base ∧ s.pursue.radio.wantTx = s.radio.wantTx ∧
    s.pursue.radio.linger = s.radio.linger ∧ s.pursue.radio.lingerFrom = s.radio.lingerFrom ∧
    s.pursue.radio.pending = s.radio.pending ∧ s.pursue.radio.active = s.radio.active ∧
    s.pursue.radio.second = s.radio.second ∧ s.pursue.radio.syn = s.radio.syn ∧ s.pursue.radio.commit = s.radio.commit ∧
    s.pursue.radio.switch = s.radio.switch ∧ s.pursue.radio.relock = s.radio.relock ∧
    s.pursue.radio.acqCount = s.radio.acqCount ∧ s.pursue.radio.gapSince = s.radio.gapSince ∧
    s.pursue.radio.readySince = s.radio.readySince ∧ s.pursue.radio.blanked = s.radio.blanked ∧
    s.pursue.radio.clock = s.radio.clock ∧ s.pursue.radio.refSource = s.radio.refSource ∧
    s.pursue.radio.failover = s.radio.failover ∧ s.pursue.radio.crystalValid = s.radio.crystalValid ∧
    s.pursue.radio.refInValid = s.radio.refInValid ∧ s.pursue.radio.freewheelAt = s.radio.freewheelAt := by
  unfold State.pursue
  dsimp only
  split
  · simp
  · split
    · simp
    · split <;> split <;> simp

/-- A synthesiser is as it was when a transition begins. -/
@[simp] theorem State.pursue_synth (k : Nat) : s.pursue.radio.synth k = s.radio.synth k := by
  simp [Radio.synth]

variable {s}

/-- At its goal the device stays where it is. -/
theorem State.pursue_atGoal (hg : s.radio.state = s.radioGoal) : s.pursue = s := by
  simp [State.pursue, hg]

/-- Away from its goal, with no transition in progress, the device makes for the next state on the way. -/
theorem State.pursue_moving (hm : s.radio.moving = none) (hg : s.radio.state ≠ s.radioGoal) :
    s.pursue.radio.moving = some (nextHop s.radio.state s.radioGoal) := by
  simp only [State.pursue, hm, hg, Option.isSome_none, Bool.false_eq_true, if_false]
  split <;> split <;> simp

/-- A change of the base state to LO_READY or RX, out of STANDBY. -/
theorem State.baseTakesEffect_awake {c : BaseChange} (hb : c.base ≠ .standby) (hs : s.radio.state ≠ .standby) :
    s.baseTakesEffect c =
      ({ s with radio := { s.radio with base := c.base, linger := c.linger, pending := none } } : State).pursue := by
  unfold State.baseTakesEffect
  dsimp only
  split
  · contradiction
  · simp [hs]

/-- A change of the base state to LO_READY of a device in RX: it takes effect, and the device makes for LO_READY. -/
theorem State.baseTakesEffect_loReady {c : BaseChange} (hb : c.base = .loReady) (hs : s.radio.state = .rx)
    (hm : s.radio.moving = none) (hw : s.radio.wantTx = false) :
    (s.baseTakesEffect c).radio.base = .loReady ∧ (s.baseTakesEffect c).radio.linger = c.linger ∧
    (s.baseTakesEffect c).radio.pending = none ∧ (s.baseTakesEffect c).radio.state = .rx ∧
    (s.baseTakesEffect c).radio.moving = some .loReady := by
  have hgoal : ({ s with radio := { s.radio with base := c.base, linger := c.linger, pending := none } } : State).radioGoal =
      .loReady := by
    simp [State.radioGoal, hb, hw]
  rw [State.baseTakesEffect_awake (by simp [hb]) (by simp [hs])]
  refine ⟨by simp [hb], by simp, by simp, by simp [hs], ?_⟩
  rw [State.pursue_moving (by exact hm) (by rw [hgoal]; simp [hs]), hgoal]
  simp [hs, nextHop]

/-- A pending base-state change reaches its instant with nothing to wait for (R95). -/
theorem exec_baseStateChange_due {c : BaseChange} {d : Nat} (hp : s.radio.pending = some c) (hd : c.due = .instant d)
    (hw : s.radio.wantTx = false) (hl : (s.radio.synth s.radio.active).loop = .locked) (hf : s.spare.synFailed = []) :
    exec .baseStateChange s = .next ((s.advance d).baseTakesEffect c) := by
  change execBaseStateChange s = _
  simp [execBaseStateChange, State.inTxForBurst, hp, hd, hw, hl, hf]

/-- Entering RX from LO_READY: receive time counts from now, and detection is suspended (R182). -/
theorem State.arrive_rx_fromLoReady (h : s.radio.state = .loReady) :
    s.arrive .rx = { s with
      radio := { s.radio with state := .rx, moving := none }
      path := { s.path with rxSince := some s.now }
      hzn := { s.hzn with suspended := some 64, suspendSum := [] } } := by
  simp [State.arrive, State.suspendDetection, h]

/-- The end of a transition out of a state other than STANDBY. -/
theorem exec_radioTransitionDone_arrives {t : Nat} {x : RadioState} (hm : s.radio.moving = some x)
    (hs : s.radio.state ≠ .standby) : exec (.radioTransitionDone t) s = .next ((s.advance t).arrive x).pursue := by
  change execRadioTransitionDone t s = _
  simp [execRadioTransitionDone, hm, hs]

/-- A put-off acquisition of a synthesiser that is not the active one starts at its instant (R101). -/
theorem exec_synAcquisitionStart_other {k : Fin 3} {x : LoSetting} {t : Nat}
    (hw : (s.radio.synth k.val).waiting = some (x, some t)) (hk : k.val ≠ s.radio.active) (hb : s.radio.base ≠ .standby) :
    exec (.synAcquisitionStart k) s = .next ((s.advance t).acquire k.val x false) := by
  change execSynAcquisitionStart k s = _
  have hnow : s.advance (Nat.max s.now t) = s.advance t := by
    rw [State.advance, State.advance]
    exact congrArg (fun n => { s with now := n }) (Nat.max_eq_right (Nat.le_max_left _ _))
  simp [execSynAcquisitionStart, State.inStandby, hw, hk, hb, hnow]

/-- The commit of one synthesiser starts its acquisition, or puts it off. -/
theorem exec_synCommitInstant_one {k d since : Nat} {x : LoSetting} {sch : Bool}
    (hc : s.radio.commit = some ⟨[(k, x)], d, since, sch⟩) :
    exec .synCommitInstant s =
      .next (({ s.advance d with radio := { s.radio with commit := none } } : State).acquireOrWait k x since) := by
  change execSynCommitInstant s = _
  simp [execSynCommitInstant, hc]

/-! ### Lock, unlock and switches (R106 to R111) -/

/-- Starting runs changes calibration alone. -/
theorem State.startRuns_frame (s : State) (cause : Nat) (kinds : List Nat) (m : Mask64) (a : Bool) (c : Cal) :
    { s.startRuns cause kinds m a with cal := c } = { s with cal := c } := by
  refine foldl_keeps (fun t : State => { t with cal := c }) _ (fun t k => ?_) kinds s
  split <;> rfl

/-- Starting runs leaves the radio as it is. -/
@[simp] theorem State.startRuns_radio (s : State) (cause : Nat) (kinds : List Nat) (m : Mask64) (a : Bool) :
    (s.startRuns cause kinds m a).radio = s.radio := by
  have h := congrArg State.radio (s.startRuns_frame cause kinds m a s.cal)
  exact h

/-- Entering own-only leaves the radio as it is. -/
@[simp] theorem State.enterOwnOnly_radio (s : State) : s.enterOwnOnly.radio = s.radio := by
  unfold State.enterOwnOnly
  split
  · rfl
  · simp [State.freeNoiseScale, apply_ite State.radio]

/-- A count of ACQ_COUNT changes of the radio that count alone, wrapping at 16 bits. -/
@[simp] theorem State.countAcquisition_radio (s : State) :
    s.countAcquisition.radio = { s.radio with acqCount := wrapAdd 16 s.radio.acqCount 1 } := by
  simp [State.countAcquisition]

/-- What follows a cold acquisition changes calibration alone. -/
theorem State.coldAcquired_frame (s : State) (c : Cal) : { s.coldAcquired with cal := c } = { s with cal := c } := by
  have hkinds := foldl_keeps (fun t : State => { t with cal := c }) (fun t k => t.setKind k (fun x => { x with converged := false }))
    (fun _ _ => rfl) [0, 1, 2, 3, 4, 5, 7, 8] s
  unfold State.coldAcquired
  exact (State.startRuns_frame _ _ _ _ _ _).trans hkinds

/-- What follows an acquisition changes calibration alone. -/
theorem State.afterAcquisition_frame (s : State) (k : Nat) : { s.afterAcquisition k with cal := s.cal } = s := by
  unfold State.afterAcquisition
  split
  · exact s.coldAcquired_frame s.cal
  · rfl

/-- What follows an acquisition leaves these as they are. -/
@[simp] theorem State.afterAcquisition_keeps (s : State) (k : Nat) :
    (s.afterAcquisition k).now = s.now ∧ (s.afterAcquisition k).radio = s.radio ∧ (s.afterAcquisition k).time = s.time ∧
    (s.afterAcquisition k).tx = s.tx ∧ (s.afterAcquisition k).pins = s.pins ∧ (s.afterAcquisition k).hzn = s.hzn ∧
    (s.afterAcquisition k).boot = s.boot ∧ (s.afterAcquisition k).spare = s.spare ∧ (s.afterAcquisition k).beam = s.beam := by
  have h := s.afterAcquisition_frame k
  generalize s.afterAcquisition k = t at h
  rw [← h]
  repeat' apply And.intro
  all_goals rfl

/-- A cold acquisition leaves the radio as it is. -/
@[simp] theorem State.coldAcquired_radio (s : State) : s.coldAcquired.radio = s.radio := by
  have h := congrArg State.radio (s.coldAcquired_frame s.cal)
  exact h

/-- Recomputing the GRID weights leaves the radio as it is. -/
@[simp] theorem State.recomputeGrid_radio (s : State) : s.recomputeGrid.radio = s.radio := rfl

/-- Suspending detection leaves the radio as it is. -/
@[simp] theorem State.suspendDetection_radio (s : State) : s.suspendDetection.radio = s.radio := rfl

/-- Discarding the steps of calibration leaves the radio as it is. -/
@[simp] theorem State.discardSteps_radio (s : State) : s.discardSteps.radio = s.radio := rfl

/-- Lock of the active synthesiser counts ACQ_COUNT and ends the LO gap, and leaves the synthesisers as they are. -/
theorem State.activeLock_radio (k : Nat) (hp : s.radio.pending = none) :
    (s.activeLock k).radio.syn = s.radio.syn ∧ (s.activeLock k).radio.acqCount = wrapAdd 16 s.radio.acqCount 1 ∧
    (s.activeLock k).radio.gapSince = none := by
  simp [State.activeLock, hp, apply_ite State.radio]

/-- EV_SYN_LOCK leaves the radio as it is. -/
@[simp] theorem State.lockEvent_radio (s : State) (k : Nat) : (s.lockEvent k).radio = s.radio := by
  simp [State.lockEvent]

/-- Lock of the active synthesiser (R106 to R108). -/
theorem exec_synLock_active {t band gain tdc kp ki : Nat} {k : Fin 3} (hl : (s.radio.synth k.val).loop = .acquiring)
    (hk : k.val = s.radio.active) :
    exec (.synLock t k band gain tdc kp ki) s = .next ((((s.advance t).setSyn k.val (fun y => { y with
      loop := .locked
      trims := { band := band % 256, gain := gain % 1024, tdcNorm := tdc % 65536, kp := kp % 65536, ki := ki % 65536 } })).activeLock
        k.val).lockEvent k.val) := by
  change execSynLock t k band gain tdc kp ki s = _
  simp [execSynLock, hl, ← hk]

/-- A cold re-acquisition of the active synthesiser: its loop acquires with KIND 3, and an LO gap is open. -/
theorem State.reacquire_active_cold {k : Nat} {x : LoSetting} (hx : (s.radio.synth k).setting = some x)
    (he : (s.radio.synth k).entryUsed = none) (hk : k = s.radio.active) :
    ((s.reacquire k).radio.synth k).loop = .acquiring ∧ ((s.reacquire k).radio.synth k).kind = 3 ∧
    (s.reacquire k).radio.gapSince.isSome = true := by
  subst hk
  unfold Radio.synth at hx he ⊢
  simp [State.reacquire, State.acquire, State.setSyn, Radio.synth, hx, he, State.judgeEntry_cold]

/-- Unlock (R109): the word freezes; re-acquisition starts at once, or waits for t4 of a burst on the active synthesiser. -/
theorem exec_synUnlock_locked {t : Nat} {k : Fin 3} (hl : (s.radio.synth k.val).loop = .locked) :
    ∃ u : State, u.tx = s.tx ∧
      u.radio = { s.radio with syn := Tab.set s.radio.syn k.val { s.radio.synth k.val with loop := .frozen } } ∧
      exec (.synUnlock t k) s = .next (if s.tx.queue.any (fun b => b.phase.committed) && k.val == s.radio.active then
        { u with radio := { u.radio with relock := true } } else u.reacquire k.val) := by
  refine ⟨((s.advance t).raiseEvent 0x0202 .error
    (le 1 k ++ b8 (s.tx.queue.any (fun b => b.phase.committed)) ++ zeros 14)).setSyn k (fun y => { y with loop := .frozen }),
    by simp, by simp [State.setSyn], ?_⟩
  change execSynUnlock t k s = _
  simp only [execSynUnlock, State.advance_frame, hl, ne_eq, not_true_eq_false, if_false, State.raiseEvent_keeps,
    State.setSyn_radio, apply_ite Host.Outcome.next]

/-- EV_SYN_SWITCH leaves the radio as it is. -/
@[simp] theorem State.switchEvent_radio (s : State) (w : Switch) (result blank postponed : Nat) (inst : List Byte) :
    (s.switchEvent w result blank postponed inst).radio = s.radio := by
  simp [State.switchEvent]

/-- A switch exchanges the active and the second synthesiser and counts ACQ_COUNT (R107, R110). -/
theorem State.applySwitch_radio (w : Switch) (blank : Nat)
    (he : (s.radio.synth w.target).entryUsed = none) (hf : s.spare.synFailed = []) :
    (s.applySwitch w blank).radio.active = w.target ∧ (s.applySwitch w blank).radio.second = some s.radio.active ∧
    (s.applySwitch w blank).radio.switch = none ∧
    (s.applySwitch w blank).radio.acqCount = wrapAdd 16 s.radio.acqCount 1 := by
  simp [State.applySwitch, he, hf, apply_ite State.radio]

/-- A pending switch whose target is locked applies on every device, no transition being in progress (R110). -/
theorem exec_synSwitchApply_locked {w : Switch} {blank : Nat} (hw : s.radio.switch = some w)
    (hl : (s.radio.synth w.target).loop = .locked) (hm : s.radio.moving = none) :
    exec (.synSwitchApply true blank) s = .next ((s.advance (s.sampleAt (s.disturbAt w.since (Nat.max s.now w.due))
      Config.outSample)).applySwitch w (Nat.min blank 2000)) := by
  change execSynSwitchApply true blank s = _
  simp [execSynSwitchApply, hw, hl, hm]

/-- With nothing queued, only the guard after the last burst puts a disturbance off (R111). -/
theorem State.disturbAt_noQueue {since t : Nat} (hq : s.tx.queue = []) : s.disturbAt since t = Nat.max t s.tx.guardUntil := by
  simp [State.disturbAt, State.clearFrom, hq]

/-- A switch that has not applied by its deadline is dropped, and its event raised (R110). -/
theorem exec_synSwitchAbandon_due {w : Switch} (hw : s.radio.switch = some w) (hq : s.tx.queue = [])
    (hg : s.tx.guardUntil ≤ s.now) :
    exec .synSwitchAbandon s =
      .next (({ s.advance w.deadline with radio := { s.radio with switch := none } } : State).switchEvent w 1 0 0 (zeros 8)) := by
  change execSynSwitchAbandon s = _
  have hd : (s.advance w.deadline).disturbAt w.since (s.advance w.deadline).now = (s.advance w.deadline).now := by
    rw [State.disturbAt_noQueue (by simp [hq])]
    exact Nat.max_eq_left (Nat.le_trans hg (Nat.le_max_left _ _))
  simp only [execSynSwitchAbandon, hw]
  rw [if_neg (by rw [hd]; exact Nat.lt_irrefl _)]
  rfl

end

/-! ### SYN_SET_STATE (R95) -/

section
variable {s : State} {r : Running}

/-- SYN_SET_STATE to LO_READY or RX, once a frequency was given, becomes the one pending change. -/
theorem setStateBody_awake (hlo : 1 ≤ u8 r.cmd.payload 0) (hhi : u8 r.cmd.payload 0 ≤ 2) (hn : u16 r.cmd.payload 2 ≤ 10000)
    (ht : u8 r.cmd.payload 1 % 2 = 1 ∨ s.time.state ≠ .invalid)
    (hx : (s.radio.synth s.radio.active).setting.isSome = true) :
    setStateBody r s = .ok { s with radio := { s.radio with pending := some {
      base := if u8 r.cmd.payload 0 = 1 then .loReady else .rx
      linger := u16 r.cmd.payload 2
      due := .instant (s.dueInstant r (u8 r.cmd.payload 1 % 2 == 1) (s.instantOf r.cmd.payload 8) lead100 Config.outSample)
      scheduled := u8 r.cmd.payload 1 % 2 == 0 } } } [] := by
  have hb : baseOf (u8 r.cmd.payload 0) = some (if u8 r.cmd.payload 0 = 1 then .loReady else .rx) := by
    obtain h | h : u8 r.cmd.payload 0 = 1 ∨ u8 r.cmd.payload 0 = 2 := by omega
    all_goals rw [h]; rfl
  have hawake : (baseOf (u8 r.cmd.payload 0) != some .standby) = true := by
    rw [hb]; split <;> rfl
  have hsome : (baseOf (u8 r.cmd.payload 0)).isSome = true := by rw [hb]; rfl
  obtain ⟨x, hx⟩ := Option.isSome_iff_exists.mp hx
  have htuned : s.neverTuned = false := by simp [State.neverTuned, hx]
  have hcheck : setStateCheck r s = none := by
    simp [setStateCheck, hawake, hsome, hn, immediate_or_timeUsable ht, htuned]
  simp only [setStateBody, hcheck, hb, not_immediate]

/-- SYN_SET_STATE to STANDBY without FORCE ends BUSY while requests are queued. -/
theorem setStateBody_queued (hb : u8 r.cmd.payload 0 = 0) (hn : u16 r.cmd.payload 2 ≤ 10000) (hi : u8 r.cmd.payload 1 = 1)
    (hq : s.tx.queue ≠ []) : setStateBody r s = .status s Status.busy := by
  have hcheck : setStateCheck r s = some Status.busy := by
    simp [setStateCheck, baseOf, hb, hn, hi, List.isEmpty_eq_false_iff.mpr hq]
  simp only [setStateBody, hcheck]

/-- SYN_SET_STATE out of STANDBY ends WRONG_STATE while the active synthesiser was never given a frequency. -/
theorem setStateBody_neverTuned (hb : u8 r.cmd.payload 0 = 2) (hn : u16 r.cmd.payload 2 ≤ 10000) (hi : u8 r.cmd.payload 1 = 1)
    (hx : (s.radio.synth s.radio.active).setting = none) (hw : (s.radio.synth s.radio.active).waiting = none) :
    setStateBody r s = .status s Status.wrongState := by
  have hawake : (some BaseState.rx != some BaseState.standby) = true := rfl
  have hrx : (BaseState.rx == BaseState.standby) = false := rfl
  have hcheck : setStateCheck r s = some Status.wrongState := by
    simp [setStateCheck, baseOf, State.neverTuned, hb, hn, hi, hx, hw, hawake, hrx]
  simp only [setStateBody, hcheck]

end

/-- Settles O12: each clause is the rule of its command or row above, read through what `pursue`, an acquisition and a lock leave
unchanged. -/
theorem radioStates : Obligations.RadioStates := by
  unfold Obligations.RadioStates
  refine ⟨?_, ?_, ?_, ?_, by decide, ?_, ?_, ?_, ?_, ?_, ?_, ?_, ?_⟩
  · intro s r h hlo hhi hn ht hx
    exact runCommand_effect h (setStateBody_awake hlo hhi hn ht hx)
  · intro s r h hb hn hi hq
    exact runCommand_status h (setStateBody_queued hb hn hi hq) (by decide)
  · intro s r h hb hn hi hx hw
    exact runCommand_status h (setStateBody_neverTuned hb hn hi hx hw) (by decide)
  · intro s n d sch hp hw hl hf hs hm hg
    exact ⟨_, exec_baseStateChange_due hp rfl hw hl hf, State.baseTakesEffect_loReady rfl hs hm hw⟩
  · intro s t hm hs hb hg hw
    have hgoal : ((s.advance t).arrive .rx).radio.state = ((s.advance t).arrive .rx).radioGoal := by
      simp [State.arrive_rx_fromLoReady (s := s.advance t) hs, State.radioGoal, hb, hg, hw]
    rw [exec_radioTransitionDone_arrives hm (by simp [hs]), State.pursue_atGoal hgoal,
      State.arrive_rx_fromLoReady (s := s.advance t) hs]
    exact ⟨_, rfl, rfl, rfl, rfl, rfl, rfl⟩
  · intro s k x t hw hk hb hc
    rw [exec_synAcquisitionStart_other hw hk hb, State.acquire_cold_other (s := s.advance t) hk hc]
    rfl
  · intro s k x d since sch hc hk hb hx
    rw [exec_synCommitInstant_one hc, State.acquireOrWait_other (by exact hk) (by exact hb),
      State.acquire_cold_other (by exact hk) hx]
    exact ⟨_, rfl, by simp⟩
  · intro s t band gain tdc kp ki k hl hk _ hp
    refine ⟨_, exec_synLock_active hl hk, ?_⟩
    obtain ⟨hsyn, hcount, hgap⟩ := State.activeLock_radio k.val (s := (s.advance t).setSyn k.val _) hp
    rw [State.lockEvent_radio, Radio.synth_congr hsyn, hcount, hgap]
    simp [wrapAdd]
  · intro s t k hl hk hb
    obtain ⟨u, htx, hradio, hu⟩ := exec_synUnlock_locked (t := t) hl
    rw [hb, hk, beq_self_eq_true, Bool.true_and, if_pos rfl] at hu
    exact ⟨_, hu, by simp [hradio, Radio.synth, htx]⟩
  · intro s t k x hl hx he hk hq
    obtain ⟨u, htx, hradio, hu⟩ := exec_synUnlock_locked (t := t) hl
    have hk' : k.val = u.radio.active := by rw [hradio]; exact hk
    have hsynth : u.radio.synth k.val = { s.radio.synth k.val with loop := .frozen } := by rw [hradio]; simp [Radio.synth]
    obtain ⟨hloop, hkind, hgap⟩ := State.reacquire_active_cold (s := u) (x := x) (by rw [hsynth]; exact hx)
      (by rw [hsynth]; exact he) hk'
    rw [hq, List.any_nil, Bool.false_and, if_neg Bool.false_ne_true] at hu
    exact ⟨_, hu, hloop, hkind, hgap⟩
  · intro s w blank y hw _ hl hm he ha hf
    refine ⟨_, exec_synSwitchApply_locked hw hl hm, ?_⟩
    rw [← ha]
    exact State.applySwitch_radio w _ (s := s.advance _) he hf
  · intro s w hw hq hg _
    rw [exec_synSwitchAbandon_due hw hq hg]
    rfl

/-! ### The loss of a worker's reference (R120, R324) -/

section
variable (s : State)

/-- Leaving TX after the last burst leaves the pins as they are. -/
@[simp] theorem State.lingerCheck_pins : s.lingerCheck.pins = s.pins := by
  simp [State.lingerCheck, apply_ite State.pins]

variable {s}

/-- Cutting a device off with nothing queued leaves its pins as they are. -/
theorem State.cutOffAt_pins {t : Nat} (hq : s.tx.queue = []) : (s.cutOffAt t).pins = s.pins := by
  simp [State.cutOffAt, State.cutOff, State.cutBursts, State.endAll, hq, apply_ite State.pins]

/-- Changing a source's validity leaves the pins and the transmit queue as they are. -/
@[simp] theorem State.setSource_keeps (src : Fin 2) (v : Bool) :
    (s.setSource src v).pins = s.pins ∧ (s.setSource src v).tx = s.tx := by
  unfold State.setSource
  split <;> exact ⟨rfl, rfl⟩

/-- Entering HOLDOVER leaves the pins as they are. -/
@[simp] theorem State.toHoldover_pins (cause : Nat) : (s.toHoldover cause).pins = s.pins := by
  simp [State.toHoldover, apply_ite State.pins]

/-- The loss of a reference with nothing queued leaves the pins as they are, on a worker too (R118, R120, R324). -/
theorem exec_referenceLost_pins (t : Nat) (src reason : Fin 2) (hq : s.tx.queue = []) :
    ∃ u, exec (.referenceLost t src reason) s = .next u ∧ u.pins = s.pins := by
  change ∃ u, execReferenceLost t src reason s = .next u ∧ _
  simp only [execReferenceLost, ← apply_ite Host.Outcome.next]
  refine ⟨_, rfl, ?_⟩
  simp [State.slewTo, State.cutOffAt_pins, hq, apply_ite State.pins]

end

/-- Refutes O13: a worker cut off by the loss of REF_IN with nothing queued keeps PAEN as it stands, high here: being
cut off ends bursts and writes no pin, and the clause speaks of every state with an empty queue, whatever its pins. -/
theorem not_clockAndReference : ¬ Obligations.ClockAndReference := by
  unfold Obligations.ClockAndReference
  rintro ⟨-, -, -, -, -, -, hcut, -⟩
  have hq : ({ boot := { role := 2#2 }, radio := { refSource := 1 }, pins := { paen := 1#4 } } : State).tx.queue = [] := rfl
  obtain ⟨u, hu, -, -, -, hlow⟩ := hcut _ 0 0 rfl rfl hq
  obtain ⟨v, hv, hpins⟩ := exec_referenceLost_pins 0 1 0 hq
  obtain rfl : u = v := Host.Outcome.next.inj (hu.symm.trans hv)
  rw [hpins] at hlow
  exact absurd hlow (by decide)

end Sys2Proof.Machine
end

section
/-!
PROOFS. Path filters (family 05): convergent rounding and symmetric saturation, one rule per command and row of the filters and
detectors, then the statements.
-/

namespace Sys2Proof

/-! ### Tables and masks -/

/-- Looking up after one value per index of a list was set. -/
theorem Tab.find?_foldl_set {α : Type} (f : Nat → α) (ks : List Nat) (t : Tab α) (j : Nat) :
    (ks.foldl (fun u k => Tab.set u k (f k)) t).find? j = if j ∈ ks then some (f j) else t.find? j := by
  induction ks generalizing t with
  | nil => simp
  | cons k ks ih =>
    rw [List.foldl_cons, ih, Tab.find?_set]
    by_cases hk : j ∈ ks <;> by_cases hj : j = k <;> simp [hk, hj]

/-- The indices of a mask are those of its set bits. -/
@[simp] theorem mem_bitsOf {w : Nat} (m : BitVec w) (k : Nat) : k ∈ bitsOf m ↔ m.getLsbD k = true := by
  simp only [bitsOf, List.mem_filter, List.mem_range, and_iff_right_iff_imp]
  exact BitVec.lt_of_getLsbD

end Sys2Proof

namespace Sys2Proof.Machine

open Sys2Proof

/-! ### Rounding and saturation (R125, R140, R141, R159) -/

/-- Shifting right with rounding is rounding division by a power of two. -/
theorem roundShift_eq_roundDiv (x : Int) (n : Nat) : roundShift x n = roundDiv x (2 ^ n) := by
  have hpow : ((2 ^ n : Nat) : Int) = 2 ^ n := Int.natCast_pow 2 n
  simp only [roundShift, roundDiv, hpow]

/-- A rounded quotient that is off by exactly half the divisor is even. -/
theorem roundDiv_even_of_half {a : Int} {b : Nat} (hb : 0 < b) (h : (2 * ((b : Int) * roundDiv a b - a)).natAbs = b) :
    roundDiv a b % 2 = 0 := by
  have hdef : roundDiv a b = if 2 * (a % b) < b then a / b else if 2 * (a % b) > b then a / b + 1
      else if a / b % 2 = 0 then a / b else a / b + 1 := rfl
  have hlo : 0 ≤ a % (b : Int) := Int.emod_nonneg a (by omega)
  have hlt : a % (b : Int) < b := Int.emod_lt_of_pos a (by omega)
  have hdiv : (b : Int) * (a / (b : Int)) + a % (b : Int) = a := Int.mul_ediv_add_emod a b
  have hup : (b : Int) * (a / (b : Int) + 1) = b * (a / (b : Int)) + b := by rw [Int.mul_add, Int.mul_one]
  rw [hdef] at h ⊢
  split at h
  · -- a remainder below half the divisor is off by less
    omega
  · split at h
    · -- so is one above half
      rw [hup] at h
      omega
    · -- at half, the even neighbour is taken
      rename_i hge hle
      rw [if_neg hge, if_neg hle]
      split <;> omega

/-- Rounding division is convergent: at most half the divisor off, and even where it is off by exactly half. -/
theorem roundDiv_convergent (a : Int) {b : Nat} (hb : 0 < b) :
    2 * ((b : Int) * roundDiv a b - a) ≤ b ∧ -(b : Int) ≤ 2 * ((b : Int) * roundDiv a b - a) ∧
    ((2 * ((b : Int) * roundDiv a b - a)).natAbs = b → roundDiv a b % 2 = 0) := by
  obtain ⟨hhi, hlo⟩ := roundDiv_nearest a hb
  rw [Int.mul_comm (roundDiv a b)] at hhi hlo
  exact ⟨by omega, by omega, roundDiv_even_of_half hb⟩

/-- Rounding a shift is convergent (R125). -/
theorem roundShift_convergent (x : Int) (n : Nat) :
    2 * (2 ^ n * roundShift x n - x) ≤ 2 ^ n ∧ -(2 ^ n) ≤ 2 * (2 ^ n * roundShift x n - x) ∧
    ((2 * (2 ^ n * roundShift x n - x)).natAbs = 2 ^ n → roundShift x n % 2 = 0) := by
  have h := roundDiv_convergent x (Nat.two_pow_pos n)
  rw [← roundShift_eq_roundDiv] at h
  exact_mod_cast h

/-- Symmetric saturation stays inside the range. -/
theorem satSym_range (w : Nat) (x : Int) : -(2 ^ (w - 1) - 1) ≤ satSym w x ∧ satSym w x ≤ 2 ^ (w - 1) - 1 := by
  have hm : (0 : Int) < 2 ^ (w - 1) := Int.pow_pos (by decide)
  simp only [satSym]
  split
  · omega
  · split <;> omega

/-- Symmetric saturation leaves a value of the range as it is. -/
theorem satSym_of_inRange {w : Nat} {x : Int} (hlo : -(2 ^ (w - 1) - 1) ≤ x) (hhi : x ≤ 2 ^ (w - 1) - 1) :
    satSym w x = x := by
  simp only [satSym, if_neg (Int.not_lt.mpr hhi), if_neg (Int.not_lt.mpr hlo)]

/-- A sample saturated to 16 bits. -/
theorem satSym_natAbs_16 (x : Int) : (satSym 16 x).natAbs ≤ 32767 := by
  have h := satSym_range 16 x
  omega

/-- A sum saturated to 20 bits. -/
theorem satSym_natAbs_20 (x : Int) : (satSym 20 x).natAbs ≤ 524287 := by
  have h := satSym_range 20 x
  omega

/-- Settles O16: rounding by the rules of `roundDiv`, and every stage is a symmetric saturation. -/
theorem convergentRounding : Obligations.ConvergentRounding := by
  unfold Obligations.ConvergentRounding
  refine ⟨?_, ?_, ?_, ?_, ?_, ?_, ?_⟩
  · intro x n
    obtain ⟨hhi, hlo, heven⟩ := roundShift_convergent x n
    exact ⟨hhi, hlo, fun h _ => heven h⟩
  · exact fun x _ hd => roundDiv_convergent x hd
  · intro w x _
    exact ⟨(satSym_range w x).1, (satSym_range w x).2, satSym_of_inRange⟩
  · intro c i
    exact satSym_natAbs_16 _
  · intro shift wc xs
    exact ⟨satSym_natAbs_20 _, satSym_natAbs_20 _⟩
  · intro a b
    exact ⟨satSym_natAbs_20 _, satSym_natAbs_20 _, satSym_natAbs_16 _, satSym_natAbs_16 _⟩
  · intro t vs ss
    exact ⟨satSym_natAbs_16 _, satSym_natAbs_16 _⟩

/-! ### Loading and assigning (R126 to R128, R137) -/

/-- Coefficient `m` of a load, in Q2.16. -/
def loadedCoef (p : List Byte) (m : Nat) : Int := signed 18 (u32 p (8 + 4 * m) % 2 ^ 18)

/-- The set that a FILT_LOAD_SET carries (R137). -/
def loadedSet (p : List Byte) : FirSet where
  taps := u16 p 4
  symmetric := u8 p 2 == 1
  refDelay := if u8 p 2 == 1 || u16 p 6 == 0xFFFF then 128 * (u16 p 4 - 1) else u16 p 6
  coefs := allCoefs (u16 p 4) (u8 p 2 == 1) ((List.range (loadCount (u16 p 4) (u8 p 2 == 1))).map (loadedCoef p))

/-- A load carries a coefficient for each tap, its mirror's where the set is symmetric. -/
theorem loadedSet_coefs (p : List Byte) :
    (loadedSet p).coefs = (List.range (u16 p 4)).map (fun k =>
      loadedCoef p (if u8 p 2 = 1 then min k (u16 p 4 - 1 - k) else k)) := by
  by_cases hs : u8 p 2 = 1
  · simp only [loadedSet, allCoefs, loadCount, hs, beq_self_eq_true, if_true]
    refine List.map_congr_left fun k hk => ?_
    have hlt : min k (u16 p 4 - 1 - k) < (u16 p 4 + 1) / 2 := by
      have := List.mem_range.mp hk
      omega
    simp [hlt]
  · simp [loadedSet, allCoefs, loadCount, hs]

section
variable {s : State} {r : Running}

/-- FILT_LOAD_SET for the receive direction with valid fields stages its set. -/
theorem loadSetBody_rx (h0 : u8 r.cmd.payload 0 = 0) (h1 : u8 r.cmd.payload 1 ≤ 3) (h2 : u8 r.cmd.payload 2 ≤ 1)
    (hlo : 1 ≤ u16 r.cmd.payload 4) (hhi : u16 r.cmd.payload 4 ≤ 256)
    (hlen : r.cmd.length = 8 + 4 * loadCount (u16 r.cmd.payload 4) (u8 r.cmd.payload 2 == 1))
    (href : u8 r.cmd.payload 2 = 1 ∨ u16 r.cmd.payload 6 = 0xFFFF ∨ u16 r.cmd.payload 6 ≤ 256 * (u16 r.cmd.payload 4 - 1)) :
    loadSetBody r s = .ok (({ s with filt := { s.filt with
      stagedRx := { s.filt.stagedRx with
        sets := Tab.set s.filt.stagedRx.sets (u8 r.cmd.payload 1) (loadedSet r.cmd.payload) } } } : State).reportFilters) [] := by
  have hcheck : loadSetCheck r.cmd.payload r.cmd.length = true := by
    simpa [loadSetCheck, inRange, h0, h1, h2, hlo, hhi, hlen, or_assoc] using href
  simp only [loadSetBody, hcheck, h0, Bool.not_true, Bool.false_eq_true, if_false, if_true]
  rfl

/-- FILT_LOAD_SET of a wrong length ends BAD_PARAM. -/
theorem loadSetBody_badLength (h : r.cmd.length ≠ 8 + 4 * loadCount (u16 r.cmd.payload 4) (u8 r.cmd.payload 2 == 1)) :
    loadSetBody r s = .status s Status.badParam := by
  have hcheck : loadSetCheck r.cmd.payload r.cmd.length = false := by
    simp [loadSetCheck, h]
  simp only [loadSetBody, hcheck, Bool.not_false, if_true]

/-- FILT_ASSIGN for the transmit direction stages the membership of the paths of its mask. -/
theorem assignBody_tx (h0 : u8 r.cmd.payload 0 = 1) (h1 : u8 r.cmd.payload 1 ≤ 3) :
    assignBody r s = .ok { s with filt := { s.filt with stagedTx := { s.filt.stagedTx with
      member := Tab.update s.filt.stagedTx.member (bitsOf (mask64 r.cmd.payload 8)) 0 (fun _ _ => u8 r.cmd.payload 1) } } }
      [] := by
  simp [assignBody, h0, h1]

end

/-- The set of a path once membership was staged for the paths of a mask. -/
theorem find?_assigned (t : Tab Nat) (m : Mask64) (x k : Nat) :
    (Tab.update t (bitsOf m) 0 (fun _ _ => x)).find? k = if m.getLsbD k then some x else t.find? k := by
  simp only [Tab.update, Tab.find?_foldl_set (fun _ => x), mem_bitsOf]

/-! ### Applying (R127 to R130) -/

section
variable {s : State} {r : Running}

/-- FILT_APPLY of the receive direction moves what is staged there into a pending apply. -/
theorem filtApplyBody_rx (h0 : u8 r.cmd.payload 0 = 1) (ht : u8 r.cmd.payload 1 % 2 = 1 ∨ s.time.state ≠ .invalid)
    (hs : s.filt.stagedRx.any = true) (ha : ((s.filt.rxBy (s.applyDue r)).after s.filt.stagedRx).aligned = true)
    (hc : s.role = .manager → s.chainAligned (((s.filt.rxBy (s.applyDue r)).after s.filt.stagedRx).delayOf 0) = true) :
    filtApplyBody r s = .ok
      { s with filt := { s.filt with
          applies := addApply { rx := some s.filt.stagedRx, tx := none, due := s.applyDue r
                                scheduled := u8 r.cmd.payload 1 % 2 == 0 } s.filt.applies
          stagedRx := {} } }
      (le 4 (s.filt.dRx (((s.filt.rxBy (s.applyDue r)).after s.filt.stagedRx).delayOf 0)) ++
        le 4 (dTx ((s.filt.txBy (s.applyDue r)).delayOf 0)) ++ s.ts64Bytes (s.applyDue r)) := by
  have hchain : (s.role != .manager ||
      s.chainAligned (((s.filt.rxBy (s.applyDue r)).after s.filt.stagedRx).delayOf 0)) = true := by
    by_cases hr : s.role = .manager
    · rw [hc hr, Bool.or_true]
    · rw [bne_iff_ne.mpr hr, Bool.true_or]
  have hcheck : applyCheck r s = none := by
    simp [applyCheck, h0, immediate_or_timeUsable ht, hs, ha, hchain]
  simp [filtApplyBody, hcheck, h0, hs, not_immediate]

/-- FILT_APPLY after which the receive sets in use would differ in reference delay ends FILT_DELAY_MISMATCH. -/
theorem filtApplyBody_misaligned (h0 : u8 r.cmd.payload 0 = 1) (hi : u8 r.cmd.payload 1 % 2 = 1)
    (hs : s.filt.stagedRx.any = true) (ha : ((s.filt.rxBy (s.applyDue r)).after s.filt.stagedRx).aligned = false) :
    filtApplyBody r s = .status s Status.filtDelayMismatch := by
  have hcheck : applyCheck r s = some Status.filtDelayMismatch := by
    simp [applyCheck, h0, hi, hs, ha]
  simp only [filtApplyBody, hcheck]

/-- FILT_APPLY with nothing staged ends WRONG_STATE. -/
theorem filtApplyBody_nothingStaged (h0 : u8 r.cmd.payload 0 = 3) (hi : u8 r.cmd.payload 1 % 2 = 1)
    (hrx : s.filt.stagedRx = {}) (htx : s.filt.stagedTx = {}) : filtApplyBody r s = .status s Status.wrongState := by
  have hcheck : applyCheck r s = some Status.wrongState := by
    simp [applyCheck, h0, hi, hrx, htx, FirBank.any]
  simp only [filtApplyBody, hcheck]

/-- On a device alone no worker is told of the delays. -/
theorem State.shareDelays_standalone (h : s.role = .standalone) : s.shareDelays = s := by
  simp [State.shareDelays, h]

/-- EV_FILT_APPLIED leaves these as they are. -/
@[simp] theorem State.filtApplied_keeps (dirs nmax t : Nat) :
    (s.filtApplied dirs nmax t).now = s.now ∧ (s.filtApplied dirs nmax t).filt = s.filt ∧
    (s.filtApplied dirs nmax t).path = s.path ∧ (s.filtApplied dirs nmax t).beam = s.beam ∧
    (s.filtApplied dirs nmax t).radio = s.radio := by
  simp [State.filtApplied]

section
variable {rx tx : FirBank} {due : Nat} {sch : Bool} {rest : List FiltApply}
  (hr : s.role = .standalone) (ha : s.filt.applies = ⟨some rx, some tx, due, sch⟩ :: rest)
include hr ha

/-- With no burst in progress an apply of both directions puts both banks in force (R127, R129). -/
theorem exec_filtApplyInstant_both (hb : s.burstInProgress = false) :
    ∃ flagged nmax, exec .filtApplyInstant s = .next (({ s.advance due with
      cal := { s.cal with disturbedAt := max s.now due }
      filt := { s.filt with
        applies := rest, rx := s.filt.rx.after rx, tx := s.filt.tx.after tx, flagged := flagged } } :
      State).filtApplied 3 nmax (max s.now due)) := by
  have hexec : exec .filtApplyInstant s = execFiltApplyInstant s := rfl
  have hburst : ∀ f, ({ s.advance due with filt := f } : State).burstInProgress = false := fun _ => hb
  simp only [hexec, execFiltApplyInstant, ha, hburst, Option.isNone_some, Bool.false_and, Bool.false_eq_true, if_false]
  rw [State.shareDelays_standalone (by exact hr)]
  exact ⟨_, _, rfl⟩

/-- While a burst is in progress an apply of both directions puts the receive bank in force; its transmit part waits (R129). -/
theorem exec_filtApplyInstant_inBurst (hb : s.burstInProgress = true) :
    ∃ flagged w nmax, exec .filtApplyInstant s = .next (({ s.advance due with
      cal := { s.cal with disturbedAt := max s.now due }
      filt := { s.filt with
        applies := rest, rx := s.filt.rx.after rx, txWaiting := some w, flagged := flagged } } :
      State).filtApplied 1 nmax (max s.now due)) := by
  have hexec : exec .filtApplyInstant s = execFiltApplyInstant s := rfl
  have hburst : ∀ f, ({ s.advance due with filt := f } : State).burstInProgress = true := fun _ => hb
  simp only [hexec, execFiltApplyInstant, ha, hburst, Option.isNone_some, Bool.false_and, Bool.false_eq_true, if_false, if_true]
  rw [State.shareDelays_standalone (by exact hr)]
  exact ⟨_, _, _, rfl⟩

end
end

/-! ### Detectors (R133 to R136) -/

/-- The detector of path p, the lower or the upper one. -/
def Filt.detectorOf (f : Filt) (p : Nat) (lower : Bool) : Detector := if lower then f.lowerOf p else f.upperOf p

/-- The filters with one detector changed. -/
def Filt.withDetector (f : Filt) (p : Nat) (lower : Bool) (d : Detector) : Filt :=
  if lower then { f with lower := Tab.set f.lower p d } else { f with upper := Tab.set f.upper p d }

/-- The upper detector written. -/
@[simp] theorem Filt.withDetector_upper (f : Filt) (p : Nat) (d : Detector) :
    (f.withDetector p false d).upperOf p = d ∧ (f.withDetector p false d).lower = f.lower := by
  simp [Filt.withDetector, Filt.upperOf]

/-- The lower detector written. -/
@[simp] theorem Filt.withDetector_lower (f : Filt) (p : Nat) (d : Detector) :
    (f.withDetector p true d).lowerOf p = d ∧ (f.withDetector p true d).upper = f.upper := by
  simp [Filt.withDetector, Filt.lowerOf]

section
variable (s : State)

/-- Judging the pattern conditions leaves the filters and the paths as they are. -/
@[simp] theorem State.patternMoved_keeps (t : Nat) : (s.patternMoved t).filt = s.filt ∧ (s.patternMoved t).path = s.path :=
  ⟨rfl, rfl⟩

/-- Off a worker an event changes the event unit alone. -/
theorem State.raiseEvent_local (h : s.isWorker = false) (typ : Nat) (sev : Severity) (p : List Byte) :
    { s.raiseEvent typ sev p with evq := s.evq } = s := by
  have hlcl : (s.raiseEvent typ sev p).lcl = s.lcl := by
    unfold State.raiseEvent
    split
    · rfl
    · have hw : ∀ q : EventRing, ({ s with evq := q } : State).isWorker = false := fun _ => h
      split <;> simp only [h, hw, Bool.false_eq_true, if_false] <;> split <;> rfl
  have hframe := s.raiseEvent_frame typ sev p
  rw [← hlcl] at hframe
  exact hframe

variable {s} {t p : Nat} {lower on : Bool} {level : Int}

/-- A detector that is disabled, or whose path is not received, stays as it is (R133). -/
theorem State.detectorMoves_still
    (h : (s.filt.detectorOf p lower).enable = false ∨ s.path.rxMask.getLsbD p = false) :
    s.detectorMoves t p lower on level = s := by
  rw [Filt.detectorOf] at h
  rcases h with h | h <;> simp [State.detectorMoves, h]

/-- Writing a detector's table is writing the detector. -/
theorem State.writeDetector (d : Detector) :
    (if lower then ({ s with filt := { s.filt with lower := Tab.set s.filt.lower p d } } : State)
      else { s with filt := { s.filt with upper := Tab.set s.filt.upper p d } }) =
      { s with filt := s.filt.withDetector p lower d } := by
  cases lower <;> rfl

section
variable {d : Detector} (hd : s.filt.detectorOf p lower = d) (he : d.enable = true) (hm : s.path.rxMask.getLsbD p = true)
  (ha : d.asserted = !on)
include hd he hm ha

/-- A detector that changes state without EVENT, or within its hold-off, counts the transition only with EVENT, and raises
nothing (R136). -/
theorem State.detectorMoves_silent
    (hr : d.event = false ∨ ∃ a, d.eventAt = some a ∧ s.now < a + d.holdoffMs * 384000000) :
    s.detectorMoves t p lower on level = ({ s with filt := s.filt.withDetector p lower { d with
      asserted := on, suppressed := if d.event then satAdd 16 d.suppressed 1 else d.suppressed } } : State).patternMoved t := by
  have hne : (d.asserted == on) = false := by rw [ha]; cases on <;> rfl
  change (if lower then s.filt.lowerOf p else s.filt.upperOf p) = d at hd
  simp only [State.detectorMoves, hd, he, hm, hne, State.writeDetector, Bool.and_self, Bool.not_true, Bool.or_self,
    Bool.false_eq_true, if_false]
  rcases hr with hv | ⟨a, hx, hlt⟩
  · simp only [hv, Bool.false_and, Bool.false_eq_true, if_false]
  · simp [hx, Config.ms, Nat.not_le.mpr hlt]

/-- A detector that changes state with EVENT and no hold-off raises EV_FILT_THRESHOLD (R136). -/
theorem State.detectorMoves_raises (hv : d.event = true) (hn : d.eventAt = none) :
    ∃ payload, s.detectorMoves t p lower on level = (({ s with filt := s.filt.withDetector p lower { d with
      asserted := on, suppressed := 0, eventAt := some s.now } } : State).raiseEvent 0x0305 .notice payload).patternMoved t := by
  have hne : (d.asserted == on) = false := by rw [ha]; cases on <;> rfl
  change (if lower then s.filt.lowerOf p else s.filt.upperOf p) = d at hd
  simp only [State.detectorMoves, hd, he, hm, hne, hv, hn, State.writeDetector, Bool.and_self, Bool.not_true, Bool.or_self,
    Bool.false_eq_true, if_false, if_true]
  exact ⟨_, rfl⟩

end
end

section
variable {s : State} {r : Running}

/-- What FILT_SET_DETECTOR leaves of the filters for the lower detectors of its mask. -/
def Filt.withLowerDetectors (f : Filt) (p : List Byte) : Filt :=
  { f with
    lower := (bitsOf (mask64 p 0)).foldl (fun t k => Tab.set t k (configDetector p (f.lowerOf k))) f.lower
    patternLower := if u8 p 9 / 4 % 2 = 1 then f.patternLower ||| mask64 p 0 else f.patternLower &&& ~~~(mask64 p 0)
    patternUpper := if u8 p 9 / 4 % 2 = 1 then f.patternUpper &&& ~~~(mask64 p 0) else f.patternUpper }

/-- A lower detector of the mask is configured, another is as it was. -/
theorem Filt.withLowerDetectors_lowerOf (f : Filt) (p : List Byte) (k : Nat) :
    (f.withLowerDetectors p).lowerOf k =
      if (mask64 p 0).getLsbD k then configDetector p (f.lowerOf k) else f.lowerOf k := by
  simp only [Filt.withLowerDetectors, Filt.lowerOf, Tab.get, Tab.find?_foldl_set, mem_bitsOf]
  split <;> rfl

/-- FILT_SET_DETECTOR for the lower detectors with valid fields. -/
theorem setDetectorBody_lower (h8 : u8 r.cmd.payload 8 = 1) (ha : u8 r.cmd.payload 10 ≤ 10) (hh : u8 r.cmd.payload 11 ≤ 100)
    (hlo : -900 ≤ s16 r.cmd.payload 12) (hhi : s16 r.cmd.payload 12 ≤ 0) (hd : 1 ≤ u16 r.cmd.payload 14)
    (hmin : 1 ≤ u16 r.cmd.payload 16) (hmax : u16 r.cmd.payload 16 ≤ 10000) :
    setDetectorBody r s =
      .ok (({ s with filt := s.filt.withLowerDetectors r.cmd.payload } : State).patternMoved s.now) [] := by
  simp [setDetectorBody, inRange, inRangeZ, h8, ha, hh, hlo, hhi, hd, hmin, hmax, Filt.withLowerDetectors]

end

/-! ### Status (R131, R132, Table FILT-9) -/

/-- A field has the length given. -/
@[simp] theorem length_le (n v : Nat) : (le n v).length = n := by
  induction n generalizing v with
  | zero => rfl
  | succ n ih => rw [le, List.length_cons, ih]

/-- A reserved field has the length given. -/
@[simp] theorem length_zeros (n : Nat) : (zeros n).length = n := List.length_replicate

/-- The field at the front of a payload. -/
theorem u32_le (v : Nat) (p : List Byte) : u32 (le 4 v ++ p) 0 = v % 2 ^ 32 := by
  simp only [u32, u16, u8, le, List.cons_append, List.nil_append, List.getD_cons_zero, List.getD_cons_succ,
    BitVec.toNat_ofNat, Nat.zero_add]
  omega

/-- A byte behind the front of a payload. -/
theorem u8_append (l p : List Byte) (o : Nat) : u8 (l ++ p) (l.length + o) = u8 p o := by
  simp [u8, List.getElem?_append_right]

/-- A field behind the front of a payload. -/
theorem u32_append (l p : List Byte) (o : Nat) : u32 (l ++ p) (l.length + o) = u32 p o := by
  simp only [u32, u16, Nat.add_assoc, u8_append]

/-- One set takes eight bytes. -/
@[simp] theorem FirSet.length_encode (x : FirSet) : x.encode.length = 8 := by
  simp [FirSet.encode, b8]

/-- Entries of one length, one after another. -/
theorem length_flatMap_of_forall {α : Type} {f : α → List Byte} {c : Nat} (h : ∀ a, (f a).length = c) (l : List α) :
    (l.flatMap f).length = l.length * c := by
  induction l with
  | nil => exact (Nat.zero_mul c).symm
  | cons a l ih => rw [List.flatMap_cons, List.length_append, h, ih, List.length_cons, Nat.succ_mul, Nat.add_comm]

/-- A table of fields of one length. -/
theorem length_flatMap_le (n m : Nat) (f : Nat → Nat) : ((List.range n).flatMap (fun k => le m (f k))).length = n * m := by
  rw [length_flatMap_of_forall (fun k => length_le m (f k)), List.length_range]

/-- A table of sets. -/
theorem length_flatMap_encode (n : Nat) (f : Nat → FirSet) :
    ((List.range n).flatMap (fun k => (f k).encode)).length = n * 8 := by
  rw [length_flatMap_of_forall (fun k => (f k).length_encode), List.length_range]

/-- The length of Table FILT-9. -/
theorem State.length_filtStatus (s : State) : s.filtStatus.length = 0x1A8 := by
  simp only [State.filtStatus, List.length_append, length_le, length_zeros, length_flatMap_le, length_flatMap_encode]

/-- Table FILT-9 begins with D_RX and D_TX. -/
theorem State.filtStatus_delays (s : State) :
    u32 s.filtStatus 0 = s.delays.1 % 2 ^ 32 ∧ u32 s.filtStatus 4 = s.delays.2 % 2 ^ 32 := by
  simp only [State.filtStatus, List.append_assoc]
  exact ⟨u32_le _ _, (u32_append (le 4 s.delays.1) _ 0).trans (u32_le _ _)⟩

/-- Settles O14: each command by the rule of its body above, and the delays of Table FILT-5 by computation. -/
theorem filterCommands : Obligations.FilterCommands := by
  unfold Obligations.FilterCommands
  refine ⟨?_, ?_, ?_, ?_, ?_, ?_, ?_, ?_, ?_, ?_⟩
  · intro s r h h0 h1 h2 hlo hhi hlen href
    refine ⟨_, runCommand_effect h (loadSetBody_rx h0 h1 h2 hlo hhi (by simpa [loadCount] using hlen) href), rfl, rfl, ?_,
      by simp [loadedSet_coefs], ?_⟩
    · simp [loadedSet]
    · intro k hk
      simp [loadedSet_coefs, hk, loadedCoef]
  · intro s r h hlen
    exact runCommand_status h (loadSetBody_badLength hlen) (by decide)
  · intro s r h h0 h1
    refine ⟨_, runCommand_effect h (assignBody_tx h0 h1), ?_, ?_, rfl⟩
    · intro k hk
      exact (find?_assigned _ _ _ _).trans (if_pos hk)
    · intro k hk
      exact (find?_assigned _ _ _ _).trans (if_neg (by simp only [hk, Bool.false_eq_true, not_false_eq_true]))
  · intro s r h h0 ht hs ha hc
    exact runCommand_effect h (filtApplyBody_rx h0 ht hs ha hc)
  · intro s r h h0 hi hs ha
    exact runCommand_status h (filtApplyBody_misaligned h0 hi hs ha) (by decide)
  · intro s r h h0 hi hrx htx
    exact runCommand_status h (filtApplyBody_nothingStaged h0 hi hrx htx) (by decide)
  · intro s r h h8 ha hh hlo hhi hd hmin hmax
    refine ⟨_, runCommand_effect h (setDetectorBody_lower h8 ha hh hlo hhi hd hmin hmax), ?_, ?_, rfl, rfl, rfl⟩
    · intro k hk
      simp only [State.patternMoved_keeps, Filt.withLowerDetectors_lowerOf, hk, if_true]
      exact ⟨rfl, rfl, rfl, rfl⟩
    · intro k hk
      simp only [State.patternMoved_keeps, Filt.withLowerDetectors_lowerOf, hk, Bool.false_eq_true, if_false]
  · intro s r h
    exact runCommand_effect h rfl
  · exact fun s => ⟨s.length_filtStatus, s.filtStatus_delays⟩
  · decide

/-- Settles O15: each clause is the rule above of an apply or of a detector. -/
theorem filterEvents : Obligations.FilterEvents := by
  unfold Obligations.FilterEvents
  refine ⟨?_, ?_, ?_, ?_, ?_⟩
  · intro s rx tx due sch rest hr ha
    cases hb : s.burstInProgress with
    | false =>
      obtain ⟨flagged, nmax, hu⟩ := exec_filtApplyInstant_both hr ha hb
      exact ⟨_, hu, by simp⟩
    | true =>
      obtain ⟨flagged, w, nmax, hu⟩ := exec_filtApplyInstant_inBurst hr ha hb
      exact ⟨_, hu, by simp⟩
  · intro s t p lower level h
    exact ⟨congrArg Host.Outcome.next (State.detectorMoves_still (s := s.advance t) h),
      congrArg Host.Outcome.next (State.detectorMoves_still (s := s.advance t) h)⟩
  · intro s t p level he hm ha hv
    refine ⟨_, congrArg Host.Outcome.next
      (State.detectorMoves_silent (s := s.advance t) (lower := false) (d := s.filt.upperOf p) rfl he hm ha (.inl hv)),
      ?_, ?_, ?_, rfl⟩
    · simp [hv]
    · simp [State.upperOn, he, hm]
    · simp
  · intro s t a p level he hm ha hv hx hlt
    refine ⟨_, congrArg Host.Outcome.next
      (State.detectorMoves_silent (s := s.advance t) (lower := true) (d := s.filt.lowerOf p) rfl he hm ha
        (.inr ⟨a, hx, hlt⟩)), ?_, rfl⟩
    simp [hv, satAdd, Nat.min_comm]
  · intro s t p level he hm ha hv hx hr
    obtain ⟨payload, hu⟩ := State.detectorMoves_raises (s := s.advance t) (lower := false) (on := false) (t := t)
      (level := level) (d := s.filt.upperOf p) rfl he hm ha hv hx
    refine ⟨_, congrArg Host.Outcome.next hu, ?_, ?_⟩
    · simp [hv]
    · have hw : ∀ f, ({ s.advance t with filt := f } : State).isWorker = false := fun _ => by
        simp [State.isWorker, State.role_congr (s := s), hr]
      exact congrArg (fun x : State => { x with filt := s.filt, halo := s.halo, now := s.now })
        (State.raiseEvent_local _ (hw _) _ _ _)

end Sys2Proof.Machine
end

section
/-!
PROOFS. The beam engine (family 06): what is staged and for which host swap, what a swap activates, and the adaptive updates,
then the statements.
-/

namespace Sys2Proof.Machine

open Sys2Proof

/-! ### Geometry and grid (R145, R146) -/

section
variable {s : State} {r : Running}

/-- BEAM_SET_GEOMETRY with one valid entry, on a device alone. -/
theorem setGeometryBody_one (hn : u16 r.cmd.payload 0 = 1) (hf : u8 r.cmd.payload 2 = 0) (hpos : u8 r.cmd.payload 8 = 0)
    (hpath : u8 r.cmd.payload 9 ≤ 63) (hr : s.role = .standalone) :
    setGeometryBody r s = .ok ({ s with beam := { s.beam with
      geometry := Tab.set s.beam.geometry (u8 r.cmd.payload 9)
        (s32 r.cmd.payload 12, s32 r.cmd.payload 16, s32 r.cmd.payload 20) } } : State).recomputeGrid [] := by
  simp [setGeometryBody, inRange, State.positionOk, State.recomputeGrid, hn, hf, hpos, hpath, hr]

/-- BEAM_SET_GRID with one valid entry: refused without geometry, else the direction and F. -/
theorem setGridBody_one (hfirst : u16 r.cmd.payload 0 ≤ 255) (hn : u16 r.cmd.payload 2 = 1)
    (hf : u32 r.cmd.payload 4 = 0 ∨ (380000 ≤ u32 r.cmd.payload 4 ∧ u32 r.cmd.payload 4 ≤ 2700000))
    (hazLo : -18000 ≤ s16 r.cmd.payload 8) (hazHi : s16 r.cmd.payload 8 ≤ 18000)
    (helLo : -9000 ≤ s16 r.cmd.payload 10) (helHi : s16 r.cmd.payload 10 ≤ 9000) :
    setGridBody r s = if s.beam.geometry = [] then .status s Status.noGeometry
      else .ok ({ s with beam := { s.beam with
        grid := Tab.set s.beam.grid (u16 r.cmd.payload 0) (s16 r.cmd.payload 8, s16 r.cmd.payload 10)
        fKHz := u32 r.cmd.payload 4 } } : State).recomputeGrid [] := by
  have hlast : u16 r.cmd.payload 0 + 1 ≤ 256 := by omega
  cases hg : s.beam.geometry <;>
    simp [setGridBody, firstFailure, inRange, inRangeZ, hfirst, hn, hf, hlast, hazLo, hazHi, helLo, helHi, hg]

end

section
variable {s : State}

/-- The end of a recomputation stages the weights of the geometry, grid and F as they stand (R146). -/
theorem exec_gridRecomputeDone_running {t t0 : Nat} (h : s.beam.recomputing = some t0) :
    exec (.gridRecomputeDone t) s =
      .next { s.advance t with beam := { s.beam with recomputing := none, gridStaged := s.gridBasis } } := by
  change execGridRecomputeDone t s = _
  simp only [execGridRecomputeDone, h]
  rfl

/-! ### Staging for host swaps (R144, R150, R154) -/

/-- With no host swap pending, none is past its freeze point. -/
theorem State.hostFrozen_none (h : s.beam.host = none) : s.hostFrozen = false := by
  simp [State.hostFrozen, h]

/-- A pending host swap is past its freeze point from 20 us before its instant on. -/
theorem State.hostFrozen_past {w : BeamSwap} (h : s.beam.host = some w) (ht : w.instant ≤ s.now + 20 * 384000) :
    s.hostFrozen = true := by
  simp [State.hostFrozen, h, Config.us, ht]

/-- Before the freeze point a change is staged for the next host swap. -/
theorem State.stageHost_next (h : s.hostFrozen = false) (f : Staging → Staging) :
    s.stageHost f = { s with beam := { s.beam with next := f s.beam.next } } := by
  simp [State.stageHost, h]

/-- Past the freeze point a change is staged for the following host swap. -/
theorem State.stageHost_following (h : s.hostFrozen = true) (f : Staging → Staging) :
    s.stageHost f = { s with beam := { s.beam with following := f s.beam.following } } := by
  simp [State.stageHost, h]

variable {r : Running}

/-- BEAM_SET_RX_SOURCE with one valid entry and a geometry stages its source. -/
theorem setRxSourceBody_one (hn : u16 r.cmd.payload 0 = 1) (ho : rxSourceOk r.cmd.payload 8 = true)
    (hg : s.beam.geometry ≠ []) :
    setRxSourceBody r s = .ok (s.stageHost (fun g => { g with
      sources := Tab.set g.sources (u8 r.cmd.payload 8) (rxSourceEntry r.cmd.payload 8) })) [] := by
  simp [setRxSourceBody, firstFailure, inRange, hn, ho, hg]

/-- BEAM_SET_RX_SOURCE of a GRID source without geometry ends NO_GEOMETRY. -/
theorem setRxSourceBody_noGeometry (hn : u16 r.cmd.payload 0 = 1) (ho : rxSourceOk r.cmd.payload 8 = true)
    (hsrc : u8 r.cmd.payload 9 = 1) (hg : s.beam.geometry = []) :
    setRxSourceBody r s = .status s Status.noGeometry := by
  simp [setRxSourceBody, inRange, hn, ho, hsrc, hg, rxSource, RxSource.onGrid]

/-- The 64 weights that a load of one beam carries. -/
def loadedWeights (p : List Byte) : List Cplx := (List.range 64).map (fun k => ⟨s16 p (8 + 4 * k), s16 p (10 + 4 * k)⟩)

/-- BEAM_LOAD_BANK for one beam: refused where the beam will not be EXPLICIT, else staged, with BANK_AFTER_SWAP. -/
theorem loadBankBody_one (hb : u8 r.cmd.payload 0 ≤ 63) (hn : u8 r.cmd.payload 1 = 1) :
    loadBankBody r s = if (s.defAtSwap (u8 r.cmd.payload 0)).source = .explicit then
        .ok (s.stageHost (fun g => { g with
          loads := Tab.set g.loads (u8 r.cmd.payload 0) (loadedWeights r.cmd.payload) })) (b8 s.hostFrozen)
      else .status s Status.notPermitted := by
  have hlast : u8 r.cmd.payload 0 + 1 ≤ 64 := by omega
  have hoff : ∀ k, 8 + 4 * k + 2 = 10 + 4 * k := by omega
  by_cases hs : (s.defAtSwap (u8 r.cmd.payload 0)).source = .explicit <;>
    simp [loadBankBody, firstFailure, inRange, hb, hn, hlast, hs, pairAt, hoff, loadedWeights]

/-- BEAM_SET_SCALE with a valid scale stages it. -/
theorem setScaleBody_valid (h : u8 r.cmd.payload 0 ≤ 8) :
    setScaleBody r s = .ok (s.stageHost (fun g => { g with shift := some (u8 r.cmd.payload 0) })) [] := by
  simp [setScaleBody, Nat.not_lt.mpr h]

/-- BEAM_SET_ADAPTIVE with valid fields sets them. -/
theorem setAdaptiveBody_valid (huLo : 10 ≤ u16 r.cmd.payload 0) (huHi : u16 r.cmd.payload 0 ≤ 10000)
    (hcLo : 12 ≤ u8 r.cmd.payload 2) (hcHi : u8 r.cmd.payload 2 ≤ 20) (hlLo : -40 ≤ s8 r.cmd.payload 3)
    (hlHi : s8 r.cmd.payload 3 ≤ 0) (haLo : 1 ≤ u32 r.cmd.payload 4) (haHi : u32 r.cmd.payload 4 ≤ 600000) :
    setAdaptiveBody r s = .ok { s with beam := { s.beam with
      updateMs := u16 r.cmd.payload 0, covLog2 := u8 r.cmd.payload 2, loadDb := s8 r.cmd.payload 3
      sigMaxAgeMs := u32 r.cmd.payload 4 } } [] := by
  simp [setAdaptiveBody, inRange, inRangeZ, huLo, huHi, hcLo, hcHi, hlLo, hlHi, haLo, haHi]

end

/-! ### Status (R171) -/

/-- The instant of a pending swap takes eight bytes, and so does its absence. -/
@[simp] theorem State.length_swapTs (s : State) (w : Option BeamSwap) : (s.swapTs w).length = 8 := by
  cases w <;> simp [State.swapTs, State.ts64Bytes]

/-- The length of the response of BEAM_GET_STATUS. -/
theorem State.length_beamStatus (s : State) : s.beamStatus.length = 0x1A0 := by
  simp only [State.beamStatus, List.length_append, length_le, length_zeros, State.length_swapTs, length_flatMap_le]

/-- The weight epoch in the response of BEAM_GET_STATUS. -/
theorem State.beamStatus_epoch (s : State) : u8 s.beamStatus 1 = s.beam.epoch % 256 := by
  simp only [State.beamStatus, u8, le, List.cons_append, List.nil_append, List.getD_cons_zero, List.getD_cons_succ,
    BitVec.toNat_ofNat]

/-- Settles O17: each command by the rule of its body above, and the status by its layout. -/
theorem beamStaging : Obligations.BeamStaging := by
  unfold Obligations.BeamStaging
  refine ⟨?_, ?_, ?_, ?_, ?_, ?_, ?_, ?_, ?_, ?_, ?_⟩
  · intro s r h hn hf hpos hpath hr
    exact runCommand_effect h (setGeometryBody_one hn hf hpos hpath hr)
  · intro s r h hfirst hn hf hazLo hazHi helLo helHi
    have hbody := setGridBody_one (s := s) hfirst hn hf hazLo hazHi helLo helHi
    split at hbody
    case isTrue hg =>
      rw [if_pos hg]
      exact runCommand_status h hbody (by decide)
    case isFalse hg =>
      rw [if_neg hg]
      exact runCommand_effect h hbody
  · intro s r h hn ho hg hw
    refine runCommand_effect h ((setRxSourceBody_one hn ho hg).trans ?_)
    rw [State.stageHost_next (State.hostFrozen_none hw)]
  · intro s r w h hn ho hg hw ht
    refine runCommand_effect h ((setRxSourceBody_one hn ho hg).trans ?_)
    rw [State.stageHost_following (State.hostFrozen_past hw ht)]
  · intro s r h hn ho hsrc hg
    exact runCommand_status h (setRxSourceBody_noGeometry hn ho hsrc hg) (by decide)
  · intro s r h hb hn hs hfz
    refine runCommand_effect h ((loadBankBody_one hb hn).trans ((if_pos hs).trans ?_))
    rw [State.stageHost_next hfz, hfz]
    rfl
  · intro s r h hb hn hs
    exact runCommand_status h ((loadBankBody_one hb hn).trans (if_neg hs)) (by decide)
  · intro s r h hv
    refine ⟨_, runCommand_effect h (setScaleBody_valid hv), ?_⟩
    cases hfz : s.hostFrozen with
    | false => rw [State.stageHost_next hfz]; exact ⟨rfl, ⟨rfl, rfl⟩, rfl⟩
    | true => rw [State.stageHost_following hfz]; exact ⟨rfl, ⟨rfl, rfl⟩, rfl⟩
  · intro s r h huLo huHi hcLo hcHi hlLo hlHi haLo haHi
    exact runCommand_effect h (setAdaptiveBody_valid huLo huHi hcLo hcHi hlLo hlHi haLo haHi)
  · intro s r h
    exact runCommand_effect h rfl
  · exact fun s => ⟨s.length_beamStatus, s.beamStatus_epoch⟩

/-! ### Asking for host swaps (R151, R152) -/

/-- FLAGS that ask for CANCEL. -/
theorem cancel_asked {n : Nat} (h : n % 4 = 2) : (n / 2 % 2 == 1) = true := by
  rw [beq_iff_eq]
  omega

/-- FLAGS that do not ask for CANCEL. -/
theorem cancel_notAsked {n : Nat} (h : n % 4 < 2) : (n / 2 % 2 == 1) = false := by
  rw [beq_eq_false_iff_ne]
  omega

section
variable {s : State} {r : Running}

/-- The sample at which a BEAM_SWAP takes effect: no earlier than its lead, and when immediate at its end (R151). -/
def State.askedSwapInstant (s : State) (r : Running) : Nat :=
  let soonest := r.reached + (if s.inCascade then 200 else 100) * Config.us
  if u8 r.cmd.payload 0 % 2 = 1 ∨ s.instantOf r.cmd.payload 8 < s.time.deviceAt soonest then
    s.sampleAt soonest Config.outSample
  else s.sampleAt (s.time.localOf (s.instantOf r.cmd.payload 8)) Config.outSample

/-- A host swap asked for with none pending is scheduled. -/
theorem State.hostSwap_schedules (ht : u8 r.cmd.payload 0 % 2 = 1 ∨ s.time.state ≠ .invalid) (hn : s.beam.host = none) :
    s.hostSwap r.reached (u8 r.cmd.payload 0 % 2 == 1) false (s.instantOf r.cmd.payload 8) =
      (Status.ok, s.askedSwapInstant r, { s with beam := { s.beam with
        host := some { instant := s.askedSwapInstant r, scheduled := u8 r.cmd.payload 0 % 2 == 0, cause := 1 } } }) := by
  have htime : (u8 r.cmd.payload 0 % 2 == 0 && !s.timeUsable) = false := by
    rw [← not_immediate, ← Bool.not_or, immediate_or_timeUsable ht]
    rfl
  simp only [State.hostSwap, htime, hn, not_immediate, State.askedSwapInstant, Option.isSome_none, Bool.false_eq_true, if_false,
    Bool.or_eq_true, beq_iff_eq, decide_eq_true_eq]

/-- BEAM_SWAP with no host swap pending schedules one. -/
theorem beamSwapBody_schedules (hf : u8 r.cmd.payload 0 % 4 < 2) (ht : u8 r.cmd.payload 0 % 2 = 1 ∨ s.time.state ≠ .invalid)
    (hn : s.beam.host = none) :
    beamSwapBody r s = .ok { s with beam := { s.beam with
        host := some { instant := s.askedSwapInstant r, scheduled := u8 r.cmd.payload 0 % 2 == 0, cause := 1 } } }
      (bytesAt r.cmd.payload 0 8 ++ s.ts64Bytes (s.askedSwapInstant r)) := by
  simp only [beamSwapBody, cancel_notAsked hf, State.hostSwap_schedules ht hn, if_true]

/-- BEAM_SWAP while a host swap is pending ends BUSY. -/
theorem beamSwapBody_pending {w : BeamSwap} (hf : u8 r.cmd.payload 0 % 4 = 1) (hw : s.beam.host = some w) :
    beamSwapBody r s = .status s Status.busy := by
  have himm : (u8 r.cmd.payload 0 % 2 == 1) = true := by
    rw [beq_iff_eq]
    omega
  have hcancel := cancel_notAsked (n := u8 r.cmd.payload 0) (by omega)
  simp [beamSwapBody, State.hostSwap, himm, hcancel, hw, Status.busy, Status.ok]

/-- CANCEL before the freeze point takes a host swap of the host's alone away. -/
theorem beamSwapBody_cancels {w : BeamSwap} (hf : u8 r.cmd.payload 0 % 4 = 2) (hw : s.beam.host = some w)
    (hz : s.hostFrozen = false) (hc : w.cause = 1) :
    beamSwapBody r s = .ok { s with beam := { s.beam with host := none } }
      (bytesAt r.cmd.payload 0 8 ++ s.ts64Bytes w.instant) := by
  simp [beamSwapBody, State.hostSwap, cancel_asked hf, hw, hz, hc]

/-- CANCEL with no host swap pending, or past its freeze point, ends WRONG_STATE. -/
theorem beamSwapBody_nothingToCancel (hf : u8 r.cmd.payload 0 % 4 = 2)
    (h : s.beam.host = none ∨ s.hostFrozen = true) : beamSwapBody r s = .status s Status.wrongState := by
  have hswap : ∀ imm d, s.hostSwap r.reached imm true d = (Status.wrongState, 0, s) := by
    intro imm d
    cases hw : s.beam.host with
    | none => simp [State.hostSwap, hw]
    | some w => simp [State.hostSwap, hw, h.resolve_left (by simp [hw])]
  simp [beamSwapBody, cancel_asked hf, hswap, Status.wrongState, Status.ok]

end

/-! ### The freeze point and the swap itself (R153 to R155) -/

section
variable (s : State)

variable {s} in
/-- A device alone is no worker. -/
theorem State.isWorker_standalone (h : s.role = .standalone) : s.isWorker = false := by
  simp [State.isWorker, h]

/-- A device that the local time alone has moved works in a running cascade as before. -/
@[simp] theorem State.inCascade_advance (t : Nat) : (s.advance t).inCascade = s.inCascade := rfl

/-- The host swap is the next one when no internal swap is pending. -/
theorem BeamUnit.nextSwap_host {u : BeamUnit} {w : BeamSwap} {sel : BeamSwap → Bool} (hw : u.host = some w)
    (hi : u.internal = none) (hs : sel w = true) : u.nextSwap sel = some (true, w) := by
  simp [BeamUnit.nextSwap, Option.filter, hw, hi, hs]

/-- The internal swap is the next one when no host swap is pending. -/
theorem BeamUnit.nextSwap_internal {u : BeamUnit} {w : BeamSwap} {sel : BeamSwap → Bool} (hw : u.host = none)
    (hi : u.internal = some w) (hs : sel w = true) : u.nextSwap sel = some (false, w) := by
  simp [BeamUnit.nextSwap, Option.filter, hw, hi, hs]

/-- Outside a cascade the freeze point fixes the GRID weights staged then, and moves nothing. -/
theorem exec_beamSwapFreeze_host {w : BeamSwap} (hw : s.beam.host = some w) (hi : s.beam.internal = none)
    (hf : w.frozen = none) (hc : s.inCascade = false) (ht : 20 * Config.us ≤ w.instant) :
    exec .beamSwapFreeze s = .next { s.advance (w.instant - 20 * Config.us) with beam := { s.beam with
      host := some { w with frozen := some s.beam.gridStaged } } } := by
  change execBeamSwapFreeze s = _
  have hus : Config.us ≤ w.instant := by
    simp only [Config.us] at ht ⊢
    omega
  have hnext : s.beam.nextSwap (fun x => x.frozen.isNone) = some (true, w) :=
    BeamUnit.nextSwap_host hw hi (by simp [hf])
  simp [execBeamSwapFreeze, hnext, hc, Nat.sub_add_cancel hus]

/-- The weights of an EXPLICIT beam: what the host loaded at a host swap, else as they are (R150, R153). -/
theorem State.swapWeights_explicit {b : Nat} (host : Bool) (basis : GridBasis) (h : (s.beam.defOf b).source = .explicit) :
    s.swapWeights host basis b =
      if host then (Tab.find? s.beam.next.loads b).getD (Tab.get s.beam.raw b (List.replicate 64 Cplx.zero))
      else Tab.get s.beam.raw b (List.replicate 64 Cplx.zero) := by
  simp only [State.swapWeights, h]

/-- Putting corrections in force changes of the beams the corrections alone, and leaves these as they are. -/
@[simp] theorem State.activateCorr_keeps :
    s.activateCorr.now = s.now ∧ s.activateCorr.path = s.path ∧ s.activateCorr.beam.host = s.beam.host ∧
    s.activateCorr.beam.internal = s.beam.internal ∧ s.activateCorr.beam.beams = s.beam.beams ∧
    s.activateCorr.beam.next = s.beam.next ∧ s.activateCorr.beam.following = s.beam.following ∧
    s.activateCorr.beam.bank = s.beam.bank ∧ s.activateCorr.beam.epoch = s.beam.epoch ∧
    s.activateCorr.beam.shift = s.beam.shift := by
  simp [State.activateCorr, apply_ite State.now, apply_ite State.path, apply_ite State.beam]

/-- Scaling the noise estimates leaves these as they are. -/
@[simp] theorem State.scaleNoise_keeps (old : State) (m : Mask64) :
    (s.scaleNoise old m).now = s.now ∧ (s.scaleNoise old m).path = s.path ∧ (s.scaleNoise old m).beam = s.beam := by
  unfold State.scaleNoise
  split <;> exact ⟨rfl, rfl, rfl⟩

/-- EV_BEAM_RENORM leaves these as they are. -/
@[simp] theorem State.renormEvents_keeps (m : Mask64) (short beam : Nat) :
    (s.renormEvents m short beam).now = s.now ∧ (s.renormEvents m short beam).path = s.path ∧
    (s.renormEvents m short beam).beam = s.beam := by
  unfold State.renormEvents
  split
  · exact ⟨rfl, rfl, rfl⟩
  · refine ⟨?_, ?_, ?_⟩
    · refine foldl_keeps State.now _ (fun _ _ => ?_) _ _
      simp
    · refine foldl_keeps State.path _ (fun _ _ => ?_) _ _
      simp
    · refine foldl_keeps State.beam _ (fun _ _ => ?_) _ _
      simp

/-- What a swap does to time, paths, and what is staged and counted (R151, R153, R154). -/
@[simp] theorem State.applySwap_activates (host : Bool) (cause t : Nat) (basis : GridBasis) :
    (s.applySwap host cause t basis).now = s.now ∧ (s.applySwap host cause t basis).path = s.path ∧
    (s.applySwap host cause t basis).beam.host = s.beam.host ∧
    (s.applySwap host cause t basis).beam.internal = s.beam.internal ∧
    (s.applySwap host cause t basis).beam.bank = 1 - s.beam.bank ∧
    (s.applySwap host cause t basis).beam.epoch = (s.beam.epoch + 1) % 256 ∧
    (s.applySwap host cause t basis).beam.next = (if host then s.beam.following else s.beam.next) ∧
    (s.applySwap host cause t basis).beam.following = (if host then {} else s.beam.following) ∧
    (s.applySwap host cause t basis).beam.shift = (if host then s.beam.next.shift.getD s.beam.shift else s.beam.shift) ∧
    (s.applySwap host cause t basis).beam.beams =
      (if host then s.beam.next.sources.foldl (fun u (p : Nat × BeamDef) => Tab.set u p.1 p.2) s.beam.beams
        else s.beam.beams) := by
  -- once the bank is in force, only corrections, noise estimates, the way of combining and events follow
  simp [State.applySwap, State.freeNoiseScale, apply_ite State.now, apply_ite State.path, apply_ite State.beam,
    apply_ite BeamUnit.host, apply_ite BeamUnit.internal, apply_ite BeamUnit.bank, apply_ite BeamUnit.epoch,
    apply_ite BeamUnit.next, apply_ite BeamUnit.following, apply_ite BeamUnit.shift, apply_ite BeamUnit.beams]

/-- A pending host swap with no internal one takes effect at its instant. -/
theorem exec_beamSwapApply_host {w : BeamSwap} (hw : s.beam.host = some w) (hi : s.beam.internal = none)
    (hr : s.isWorker = false) :
    exec .beamSwapApply s = .next (({ s.advance w.instant with beam := { s.beam with
      host := none } } : State).applySwap true w.cause w.instant (w.frozen.getD s.beam.gridStaged)) := by
  change execBeamSwapApply s = _
  have hnext : s.beam.nextSwap (fun _ => true) = some (true, w) := BeamUnit.nextSwap_host hw hi rfl
  have hworker : (s.advance w.instant).isWorker = false := hr
  simp [execBeamSwapApply, hnext, hworker, hw, hi]

/-- A pending internal swap with no host one takes effect at its instant. -/
theorem exec_beamSwapApply_internal {w : BeamSwap} (hw : s.beam.host = none) (hi : s.beam.internal = some w)
    (hr : s.isWorker = false) :
    exec .beamSwapApply s = .next (({ s.advance w.instant with beam := { s.beam with
      internal := none } } : State).applySwap false w.cause w.instant (w.frozen.getD s.beam.gridStaged)) := by
  change execBeamSwapApply s = _
  have hnext : s.beam.nextSwap (fun _ => true) = some (false, w) := BeamUnit.nextSwap_internal hw hi rfl
  have hworker : (s.advance w.instant).isWorker = false := hr
  simp [execBeamSwapApply, hnext, hworker, hw, hi]

end

/-! ### Adaptive updates (R148, R149) -/

section
variable {s : State}

/-- Where neither a host nor an internal swap is pending, an internal swap is scheduled on its own. -/
theorem State.internalSwap_free (hh : s.beam.host = none) (hi : s.beam.internal = none) (cause : Nat) :
    ∃ i, s.internalSwap cause =
      { s with beam := { s.beam with internal := some { instant := i, scheduled := false, cause := cause } } } := by
  simp only [State.internalSwap, State.internalSwapAt, hh, hi]
  exact ⟨_, rfl⟩

/-- A vector whose components fit 16 bits is left as it is. -/
theorem fitBeam_of_fits {w : List Cplx} (h : ∀ c ∈ w, c.i.natAbs ≤ 32767 ∧ c.q.natAbs ≤ 32767) :
    fitBeam w = (w, 0) := by
  have hmax : w.foldl (fun m c => Nat.max m (cplxPeak c)) 0 ≤ 32767 :=
    List.foldlRecOn w _ (motive := (· ≤ 32767)) (Nat.zero_le _)
      (fun _ hm c hc => Nat.max_le.mpr ⟨hm, Nat.max_le.mpr (h c hc)⟩)
  simp only [fitBeam, hmax, if_true]

/-- Reading 64 values from a vector of 64 gives the vector. -/
theorem map_getD_range {w : List Cplx} (h : w.length = 64) : (List.range 64).map (fun k => w.getD k Cplx.zero) = w := by
  refine List.ext_getElem (by simp [h]) fun k _ hk => ?_
  simp [hk]

/-- An update that has no solution keeps the weights, staged and in force; off a worker it raises an event at most (R149). -/
theorem exec_adaptiveSolveDone_held {t : Nat} {few ill : Bool} (sols : List (Nat × List Cplx)) (hf : (few || ill) = true)
    (hs : s.beam.solving = true) (hr : s.isWorker = false) :
    ∃ u x, exec (.adaptiveSolveDone t few ill sols) s = .next u ∧
      u.beam = { s.beam with solving := false, holdEventAt := x } ∧
      { u with beam := s.beam, evq := s.evq, now := s.now } = s := by
  change ∃ u x, execAdaptiveSolveDone t few ill sols s = .next u ∧ _
  have hworker : ∀ u, ({ s.advance t with beam := u } : State).isWorker = false := fun _ => hr
  have hsolving : (s.advance t).beam.solving = true := hs
  simp only [execAdaptiveSolveDone, hsolving, hf, Bool.not_true, Bool.false_eq_true, if_false, if_true]
  -- an event within the last second keeps this one back
  refine (Classical.em _).elim (fun told => ⟨_, s.beam.holdEventAt, if_pos told, rfl, rfl⟩)
    (fun told => ⟨_, some (Nat.max s.now t), if_neg told, by simp [State.adaptHold], ?_⟩)
  exact congrArg (fun x : State => { x with beam := s.beam, evq := s.evq, now := s.now })
    (State.raiseEvent_local _ (hworker _) _ _ _)

/-- A solution of one adaptive beam that fits is staged for an internal swap (R148). -/
theorem exec_adaptiveSolveDone_fits {t b : Nat} {w : List Cplx} (hs : s.beam.solving = true)
    (hb : s.beam.adaptive.contains b = true) (hlen : w.length = 64)
    (hw : ∀ c ∈ w, c.i.natAbs ≤ 32767 ∧ c.q.natAbs ≤ 32767) :
    exec (.adaptiveSolveDone t false false [(b, w)]) s = .next (({ s.advance t with beam := { s.beam with
      solving := false, adaptiveStaged := Tab.set s.beam.adaptiveStaged b w } } : State).internalSwap 2) := by
  change execAdaptiveSolveDone t false false [(b, w)] s = _
  have hkept : ∀ v, ({ s.beam with solving := v } : BeamUnit).adaptive.contains b = true := fun _ => hb
  simp only [execAdaptiveSolveDone, State.advance_frame, hs, hkept, map_getD_range hlen, fitBeam_of_fits hw,
    List.filter_cons, List.filter_nil, List.map_cons, List.map_nil, Bool.not_true, Bool.or_self, Bool.false_eq_true, if_false,
    if_true]
  rfl

end

/-- Settles O18: each command by the rule of its body above, a swap by what it activates, an update by its outcome. -/
theorem beamSwaps : Obligations.BeamSwaps := by
  unfold Obligations.BeamSwaps
  refine ⟨?_, ?_, ?_, ?_, ?_, ?_, ?_, ?_, ?_, ?_, ?_, ?_⟩
  · intro s r h hf ht hn
    exact ⟨_, rfl, runCommand_effect h (beamSwapBody_schedules hf ht hn)⟩
  · intro s r w h hf hw
    exact runCommand_status h (beamSwapBody_pending hf hw) (by decide)
  · intro s r w h hf hw hz hc
    exact runCommand_effect h (beamSwapBody_cancels hf hw hz hc)
  · intro s r h hf hw
    exact runCommand_status h (beamSwapBody_nothingToCancel hf hw) (by decide)
  · intro s w hw hi hf hc ht
    exact exec_beamSwapFreeze_host s hw hi hf hc ht
  · intro s w hw hi hr _
    exact ⟨_, exec_beamSwapApply_host s hw hi (State.isWorker_standalone hr), by simp⟩
  · intro s w hw hi hr _
    exact ⟨_, exec_beamSwapApply_internal s hw hi (State.isWorker_standalone hr), by simp⟩
  · intro s host basis b h
    exact s.swapWeights_explicit host basis h
  · intro s t t0 h
    exact exec_gridRecomputeDone_running h
  · intro s
    rfl
  · intro s t ill sols hs hr
    obtain ⟨u, x, hu, hbeam, hrest⟩ :=
      exec_adaptiveSolveDone_held (few := true) (ill := ill) sols rfl hs (State.isWorker_standalone hr)
    exact ⟨u, hu, by simp [hbeam], by simp [hbeam], by simp [hbeam], hrest⟩
  · intro s t b w hs hb hlen hw hh hi
    obtain ⟨i, hswap⟩ := State.internalSwap_free (s := { s.advance t with beam := { s.beam with
      solving := false, adaptiveStaged := Tab.set s.beam.adaptiveStaged b w } }) hh hi 2
    exact ⟨_, (exec_adaptiveSolveDone_fits hs hb hlen hw).trans (congrArg _ hswap), by simp, rfl, rfl, rfl⟩

end Sys2Proof.Machine
end

section
/-!
PROOFS. Packet records and the demodulator's commands (family 08): reading the fields of a byte string, the record of Table DMD-5
and its way into the pool, the response bodies, then the statements.
-/

namespace Sys2Proof

/-! ### Tables and masks -/

/-- A table lists the indices of its entries. -/
theorem Tab.isSome_find? {α : Type} (t : Tab α) (k : Nat) :
    (Tab.find? t k).isSome = decide (k ∈ t.map (fun p => p.1)) := by
  induction t with
  | nil => rfl
  | cons a r ih =>
    obtain ⟨j, v⟩ := a
    by_cases hj : j = k
    · simp [Tab.find?, hj]
    · simp [Tab.find?, hj, Ne.symm hj, ih]

/-- The one bit of `bitAt`. -/
theorem getLsbD_bitAt (w j k : Nat) : (bitAt w j).getLsbD k = (decide (k < w) && decide (k = j)) := by
  rw [bitAt, BitVec.getLsbD_ofNat, Nat.testBit_two_pow]
  simp only [eq_comm]

/-- The bits that a list of indices adds to a mask. -/
theorem getLsbD_foldl_bitAt {w : Nat} (ks : List Nat) (m : BitVec w) (k : Nat) :
    (ks.foldl (fun acc j => acc ||| bitAt w j) m).getLsbD k = (m.getLsbD k || (decide (k < w) && decide (k ∈ ks))) := by
  induction ks generalizing m with
  | nil => simp
  | cons j ks ih =>
    rw [List.foldl_cons, ih, BitVec.getLsbD_or, getLsbD_bitAt]
    simp only [List.mem_cons, Bool.decide_or, Bool.and_or_distrib_left, Bool.or_assoc]

/-- The bits of a mask of listed indices. -/
theorem getLsbD_maskOf (w : Nat) (ks : List Nat) (k : Nat) :
    (maskOf w ks).getLsbD k = (decide (k < w) && decide (k ∈ ks)) := by
  rw [maskOf, getLsbD_foldl_bitAt, BitVec.getLsbD_zero, Bool.false_or]

end Sys2Proof

namespace Sys2Proof.Machine

open Sys2Proof

/-! ### Fields of a byte string (R3)

A field is read by passing over the fields before it, whose lengths are known, until it stands at the front. -/

/-- A signed field has the length given. -/
@[simp] theorem length_leS (n : Nat) (v : Int) : (leS n v).length = n := length_le n _

/-- A saturating field has the length given. -/
@[simp] theorem length_leSat (n v : Nat) : (leSat n v).length = n := length_le n _

/-- A string cut or filled has the length given. -/
@[simp] theorem length_fit (n : Nat) (p : List Byte) : (fit n p).length = n := by
  simp [fit]

/-- A time stamp takes eight bytes. -/
@[simp] theorem State.length_ts64Bytes (s : State) (t : Nat) : (s.ts64Bytes t).length = 8 := by
  simp [State.ts64Bytes]

section
variable {l : List Byte} (p : List Byte) {o : Nat}

/-- A byte past the first field. -/
theorem u8_append_of_le (h : l.length ≤ o) : u8 (l ++ p) o = u8 p (o - l.length) := by
  obtain ⟨d, rfl⟩ := Nat.exists_eq_add_of_le h
  rw [u8_append, Nat.add_sub_cancel_left]

/-- A 16-bit field past the first field. -/
theorem u16_append_of_le (h : l.length ≤ o) : u16 (l ++ p) o = u16 p (o - l.length) := by
  simp only [u16, u8_append_of_le p h, u8_append_of_le p (Nat.le_succ_of_le h), Nat.succ_sub h]

/-- A 32-bit field past the first field. -/
theorem u32_append_of_le (h : l.length ≤ o) : u32 (l ++ p) o = u32 p (o - l.length) := by
  obtain ⟨d, rfl⟩ := Nat.exists_eq_add_of_le h
  rw [u32_append, Nat.add_sub_cancel_left]

/-- A string of bytes past the first field. -/
theorem bytesAt_append_of_le (h : l.length ≤ o) (n : Nat) : bytesAt (l ++ p) o n = bytesAt p (o - l.length) n := by
  refine List.map_congr_left fun k _ => ?_
  rw [List.getD_eq_getElem?_getD, List.getElem?_append_right (Nat.le_add_right_of_le h), Nat.sub_add_comm h,
    List.getD_eq_getElem?_getD]

/-- The bytes of the first field. -/
theorem bytesAt_front {n : Nat} (h : l.length = n) : bytesAt (l ++ p) 0 n = l := by
  subst h
  refine List.ext_getElem (by simp [bytesAt]) fun k _ hk => ?_
  simp [bytesAt, List.getElem?_append_left hk, List.getElem?_eq_getElem hk]

end

/-- A byte at the front. -/
theorem u8_le (v : Nat) (p : List Byte) : u8 (le 1 v ++ p) 0 = v % 256 := rfl

/-- A 16-bit field at the front. -/
theorem u16_le (v : Nat) (p : List Byte) : u16 (le 2 v ++ p) 0 = v % 65536 := by
  simp only [u16, u8, le, List.cons_append, List.nil_append, List.getD_cons_zero, List.getD_cons_succ,
    BitVec.toNat_ofNat, Nat.zero_add]
  omega

/-- The angle that Table DMD-5 gives for absent, at the front. -/
theorem u16_absentAngle (p : List Byte) : u16 (leS 2 (-32768) ++ p) 0 = 0x8000 := u16_le _ p

/-- The sigma that Table DMD-5 gives for absent, at the front. -/
theorem u16_absentSigma (p : List Byte) : u16 (leSat 2 0xFFFF ++ p) 0 = 0xFFFF := u16_le _ p

/-- A byte of a field. -/
theorem u8_le_get {n k : Nat} (v : Nat) (h : k < n) (p : List Byte) : u8 (le n v ++ p) k = v / 256 ^ k % 256 := by
  induction n generalizing v k with
  | zero => exact absurd h (Nat.not_lt_zero k)
  | succ n ih =>
    cases k with
    | zero => rw [Nat.pow_zero, Nat.div_one]; rfl
    | succ k =>
      rw [Nat.pow_succ', ← Nat.div_div_eq_div_mul]
      exact ih (v / 256) (Nat.lt_of_succ_lt_succ h)

/-- A bit of a field, by its byte. -/
theorem testBit_u8_le {n c : Nat} (v : Nat) (h : c / 8 < n) (p : List Byte) :
    (u8 (le n v ++ p) (c / 8)).testBit (c % 8) = v.testBit c := by
  rw [u8_le_get v h, show (256 : Nat) = 2 ^ 8 from rfl, ← Nat.pow_mul, Nat.testBit_mod_two_pow, Nat.testBit_div_two_pow,
    decide_eq_true (Nat.mod_lt c (by decide)), Bool.true_and, Nat.mod_add_div]

/-- An entry of a table of entries of one length. -/
theorem bytesAt_flatMap {α : Type} {f : α → List Byte} {c : Nat} (h : ∀ a, (f a).length = c) (l : List α) (p : List Byte)
    {n : Nat} (hn : n < l.length) : bytesAt (l.flatMap f ++ p) (c * n) c = f l[n] := by
  induction l generalizing n with
  | nil => exact absurd hn (Nat.not_lt_zero n)
  | cons a l ih =>
    rw [List.flatMap_cons, List.append_assoc]
    cases n with
    | zero => exact bytesAt_front _ (h a)
    | succ n =>
      rw [bytesAt_append_of_le _ (by rw [h, Nat.mul_succ]; exact Nat.le_add_left _ _), h, Nat.mul_succ, Nat.add_sub_cancel]
      exact ih (Nat.lt_of_succ_lt_succ hn)

/-! ### The record of a reception (Tables DMD-5 and DMD-6) -/

section
variable (s : State) (e : Ended) (b : BackEnd) {st : Nat} {h : PhrInfo}

/-- Bit 0 of FLAGS says that the signature is held: without it FLAGS is even. -/
theorem State.recordFlags_unsigned : s.recordFlags e false b % 2 = 0 := by
  have even_ite {c : Prop} [Decidable c] {n : Nat} (hn : 2 ∣ n) : 2 ∣ (if c then n else 0) := by
    split
    · exact hn
    · exact Nat.dvd_zero 2
  refine Nat.mod_eq_zero_of_dvd ?_
  simp only [State.recordFlags, Bool.false_eq_true, if_false, Nat.zero_add]
  repeat' apply Nat.dvd_add
  all_goals exact even_ite (by decide)

/-- The length of a record: 96 bytes and its PSDU, padded to a multiple of 8. -/
theorem State.length_packetRecord (hp : e.ctx.phr = some h) :
    (s.packetRecord e st b).length = 96 + (if st ≤ 1 then (h.length + 7) / 8 * 8 else 0) := by
  unfold State.packetRecord
  simp only [hp, Option.getD_some, List.length_append, length_le, length_leS, length_leSat, length_zeros,
    State.length_ts64Bytes]
  by_cases hs : st ≤ 1
  · simp only [hs, decide_true, if_true, length_fit]
    omega
  · simp [hs]

/-- RECORD_LENGTH is the length of the record. -/
theorem State.packetRecord_recordLength :
    u16 (s.packetRecord e st b) 0 = (s.packetRecord e st b).length % 65536 := by
  unfold State.packetRecord
  simp only [List.append_assoc, u16_le]
  simp only [List.length_append, length_le, length_leS, length_leSat, length_zeros, State.length_ts64Bytes]
  omega

/-- The fields of a record that stand before its RF fields. -/
theorem State.packetRecord_identity (hp : e.ctx.phr = some h) :
    u8 (s.packetRecord e st b) 2 = 1 ∧ u8 (s.packetRecord e st b) 3 = st % 256 ∧
    u32 (s.packetRecord e st b) 4 = s.dmd.sequence % 2 ^ 32 ∧ bytesAt (s.packetRecord e st b) 8 8 = s.ts64Bytes e.ctx.toa ∧
    u16 (s.packetRecord e st b) 0x14 = e.number % 65536 ∧ u8 (s.packetRecord e st b) 0x16 = e.ctx.profileIx % 256 ∧
    u8 (s.packetRecord e st b) 0x17 = e.ctx.beam % 256 ∧ u16 (s.packetRecord e st b) 0x18 = e.ctx.bin % 65536 ∧
    u16 (s.packetRecord e st b) 0x1A = h.length % 65536 := by
  unfold State.packetRecord
  simp only [hp, Option.getD_some, List.append_assoc]
  simp [u8_append_of_le, u16_append_of_le, u32_append_of_le, bytesAt_append_of_le, u8_le, u16_le, u32_le, bytesAt_front]

/-- The PSDU of a record, with the reserved bytes before it. -/
theorem State.packetRecord_psdu (hp : e.ctx.phr = some h) :
    bytesAt (s.packetRecord e st b) 0x50 16 = zeros 16 ∧
    (st ≤ 1 → bytesAt (s.packetRecord e st b) 0x60 h.length = fit h.length b.psdu) := by
  unfold State.packetRecord
  simp only [hp, Option.getD_some, List.append_assoc]
  refine ⟨?_, fun hs => ?_⟩
  · simp [bytesAt_append_of_le, bytesAt_front]
  · simp [bytesAt_append_of_le, bytesAt_front, hs]

/-- Without status OK the angles and their sigmas are absent, and so is the signature. -/
theorem State.packetRecord_noAngles (hs : st ≠ 0) :
    u16 (s.packetRecord e st b) 0x2C = 0x8000 ∧ u16 (s.packetRecord e st b) 0x2E = 0x8000 ∧
    u16 (s.packetRecord e st b) 0x30 = 0xFFFF ∧ u16 (s.packetRecord e st b) 0x32 = 0xFFFF ∧
    u8 (s.packetRecord e st b) 0x40 % 2 = 0 := by
  unfold State.packetRecord
  simp only [beq_eq_false_iff_ne.mpr hs, Bool.false_eq_true, if_false, Bool.false_and, List.append_assoc]
  simp [u8_append_of_le, u16_append_of_le, u16_absentAngle, u16_absentSigma, u8_le_get, State.recordFlags_unsigned]

end

/-! ### The way of a record into the pool (R218, R219) -/

/-- A record of the next SEQUENCE stands in the pool, in memory and in the list of its records (R218). -/
def State.pooled (s : State) (x : List Byte) : State :=
  { s.writePool s.dmd.poolNext x with dmd := { s.dmd with
    sequence := wrapAdd 32 s.dmd.sequence 1
    pool := s.dmd.pool ++ [(s.dmd.poolNext, x)]
    poolNext := (s.dmd.poolNext + x.length) % poolSize } }

section
variable (s : State)

/-- A record in the pool: SEQUENCE, the list of records and the counters. -/
theorem State.pooled_dmd (x : List Byte) :
    (s.pooled x).dmd.sequence = wrapAdd 32 s.dmd.sequence 1 ∧
    (s.pooled x).dmd.pool = s.dmd.pool ++ [(s.dmd.poolNext, x)] ∧ (s.pooled x).dmd.counts = s.dmd.counts := ⟨rfl, rfl, rfl⟩

/-- A record in the pool brings no port up. -/
theorem State.pooled_firstPort (x : List Byte) : (s.pooled x).firstPort = s.firstPort := rfl

/-- Reporting lost records leaves the memory, the pool, SEQUENCE and the counters as they are. -/
@[simp] theorem State.recordLost_keeps :
    s.recordLost.mem = s.mem ∧ s.recordLost.dmd.pool = s.dmd.pool ∧ s.recordLost.dmd.sequence = s.dmd.sequence ∧
    s.recordLost.dmd.counts = s.dmd.counts := by
  cases hl : s.dmd.lostAt with
  | none => simp [State.recordLost, hl]
  | some a => by_cases hd : a + Config.sec ≤ s.now <;> simp [State.recordLost, hl, hd]

/-- Taking records out of the pool leaves SEQUENCE as it is. -/
theorem State.pullRecords_sequence (n : Nat) : (State.pullRecords n s).dmd.sequence = s.dmd.sequence := by
  induction n generalizing s with
  | zero => rfl
  | succ n ih =>
    unfold State.pullRecords
    split
    · dsimp only
      split
      · exact ih _
      · rfl
    · rfl

/-- Without a port that is up no record leaves the pool. -/
theorem State.pull_noPort (h : s.firstPort = none) : s.pull = s := by
  unfold State.pull
  cases s.dmd.pool.length with
  | zero => rfl
  | succ n => simp [State.pullRecords, h]

variable {s} {e : Ended} {b : BackEnd} {st : Nat}

/-- A record that the pool cannot take is counted and reported. -/
theorem State.produceRecord_full (h : s.poolFree < (s.packetRecord e st b).length) :
    s.produceRecord e st b = (({ s with dmd := { s.dmd with sequence := wrapAdd 32 s.dmd.sequence 1 } } : State).dmdCount
      e.ctx.profileIx (fun n => { n with poolFull := wrapAdd 32 n.poolFull 1 })).recordLost := by
  unfold State.produceRecord
  exact if_pos h

/-- A record that the pool can take goes to it, and leaves it at once where a port is up. -/
theorem State.produceRecord_fits (h : (s.packetRecord e st b).length ≤ s.poolFree) :
    s.produceRecord e st b = (s.pooled (s.packetRecord e st b)).pull := by
  unfold State.produceRecord
  exact if_neg (Nat.not_lt.mpr h)

/-- Every record takes the next SEQUENCE, whether the pool takes it or not. -/
theorem State.produceRecord_sequence : (s.produceRecord e st b).dmd.sequence = (s.dmd.sequence + 1) % 2 ^ 32 := by
  rcases Nat.lt_or_ge s.poolFree (s.packetRecord e st b).length with h | h
  · simp only [State.produceRecord_full h, State.recordLost_keeps, State.dmdCount, wrapAdd]
  · rw [State.produceRecord_fits h, State.pull, State.pullRecords_sequence]
    exact (s.pooled_dmd _).1

/-- A record that the pool cannot take is written nowhere; POOL_FULL counts it. -/
theorem State.produceRecord_lost (h : s.poolFree < (s.packetRecord e st b).length) :
    (s.produceRecord e st b).mem = s.mem ∧ (s.produceRecord e st b).dmd.pool = s.dmd.pool ∧
    (Tab.get (s.produceRecord e st b).dmd.counts e.ctx.profileIx {}).poolFull =
      wrapAdd 32 (Tab.get s.dmd.counts e.ctx.profileIx {}).poolFull 1 := by
  rw [State.produceRecord_full h]
  simp [State.dmdCount]

/-- With no port up, a record that the pool can take is its last. -/
theorem State.produceRecord_pooled (h : (s.packetRecord e st b).length ≤ s.poolFree) (hp : s.firstPort = none) :
    (s.produceRecord e st b).dmd.pool = s.dmd.pool ++ [(s.dmd.poolNext, s.packetRecord e st b)] ∧
    (s.produceRecord e st b).dmd.counts = s.dmd.counts := by
  rw [State.produceRecord_fits h, State.pull_noPort _ ((s.pooled_firstPort _).trans hp)]
  exact (s.pooled_dmd _).2

end

/-! ### RECORD_COMPLETE (R213, R214, R218) -/

section
variable {s : State} {e : Ended} {b : BackEnd} (t : Nat)

/-- The FCS passes: RECORDS_OK, and a record of status 0. -/
theorem exec_recordComplete_ok (he : s.dmd.ended = [e]) (hs : e.status = 0) (hf : b.fcsOk = true) :
    exec (.recordComplete t e.order b) s =
      .next ((({ s.advance t with dmd := { s.dmd with ended := [] } } : State).dmdCount e.ctx.profileIx
        (fun n => { n with ok := wrapAdd 32 n.ok 1 })).produceRecord e 0 b) := by
  change execRecordComplete t e.order b s = _
  simp [execRecordComplete, he, hs, hf]

/-- The FCS fails: FCS_FAIL, and a record of status 1 where REPORT bit 0 asks for it. -/
theorem exec_recordComplete_fcsFail (he : s.dmd.ended = [e]) (hs : e.status = 0) (hf : b.fcsOk = false) {u : State}
    (hu : u = ({ s.advance t with dmd := { s.dmd with ended := [] } } : State).dmdCount e.ctx.profileIx
      (fun n => { n with fcsFail := wrapAdd 32 n.fcsFail 1 })) :
    exec (.recordComplete t e.order b) s =
      .next (if e.ctx.control.report.getLsbD 0 = true then u.produceRecord e 1 b else u) := by
  change execRecordComplete t e.order b s = _
  simp [execRecordComplete, he, hs, hf, hu]

/-- A reception that ended CAPTURED or LOST_SYNC: its record, whatever the FCS. -/
theorem exec_recordComplete_cutShort (he : s.dmd.ended = [e]) (hs : e.status ≠ 0) :
    exec (.recordComplete t e.order b) s =
      .next (({ s.advance t with dmd := { s.dmd with ended := [] } } : State).produceRecord e e.status b) := by
  change execRecordComplete t e.order b s = _
  simp [execRecordComplete, he, hs]

/-- No reception waits for its record. -/
theorem exec_recordComplete_none (n : Nat) (he : s.dmd.ended = []) :
    exec (.recordComplete t n b) s = .next (s.advance t) := by
  change execRecordComplete t n b s = _
  simp [execRecordComplete, he]

end

/-- Settles O25: the record by its length and fields, the pool by the two cases of its room, RECORD_COMPLETE by its rules. -/
theorem packetRecords : Obligations.PacketRecords := by
  unfold Obligations.PacketRecords
  refine ⟨?_, ?_, ?_, ?_, ?_, ?_, ?_⟩
  · intro s e st b h hp hlen
    have hsize := s.length_packetRecord e b (st := st) hp
    have hmax : (s.packetRecord e st b).length ≤ 2144 := by
      rw [hsize]
      split <;> omega
    obtain ⟨hver, hst, hseq, htoa, hctx, hprof, hbeam, hbin, hlen'⟩ := s.packetRecord_identity e b (st := st) hp
    obtain ⟨hres, hpsdu⟩ := s.packetRecord_psdu e b (st := st) hp
    refine ⟨hsize, hmax, ?_, hver, hst, hseq, htoa, hctx, hprof, hbeam, hbin, ?_, hres, hpsdu⟩
    · rw [State.packetRecord_recordLength]
      exact Nat.mod_eq_of_lt (by omega)
    · rw [hlen']
      exact Nat.mod_eq_of_lt (by omega)
  · exact fun s e st b hs => s.packetRecord_noAngles e b hs
  · exact fun s e st b => ⟨State.produceRecord_sequence, State.produceRecord_lost, State.produceRecord_pooled⟩
  · exact fun s t e b he hs hf => ⟨_, rfl, exec_recordComplete_ok t he hs hf⟩
  · exact fun s t e b he hs hf => ⟨_, rfl, exec_recordComplete_fcsFail t he hs hf rfl⟩
  · exact fun s t e b he hs => exec_recordComplete_cutShort t he hs
  · exact fun s t n b he => exec_recordComplete_none t n he

/-! ### The demodulator's commands (R222, R223) -/

section
variable {s : State} {r : Running}

/-- DMD_SET_CONTROL with valid settings: they wait for the next epoch boundary. -/
theorem setControlBody_valid (h0 : u8 r.cmd.payload 0 ≤ 7) (hlo : 16 ≤ u16 r.cmd.payload 2) (hhi : u16 r.cmd.payload 2 ≤ 8000)
    (hf : u8 r.cmd.payload 4 = 2 ∨ u8 r.cmd.payload 4 = 4) (hl : 8 ≤ u8 r.cmd.payload 5) :
    setControlBody r s = .ok { s with dmd := { s.dmd with
      waiting := Tab.set s.dmd.waiting (u8 r.cmd.payload 0) (parseControl r.cmd.payload) } } [] := by
  simp [setControlBody, inRange, h0, hlo, hhi, hf, hl]

/-- DMD_SET_CONTROL outside the ranges of Table DMD-11. -/
theorem setControlBody_badParam
    (h : 7 < u8 r.cmd.payload 0 ∨ u16 r.cmd.payload 2 < 16 ∨ 8000 < u16 r.cmd.payload 2 ∨
      (u8 r.cmd.payload 4 ≠ 2 ∧ u8 r.cmd.payload 4 ≠ 4) ∨ u8 r.cmd.payload 5 < 8) :
    setControlBody r s = .status s Status.badParam := by
  refine if_neg ?_
  simp only [inRange, Bool.and_eq_true, Bool.or_eq_true, decide_eq_true_eq, beq_iff_eq]
  omega

/-- DMD_GET_CONTROL of a profile. -/
theorem getControlBody_profile (h : u8 r.cmd.payload 0 ≤ 7) :
    getControlBody r s = .ok s
      (le 1 (u8 r.cmd.payload 0) ++ le 1 (Tab.get s.dmd.controls (u8 r.cmd.payload 0) {}).report.toNat ++
        le 2 (Tab.get s.dmd.controls (u8 r.cmd.payload 0) {}).sfdWindow ++
        le 1 (Tab.get s.dmd.controls (u8 r.cmd.payload 0) {}).fcsLen ++
        le 1 (Tab.get s.dmd.controls (u8 r.cmd.payload 0) {}).lossSymbols ++ [0#8, 0#8]) :=
  if_neg (Nat.not_lt.mpr h)

/-- The counters of one profile take 64 bytes. -/
theorem DmdCounts.length_bytes (c : DmdCounts) : c.bytes.length = 0x40 := by
  simp only [DmdCounts.bytes, List.length_append, length_le, length_zeros]

/-- The response of DMD_GET_COUNTERS (Table DMD-9). -/
def State.dmdCounters (s : State) : List Byte :=
  (List.range 8).flatMap (fun n => (Tab.get s.dmd.counts n {}).bytes) ++ (le 4 s.dmd.sequence ++ le 4 s.poolFree)

/-- DMD_GET_COUNTERS answers Table DMD-9 and clears the counters where the host asks for it. -/
theorem dmdCountersBody_eq :
    dmdCountersBody r s =
      .ok (if u8 r.cmd.payload 0 % 2 = 1 then { s with dmd := { s.dmd with counts := [] } } else s) s.dmdCounters := by
  simp only [dmdCountersBody, State.dmdCounters, List.flatMap_def, List.append_assoc]

/-- The counters of Table DMD-9 take 512 bytes. -/
theorem State.length_dmdCounters_profiles (s : State) :
    ((List.range 8).flatMap (fun n => (Tab.get s.dmd.counts n {}).bytes)).length = 0x200 := by
  rw [length_flatMap_of_forall (fun n => DmdCounts.length_bytes _), List.length_range]

/-- The free bytes of the pool fit their field. -/
theorem State.poolFree_lt (s : State) : s.poolFree < 2 ^ 32 :=
  Nat.lt_of_le_of_lt (Nat.sub_le _ _) (by decide)

/-- The fields of Table DMD-9. -/
theorem State.dmdCounters_fields (s : State) :
    s.dmdCounters.length = 0x208 ∧
    (∀ n : Fin 8, bytesAt s.dmdCounters (0x40 * n) 0x40 = (Tab.get s.dmd.counts n {}).bytes) ∧
    u32 s.dmdCounters 0x200 = s.dmd.sequence % 2 ^ 32 ∧ u32 s.dmdCounters 0x204 = s.poolFree := by
  have hlen := s.length_dmdCounters_profiles
  refine ⟨?_, fun n => ?_, ?_, ?_⟩
  · rw [State.dmdCounters, List.length_append, hlen, List.length_append, length_le, length_le]
  · rw [State.dmdCounters, bytesAt_flatMap (fun _ => DmdCounts.length_bytes _) _ _ (by simp), List.getElem_range]
  · rw [State.dmdCounters, u32_append_of_le _ (Nat.le_of_eq hlen), hlen]
    exact u32_le _ _
  · rw [State.dmdCounters, u32_append_of_le _ (by rw [hlen]; decide), hlen]
    exact (u32_le s.poolFree []).trans (Nat.mod_eq_of_lt s.poolFree_lt)

/-- The map of contexts shows the contexts that the table lists, which are those not FREE. -/
theorem State.testBit_contextMap (s : State) (c : Fin 1024) :
    s.contextMap.toNat.testBit c = (Tab.find? s.dmd.contexts c).isSome := by
  rw [BitVec.testBit_toNat, State.contextMap, getLsbD_maskOf, Tab.isSome_find?, decide_eq_true c.isLt, Bool.true_and]

end

/-- Settles O26: each command by the rule of its body above, and its response by its fields. -/
theorem demodulationCommands : Obligations.DemodulationCommands := by
  unfold Obligations.DemodulationCommands
  refine ⟨?_, ?_, ?_, ?_, ?_⟩
  · exact fun s r h h0 hlo hhi hf hl => runCommand_effect h (setControlBody_valid h0 hlo hhi hf hl)
  · exact fun s r h hbad => runCommand_status h (setControlBody_badParam hbad) (by decide)
  · exact fun s r h h0 => runCommand_effect h (getControlBody_profile h0)
  · exact fun s r h => ⟨s.dmdCounters, runCommand_effect h dmdCountersBody_eq, s.dmdCounters_fields⟩
  · intro s r h
    refine ⟨_, runCommand_effect h rfl, ?_, fun c => ?_⟩
    · rw [List.length_append, length_le, List.length_map, List.length_range]
    · rw [testBit_u8_le _ (by omega), State.testBit_contextMap]

end Sys2Proof.Machine
end

section
/-!
PROOFS. Transmit requests (family 09): when an admission ends the device's time in RX, and the state that refutes the
statement.
-/

namespace Sys2Proof.Machine

open Sys2Proof

/-! ### Admission (R94, R231) -/

section
variable {s : State} {r : Running}

/-- A device in RX that makes for another state ends its time in RX. -/
theorem State.pursue_path_fromRx (hm : s.radio.moving = none) (hs : s.radio.state = .rx) (hg : s.radioGoal ≠ .rx) :
    s.pursue.path = s.path.leaveRx s.now := by
  simp only [State.pursue, hm, hs, Ne.symm hg, Option.isSome_none, Bool.false_eq_true, if_false, if_true]
  split
  · simp
  · rfl

/-- Where no launch keeps a device for TX (R94), one in RX with the base state LO_READY makes for LO_READY: its time in RX
ends. -/
theorem State.lingerCheck_path_fromRx (hw : s.radio.wantTx = true) (hl : s.radio.lingerFrom = none)
    (hq : s.serving = false) (hm : s.radio.moving = none) (hs : s.radio.state = .rx) (hb : s.radio.base = .loReady) :
    s.lingerCheck.path = s.path.leaveRx s.now := by
  simp only [State.lingerCheck, hw, hl, hq, Bool.not_true, Bool.or_self, Bool.false_eq_true, if_false]
  exact State.pursue_path_fromRx hm hs (by simp [State.radioGoal, hb])

/-- Admitting a request leaves the straps as they are. -/
theorem State.enqueueLaunch_boot (b : Launch) : (s.enqueueLaunch b).boot = s.boot := by
  simp [State.enqueueLaunch, State.lingerCheck, State.holdSigs, apply_ite State.boot]

/-- TX_SUBMIT of a request that fails no check of Table TX-3. -/
theorem exec_txSubmit_admitted {q : TxRequest} {b : Launch} (h : Runs s r specTxSubmit) (hr : s.role = .standalone)
    (hp : parseRequest false 1 r.cmd.payload = some q)
    (ha : s.admissionChecks (s.candidateLaunch q .mailbox) r.reached = (none, b)) :
    exec .txSubmit s = .next (s.close specTxSubmit r (.ok (s.enqueueLaunch b)
      (le 4 q.id ++ le 1 1 ++ le 1 0xFF ++ le 1 0xFF ++ zeros 1 ++ s.ts64Bytes (s.launchAt b + 2 * b.tr + b.frame)))) := by
  change runCommand specTxSubmit txSubmitBody s = _
  refine runCommand_effect h ?_
  have hlen : s.chainLength = 1 := by simp [State.chainLength, hr]
  have hrole : (s.enqueueLaunch b).role = s.role := State.role_congr (State.enqueueLaunch_boot b)
  simp [txSubmitBody, State.admitRequest, hlen, hp, ha, State.relayLaunch, hrole, hr]

/-- The answer of TX_SUBMIT leaves the paths as admission has left them: the command is never relayed. -/
theorem close_txSubmit_path (t : State) (p : List Byte) : (s.close specTxSubmit r (.ok t p)).path = t.path := by
  have halone : s.relayTargets specTxSubmit r = [] := by simp [State.relayTargets, specTxSubmit]
  rw [close_alone halone rfl]
  exact (congrArg State.path (respond_frame t r ⟨Status.ok, p⟩) :)

end

/-! ### An admission that ends the time in RX -/

/-- A request of Table TX-1 for a launch at 1 s: 2-FSK at 50 kb/s, no PSDU, one EXPLICIT beam of zeros. -/
def silentRequest : TxRequest :=
  { id := 7, coexPri := false, outcomeEvent := false, fcs4 := false, whiten := false, fec := false, interleave := false
    launchS := 1, launchN := 0, tolUs := 0, phy := 0, mode := 4, submode := 0, scheme := 0, modIndex := 100, preamble := 4
    sfd := 0, centre := 915000000, psdu := []
    beams := [{ kind := .explicit, level := -4000, index := 0, vector := List.replicate 64 Cplx.zero }] }

/-- The payload of TX_SUBMIT for that request. -/
def silentPayload : List Byte :=
  le 4 7 ++ le 2 0x140 ++ [1#8, 0#8] ++ le 8 1 ++ le 2 0 ++ [0#8, 4#8, 0#8, 0#8] ++ le 2 100 ++ le 2 4 ++ le 2 0 ++
    le 4 915000000 ++ le 2 0 ++ le 2 1 ++ le 2 0x140 ++ zeros 10 ++ le 2 3 ++ leS 2 (-4000) ++
    le 2 0 ++ le 2 0x40 ++ zeros 264

/-- TX_SUBMIT with that payload, taken from MBX0. -/
def submitSilent : Running :=
  { mbx := 0, order := 0, reached := 0
    cmd := { opcode := 0x0701, tag := 1, flags := 0, length := 320, target := 0, payload := silentPayload } }

/-- A device at 915 MHz in RX whose base state is LO_READY, which is to serve launches and has no transition in progress. Its
transmit corrections are unity. -/
def strandedInRx : State :=
  { path := { rxSince := some 0 }
    beam := { txCorr := (List.range 64).map (fun p => (p, ⟨16384, 0⟩)) }
    radio := { state := .rx, base := .loReady, wantTx := true
               syn := [(0, { loop := .locked, setting := some { freqHz := 915000000, divider := 4, fcw := 0x17D40000 } })] }
    tx := { record := some (1, [{ chLow := 902000000, chHigh := 928000000, loLowKHz := 900000, loHighKHz := 930000
                                  maxLevel := 0, dutyMax := 1000, windowS := 10, minOffUs := 0 }]) }
    time := { state := .valid }
    cmd := { running := [submitSilent] } }

/-- The launch that admission makes of the request. -/
def silentLaunch : Launch :=
  { strandedInRx.candidateLaunch silentRequest .mailbox with subband := 0, margin := 32767, dutyUsed := 2 }

/-- Table TX-1 reads the payload as the request. -/
theorem parseRequest_silentPayload : parseRequest false 1 silentPayload = some silentRequest := by decide +kernel

/-- The request fails no check of Table TX-3. -/
theorem admissionChecks_silentRequest :
    strandedInRx.admissionChecks (strandedInRx.candidateLaunch silentRequest .mailbox) 0 = (none, silentLaunch) := by
  decide +kernel

/-- Admitting the request ends the device's time in RX: the launch is far off and does not keep the device for TX. -/
theorem enqueueLaunch_silentLaunch_path :
    (strandedInRx.enqueueLaunch silentLaunch).path = strandedInRx.path.leaveRx strandedInRx.now :=
  State.lingerCheck_path_fromRx rfl rfl (by decide +kernel) rfl rfl rfl

/-- Refutes O27: the clause on an admitted request keeps the paths as they are in every state, but admission also looks
whether the device is still to be in TX (R94). `strandedInRx` stands away from its goal with no transition in progress; the
admitted launch is far off, so the device makes for LO_READY and its time in RX ends. -/
theorem not_transmitRequests : ¬ Obligations.TransmitRequests := by
  unfold Obligations.TransmitRequests
  rintro ⟨-, -, -, -, -, -, hadmitted, -⟩
  have hruns : Runs strandedInRx submitSilent specTxSubmit := by decide +kernel
  obtain ⟨t, ht, -, -, -, hpath, -⟩ :=
    hadmitted _ _ _ _ hruns rfl parseRequest_silentPayload admissionChecks_silentRequest
  have hu := exec_txSubmit_admitted hruns rfl parseRequest_silentPayload admissionChecks_silentRequest
  have hclose := congrArg State.path (Host.Outcome.next.inj (ht.symm.trans hu))
  rw [close_txSubmit_path, close_txSubmit_path, hpath, enqueueLaunch_silentLaunch_path] at hclose
  exact absurd hclose (by decide)

end Sys2Proof.Machine
end

section
/-!
PROOFS. Aerials and tuners (family 10): the mismatch states, what a judgement and a retirement do, the tuning window and its
commands, the RFFE buses, then the statement.
-/

namespace Sys2Proof

/-! ### Tables -/

/-- Looking up after a change of every listed value. -/
@[simp] theorem Tab.find?_mapVals {α : Type} (t : Tab α) (f : Nat → α → α) (k : Nat) :
    Tab.find? (t.mapVals f) k = (Tab.find? t k).map (f k) := by
  induction t with
  | nil => rfl
  | cons a r ih =>
    obtain ⟨j, v⟩ := a
    by_cases hj : j = k
    · subst hj
      simp [Tab.mapVals, Tab.find?]
    · simpa [Tab.mapVals, Tab.find?, hj] using ih

/-- A change that leaves every value as it is. -/
theorem Tab.mapVals_id {α : Type} (t : Tab α) : t.mapVals (fun _ v => v) = t := List.map_id' t

/-- A table of one value for each listed index. -/
theorem Tab.find?_map_pair {α : Type} (f : Nat → α) {ks : List Nat} {k : Nat} (h : k ∈ ks) :
    Tab.find? (ks.map (fun j => (j, f j))) k = some (f k) := by
  induction ks with
  | nil => simp at h
  | cons j ks ih =>
    by_cases hj : j = k
    · simp [Tab.find?, hj]
    · simpa [Tab.find?, hj] using ih ((List.mem_cons.mp h).resolve_left (Ne.symm hj))

end Sys2Proof

namespace Sys2Proof.Machine

open Sys2Proof

/-! ### Mismatch states (R268, Table DPD-1) -/

/-- A judgement moves by at most one state. -/
theorem Mismatch.judge_oneStep (m : Mismatch) (rl : Int) :
    (m.judge rl).code ≤ m.code + 1 ∧ m.code ≤ (m.judge rl).code + 1 := by
  cases m with
  | retired => exact ⟨Nat.le_succ _, Nat.le_succ _⟩
  | normal | warn | derate =>
    simp only [Mismatch.judge]
    repeat' split
    all_goals decide

/-- NORMAL ends below 9.5 dB. -/
theorem Mismatch.judge_normal (rl : Int) : Mismatch.judge .normal rl = .warn ↔ rl < 950 := by
  simp [Mismatch.judge]

/-- WARN ends below 6.0 dB, and at 10.5 dB or above. -/
theorem Mismatch.judge_warn (rl : Int) :
    (Mismatch.judge .warn rl = .derate ↔ rl < 600) ∧ (Mismatch.judge .warn rl = .normal ↔ 1050 ≤ rl) := by
  simp only [Mismatch.judge]
  by_cases hlow : rl < 600
  · simp only [hlow, if_true, reduceCtorEq, false_iff, true_and]
    omega
  · by_cases hhigh : 1050 ≤ rl <;> simp only [hlow, hhigh, if_true, if_false, reduceCtorEq, and_self]

/-- DERATE ends below 3.5 dB, and at 7.0 dB or above. -/
theorem Mismatch.judge_derate (rl : Int) :
    (Mismatch.judge .derate rl = .retired ↔ rl < 350) ∧ (Mismatch.judge .derate rl = .warn ↔ 700 ≤ rl) := by
  simp only [Mismatch.judge]
  by_cases hlow : rl < 350
  · simp only [hlow, if_true, reduceCtorEq, false_iff, true_and]
    omega
  · by_cases hhigh : 700 ≤ rl <;> simp only [hlow, hhigh, if_true, if_false, reduceCtorEq, and_self]

/-! ### What the shared operations do to paths -/

section
variable (s : State)

/-- In DERATE a path has 6 dB on top of its base attenuation, at most 15 (R269). -/
theorem State.attenAfter_derate (p : Nat) : s.attenAfter p true = min 15 (s.attenAfter p false + 6) := rfl

/-- Changing a path changes it alone. -/
@[simp] theorem State.setDpd_path (p q : Nat) (f : DpdPath → DpdPath) :
    (s.setDpd p f).dpd.path q = if q = p then f (s.dpd.path p) else s.dpd.path q := by
  simp [State.setDpd, Dpd.path]

/-- The paths of the mask lose their captures, and nothing else of a path changes (R263). -/
@[simp] theorem State.discardCaptures_path (m : Mask64) (q : Nat) :
    (s.discardCaptures m).dpd.path q =
      if m.getLsbD q then { s.dpd.path q with captures := 0 } else s.dpd.path q := by
  simp only [State.discardCaptures, Dpd.path, Tab.get, Tab.find?_mapVals]
  cases Tab.find? s.dpd.paths q <;> cases m.getLsbD q <;> rfl

/-- Discarding captures changes the paths of the pre-distorter alone. -/
@[simp] theorem State.discardCaptures_keeps (m : Mask64) :
    (s.discardCaptures m).now = s.now ∧ (s.discardCaptures m).path = s.path ∧ (s.discardCaptures m).spare = s.spare ∧
    (s.discardCaptures m).tx = s.tx ∧ (s.discardCaptures m).beam = s.beam ∧
    (s.discardCaptures m).burstInProgress = s.burstInProgress := ⟨rfl, rfl, rfl, rfl, rfl, rfl⟩

/-- A burst in progress stands in the transmit queue. -/
theorem State.burstInProgress_congr {s t : State} (h : t.tx = s.tx) : t.burstInProgress = s.burstInProgress := by
  simp only [State.burstInProgress, h]

/-- Entering or leaving DERATE (R269) changes the derated paths alone. -/
@[simp] theorem State.setDerate_keeps (p : Nat) (on : Bool) :
    (s.setDerate p on).dpd = s.dpd ∧ (s.setDerate p on).spare = s.spare ∧ (s.setDerate p on).tx = s.tx ∧
    (s.setDerate p on).path.txMask = s.path.txMask ∧ (s.setDerate p on).path.obsOwner = s.path.obsOwner := by
  unfold State.setDerate
  dsimp only
  split <;> exact ⟨rfl, rfl, rfl, rfl, rfl⟩

/-- Writing the service record leaves the retirements and the paths as they are. -/
@[simp] theorem State.writeServiceRecord_keeps :
    s.writeServiceRecord.dpd = s.dpd ∧ s.writeServiceRecord.path = s.path ∧
    s.writeServiceRecord.spare.rxRetired = s.spare.rxRetired ∧ s.writeServiceRecord.spare.txRetired = s.spare.txRetired := by
  unfold State.writeServiceRecord
  split <;> exact ⟨rfl, rfl, rfl, rfl⟩

/-- The events of a retirement leave the pre-distorter, the paths and the retirements as they are. -/
@[simp] theorem State.pathRetiredEvents_keep (ks : List Nat) (dir : Nat → Nat) (cause : Nat) :
    (ks.foldl (fun t p => t.pathRetiredEvent p (dir p) 1 cause) s).dpd = s.dpd ∧
    (ks.foldl (fun t p => t.pathRetiredEvent p (dir p) 1 cause) s).path = s.path ∧
    (ks.foldl (fun t p => t.pathRetiredEvent p (dir p) 1 cause) s).spare = s.spare := by
  have h := foldl_keeps (fun t : State => (t.dpd, t.path, t.spare)) (fun t p => t.pathRetiredEvent p (dir p) 1 cause)
    (fun t p => by simp [State.pathRetiredEvent]) ks s
  simpa using h

/-- Retiring paths from transmit leaves the holder of the selection as it is, and of the paths all but their captures. -/
@[simp] theorem State.retirePaths_transmit_keeps (m : Mask64) (cause : Nat) :
    (s.retirePaths m 2 cause).path.obsOwner = s.path.obsOwner ∧
    (s.retirePaths m 2 cause).spare.rxRetired = s.spare.rxRetired ∧
    (∀ q, ((s.retirePaths m 2 cause).dpd.path q).rl = (s.dpd.path q).rl) ∧
    ∀ q, ((s.retirePaths m 2 cause).dpd.path q).mismatch = (s.dpd.path q).mismatch := by
  by_cases htx : m &&& ~~~s.spare.txRetired = 0#64
  · simp [State.retirePaths, htx]
  · have hburst : ∀ x, ({ s with spare := x } : State).burstInProgress = s.burstInProgress := fun _ => rfl
    cases hb : s.burstInProgress <;>
      simp [State.retirePaths, htx, hburst, hb, apply_ite DpdPath.rl, apply_ite DpdPath.mismatch]

/-- Retiring a path from transmit with no burst in progress: it is marked, and leaves the transmit mask at once (R511). -/
theorem State.retirePaths_transmit_idle (m : Mask64) (cause : Nat) (hb : s.burstInProgress = false)
    (htx : m &&& ~~~s.spare.txRetired ≠ 0#64) :
    (s.retirePaths m 2 cause).spare.txRetired = s.spare.txRetired ||| (m &&& ~~~s.spare.txRetired) ∧
    (s.retirePaths m 2 cause).path.txMask = s.path.txMask &&& ~~~(m &&& ~~~s.spare.txRetired) := by
  have hb' : ∀ u, ({ s with spare := u } : State).burstInProgress = false := fun _ => hb
  simp [State.retirePaths, htx, hb']

variable {s} {p : Nat} {rl : Int}

/-- A path that stays in its mismatch state: nothing is done. -/
theorem State.judgeMismatch_stays (h : (s.dpd.path p).mismatch.judge rl = (s.dpd.path p).mismatch) :
    s.judgeMismatch p rl = s := by
  simp [State.judgeMismatch, h]

/-- DERATE below 3.5 dB: the path leaves DERATE, is told, and is retired from transmit. -/
theorem State.judgeMismatch_retires (hm : (s.dpd.path p).mismatch = .derate) (hrl : rl < 350) :
    ∃ payload, s.judgeMismatch p rl = ((((s.setDpd p (fun d => { d with mismatch := .retired })).setDerate p
      false).discardCaptures (bitAt 64 p)).raiseEvent 0x0803 .error payload).retirePaths (bitAt 64 p) 2 0 := by
  have hnew := (Mismatch.judge_derate rl).1.mpr hrl
  simp only [State.judgeMismatch, hm, hnew, reduceCtorEq, if_false, if_true]
  exact ⟨_, rfl⟩

/-- What that retirement leaves, with no burst in progress. -/
theorem State.judgeMismatch_retires_transmit (hp : p < 64) (hm : (s.dpd.path p).mismatch = .derate) (hrl : rl < 350)
    (hb : s.burstInProgress = false) (hr : s.spare.txRetired.getLsbD p = false) :
    ((s.judgeMismatch p rl).dpd.path p).mismatch = .retired ∧ (s.judgeMismatch p rl).spare.txRetired.getLsbD p = true ∧
    (s.judgeMismatch p rl).path.txMask.getLsbD p = false ∧
    (s.judgeMismatch p rl).spare.rxRetired = s.spare.rxRetired := by
  obtain ⟨payload, hj⟩ := State.judgeMismatch_retires hm hrl
  rw [hj]
  generalize hu : (((s.setDpd p (fun d => { d with mismatch := .retired })).setDerate
      p false).discardCaptures (bitAt 64 p)).raiseEvent 0x0803 .error payload = u
  have hspare : u.spare = s.spare := by simp [← hu]
  have htx : u.tx = s.tx := by simp [← hu]
  have hmism : (u.dpd.path p).mismatch = .retired := by simp [← hu, apply_ite DpdPath.mismatch]
  have hbit : (bitAt 64 p &&& ~~~u.spare.txRetired).getLsbD p = true := by
    simp only [hspare, BitVec.getLsbD_and, BitVec.getLsbD_not, getLsbD_bitAt, hr, hp, decide_true, Bool.not_false,
      Bool.and_self]
  obtain ⟨-, hrx, -, hkeeps⟩ := u.retirePaths_transmit_keeps (bitAt 64 p) 0
  obtain ⟨hret, hmask⟩ := u.retirePaths_transmit_idle (bitAt 64 p) 0 ((State.burstInProgress_congr htx).trans hb)
    (fun h0 => by simp [h0] at hbit)
  refine ⟨(hkeeps p).trans hmism, ?_, ?_, hrx.trans (by rw [hspare])⟩
  · rw [hret, BitVec.getLsbD_or, hbit, Bool.or_true]
  · rw [hmask, BitVec.getLsbD_and, BitVec.getLsbD_not, hbit, Bool.not_true, Bool.and_false, Bool.and_false]

variable (s p rl) in
/-- A judgement leaves the holder of the selection and every path's return losses as they are. -/
@[simp] theorem State.judgeMismatch_keeps :
    (s.judgeMismatch p rl).path.obsOwner = s.path.obsOwner ∧
    ∀ q, ((s.judgeMismatch p rl).dpd.path q).rl = (s.dpd.path q).rl := by
  simp only [State.judgeMismatch]
  split
  · exact ⟨rfl, fun _ => rfl⟩
  · repeat' split
    all_goals simp [apply_ite DpdPath.rl]

end

section
variable {s : State} {t : Nat}

/-! ### Measurements and trials (R267, R273) -/

/-- Mismatch measurement without the selection: nothing is measured. -/
theorem exec_mismatchMeasurement_notHeld (x : List (Nat × Int × Int)) (h : s.path.obsOwner ≠ some .mismatch) :
    exec (.mismatchMeasurement t x) s = .next (s.advance t) := by
  change execMismatchMeasurement t x s = _
  simp [execMismatchMeasurement, h]

/-- The end of a holding of selection m: the next one is due, the lines return to the forward direction, the selection goes
back (R267). -/
def State.endMismatch (s : State) (m : Nat) : State :=
  ({ s with dpd := { s.dpd with mismatchSel := (m + 1) % 4 }, pins := { s.pins with obsdir := 0#1 } } :
    State).releaseObs .mismatch

/-- What the end of a holding leaves. -/
theorem State.endMismatch_of_held {m : Nat} (h : s.path.obsOwner = some .mismatch) :
    s.endMismatch m = { s with
      dpd := { s.dpd with mismatchSel := (m + 1) % 4 }
      pins := { s.pins with obsdir := 0#1 }
      path := { s.path with obsOwner := none } } := by
  simp [State.endMismatch, State.releaseObs, h]

/-- A measurement that held the selection without a reading. -/
theorem exec_mismatchMeasurement_none (h : s.path.obsOwner = some .mismatch) :
    exec (.mismatchMeasurement t []) s = .next ((s.advance t).endMismatch s.dpd.mismatchSel) := by
  change execMismatchMeasurement t [] s = _
  simp [execMismatchMeasurement, h, State.endMismatch]

/-- The return loss of a reading (R267): forward less reverse, with the offset of the path. -/
def State.returnLoss (s : State) (p : Nat) (f v : Int) : Int :=
  obsDbm f (2 * Tab.get s.path.obsAtten (p / 4) 10) - obsDbm v (2 * s.dpd.revAtten) + Tab.get s.dpd.offsets p 0

/-- A reading is kept among the last four, and may be judged; the selection stays held. -/
theorem State.noteMismatch_keeps (s : State) (p : Nat) (f v : Int) :
    (s.noteMismatch p f v).path.obsOwner = s.path.obsOwner ∧
    ((s.noteMismatch p f v).dpd.path p).rl = (s.returnLoss p f v :: (s.dpd.path p).rl).take 4 := by
  simp only [State.noteMismatch]
  split <;> simp [State.returnLoss]

/-- A measurement with one usable reading. -/
theorem exec_mismatchMeasurement_one {p : Fin 64} {f v : Int} (h : s.path.obsOwner = some .mismatch)
    (hsel : p.val % 4 = s.dpd.mismatchSel) (ht : (s.advance t).tuning = 0#64) (ha : (s.advance t).audible p = true) :
    exec (.mismatchMeasurement t [(p.val, f, v)]) s =
      .next (((s.advance t).noteMismatch p f v).endMismatch s.dpd.mismatchSel) := by
  change execMismatchMeasurement t [(p.val, f, v)] s = _
  simp [execMismatchMeasurement, h, hsel, ht, ha, State.endMismatch]

/-- A trial without the selection: nothing is measured. -/
theorem exec_tunerTrial_notHeld (x : List (Nat × Int)) (h : s.path.obsOwner ≠ some .mismatch) :
    exec (.tunerTrial t x) s = .next (s.advance t) := by
  change execTunerTrial t x s = _
  simp [execTunerTrial, h]

/-- A trial that held the selection without a reading. -/
theorem exec_tunerTrial_none {w : TuneWindow} (h : s.path.obsOwner = some .mismatch) (hw : s.dpd.window = some w)
    (ho : w.opened = true) (hs : w.search = true) :
    exec (.tunerTrial t []) s = .next ((s.advance t).endMismatch s.dpd.mismatchSel) := by
  change execTunerTrial t [] s = _
  simp [execTunerTrial, h, hw, ho, hs, State.endMismatch]

end

/-! ### The commands (R267, R270, R271, R274, R276) -/

section
variable {s : State} {r : Running}

/-- DPD_SET_MISMATCH with its fields in range. -/
theorem setMismatchBody_valid (h0 : u8 r.cmd.payload 0 ≤ 1) (h1 : u8 r.cmd.payload 1 ≤ 15) (hlo : 20 ≤ u16 r.cmd.payload 2)
    (hhi : u16 r.cmd.payload 2 ≤ 10000) (h4 : u8 r.cmd.payload 4 ≤ 26)
    (hoff : ∀ p : Fin 64, -2000 ≤ s16 r.cmd.payload (8 + 2 * p) ∧ s16 r.cmd.payload (8 + 2 * p) ≤ 2000) :
    setMismatchBody r s = .ok { s with dpd := { s.dpd with
      mismatchOn := u8 r.cmd.payload 0 == 1, revAtten := u8 r.cmd.payload 1, periodMs := u16 r.cmd.payload 2
      sclkMHz := if u8 r.cmd.payload 4 = 0 then s.dpd.sclkMHz else u8 r.cmd.payload 4
      offsets := (List.range 64).map (fun k => (k, s16 r.cmd.payload (8 + 2 * k))) } } [] := by
  have hall : ((List.range 64).map (fun k => (k, s16 r.cmd.payload (8 + 2 * k)))).all
      (fun x => inRangeZ (-2000) x.2 2000) = true := by
    simp only [List.all_map, List.all_eq_true, List.mem_range, Function.comp_apply, inRangeZ, Bool.and_eq_true,
      decide_eq_true_eq]
    exact fun k hk => hoff ⟨k, hk⟩
  simp only [setMismatchBody, hall, inRange, h0, h1, hlo, hhi, h4, decide_true, Bool.and_self, if_true]

/-- DPD_SET_TUNER_MAP with one valid entry: the whole map is that entry. -/
theorem setTunerMapBody_one (hn : u8 r.cmd.payload 0 = 1) (ho : tunerOk (tunerAt r.cmd.payload 0) = true) :
    setTunerMapBody r s = .ok { s with dpd := { s.dpd with tuners := [tunerAt r.cmd.payload 0] } } [] := by
  simp [setTunerMapBody, inRange, hn, ho, Tab.set]

/-- An entry of up to four elements, byte by byte. -/
theorem tunerAt_fields (p : List Byte) (h : u8 p 10 ≤ 4) :
    tunerAt p 0 = (u8 p 8, (⟨u8 p 9, u8 p 11, (([0, 1, 2, 3] : List Nat).take (u8 p 10)).map (fun k => u8 p (12 + k)),
      (([0, 1, 2, 3] : List Nat).take (u8 p 10)).map (fun k => u8 p (16 + k))⟩ : Tuner)) := by
  have hr : ∀ n, n ≤ 4 → List.range n = ([0, 1, 2, 3] : List Nat).take n := by decide
  simp [tunerAt, hr _ h]

/-- Time is usable unless it is INVALID. -/
theorem State.timeUsable_of_ne (h : s.time.state ≠ .invalid) : s.timeUsable = true := bne_iff_ne.mpr h

/-- DPD_TUNE_WINDOW over mapped paths, with no window pending or open. -/
theorem tuneWindowBody_opens (hf : u8 r.cmd.payload 0x12 / 4 % 2 = 0) (hlo : 1 ≤ u16 r.cmd.payload 0x10)
    (hhi : u16 r.cmd.payload 0x10 ≤ 1000)
    (hm : ∀ k : Fin 64, (mask64 r.cmd.payload 0).getLsbD k = true → Tab.find? s.dpd.tuners k.val ≠ none)
    (ht : s.time.state ≠ .invalid) (hw : s.dpd.window = none)
    (hs : s.time.deviceAt (r.reached + 384000000) ≤ s.instantOf r.cmd.payload 8) :
    tuneWindowBody r s = .ok { s with dpd := { s.dpd with window := (some
        { mask := mask64 r.cmd.payload 0, start := s.time.localOf (s.instantOf r.cmd.payload 8)
          durationMs := u16 r.cmd.payload 0x10, search := u8 r.cmd.payload 0x12 % 2 == 1
          dither := u8 r.cmd.payload 0x12 / 2 % 2 == 1, scheduled := true }) } } [] := by
  have hmapped : (bitsOf (mask64 r.cmd.payload 0)).all (fun k => (Tab.find? s.dpd.tuners k).isSome) = true := by
    rw [List.all_eq_true]
    intro k hk
    have hbit := (mem_bitsOf _ _).mp hk
    exact Option.isSome_iff_ne_none.mpr (hm ⟨k, BitVec.lt_of_getLsbD hbit⟩ hbit)
  have hcheck : tuneWindowCheck r s = none := by
    simp [tuneWindowCheck, inRange, hlo, hhi, hmapped, State.timeUsable_of_ne ht, hw]
  have hlead : s.tooSoon r (s.instantOf r.cmd.payload 8) Config.ms = false := decide_eq_false (Int.not_lt.mpr hs)
  simp [tuneWindowBody, hf, hcheck, hlead]

/-- DPD_TUNE_WINDOW while a window is pending or open ends BUSY. -/
theorem tuneWindowBody_busy {w : TuneWindow} (hf : u8 r.cmd.payload 0x12 / 4 % 2 = 0) (hlo : 1 ≤ u16 r.cmd.payload 0x10)
    (hhi : u16 r.cmd.payload 0x10 ≤ 1000) (hm : mask64 r.cmd.payload 0 = 0#64) (ht : s.time.state ≠ .invalid)
    (hw : s.dpd.window = some w) : tuneWindowBody r s = .status s Status.busy := by
  have hbits : bitsOf (0#64) = [] := by decide
  have hcheck : tuneWindowCheck r s = some Status.busy := by
    simp [tuneWindowCheck, inRange, hlo, hhi, hm, hbits, State.timeUsable_of_ne ht, hw]
  simp [tuneWindowBody, hf, hcheck]

/-- CANCEL drops a window that has not opened. -/
theorem tuneWindowBody_cancels {w : TuneWindow} (hf : u8 r.cmd.payload 0x12 / 4 % 2 = 1) (hw : s.dpd.window = some w)
    (ho : w.opened = false) : tuneWindowBody r s = .ok { s with dpd := { s.dpd with window := none } } [] := by
  simp [tuneWindowBody, hf, hw, ho]

/-- A byte of a payload, as the byte that a register is written with. -/
theorem ofNat_u8 (p : List Byte) (o : Nat) : [BitVec.ofNat 8 (u8 p o)] = bytesAt p o 1 := by
  simp [u8, bytesAt]

/-- DPD_SET_TUNER of a tuner of one element in an open window: its code goes to the bus, and the path's search stops. -/
theorem setTunerBody_inWindow {w : TuneWindow} {u : Tuner} (hk : u8 r.cmd.payload 0 ≤ 63) (hw : s.dpd.window = some w)
    (ho : w.opened = true) (hm : w.mask.getLsbD (u8 r.cmd.payload 0) = true)
    (hu : Tab.find? s.dpd.tuners (u8 r.cmd.payload 0) = some u) (hc : u.codeMax = [255]) :
    setTunerBody r s = .ok ((s.rffe (u8 r.cmd.payload 0 / 4)
        { kind := 3, usid := u.usid, count := 1, address := u.regs.getD 0 0, data := bytesAt r.cmd.payload 4 1 }).setTune
      (u8 r.cmd.payload 0) (fun x => { x with code := [u8 r.cmd.payload 4], stopped := true })) [] := by
  have hbyte : u8 r.cmd.payload 4 ≤ 255 := Nat.le_of_lt_succ (BitVec.isLt _)
  simp [setTunerBody, State.windowCovers, State.writeCodes, hk, hw, ho, hm, hu, hc, hbyte, ← ofNat_u8]

/-- DPD_SET_TUNER outside a window ends NOT_IN_WINDOW. -/
theorem setTunerBody_notInWindow (hk : u8 r.cmd.payload 0 ≤ 63) (hw : s.dpd.window = none) (hu : s.dpd.tuners = []) :
    setTunerBody r s = .status s Status.notInWindow := by
  simp [setTunerBody, State.windowCovers, hk, hw, hu]

/-- DPD_RFFE_XFER with a sequence of Table DPD-2: it joins its bus, and its command waits. -/
theorem rffeXferBody_valid (h0 : u8 r.cmd.payload 0 ≤ 15) (h2 : u8 r.cmd.payload 2 ≤ 15)
    (ho : rffeOk (u8 r.cmd.payload 1) (u8 r.cmd.payload 3) (u16 r.cmd.payload 4) (u8 r.cmd.payload 8) = true) :
    rffeXferBody r s = .later (s.rffe (u8 r.cmd.payload 0)
        { kind := u8 r.cmd.payload 1, usid := u8 r.cmd.payload 2, count := u8 r.cmd.payload 3
          address := u16 r.cmd.payload 4, data := bytesAt r.cmd.payload 8 (u8 r.cmd.payload 3), owner := some r.order })
      (bytesAt r.cmd.payload 0 6 ++ zeros 18) := by
  simp [rffeXferBody, h0, h2, ho]

end

/-! ### The window and the buses (R271, R272, R275 to R277) -/

section
variable (s : State)

/-- The state but for the RFFE buses. -/
def State.withoutBuses (s : State) : State := { s with dpd := { s.dpd with buses := [] } }

/-- Transactions reach the buses alone. -/
@[simp] theorem State.rffe_withoutBuses (bus : Nat) (x : RffeXfer) : (s.rffe bus x).withoutBuses = s.withoutBuses := rfl

/-- States alike but for the buses are alike but for the pre-distorter. -/
theorem State.frame_of_withoutBuses {u v : State} (h : u.withoutBuses = v.withoutBuses) (d : Dpd) :
    { u with dpd := d } = { v with dpd := d } :=
  (congrArg (fun t : State => { t with dpd := d }) h :)

/-- The open window's first state, before its reads reach their buses: the paths of the mask are excluded and lose their
captures (R272). -/
def State.openWindow (s : State) (w : TuneWindow) (ps : Tab TunePath) : State :=
  (({ s with dpd := { s.dpd with
      window := some { w with opened := true, start := s.now, paths := ps }
      excluded := w.mask, excludedEnd := none } } : State).discardCaptures w.mask).weightsChange w.mask s.now

/-- Opening a window changes the pre-distorter and the beams alone. -/
theorem State.openWindow_frame (w : TuneWindow) (ps : Tab TunePath) :
    { s.openWindow w ps with dpd := s.dpd, beam := s.beam } = s := rfl

variable {s} {t : Nat} {w : TuneWindow}

/-- START opens the window; the reads of the present codes reach the buses. -/
theorem exec_tuneWindowStart_opens (hw : s.dpd.window = some w) (ho : w.opened = false) :
    ∃ (ps : Tab TunePath) (u : State), exec .tuneWindowStart s = .next u ∧
      u.withoutBuses = ((s.advance w.start).openWindow w ps).withoutBuses := by
  change ∃ ps u, execTuneWindowStart s = .next u ∧ _
  simp only [execTuneWindowStart, hw, ho, Bool.false_eq_true, if_false]
  refine ⟨_, _, rfl, foldl_keeps State.withoutBuses _ (fun t p => ?_) _ _⟩
  split
  · rfl
  · refine foldl_keeps State.withoutBuses _ (fun t a => ?_) _ _
    exact t.rffe_withoutBuses _ _

/-- What an open window shows. -/
theorem State.openWindow_shows (ps : Tab TunePath) {u : State} (h : u.withoutBuses = (s.openWindow w ps).withoutBuses) :
    u.now = s.now ∧ u.dpd.excluded = w.mask ∧
    u.dpd.window.map (fun x => (x.opened, x.mask, x.start)) = some (true, w.mask, s.now) ∧
    (∀ p : Fin 64, w.mask.getLsbD p = true → (u.dpd.path p).captures = 0) ∧
    { u with dpd := s.dpd, beam := s.beam } = s := by
  refine ⟨(congrArg State.now h :), (congrArg (fun t => t.dpd.excluded) h :),
    (congrArg (fun t => t.dpd.window.map (fun x => (x.opened, x.mask, x.start))) h :), fun p hp => ?_,
    (congrArg (fun t : State => { t with beam := s.beam }) (State.frame_of_withoutBuses h s.dpd)).trans
      (s.openWindow_frame w ps)⟩
  have hpath := congrArg (fun t : State => t.dpd.path p) h
  change u.dpd.path p = (s.openWindow w ps).dpd.path p at hpath
  rw [hpath]
  exact (congrArg DpdPath.captures (State.discardCaptures_path _ _ _)).trans (by rw [if_pos hp])

/-- The end of an open window without a search, at its instant: RESULT 1. -/
theorem exec_tuneWindowEnd_unsearched (hw : s.dpd.window = some w) (ho : w.opened = true) (hs : w.search = false)
    (hf : w.fault = false) (ht : w.start + w.durationMs * 384000000 ≤ t) :
    exec (.tuneWindowEnd t) s = .next ((s.advance (w.start + w.durationMs * 384000000)).endTuning w 1) := by
  change execTuneWindowEnd t s = _
  have hstop : Nat.min t (w.start + w.durationMs * Config.ms) = w.start + w.durationMs * Config.ms := Nat.min_eq_right ht
  have hdue : ¬ Nat.max s.now (w.start + w.durationMs * Config.ms) < w.start + w.durationMs * Config.ms :=
    Nat.not_lt.mpr (Nat.le_max_right _ _)
  simp only [execTuneWindowEnd, hw, hstop, State.advance_now, hdue, ho, hs, hf, decide_false, Bool.not_true, Bool.false_and,
    Bool.and_false, Bool.or_self, Bool.false_eq_true, if_false]
  rfl

/-- A window that covered no path ends: the exclusion goes 10 us later, and no path, set or run changes. -/
theorem State.endTuning_noPath (hp : w.paths = []) (result : Nat) :
    (s.endTuning w result).dpd.window = none ∧ (s.endTuning w result).dpd.excludedEnd = some (s.now + 3840000) ∧
    (s.endTuning w result).now = s.now ∧ (s.endTuning w result).dpd.paths = s.dpd.paths ∧
    (s.endTuning w result).path = s.path ∧ (s.endTuning w result).cal = s.cal := by
  have hmask : maskOf 64 [] = 0#64 := rfl
  have hbits : bitsOf (0#64) = [] := by decide
  simp [State.endTuning, hp, hmask, hbits, Tab.mapVals_id, State.weightsChange, Config.us]

variable {b : Fin 16} {x : RffeXfer} {l : List RffeXfer} {d : List Byte}

/-- A transaction of the device's own, no read of a tuner, ends well: the next of its bus is in front. -/
theorem exec_rffeTransactionDone_own (hb : Tab.get s.dpd.buses b [] = x :: l) (ho : x.owner = none)
    (hr : x.tunerRead = none) :
    exec (.rffeTransactionDone t b d true) s =
      .next { s.advance t with dpd := { s.dpd with buses := Tab.set s.dpd.buses b l } } := by
  change execRffeTransactionDone t b d true s = _
  simp [execRffeTransactionDone, hb, ho, hr]

/-- A host read that fails its parity is counted, and its command ends RFFE_PARITY. -/
theorem exec_rffeTransactionDone_parity {r : Running} {q : List Byte} (hb : Tab.get s.dpd.buses b [] = x :: l)
    (hr : x.tunerRead = none) (ho : x.owner = some r.order) (hrun : s.cmd.running = [r])
    (hp : r.phase = .deferred ⟨0, q⟩) (hk : rffeReads x.kind = true) :
    exec (.rffeTransactionDone t b d false) s = .next (({ s.advance t with dpd := { s.dpd with
      buses := Tab.set s.dpd.buses b l, parity := satAdd 16 s.dpd.parity 1 } } : State).respond r ⟨Status.rffeParity, []⟩) := by
  change execRffeTransactionDone t b d false s = _
  simp [execRffeTransactionDone, State.xferReply, hb, ho, hr, hrun, hp, hk]

end

/-- Settles O30: the mismatch states by cases, each command by the rule of its body, each row by its rule above. -/
theorem aerialsAndTuners : Obligations.AerialsAndTuners := by
  unfold Obligations.AerialsAndTuners
  refine ⟨?_, ?_, ?_, ?_, ?_, ?_, ?_, ?_, ?_, ?_, ?_, ?_, ?_, ?_, ?_, ?_, ?_, ?_, ?_, ?_, ?_, ?_⟩
  · intro m rl
    obtain ⟨hup, hdown⟩ := m.judge_oneStep rl
    refine ⟨hup, hdown, ?_, ?_, ?_, ?_⟩
    · rintro rfl
      rfl
    · rintro rfl
      exact Mismatch.judge_normal rl
    · rintro rfl
      exact Mismatch.judge_warn rl
    · rintro rfl
      exact Mismatch.judge_derate rl
  · exact fun s p => s.attenAfter_derate p
  · exact fun s p rl h => State.judgeMismatch_stays h
  · intro s p rl hm hrl hb hr
    exact State.judgeMismatch_retires_transmit p.isLt hm hrl hb hr
  · exact fun s t x h => exec_mismatchMeasurement_notHeld x h
  · intro s t h
    refine ⟨_, exec_mismatchMeasurement_none h, ?_⟩
    rw [State.endMismatch_of_held (s := s.advance t) h]
    exact ⟨rfl, rfl, rfl, rfl, rfl⟩
  · intro s t p f v h hsel ht ha
    obtain ⟨hheld, hrl⟩ := (s.advance t).noteMismatch_keeps p f v
    refine ⟨_, exec_mismatchMeasurement_one h hsel ht ha, ?_⟩
    rw [State.endMismatch_of_held (hheld.trans h)]
    exact ⟨hrl, rfl⟩
  · intro s r h h0 h1 hlo hhi h4 hoff
    refine ⟨_, runCommand_effect h (setMismatchBody_valid h0 h1 hlo hhi h4 hoff), rfl, rfl, rfl, rfl, fun p => ?_, rfl, rfl⟩
    simp only [Tab.get, Tab.find?_map_pair _ (List.mem_range.mpr p.isLt), Option.getD_some]
  · exact fun s r h hn ho => runCommand_effect h (setTunerMapBody_one hn ho)
  · exact tunerAt_fields
  · exact fun s r h hf hlo hhi hm ht hw hs => runCommand_effect h (tuneWindowBody_opens hf hlo hhi hm ht hw hs)
  · exact fun s r w h hf hlo hhi hm ht hw => runCommand_status h (tuneWindowBody_busy hf hlo hhi hm ht hw) (by decide)
  · exact fun s r w h hf hw ho => runCommand_effect h (tuneWindowBody_cancels hf hw ho)
  · intro s r w u h hk hw ho hm hu hc _
    refine ⟨_, runCommand_effect h (setTunerBody_inWindow hk hw ho hm hu hc), ?_, rfl⟩
    simp [State.setTune, State.rffe]
  · exact fun s r h hk hw hu => runCommand_status h (setTunerBody_notInWindow hk hw hu) (by decide)
  · exact fun s r h h0 h2 ho => runCommand_effect h (rffeXferBody_valid h0 h2 ho)
  · intro s w hw ho
    obtain ⟨ps, u, hu, hopen⟩ := exec_tuneWindowStart_opens hw ho
    obtain ⟨hnow, hexcl, hwin, hcap, hframe⟩ := State.openWindow_shows ps hopen
    refine ⟨u, hu, hnow, hexcl, hnow ▸ hwin, hcap, ?_⟩
    exact (congrArg (fun t : State => { t with now := s.now, dpd := s.dpd }) hframe :)
  · exact fun s t x h => exec_tunerTrial_notHeld x h
  · intro s t w h hw ho hs
    refine ⟨_, exec_tunerTrial_none h hw ho hs, ?_⟩
    rw [State.endMismatch_of_held (s := s.advance t) h]
    exact ⟨rfl, rfl, hw⟩
  · intro s t w hw ho hs hf hp ht
    obtain ⟨hwin, hend, hnow, hpaths, hpath, hcal⟩ :=
      State.endTuning_noPath (s := s.advance (w.start + w.durationMs * 384000000)) hp 1
    refine ⟨_, exec_tuneWindowEnd_unsearched hw ho hs hf ht, hwin, ?_, hnow, hpaths, hpath, hcal⟩
    rw [hend, hnow]
  · exact fun s t b x l d hb ho hr => exec_rffeTransactionDone_own hb ho hr
  · exact fun s t b x l r q d hb hr ho hrun hp hk => exec_rffeTransactionDone_parity hb hr ho hrun hp hk

end Sys2Proof.Machine
end

section
/-!
PROOFS. The commands of calibration (family 11): the fields of a set and of a response, the runs of the kinds, one rule per
command body, the receive correction, then the statement.
-/

namespace Sys2Proof.Machine

open Sys2Proof

/-! ### Fields of byte strings -/

section
variable {p e : List Byte} {o n : Nat}

/-- A byte of an entry that a string holds at an offset. -/
theorem u8_entry (h : bytesAt p o n = e) {k : Nat} (hk : k < n) : u8 p (o + k) = u8 e k := by
  subst h
  simp [u8, bytesAt, hk]

/-- A 16-bit field of an entry. -/
theorem u16_entry (h : bytesAt p o n = e) {k : Nat} (hk : k + 1 < n) : u16 p (o + k) = u16 e k := by
  rw [u16, u16, Nat.add_assoc o k 1, u8_entry h (Nat.lt_of_succ_lt hk), u8_entry h hk]

/-- A 32-bit field of an entry. -/
theorem u32_entry (h : bytesAt p o n = e) {k : Nat} (hk : k + 3 < n) : u32 p (o + k) = u32 e k := by
  rw [u32, u32, Nat.add_assoc o k 2, u16_entry h (k := k) (by omega), u16_entry h (k := k + 2) hk]

/-- A signed 16-bit field of an entry. -/
theorem s16_entry (h : bytesAt p o n = e) {k : Nat} (hk : k + 1 < n) : s16 p (o + k) = s16 e k :=
  congrArg (signed 16) (u16_entry h hk)

/-- The 16-bit field at the front of an entry. -/
theorem u16_entry_front (h : bytesAt p o n = e) (hn : 1 < n) : u16 p o = u16 e 0 := u16_entry h (k := 0) hn

/-- The signed 16-bit field at the front of an entry. -/
theorem s16_entry_front (h : bytesAt p o n = e) (hn : 1 < n) : s16 p o = s16 e 0 := s16_entry h (k := 0) hn

/-- An entry of a table of entries of one length, indexed from 0. -/
theorem bytesAt_table {f : Nat → List Byte} {c m j : Nat} (hf : ∀ a, (f a).length = c) (hj : j < m) :
    bytesAt ((List.range m).flatMap f ++ p) (c * j) c = f j := by
  rw [bytesAt_flatMap hf _ _ (by simpa using hj), List.getElem_range]

/-- A saturating 16-bit field at the front. -/
theorem u16_leSat (v : Nat) (p : List Byte) : u16 (leSat 2 v ++ p) 0 = min v 65535 := by
  have hmin : Nat.min v (2 ^ (8 * 2) - 1) = min v 65535 := rfl
  rw [leSat, u16_le, hmin]
  omega

/-- A 16-bit field that ends its string. -/
theorem u16_le_last (v : Nat) : u16 (le 2 v) 0 = v % 65536 := u16_le v []

/-- A saturating 16-bit field that ends its string. -/
theorem u16_leSat_last (v : Nat) : u16 (leSat 2 v) 0 = min v 65535 := u16_leSat v []

/-- A signed 16-bit field at the front, of a value that it can hold. -/
theorem s16_leS {v : Int} (hlo : -32768 ≤ v) (hhi : v ≤ 32767) (p : List Byte) : s16 (leS 2 v ++ p) 0 = v := by
  have hpow : (2 : Int) ^ (8 * 2) = 65536 := rfl
  have hmod : v.emod 65536 = v % 65536 := rfl
  rw [s16, leS, u16_le, hpow, hmod, signed]
  split <;> omega

/-- A signed 16-bit field is at least -32768 and at most 32767. -/
theorem s16_range (p : List Byte) (o : Nat) : -32768 ≤ s16 p o ∧ s16 p o ≤ 32767 := by
  have hfst : u8 p o < 256 := (p.getD o 0#8).isLt
  have hsnd : u8 p (o + 1) < 256 := (p.getD (o + 1) 0#8).isLt
  rw [s16, signed, u16]
  split <;> omega

end

/-! ### The runs of the kinds (R286) -/

/-- The kinds of a KIND_MASK. -/
theorem mem_kindsOf {m k : Nat} : k ∈ kindsOf m ↔ k < 10 ∧ m.testBit k = true := by
  simp [kindsOf]

/-- KIND_MASK names XDEV by its bit 9. -/
theorem xdev_mem_kindsOf {m : Nat} : 9 ∈ kindsOf m ↔ m / 512 % 2 = 1 := by
  simp [mem_kindsOf, Nat.testBit_eq_decide_div_mod_eq]

section
variable (s : State)

/-- A kind after a change of kind `k`. -/
@[simp] theorem State.setKind_kind (k j : Nat) (f : CalKind → CalKind) :
    (s.setKind k f).cal.kind j = if j = k then f (s.cal.kind k) else s.cal.kind j := by
  simp [State.setKind, Cal.kind]

/-- A change of a kind leaves the rest of the calibration as it is. -/
@[simp] theorem State.setKind_cal (k : Nat) (f : CalKind → CalKind) :
    (s.setKind k f).cal.autoMask = s.cal.autoMask ∧ (s.setKind k f).cal.channel = s.cal.channel ∧
    (s.setKind k f).cal.steps = s.cal.steps ∧ (s.setKind k f).cal.xdev = s.cal.xdev ∧
    (s.setKind k f).cal.xdevConverged = s.cal.xdevConverged ∧ (s.setKind k f).cal.xdevPackets = s.cal.xdevPackets := by
  repeat' apply And.intro
  all_goals rfl

/-- A kind whose run starts now. -/
def State.runStarted (s : State) (cause : Nat) (paths : Mask64) (activeSyn : Bool) (c : CalKind) : CalKind :=
  { c with ran := true, run := some { cause := cause, paths := paths, activeSyn := activeSyn, usefulAt := s.now } }

/-- Starting runs changes nothing but the kinds. -/
theorem State.startRuns_kindsOnly (cause : Nat) (ks : List Nat) (paths : Mask64) (activeSyn : Bool) :
    { s.startRuns cause ks paths activeSyn with
      cal := { (s.startRuns cause ks paths activeSyn).cal with kinds := s.cal.kinds } } = s := by
  refine foldl_keeps (fun u : State => { u with cal := { u.cal with kinds := s.cal.kinds } }) _ (fun u k => ?_) ks s
  split <;> rfl

/-- Starting runs takes no time. -/
@[simp] theorem State.startRuns_now (cause : Nat) (ks : List Nat) (paths : Mask64) (activeSyn : Bool) :
    (s.startRuns cause ks paths activeSyn).now = s.now :=
  (congrArg State.now (s.startRuns_kindsOnly cause ks paths activeSyn) :)

/-- Starting the runs of a list of kinds: the first where it may run and does not already, then the others. -/
theorem State.startRuns_cons (cause k : Nat) (ks : List Nat) (paths : Mask64) (activeSyn : Bool) :
    s.startRuns cause (k :: ks) paths activeSyn =
      (if (cause = 2 ∨ s.cal.auto k = true) ∧ (s.cal.kind k).run = none then
        s.setKind k (s.runStarted cause paths activeSyn)
      else s).startRuns cause ks paths activeSyn := by
  simp only [State.startRuns, List.foldl_cons, Option.isNone_iff_eq_none]
  rfl

/-- The kinds that start: those named that may run and do not run already. -/
theorem State.startRuns_kind (cause : Nat) (ks : List Nat) (paths : Mask64) (activeSyn : Bool) (j : Nat) :
    (s.startRuns cause ks paths activeSyn).cal.kind j =
      if j ∈ ks ∧ (cause = 2 ∨ s.cal.auto j = true) ∧ (s.cal.kind j).run = none then
        s.runStarted cause paths activeSyn (s.cal.kind j)
      else s.cal.kind j := by
  induction ks generalizing s with
  | nil => simp [State.startRuns]
  | cons k ks ih =>
    rw [State.startRuns_cons]
    by_cases hk : (cause = 2 ∨ s.cal.auto k = true) ∧ (s.cal.kind k).run = none
    · rw [if_pos hk, ih]
      by_cases hj : j = k
      · subst hj
        simp [hk, State.runStarted]
      · simp [hj, State.runStarted, Cal.auto]
    · rw [if_neg hk, ih]
      by_cases hj : j = k
      · subst hj
        simp [hk]
      · simp [hj]

end

/-! ### The commands (R299, Tables CAL-4 to CAL-6) -/

section
variable {s : State} {r : Running}

/-- CAL_RUN without ACTIVE_SYN: the kinds named start. -/
theorem calRunBody_quiet (hw : s.isWorker = false ∨ u16 r.cmd.payload 0 / 512 % 2 = 0) (ha : u8 r.cmd.payload 2 % 2 = 0) :
    calRunBody r s =
      .ok (s.startRuns 2 (kindsOf (u16 r.cmd.payload 0)) (mask64 r.cmd.payload 8) false) [] := by
  have hx : s.isWorker = true → 9 ∉ kindsOf (u16 r.cmd.payload 0) := by
    rw [xdev_mem_kindsOf]
    rcases hw with hw | hw <;> simp [hw]
  simpa [calRunBody, ha] using fun h h9 => absurd h9 (hx h)

/-- CAL_RUN of SYN with ACTIVE_SYN, where the active synthesiser has no setting to acquire. -/
theorem calRunBody_activeSyn (hk : u16 r.cmd.payload 0 = 64) (ha : u8 r.cmd.payload 2 % 2 = 1)
    (hr : (s.cal.kind 6).run = none) (hs : (s.radio.synth s.radio.active).setting = none) :
    calRunBody r s = .ok (s.startRuns 2 [6] (mask64 r.cmd.payload 8) true) [] := by
  have hks : kindsOf 64 = [6] := by decide
  simp [calRunBody, hk, hks, ha, hr, hs]

/-- CAL_RUN of XDEV is the manager's alone. -/
theorem calRunBody_xdevOnWorker (hw : s.role = .worker) (hx : u16 r.cmd.payload 0 / 512 % 2 = 1) :
    calRunBody r s = .status s Status.notPermitted := by
  simp [calRunBody, State.isWorker, hw, xdev_mem_kindsOf, hx]

/-- The supervisor's settings that a payload of CAL_SET_SUPERVISOR gives. -/
def Cal.withSupervisor (c : Cal) (p : List Byte) : Cal :=
  { c with
    autoMask := BitVec.ofNat 10 (u16 p 0), starveS := u16 p 2, storeIntervalS := u16 p 4, xdevSnrMin := u8 p 6
    deltaT := (List.range 10).map (fun k => (k, u8 p (0x10 + 4 * k)))
    intervalS := (List.range 10).map (fun k => (k, u16 p (0x12 + 4 * k))) }

/-- CAL_SET_SUPERVISOR with every parameter in its range. -/
theorem setSupervisorBody_valid (hlo : 10 ≤ u16 r.cmd.payload 2) (hhi : u16 r.cmd.payload 2 ≤ 3600)
    (hst : 60 ≤ u16 r.cmd.payload 4) (hsl : 10 ≤ u8 r.cmd.payload 6) (hsh : u8 r.cmd.payload 6 ≤ 30)
    (hdt : ∀ k : Fin 10, u8 r.cmd.payload (0x10 + 4 * k) ≤ 20) :
    setSupervisorBody r s = .ok { s with cal := s.cal.withSupervisor r.cmd.payload } [] := by
  have hall : (List.range 10).all (fun k => decide (u8 r.cmd.payload (0x10 + 4 * k) ≤ 20)) = true :=
    List.all_eq_true.mpr fun k hk => decide_eq_true (hdt ⟨k, List.mem_range.mp hk⟩)
  simp only [setSupervisorBody, inRange, hlo, hhi, hst, hsl, hsh, hall, decide_true, Bool.and_self, if_true]
  rfl

/-- CAL_SET_SUPERVISOR with DELTA_T of a kind out of its range. -/
theorem setSupervisorBody_badDelta {k : Fin 10} (h : 20 < u8 r.cmd.payload (0x10 + 4 * k)) :
    setSupervisorBody r s = .status s Status.badParam := by
  have hall : (List.range 10).all (fun k => decide (u8 r.cmd.payload (0x10 + 4 * k) ≤ 20)) = false :=
    List.all_eq_false.mpr ⟨k, List.mem_range.mpr k.isLt, by simpa using h⟩
  simp only [setSupervisorBody, hall, Bool.and_false, Bool.false_eq_true, if_false]

/-- What CAL_SET_SUPERVISOR wrote for a kind. -/
theorem Cal.withSupervisor_kind (c : Cal) (p : List Byte) (k : Fin 10) :
    (c.withSupervisor p).autoMask.getLsbD k = (u16 p 0).testBit k ∧
    Tab.get (c.withSupervisor p).deltaT k 4 = u8 p (0x10 + 4 * k) ∧
    Tab.get (c.withSupervisor p).intervalS k 3600 = u16 p (0x12 + 4 * k) := by
  have hk : k.val ∈ List.range 10 := List.mem_range.mpr k.isLt
  refine ⟨?_, ?_, ?_⟩
  · exact (BitVec.getLsbD_ofNat 10 (u16 p 0) k).trans (by rw [decide_eq_true k.isLt, Bool.true_and])
  · simp only [Cal.withSupervisor, Tab.get, Tab.find?_map_pair _ hk, Option.getD_some]
  · simp only [Cal.withSupervisor, Tab.get, Tab.find?_map_pair _ hk, Option.getD_some]

/-- STATE of a kind is a code of Table CAL-5. -/
theorem Cal.stateOf_lt (c : Cal) (k : Nat) : c.stateOf k < 4 := by
  unfold Cal.stateOf
  dsimp only
  repeat' split
  all_goals decide

/-- The age of a kind that was updated, in seconds; no free value is drawn. -/
theorem State.calAge_updated {k a : Nat} (h : (s.cal.kind k).updatedAt = some a) :
    s.calAge k = ((s.now - a) / 384000000000, s) := by
  rw [State.calAge, h]
  rfl

/-- One kind of CAL_GET_STATUS takes 16 bytes. -/
theorem State.length_calStatus (s : State) (k : Nat) : (s.calStatus k).1.length = 16 := by
  simp [State.calStatus]

/-- The fields of one kind in Table CAL-5. -/
theorem State.calStatus_fields (s : State) (k : Nat) :
    u8 (s.calStatus k).1 0 = s.cal.stateOf k ∧ u8 (s.calStatus k).1 1 = (s.cal.kind k).source % 256 ∧
    u16 (s.calStatus k).1 2 = (s.cal.kind k).updates % 65536 ∧ u32 (s.calStatus k).1 4 = (s.calAge k).1 % 2 ^ 32 ∧
    u16 (s.calStatus k).1 0xA = min (s.cal.kind k).residual 65535 ∧
    u16 (s.calStatus k).1 0xC = min (s.cal.kind k).sigma 65535 ∧
    u16 (s.calStatus k).1 0xE = (s.cal.kind k).starved % 65536 := by
  have hstate : s.cal.stateOf k % 256 = s.cal.stateOf k := Nat.mod_eq_of_lt (by have := s.cal.stateOf_lt k; omega)
  simp only [State.calStatus, List.append_assoc]
  simp [u8_append_of_le, u16_append_of_le, u32_append_of_le, u8_le, u16_le, u32_le, u16_leSat, u16_le_last, hstate]

/-- The kinds of CAL_GET_STATUS where each was updated: no state changes, and the entries stand in order. -/
theorem State.foldl_calStatus {ks : List Nat} (h : ∀ k ∈ ks, (s.cal.kind k).updatedAt ≠ none) (acc : List (List Byte)) :
    ks.foldl (fun (a : List (List Byte) × State) k => let v := a.2.calStatus k; (v.1 :: a.1, v.2)) (acc, s) =
      ((ks.map (fun k => (s.calStatus k).1)).reverse ++ acc, s) := by
  induction ks generalizing acc with
  | nil => rfl
  | cons k ks ih =>
    obtain ⟨a, ha⟩ := Option.ne_none_iff_exists'.mp (h k List.mem_cons_self)
    have hst : (s.calStatus k).2 = s := congrArg Prod.snd (State.calAge_updated ha)
    rw [List.foldl_cons]
    simp only [hst]
    rw [ih (fun j hj => h j (List.mem_cons_of_mem k hj))]
    simp

/-- The response of CAL_GET_STATUS (Table CAL-5). -/
def State.calStatusBytes (s : State) : List Byte :=
  (List.range 10).flatMap (fun k => (s.calStatus k).1) ++ (le 2 (s.cal.entry.getD 0xFFFF) ++
    (le 1 (if s.role = .manager then (if s.cal.xdevConverged = true then 1 else 0) else 2) ++ zeros 13))

/-- CAL_GET_STATUS where every kind was updated. -/
theorem calGetStatusBody_updated (h : ∀ k : Fin 10, (s.cal.kind k).updatedAt ≠ none) :
    calGetStatusBody r s = .ok s s.calStatusBytes := by
  have hall : ∀ k ∈ List.range 10, (s.cal.kind k).updatedAt ≠ none := fun k hk => h ⟨k, List.mem_range.mp hk⟩
  simp only [calGetStatusBody, State.foldl_calStatus hall, List.append_nil, List.reverse_reverse, State.calStatusBytes,
    List.flatMap, List.append_assoc]

/-- The kinds of the response take 160 bytes. -/
theorem State.length_calStatusKinds (s : State) : ((List.range 10).flatMap (fun k => (s.calStatus k).1)).length = 160 :=
  length_flatMap_of_forall s.length_calStatus _

/-- The length of Table CAL-5 and its fields behind the kinds. -/
theorem State.calStatusBytes_tail (s : State) :
    s.calStatusBytes.length = 0xB0 ∧ u16 s.calStatusBytes 0xA0 = (s.cal.entry.getD 0xFFFF) % 65536 ∧
    u8 s.calStatusBytes 0xA2 =
      (if s.role = .manager then (if s.cal.xdevConverged = true then 1 else 0) else 2) := by
  have hlen := s.length_calStatusKinds
  refine ⟨?_, ?_, ?_⟩
  · simp only [State.calStatusBytes, List.length_append, hlen, length_le, length_zeros]
  · rw [State.calStatusBytes, u16_append_of_le _ (Nat.le_of_eq hlen), hlen, u16_le]
  · rw [State.calStatusBytes, u8_append_of_le _ (Nat.le_trans (Nat.le_of_eq hlen) (by decide)), hlen,
      u8_append_of_le _ (Nat.le_of_eq (length_le 2 _)), length_le, u8_le]
    split
    · split <;> rfl
    · rfl

/-- One path of CAL_GET_PATH_STATS takes 16 bytes. -/
theorem CalPathStats.length_bytes (x : CalPathStats) : x.bytes.length = 16 := by
  simp [CalPathStats.bytes]

/-- The fields of one path in Table CAL-5. -/
theorem CalPathStats.bytes_fields (x : CalPathStats) :
    u16 x.bytes 0 = min x.phaseSigma 65535 ∧ u16 x.bytes 2 = min x.gainSigma 65535 ∧
    s16 x.bytes 4 = satSym 16 x.phaseStep ∧ u16 x.bytes 8 = min x.rxImage 65535 ∧
    u16 x.bytes 0xA = min x.txLeak 65535 ∧ u16 x.bytes 0xE = min x.dc 65535 := by
  have hfits := satSym_natAbs_16 x.phaseStep
  have hstep := s16_leS (v := satSym 16 x.phaseStep) (by omega) (by omega)
  simp only [CalPathStats.bytes, List.append_assoc]
  simp only [s16] at hstep ⊢
  simp [u16_append_of_le, u16_leSat, u16_leSat_last, hstep]

/-- One position of CAL_GET_PATH_STATS takes 8 bytes. -/
theorem State.length_xdevBytes (s : State) (d : Nat) : (s.xdevBytes d).length = 8 := by
  unfold State.xdevBytes
  split <;> simp

/-- The positions of CAL_GET_PATH_STATS are zero but on the manager. -/
theorem State.xdevBytes_notManager (h : s.role ≠ .manager) (d : Nat) : s.xdevBytes d = zeros 8 := by
  unfold State.xdevBytes
  split
  · exact absurd ‹_› h
  · rfl

/-- A byte of a reserved field. -/
theorem u8_zeros (n k : Nat) : u8 (zeros n) k = 0 := by
  rw [u8, zeros, List.getD_eq_getElem?_getD, List.getElem?_replicate]
  split <;> rfl

/-- The response of CAL_GET_PATH_STATS. -/
def State.pathStatsBytes (s : State) : List Byte :=
  (List.range 64).flatMap (fun p => (Tab.get s.cal.stats p {}).bytes) ++ (List.range 16).flatMap s.xdevBytes

/-- The paths of the response take 1,024 bytes. -/
theorem State.length_pathStatsPaths (s : State) :
    ((List.range 64).flatMap (fun p => (Tab.get s.cal.stats p {}).bytes)).length = 1024 :=
  length_flatMap_of_forall (fun p => (Tab.get s.cal.stats p {}).length_bytes) _

/-- The length of the response of CAL_GET_PATH_STATS. -/
theorem State.length_pathStatsBytes (s : State) : s.pathStatsBytes.length = 0x480 := by
  rw [State.pathStatsBytes, List.length_append, s.length_pathStatsPaths, length_flatMap_of_forall s.length_xdevBytes,
    List.length_range]

/-- The bytes of the positions in the response of CAL_GET_PATH_STATS but on the manager. -/
theorem State.pathStatsBytes_notManager (h : s.role ≠ .manager) (d : Fin 128) : u8 s.pathStatsBytes (0x400 + d) = 0 := by
  have hz : (List.range 16).flatMap s.xdevBytes = zeros 128 := by
    rw [funext (State.xdevBytes_notManager h)]
    decide
  rw [State.pathStatsBytes, hz, show 0x400 + d.val = _ from congrArg (· + d.val) s.length_pathStatsPaths.symm, u8_append,
    u8_zeros]

/-- The coupler phases that a payload of CAL_SET_COUPLER gives, by path. -/
def couplerTable (p : List Byte) : Tab Int := (List.range 64).map (fun k => (k, s16 p (2 * k)))

/-- CAL_SET_COUPLER with every phase in its range. -/
theorem setCouplerBody_valid
    (h : ∀ p : Fin 64, -18000 ≤ s16 r.cmd.payload (2 * p) ∧ s16 r.cmd.payload (2 * p) ≤ 18000) :
    setCouplerBody r s = .ok { s with cal := { s.cal with coupler := couplerTable r.cmd.payload } } [] := by
  have hall : (couplerTable r.cmd.payload).all (fun x => inRangeZ (-18000) x.2 18000) = true := by
    refine List.all_eq_true.mpr fun x hx => ?_
    obtain ⟨k, hk, rfl⟩ := List.mem_map.mp hx
    obtain ⟨hlo, hhi⟩ := h ⟨k, List.mem_range.mp hk⟩
    simp [inRangeZ, hlo, hhi]
  exact if_pos hall

/-- CAL_SET_COUPLER with a phase out of its range. -/
theorem setCouplerBody_badParam {p : Fin 64} (h : 18000 < s16 r.cmd.payload (2 * p)) :
    setCouplerBody r s = .status s Status.badParam := by
  have hall : ¬ (couplerTable r.cmd.payload).all (fun x => inRangeZ (-18000) x.2 18000) = true := by
    intro hall
    have hp := List.all_eq_true.mp hall _ (List.mem_map.mpr ⟨p.val, List.mem_range.mpr p.isLt, rfl⟩)
    simp [inRangeZ] at hp
    omega
  exact if_neg hall

/-- CAL_STORE outside 0 to 100 degrees. -/
theorem calStoreBody_tempRange (h : s.thermal.tj < 0 ∨ 10000 < s.thermal.tj) :
    calStoreBody r s = .status s Status.tempRange := by
  have hn : s.nvTempOk = false := by
    simp only [State.nvTempOk, inRangeZ, Bool.and_eq_false_iff, decide_eq_false_iff_not]
    omega
  simp [calStoreBody, hn]

/-- A reading from 0 to 100 degrees lets non-volatile writes start. -/
theorem State.nvTempOk_of_range (hlo : 0 ≤ s.thermal.tj) (hhi : s.thermal.tj ≤ 10000) : s.nvTempOk = true := by
  simp [State.nvTempOk, inRangeZ, hlo, hhi]

/-- CAL_STORE of the channel set with no active entry. -/
theorem calStoreBody_noEntry (ht : s.nvTempOk = true) (he : s.cal.entry = none) (hc : u8 r.cmd.payload 0 % 2 = 1) :
    calStoreBody r s = .status s Status.noEntry := by
  simp [calStoreBody, ht, he, hc]

/-- CAL_STORE of the channel set alone. -/
theorem calStoreBody_channel {e : Nat} (ht : s.nvTempOk = true) (he : s.cal.entry = some e)
    (hw : u8 r.cmd.payload 0 = 1) :
    calStoreBody r s =
      .later (s.nvEnqueue { record := .calChannel e, data := s.sealChannel e, owner := some r.order }) [] := by
  simp [calStoreBody, ht, he, hw]

/-- CAL_RESTORE from an empty channel slot. -/
theorem calRestoreBody_emptySlot (hs : u8 r.cmd.payload 0 = 1) (he : u16 r.cmd.payload 4 ≤ 255)
    (hk : u16 r.cmd.payload 2 / 8 % 2 = 1) (hn : Tab.find? s.nv.calChannel (u16 r.cmd.payload 4) = none) :
    calRestoreBody r s = .status s Status.setInvalid := by
  have h3 : 3 ∈ kindsOf (u16 r.cmd.payload 2) := by
    simp [mem_kindsOf, Nat.testBit_eq_decide_div_mod_eq, hk]
  have hall : (kindsOf (u16 r.cmd.payload 2)).all (fun k => s.restorable 1 (u16 r.cmd.payload 4) k) = false :=
    List.all_eq_false.mpr ⟨3, h3, by simp [State.restorable, State.restoreSource, hn]⟩
  simp [calRestoreBody, hs, he, hall]

/-- The values of TX_LO before its last update, written back, with the kind restored. -/
theorem State.restoreKind_txLo {b old : List Byte} {o : Nat} (hc : s.cal.channel = some b)
    (hb : (s.cal.kind 3).before = [(o, old)]) (e : Nat) :
    s.restoreKind 2 e 3 = ({ s with cal := { s.cal with channel := some (patch b o old) } } : State).setKind 3
      (fun c => { c with source := 3, stopAt := s.now }) := by
  simp [State.restoreKind, State.putSet, Cal.channelBytes, hb, hc]

/-- CAL_RESTORE of TX_LO with HOLD, from the values before its last update. -/
theorem calRestoreBody_txLoHeld (hs : u8 r.cmd.payload 0 = 2) (hh : u8 r.cmd.payload 1 % 2 = 1)
    (hk : u16 r.cmd.payload 2 = 8) (hu : (s.cal.kind 3).updatedAt ≠ none) :
    calRestoreBody r s = .ok { s.restoreKind 2 (u16 r.cmd.payload 4) 3 with
      cal := { (s.restoreKind 2 (u16 r.cmd.payload 4) 3).cal with
        autoMask := (s.restoreKind 2 (u16 r.cmd.payload 4) 3).cal.autoMask &&& ~~~8#10 } } [] := by
  have hks : kindsOf 8 = [3] := by decide
  have hmask : maskOf 10 [3] = 8#10 := by decide
  have hr : s.restorable 2 (u16 r.cmd.payload 4) 3 = true := by
    simpa [State.restorable, Option.isSome_iff_ne_none] using hu
  simp [calRestoreBody, hs, hh, hk, hks, hmask, hr]

/-- CAL_READ_SET of the factory channel set. -/
theorem calReadSetBody_factoryChannel (ht : u8 r.cmd.payload 0 = 2) (hi : u16 r.cmd.payload 2 ≤ 255) :
    calReadSetBody r s = .ok s Config.factoryChannelSet := by
  simp [calReadSetBody, ht, Nat.not_lt.mpr hi]

/-- CAL_READ_SET of a factory step set. -/
theorem calReadSetBody_factoryStep (ht : u8 r.cmd.payload 0 = 3) (hi : u16 r.cmd.payload 2 ≤ 15) :
    calReadSetBody r s = .ok s (Config.factoryStepSet (u16 r.cmd.payload 2)) := by
  simp [calReadSetBody, ht, Nat.not_lt.mpr hi]

/-- CAL_READ_SET of an empty channel slot. -/
theorem calReadSetBody_emptyChannel (ht : u8 r.cmd.payload 0 = 0) (hi : u16 r.cmd.payload 2 ≤ 255)
    (hn : Tab.find? s.nv.calChannel (u16 r.cmd.payload 2) = none) :
    calReadSetBody r s = .status s Status.setInvalid := by
  simp [calReadSetBody, ht, Nat.not_lt.mpr hi, hn]

/-- CAL_READ_SET of a written step slot that reads without error. -/
theorem calReadSetBody_step {b : List Byte} (ht : u8 r.cmd.payload 0 = 1) (hi : u16 r.cmd.payload 2 ≤ 15)
    (hf : Tab.find? s.nv.calStep (u16 r.cmd.payload 2) = some b)
    (hb : s.nv.bad.contains (.calStep (u16 r.cmd.payload 2)) = false) :
    calReadSetBody r s = if setValid 576 1 b = true then .ok s b else .status s Status.setInvalid := by
  have hlen : stepSetLen = 576 := rfl
  have hread : NvRecord.calStep (u16 r.cmd.payload 2) ∉ s.nv.bad := by simpa using hb
  cases hv : setValid 576 1 b <;>
    simp [calReadSetBody, ht, Nat.not_lt.mpr hi, hf, hread, hlen, Option.filter, hv]

end

/-! ### The receive correction (R288) -/

/-- A multiple of the scale divides without rounding. -/
theorem roundShift_mul (a : Int) (n : Nat) : roundShift (a * 2 ^ n) n = a := by
  have hpos : (0 : Int) < 2 ^ n := Int.pow_pos (by decide)
  have hdiv : (a * 2 ^ n).ediv (2 ^ n) = a := Int.mul_ediv_cancel a (Int.ne_of_gt hpos)
  have hmod : (a * 2 ^ n).emod (2 ^ n) = 0 := Int.mul_emod_left a _
  simp only [roundShift, hdiv, hmod, Int.mul_zero, hpos, if_true]

/-- Unity times unity, both in Q2.14, leaves a representable value as it is. -/
theorem cplxRound_unity {c : Cplx} (hi : c.i = satSym 16 c.i) (hq : c.q = satSym 16 c.q) :
    cplxRound 28 (cplxMul (cplxMul c ⟨16384, 0⟩) ⟨16384, 0⟩) = c := by
  have hmul : cplxMul (cplxMul c ⟨16384, 0⟩) ⟨16384, 0⟩ = ⟨c.i * 2 ^ 28, c.q * 2 ^ 28⟩ := by
    simp only [cplxMul, Cplx.mk.injEq]
    constructor <;> omega
  rw [hmul, cplxRound]
  simp only [roundShift_mul, ← hi, ← hq]

/-- At gain step 15 with X_d unity the receive correction is C_BASE. -/
theorem Cal.rxCorr_base {c : Cal} {b : List Byte} {p : Nat} (hc : c.channel = some b) (hx : c.xd = ⟨16384, 0⟩)
    (hi : s16 b (0x30 + 24 * p) ≠ -32768) (hq : s16 b (0x32 + 24 * p) ≠ -32768) :
    c.rxCorr p 15 = ⟨s16 b (0x30 + 24 * p), s16 b (0x32 + 24 * p)⟩ := by
  have fits {o : Nat} (h : s16 b o ≠ -32768) : s16 b o = satSym 16 (s16 b o) := by
    obtain ⟨hlo, hhi⟩ := s16_range b o
    refine (satSym_of_inRange (w := 16) ?_ hhi).symm
    change -32767 ≤ s16 b o
    omega
  have hbase : pairAt b (0x30 + 24 * p) = ⟨s16 b (0x30 + 24 * p), s16 b (0x32 + 24 * p)⟩ := by
    rw [pairAt, show 0x30 + 24 * p + 2 = 0x32 + 24 * p by omega]
  simp only [Cal.rxCorr, Cal.channelBytes, hc, Option.getD_some, if_true, hx, hbase]
  exact cplxRound_unity (fits hi) (fits hq)

/-- Settles O31: each command by the rule of its body above, the responses by their fields. -/
theorem calibrationCommands : Obligations.CalibrationCommands := by
  unfold Obligations.CalibrationCommands
  refine ⟨?_, ?_, ?_, ?_, ?_, ?_, ?_, ?_, ?_, ?_, ?_, ?_, ?_, ?_, ?_, ?_, ?_, ?_, ?_⟩
  · intro s r h hw ha
    refine ⟨_, runCommand_effect h (calRunBody_quiet hw ha), fun k => ?_, s.startRuns_kindsOnly 2 _ _ false⟩
    simp [State.startRuns_kind, mem_kindsOf, State.runStarted, k.isLt]
  · intro s r h hk ha hr hs
    refine ⟨_, runCommand_effect h (calRunBody_activeSyn hk ha hr hs), ?_, s.startRuns_kindsOnly 2 _ _ true⟩
    simp [State.calHolds, State.startRuns_kind, hr, State.runStarted]
  · exact fun s r h hw hx => runCommand_status h (calRunBody_xdevOnWorker hw hx) (by decide)
  · intro s r h hlo hhi hst hsl hsh hdt
    exact ⟨_, runCommand_effect h (setSupervisorBody_valid hlo hhi hst hsl hsh hdt), s.cal.withSupervisor_kind _, rfl, rfl,
      rfl, rfl, rfl, rfl⟩
  · exact fun s r k h hk => runCommand_status h (setSupervisorBody_badDelta hk) (by decide)
  · intro s r h hu
    obtain ⟨hlen, hentry, hxdev⟩ := s.calStatusBytes_tail
    refine ⟨_, runCommand_effect h (calGetStatusBody_updated hu), hlen, fun k => ?_, hentry, hxdev⟩
    have hk : bytesAt s.calStatusBytes (16 * k) 16 = (s.calStatus k).1 := bytesAt_table s.length_calStatus k.isLt
    obtain ⟨hstate, hsource, hupdates, hage, hresidual, hsigma, hstarved⟩ := s.calStatus_fields k
    refine ⟨(u8_entry (k := 0) hk (by decide)).trans hstate, (u8_entry hk (by decide)).trans hsource,
      (u16_entry hk (by decide)).trans hupdates, fun a ha => ?_, (u16_entry hk (by decide)).trans hresidual,
      (u16_entry hk (by decide)).trans hsigma, (u16_entry hk (by decide)).trans hstarved⟩
    rw [u32_entry hk (by decide), hage, State.calAge_updated ha]
  · intro s r h
    refine ⟨s.pathStatsBytes, runCommand_effect h rfl, s.length_pathStatsBytes, fun k => ?_,
      State.pathStatsBytes_notManager⟩
    have hk : bytesAt s.pathStatsBytes (16 * k) 16 = (Tab.get s.cal.stats k {}).bytes :=
      bytesAt_table (fun p => (Tab.get s.cal.stats p {}).length_bytes) k.isLt
    obtain ⟨hphase, hgain, hstep, himage, hleak, hdc⟩ := (Tab.get s.cal.stats k {}).bytes_fields
    exact ⟨(u16_entry_front hk (by decide)).trans hphase, (u16_entry hk (by decide)).trans hgain,
      (s16_entry hk (by decide)).trans hstep, (u16_entry hk (by decide)).trans himage,
      (u16_entry hk (by decide)).trans hleak, (u16_entry hk (by decide)).trans hdc⟩
  · intro s r h hc
    refine ⟨_, runCommand_effect h (setCouplerBody_valid hc), fun p => ?_⟩
    simp only [couplerTable, Tab.get, Tab.find?_map_pair _ (List.mem_range.mpr p.isLt), Option.getD_some]
  · exact fun s r p h hp => runCommand_status h (setCouplerBody_badParam hp) (by decide)
  · exact fun s r h ht => runCommand_status h (calStoreBody_tempRange ht) (by decide)
  · exact fun s r h hlo hhi he hc =>
      runCommand_status h (calStoreBody_noEntry (State.nvTempOk_of_range hlo hhi) he hc) (by decide)
  · exact fun s r e h hlo hhi he hw => runCommand_effect h (calStoreBody_channel (State.nvTempOk_of_range hlo hhi) he hw)
  · exact fun s r h hs he hk hn => runCommand_status h (calRestoreBody_emptySlot hs he hk hn) (by decide)
  · intro s r b old o h hs hh hk hu hc hb
    refine ⟨_, runCommand_effect h (calRestoreBody_txLoHeld hs hh hk hu), ?_⟩
    rw [State.restoreKind_txLo hc hb]
    have hkind := State.setKind_kind { s with cal := { s.cal with channel := some (patch b o old) } } 3
      (f := fun c => { c with source := 3, stopAt := s.now })
    exact ⟨rfl, rfl, congrArg CalKind.source (hkind 3), congrArg CalKind.stopAt (hkind 3),
      fun k hk => (hkind k).trans (if_neg hk), rfl⟩
  · exact fun s r h ht hi => runCommand_effect h (calReadSetBody_factoryChannel ht hi)
  · exact fun s r h ht hi => runCommand_effect h (calReadSetBody_factoryStep ht hi)
  · exact fun s r h ht hi hn => runCommand_status h (calReadSetBody_emptyChannel ht hi hn) (by decide)
  · intro s r b h ht hi hf hb
    have hbody := calReadSetBody_step (s := s) ht hi hf hb
    split at hbody
    · rw [if_pos ‹_›]
      exact runCommand_effect h hbody
    · rw [if_neg ‹_›]
      exact runCommand_status h hbody (by decide)
  · exact fun c b p hc hx hi hq => Cal.rxCorr_base hc hx hi hq

end Sys2Proof.Machine
end

section
/-!
PROOFS. What the calibration supervisor does (family 11): trims and the bytes that hold them, one rule per row of the
supervisor, then the statement.
-/

namespace Sys2Proof.Machine

open Sys2Proof

/-! ### Trims and the bytes that hold them (R282, Tables PATH-4 and CAL-3) -/

/-- The largest trim code of a kind lies from 500 to 2,048. -/
theorem trimLimit_bounds (k : Nat) : 500 ≤ trimLimit k ∧ trimLimit k ≤ 2048 := by
  unfold trimLimit
  repeat' split
  all_goals decide

/-- A trim of two's complement stays within its range. -/
theorem trimToward_range {k : Nat} (hk : k ≠ 2) (old new : Int) :
    -(trimLimit k) ≤ trimToward k old new ∧ trimToward k old new ≤ trimLimit k := by
  have hlim := (trimLimit_bounds k).1
  simp only [trimToward, if_neg hk]
  constructor
  all_goals
    repeat' split
    all_goals omega

/-- A trim within its range moves towards the estimate, by at most four steps. -/
theorem trimToward_step {k : Nat} (hk : k ≠ 2) {old : Int} (hlo : -(trimLimit k) ≤ old) (hhi : old ≤ trimLimit k)
    (new : Int) : old - 4 ≤ trimToward k old new ∧ trimToward k old new ≤ old + 4 := by
  simp only [trimToward, if_neg hk]
  constructor
  all_goals
    repeat' split
    all_goals omega

/-- An estimate in range and at most four steps away is reached. -/
theorem trimToward_reaches {k : Nat} (hk : k ≠ 2) {old new : Int} (hlo : -(trimLimit k) ≤ new) (hhi : new ≤ trimLimit k)
    (hdown : old - 4 ≤ new) (hup : new ≤ old + 4) : trimToward k old new = new := by
  simp only [trimToward, if_neg hk]
  repeat' split
  all_goals omega

section
variable {b new : List Byte} {o : Nat}

/-- A patch leaves the length of a set as it is. -/
theorem length_patch (h : o + new.length ≤ b.length) : (patch b o new).length = b.length := by
  simp only [patch, List.length_append, List.length_take, List.length_drop]
  omega

/-- The bytes patched. -/
theorem bytesAt_patch (h : o ≤ b.length) : bytesAt (patch b o new) o new.length = new := by
  have hlen : (b.take o).length = o := List.length_take_of_le h
  rw [patch, List.append_assoc, bytesAt_append_of_le _ (Nat.le_of_eq hlen), hlen, Nat.sub_self, bytesAt_front _ rfl]

/-- A byte outside the patch. -/
theorem u8_patch_out (h : o ≤ b.length) {k : Nat} (hk : k < o ∨ o + new.length ≤ k) : u8 (patch b o new) k = u8 b k := by
  have hlen : (b.take o).length = o := List.length_take_of_le h
  rcases hk with hk | hk
  · rw [u8, u8, patch, List.append_assoc, List.getD_eq_getElem?_getD, List.getElem?_append_left (by rw [hlen]; exact hk),
      List.getElem?_take_of_lt hk, ← List.getD_eq_getElem?_getD]
  · rw [patch, u8_append_of_le _ (by rw [List.length_append, hlen]; exact hk), List.length_append, hlen, u8, u8,
      List.getD_eq_getElem?_getD, List.getElem?_drop, Nat.add_sub_cancel' hk, ← List.getD_eq_getElem?_getD]

end

/-! ### Steps of the trims (R282 to R284) -/

/-- RX_DC, RX_IQ and RX_BW do not use the observation paths. -/
theorem observationKinds_not_contains {k : Nat} (h : k ≤ 2) : [3, 4, 5, 8].contains k = false := by
  have h345 : k ≠ 3 ∧ k ≠ 4 ∧ k ≠ 5 ∧ k ≠ 8 := by omega
  simp [h345]

section
variable {s : State} {t : Nat} {k : Fin 10} {x : CalStep} {r : CalRun}

/-- A receive step of a kind that does not run writes nothing. -/
theorem exec_calStepComplete_notRunning (hk : k.val ≤ 2) (hr : (s.cal.kind k).run = none) :
    exec (.calStepComplete t k x) s = .next (s.advance t) := by
  change execCalStepComplete t k x s = _
  simp only [execCalStepComplete, observationKinds_not_contains hk, Bool.false_eq_true, if_false, State.advance_frame, hr]

/-- A receive step whose measurement began before a disturbance or a restore is discarded. -/
theorem exec_calStepComplete_disturbed (hk : k.val ≤ 2)
    (hd : x.since ≤ s.cal.disturbedAt ∨ x.since ≤ (s.cal.kind k).stopAt) :
    exec (.calStepComplete t k x) s = .next (s.advance t) := by
  change execCalStepComplete t k x s = _
  have hdrop : (s.advance t).stepKept k x = false := by
    rcases hd with hd | hd <;> simp [State.stepKept, Nat.not_lt.mpr hd]
  simp only [execCalStepComplete, observationKinds_not_contains hk, Bool.false_eq_true, if_false, hdrop, Bool.not_false,
    or_true, if_true]
  split <;> rfl

/-- The kind after a kept step, from what the step wrote: the state, the values before and the farthest move. -/
def steppedKind (k : Nat) (r : CalRun) (x : CalStep) (w : State × List (Nat × List Byte) × Nat) (c : CalKind) : CalKind :=
  { c with
    updates := satAdd 16 c.updates 1, updatedAt := some w.1.now, tjLast := w.1.thermal.tj, residual := x.residual
    sigma := x.sigma, source := 2
    before := w.2.1.map (fun b => (if k = 0 then 1024 * w.1.path.step + b.1 else b.1, b.2))
    converged := w.1.stepConverges k x w.2.2 r.paths
    run := some { r with usefulAt := w.1.now } }

/-- A kept receive step without figures: its writes, the record of the kind, and the end of the run where it has settled. -/
theorem exec_calStepComplete_kept {n : Nat} {w : State × List (Nat × List Byte) × Nat} (hn : k.val = n) (hk : n ≤ 2)
    (hr : (s.cal.kind n).run = some r) (hf : x.figures = []) (hkept : (s.advance t).stepKept n x = true)
    (hw : (s.advance t).writeStep n r x = w) :
    exec (.calStepComplete t k x) s = .next (if w.1.stepConverges n x w.2.2 r.paths = true then
      (w.1.setKind n (steppedKind n r x w)).endRun n 0 else w.1.setKind n (steppedKind n r x w)) := by
  subst hn
  change execCalStepComplete t k x s = _
  have hheld : (s.advance t).trimsHeld k (x.writes.map (fun w => w.1)) = false := by
    have h34 : k.val ≠ 3 ∧ k.val ≠ 4 := by omega
    simp [State.trimsHeld, h34]
  have h9 : k.val ≠ 9 := by omega
  simp only [execCalStepComplete, observationKinds_not_contains hk, Bool.false_eq_true, if_false, State.advance_frame, hr,
    hheld, hkept, h9, Bool.not_true, or_self, hw, hf, List.foldl_nil]
  rfl

/-- The trims of an RX_IQ unit moved towards an estimate. -/
def rxIqTrims (b : List Byte) (p : Nat) (i q : Int) : List Byte :=
  leS 2 (trimToward 1 (s16 b (0x20 + 24 * p)) i) ++ leS 2 (trimToward 1 (s16 b (0x22 + 24 * p)) q)

/-- The fields of an RX_IQ unit. -/
theorem rxIqTrims_fields (b : List Byte) (p : Nat) (i q : Int) :
    s16 (rxIqTrims b p i q) 0 = trimToward 1 (s16 b (0x20 + 24 * p)) i ∧
    s16 (rxIqTrims b p i q) 2 = trimToward 1 (s16 b (0x22 + 24 * p)) q := by
  have hlim := (trimLimit_bounds 1).2
  have fits (old new : Int) (l : List Byte) : s16 (leS 2 (trimToward 1 old new) ++ l) 0 = trimToward 1 old new := by
    obtain ⟨hlo, hhi⟩ := trimToward_range (k := 1) (by decide) old new
    exact s16_leS (by omega) (by omega) l
  refine ⟨fits _ _ _, ?_⟩
  have hsnd : u16 (rxIqTrims b p i q) 2 = u16 (leS 2 (trimToward 1 (s16 b (0x22 + 24 * p)) q) ++ []) 0 := by
    rw [rxIqTrims, u16_append_of_le _ (Nat.le_of_eq (length_leS ..)), length_leS, List.append_nil]
  rw [s16, hsnd]
  exact fits _ _ []

/-- A channel set after the trims of an RX_IQ unit moved: its length, the two trims and the other bytes. -/
theorem patch_rxIqTrims {b : List Byte} (hlen : b.length = 1664) (p : Fin 64) (i q : Int) :
    (patch b (0x20 + 24 * p) (rxIqTrims b p i q)).length = 1664 ∧
    s16 (patch b (0x20 + 24 * p) (rxIqTrims b p i q)) (0x20 + 24 * p) = trimToward 1 (s16 b (0x20 + 24 * p)) i ∧
    s16 (patch b (0x20 + 24 * p) (rxIqTrims b p i q)) (0x22 + 24 * p) = trimToward 1 (s16 b (0x22 + 24 * p)) q ∧
    ∀ o : Fin 1664, (o.val < 0x20 + 24 * p ∨ 0x24 + 24 * p ≤ o.val) →
      u8 (patch b (0x20 + 24 * p) (rxIqTrims b p i q)) o = u8 b o := by
  have hnew : (rxIqTrims b p i q).length = 4 := by simp [rxIqTrims]
  have hfit : 0x20 + 24 * p.val + (rxIqTrims b p i q).length ≤ b.length := by omega
  have hat := bytesAt_patch (b := b) (new := rxIqTrims b p i q) (Nat.le_of_add_right_le hfit)
  rw [hnew] at hat
  obtain ⟨hi, hq⟩ := rxIqTrims_fields b p i q
  refine ⟨(length_patch hfit).trans hlen, (s16_entry_front hat (by decide)).trans hi, ?_, fun o ho => ?_⟩
  · refine Eq.trans ?_ hq
    rw [show 0x22 + 24 * p.val = 0x20 + 24 * p + 2 by omega]
    exact s16_entry hat (by decide)
  · exact u8_patch_out (Nat.le_of_add_right_le hfit) (by omega)

/-- What an RX_IQ step for one path writes, with no burst under way. -/
theorem State.writeStep_rxIq {b : List Byte} {p : Fin 64} {i q : Int} (hp : r.paths.getLsbD p = true)
    (hc : s.cal.channel = some b) (hx : x.writes = [(p.val, i, q)]) (hq : s.tx.queue = []) (hb : s.tx.blanked = []) :
    (s.writeStep 1 r x).1 = { s with cal := { s.cal with
      channel := some (patch b (0x20 + 24 * p) (rxIqTrims b p i q)) } } := by
  have hiOld : s16 (bytesAt b (0x20 + 24 * p) 4) 0 = s16 b (0x20 + 24 * p) := (s16_entry_front rfl (by decide)).symm
  have hqOld : s16 (bytesAt b (0x20 + 24 * p) 4) 2 = s16 b (0x22 + 24 * p) := by
    rw [show 0x22 + 24 * p.val = 0x20 + 24 * p + 2 by omega]
    exact (s16_entry rfl (by decide)).symm
  have hout : s.quadrantsBlanked { start := x.since, stop := s.now } = 0#4 := by simp [State.quadrantsBlanked, hq, hb]
  simp [State.writeStep, hx, hout, hp, State.setOf, State.putSet, Cal.channelBytes, hc, writeUnit, trimPlace, trimBytes,
    hiOld, hqOld, rxIqTrims]

/-- A step of RX_DC that writes no trim. -/
theorem State.writeStep_empty (hx : x.writes = []) : s.writeStep 0 r x = (s, [], 0) := by
  simp [State.writeStep, hx]

/-- What a kept RX_IQ step for one path that has not settled shows. -/
theorem exec_calStepComplete_rxIq {b : List Byte} {p : Fin 64} {i q : Int} (hr : (s.cal.kind 1).run = some r)
    (hp : r.paths.getLsbD p = true) (hc : s.cal.channel = some b) (hx : x.writes = [(p.val, i, q)]) (hf : x.figures = [])
    (hset : x.settled = false) (hq : s.tx.queue = []) (hb : s.tx.blanked = []) (hkept : (s.advance t).stepKept 1 x = true) :
    ∃ f : CalKind → CalKind, exec (.calStepComplete t 1 x) s = .next (({ s.advance t with cal := { s.cal with
        channel := some (patch b (0x20 + 24 * p) (rxIqTrims b p i q)) } } : State).setKind 1 f) ∧
      ∀ c, (f c).updates = min 65535 (c.updates + 1) ∧ (f c).source = 2 ∧ (f c).updatedAt = some (max s.now t) ∧
        (f c).residual = x.residual ∧ (f c).sigma = x.sigma ∧ (f c).run = some { r with usefulAt := max s.now t } := by
  have hwrite := State.writeStep_rxIq (s := s.advance t) hp hc hx hq hb
  have hgo : ((s.advance t).writeStep 1 r x).1.stepConverges 1 x ((s.advance t).writeStep 1 r x).2.2 r.paths = false := by
    simp [State.stepConverges, hset]
  have hexec : exec (.calStepComplete t 1 x) s = .next (((s.advance t).writeStep 1 r x).1.setKind 1
      (steppedKind 1 r x ((s.advance t).writeStep 1 r x))) :=
    (exec_calStepComplete_kept (k := 1) (n := 1) rfl (by decide) hr hf hkept rfl).trans
      (congrArg Host.Outcome.next (if_neg (Bool.eq_false_iff.mp hgo)))
  have hnow : ((s.advance t).writeStep 1 r x).1.now = max s.now t := congrArg State.now hwrite
  rw [hwrite] at hexec
  refine ⟨_, hexec, fun c => ⟨Nat.min_comm _ _, rfl, congrArg some hnow, rfl, rfl, ?_⟩⟩
  simp only [steppedKind, hnow]

/-- An RX_DC step that writes nothing and has settled ends the run. -/
theorem exec_calStepComplete_settled (hr : (s.cal.kind 0).run = some r) (hx : x.writes = []) (hf : x.figures = [])
    (hset : x.settled = true) (hkept : (s.advance t).stepKept 0 x = true) :
    exec (.calStepComplete t 0 x) s =
      .next (((s.advance t).setKind 0 (steppedKind 0 r x (s.advance t, [], 0))).endRun 0 0) := by
  have hgo : (s.advance t).stepConverges 0 x 0 r.paths = true := by simp [State.stepConverges, hset]
  exact (exec_calStepComplete_kept (k := 0) (n := 0) rfl (by decide) hr hf hkept (State.writeStep_empty hx)).trans
    (congrArg Host.Outcome.next (if_pos hgo))

/-- A kind whose run ends now. -/
def State.kindEnded (s : State) (c : CalKind) : CalKind := { c with run := none, runAt := some (s.now, s.thermal.tj) }

/-- The state at the end of a run of kind `k`, before EV_CAL_DONE. -/
def State.runEnded (s : State) (k : Nat) (r : CalRun) : State :=
  { s.setKind k s.kindEnded with radio := if r.activeSyn = true then { s.radio with readySince := s.now } else s.radio }

/-- What the end of a run leaves as it is. -/
@[simp] theorem State.runEnded_keeps (s : State) (k : Nat) (r : CalRun) :
    (s.runEnded k r).now = s.now ∧ (s.runEnded k r).cal.channel = s.cal.channel ∧
    (s.runEnded k r).cal.steps = s.cal.steps := ⟨rfl, rfl, rfl⟩

/-- A kind after the end of a run of kind `k`. -/
@[simp] theorem State.runEnded_kind (s : State) (k j : Nat) (r : CalRun) :
    (s.runEnded k r).cal.kind j = if j = k then s.kindEnded (s.cal.kind k) else s.cal.kind j :=
  s.setKind_kind k j _

/-- The end of a run raises EV_CAL_DONE with the figures of the kind. -/
theorem State.endRun_running {k : Nat} (hr : (s.cal.kind k).run = some r) (result : Nat) :
    s.endRun k result = (s.runEnded k r).raiseEvent 0x0901 .info (le 1 k ++ le 1 result ++
      leSat 2 (s.cal.kind k).residual ++ leSat 2 (s.cal.kind k).sigma ++ le 1 r.cause ++ zeros 9) := by
  have hdone : s.endRun k result = (s.runEnded k r).calDone k result r.cause := by
    simp only [State.endRun, hr, State.runEnded]
    split <;> rfl
  rw [hdone, State.calDone, State.runEnded_kind, if_pos rfl]
  rfl

/-- The end of a run beside EV_CAL_DONE. -/
theorem State.endRun_keeps {k : Nat} (hr : (s.cal.kind k).run = some r) (result : Nat) :
    (s.endRun k result).cal = (s.runEnded k r).cal ∧ (s.endRun k result).now = s.now := by
  rw [State.endRun_running hr]
  simp

/-- No run, no end. -/
theorem State.endRun_none {k : Nat} (h : (s.cal.kind k).run = none) (result : Nat) : s.endRun k result = s := by
  simp only [State.endRun, h]

/-- A step for the active synthesiser moves nothing unless the host asked for it. -/
theorem State.synStep_active (s : State) (a b : Int) : (s.synStep false [(s.radio.active, a, b)]).1 = s := by
  simp [State.synStep]

/-! ### Triggers and starvation (R286, R287, R300) -/

/-- A kind that never ran is not triggered. -/
theorem exec_calRunTrigger_never (h : (s.cal.kind k).runAt = none) : exec (.calRunTrigger t k) s = .next (s.advance t) := by
  change execCalRunTrigger t k s = _
  simp only [execCalRunTrigger, State.advance_frame, h]

/-- The triggers of a kind but XDEV: cause 0 by temperature, cause 1 by age. -/
theorem exec_calRunTrigger_ran {a : Nat} {tj : Int} (h : (s.cal.kind k).runAt = some (a, tj)) (hk : k.val ≠ 9) :
    exec (.calRunTrigger t k) s = .next
      (if Tab.get s.cal.deltaT k 4 ≠ 0 ∧ 100 * Tab.get s.cal.deltaT k 4 < (s.thermal.tj - tj).natAbs then
        (s.advance t).startRuns 0 [k.val] (s.path.rxMask ||| s.path.txMask) false
      else if Tab.get s.cal.intervalS k 3600 ≠ 0 ∧ a + Tab.get s.cal.intervalS k 3600 * 384000000000 ≤ max s.now t then
        (s.advance t).startRuns 1 [k.val] (s.path.rxMask ||| s.path.txMask) false
      else s.advance t) := by
  change execCalRunTrigger t k s = _
  simp only [execCalRunTrigger, State.advance_frame, h, hk, false_and, if_false, Bool.and_eq_true, bne_iff_ne,
    decide_eq_true_eq, State.enabledPaths]
  split
  · rfl
  · rw [apply_ite Host.Outcome.next]
    rfl

/-- The run of one kind that the supervisor may start and that does not run. -/
theorem State.startRuns_one {k : Nat} (ha : s.cal.auto k = true) (hr : (s.cal.kind k).run = none) (cause : Nat)
    (paths : Mask64) :
    (s.startRuns cause [k] paths false).cal.kind k = s.runStarted cause paths false (s.cal.kind k) ∧
    ∀ j, j ≠ k → (s.startRuns cause [k] paths false).cal.kind j = s.cal.kind j := by
  constructor
  · simp [State.startRuns_kind, ha, hr]
  · intro j hj
    simp [State.startRuns_kind, hj]

/-- Without a run there is no starvation. -/
theorem exec_calStarved_notRunning {l : Fin 4} (h : (s.cal.kind k).run = none) : exec (.calStarved k l) s = .next s := by
  change execCalStarved k l s = _
  simp only [execCalStarved, h]

/-- The instant at which a run starves. -/
def State.starvesAt (s : State) (r : CalRun) : Nat := r.usefulAt + s.cal.starveS * 384000000000

/-- A run that starves within STARVE_S of the kind's last EV_CAL_STARVED ends without another. -/
theorem exec_calStarved_silent {l : Fin 4} {a : Nat} (hr : (s.cal.kind k).run = some r)
    (ha : (s.cal.kind k).starvedAt = some a) (hs : max s.now (s.starvesAt r) < a + s.cal.starveS * 384000000000) :
    exec (.calStarved k l) s = .next ((s.advance (s.starvesAt r)).endRun k 1) := by
  change execCalStarved k l s = _
  have htell : ¬ a + s.cal.starveS * Config.sec ≤ Nat.max s.now (r.usefulAt + s.cal.starveS * Config.sec) :=
    Nat.not_le.mpr hs
  simp only [execCalStarved, hr, State.advance_frame, ha, State.advance_now, htell, decide_false, Bool.not_false, if_true]
  rfl

/-- The state after a starved run has ended and the starvation is counted, before EV_CAL_STARVED. -/
def State.starved (s : State) (k : Nat) : State :=
  (s.endRun k 1).setKind k
    (fun c => { c with starved := satAdd 16 c.starved 1, starvedAt := some (s.endRun k 1).now })

/-- What a starved run leaves and changes. -/
theorem State.starved_shows {k : Nat} (hr : (s.cal.kind k).run = some r) :
    (s.starved k).now = s.now ∧ (s.starved k).cal.channel = s.cal.channel ∧ (s.starved k).cal.steps = s.cal.steps ∧
    (s.starved k).cal.kind k =
      { s.kindEnded (s.cal.kind k) with starved := satAdd 16 (s.cal.kind k).starved 1, starvedAt := some s.now } ∧
    ∀ j, j ≠ k → (s.starved k).cal.kind j = s.cal.kind j := by
  obtain ⟨hcal, hnow⟩ := State.endRun_keeps hr 1
  refine ⟨hnow, ?_, ?_, ?_, fun j hj => ?_⟩
  · simp [State.starved, hcal]
  · simp [State.starved, hcal]
  · rw [State.starved, State.setKind_kind, if_pos rfl, hcal, hnow, State.runEnded_kind, if_pos rfl]
    rfl
  · rw [State.starved, State.setKind_kind, if_neg hj, hcal, State.runEnded_kind, if_neg hj]

/-- A run that starves for the first time ends, and the starvation is counted and reported. -/
theorem exec_calStarved_first {l : Fin 4} {a : Nat} (hr : (s.cal.kind k).run = some r)
    (hs : (s.cal.kind k).starvedAt = none) (ha : (s.cal.kind k).updatedAt = some a) :
    exec (.calStarved k l) s = .next (((s.advance (s.starvesAt r)).starved k).raiseEvent 0x0903 .warn
      (le 1 k ++ le 1 l ++ zeros 2 ++ le 4 ((((s.advance (s.starvesAt r)).starved k).now - a) / 384000000000) ++ zeros 8)) := by
  change execCalStarved k l s = _
  obtain ⟨-, -, -, hkind, -⟩ := State.starved_shows (s := s.advance (s.starvesAt r)) hr
  have hage := State.calAge_updated ((congrArg CalKind.updatedAt hkind).trans ha)
  refine Eq.trans (b := .next ((((s.advance (s.starvesAt r)).starved k).calAge k).2.raiseEvent 0x0903 .warn
    (le 1 k ++ le 1 l ++ zeros 2 ++ le 4 (((s.advance (s.starvesAt r)).starved k).calAge k).1 ++ zeros 8))) ?_ (by rw [hage])
  simp only [execCalStarved, hr, State.advance_frame, hs, Bool.not_true, Bool.false_eq_true, if_false]
  rfl

end

/-! ### Cross-device coherence (R292, R293) -/

/-- A sample lies at or after the instant asked for. -/
theorem State.le_sampleAt (s : State) (t : Nat) {g : Nat} (hg : 0 < g) : t ≤ s.sampleAt t g := by
  have hmod : (t - s.boot.gridAt + g - 1) % g < g := Nat.mod_lt _ hg
  have hdiv := Nat.div_add_mod' (t - s.boot.gridAt + g - 1) g
  simp only [State.sampleAt]
  split <;> omega

section
variable {s : State} {t : Nat} {snr : Int} {span : Nat} {p : XdevPart}

/-- An internal swap of a running cascade, where none is pending, comes 200 us after now at the earliest. -/
theorem State.internalSwap_inCascade (hh : s.beam.host = none) (hi : s.beam.internal = none) (hc : s.inCascade = true)
    (cause : Nat) : ∃ i, s.now + 76800000 ≤ i ∧ s.internalSwap cause =
      { s with beam := { s.beam with internal := some { instant := i, scheduled := false, cause := cause } } } := by
  refine ⟨_, s.le_sampleAt (s.now + 200 * Config.us) (by decide : 0 < Config.outSample), ?_⟩
  simp only [State.internalSwap, State.internalSwapAt, hh, hi, hc, if_true]

/-- The manager with a joined worker works in a running cascade. -/
theorem State.inCascade_manager {d : Nat} (hr : s.role = .manager) (hj : s.joinedWorkers = [d]) : s.inCascade = true := by
  simp [State.inCascade, hr, hj]

/-- A snapshot that may not count changes nothing but time. -/
theorem exec_xdevSnapshotEval_refused (ok inside : Bool) (ps : List XdevPart)
    (h : s.role ≠ .manager ∨ ok = false ∨ inside = false ∨ snr < 100 * (s.cal.xdevSnrMin : Int)) :
    exec (.xdevSnapshotEval t ok snr inside span ps) s = .next (s.advance t) := by
  change execXdevSnapshotEval t ok snr inside span ps s = _
  refine if_pos ?_
  rcases h with h | rfl | rfl | h
  · exact .inl h
  · exact .inr (.inl rfl)
  · exact .inr (.inr (.inl rfl))
  · exact .inr (.inr (.inr (.inl h)))

/-- The kind XDEV after a snapshot that counts, with the worst sigma of the estimates. -/
def State.xdevMeasured (s : State) (worst : Nat) (c : CalKind) : CalKind :=
  { c with
    ran := true, updates := satAdd 16 c.updates 1, updatedAt := some s.now, tjLast := s.thermal.tj, residual := worst
    sigma := worst, source := 2, run := c.run.map (fun r => { r with usefulAt := s.now }) }

/-- The calibration with one device's part of a snapshot added. -/
def Cal.withPart (c : Cal) (span : Nat) (p : XdevPart) : Cal :=
  { c with
    xdev := Tab.set c.xdev p.position ((Tab.get c.xdev p.position {}).add span p), xdevPackets := c.xdevPackets + 1 }

/-- The state after a snapshot with one part that counts. -/
def State.xdevNoted (s : State) (span : Nat) (p : XdevPart) : State :=
  ({ s with cal := s.cal.withPart span p } : State).setKind 9 (s.xdevMeasured (s.cal.withPart span p).worstSigma)

/-- The estimate of the device after its part is added. -/
theorem State.xdevNoted_estimate (s : State) (span : Nat) (p : XdevPart) :
    Tab.get (s.xdevNoted span p).cal.xdev p.position {} = (Tab.get s.cal.xdev p.position {}).add span p :=
  (Tab.get_set _ _ _ _ _).trans (if_pos rfl)

/-- XDEV after a snapshot that counts. -/
theorem State.xdevNoted_kind (s : State) (span : Nat) (p : XdevPart) :
    (s.xdevNoted span p).cal.kind 9 = s.xdevMeasured (s.cal.withPart span p).worstSigma (s.cal.kind 9) :=
  (State.setKind_kind _ 9 9 _).trans (if_pos rfl)

/-- Coherence with one joined worker turns on its packets and its sigma. -/
theorem State.xdevNoted_coherent (hj : s.joinedWorkers = [p.position]) :
    (s.xdevNoted span p).coherent =
      (decide (8 ≤ ((Tab.get s.cal.xdev p.position {}).add span p).packets) &&
        decide (((Tab.get s.cal.xdev p.position {}).add span p).sigma < 1000)) := by
  have hj' : (s.xdevNoted span p).joinedWorkers = [p.position] := hj
  simp only [State.coherent, hj', List.all_cons, List.all_nil, Bool.and_true, State.xdevNoted_estimate]

/-- The first coherence: full combining, and the kind has converged. -/
def State.xdevConverge (s : State) : State :=
  ({ s with cal := { s.cal with xdevConverged := true } } : State).setKind 9 (fun c => { c with converged := true })

/-- XDEV after its first coherence. -/
theorem State.xdevConverge_kind (s : State) : s.xdevConverge.cal.kind 9 = { s.cal.kind 9 with converged := true } :=
  (State.setKind_kind _ 9 9 _).trans (if_pos rfl)

/-- The parts of the joined workers. -/
theorem State.filter_partOfJoined (hj : s.joinedWorkers = [p.position]) :
    [p].filter (fun q => (s.advance t).joinedWorkers.contains q.position) = [p] := by
  have hj' : (s.advance t).joinedWorkers = [p.position] := hj
  simp [hj']

/-- A snapshot of a joined worker at XDEV_SNR_MIN or above passes the manager's checks. -/
theorem State.snapshot_passesChecks (hr : s.role = .manager) (hj : s.joinedWorkers = [p.position])
    (hs : 100 * (s.cal.xdevSnrMin : Int) ≤ snr) :
    ¬ ((s.advance t).role ≠ .manager ∨ (!true) = true ∨ (!true) = true ∨
      snr < 100 * ((s.advance t).cal.xdevSnrMin : Int) ∨ (s.advance t).joinedWorkers.isEmpty = true) := by
  have hj' : (s.advance t).joinedWorkers = [p.position] := hj
  have hr' : (s.advance t).role = .manager := hr
  simp [hj', hr', Int.not_lt.mpr hs]

/-- A snapshot of one joined worker that counts and does not bring coherence. -/
theorem exec_xdevSnapshotEval_incoherent (hr : s.role = .manager) (hj : s.joinedWorkers = [p.position])
    (hs : 100 * (s.cal.xdevSnrMin : Int) ≤ snr) (hc : ((s.advance t).xdevNoted span p).coherent = false) :
    exec (.xdevSnapshotEval t true snr true span [p]) s = .next ((s.advance t).xdevNoted span p) := by
  change execXdevSnapshotEval t true snr true span [p] s = _
  refine (if_neg (State.snapshot_passesChecks hr hj hs)).trans ?_
  rw [State.filter_partOfJoined hj]
  exact if_pos (congrArg not hc)

/-- A snapshot of one joined worker that counts and brings the first coherence. -/
theorem exec_xdevSnapshotEval_coherent (hr : s.role = .manager) (hj : s.joinedWorkers = [p.position])
    (hs : 100 * (s.cal.xdevSnrMin : Int) ≤ snr) (hc : ((s.advance t).xdevNoted span p).coherent = true)
    (hf : s.cal.xdevConverged = false) (hn : (s.cal.kind 9).run = none) :
    exec (.xdevSnapshotEval t true snr true span [p]) s = .next
      (((s.advance t).xdevNoted span p).xdevConverge.takeFactors [p.position] 16) := by
  change execXdevSnapshotEval t true snr true span [p] s = _
  have hrun : (((s.advance t).xdevNoted span p).xdevConverge.cal.kind 9).run = none := by
    rw [State.xdevConverge_kind, State.xdevNoted_kind]
    exact Option.map_eq_none_iff.mpr hn
  refine (if_neg (State.snapshot_passesChecks hr hj hs)).trans ?_
  rw [State.filter_partOfJoined hj]
  refine (if_neg (Bool.eq_false_iff.mp (congrArg not hc))).trans ((if_pos (congrArg not hf)).trans ?_)
  change Host.Outcome.next ((((s.advance t).xdevNoted span p).xdevConverge.endRun 9 0).takeFactors
    (((s.advance t).xdevNoted span p).xdevConverge.endRun 9 0).joinedWorkers 16) = _
  rw [State.endRun_none hrun]
  exact congrArg (fun l => Host.Outcome.next (((s.advance t).xdevNoted span p).xdevConverge.takeFactors l 16)) hj

/-- The factor of a position taken from its estimate, the values before kept, and the factor sent. -/
def State.factorTaken (s : State) (d : Nat) : State :=
  let x := Tab.get s.cal.xdev d {}
  let v : State := { s with cal := { s.cal with xdev := Tab.set s.cal.xdev d { x with factor := x.ratio } } }
  (v.setKind 9 (fun c => { c with before := [(d, leS 2 x.factor.i ++ leS 2 x.factor.q)] })).message d 5
    (le 1 1 ++ zeros 3 ++ leS 2 x.ratio.i ++ leS 2 x.ratio.q)

/-- Taking the factor of one position: the factor, then the swap that activates it. -/
theorem State.takeFactors_one (s : State) (d cause : Nat) :
    s.takeFactors [d] cause = (s.factorTaken d).internalSwap cause := by
  have hfactor : (Tab.get (Tab.update s.cal.xdev [d] {} (fun _ x => { x with factor := x.ratio })) d {}).factor =
      (Tab.get s.cal.xdev d {}).ratio := by
    simp [Tab.update]
  simp only [State.takeFactors, State.sendFactors, List.foldl_cons, List.foldl_nil, List.map_cons, List.map_nil,
    State.setKind_cal, hfactor]
  rfl

/-- The factor in force after it was taken. -/
theorem State.factorTaken_factor (s : State) (d : Nat) :
    (Tab.get (s.factorTaken d).cal.xdev d {}).factor = (Tab.get s.cal.xdev d {}).ratio := by
  simp [State.factorTaken]

/-- Taking a factor leaves the convergence of XDEV as it is. -/
theorem State.factorTaken_converged (s : State) (d : Nat) :
    ((s.factorTaken d).cal.kind 9).converged = (s.cal.kind 9).converged := by
  simp only [State.factorTaken, State.message_frame, State.setKind_kind, if_true]
  rfl

end

/-! ### Stores (R296) -/

section
variable {s : State} {t : Nat}

/-- A write of the device's own adds to the queue of record writes at most. -/
theorem State.nvOwnWrite_queue (s : State) (rec : NvRecord) (data : List Byte) :
    ∃ l, s.nvOwnWrite rec data = { s with nv := { s.nv with queue := s.nv.queue ++ l } } := by
  unfold State.nvOwnWrite
  split
  · exact ⟨_, rfl⟩
  · exact ⟨[], by rw [List.append_nil]⟩

/-- Time changes no temperature. -/
@[simp] theorem State.nvTempOk_advance (s : State) (t : Nat) : (s.advance t).nvTempOk = s.nvTempOk := rfl

/-- With no active entry and a gain step whose kind has not converged, nothing is stored. -/
theorem exec_calAutoStore_none (he : s.cal.entry = none) (hc : (s.cal.kind 0).converged = false) :
    exec (.calAutoStore t) s = .next (s.advance t) := by
  change execCalAutoStore t s = _
  simp only [execCalAutoStore, State.advance_frame, he, hc, Bool.false_and, Bool.false_eq_true, if_false]

/-- With no active entry, the step set of a converged gain step that was never stored is queued. -/
theorem exec_calAutoStore_step (he : s.cal.entry = none) (hc : (s.cal.kind 0).converged = true) (hq : s.nv.queue = [])
    (hn : Tab.find? s.nv.calStep s.path.step = none) (ha : Tab.find? s.cal.storedAt (256 + s.path.step) = none) :
    exec (.calAutoStore t) s = .next ((s.advance t).nvOwnWrite (.calStep s.path.step) (s.advance t).sealStep) := by
  change execCalAutoStore t s = _
  simp [execCalAutoStore, he, hc, hn, ha, hq, sameBody, State.storeDue, State.nvQueued]

/-- The set of the active entry, with every kind converged, is queued first; the step set may follow. -/
theorem exec_calAutoStore_channel {e a : Nat} (he : s.cal.entry = some e)
    (hc : ∀ k : Fin 10, (s.cal.kind k).converged = true) (hq : s.nv.queue = [])
    (hn : Tab.find? s.nv.calChannel e = none) (ha : Tab.find? s.cal.storedAt e = some a)
    (hd : a + s.cal.storeIntervalS * 384000000000 ≤ max s.now t) (ht : s.nvTempOk = true) :
    ∃ l, exec (.calAutoStore t) s = .next { s.advance t with nv := { s.nv with
      queue := { record := .calChannel e, data := (s.advance t).sealChannel e } :: l } } := by
  change ∃ l, execCalAutoStore t s = _
  have hall : channelKinds.all (fun k => (s.cal.kind k).converged) = true :=
    List.all_eq_true.mpr fun k hk => hc ⟨k, by revert k; decide⟩
  have hdue : (channelKinds.all (fun k => (s.cal.kind k).converged) &&
      !sameBody channelSetLen (Tab.find? s.nv.calChannel e) ((s.advance t).sealChannel e) &&
      (s.advance t).storeDue e && !(s.advance t).nvQueued (.calChannel e)) = true := by
    simp [hall, hn, sameBody, State.storeDue, ha, Config.sec, hd, State.nvQueued, hq]
  have hown : (s.advance t).nvOwnWrite (.calChannel e) ((s.advance t).sealChannel e) = { s.advance t with nv := { s.nv with
      queue := [{ record := .calChannel e, data := (s.advance t).sealChannel e }] } } := by
    simp [State.nvOwnWrite, State.nvEnqueue, ht, hq]
  simp only [execCalAutoStore, State.advance_frame, he]
  rw [if_pos hdue, hown]
  split
  · obtain ⟨l, hl⟩ := State.nvOwnWrite_queue { s.advance t with nv := { s.nv with
      queue := [{ record := .calChannel e, data := (s.advance t).sealChannel e }] } } _ _
    exact ⟨l, congrArg Host.Outcome.next hl⟩
  · exact ⟨[], rfl⟩

end

/-- Settles O32: the bounds of a trim, then each row of the supervisor by its rule above. -/
theorem calibrationRuns : Obligations.CalibrationRuns := by
  unfold Obligations.CalibrationRuns
  refine ⟨?_, ?_, ?_, ?_, ?_, ?_, ?_, ?_, ?_, ?_, ?_, ?_, ?_, ?_, ?_, ?_, ?_, ?_⟩
  · intro k old new hk hlo hhi
    obtain ⟨hdown, hup⟩ := trimToward_step hk hlo hhi new
    obtain ⟨hmin, hmax⟩ := trimToward_range hk old new
    exact ⟨hdown, hup, hmin, hmax, trimToward_reaches hk⟩
  · exact fun s t k x hk hr => exec_calStepComplete_notRunning hk hr
  · exact fun s t k x hk hd => exec_calStepComplete_disturbed hk hd
  · intro s t x r b p i q hr hp hc hlen hx hf hset hq hb hkept
    obtain ⟨f, hexec, hkind⟩ := exec_calStepComplete_rxIq hr hp hc hx hf hset hq hb hkept
    obtain ⟨hlength, hiTrim, hqTrim, hothers⟩ := patch_rxIqTrims hlen p i q
    obtain ⟨hupdates, hsource, hwhen, hresidual, hsigma, hrun⟩ := hkind (s.cal.kind 1)
    have hstep := State.setKind_kind { s.advance t with cal := { s.cal with
      channel := some (patch b (0x20 + 24 * p) (rxIqTrims b p i q)) } } 1 (f := f)
    exact ⟨_, hexec, hlength, hiTrim, hqTrim, hothers, (congrArg CalKind.updates (hstep 1)).trans hupdates,
      (congrArg CalKind.source (hstep 1)).trans hsource,
      (congrArg CalKind.updatedAt (hstep 1)).trans hwhen, (congrArg CalKind.residual (hstep 1)).trans hresidual,
      (congrArg CalKind.sigma (hstep 1)).trans hsigma, (congrArg CalKind.run (hstep 1)).trans hrun,
      fun j hj => (hstep j).trans (if_neg hj), rfl, rfl⟩
  · intro s t x r hr hx hf hset hkept
    let u := (s.advance t).setKind 0 (steppedKind 0 r x (s.advance t, [], 0))
    have hkind : u.cal.kind 0 = steppedKind 0 r x (s.advance t, [], 0) (s.cal.kind 0) :=
      (State.setKind_kind _ 0 0 _).trans (if_pos rfl)
    have hconv : (steppedKind 0 r x (s.advance t, [], 0) (s.cal.kind 0)).converged = true := by
      simp [steppedKind, State.stepConverges, hset]
    refine ⟨u.runEnded 0 { r with usefulAt := max s.now t }, ?_, ?_⟩
    · refine (exec_calStepComplete_settled hr hx hf hset hkept).trans (congrArg Host.Outcome.next ?_)
      refine (State.endRun_running (s := u) (r := { r with usefulAt := max s.now t }) (congrArg CalKind.run hkind) 0).trans ?_
      rw [hkind]
      rfl
    · rw [State.runEnded_kind, if_pos rfl, hkind]
      exact ⟨rfl, hconv, rfl, rfl, rfl, rfl⟩
  · exact State.synStep_active
  · exact fun s t k h => exec_calRunTrigger_never h
  · intro s t k a tj h hk hd ha hr hhot
    obtain ⟨hkind, hothers⟩ := State.startRuns_one (s := s.advance t) ha hr 0 (s.path.rxMask ||| s.path.txMask)
    refine ⟨_, (exec_calRunTrigger_ran h hk).trans (by rw [if_pos ⟨hd, hhot⟩]), ?_,
      fun j hj => hothers j (Fin.val_ne_of_ne hj),
      congrArg (fun u : State => { u with now := s.now }) ((s.advance t).startRuns_kindsOnly 0 _ _ false)⟩
    rw [State.startRuns_now]
    exact hkind
  · intro s t k a tj h hk hcool hi ha hr ht
    have hexec := exec_calRunTrigger_ran (t := t) h hk
    rw [if_neg (fun hhot => Nat.not_lt.mpr hcool hhot.2), Nat.max_eq_right ht] at hexec
    split
    · rename_i hlate
      obtain ⟨hkind, -⟩ := State.startRuns_one (s := s.advance t) ha hr 1 (s.path.rxMask ||| s.path.txMask)
      rw [if_pos ⟨hi, hlate⟩] at hexec
      refine ⟨_, hexec, (congrArg CalKind.run hkind).trans ?_⟩
      simp only [State.runStarted, State.advance_now, Nat.max_eq_right ht]
    · rename_i hearly
      rw [if_neg (fun hlate => hearly hlate.2)] at hexec
      exact ⟨_, hexec, hr⟩
  · exact fun s k l h => exec_calStarved_notRunning h
  · intro s k l r a hr hs ha
    obtain ⟨hnow, hchannel, hsteps, hkind, hothers⟩ := State.starved_shows (s := s.advance (s.starvesAt r)) hr
    refine ⟨_, exec_calStarved_first hr hs ha, hnow, ?_⟩
    rw [hkind, hnow]
    exact ⟨rfl, Nat.min_comm _ _, rfl, rfl, hchannel, hsteps, fun j hj => hothers j (Fin.val_ne_of_ne hj)⟩
  · intro s k l r a hr hact ha hs
    refine ⟨(s.advance (s.starvesAt r)).runEnded k r,
      (exec_calStarved_silent hr ha hs).trans
        (congrArg Host.Outcome.next (State.endRun_running (s := s.advance (s.starvesAt r)) hr 1)), ?_, ?_, ?_⟩
    · rw [State.runEnded_kind, if_pos rfl]
      rfl
    · rw [State.runEnded_kind, if_pos rfl]
      rfl
    · rw [State.runEnded, hact]
      rfl
  · exact fun s t ok inside snr span ps h => exec_xdevSnapshotEval_refused ok inside ps h
  · intro s t snr span p hr hj hs hp
    have hpackets : ((Tab.get s.cal.xdev p.position {}).add span p).packets < 8 :=
      Nat.lt_of_le_of_lt (Nat.min_le_left _ _) (Nat.succ_lt_succ hp)
    have hc : ((s.advance t).xdevNoted span p).coherent = false := by
      rw [State.xdevNoted_coherent (s := s.advance t) hj]
      simp [Nat.not_le.mpr hpackets]
    exact ⟨_, exec_xdevSnapshotEval_incoherent hr hj hs hc, State.xdevNoted_estimate _ span p, rfl, rfl, rfl⟩
  · intro s t snr span p hr hj hs hf hn hi hh hp hsig
    have hpackets : 8 ≤ ((Tab.get s.cal.xdev p.position {}).add span p).packets :=
      Nat.le_min.mpr ⟨Nat.succ_le_succ hp, by decide⟩
    have hc : ((s.advance t).xdevNoted span p).coherent = true := by
      rw [State.xdevNoted_coherent (s := s.advance t) hj]
      simp [hpackets, hsig]
    let u := ((s.advance t).xdevNoted span p).xdevConverge
    obtain ⟨i, hle, hswap⟩ := State.internalSwap_inCascade (s := u.factorTaken p.position) hh hi
      (State.inCascade_manager hr hj) 16
    refine ⟨_, exec_xdevSnapshotEval_coherent hr hj hs hc hf hn, ?_⟩
    rw [State.takeFactors_one, hswap]
    refine ⟨rfl, ?_, ?_, ⟨_, rfl, rfl, hle⟩, rfl⟩
    · exact (State.factorTaken_converged u p.position).trans (congrArg CalKind.converged (State.xdevConverge_kind _))
    · exact (State.factorTaken_factor u p.position).trans
        (congrArg XdevEstimate.ratio (State.xdevNoted_estimate (s.advance t) span p))
  · exact fun s t he hc => exec_calAutoStore_none he hc
  · exact fun s t he hc hq hn ha => exec_calAutoStore_step he hc hq hn ha
  · intro s t e a he hc hq hn ha hnow hd hlo hhi
    obtain ⟨l, hexec⟩ := exec_calAutoStore_channel he hc hq hn ha (Nat.le_trans hd (Nat.le_max_right ..))
      (State.nvTempOk_of_range hlo hhi)
    exact ⟨_, hexec, rfl, rfl⟩

end Sys2Proof.Machine
end

section
/-!
PROOFS. The cascade (family 12): relays of commands, what shared operations leave of the cascade's side, breaks and joins, the
commands of Table LCL-6, time and strobes, then the statements.
-/

namespace Sys2Proof.Machine

open Sys2Proof

/-! ### Moving time -/

section
variable (s : State) (t : Nat)

/-- Moving time leaves the identity of the device and what it has relayed as they are. -/
@[simp] theorem State.advance_keepsIdentity :
    (s.advance t).role = s.role ∧ (s.advance t).isWorker = s.isWorker ∧ (s.advance t).position = s.position ∧
    (s.advance t).joinedWorkers = s.joinedWorkers ∧ (s.advance t).findRelayed = s.findRelayed ∧
    (s.advance t).ownBusy = s.ownBusy ∧ (s.advance t).knows = s.knows ∧ (s.advance t).upperReady = s.upperReady := by
  repeat' apply And.intro
  all_goals rfl

end

/-! ### Who runs a command (R319, R407) -/

section
variable {s : State} {sp : CmdSpec} {r : Running}

/-- A command addressed to a worker's position goes there alone. -/
theorem State.relayTargets_position (hr : s.role = .manager) (hc : r.cascade = false) (hrule : sp.rule ≠ .managerOnly)
    (ht : r.cmd.target < s.lcl.position) (hb : r.cmd.target ≠ 0xFFFF) : s.relayTargets sp r = [r.cmd.target] := by
  simp [State.relayTargets, hr, hc, hrule, hb, Nat.ne_of_lt ht]

/-- A command addressed to a worker's position does not run on the manager. -/
theorem State.runsHere_position (hr : s.role = .manager) (hc : r.cascade = false) (ht : r.cmd.target < s.lcl.position)
    (hb : r.cmd.target ≠ 0xFFFF) : s.runsHere r = false := by
  simp [State.runsHere, hr, hc, hb, Nat.ne_of_lt ht]

/-- A command addressed to every device goes to every joined worker. -/
theorem State.relayTargets_broadcast (hr : s.role = .manager) (hc : r.cascade = false) (hrule : sp.rule ≠ .managerOnly)
    (hb : r.cmd.target = 0xFFFF) (hn : sp.noRelay r.cmd.payload = false) : s.relayTargets sp r = s.joinedWorkers := by
  simp [State.relayTargets, hr, hc, hrule, hb, hn]

/-- A command addressed to every device runs here too. -/
theorem State.runsHere_broadcast (hb : r.cmd.target = 0xFFFF) : s.runsHere r = true := by
  simp [State.runsHere, hb]

/-- Away from a manager no command is relayed, and every command runs here. -/
theorem State.relay_notManager (hr : s.role ≠ .manager) : s.relayTargets sp r = [] ∧ s.runsHere r = true := by
  simp [State.relayTargets, State.runsHere, hr]

/-- A command that the manager relays without running it passes its checks and its relay starts. -/
theorem runCommand_relayed {body : Running → State → CmdEffect} (hn : s.nextCommand = some r) (ho : r.cmd.opcode = sp.opcode)
    (he : s.envelopeCheck sp r = none) (hh : s.runsHere r = false) :
    runCommand sp body s = .next (s.startRelay sp r none (s.relayTargets sp r)) := by
  simp [runCommand, hn, ho, State.execute, he, hh]

/-- The target check passes a joined worker's position. -/
theorem State.targetCheck_joined (hr : s.role = .manager) (ht : r.cmd.target < s.lcl.position)
    (hj : (Tab.get s.lcl.positions r.cmd.target {}).state = .joined) : s.targetCheck r = none := by
  simp [State.targetCheck, hr, hj, Nat.not_lt_of_gt ht]

/-- A reply that waits for its completion is kept with the command. -/
theorem close_deferred {e : CmdEffect} (hl : s.relayTargets sp r = []) (hd : e.defer = true) :
    s.close sp r e = { e.state with cmd := e.state.cmd.setPhase r.order (.deferred e.reply) } := by
  simp [State.close, State.finish, hl, hd]

/-- SYS_ECHO addressed to a joined worker: one message of channel 0, and the wait for its answer. -/
theorem exec_sysEcho_relayed (hn : s.nextCommand = some r) (ho : r.cmd.opcode = 0x0101) (hl : r.cmd.length ≤ 4096)
    (hr : s.role = .manager) (hc : r.cascade = false) (ht : r.cmd.target < s.lcl.position) (hb : r.cmd.target ≠ 0xFFFF)
    (hj : (Tab.get s.lcl.positions r.cmd.target {}).state = .joined) :
    exec .sysEcho s = .next { s with
      lcl := { s.lcl with sent := s.lcl.sent ++ [⟨r.cmd.target, 0, relayBytes r.cmd⟩] }
      cmd := s.cmd.setPhase r.order (.relayed none
        { broadcast := false, targets := [r.cmd.target], sentAt := s.now
          deadline := s.now + s.lcl.relayTimeoutMs * Config.ms + 0 }) } := by
  change runCommand specSysEcho echoBody s = _
  have he : s.envelopeCheck specSysEcho r = none := by
    simp [State.envelopeCheck, State.targetCheck_joined hr ht hj, State.ruleCheck, specSysEcho, Nat.not_lt_of_ge hl]
  rw [runCommand_relayed hn ho he (State.runsHere_position hr hc ht hb),
    State.relayTargets_position (sp := specSysEcho) hr hc (by decide) ht hb, State.startRelay, decide_eq_false hb]
  rfl

end

/-- Settles O48: who runs a command by its target, SYS_ECHO by its relay, and a deferred reply by `close`. -/
theorem commandRelay : Obligations.CommandRelay := by
  unfold Obligations.CommandRelay
  refine ⟨?_, ?_, ?_, ?_, ?_⟩
  · intro s sp r hr hc hrule ht hb
    exact ⟨State.relayTargets_position hr hc hrule ht hb, State.runsHere_position hr hc ht hb⟩
  · intro s sp r hr hc hrule hb hn
    exact ⟨State.relayTargets_broadcast hr hc hrule hb hn, State.runsHere_broadcast hb⟩
  · intro s sp r hr
    exact State.relay_notManager (by simp [hr])
  · intro s r hn ho hl hr hc ht hb hj
    exact exec_sysEcho_relayed hn ho hl hr hc ht hb hj
  · intro s sp r e _ hl hd
    exact close_deferred hl hd

/-! ### Relays in progress (R319) -/

section
variable {s : State} {r : Running} {rel : Relay} {mbx : Fin 4} {pos : Nat}

/-- Where no position has answered, all are silent. -/
theorem Relay.silent_unanswered (ha : rel.answers = []) : rel.silent = rel.targets := by
  simp [Relay.silent, ha]

/-- No silent position: none counts RELAY_ERR. -/
@[simp] theorem State.countRelayErr_nil (s : State) : s.countRelayErr [] = s := rfl

/-- A relay that has settled, the manager having no part of its own: silent positions count RELAY_ERR, and the answer that came
is the response, or TIMEOUT. -/
theorem State.tryFinishRelay_settled (hs : s.relaySettled rel = true) (hb : s.ownBusy r = false) :
    s.tryFinishRelay r none rel = (s.countRelayErr rel.silent).respond r (rel.reply.getD ⟨Status.timeout, []⟩) := by
  simp [State.tryFinishRelay, hs, hb, State.relayReply]

/-- The response of the one position that a command went to. -/
theorem exec_relayResponse_single (t status : Nat) (payload : List Byte) (hf : s.findRelayed mbx.val = some (r, none, rel))
    (ht : rel.targets = [pos]) (ha : rel.answers = []) (hb : s.ownBusy r = false) :
    exec (.relayResponse t mbx r.cmd.tag pos status payload) s = .next ((s.advance t).respond r ⟨status, payload⟩) := by
  change execRelayResponse t mbx r.cmd.tag pos status payload s = _
  have hstep : execRelayResponse t mbx r.cmd.tag pos status payload s = .next ((s.advance t).tryFinishRelay r none
      { rel with answers := [(pos, status)], reply := some ⟨status, payload⟩ }) := by
    simp [execRelayResponse, hf, ht, ha, Tab.set]
  rw [hstep, State.tryFinishRelay_settled (by simp [State.relaySettled, ht, Tab.find?]) (by simpa using hb)]
  simp [Relay.silent, ht, Tab.find?]

/-- Silence for 1 ms: the command goes once more to the one position it went to. -/
theorem exec_relayResend_single (hf : s.findRelayed mbx.val = some (r, none, rel)) (ht : rel.targets = [pos])
    (ha : rel.answers = []) (hr : rel.resent = false) :
    exec (.relayResend mbx) s = .next { s.advance (rel.sentAt + 384000000) with
      lcl := { s.lcl with sent := s.lcl.sent ++ [⟨pos, 0, relayBytes r.cmd⟩] }
      cmd := s.cmd.setPhase r.order (.relayed none { rel with resent := true }) } := by
  change execRelayResend mbx s = _
  simp [execRelayResend, hf, hr, Relay.silent_unanswered ha, ht, Cmd.toRelay, Config.ms]

/-- Silence until the relay timeout: TIMEOUT, and the position counts RELAY_ERR. -/
theorem exec_relayTimeout_single (hf : s.findRelayed mbx.val = some (r, none, rel)) (ht : rel.targets = [pos])
    (ha : rel.answers = []) (hp : rel.reply = none) (hb : s.ownBusy r = false) :
    exec (.relayTimeout mbx) s =
      .next (((s.advance rel.deadline).countRelayErr [pos]).respond r ⟨Status.timeout, []⟩) := by
  change execRelayTimeout mbx s = _
  have hsettled : (s.advance rel.deadline).relaySettled rel = true := by
    simp [State.relaySettled]
  have hfinish := State.tryFinishRelay_settled (s := s.advance rel.deadline) (r := r) hsettled (by simpa using hb)
  rw [Relay.silent_unanswered ha, ht, hp] at hfinish
  simp [execRelayTimeout, hf, hfinish]

end

/-! ### Commands at a worker (R319, R406) -/

section
variable {s : State} {mbx : Fin 4} {bytes : List Byte}

/-- A command of a new tag: taken, the only one without a response. -/
theorem exec_workerCommandReceive_new (t reached : Nat) (hw : s.isWorker = true) (hready : s.boot.ready = true)
    (htag : (Tab.find? s.cmd.relayIn mbx.val).map (fun x => x.tag) ≠ some (cmdOf bytes).tag)
    (hop : opcodeKnown (cmdOf bytes).opcode = true) (hrun : s.cmd.running = []) :
    exec (.workerCommandReceive t mbx bytes reached) s = .next { s.advance t with cmd := { s.cmd with
      running := [{ mbx := mbx.val, cascade := true, cmd := cmdOf bytes, order := s.cmd.nextOrder, reached := reached }]
      nextOrder := s.cmd.nextOrder + 1
      taken := (s.cmd.taken + 1) % 2 ^ 32
      relayIn := Tab.set s.cmd.relayIn mbx.val ⟨(cmdOf bytes).tag, none⟩ } } := by
  change execWorkerCommandReceive t mbx bytes reached s = _
  cases hx : Tab.find? s.cmd.relayIn mbx.val with
  | none => simp [execWorkerCommandReceive, execWorkerCommandReceive.accept, hw, hready, hx, hop, hrun, wrapAdd]
  | some x =>
    have hne : x.tag ≠ (cmdOf bytes).tag := by simpa [hx] using htag
    simp [execWorkerCommandReceive, execWorkerCommandReceive.accept, hw, hready, hx, hne, hop, hrun, wrapAdd]

/-- A repeat of the previous tag of its mailbox: the stored response, and nothing is run. -/
theorem exec_workerCommandReceive_repeat (t reached : Nat) {rep : Reply} (hw : s.isWorker = true) (hready : s.boot.ready = true)
    (hx : Tab.find? s.cmd.relayIn mbx.val = some ⟨(cmdOf bytes).tag, some rep⟩) :
    exec (.workerCommandReceive t mbx bytes reached) s = .next ((s.advance t).toManager 1
      (responseHeader (cmdOf bytes) rep.status rep.payload.length ++ rep.payload)) := by
  change execWorkerCommandReceive t mbx bytes reached s = _
  simp [execWorkerCommandReceive, hw, hready, hx]

end

/-- Settles O52: each clause is its row's rule above. -/
theorem relayedCommands : Obligations.RelayedCommands := by
  unfold Obligations.RelayedCommands
  refine ⟨?_, ?_, ?_, ?_, ?_⟩
  · intro s r rel t pos status mbx payload hf ht ha hb
    exact exec_relayResponse_single t status payload hf ht ha hb
  · intro s r rel pos mbx hf ht ha hr
    exact exec_relayResend_single hf ht ha hr
  · intro s r rel pos mbx hf ht ha hp hb
    exact exec_relayTimeout_single hf ht ha hp hb
  · intro s t reached mbx bytes hw hready htag hop hrun
    exact exec_workerCommandReceive_new t reached hw hready htag hop hrun
  · intro s t reached mbx bytes rep hw hready hx
    exact exec_workerCommandReceive_repeat t reached hw hready hx

end Sys2Proof.Machine
end

section
/-!
PROOFS. The cascade (family 12), time and strobes: hops and positions as they are written, what events and ended requests leave of
the cascade's side, time over the cascade, the trigger bus, messages, then the statement.
-/

namespace Sys2Proof.Machine

open Sys2Proof

/-! ### Hops and positions -/

section
variable (s : State)

/-- A hop after a change of hop `h`. -/
@[simp] theorem State.setHop_hop (h j : Nat) (f : Hop → Hop) :
    (s.setHop h f).lcl.hop j = if j = h then f (s.lcl.hop h) else s.lcl.hop j := by
  simp [State.setHop, Lcl.hop]

/-- A change of a hop leaves the chain as it is. -/
@[simp] theorem State.setHop_chain (h : Nat) (f : Hop → Hop) :
    (s.setHop h f).lcl.pos = s.lcl.pos ∧ (s.setHop h f).lcl.positions = s.lcl.positions ∧
    (s.setHop h f).lcl.lowerOf = s.lcl.lowerOf ∧ (s.setHop h f).lcl.hopOf = s.lcl.hopOf ∧
    (s.setHop h f).lcl.dCfg = s.lcl.dCfg ∧ (s.setHop h f).lcl.position = s.lcl.position ∧
    (s.setHop h f).role = s.role := by
  repeat' apply And.intro
  all_goals rfl

/-- A position after a change of position `p`. -/
@[simp] theorem State.setPos_pos (p q : Nat) (f : Position → Position) :
    (s.setPos p f).lcl.pos q = if q = p then f (s.lcl.pos p) else s.lcl.pos q := by
  simp [State.setPos, Lcl.pos]

/-- A change of a position leaves the hops and the length of the chain as they are. -/
@[simp] theorem State.setPos_chain (p : Nat) (f : Position → Position) :
    (s.setPos p f).lcl.hop = s.lcl.hop ∧ (s.setPos p f).lcl.lowerOf = s.lcl.lowerOf ∧
    (s.setPos p f).lcl.dCfg = s.lcl.dCfg ∧ (s.setPos p f).lcl.position = s.lcl.position ∧ (s.setPos p f).role = s.role := by
  repeat' apply And.intro
  all_goals rfl

end

/-! ### What events and ended requests leave as it was (R253, R320, R324, R437) -/

/-- The cascade's side but for the messages sent and the events held. -/
def Lcl.link (l : Lcl) : Lcl := { l with sent := [], events := [], eventsLost := 0 }

/-- What two sides share that differ in messages and held events alone. -/
theorem Lcl.keeps_of_link {l m : Lcl} (h : l.link = m.link) :
    l.dCfg = m.dCfg ∧ l.position = m.position ∧ l.hop = m.hop ∧ l.pos = m.pos ∧ l.lowerOf = m.lowerOf ∧ l.hopOf = m.hopOf ∧
    l.marginMin = m.marginMin ∧ l.joined = m.joined ∧ l.fresh = m.fresh ∧ l.cut = m.cut ∧ l.timeMsgAt = m.timeMsgAt ∧
    l.words = m.words :=
  ⟨(congrArg Lcl.dCfg h :), (congrArg Lcl.position h :), (congrArg Lcl.hop h :), (congrArg Lcl.pos h :),
    (congrArg Lcl.lowerOf h :), (congrArg Lcl.hopOf h :), (congrArg Lcl.marginMin h :), (congrArg Lcl.joined h :),
    (congrArg Lcl.fresh h :), (congrArg Lcl.cut h :), (congrArg Lcl.timeMsgAt h :), (congrArg Lcl.words h :)⟩

/-- What a device goes on with whatever it raises and whatever requests end: its side of the cascade, its time and its masks. -/
def State.course (s : State) : Lcl × Nat × TimeUnit × Mask64 × Mask64 :=
  (s.lcl.link, s.now, s.time, s.path.rxMask, s.path.txMask)

section
variable (s : State)

/-- A message is sent, and all else goes on. -/
@[simp] theorem State.message_course (dst kind : Nat) (body : List Byte) : (s.message dst kind body).course = s.course := rfl

/-- Messages to several positions are sent, and all else goes on. -/
@[simp] theorem State.messages_course (ps : List Nat) (kind : Nat) (body : List Byte) :
    (s.messages ps kind body).course = s.course :=
  foldl_keeps State.course (fun t p => t.message p kind body) (fun _ _ => rfl) ps s

/-- Messages leave the transmit queue as it is. -/
@[simp] theorem State.messages_tx (ps : List Nat) (kind : Nat) (body : List Byte) : (s.messages ps kind body).tx = s.tx :=
  foldl_keeps State.tx (fun t p => t.message p kind body) (fun _ _ => rfl) ps s

/-- A worker's event is sent or held. -/
theorem State.workerEvent_course (r : EvRec) : (s.workerEvent r).course = s.course := by
  unfold State.workerEvent
  dsimp only
  split
  · rfl
  · split <;> rfl

/-- An event is sent, held or stored, and all else goes on. -/
@[simp] theorem State.raiseEvent_course (typ : Nat) (sev : Severity) (p : List Byte) :
    (s.raiseEvent typ sev p).course = s.course := by
  unfold State.raiseEvent
  by_cases hfilter : (decide (sev.code < 4) && decide (sev.code < s.evq.minSeverity (typ / 256)) && typ != 0x0101) = true
  · rw [if_pos hfilter]
  · rw [if_neg hfilter]
    dsimp only
    by_cases hfatal : sev.code = 4
    · simp only [hfatal, if_true]
      split
      · exact State.workerEvent_course { s with evq := { s.evq with fatal := true } } _
      · split <;> rfl
    · simp only [hfatal, if_false]
      split
      · exact State.workerEvent_course s _
      · split <;> rfl

/-- Receptions end. -/
@[simp] theorem State.abortReceptions_course (cause : Nat) : (s.abortReceptions cause).course = s.course := by
  unfold State.abortReceptions State.abortContexts
  dsimp only
  split
  · rfl
  · rw [State.raiseEvent_course]
    exact foldl_keeps State.course (fun t (p : Nat × Context) =>
      t.dmdCount p.2.profileIx (fun c => { c with aborted := wrapAdd 32 c.aborted 1 })) (fun _ _ => rfl) _ _

/-- The time in RX ends, and the masks stay. -/
theorem PathUnit.leaveRx_masks (q : PathUnit) (t : Nat) :
    (q.leaveRx t).rxMask = q.rxMask ∧ (q.leaveRx t).txMask = q.txMask := by
  unfold PathUnit.leaveRx
  split <;> exact ⟨rfl, rfl⟩

/-- A transition of the radio begins. -/
@[simp] theorem State.pursue_course : s.pursue.course = s.course := by
  have hleave : ({ s with path := s.path.leaveRx s.now } : State).course = s.course := by
    simp [State.course, PathUnit.leaveRx_masks]
  unfold State.pursue
  dsimp only
  split
  · rfl
  · split
    · rfl
    · split <;> split
      · exact (State.abortReceptions_course _ _).trans hleave
      · exact hleave
      · exact State.abortReceptions_course _ _
      · rfl

/-- The device leaves TX. -/
@[simp] theorem State.lingerCheck_course : s.lingerCheck.course = s.course := by
  unfold State.lingerCheck
  dsimp only
  rw [apply_ite State.course, State.pursue_course]
  exact ite_self _

/-- Leaving TX leaves the transmit unit as it is. -/
@[simp] theorem State.lingerCheck_tx : s.lingerCheck.tx = s.tx := by
  unfold State.lingerCheck
  dsimp only
  rw [apply_ite State.tx, (State.pursue_keeps _).2.2.1]
  exact ite_self _

/-- An outcome is decided. -/
theorem State.decideOutcome_course (req : TxRequest) (origin : TxOrigin) (outcome cause subband flags : Nat)
    (ts : Nat × Nat) (delay radiated duty : Nat) (margin : Int) (shared : Bool) :
    (s.decideOutcome req origin outcome cause subband flags ts delay radiated duty margin shared).course = s.course ∧
    (s.decideOutcome req origin outcome cause subband flags ts delay radiated duty margin shared).tx.queue = s.tx.queue := by
  unfold State.decideOutcome
  split <;> exact ⟨rfl, rfl⟩

/-- A request that ends leaves the queue, and all else goes on. -/
theorem State.endRequest_course (b : Launch) (outcome cause radiated : Nat) :
    (s.endRequest b outcome cause radiated).course = s.course ∧
    (s.endRequest b outcome cause radiated).tx.queue = s.tx.queue.filter (fun q => q.order != b.order) := by
  unfold State.endRequest
  extract_lets ts flags _ left told held _ freed _ back _ quiet
  have htold : told.course = left.course ∧ told.tx = left.tx := by
    dsimp only [told]
    split
    · exact ⟨left.messages_course _ _ _, left.messages_tx _ _ _⟩
    · exact ⟨rfl, rfl⟩
  have hback : back.course = freed.course ∧ back.tx.queue = freed.tx.queue := by
    dsimp only [back]
    split
    · split <;> exact ⟨rfl, rfl⟩
    · exact ⟨rfl, rfl⟩
  have hfreed : freed.course = told.course ∧ freed.tx = told.tx := by
    simp only [State.course, freed, held, State.holdSigs, and_self]
  have hquiet : quiet.coexLines.course = back.course ∧ quiet.coexLines.tx = back.tx := by
    simp only [State.course, quiet, State.coexLines, and_self]
  have hqueue : back.tx.queue = left.tx.queue := by rw [hback.2, hfreed.2, htold.2]
  obtain ⟨hcourse, hdecided⟩ := quiet.coexLines.decideOutcome_course b.req b.origin outcome cause b.subband flags ts b.delay
    radiated b.dutyUsed b.margin false
  rw [hcourse, hdecided, hquiet.1, hquiet.2, hqueue, hback.1, hfreed.1, htold.1]
  exact ⟨rfl, rfl⟩

/-- Requests that end leave the queue. -/
theorem State.endAll_course (sel : Launch → Bool) (outcome cause : Nat) : (s.endAll sel outcome cause).course = s.course := by
  rw [State.endAll, State.lingerCheck_course]
  exact foldl_keeps State.course (fun t b => t.endRequest b outcome cause 0)
    (fun t b => (t.endRequest_course b outcome cause 0).1) _ s

/-- A launch that some ended request was not. -/
theorem State.mem_queue_foldl_endRequest {outcome cause : Nat} {b : Launch} {l : List Launch}
    (h : b ∈ (l.foldl (fun t c => t.endRequest c outcome cause 0) s).tx.queue) : b ∈ s.tx.queue ∧ ∀ c ∈ l, b.order ≠ c.order := by
  induction l generalizing s with
  | nil => exact ⟨h, by simp⟩
  | cons c l ih =>
    obtain ⟨hb, hl⟩ := ih _ h
    rw [(s.endRequest_course c outcome cause 0).2, List.mem_filter] at hb
    obtain ⟨hb, hc⟩ := hb
    exact ⟨hb, List.forall_mem_cons.mpr ⟨by simpa using hc, hl⟩⟩

/-- What is left of the queue are launches that were not picked. -/
theorem State.mem_queue_endAll {sel : Launch → Bool} {outcome cause : Nat} {b : Launch}
    (h : b ∈ (s.endAll sel outcome cause).tx.queue) : b ∈ s.tx.queue ∧ sel b = false := by
  rw [State.endAll, State.lingerCheck_tx] at h
  obtain ⟨hb, hother⟩ := State.mem_queue_foldl_endRequest s h
  refine ⟨hb, Bool.eq_false_iff.mpr fun hs => ?_⟩
  exact hother b (List.mem_filter.mpr ⟨hb, hs⟩) rfl

/-- The side of the cascade of a device that goes on. -/
theorem State.keeps_of_course {s t : State} (h : t.course = s.course) :
    t.lcl.link = s.lcl.link ∧ t.now = s.now ∧ t.time = s.time ∧ t.path.rxMask = s.path.rxMask ∧
    t.path.txMask = s.path.txMask := by
  simpa only [State.course, Prod.mk.injEq] using h

/-- Time that becomes INVALID keeps running, and the cascade stays as it is. -/
theorem State.loseTime_keeps :
    s.loseTime.lcl.link = s.lcl.link ∧ s.loseTime.now = s.now ∧ s.loseTime.time.base = s.time.base ∧
    s.loseTime.time.state = .invalid := by
  obtain ⟨hlink, hnow, htime, -, -⟩ := State.keeps_of_course (s.endAll_course Launch.waiting 0x06 0x51)
  exact ⟨hlink, hnow, (congrArg TimeUnit.base htime :), rfl⟩

end

end Sys2Proof.Machine
end

section
/-!
PROOFS. The cascade (family 12), time and strobes: one rule per row, then the statement.
-/

namespace Sys2Proof.Machine

open Sys2Proof

/-! ### Delay (R313) -/

/-- By how much one measurement moves the lower end's time, in ps: toward no offset, at most 10. -/
def delayStep (probes : List Probe) : Int :=
  if -(probeResult probes).2 > 10 then 10 else if -(probeResult probes).2 < -10 then -10 else -(probeResult probes).2

/-- A measurement moves the lower end's time by at most 10 ps. -/
theorem delayStep_bounds (probes : List Probe) : -10 ≤ delayStep probes ∧ delayStep probes ≤ 10 := by
  unfold delayStep
  split
  · omega
  · split <;> omega

/-- In units of 1/384 ns, a measurement moves the lower end's time by at most 4 (log entry 1216). -/
theorem roundDiv_delayStep (probes : List Probe) : (roundDiv (delayStep probes * 384) 1000).natAbs ≤ 4 := by
  have hstep := delayStep_bounds probes
  have hround := roundDiv_nearest (delayStep probes * 384) (b := 1000) (by decide)
  omega

section
variable {s : State} {t trig : Nat} {h : Fin 15} {x : List Probe}

/-- A measurement of another number of exchanges is none. -/
theorem exec_delayMeasurement_short (hx : x.length ≠ 1024) : exec (.delayMeasurement t h x trig) s = .next (s.advance t) := by
  change execDelayMeasurement t h x trig s = _
  simp [execDelayMeasurement, hx]

/-- A measurement on a joined hop of the manager. -/
theorem exec_delayMeasurement_manager {p : Nat} (hr : s.role = .manager) (hx : x.length = 1024) (hp : s.lcl.lowerOf h = some p)
    (hj : (s.lcl.pos p).state = .joined) :
    exec (.delayMeasurement t h x trig) s = .next
      (((s.advance t).setHop h (fun y => { y with oneWayPs := (probeResult x).1.toNat, trigPs := trig })).setPos p
        (fun q => { q with timeOffsetPs := q.timeOffsetPs + delayStep x })) := by
  change execDelayMeasurement t h x trig s = _
  simp only [execDelayMeasurement, State.advance_keepsIdentity, State.advance_frame, hr, hx, hp, hj, ne_eq, not_true, if_true,
    if_false]
  rfl

/-- A measurement on the hop above a joined worker. -/
theorem exec_delayMeasurement_worker (hr : s.role = .worker) (hj : s.lcl.joined = true) (hx : x.length = 1024) :
    exec (.delayMeasurement t h x trig) s = .next
      { (s.advance t).setHop 0 (fun y => { y with oneWayPs := (probeResult x).1.toNat, trigPs := trig }) with
        time := { s.time with base := s.time.base + roundDiv (delayStep x * 384) 1000 } } := by
  change execDelayMeasurement t h x trig s = _
  simp only [execDelayMeasurement, State.advance_keepsIdentity, State.advance_frame, hr, hx, hj, ne_eq, not_true, if_false,
    Bool.not_true, Bool.false_eq_true]
  rfl

end

/-! ### Time over the cascade (R315, R322) -/

/-- The local instant that is due `d` after the last one, or now where there was none. -/
def State.dueAfter (s : State) (last : Option Nat) (d : Nat) : State :=
  match last with
  | some a => s.advance (a + d)
  | none => s

/-- What is due `d` after the last time is due then, and changes nothing but time. -/
theorem State.dueAfter_keeps (s : State) (last : Option Nat) (d : Nat) :
    (∀ a, last = some a → (s.dueAfter last d).now = max s.now (a + d)) ∧ { s.dueAfter last d with now := s.now } = s ∧
    (s.dueAfter last d).lcl = s.lcl ∧ (s.dueAfter last d).time = s.time := by
  cases last with
  | none => exact ⟨fun a h => by simp at h, rfl, rfl, rfl⟩
  | some b => exact ⟨fun a h => by cases h; rfl, rfl, rfl, rfl⟩

/-- The time state as a TIME message carries it (Table LCL-4). -/
def TimeState.code : TimeState → Nat
  | .invalid => 0 | .valid => 1 | .holdover => 2

section
variable {s : State} {t : Nat}

/-- A manager of a chain sends TIME to every device. -/
theorem exec_timeMessageSend_chain (hr : s.role = .manager) (hj : s.joinedWorkers ≠ []) :
    let u := s.dueAfter s.lcl.timeSent Config.ms
    exec .timeMessageSend s = .next { u with lcl := { s.lcl with
      sent := s.lcl.sent ++ [⟨0xFF, 3, s.ts80 u.now ++ le 1 s.time.state.code⟩], timeSent := some u.now } } := by
  change execTimeMessageSend s = _
  have hcode : s.time.state.code = (match s.time.state with | .invalid => 0 | .valid => 1 | .holdover => 2) := by
    cases s.time.state <;> rfl
  unfold execTimeMessageSend State.dueAfter
  rw [if_neg (by simp [hr, hj]), hcode]
  cases s.lcl.timeSent <;> rfl

/-- A joined worker sends its heartbeat and its counts. -/
theorem exec_heartbeatSend_joined (hr : s.role = .worker) (hj : s.lcl.joined = true) :
    let u := s.dueAfter s.lcl.heartbeatSent Config.ms
    exec .heartbeatSend s = .next { u with lcl := { s.lcl with
      sent := s.lcl.sent ++ [{ dst := s.lcl.dCfg - 1, kind := 4, body := [] },
        { dst := s.lcl.dCfg - 1, kind := 5, body := le 1 6 ++ le 4 s.lcl.trigErr ++ le 4 s.lcl.strobeMiss }]
      heartbeatSent := some u.now } } := by
  change execHeartbeatSend s = _
  unfold execHeartbeatSend State.dueAfter
  rw [if_neg (by simp [State.isWorker, hr, hj])]
  cases s.lcl.heartbeatSent <;> simp [State.toManager, State.message, State.advance]

/-- A TIME message where none is awaited. -/
theorem exec_timeMessageReceive_ignored {d : Int} {m : Fin 3}
    (h : s.role ≠ .worker ∨ s.lcl.joined = false ∨ s.lcl.timeMsgAt = none) :
    exec (.timeMessageReceive t d m) s = .next (s.advance t) := by
  change execTimeMessageReceive t d m s = _
  have hcond : (!(s.advance t).isWorker || !(s.advance t).lcl.joined || (s.advance t).lcl.timeMsgAt.isNone) = true := by
    rcases h with h | h | h <;> simp [State.isWorker, h]
  rw [execTimeMessageReceive, if_pos hcond]

/-- A TIME message of a manager whose time is usable: its time from now on, and its state. -/
theorem exec_timeMessageReceive_usable {d : Int} {m : Fin 3} (hr : s.role = .worker) (hj : s.lcl.joined = true)
    (ha : s.lcl.timeMsgAt ≠ none) (hm : m.val ≠ 0) :
    ∃ since, exec (.timeMessageReceive t d m) s = .next { s.advance t with
      lcl := { s.lcl with timeMsgAt := some (max s.now t) }
      time := { s.time with
        base := d, baseAt := max s.now t, ratePpb := 0, state := if m.val = 1 then .valid else .holdover
        holdoverAt := since } } := by
  change ∃ since, execTimeMessageReceive t d m s = _
  have hcond : ¬ (!(s.advance t).isWorker || !(s.advance t).lcl.joined || (s.advance t).lcl.timeMsgAt.isNone) = true := by
    simp [State.isWorker, hr, hj, ha]
  simp only [execTimeMessageReceive, if_neg hcond, if_neg hm]
  split
  · exact ⟨none, rfl⟩
  · exact ⟨some (s.time.holdoverAt.getD (max s.now t)), rfl⟩

/-- 10 ms without a TIME message. -/
theorem exec_timeMessageTimeout_missed {a : Nat} (hr : s.role = .worker) (ha : s.lcl.timeMsgAt = some a) :
    let u : State := { s.advance (a + 10 * Config.ms) with lcl := { s.lcl with timeMsgAt := none } }
    exec .timeMessageTimeout s = .next (if u.timeUsable then u.loseTime else u) := by
  change execTimeMessageTimeout s = _
  have hw : s.isWorker = true := by simp [State.isWorker, hr]
  simp only [execTimeMessageTimeout, hw, ha]
  rfl

/-- Without usable time, by loss or from before, time is INVALID and keeps running. -/
theorem State.timeLost_keeps (u : State) :
    let v := if u.timeUsable then u.loseTime else u
    v.now = u.now ∧ v.time.state = .invalid ∧ v.lcl.timeMsgAt = u.lcl.timeMsgAt ∧ v.time.base = u.time.base := by
  dsimp only
  split
  · obtain ⟨hlink, hnow, hbase, hstate⟩ := u.loseTime_keeps
    exact ⟨hnow, hstate, (congrArg Lcl.timeMsgAt hlink :), hbase⟩
  · rename_i hu
    exact ⟨rfl, by simpa [State.timeUsable] using hu, rfl, rfl⟩

/-- Device time at the instant from which it runs. -/
theorem TimeUnit.deviceAt_baseAt (u : TimeUnit) : u.deviceAt u.baseAt = u.base := by
  have hzero : Int.ediv 0 1000000000 = 0 := rfl
  simp [TimeUnit.deviceAt, hzero]

/-- Device time at its nominal rate. -/
theorem TimeUnit.deviceAt_nominal {u : TimeUnit} (hu : u.ratePpb = 0) (n : Nat) :
    u.deviceAt n = u.base + ((n : Int) - u.baseAt) := by
  have hzero : Int.ediv 0 1000000000 = 0 := rfl
  simp [TimeUnit.deviceAt, hu, hzero]

/-- The local instant of a device time at the nominal rate. -/
theorem TimeUnit.localOf_nominal {u : TimeUnit} (hu : u.ratePpb = 0) (d : Int) :
    u.localOf d = ((u.baseAt : Int) + (d - u.base)).toNat := by
  have hdiv : (-((d - u.base) * 1000000000)).ediv 1000000000 = -(d - u.base) := by
    rw [← Int.neg_mul]
    exact Int.mul_ediv_cancel _ (by decide)
  rw [TimeUnit.localOf, hu, Int.add_zero, hdiv, Int.sub_neg]

end

/-! ### The trigger bus (R316, R317) -/

section
variable {s : State} {t : Nat}

/-- The first word of a manager goes out at once, and acts on the manager 1.000 us later. -/
theorem State.sendTimed_first (hw : s.lcl.words = []) (code : Nat) :
    (s.sendTimed code s.now).2 = { s with lcl := { s.lcl with
      words := [(code, s.sampleAt s.now 625)]
      actions := s.lcl.actions ++ [{ code := code, due := s.sampleAt s.now 625 + 384000 }] } } := by
  simp [State.sendTimed, State.sendWord, hw, Config.masterClock, Config.us]

/-- The next whole second of device time. -/
def State.nextSecond (s : State) : Int := (s.deviceNow / 384000000000 + 1) * 384000000000

/-- The next whole second lies ahead. -/
theorem State.deviceNow_lt_nextSecond (s : State) : s.deviceNow < s.nextSecond := by
  unfold State.nextSecond
  omega

/-- At its nominal rate device time reaches the next whole second after now. -/
theorem State.localOf_nextSecond (hrate : s.time.ratePpb = 0) :
    s.now < s.time.localOf s.nextSecond ∧ s.time.deviceAt (s.time.localOf s.nextSecond) = s.nextSecond := by
  have hahead := s.deviceNow_lt_nextSecond
  rw [State.deviceNow, TimeUnit.deviceAt_nominal hrate] at hahead
  rw [TimeUnit.deviceAt_nominal hrate, TimeUnit.localOf_nominal hrate]
  omega

/-- A manager of a chain that has sent no word marks the next whole second. -/
theorem exec_timeMarkSend_first (hr : s.role = .manager) (hj : s.joinedWorkers ≠ []) (hw : s.lcl.words = []) :
    let u := s.advance (s.time.localOf s.nextSecond)
    exec .timeMarkSend s = .next { u with lcl := { s.lcl with
      words := [(4, s.sampleAt u.now 625)]
      actions := s.lcl.actions ++ [{ code := 4, due := s.sampleAt u.now 625 + 384000 }] } } := by
  change execTimeMarkSend s = _
  rw [execTimeMarkSend, if_neg (by simp [hr, hj])]
  exact congrArg Host.Outcome.next (State.sendTimed_first (s := s.advance (s.time.localOf s.nextSecond)) hw 4)

/-- A word passes a worker: it is re-emitted two master clocks after its start edge. -/
def State.reemitted (s : State) (t code : Nat) : State :=
  { s.advance t with lcl := { s.lcl with words := s.lcl.words ++ [(code, t + 1250)] } }

/-- A word with bad parity, or of an unknown code, is re-emitted and counted. -/
theorem exec_triggerWord_bad {c : Fin 16} {ok : Bool} (hr : s.role = .worker)
    (hc : ok = false ∨ triggerCodes.contains c.val = false) :
    exec (.triggerWord t c ok) s = .next (s.reemitted t c).countTrigErr := by
  change execTriggerWord t c ok s = _
  have hw : (!(s.advance t).isWorker) = false := by simp [State.isWorker, hr]
  have hbad : (!ok || !triggerCodes.contains c.val) = true := by
    rcases hc with rfl | hc
    · rfl
    · rw [hc, Bool.not_false, Bool.or_true]
  simp only [execTriggerWord, hw, hbad, Bool.false_eq_true, if_false, if_true]
  rfl

/-- A good word of code 1, 2 or 4 is re-emitted and acts 1.000 us after the manager's start edge. -/
theorem exec_triggerWord_timed {c : Fin 16} (hr : s.role = .worker) (hc : c.val = 1 ∨ c.val = 2 ∨ c.val = 4)
    (hs : s.lcl.trigSumPs = 0) :
    exec (.triggerWord t c true) s = .next { s.advance t with lcl := { s.lcl with
      words := s.lcl.words ++ [(c.val, t + 1250)]
      actions := s.lcl.actions ++ [{ code := c.val, due := t + 384000 }] } } := by
  change execTriggerWord t c true s = _
  have hw : (!(s.advance t).isWorker) = false := by simp [State.isWorker, hr]
  have hzero : (roundDiv ((0 * 384 : Nat) : Int) 1000).toNat = 0 := by decide
  obtain rfl | rfl | rfl : c = 1 ∨ c = 2 ∨ c = 4 := by simpa [Fin.ext_iff] using hc
  all_goals
    simp only [execTriggerWord, hw, State.advance_frame, hs, hzero]
    rfl

/-- A SWAP word moves the pending host swap that no word has marked, and marks it. -/
theorem State.markSwap_host {w : BeamSwap} (hh : s.beam.host = some w) (hm : w.marked = false) (hi : s.beam.internal = none)
    (due : Nat) :
    s.markSwap due = { s with beam := { s.beam with host := some { w with instant := due, marked := true } } } := by
  simp [State.markSwap, BeamUnit.nextSwap_host (sel := fun w => !w.marked) hh hi (by simp [hm])]

/-- A good SWAP word is re-emitted and moves the pending swap that no word has marked. -/
theorem exec_triggerWord_swap {w : BeamSwap} (hr : s.role = .worker) (hs : s.lcl.trigSumPs = 0) (hh : s.beam.host = some w)
    (hm : w.marked = false) (hi : s.beam.internal = none) :
    exec (.triggerWord t 3 true) s = .next { s.reemitted t 3 with beam := { s.beam with
      host := some { w with instant := t + 384000, marked := true } } } := by
  change execTriggerWord t 3 true s = _
  have hw : (!(s.advance t).isWorker) = false := by simp [State.isWorker, hr]
  have hzero : (roundDiv ((0 * 384 : Nat) : Int) 1000).toNat = 0 := by decide
  have hstep : execTriggerWord t 3 true s = .next ((s.reemitted t 3).markSwap
      (t + 384000 - (roundDiv ((s.lcl.trigSumPs * 384 : Nat) : Int) 1000).toNat)) := by
    simp only [execTriggerWord, hw]
    rfl
  rw [hstep, hs, hzero, State.markSwap_host (s := s.reemitted t 3) hh hm hi]
  rfl

/-- A good abort word with nothing queued is re-emitted and does nothing else. -/
theorem exec_triggerWord_abort {c : Fin 16} (hr : s.role = .worker) (hc : c.val = 8 ∨ c.val = 9) (hq : s.tx.queue = []) :
    exec (.triggerWord t c true) s = .next (s.reemitted t c) := by
  change execTriggerWord t c true s = _
  have hw : (!(s.advance t).isWorker) = false := by simp [State.isWorker, hr]
  obtain rfl | rfl : c = 8 ∨ c = 9 := by simpa [Fin.ext_iff] using hc
  all_goals
    simp only [execTriggerWord, hw, State.advance_frame, State.abortBursts, hq]
    rfl

/-- No timed code waits. -/
theorem exec_triggerWordAction_none (ha : s.lcl.actions = []) : exec .triggerWordAction s = .next s := by
  change execTriggerWordAction s = _
  simp [execTriggerWordAction, Lcl.nextAction, ha]

/-- The one STROBE that waits acts. -/
theorem exec_triggerWordAction_strobe {a : TrigAction} (ha : s.lcl.actions = [a]) (hc : a.code = 1) :
    exec .triggerWordAction s =
      .next (({ s.advance a.due with lcl := { s.lcl with actions := [] } } : State).strobe a.due 1 false false) := by
  change execTriggerWordAction s = _
  simp [execTriggerWordAction, Lcl.nextAction, ha, hc]

/-- The one TIME_MARK that waits is judged by this device's own time, 2 ns either way. -/
theorem exec_triggerWordAction_timeMark {a : TrigAction} (ha : s.lcl.actions = [a]) (hc : a.code = 4) :
    let u : State := { s.advance a.due with lcl := { s.lcl with actions := [] } }
    exec .triggerWordAction s =
      .next (if 2 * 384 < (((a.due - 384000 : Nat) : Int) - (s.markEdge (a.due - 384000) : Nat)).natAbs then u.countTrigErr
        else u) := by
  change execTriggerWordAction s = _
  have habs (x y : Nat) : ((x - y) + (y - x) > 2 * Config.ns) = (2 * 384 < ((x : Int) - (y : Nat)).natAbs) := by
    rw [eq_iff_iff, Config.ns]
    omega
  simp only [execTriggerWordAction, Lcl.nextAction, ha, List.foldl, hc, State.advance_frame, List.erase_cons_head, habs]
  rfl

end

/-! ### Messages (R318, R320, R322) -/

section
variable {s : State} {t src dst kind : Nat} {b : List Byte}

/-- A message that fails its CRC-32 is counted by the manager. -/
theorem exec_cascadeMessage_badCrc (hr : s.role = .manager) :
    exec (.cascadeMessage t src dst kind false b) s =
      .next ((s.advance t).setHop 0 (fun x => { x with msgCrcErr := wrapAdd 32 x.msgCrcErr 1 })) := by
  change execCascadeMessage t src dst kind false b s = _
  simp [execCascadeMessage, hr]

/-- A heartbeat of a joined worker renews its hop. -/
theorem exec_cascadeMessage_heartbeat {h : Nat} (hr : s.role = .manager) (hk : s.knows src = true)
    (hh : s.lcl.hopOf src = some h) :
    exec (.cascadeMessage t src dst 4 true b) s =
      .next ((s.advance t).setHop h (fun x => { x with heartbeatAt := max s.now t })) := by
  change execCascadeMessage t src dst 4 true b s = _
  simp [execCascadeMessage, State.isWorker, hr, hk, hh]

/-- A message of a device that is not joined is none. -/
theorem exec_cascadeMessage_unknown (hr : s.role = .manager) (hk : s.knows src = false) :
    exec (.cascadeMessage t src dst kind true b) s = .next (s.advance t) := by
  change execCascadeMessage t src dst kind true b s = _
  simp [execCascadeMessage, hr, hk]

/-- BEAM_SHIFT reaches a joined worker. -/
theorem exec_cascadeMessage_beamShift {g : Nat} (hr : s.role = .worker) (hj : s.lcl.joined = true) (hg : g ≤ 15) :
    exec (.cascadeMessage t src s.lcl.position 5 true [4#8, BitVec.ofNat 8 g]) s =
      .next { s.advance t with beam := { s.beam with shift := g } } := by
  change execCascadeMessage t src s.lcl.position 5 true [4#8, BitVec.ofNat 8 g] s = _
  have hbyte : g % 256 = g := Nat.mod_eq_of_lt (by omega)
  simp [execCascadeMessage, State.workerMessage, u8, hr, hj, hbyte]

/-- The record of a worker's event as the manager stores it. -/
theorem exec_workerEventRelay_stored {p : Fin 16} (hr : s.role = .manager) (hk : s.knows p = true)
    (hl : s.evq.store.length < 256) :
    exec (.workerEventRelay t p b) s = .next { s.advance t with evq := { s.evq with
      seqNext := (s.evq.seqNext + 1) % 2 ^ 32
      store := s.evq.store ++ [{ typ := u16 b 0, severity := u8 b 2, source := 16 * p + u8 b 3 % 16, seq := s.evq.seqNext,
                                 seconds := u32 b 8, nanos := u32 b 12, payload := bytesAt b 16 16 }] } } := by
  change execWorkerEventRelay t p b s = _
  simp [execWorkerEventRelay, EventRing.keep, wrapAdd, hr, hk, hl]

/-- A worker's event is the manager's to store. -/
theorem exec_workerEventRelay_notManager {p : Fin 16} (hr : s.role ≠ .manager) :
    exec (.workerEventRelay t p b) s = .next (s.advance t) := by
  change execWorkerEventRelay t p b s = _
  simp [execWorkerEventRelay, hr]

end

/-- Settles O34: each clause is its row's rule above, read field by field. -/
theorem cascadeTimeAndStrobes : Obligations.CascadeTimeAndStrobes := by
  unfold Obligations.CascadeTimeAndStrobes
  refine ⟨?_, ?_, ?_, ?_, ?_, ?_, ?_, ?_, ?_, ?_, ?_, ?_, ?_, ?_, ?_, ?_, ?_, ?_, ?_, ?_, ?_, ?_⟩
  -- delay
  · exact fun s t h x trig hx => exec_delayMeasurement_short hx
  · intro s t h x trig p hr hx hp hj
    have hstep := delayStep_bounds x
    refine ⟨_, exec_delayMeasurement_manager hr hx hp hj, by simp, by simp, ?_, ?_, ?_, rfl⟩
    · simp only [State.setPos_pos, if_true, State.setHop_chain, State.advance_frame]
      omega
    · simp only [State.setPos_pos, if_true, State.setHop_chain, State.advance_frame]
      omega
    · intro q hq
      simp [hq]
  · intro s t h x trig hr hj hx
    refine ⟨_, exec_delayMeasurement_worker hr hj hx, ?_, rfl⟩
    have hround := roundDiv_delayStep x
    simp only []
    omega
  -- time
  · intro s hr hj
    obtain ⟨hnow, hframe, -, -⟩ := s.dueAfter_keeps s.lcl.timeSent Config.ms
    refine ⟨_, exec_timeMessageSend_chain hr hj, rfl, hnow, ?_, ?_⟩
    · cases s.time.state <;> rfl
    · exact (congrArg (fun u : State => { u with lcl := s.lcl }) hframe)
  · exact fun s t d m h => exec_timeMessageReceive_ignored h
  · intro s t d m hr hj ha hm
    obtain ⟨since, hexec⟩ := exec_timeMessageReceive_usable (t := t) (d := d) hr hj ha hm
    exact ⟨_, hexec, TimeUnit.deviceAt_baseAt _, rfl, rfl, rfl⟩
  · intro s a hr ha
    obtain ⟨hnow, hstate, hmsg, hbase⟩ :=
      State.timeLost_keeps { s.advance (a + 10 * Config.ms) with lcl := { s.lcl with timeMsgAt := none } }
    exact ⟨_, exec_timeMessageTimeout_missed hr ha, hnow, hstate, hmsg, hbase⟩
  · intro s hr hj
    obtain ⟨hnow, hframe, -, -⟩ := s.dueAfter_keeps s.lcl.heartbeatSent Config.ms
    exact ⟨_, exec_heartbeatSend_joined hr hj, rfl, hnow, rfl,
      (congrArg (fun u : State => { u with lcl := s.lcl }) hframe)⟩
  -- the trigger bus
  · exact fun s t c ok hr hc => exec_triggerWord_bad hr hc
  · exact fun s t c hr hc hs => exec_triggerWord_timed hr hc hs
  · exact fun s t w hr hs hh hm hi => ⟨_, exec_triggerWord_swap hr hs hh hm hi, rfl, rfl, rfl⟩
  · exact fun s t c hr hc hq => ⟨_, exec_triggerWord_abort hr hc hq, rfl, rfl, rfl, hq⟩
  · exact fun s a ha hc => exec_triggerWordAction_strobe ha hc
  · intro s a ha hc
    refine ⟨_, exec_triggerWordAction_timeMark ha hc, ?_⟩
    split
    · exact ⟨rfl, rfl, rfl⟩
    · exact ⟨rfl, rfl, rfl⟩
  · exact fun s ha => exec_triggerWordAction_none ha
  · intro s hr hj hw hrate _
    obtain ⟨hlater, hsecond⟩ := State.localOf_nextSecond hrate
    have hnow : (s.advance (s.time.localOf s.nextSecond)).now = s.time.localOf s.nextSecond :=
      Nat.max_eq_right (Nat.le_of_lt hlater)
    refine ⟨_, exec_timeMarkSend_first hr hj hw, rfl, rfl, ?_, Nat.lt_of_lt_of_eq hlater hnow.symm, rfl⟩
    rw [show State.now _ = _ from hnow, hsecond]
    exact Int.mul_emod_left _ _
  -- messages
  · exact fun s t src dst kind b hr => ⟨_, exec_cascadeMessage_badCrc hr, by simp [wrapAdd], rfl, rfl⟩
  · exact fun s t src h b hr hk hh => ⟨_, exec_cascadeMessage_heartbeat hr hk hh, by simp, rfl, rfl⟩
  · exact fun s t src dst kind b hr hk => exec_cascadeMessage_unknown hr hk
  · exact fun s t src g hr hj hg => exec_cascadeMessage_beamShift hr hj hg
  · exact fun s t p b hr hk hl => exec_workerEventRelay_stored hr hk hl
  · exact fun s t p b hr => exec_workerEventRelay_notManager hr

end Sys2Proof.Machine
end

section
/-!
PROOFS. The cascade (family 12), the commands of Table LCL-6: one rule per body, and the responses by their fields.
-/

namespace Sys2Proof.Machine

open Sys2Proof

/-! ### LCL_SET_CHAIN and LCL_RETRAIN (R302, R326, R327) -/

/-- The hop of a lower position has that position at its lower end. -/
theorem Lcl.lowerOf_of_hopOf {l : Lcl} {p h : Nat} (hh : l.hopOf p = some h) : l.lowerOf h = some p := by
  unfold Lcl.hopOf at hh
  split at hh
  · cases hh
    rw [Lcl.lowerOf, if_pos (by omega)]
    exact congrArg some (by omega)
  · cases hh

section
variable {s : State} {r : Running}

/-- A manager is not STANDALONE. -/
theorem State.manager_notStandalone (hr : s.role = .manager) : (s.role != .standalone) = true := by
  rw [hr]
  rfl

/-- LCL_SET_CHAIN with parameters out of their ranges. -/
theorem setChainBody_badParam (hp : chainRanges r.cmd.payload = false) : setChainBody r s = .status s Status.badParam := by
  simp [setChainBody, hp]

/-- LCL_SET_CHAIN on a STANDALONE device. -/
theorem setChainBody_standalone (hp : chainRanges r.cmd.payload = true) (hr : s.role = .standalone) :
    setChainBody r s = .status s Status.wrongState := by
  simp [setChainBody, hp, hr]

/-- LCL_SET_CHAIN outside the temperatures at which non-volatile memory is written. -/
theorem setChainBody_tempRange (hp : chainRanges r.cmd.payload = true) (hr : s.role = .manager)
    (ht : s.thermal.tj < 0 ∨ 10000 < s.thermal.tj) : setChainBody r s = .status s Status.tempRange := by
  have htemp : s.nvTempOk = false := by
    simp only [State.nvTempOk, inRangeZ, Bool.and_eq_false_iff, decide_eq_false_iff_not]
    omega
  simp [setChainBody, hp, State.manager_notStandalone hr, htemp]

/-- LCL_SET_CHAIN while a hop trains. -/
theorem setChainBody_busy (hp : chainRanges r.cmd.payload = true) (hr : s.role = .manager) (ht : s.nvTempOk = true)
    (hb : s.lcl.anyTraining = true) : setChainBody r s = .status s Status.chainBusy := by
  simp [setChainBody, hp, State.manager_notStandalone hr, ht, hb]

/-- LCL_SET_CHAIN with its checks met: the parameters, and EXPECTED to be stored. -/
theorem setChainBody_valid (hp : chainRanges r.cmd.payload = true) (hr : s.role = .manager) (ht : s.nvTempOk = true)
    (hb : s.lcl.anyTraining = false) :
    setChainBody r s = .later
      { s with
        lcl := { s.lcl with
          autoRejoin := u8 r.cmd.payload 1 == 1, relayTimeoutMs := u16 r.cmd.payload 2, marginMin := u16 r.cmd.payload 4 }
        nv := { s.nv with queue := s.nv.queue ++
          [{ record := .chainSettings, data := le 1 (u8 r.cmd.payload 0), owner := some r.order }] } } [] := by
  simp [setChainBody, hp, State.manager_notStandalone hr, ht, hb, State.nvEnqueue]

/-- LCL_RETRAIN of a hop whose upper device is there, with no hop in training. -/
theorem retrainBody_hop {h : Nat} (hp : u8 r.cmd.payload 0 ≤ 14) (hr : s.role = .manager)
    (hh : s.lcl.hopOf (u8 r.cmd.payload 0) = some h) (hu : s.upperReady h = true) (hb : s.lcl.anyTraining = false) :
    retrainBody r s = .ok ((s.breakHop h 5).startTraining h) [] := by
  simp [retrainBody, hp, State.manager_notStandalone hr, hh, hu, hb]

/-- LCL_RETRAIN beyond the chain. -/
theorem retrainBody_noDevice (hp : u8 r.cmd.payload 0 ≤ 14) (hr : s.role = .manager)
    (hd : s.lcl.dCfg < u8 r.cmd.payload 0 + 2) : retrainBody r s = .status s Status.noDevice := by
  simp [retrainBody, Lcl.hopOf, hp, State.manager_notStandalone hr, Nat.not_le.mpr hd]

end

/-! ### LCL_GET_STATUS -/

/-- A string of bytes behind a front of known length. -/
theorem bytesAt_behind {l : List Byte} (p : List Byte) {c : Nat} (h : l.length = c) (o n : Nat) :
    bytesAt (l ++ p) (c + o) n = bytesAt p o n := by
  rw [bytesAt_append_of_le p (Nat.le_trans (Nat.le_of_eq h) (Nat.le_add_right c o)), h, Nat.add_sub_cancel_left]

/-- A flag takes one byte. -/
@[simp] theorem length_b8 (b : Bool) : (b8 b).length = 1 := by
  cases b <;> rfl

/-- The codes of a position's state fit a byte. -/
theorem PosState.code_lt (x : PosState) : x.code < 256 := by
  cases x <;> decide

/-- The codes of a lane's state fit a byte. -/
theorem LaneState.code_lt (x : LaneState) : x.code < 256 := by
  cases x <;> decide

section
variable (s : State)

/-- One position takes eight bytes. -/
theorem State.length_posBytes (d : Nat) : (s.posBytes d).length = 8 := by
  simp [State.posBytes]

/-- The state and RELAY_ERR of one position. -/
theorem State.posBytes_fields (d : Nat) :
    u8 (s.posBytes d) 0 = (if d = s.position then 2 else (s.lcl.pos d).state.code) ∧
    u16 (s.posBytes d) 2 = (s.lcl.pos d).relayErr % 65536 := by
  have hcode := (s.lcl.pos d).state.code_lt
  simp only [State.posBytes, List.append_assoc]
  refine ⟨?_, ?_⟩
  · rw [u8_le]
    by_cases hd : d = s.position
    · simp [hd]
    · simp [hd, Nat.mod_eq_of_lt hcode]
  · simp [u16_append_of_le, u16_le]

/-- The response of LCL_GET_STATUS up to the positions. -/
theorem State.lclStatus_front :
    s.lclStatus.length = 0x88 ∧ u8 s.lclStatus 0 = (if s.role = .manager then 1 else 0) ∧
    u8 s.lclStatus 1 = s.position % 256 ∧ u8 s.lclStatus 2 = (if s.role = .manager then s.lcl.dCfg else 1) % 256 ∧
    u8 s.lclStatus 3 = (if s.role = .manager then 1 + s.joinedWorkers.length else 1) % 256 := by
  refine ⟨?_, ?_, ?_, ?_, ?_⟩
  · simp only [State.lclStatus, List.length_append, length_le, length_leSat, length_zeros,
      length_flatMap_of_forall s.length_posBytes, List.length_range]
  all_goals
    simp only [State.lclStatus, List.append_assoc]
    simp [u8_append_of_le, u8_le]
  split <;> decide

/-- The positions in the response of LCL_GET_STATUS. -/
theorem State.lclStatus_position (d : Fin 16) : bytesAt s.lclStatus (8 + 8 * d) 8 = s.posBytes d := by
  have htable := bytesAt_table (p := []) s.length_posBytes d.isLt
  rw [List.append_nil] at htable
  exact (bytesAt_behind _ (by simp) _ _).trans htable

/-- The front of LCL_GET_STATUS on a manager. -/
theorem State.lclStatus_manager (hr : s.role = .manager) :
    u8 s.lclStatus 0 = 1 ∧ u8 s.lclStatus 1 = s.lcl.position % 256 ∧ u8 s.lclStatus 2 = s.lcl.dCfg % 256 ∧
    u8 s.lclStatus 3 = (1 + s.joinedWorkers.length) % 256 := by
  obtain ⟨-, hmode, hpos, hcfg, hcount⟩ := s.lclStatus_front
  have hown : s.position = s.lcl.position := by rw [State.position, hr]
  rw [hmode, hpos, hcfg, hcount, hown]
  simp [hr]

/-- The front of LCL_GET_STATUS on a STANDALONE device. -/
theorem State.lclStatus_standalone (hr : s.role = .standalone) :
    u8 s.lclStatus 0 = 0 ∧ u8 s.lclStatus 1 = 0 ∧ u8 s.lclStatus 2 = 1 ∧ u8 s.lclStatus 3 = 1 := by
  obtain ⟨-, hmode, hpos, hcfg, hcount⟩ := s.lclStatus_front
  have hown : s.position = 0 := by rw [State.position, hr]
  rw [hmode, hpos, hcfg, hcount, hown]
  simp [hr]

/-- The state and RELAY_ERR of each position in LCL_GET_STATUS. -/
theorem State.lclStatus_positions (d : Fin 16) :
    u8 s.lclStatus (8 + 8 * d) = (if d.val = s.position then 2 else (s.lcl.pos d).state.code) ∧
    u16 s.lclStatus (10 + 8 * d) = (s.lcl.pos d).relayErr % 65536 := by
  obtain ⟨hstate, herr⟩ := s.posBytes_fields d
  have hentry := s.lclStatus_position d
  refine ⟨(u8_entry hentry (k := 0) (by decide)).trans hstate, ?_⟩
  rw [show 10 + 8 * d.val = 8 + 8 * d.val + 2 by omega]
  exact (u16_entry hentry (by decide)).trans herr

end

/-! ### LCL_GET_LINK and LCL_LAST_RELAY -/

/-- A saturating 32-bit field at the front. -/
theorem u32_leSat (v : Nat) (p : List Byte) : u32 (leSat 4 v ++ p) 0 = min v (2 ^ 32 - 1) := by
  have hmin : Nat.min v (2 ^ (8 * 4) - 1) = min v (2 ^ 32 - 1) := rfl
  rw [leSat, u32_le, hmin]
  omega

/-- One lane takes eight bytes. -/
theorem Lane.length_bytes (l : Lane) : l.bytes.length = 8 := by
  simp [Lane.bytes]

/-- The fields of one lane. -/
theorem Lane.bytes_fields (l : Lane) :
    u8 l.bytes 0 = l.state.code ∧ u8 l.bytes 1 = l.logical % 256 ∧ u16 l.bytes 4 = l.hdrErr % 65536 ∧
    u16 l.bytes 6 = min l.margin 65535 := by
  have hcode := Nat.mod_eq_of_lt l.state.code_lt
  simp only [Lane.bytes, List.append_assoc]
  simp [u8_append_of_le, u16_append_of_le, u8_le, u16_le, u16_leSat_last, hcode]

/-- The response of LCL_GET_LINK for a hop. -/
def Hop.linkBytes (x : Hop) : List Byte :=
  (List.range 12).flatMap (fun k => (Tab.get x.lanes k {}).bytes) ++ (leSat 4 x.oneWayPs ++ (leSat 4 x.trigPs ++
    (le 4 x.groupErr ++ (le 4 x.msgCrcErr ++ (le 4 x.trigErr ++ le 4 x.strobeMiss)))))

/-- The lanes take 96 bytes. -/
theorem Hop.length_linkLanes (x : Hop) :
    ((List.range 12).flatMap (fun k => (Tab.get x.lanes k {}).bytes)).length = 96 :=
  length_flatMap_of_forall (fun k => (Tab.get x.lanes k {}).length_bytes) _

/-- The lanes in the response of LCL_GET_LINK. -/
theorem Hop.linkBytes_lane (x : Hop) (k : Fin 12) : bytesAt x.linkBytes (8 * k) 8 = (Tab.get x.lanes k {}).bytes :=
  bytesAt_table (fun k => (Tab.get x.lanes k {}).length_bytes) k.isLt

/-- The fields of each lane in the response of LCL_GET_LINK. -/
theorem Hop.linkBytes_lanes (x : Hop) (k : Fin 12) :
    u8 x.linkBytes (8 * k) = (Tab.get x.lanes k {}).state.code ∧
    u8 x.linkBytes (8 * k + 1) = (Tab.get x.lanes k {}).logical % 256 ∧
    u16 x.linkBytes (8 * k + 4) = (Tab.get x.lanes k {}).hdrErr % 65536 ∧
    u16 x.linkBytes (8 * k + 6) = min (Tab.get x.lanes k {}).margin 65535 := by
  have hentry := x.linkBytes_lane k
  obtain ⟨hstate, hlogical, hhdr, hmargin⟩ := (Tab.get x.lanes k {}).bytes_fields
  exact ⟨(u8_entry hentry (k := 0) (by decide)).trans hstate, (u8_entry hentry (by decide)).trans hlogical,
    (u16_entry hentry (by decide)).trans hhdr, (u16_entry hentry (by decide)).trans hmargin⟩

/-- The delays and counts in the response of LCL_GET_LINK. -/
theorem Hop.linkBytes_fields (x : Hop) :
    x.linkBytes.length = 0x78 ∧ u32 x.linkBytes 0x60 = min x.oneWayPs (2 ^ 32 - 1) ∧
    u32 x.linkBytes 0x64 = min x.trigPs (2 ^ 32 - 1) ∧ u32 x.linkBytes 0x68 = x.groupErr % 2 ^ 32 ∧
    u32 x.linkBytes 0x70 = x.trigErr % 2 ^ 32 := by
  have hlen := x.length_linkLanes
  refine ⟨?_, ?_⟩
  · simp only [Hop.linkBytes, List.length_append, hlen, length_le, length_leSat]
  · simp only [Hop.linkBytes]
    simp [u32_append_of_le, u32_le, u32_leSat, hlen]

/-- The response of LCL_LAST_RELAY. -/
def LastRelay.bytes (x : LastRelay) : List Byte :=
  le 2 x.opcode ++ le 2 x.tag ++ zeros 4 ++ (List.range 16).flatMap (fun d => le 2 (Tab.get x.status d 0xFFFF))

/-- The fields of the response of LCL_LAST_RELAY. -/
theorem LastRelay.bytes_fields (x : LastRelay) :
    x.bytes.length = 0x28 ∧ u16 x.bytes 0 = x.opcode % 65536 ∧
    ∀ d : Fin 16, u16 x.bytes (8 + 2 * d) = Tab.get x.status d 0xFFFF % 65536 := by
  refine ⟨?_, ?_, fun d => ?_⟩
  · simp only [LastRelay.bytes, List.length_append, length_le, length_zeros, length_flatMap_le]
  · simp only [LastRelay.bytes, List.append_assoc, u16_le]
  · have htable := bytesAt_table (p := []) (fun d => length_le 2 (Tab.get x.status d 0xFFFF)) d.isLt
    rw [List.append_nil] at htable
    have hentry : bytesAt x.bytes (8 + 2 * d) 2 = le 2 (Tab.get x.status d 0xFFFF) :=
      (bytesAt_behind _ (by simp) _ _).trans htable
    rw [u16_entry_front hentry (by decide), u16_le_last]

section
variable {s : State} {r : Running}

/-- LCL_GET_LINK of a hop of the chain. -/
theorem getLinkBody_hop {h : Nat} (hp : u8 r.cmd.payload 0 ≤ 14) (hr : s.role = .manager)
    (hh : s.lcl.hopOf (u8 r.cmd.payload 0) = some h) : getLinkBody r s = .ok s (s.lcl.hop h).linkBytes := by
  simp [getLinkBody, Hop.linkBytes, hp, State.manager_notStandalone hr, hh]

/-- LCL_LAST_RELAY of a mailbox. -/
theorem lastRelayBody_mailbox (hp : u8 r.cmd.payload 0 ≤ 3) (hr : s.role = .manager) :
    lastRelayBody r s = .ok s (Tab.get s.cmd.lastRelay (u8 r.cmd.payload 0) {}).bytes := by
  simp [lastRelayBody, LastRelay.bytes, hr, Nat.not_lt.mpr hp]

end

end Sys2Proof.Machine
end

section
/-!
PROOFS. The cascade (family 12), its hops: what an event and a message leave, breaks, training and joins.
-/

namespace Sys2Proof

/-- A table after `f` was applied at every index of a list. -/
theorem Tab.get_update {α : Type} (t : Tab α) (ks : List Nat) (d : α) (f : Nat → α → α) (j : Nat) :
    Tab.get (Tab.update t ks d f) j d = if j ∈ ks then f j (Tab.get t j d) else Tab.get t j d := by
  rw [Tab.update, Tab.get, Tab.find?_foldl_set (fun k => f k (Tab.get t k d))]
  split <;> rfl

end Sys2Proof

namespace Sys2Proof.Machine

open Sys2Proof

/-! ### Messages and events (R318, R320) -/

/-- `t` is `s` after messages were sent and events raised. -/
def State.Raised (s t : State) : Prop :=
  { t with evq := s.evq, lcl := s.lcl } = s ∧ t.lcl.link = s.lcl.link

section
variable {s t u : State}

/-- Nothing sent and nothing raised. -/
theorem State.Raised.refl (s : State) : s.Raised s := ⟨rfl, rfl⟩

/-- One after the other. -/
theorem State.Raised.trans (h : s.Raised t) (h' : t.Raised u) : s.Raised u := by
  obtain ⟨hframe, hlink⟩ := h
  obtain ⟨hframe', hlink'⟩ := h'
  refine ⟨?_, hlink'.trans hlink⟩
  have hu : { u with evq := s.evq, lcl := s.lcl } = { t with evq := s.evq, lcl := s.lcl } :=
    congrArg (fun x : State => { x with evq := s.evq, lcl := s.lcl }) hframe'
  exact hu.trans hframe

/-- A list of messages and events. -/
theorem State.Raised.foldl {β : Type} {f : State → β → State} (h : ∀ x b, State.Raised x (f x b)) (l : List β) (s : State) :
    s.Raised (l.foldl f s) := by
  induction l generalizing s with
  | nil => exact .refl s
  | cons b l ih => exact (h s b).trans (ih _)

/-- A message is sent. -/
theorem State.raised_message (s : State) (dst kind : Nat) (body : List Byte) : s.Raised (s.message dst kind body) :=
  ⟨rfl, rfl⟩

/-- An event is raised. -/
theorem State.raised_raiseEvent (s : State) (typ : Nat) (sev : Severity) (p : List Byte) : s.Raised (s.raiseEvent typ sev p) :=
  ⟨s.raiseEvent_frame typ sev p, (State.keeps_of_course (s.raiseEvent_course typ sev p)).1⟩

/-- The link side alone differs in what is sent and held. -/
theorem State.raised_lcl {l : Lcl} (h : l.link = s.lcl.link) : s.Raised { s with lcl := l } := ⟨rfl, h⟩

/-- Messages and events leave everything but the event unit and the cascade's messages as it was. -/
theorem State.Raised.keeps (h : s.Raised t) :
    t.now = s.now ∧ t.boot = s.boot ∧ t.beam = s.beam ∧ t.tx = s.tx ∧ t.path = s.path ∧ t.radio = s.radio ∧ t.cal = s.cal ∧
    t.role = s.role := by
  obtain ⟨now, -, -, -, -, -, -, -, -, -, boot, -, -, -, -, -, -, -, path, radio, -, beam, -, -, tx, -, -, cal, -⟩ :=
    State.keeps_of_frame h.1
  exact ⟨now, boot, beam, tx, path, radio, cal, State.role_congr boot⟩

/-- Messages and events leave the chain as it was. -/
theorem State.Raised.chain (h : s.Raised t) :
    t.lcl.dCfg = s.lcl.dCfg ∧ t.lcl.hop = s.lcl.hop ∧ t.lcl.pos = s.lcl.pos ∧ t.lcl.lowerOf = s.lcl.lowerOf := by
  obtain ⟨dCfg, -, hop, pos, lowerOf, -⟩ := Lcl.keeps_of_link h.2
  exact ⟨dCfg, hop, pos, lowerOf⟩

end

/-! ### Breaks (R322, R323) -/

/-- The chain once hop `h` has broken: no hop trains from there down, and the positions up to `p` are cut off. -/
def Lcl.cutBelow (l : Lcl) (h p : Nat) : Lcl :=
  { l with
    hops := l.hops.map (fun (q : Nat × Hop) => if h ≤ q.1 then (q.1, { q.2 with training := false }) else q)
    positions := Tab.update l.positions (List.range (p + 1)) {} (fun _ x => { x with state := .cutOff }) }

section
variable (l : Lcl) (h p : Nat)

/-- The positions after a break. -/
@[simp] theorem Lcl.cutBelow_pos (q : Nat) :
    (l.cutBelow h p).pos q = if q ≤ p then { l.pos q with state := .cutOff } else l.pos q := by
  simp [Lcl.cutBelow, Lcl.pos, Tab.get_update]

/-- Whether a hop trains after a break. -/
theorem Lcl.cutBelow_training (j : Nat) :
    ((l.cutBelow h p).hop j).training = (decide (j < h) && (l.hop j).training) := by
  simp only [Lcl.cutBelow, Lcl.hop]
  induction l.hops with
  | nil => simp [Tab.get, Tab.find?]
  | cons q t ih =>
    obtain ⟨k, x⟩ := q
    by_cases hk : k = j
    · subst hk
      by_cases hh : h ≤ k
      · simp [Tab.get, Tab.find?, hh]
      · simp [Tab.get, Tab.find?, hh, Nat.lt_of_not_le hh]
    · simpa [Tab.get, Tab.find?, hk, apply_ite Prod.fst] using ih

/-- A break leaves the length of the chain as it is. -/
@[simp] theorem Lcl.cutBelow_length : (l.cutBelow h p).dCfg = l.dCfg ∧ (l.cutBelow h p).lowerOf = l.lowerOf := ⟨rfl, rfl⟩

end

/-- Some worker up to position `p` had joined. -/
def State.losesWorker (s : State) (p : Nat) : Bool := (List.range (p + 1)).any (fun q => (s.lcl.pos q).state == .joined)

/-- The state after a break of hop `h`, before its event. -/
def State.broken (s : State) (h p : Nat) : State :=
  if s.losesWorker p then ({ s with lcl := s.lcl.cutBelow h p } : State).loseWorkers
  else { s with lcl := s.lcl.cutBelow h p }

section
variable {s : State} {h p : Nat}

/-- The loss of workers leaves the cascade, time and the weights as they are. -/
theorem State.loseWorkers_keeps (s : State) :
    s.loseWorkers.lcl = s.lcl ∧ s.loseWorkers.now = s.now ∧ s.loseWorkers.beam.weights = s.beam.weights ∧
    s.loseWorkers.beam.shift = s.beam.shift ∧ s.loseWorkers.beam.ownOnly = s.beam.ownOnly := by
  unfold State.loseWorkers
  dsimp only
  split <;> exact ⟨rfl, rfl, rfl, rfl, rfl⟩

/-- A break changes the chain and, where it loses workers, what they shared. -/
theorem State.broken_keeps (s : State) (h p : Nat) :
    (s.broken h p).lcl = s.lcl.cutBelow h p ∧ (s.broken h p).now = s.now ∧ (s.broken h p).beam.weights = s.beam.weights ∧
    (s.broken h p).beam.shift = s.beam.shift ∧ (s.broken h p).beam.ownOnly = s.beam.ownOnly := by
  unfold State.broken
  split
  · exact State.loseWorkers_keeps _
  · exact ⟨rfl, rfl, rfl, rfl, rfl⟩

/-- A break is the break and at most one event. -/
theorem State.raised_breakHop (hp : s.lcl.lowerOf h = some p) (cause : Nat) : (s.broken h p).Raised (s.breakHop h cause) := by
  have hbreak : s.breakHop h cause =
      if (s.lcl.pos p).state == .cutOff || !(s.broken h p).present (p + 1) then s.broken h p
      else (s.broken h p).breakEvent p (p + 1) cause ((s.broken h p).cutCount p) := by
    unfold State.breakHop
    rw [hp]
    rfl
  rw [hbreak]
  split
  · exact .refl _
  · exact State.raised_raiseEvent _ _ _ _

/-- The chain after a break: every position from the break down is cut off, no hop there trains. -/
theorem State.breakHop_chain (hp : s.lcl.lowerOf h = some p) (cause : Nat) :
    (∀ q, (s.breakHop h cause).lcl.pos q = if q ≤ p then { s.lcl.pos q with state := .cutOff } else s.lcl.pos q) ∧
    (∀ j, ((s.breakHop h cause).lcl.hop j).training = (decide (j < h) && (s.lcl.hop j).training)) ∧
    (s.breakHop h cause).lcl.dCfg = s.lcl.dCfg ∧ (s.breakHop h cause).lcl.lowerOf = s.lcl.lowerOf := by
  obtain ⟨hdCfg, hhop, hpos, hlower⟩ := (State.raised_breakHop hp cause).chain
  have hlcl := (s.broken_keeps h p).1
  refine ⟨fun q => ?_, fun j => ?_, ?_, ?_⟩
  · rw [hpos, hlcl, Lcl.cutBelow_pos]
  · rw [hhop, hlcl, Lcl.cutBelow_training]
  · rw [hdCfg, hlcl]
    rfl
  · rw [hlower, hlcl]
    rfl

/-- A break leaves time, the weights, the shift and the combining mode as they are. -/
theorem State.breakHop_keeps (hp : s.lcl.lowerOf h = some p) (cause : Nat) :
    (s.breakHop h cause).now = s.now ∧ (s.breakHop h cause).beam.weights = s.beam.weights ∧
    (s.breakHop h cause).beam.shift = s.beam.shift ∧ (s.breakHop h cause).beam.ownOnly = s.beam.ownOnly := by
  obtain ⟨hnow, -, hbeam, -⟩ := (State.raised_breakHop hp cause).keeps
  rw [hnow, hbeam]
  exact (s.broken_keeps h p).2

/-- A break that loses no joined worker leaves the beams and the transmit unit as they are. -/
theorem State.breakHop_lossless (hp : s.lcl.lowerOf h = some p) (cause : Nat) (hj : s.losesWorker p = false) :
    (s.breakHop h cause).beam = s.beam ∧ (s.breakHop h cause).tx = s.tx := by
  obtain ⟨-, -, hbeam, htx, -⟩ := (State.raised_breakHop hp cause).keeps
  rw [hbeam, htx, State.broken, hj]
  exact ⟨rfl, rfl⟩

end

/-! ### Training (R310, R311) -/

section
variable {s : State} {h p : Nat}

/-- A hop of the chain starts to train with the device at its lower end. -/
theorem State.startTraining_lower (hp : s.lcl.lowerOf h = some p) :
    s.startTraining h = (s.setHop h (fun x => { x with training := true })).setPos p (fun x => { x with state := .training }) := by
  rw [State.startTraining, State.setHop_chain .. |>.2.2.1, hp]

/-- A hop that starts to train. -/
theorem State.startTraining_chain (hp : s.lcl.lowerOf h = some p) :
    ((s.startTraining h).lcl.hop h).training = true ∧
    (∀ q, (s.startTraining h).lcl.pos q = if q = p then { s.lcl.pos p with state := .training } else s.lcl.pos q) ∧
    (s.startTraining h).lcl.dCfg = s.lcl.dCfg ∧ (s.startTraining h).beam = s.beam := by
  rw [State.startTraining_lower hp]
  exact ⟨by simp, fun q => by simp, rfl, rfl⟩

/-- The start of a training changes the chain alone. -/
theorem State.startTraining_frame (hp : s.lcl.lowerOf h = some p) (l : Lcl) :
    { s.startTraining h with lcl := l } = { s with lcl := l } := by
  rw [State.startTraining_lower hp]
  rfl

/-- The hop whose training has ended with these lanes, before its events. -/
def State.trained (s : State) (h : Nat) (lanes : List Lane) : State :=
  s.setHop h (fun x => { x with
    training := false
    weak := (((List.range lanes.length).zip lanes).filter
      (fun x => x.2.state == .inUse && decide (x.2.margin < s.lcl.marginMin))).map (fun x => x.1)
    lanes := ((List.range lanes.length).zip lanes).map
      (fun y => (y.1, { y.2 with hdrErr := (Tab.get (s.lcl.hop h).lanes y.1 {}).hdrErr })) })

/-- The end of a training ends it and raises events. -/
theorem State.raised_laneResults (s : State) (h : Nat) (lanes : List Lane) : (s.trained h lanes).Raised (s.laneResults h lanes) := by
  refine State.Raised.foldl (fun x y => ?_) _ _
  split
  · exact State.raised_raiseEvent _ _ _ _
  · exact .refl x

/-- The end of a training ends it, and changes the chain in nothing else. -/
theorem State.laneResults_chain (s : State) (h : Nat) (lanes : List Lane) :
    ((s.laneResults h lanes).lcl.hop h).training = false ∧ (s.laneResults h lanes).lcl.pos = s.lcl.pos ∧
    (s.laneResults h lanes).lcl.lowerOf = s.lcl.lowerOf ∧ (s.laneResults h lanes).lcl.dCfg = s.lcl.dCfg ∧
    (s.laneResults h lanes).role = s.role := by
  obtain ⟨hdCfg, hhop, hpos, hlower⟩ := (s.raised_laneResults h lanes).chain
  obtain ⟨-, -, -, -, -, -, -, hrole⟩ := (s.raised_laneResults h lanes).keeps
  refine ⟨?_, hpos, hlower, hdCfg, hrole⟩
  rw [hhop]
  simp [State.trained]

/-- The end of a training leaves the beams and the transmit unit as they are. -/
theorem State.laneResults_keeps (s : State) (h : Nat) (lanes : List Lane) :
    (s.laneResults h lanes).beam = s.beam ∧ (s.laneResults h lanes).tx = s.tx := by
  obtain ⟨-, -, hbeam, htx, -⟩ := (s.raised_laneResults h lanes).keeps
  exact ⟨hbeam, htx⟩

end

/-! ### A training that sees no lane (R310) -/

/-- Nothing is chosen among lanes that are silent. -/
theorem lanesChosen_silent (total need : Nat) (weak : List Nat) : lanesChosen total need weak (fun _ => laneSilent) = [] := by
  have hfailed : (LaneState.failed == LaneState.inUse) = false := rfl
  simp [lanesChosen, laneFound, laneSilent, hfailed]

/-- A group of silent lanes fails, lane by lane. -/
theorem trainGroup_silent (total : Nat) {need : Nat} (weak : List Nat) (hn : need ≠ 0) :
    (trainGroup total need weak (fun _ => laneSilent)).2 = false ∧
    (trainGroup total need weak (fun _ => laneSilent)).1.map (fun l => l.state) = List.replicate total .failed := by
  have hfound : ∀ k, laneFound k laneSilent = .failed := fun _ => rfl
  simp only [trainGroup, lanesChosen_silent]
  refine ⟨?_, ?_⟩
  · simp [Ne.symm hn]
  · simp [hfound]

/-- A training that sees no lane fails, lane by lane. -/
theorem trainHop_silent (x : Hop) :
    (trainHop x []).2 = false ∧ (trainHop x []).1.map (fun l => l.state) = List.replicate 12 .failed := by
  simp only [trainHop, List.getD_nil]
  obtain ⟨hfwd, hfwdLanes⟩ := trainGroup_silent 9 (need := 8) (x.weak.filter (fun k => decide (k < 9))) (by decide)
  obtain ⟨-, hrevLanes⟩ := trainGroup_silent 3 (need := 2)
    ((x.weak.filter (fun k => decide (9 ≤ k))).map (fun k => k - 9)) (by decide)
  rw [hfwd, List.map_append, hfwdLanes, hrevLanes]
  exact ⟨rfl, rfl⟩

/-! ### Joining (R310, R314, R325) -/

section
variable {s : State}

/-- A device that is no manager does not enter own-only. -/
theorem State.enterOwnOnly_notManager (hr : s.role ≠ .manager) : s.enterOwnOnly = s := by
  simp [State.enterOwnOnly, hr]

/-- A manager that enters own-only. -/
theorem State.enterOwnOnly_manager (hr : s.role = .manager) :
    s.enterOwnOnly.beam.ownOnly = true ∧ s.enterOwnOnly.cal.xdevConverged = false ∧ s.enterOwnOnly.lcl.link = s.lcl.link := by
  unfold State.enterOwnOnly
  rw [if_neg (by simp [hr])]
  extract_lets scaled oldBeam oldCal own runs
  have hruns := State.startRuns_kindsOnly own 3 [9] 0#64 false
  have hlcl : scaled.lcl = s.lcl := by
    dsimp only [scaled]
    split <;> rfl
  obtain ⟨-, -, hbeam, -, -, -, hcal, -⟩ := (State.raised_raiseEvent runs 0x0904 .notice
    (b8 false ++ le 1 1 ++ leSat 2 0xFFFF ++ le 4 0 ++ runs.ts64Bytes runs.now)).keeps
  obtain ⟨-, hlink⟩ := State.raised_raiseEvent runs 0x0904 .notice
    (b8 false ++ le 1 1 ++ leSat 2 0xFFFF ++ le 4 0 ++ runs.ts64Bytes runs.now)
  rw [hbeam, hcal, hlink]
  refine ⟨?_, ?_, ?_⟩
  · exact (congrArg (fun u : State => u.beam.ownOnly) hruns :)
  · exact (congrArg (fun u : State => u.cal.xdevConverged) hruns :)
  · have hrunsLcl : runs.lcl = own.lcl := (congrArg State.lcl hruns :)
    exact congrArg Lcl.link (hrunsLcl.trans hlcl)

/-- The settings that a worker is sent are messages. -/
theorem State.raised_configureWorker (s : State) (p : Nat) (boots : Bool) : s.Raised (s.configureWorker p boots) := by
  unfold State.configureWorker
  extract_lets booted placed shifted
  have hbooted : s.Raised booted := by
    dsimp only [booted]
    split
    · exact State.raised_message _ _ _ _
    · exact .refl s
  have hshifted : booted.Raised shifted := (State.raised_message booted _ _ _).trans (State.raised_message placed _ _ _)
  exact (hbooted.trans hshifted).trans (State.raised_message shifted _ _ _)

/-- A join at position `p` as the manager notes it, before what it raises and sends. -/
def State.joinMarked (s : State) (h p : Nat) (lanes : List Lane) (x : JoinInfo) : State :=
  ((s.laneResults h lanes).setHop h (fun y =>
    { y with oneWayPs := x.oneWayPs, trigPs := x.trigPs, heartbeatAt := (s.laneResults h lanes).now })).setPos p (fun q => { q with
      state := .joined, fresh := x.fresh, bootsCascade := x.bootsCascade, timeOffsetPs := 0, joinedOnce := true,
      rxRef := some x.rxRef, imageRejects := 0 })

/-- The manager's side of a join: it notes the join, raises and sends, and enters own-only. -/
theorem State.joinOnManager_raised {h p : Nat} (lanes : List Lane) (x : JoinInfo) (hp : s.lcl.lowerOf h = some p) :
    ∃ y, (s.joinMarked h p lanes x).Raised y ∧ s.joinOnManager h lanes x = y.enterOwnOnly := by
  generalize hz : s.joinOnManager h lanes x = z
  unfold State.joinOnManager at hz
  extract_lets base at hz
  have hbase : base = s := if_neg (by simp [hp])
  clear_value base
  subst hbase
  simp -zeta only [hp] at hz
  extract_lets marked told sent configured at hz
  have hsent : (base.joinMarked h p lanes x).Raised sent :=
    (State.raised_raiseEvent marked _ _ _).trans (State.raised_message told _ _ _)
  refine ⟨configured, hsent.trans ?_, hz.symm⟩
  dsimp only [configured]
  split
  · exact State.raised_configureWorker _ _ _
  · exact .refl _

/-- The manager's side of a join: the device, the hop and the combining mode. -/
theorem State.joinOnManager_joined {h p : Nat} (lanes : List Lane) (x : JoinInfo) (hr : s.role = .manager)
    (hp : s.lcl.lowerOf h = some p) :
    ((s.joinOnManager h lanes x).lcl.pos p).state = .joined ∧ ((s.joinOnManager h lanes x).lcl.pos p).fresh = x.fresh ∧
    ((s.joinOnManager h lanes x).lcl.pos p).joinedOnce = true ∧ ((s.joinOnManager h lanes x).lcl.hop h).training = false ∧
    ((s.joinOnManager h lanes x).lcl.hop h).oneWayPs = x.oneWayPs ∧ (s.joinOnManager h lanes x).beam.ownOnly = true ∧
    (s.joinOnManager h lanes x).cal.xdevConverged = false ∧ (s.joinOnManager h lanes x).lcl.dCfg = s.lcl.dCfg := by
  obtain ⟨htraining, -, -, hdCfg, hrole⟩ := s.laneResults_chain h lanes
  obtain ⟨y, hraised, hjoin⟩ := State.joinOnManager_raised lanes x hp
  obtain ⟨-, -, -, -, -, -, -, hsame⟩ := hraised.keeps
  obtain ⟨hown, hconverged, hlink⟩ := State.enterOwnOnly_manager (hsame.trans (hrole.trans hr))
  obtain ⟨hlength, -, hhop, hpos, -⟩ := Lcl.keeps_of_link (hlink.trans hraised.2)
  rw [hjoin, hown, hconverged, hlength, hhop, hpos]
  simp [State.joinMarked, htraining, hdCfg]

/-- The held events go out as messages and at most one event. -/
theorem State.raised_flushHeld (s : State) : s.Raised s.flushHeld := by
  unfold State.flushHeld
  extract_lets flushed n oldLcl emptied
  have hflushed : s.Raised flushed := State.Raised.foldl (fun y r => State.raised_message y _ _ _) s.lcl.events s
  have hemptied : s.Raised emptied := hflushed.trans (State.raised_lcl rfl)
  split
  · exact hemptied
  · exact hemptied.trans (State.raised_raiseEvent _ _ _ _)

/-- A worker's report of its record is at most a message. -/
theorem State.raised_reportRecord (s : State) : s.Raised s.reportRecord := by
  unfold State.reportRecord
  split
  · exact State.raised_message _ _ _ _
  · exact .refl s

/-- The worker's side of a join. -/
theorem State.joinOnWorker_joined (lanes : List Lane) (x : JoinInfo) (hr : s.role = .worker) :
    (s.joinOnWorker lanes x).lcl.joined = true ∧ (s.joinOnWorker lanes x).lcl.cut = false ∧
    (s.joinOnWorker lanes x).lcl.fresh = false ∧ (s.joinOnWorker lanes x).lcl.position = x.position ∧
    (s.joinOnWorker lanes x).lcl.dCfg = x.dCfg ∧ (s.joinOnWorker lanes x).boot.gridAt = x.gridAt ∧
    (s.joinOnWorker lanes x).radio.acqCount = (s.radio.acqCount + 1) % 65536 ∧ (s.joinOnWorker lanes x).path = s.path ∧
    (s.joinOnWorker lanes x).tx = s.tx := by
  unfold State.joinOnWorker
  extract_lets hopped oldBoot oldLcl joined counted flushed told
  have hcounted : counted = { joined with
      radio := { joined.radio with acqCount := wrapAdd 16 joined.radio.acqCount 1 }
      cal := { joined.cal with disturbedAt := joined.now } } := by
    refine State.enterOwnOnly_notManager fun hm => ?_
    have hworker : Role.worker = Role.manager := hr.symm.trans hm
    cases hworker
  have hraised : counted.Raised told.reportRecord :=
    ((State.raised_flushHeld counted).trans (State.raised_message flushed _ _ _)).trans (State.raised_reportRecord told)
  obtain ⟨-, hboot, -, htx, hpath, hradio, -, -⟩ := hraised.keeps
  obtain ⟨hdCfg, hposition, -, -, -, -, -, hjoined, hfresh, hcut, -⟩ := Lcl.keeps_of_link hraised.2
  rw [hboot, htx, hpath, hradio, hdCfg, hposition, hjoined, hfresh, hcut, hcounted]
  exact ⟨rfl, rfl, rfl, rfl, rfl, rfl, rfl, rfl, rfl⟩

end

/-! ### Cut off (R324) -/

/-- A burst that does not wait, once cut off, ramps down. -/
def Launch.cutDown (now : Nat) (b : Launch) : Launch :=
  if b.phase = TxPhase.frame then { b with phase := .rampDown, downAt := some now, abort := some (0, 0) } else b

/-- A launch that radiates ramps down once it is cut off. -/
theorem Launch.cutDown_phase (now : Nat) {b : Launch} (h : b.waiting = false) : (b.cutDown now).phase = .rampDown := by
  unfold Launch.waiting at h
  unfold Launch.cutDown
  split
  · rfl
  · cases hb : b.phase <;> simp_all [TxPhase.radiating]

section
variable (s : State)

/-- A device that is cut off: its queue ramps down, its masks and its words stay. -/
theorem State.cutOff_keeps :
    s.cutOff.lcl.joined = false ∧ s.cutOff.lcl.cut = true ∧ s.cutOff.lcl.words = s.lcl.words ∧
    s.cutOff.path.rxMask = s.path.rxMask ∧ s.cutOff.path.txMask = s.path.txMask := by
  obtain ⟨hlink, -, -, hrx, htx⟩ := State.keeps_of_course
    (State.endAll_course { s with lcl := { s.lcl with joined := false, cut := true } } Launch.waiting 0 0)
  obtain ⟨-, -, -, -, -, -, -, hjoined, -, hcut, -, hwords⟩ := Lcl.keeps_of_link hlink
  exact ⟨hjoined, hcut, hwords, hrx, htx⟩

/-- Every burst of a cut-off device ramps down. -/
theorem State.cutOff_rampsDown : (s.cutOff.tx.queue.all (fun b => b.phase == .rampDown)) = true := by
  refine List.all_eq_true.mpr fun b hb => beq_iff_eq.mpr ?_
  obtain ⟨c, hc, rfl⟩ := List.mem_map.mp hb
  exact Launch.cutDown_phase _ (State.mem_queue_endAll _ hc).2

end

end Sys2Proof.Machine
end

section
/-!
PROOFS. The cascade (family 12), the rows of its hops, one rule per row, then the statement on the chain.
-/

namespace Sys2Proof.Machine

open Sys2Proof

/-! ### Training, joining and rejoining (R302, R310, R325) -/

section
variable {s : State} {t p : Nat}

/-- A manager is no worker. -/
theorem State.isWorker_manager (hr : s.role = .manager) : s.isWorker = false := by
  rw [State.isWorker, hr]
  rfl

/-- A hop of a manager whose upper end is there starts to train. -/
theorem exec_hopTraining_manager {h : Fin 16} (hr : s.role = .manager) (hp : s.lcl.lowerOf h = some p)
    (hj : (s.lcl.pos p).state ≠ .joined) (hu : s.upperReady h = true) :
    exec (.hopTraining t h) s = .next ((s.advance t).startTraining h) := by
  change execHopTraining t h s = _
  simp [execHopTraining, hr, hp, hj, hu]

/-- A device beyond the configured length, with discovery over. -/
theorem exec_hopTraining_beyond {h : Fin 16} (hr : s.role = .manager) (hd : s.lcl.dCfg < h.val + 2)
    (hdisc : s.lcl.discovering = false) :
    exec (.hopTraining t h) s = .next { s.advance t with lcl := { s.lcl with extra := max s.lcl.extra (h + 2 - s.lcl.dCfg) } } := by
  have hnone : s.lcl.lowerOf h = none := if_neg (Nat.not_le.mpr hd)
  change execHopTraining t h s = _
  simp [execHopTraining, hr, hnone, hdisc]

/-- A worker whose clock has not locked does not train. -/
theorem exec_hopTraining_unlocked {h : Fin 16} (hr : s.role = .worker) (hc : s.radio.clock ≠ .locked) :
    exec (.hopTraining t h) s = .next (s.advance t) := by
  change execHopTraining t h s = _
  simp [execHopTraining, hr, hc]

/-- A training of a manager's hop that fails breaks the hop. -/
theorem exec_hopTrainingFail_manager {h : Fin 16} {x : List LaneTrain} (hr : s.role = .manager)
    (ht : (s.lcl.hop h).training = true) (hx : (trainHop (s.lcl.hop h) x).2 = false) (hp : s.lcl.lowerOf h = some p) :
    ∃ cause, exec (.hopTrainingFail t h x) s =
      .next (((s.advance t).laneResults h (trainHop (s.lcl.hop h) x).1).breakHop h cause) := by
  obtain ⟨-, -, hlower, -⟩ := (s.advance t).laneResults_chain h (trainHop (s.lcl.hop h) x).1
  change ∃ cause, execHopTrainingFail t h x s = _
  simp [execHopTrainingFail, hr, ht, hx, hlower, hp]

/-- A training of a manager's hop that succeeds. -/
theorem exec_hopJoin_manager {h : Fin 16} {x : List LaneTrain} {j : JoinInfo} (hr : s.role = .manager)
    (ht : (s.lcl.hop h).training = true) (hx : (trainHop (s.lcl.hop h) x).2 = true) :
    exec (.hopJoin t h x j) s = .next ((s.advance t).joinOnManager h (trainHop (s.lcl.hop h) x).1 j) := by
  change execHopJoin t h x j s = _
  simp [execHopJoin, hr, ht, hx]

/-- A worker's training that succeeds. -/
theorem exec_hopJoin_worker {h : Fin 16} {x : List LaneTrain} {j : JoinInfo} (hr : s.role = .worker)
    (ht : (s.lcl.hop 0).training = true) (hx : (trainHop (s.lcl.hop 0) x).2 = true) :
    exec (.hopJoin t h x j) s = .next ((s.advance t).joinOnWorker (trainHop (s.lcl.hop 0) x).1 j) := by
  change execHopJoin t h x j s = _
  simp [execHopJoin, hr, ht, hx]

/-- A cut-off hop trains again by itself with AUTO_REJOIN alone. -/
theorem exec_hopRejoin_cutOff {h : Fin 15} (hr : s.role = .manager) (hp : s.lcl.lowerOf h = some p)
    (hc : (s.lcl.pos p).state = .cutOff) (hu : s.upperReady h = true) (ht : (s.lcl.hop h).training = false) :
    exec (.hopRejoin t h) s =
      .next (if s.lcl.autoRejoin = true then (s.advance t).startTraining h else s.advance t) := by
  change execHopRejoin t h s = _
  by_cases ha : s.lcl.autoRejoin = true <;> simp [execHopRejoin, hr, hp, hc, hu, ht, ha]

end

/-! ### Heartbeats, lanes and CUT (R322, R324) -/

section
variable {s : State} {t p n g : Nat} {h : Fin 15} {l : Fin 12}

/-- A joined hop without a heartbeat breaks. -/
theorem exec_heartbeatTimeout_joined (hr : s.role = .manager) (hp : s.lcl.lowerOf h = some p)
    (hj : (s.lcl.pos p).state = .joined) :
    exec (.heartbeatTimeout h) s = .next ((s.advance ((s.lcl.hop h).heartbeatAt + 3840000000)).breakHop h 1) := by
  change execHeartbeatTimeout h s = _
  simp [execHeartbeatTimeout, hr, hp, hj, Config.ms]

/-- The hop once invalid headers of a lane, and the groups lost with them, have been counted. -/
def State.headersLost (s : State) (h l n g : Nat) : State :=
  s.setHop h (fun x => { x with
    lanes := Tab.set x.lanes l { Tab.get (s.lcl.hop h).lanes l {} with
      hdrErr := satAdd 16 (Tab.get (s.lcl.hop h).lanes l {}).hdrErr n }
    groupErr := wrapAdd 32 x.groupErr g })

/-- Fewer than 16 invalid headers are counted. -/
theorem exec_laneLockLoss_counted (hr : s.role = .manager) (hn : n < 16)
    (hl : (Tab.get (s.lcl.hop h).lanes l {}).state = .inUse) :
    exec (.laneLockLoss t h l n g) s = .next ((s.advance t).headersLost h l n g) := by
  change execLaneLockLoss t h l n g s = _
  simp [execLaneLockLoss, State.headersLost, State.isWorker_manager hr, hl, hn]

/-- From 16 invalid headers on the hop breaks. -/
theorem exec_laneLockLoss_broken (hr : s.role = .manager) (hn : 16 ≤ n)
    (hl : (Tab.get (s.lcl.hop h).lanes l {}).state = .inUse) :
    exec (.laneLockLoss t h l n g) s = .next ((((s.advance t).headersLost h l n g).laneEvent h l.val 1
      (Tab.get (s.lcl.hop h).lanes l {}).margin).breakHop h 0) := by
  change execLaneLockLoss t h l n g s = _
  simp [execLaneLockLoss, State.headersLost, State.isWorker_manager hr, hl, Nat.not_lt.mpr hn, hr]

/-- A worker that is cut off, with CUT sent unless it was received. -/
theorem exec_cut_worker (received : Bool) (hr : s.role = .worker) :
    exec (.cut t received) s = .next (State.cutOff { s.advance t with
      lcl := { s.lcl with words := s.lcl.words ++ (if received = true then [] else [(0xA, max s.now t)]) } }) := by
  have hw : s.isWorker = true := by
    rw [State.isWorker, hr]
    rfl
  change execCut t received s = _
  cases received
  · simp [execCut, State.cutOffAt, hw]
  · simp [execCut, hw]
    rfl

/-- CUT is a worker's alone. -/
theorem exec_cut_other (received : Bool) (hr : s.role ≠ .worker) : exec (.cut t received) s = .next (s.advance t) := by
  have hw : s.isWorker = false := beq_eq_false_iff_ne.mpr hr
  change execCut t received s = _
  simp [execCut, hw]

end

/-! ### The chain (LCL_SET_CHAIN and the other commands, R302 to R327) -/

/-- The parameters of LCL_SET_CHAIN in their ranges. -/
theorem chainRanges_of_bounds {b : List Byte} (hn : u8 b 0 ≤ 16) (hr : u8 b 1 ≤ 1) (hlo : 10 ≤ u16 b 2) (hhi : u16 b 2 ≤ 10000)
    (hm : 50 ≤ u16 b 4) (hm' : u16 b 4 ≤ 500) : chainRanges b = true := by
  simp [chainRanges, inRange, hn, hr, hlo, hhi, hm, hm']

/-- Where no position has joined, a break loses no worker. -/
theorem State.losesWorker_none {s : State} {p : Nat} (hp : p ≤ 15) (hj : ∀ q : Fin 16, (s.lcl.pos q).state ≠ .joined) :
    s.losesWorker p = false := by
  refine List.any_eq_false.mpr fun q hq => ?_
  have hlt : q < 16 := by
    have hmem := List.mem_range.mp hq
    omega
  simpa using hj ⟨q, hlt⟩

/-- A hop that is broken and trains again. -/
theorem State.retrained_chain {s : State} {h p : Nat} (hp : s.lcl.lowerOf h = some p) (cause : Nat) :
    (((s.breakHop h cause).startTraining h).lcl.hop h).training = true ∧
    (((s.breakHop h cause).startTraining h).lcl.pos p).state = .training ∧
    (∀ q < p, (((s.breakHop h cause).startTraining h).lcl.pos q).state = .cutOff) ∧
    (∀ q, p < q → ((s.breakHop h cause).startTraining h).lcl.pos q = s.lcl.pos q) ∧
    ((s.breakHop h cause).startTraining h).lcl.dCfg = s.lcl.dCfg ∧
    ((s.breakHop h cause).startTraining h).beam.weights = s.beam.weights ∧
    ((s.breakHop h cause).startTraining h).beam.shift = s.beam.shift := by
  obtain ⟨hbPos, -, hbCfg, hbLower⟩ := State.breakHop_chain hp cause
  obtain ⟨-, hbWeights, hbShift, -⟩ := State.breakHop_keeps hp cause
  obtain ⟨htrain, hpos, hcfg, hbeam⟩ := State.startTraining_chain ((congrFun hbLower h).trans hp)
  rw [hcfg, hbCfg, hbeam, hbWeights, hbShift]
  refine ⟨htrain, ?_, fun q hq => ?_, fun q hq => ?_, rfl, rfl, rfl⟩
  · rw [hpos, if_pos rfl]
  · rw [hpos, if_neg (Nat.ne_of_lt hq), hbPos, if_pos (Nat.le_of_lt hq)]
  · rw [hpos, if_neg (Nat.ne_of_gt hq), hbPos, if_neg (Nat.not_le.mpr hq)]

/-- A hop that breaks at the end of its training, where no position has joined. -/
theorem State.trainingFailed_chain {s : State} {h p : Nat} (lanes : List Lane) (cause : Nat) (hp : s.lcl.lowerOf h = some p)
    (hp' : p ≤ 15) (hj : ∀ q : Fin 16, (s.lcl.pos q).state ≠ .joined) :
    (((s.laneResults h lanes).breakHop h cause).lcl.hop h).training = false ∧
    (∀ q ≤ p, (((s.laneResults h lanes).breakHop h cause).lcl.pos q).state = .cutOff) ∧
    ((s.laneResults h lanes).breakHop h cause).lcl.dCfg = s.lcl.dCfg ∧
    ((s.laneResults h lanes).breakHop h cause).beam = s.beam ∧ ((s.laneResults h lanes).breakHop h cause).tx = s.tx := by
  obtain ⟨-, hpos, hlower, hcfg, -⟩ := s.laneResults_chain h lanes
  obtain ⟨hbeam, htx⟩ := s.laneResults_keeps h lanes
  have hlow := (congrFun hlower h).trans hp
  have hnone : (s.laneResults h lanes).losesWorker p = false := State.losesWorker_none hp' (hpos ▸ hj)
  obtain ⟨hbPos, hbTrain, hbCfg, -⟩ := State.breakHop_chain hlow cause
  obtain ⟨hbBeam, hbTx⟩ := State.breakHop_lossless hlow cause hnone
  refine ⟨?_, fun q hq => ?_, hbCfg.trans hcfg, hbBeam.trans hbeam, hbTx.trans htx⟩
  · rw [hbTrain]
    simp
  · rw [hbPos, if_pos hq]

/-- Settles O33, one rule per command and row; a break, a training and a join are each said once of the chain. -/
theorem cascadeChain : Obligations.CascadeChain := by
  unfold Obligations.CascadeChain
  refine ⟨?_, ?_, ?_, ?_, ?_, ?_, ?_, ?_, ?_, ?_, ?_, ?_, ?_, ?_, ?_, ?_, ?_, ?_, ?_, ?_, ?_, ?_, ?_⟩
  · intro s r h hr hn ha hlo hhi hm hm' ht ht' hb
    exact runCommand_effect h
      (setChainBody_valid (chainRanges_of_bounds hn ha hlo hhi hm hm') hr (State.nvTempOk_of_range ht ht') hb)
  · exact fun s r h hp => runCommand_status h (setChainBody_badParam hp) (by decide)
  · exact fun s r h hp hr => runCommand_status h (setChainBody_standalone hp hr) (by decide)
  · exact fun s r h hp hr ht => runCommand_status h (setChainBody_tempRange hp hr ht) (by decide)
  · exact fun s r h hp hr ht ht' hb =>
      runCommand_status h (setChainBody_busy hp hr (State.nvTempOk_of_range ht ht') hb) (by decide)
  · intro s r h
    exact ⟨_, runCommand_effect h rfl, s.lclStatus_front.1, s.lclStatus_manager, s.lclStatus_standalone, s.lclStatus_positions⟩
  · intro s r h w hr hp hh hu hb
    obtain ⟨htrain, hown, hbelow, habove, hkeeps⟩ := State.retrained_chain (Lcl.lowerOf_of_hopOf hh) 5
    exact ⟨_, runCommand_effect w (retrainBody_hop hp hr hh hu hb), htrain, hown, fun q => hbelow q, fun q => habove q, hkeeps⟩
  · exact fun s r h hr hp hd => runCommand_status h (retrainBody_noDevice hp hr hd) (by decide)
  · intro s r h w hr hp hh
    obtain ⟨hlen, hcounts⟩ := (s.lcl.hop h).linkBytes_fields
    exact ⟨_, runCommand_effect w (getLinkBody_hop hp hr hh), hlen, (s.lcl.hop h).linkBytes_lanes, hcounts⟩
  · intro s r h hr hp
    obtain ⟨hlen, hop, hstatus⟩ := (Tab.get s.cmd.lastRelay (u8 r.cmd.payload 0) {}).bytes_fields
    exact ⟨_, runCommand_effect h (lastRelayBody_mailbox hp hr), hlen, hop, hstatus⟩
  · intro s t h p hr hp hj hu
    obtain ⟨htrain, hpos, -, -⟩ := State.startTraining_chain (s := s.advance t) hp
    refine ⟨_, exec_hopTraining_manager hr hp hj hu, htrain, ?_, ?_⟩
    · rw [hpos, if_pos rfl]
    · exact congrArg (fun u : State => { u with now := s.now }) (State.startTraining_frame (s := s.advance t) hp s.lcl)
  · exact fun s t h hr hd hdisc => exec_hopTraining_beyond hr hd hdisc
  · exact fun s t h hr hc => exec_hopTraining_unlocked hr hc
  · intro s t h x p hr ht hx hp hp' hj
    obtain ⟨cause, hexec⟩ := exec_hopTrainingFail_manager (t := t) hr ht hx hp
    obtain ⟨htraining, hcut, hkeeps⟩ := State.trainingFailed_chain (s := s.advance t) (trainHop (s.lcl.hop h) x).1 cause hp hp' hj
    exact ⟨_, hexec, htraining, fun q => hcut q, hkeeps⟩
  · intro k x
    obtain ⟨hfail, hlanes⟩ := trainHop_silent x
    refine ⟨hfail, ?_⟩
    rw [hlanes, List.getD_eq_getElem _ _ (by simp), List.getElem_replicate]
  · intro s t h x j p hr ht hx hp _
    exact ⟨_, exec_hopJoin_manager hr ht hx, State.joinOnManager_joined (s := s.advance t) _ j hr hp⟩
  · intro s t h x j hr ht hx
    exact ⟨_, exec_hopJoin_worker hr ht hx, State.joinOnWorker_joined (s := s.advance t) _ j hr⟩
  · intro s t h p hr hp hc hu ht
    refine ⟨_, exec_hopRejoin_cutOff hr hp hc hu ht, ?_⟩
    by_cases ha : s.lcl.autoRejoin = true
    · obtain ⟨htrain, hpos, -, -⟩ := State.startTraining_chain (s := s.advance t) hp
      simp only [ha, if_true]
      refine ⟨?_, ?_⟩
      · rw [htrain, hpos, if_pos rfl]
      · exact congrArg (fun u : State => { u with now := s.now }) (State.startTraining_frame (s := s.advance t) hp s.lcl)
    · simp only [ha]
      exact ⟨congrArg₂ Prod.mk ht hc, rfl⟩
  · intro s h p hr hp hj
    have hlow : (s.advance ((s.lcl.hop h).heartbeatAt + 3840000000)).lcl.lowerOf h = some p := hp
    obtain ⟨hbPos, -, -, -⟩ := State.breakHop_chain hlow 1
    obtain ⟨hnow, -, hshift, hown⟩ := State.breakHop_keeps hlow 1
    refine ⟨_, exec_heartbeatTimeout_joined hr hp hj, hnow, fun q hq => ?_, fun q hq => ?_, hshift, hown⟩
    · rw [hbPos, if_pos hq]
    · rw [hbPos, if_neg (Nat.not_le.mpr hq)]
      rfl
  · intro s t h l n g hr hn hl
    refine ⟨_, exec_laneLockLoss_counted hr hn hl, ?_, ?_, rfl, rfl⟩
    · simp [State.headersLost, satAdd, Nat.min_comm]
    · simp [State.headersLost, wrapAdd]
  · intro s t h l n g p hr hn hl hp
    refine ⟨_, exec_laneLockLoss_broken hr hn hl, fun q hq => ?_⟩
    obtain ⟨-, -, -, hlower⟩ := (State.raised_raiseEvent ((s.advance t).headersLost h l n g) _ _ _).chain
    obtain ⟨hbPos, -⟩ := State.breakHop_chain ((congrFun hlower h).trans hp) 0
    exact (congrArg Position.state (hbPos q)).trans (by rw [if_pos hq])
  · intro s t received hr
    obtain ⟨hjoined, hcut, hwords, hrx, htx⟩ := State.cutOff_keeps { s.advance t with
      lcl := { s.lcl with words := s.lcl.words ++ (if received = true then [] else [(0xA, max s.now t)]) } }
    exact ⟨_, exec_cut_worker received hr, hjoined, hcut, hwords, State.cutOff_rampsDown _, hrx, htx⟩
  · exact fun s t received hr => exec_cut_other received hr

end Sys2Proof.Machine
end

section
/-!
PROOFS. Canonical memories (family 13): what each operation of the model leaves of the three memories, which operations write one,
and the invariant.
-/

namespace Sys2Proof.Machine

open Sys2Proof

/-! ### The three memories -/

/-- The three memories: device memory, the host memory that the device writes, the host area of non-volatile memory. -/
def State.mems (s : State) : List Host.Cell × List Host.Cell × List Host.Cell := (s.mem, s.hostMem, s.nv.hostArea)

/-- Three memories in canonical form. -/
def memsWf (m : List Host.Cell × List Host.Cell × List Host.Cell) : Bool :=
  Memory.wf unlisted m.1 && Memory.wf unlisted m.2.1 && Memory.wf erased m.2.2

/-- `memoriesWf` speaks of the three memories alone. -/
theorem State.memoriesWf_eq (s : State) : s.memoriesWf = memsWf s.mems := rfl

/-- The three memories of a state given by its fields. -/
@[simp] theorem State.mems_mk (now pending free mem hostMem host evq cmd nv pins fuses boot dawn thermal tap lcl fh time fab dma
    path radio filt beam hzn dmd tx dpd halo cal spare) :
    State.mems ⟨now, pending, free, mem, hostMem, host, evq, cmd, nv, pins, fuses, boot, dawn, thermal, tap, lcl, fh, time, fab,
      dma, path, radio, filt, beam, hzn, dmd, tx, dpd, halo, cal, spare⟩ = (mem, hostMem, nv.hostArea) := rfl

/-- The fields of the memories, put together again. -/
@[simp] theorem State.mems_eta (s : State) : (s.mem, s.hostMem, s.nv.hostArea) = s.mems := rfl

/-- Two ways, one choice. -/
@[simp] theorem State.mems_ite (c : Prop) [Decidable c] (s t : State) :
    (if c then s else t).mems = if c then s.mems else t.mems :=
  apply_ite State.mems c s t

/-- Two ways, each of which keeps the form. -/
theorem memsWf_ite {c : Prop} [Decidable c] {s t : State} (hs : memsWf s.mems = true) (ht : memsWf t.mems = true) :
    memsWf (if c then s else t).mems = true :=
  iteInduction (motive := fun x : State => memsWf x.mems = true) (fun _ => hs) (fun _ => ht)

/-- Operations in a row that each leave the memories. -/
theorem State.mems_foldl {α : Type} (f : State → α → State) (h : ∀ a b, (f a b).mems = a.mems) (l : List α) (s : State) :
    (l.foldl f s).mems = s.mems :=
  foldl_keeps State.mems f h l s

/-- An event leaves the memories. -/
@[simp] theorem State.raiseEvent_mems (s : State) (typ : Nat) (sev : Severity) (p : List Byte) :
    (s.raiseEvent typ sev p).mems = s.mems := by
  simp only [State.mems, State.raiseEvent_keeps]

section
variable {s : State} (h : memsWf s.mems = true)
include h

/-- Bytes written to device memory. -/
@[simp] theorem memsWf_mem (a : Nat) (l : List Byte) :
    memsWf (memWriteBytes unlisted s.mem a l, s.hostMem, s.nv.hostArea) = true := by
  obtain ⟨⟨hm, hh⟩, hn⟩ := (by simpa only [memsWf, Bool.and_eq_true] using h : (_ ∧ _) ∧ _)
  simp only [memsWf, Bool.and_eq_true]
  exact ⟨⟨Memory.wf_writeBytes hm a l, hh⟩, hn⟩

/-- Bytes written to host memory. -/
@[simp] theorem memsWf_hostMem (a : Nat) (l : List Byte) :
    memsWf (s.mem, memWriteBytes unlisted s.hostMem a l, s.nv.hostArea) = true := by
  obtain ⟨⟨hm, hh⟩, hn⟩ := (by simpa only [memsWf, Bool.and_eq_true] using h : (_ ∧ _) ∧ _)
  simp only [memsWf, Bool.and_eq_true]
  exact ⟨⟨hm, Memory.wf_writeBytes hh a l⟩, hn⟩

/-- Bytes written to the host area. -/
@[simp] theorem memsWf_hostArea (a : Nat) (l : List Byte) :
    memsWf (s.mem, s.hostMem, memWriteBytes erased s.nv.hostArea a l) = true := by
  obtain ⟨⟨hm, hh⟩, hn⟩ := (by simpa only [memsWf, Bool.and_eq_true] using h : (_ ∧ _) ∧ _)
  simp only [memsWf, Bool.and_eq_true]
  exact ⟨⟨hm, hh⟩, Memory.wf_writeBytes hn a l⟩

/-- One byte written to device memory. -/
theorem memsWf_memByte (a : Nat) (v : Byte) : memsWf (State.mems { s with mem := memWrite unlisted s.mem a v }) = true :=
  memsWf_mem h a [v]

/-- One byte written to the host area. -/
theorem memsWf_hostAreaByte (a : Nat) (v : Byte) :
    memsWf (State.mems { s with nv := { s.nv with hostArea := memWrite erased s.nv.hostArea a v } }) = true :=
  memsWf_hostArea h a [v]

/-- The banks lie apart from the host area. -/
theorem memsWf_banks (a b : Bank) : memsWf (State.mems { s with nv := { s.nv with bankA := a, bankB := b } }) = true := h

/-- The event unit lies apart from the memories. -/
theorem memsWf_evq (q : EventRing) : memsWf (State.mems { s with evq := q }) = true := h

/-- The host interface lies apart from the memories. -/
theorem memsWf_host (x : HostIf) : memsWf (State.mems { s with host := x }) = true := h

/-- Device memory at its reset value. -/
@[simp] theorem memsWf_noMem : memsWf ([], s.hostMem, s.nv.hostArea) = true := by
  obtain ⟨⟨-, hh⟩, hn⟩ := (by simpa only [memsWf, Bool.and_eq_true] using h : (_ ∧ _) ∧ _)
  simp only [memsWf, Bool.and_eq_true]
  exact ⟨⟨rfl, hh⟩, hn⟩

end

/-! ### Calibration: the memories -/

/-- Marking or writing a bank leaves the host area. -/
@[simp] theorem Nv.setBank_hostArea (v : Nv) (b : Nat) (x : Bank) : (v.setBank b x).hostArea = v.hostArea := by
  unfold Nv.setBank
  split <;> rfl

/-! ### Shared operations: the memories -/

@[simp] theorem State.message_mems (s : State) (dst kind : Nat) (body : List Byte) :
    (State.message s dst kind body).mems = s.mems := rfl

@[simp] theorem State.toManager_mems (s : State) (kind : Nat) (body : List Byte) :
    (State.toManager s kind body).mems = s.mems := rfl

@[simp] theorem State.messages_mems (s : State) (ps : List Nat) (kind : Nat) (body : List Byte) :
    (State.messages s ps kind body).mems = s.mems := by
  exact State.mems_foldl _ (fun _ _ => by simp) _ _

@[simp] theorem State.advance_mems (s : State) (t : Nat) :
    (State.advance s t).mems = s.mems := rfl

@[simp] theorem State.draw_mems (s : State) :
    (State.draw s).2.mems = s.mems := rfl

@[simp] theorem State.notify_mems (s : State) (v bit : Nat) :
    (State.notify s v bit).mems = s.mems := rfl

@[simp] theorem State.takeOverflow_mems (s : State) :
    (State.takeOverflow s).2.mems = s.mems := rfl

@[simp] theorem State.produce_mems (s : State) (typ sev : Nat) (payload : List Byte) :
    (State.produce s typ sev payload).mems = s.mems := rfl

@[simp] theorem State.workerEvent_mems (s : State) (r : EvRec) :
    (State.workerEvent s r).mems = s.mems := by
  simp [State.workerEvent]

@[simp] theorem State.respond_mems (s : State) (r : Running) (rep : Reply) :
    (State.respond s r rep).mems = s.mems := by
  simp [State.respond]

@[simp] theorem State.startRelay_mems (s : State) (sp : CmdSpec) (r : Running) (own : Option Reply) (targets : List Nat) :
    (State.startRelay s sp r own targets).mems = s.mems := rfl

@[simp] theorem State.finish_mems (e : CmdEffect) (r : Running) : (State.finish e r).mems = e.state.mems := by
  unfold State.finish
  split <;> simp

@[simp] theorem State.close_mems (s : State) (sp : CmdSpec) (r : Running) (e : CmdEffect) :
    (s.close sp r e).mems = e.state.mems := by
  unfold State.close
  simp

@[simp] theorem State.nvEnqueue_mems (s : State) (j : NvJob) :
    (State.nvEnqueue s j).mems = s.mems := rfl

@[simp] theorem State.nvOwnWrite_mems (s : State) (rec : NvRecord) (data : List Byte) :
    (State.nvOwnWrite s rec data).mems = s.mems := by
  simp [State.nvOwnWrite]

@[simp] theorem State.domainReset_mems (s : State) (h : memsWf s.mems = true) :
    memsWf (State.domainReset s).mems = true := by
  simp [State.domainReset, h]

@[simp] theorem State.startRom_mems (s : State) :
    (State.startRom s).mems = s.mems := rfl

@[simp] theorem State.internalReset_mems (s : State) (cause : Option Nat) (h : memsWf s.mems = true) :
    memsWf (State.internalReset s cause).mems = true := by
  simp [State.internalReset, h]

@[simp] theorem State.setUnit_mems (s : State) (o : Nat) (u : FabUnit) :
    (State.setUnit s o u).mems = s.mems := rfl

@[simp] theorem State.setKind_mems (s : State) (k : Nat) (f : CalKind → CalKind) :
    (State.setKind s k f).mems = s.mems := rfl

@[simp] theorem State.startRuns_mems (s : State) (cause : Nat) (kinds : List Nat) (paths : Mask64) (activeSyn : Bool) :
    (State.startRuns s cause kinds paths activeSyn).mems = s.mems := by
  exact State.mems_foldl _ (fun _ _ => by simp) _ _

@[simp] theorem State.sendWord_mems (s : State) (code t : Nat) :
    (State.sendWord s code t).2.mems = s.mems := rfl

@[simp] theorem State.sendTimed_mems (s : State) (code t : Nat) :
    (State.sendTimed s code t).2.mems = s.mems := rfl

@[simp] theorem State.dmdCount_mems (s : State) (p : Nat) (f : DmdCounts → DmdCounts) :
    (State.dmdCount s p f).mems = s.mems := rfl

@[simp] theorem State.abortContexts_mems (s : State) (sel : Nat → Bool) (cause engine : Nat) :
    (s.abortContexts sel cause engine).mems = s.mems := by
  unfold State.abortContexts
  simp only []
  split
  · rfl
  · rw [State.raiseEvent_mems, State.mems_foldl _ (fun _ _ => by simp)]
    simp

@[simp] theorem State.abortReceptions_mems (s : State) (cause : Nat) :
    (State.abortReceptions s cause).mems = s.mems := by
  simp [State.abortReceptions]

@[simp] theorem State.abortEngine_mems (s : State) (e : Nat) :
    (State.abortEngine s e).mems = s.mems := by
  simp [State.abortEngine]

@[simp] theorem State.recomputeGrid_mems (s : State) :
    (State.recomputeGrid s).mems = s.mems := rfl

@[simp] theorem State.saturationEvent_mems (s : State) (unit stage count : Nat) :
    (State.saturationEvent s unit stage count).mems = s.mems := by
  simp [State.saturationEvent]

@[simp] theorem State.countRx_mems (s : State) (x : WindowStats) :
    (State.countRx s x).mems = s.mems := by
  simp [State.countRx]

@[simp] theorem State.countTx_mems (s : State) (x : BurstStats) :
    (State.countTx s x).mems = s.mems := by
  simp [State.countTx]

@[simp] theorem State.internalSwapAt_mems (s : State) (cause t : Nat) :
    (State.internalSwapAt s cause t).mems = s.mems := by
  unfold State.internalSwapAt
  simp only []
  (repeat' split) <;> simp

@[simp] theorem State.internalSwap_mems (s : State) (cause : Nat) :
    (State.internalSwap s cause).mems = s.mems := by
  simp [State.internalSwap]

@[simp] theorem State.zeroSlices_mems (s : State) (m : Mask64) :
    (State.zeroSlices s m).mems = s.mems := rfl

@[simp] theorem State.renormLater_mems (s : State) (m : Mask64) :
    (State.renormLater s m).mems = s.mems := by
  simp [State.renormLater]

@[simp] theorem State.freeNoiseScale_mems (s : State) :
    (State.freeNoiseScale s).mems = s.mems := rfl

@[simp] theorem State.enterOwnOnly_mems (s : State) :
    (State.enterOwnOnly s).mems = s.mems := by
  simp [State.enterOwnOnly]

@[simp] theorem State.countAcquisition_mems (s : State) :
    (State.countAcquisition s).mems = s.mems := by
  simp [State.countAcquisition]

@[simp] theorem State.writeServiceRecord_mems (s : State) :
    (State.writeServiceRecord s).mems = s.mems := by
  simp [State.writeServiceRecord]

@[simp] theorem State.pathRetiredEvent_mems (s : State) (p dir state cause : Nat) :
    (State.pathRetiredEvent s p dir state cause).mems = s.mems := by
  simp [State.pathRetiredEvent]

@[simp] theorem State.discardCaptures_mems (s : State) (m : Mask64) :
    (State.discardCaptures s m).mems = s.mems := rfl

@[simp] theorem State.retirePaths_mems (s : State) (m : Mask64) (dir cause : Nat) :
    (s.retirePaths m dir cause).mems = s.mems := by
  unfold State.retirePaths
  extract_lets rx tx _ noted _ zeroed spent _ _ masked stored
  split
  · rfl
  · have hspent : spent.mems = s.mems := by simp [spent, zeroed, noted]
    have hmasked : masked.mems = spent.mems := by simp [masked]
    rw [State.mems_foldl _ (fun _ _ => by simp), State.writeServiceRecord_mems, hmasked, hspent]

@[simp] theorem State.stageCorr_mems (s : State) :
    (State.stageCorr s).mems = s.mems := rfl

@[simp] theorem State.setInvalid_mems (s : State) (typ idx : Nat) :
    (State.setInvalid s typ idx).mems = s.mems := by
  simp [State.setInvalid]

@[simp] theorem State.takeChannelSet_mems (s : State) (e : Nat) : (s.takeChannelSet e).mems = s.mems := by
  unfold State.takeChannelSet
  simp only [State.stageCorr_mems]
  rw [State.mems_foldl _ (fun _ _ => by simp)]
  simp

@[simp] theorem State.activateCorr_mems (s : State) :
    (State.activateCorr s).mems = s.mems := by
  simp [State.activateCorr]

@[simp] theorem State.loadChannelSet_mems (s : State) (e : Nat) :
    (State.loadChannelSet s e).mems = s.mems := by
  simp [State.loadChannelSet]

@[simp] theorem State.gainStepSets_mems (s : State) (g : Nat) :
    (State.gainStepSets s g).mems = s.mems := by
  simp [State.gainStepSets]

@[simp] theorem State.pathsEnabled_mems (s : State) (m : Mask64) :
    (State.pathsEnabled s m).mems = s.mems := by
  simp [State.pathsEnabled]

@[simp] theorem State.coldAcquired_mems (s : State) :
    (State.coldAcquired s).mems = s.mems := by
  simp [State.coldAcquired]

@[simp] theorem State.discardSteps_mems (s : State) :
    (State.discardSteps s).mems = s.mems := rfl

@[simp] theorem State.offsetNoise_mems (s : State) (cdb : Int) :
    (State.offsetNoise s cdb).mems = s.mems := rfl

@[simp] theorem State.suspendDetection_mems (s : State) :
    (State.suspendDetection s).mems = s.mems := rfl

@[simp] theorem State.setSyn_mems (s : State) (k : Nat) (f : Synth → Synth) :
    (State.setSyn s k f).mems = s.mems := rfl

@[simp] theorem State.pursue_mems (s : State) :
    (State.pursue s).mems = s.mems := by
  simp [State.pursue]

@[simp] theorem State.arrive_mems (s : State) (x : RadioState) :
    (State.arrive s x).mems = s.mems := by
  unfold State.arrive
  split <;> simp

@[simp] theorem State.acquire_mems (s : State) (k : Nat) (x : LoSetting) (relock : Bool) :
    (State.acquire s k x relock).mems = s.mems := by
  unfold State.acquire
  simp only []
  (repeat' split) <;> simp

@[simp] theorem State.afterAcquisition_mems (s : State) (k : Nat) :
    (State.afterAcquisition s k).mems = s.mems := by
  simp [State.afterAcquisition]

@[simp] theorem State.postpone_mems (s : State) (k : Nat) (x : LoSetting) (since : Nat) (t : Option Nat) :
    (State.postpone s k x since t).mems = s.mems := rfl

@[simp] theorem State.acquireOrWait_mems (s : State) (k : Nat) (x : LoSetting) (since : Nat) :
    (State.acquireOrWait s k x since).mems = s.mems := by
  simp [State.acquireOrWait]

@[simp] theorem State.setDerate_mems (s : State) (p : Nat) (on : Bool) :
    (State.setDerate s p on).mems = s.mems := by
  simp [State.setDerate]

@[simp] theorem State.holdSigs_mems (s : State) (r : TxRequest) (f : Nat → Nat) :
    (State.holdSigs s r f).mems = s.mems := rfl

@[simp] theorem State.accountAir_mems (s : State) (sb : Nat) (band : Subband) (x : Span) :
    (State.accountAir s sb band x).mems = s.mems := rfl

@[simp] theorem State.coexLines_mems (s : State) :
    (State.coexLines s).mems = s.mems := rfl

@[simp] theorem State.decideOutcome_mems (s : State) (req : TxRequest) (origin : TxOrigin) (outcome cause subband flags : Nat)
    (ts : Nat × Nat) (delay radiated duty : Nat) (margin : Int) (shared : Bool := false) :
    (State.decideOutcome s req origin outcome cause subband flags ts delay radiated duty margin shared).mems = s.mems := by
  simp [State.decideOutcome]

@[simp] theorem State.endRequest_mems (s : State) (b : Launch) (outcome cause radiated : Nat) :
    (s.endRequest b outcome cause radiated).mems = s.mems := by
  unfold State.endRequest
  simp only [State.decideOutcome_mems, State.coexLines_mems, State.mems_mk]
  cases b.lines
  · simp
  · simp

@[simp] theorem State.lingerCheck_mems (s : State) :
    (State.lingerCheck s).mems = s.mems := by
  simp [State.lingerCheck]

@[simp] theorem State.endAll_mems (s : State) (sel : Launch → Bool) (outcome cause : Nat) :
    (s.endAll sel outcome cause).mems = s.mems := by
  unfold State.endAll
  rw [State.lingerCheck_mems, State.mems_foldl _ (fun _ _ => by simp)]

@[simp] theorem State.abortBursts_mems (s : State) (outcome cause : Nat) :
    (State.abortBursts s outcome cause).mems = s.mems := by
  simp [State.abortBursts]

@[simp] theorem State.hardAbort_mems (s : State) :
    (State.hardAbort s).mems = s.mems := rfl

@[simp] theorem State.baseTakesEffect_mems (s : State) (c : BaseChange) : (s.baseTakesEffect c).mems = s.mems := by
  unfold State.baseTakesEffect
  simp only []
  split
  · simp
  · split
    · simp
    · split <;> simp

@[simp] theorem State.setSlot_mems (s : State) (n : Nat) (f : HaloSlot → HaloSlot) :
    (State.setSlot s n f).mems = s.mems := rfl

@[simp] theorem State.offer_mems (s : State) (source stamp : Nat) (scheduled : Bool) (sel : Nat → HaloCfg → Bool) :
    (State.offer s source stamp scheduled sel).mems = s.mems := rfl

@[simp] theorem State.patternMoved_mems (s : State) (t : Nat) :
    (State.patternMoved s t).mems = s.mems := rfl

@[simp] theorem State.strobe_mems (s : State) (due origin : Nat) (pin scheduled : Bool) :
    (State.strobe s due origin pin scheduled).mems = s.mems := rfl

@[simp] theorem State.captureEcc_mems (s : State) (addr : Nat) :
    (State.captureEcc s addr).mems = s.mems := rfl

@[simp] theorem State.releaseObs_mems (s : State) (u : ObsUser) :
    (State.releaseObs s u).mems = s.mems := by
  simp [State.releaseObs]

@[simp] theorem State.askObs_mems (s : State) (u : ObsUser) :
    (State.askObs s u).mems = s.mems := by
  simp [State.askObs]

@[simp] theorem State.rebase_mems (s : State) (ratePpb : Int) :
    (State.rebase s ratePpb).mems = s.mems := rfl

@[simp] theorem State.toHoldover_mems (s : State) (cause : Nat) :
    (State.toHoldover s cause).mems = s.mems := by
  simp [State.toHoldover]

@[simp] theorem State.toValid_mems (s : State) :
    (State.toValid s).mems = s.mems := by
  simp [State.toValid]

@[simp] theorem State.discardScheduled_mems (s : State) :
    (State.discardScheduled s).mems = s.mems := rfl

@[simp] theorem State.loseTime_mems (s : State) :
    (State.loseTime s).mems = s.mems := by
  simp [State.loseTime]

@[simp] theorem State.toInvalid_mems (s : State) (cause : Nat) :
    (State.toInvalid s cause).mems = s.mems := by
  simp [State.toInvalid]

@[simp] theorem State.setHop_mems (s : State) (h : Nat) (f : Hop → Hop) :
    (State.setHop s h f).mems = s.mems := rfl

@[simp] theorem State.gainToWorkers_mems (s : State) (t step cause : Nat) :
    (State.gainToWorkers s t step cause).mems = s.mems := by
  simp [State.gainToWorkers]

@[simp] theorem State.cutBursts_mems (s : State) :
    (State.cutBursts s).mems = s.mems := by
  simp [State.cutBursts]

@[simp] theorem State.cutOff_mems (s : State) :
    (State.cutOff s).mems = s.mems := by
  simp [State.cutOff]

@[simp] theorem State.cutOffAt_mems (s : State) (t : Nat) :
    (State.cutOffAt s t).mems = s.mems := by
  simp [State.cutOffAt]

@[simp] theorem State.breakEvent_mems (s : State) (p last cause cut : Nat) :
    (State.breakEvent s p last cause cut).mems = s.mems := by
  simp [State.breakEvent]

@[simp] theorem State.loseWorkers_mems (s : State) :
    (State.loseWorkers s).mems = s.mems := by
  simp [State.loseWorkers]

@[simp] theorem State.breakHop_mems (s : State) (h cause : Nat) :
    (State.breakHop s h cause).mems = s.mems := by
  unfold State.breakHop
  split <;> simp

/-! ### Filters: the memories -/

@[simp] theorem State.reportFilters_mems (s : State) :
    (State.reportFilters s).mems = s.mems := by
  simp [State.reportFilters]

@[simp] theorem State.shareDelays_mems (s : State) :
    (State.shareDelays s).mems = s.mems := by
  simp [State.shareDelays]

@[simp] theorem State.filtApplied_mems (s : State) (dirs nmax t : Nat) :
    (State.filtApplied s dirs nmax t).mems = s.mems := by
  simp [State.filtApplied]

@[simp] theorem State.applyTxFilters_mems (s : State) (staged : FirBank) :
    (State.applyTxFilters s staged).mems = s.mems := by
  simp [State.applyTxFilters]

@[simp] theorem State.detectorMoves_mems (s : State) (t : Nat) (p : Nat) (lower on : Bool) (level : Int) :
    (State.detectorMoves s t p lower on level).mems = s.mems := by
  simp [State.detectorMoves]

@[simp] theorem State.releaseDetectors_mems (s : State) (m : Mask64) :
    (State.releaseDetectors s m).mems = s.mems := rfl

/-! ### Paths: the memories -/

@[simp] theorem State.setRxMask_mems (s : State) (m : Mask64) :
    (State.setRxMask s m).mems = s.mems := rfl

@[simp] theorem State.setTxMask_mems (s : State) (m : Mask64) :
    (State.setTxMask s m).mems = s.mems := by
  simp [State.setTxMask]

@[simp] theorem State.applyGain_mems (s : State) (g new cause : Nat) :
    (State.applyGain s g new cause).mems = s.mems := by
  simp [State.applyGain]

@[simp] theorem State.safeDacs_mems (s : State) :
    (State.safeDacs s).mems = s.mems := rfl

@[simp] theorem State.putRecord_mems (s : State) (p : List Byte) :
    (State.putRecord s p).mems = s.mems := rfl

@[simp] theorem State.superseded_mems (s : State) (p : List Byte) :
    (State.superseded s p).mems = s.mems := by
  simp [State.superseded]

@[simp] theorem State.regFault_mems (s : State) (kind pos : Nat) :
    (State.regFault s kind pos).mems = s.mems := by
  simp [State.regFault]

@[simp] theorem State.restoreDuty_mems (s : State) :
    (State.restoreDuty s).mems = s.mems := by
  unfold State.restoreDuty
  simp only []
  (repeat' split) <;> simp

/-! ### Synthesisers: the memories -/

@[simp] theorem State.lockEvent_mems (s : State) (k : Nat) :
    (State.lockEvent s k).mems = s.mems := by
  simp [State.lockEvent]

@[simp] theorem State.activeLock_mems (s : State) (k : Nat) :
    (State.activeLock s k).mems = s.mems := by
  unfold State.activeLock
  simp only []
  (repeat' split) <;> simp

@[simp] theorem State.reacquire_mems (s : State) (k : Nat) :
    (State.reacquire s k).mems = s.mems := by
  unfold State.reacquire
  simp only []
  (repeat' split) <;> simp

@[simp] theorem State.switchEvent_mems (s : State) (w : Switch) (result blank postponed : Nat) (inst : List Byte) :
    (State.switchEvent s w result blank postponed inst).mems = s.mems := by
  simp [State.switchEvent]

@[simp] theorem State.applySwitch_mems (s : State) (w : Switch) (blankNs : Nat) :
    (State.applySwitch s w blankNs).mems = s.mems := by
  unfold State.applySwitch
  simp only []
  (repeat' split) <;> simp

@[simp] theorem State.slewTo_mems (s : State) (src : Nat) :
    (State.slewTo s src).mems = s.mems := rfl

@[simp] theorem State.setSource_mems (s : State) (src : Fin 2) (v : Bool) :
    (State.setSource s src v).mems = s.mems := by
  simp [State.setSource]

/-! ### Transmission: the memories -/

@[simp] theorem State.refuse_mems (s : State) (b : Launch) (v : Nat × Nat) :
    (State.refuse s b v).mems = s.mems := by
  simp [State.refuse]

@[simp] theorem State.enqueueLaunch_mems (s : State) (b : Launch) :
    (State.enqueueLaunch s b).mems = s.mems := by
  simp [State.enqueueLaunch]

@[simp] theorem State.relayLaunch_mems (s : State) (net : Bool) (p : List Byte) :
    (State.relayLaunch s net p).mems = s.mems := by
  unfold State.relayLaunch
  split
  all_goals (try rw [State.mems_foldl])
  all_goals simp

@[simp] theorem State.admitRequest_mems (s : State) (net : Bool) (p : List Byte) (origin : TxOrigin) (arrived : Nat) :
    (State.admitRequest s net p origin arrived).2.mems = s.mems := by
  unfold State.admitRequest
  (repeat' split) <;> simp

@[simp] theorem State.cancelRequest_mems (s : State) (id : Nat) :
    (State.cancelRequest s id).2.mems = s.mems := by
  unfold State.cancelRequest
  (repeat' split) <;> simp

@[simp] theorem State.putLaunch_mems (s : State) (b : Launch) :
    (State.putLaunch s b).mems = s.mems := rfl

@[simp] theorem State.loadBeams_mems (s : State) (b : Launch) :
    (State.loadBeams s b).mems = s.mems := rfl

@[simp] theorem State.prepareOnWorker_mems (s : State) (b : Launch) :
    (State.prepareOnWorker s b).mems = s.mems := by
  simp [State.prepareOnWorker]

@[simp] theorem State.decideLaunch_mems (s : State) (b : Launch) (l : Nat) :
    (State.decideLaunch s b l).mems = s.mems := rfl

@[simp] theorem State.activateDpd_mems (s : State) :
    (State.activateDpd s).mems = s.mems := by
  simp [State.activateDpd]

@[simp] theorem State.afterBursts_mems (s : State) :
    (State.afterBursts s).mems = s.mems := by
  unfold State.afterBursts
  simp only []
  (repeat' split) <;> simp

@[simp] theorem State.dutyEvent_mems (s : State) (sb : Nat) (band : Subband) :
    (State.dutyEvent s sb band).mems = s.mems := by
  simp [State.dutyEvent]

@[simp] theorem State.extendSwitch_mems (s : State) (p : Span) :
    (State.extendSwitch s p).mems = s.mems := by
  unfold State.extendSwitch
  split <;> simp

@[simp] theorem State.ageDpd_mems (s : State) (units : Nat) :
    (State.ageDpd s units).mems = s.mems := rfl

@[simp] theorem State.sendAbort_mems (s : State) (code : Nat) :
    (State.sendAbort s code).mems = s.mems := by
  simp [State.sendAbort]

/-! ### Beams: the memories -/

@[simp] theorem State.stageHost_mems (s : State) (f : Staging → Staging) :
    (State.stageHost s f).mems = s.mems := by
  simp [State.stageHost]

@[simp] theorem State.hostSwap_mems (s : State) (reached : Nat) (imm cancel : Bool) (d : Int) :
    (State.hostSwap s reached imm cancel d).2.2.mems = s.mems := by
  unfold State.hostSwap
  (repeat' split) <;> simp

@[simp] theorem State.scaleNoise_mems (s old : State) (m : Mask64) :
    (State.scaleNoise s old m).mems = s.mems := by
  simp [State.scaleNoise]

@[simp] theorem State.renormEvents_mems (s : State) (m : Mask64) (short beam : Nat) :
    (State.renormEvents s m short beam).mems = s.mems := by
  unfold State.renormEvents
  split
  all_goals (try rw [State.mems_foldl])
  all_goals simp

@[simp] theorem State.applySwap_mems (s : State) (host : Bool) (cause t : Nat) (basis : GridBasis) :
    (State.applySwap s host cause t basis).mems = s.mems := by
  simp [State.applySwap]

@[simp] theorem State.adaptHold_mems (s : State) (n reason loss : Nat) :
    (State.adaptHold s n reason loss).mems = s.mems := by
  simp [State.adaptHold]

@[simp] theorem State.writeSignature_mems (s : State) (i : Nat) (mant : List Cplx) (e : Signature) (h : memsWf s.mems = true) :
    memsWf (State.writeSignature s i mant e).mems = true := by
  simp [State.writeSignature, h]

/-! ### HORIZON receivers: the memories -/

@[simp] theorem State.hznCount_mems (s : State) (p : Nat) (f : HznCounts → HznCounts) :
    (State.hznCount s p f).mems = s.mems := rfl

@[simp] theorem State.hznEvicted_mems (s : State) (p n : Nat) :
    (State.hznEvicted s p n).mems = s.mems := rfl

@[simp] theorem State.dropHeld_mems (s : State) (p : Nat) :
    (State.dropHeld s p).mems = s.mems := by
  simp [State.dropHeld]

@[simp] theorem State.profileEvent_mems (s : State) (p : Nat) (enable : Bool) (t : Nat) :
    (State.profileEvent s p enable t).mems = s.mems := by
  simp [State.profileEvent]

@[simp] theorem State.putProfile_mems (s : State) (n : Nat) (x : Profile) (t : Nat) :
    (State.putProfile s n x t).mems = s.mems := by
  simp [State.putProfile]

@[simp] theorem State.applySettings_mems (s : State) :
    (State.applySettings s).mems = s.mems := by
  exact State.mems_foldl _ (fun _ _ => by simp) _ _

@[simp] theorem State.touchBins_mems (s : State) (b h t : Nat) :
    (State.touchBins s b h t).mems = s.mems := rfl

/-! ### Calibration: the memories -/

@[simp] theorem State.putSet_mems (s : State) (k : Nat) (b : List Byte) :
    (State.putSet s k b).mems = s.mems := by
  simp [State.putSet]

@[simp] theorem State.noteFigure_mems (s : State) (k : Nat) (f : CalFigure) :
    (State.noteFigure s k f).mems = s.mems := by
  simp [State.noteFigure]

@[simp] theorem State.calDone_mems (s : State) (k result cause : Nat) :
    (State.calDone s k result cause).mems = s.mems := by
  simp [State.calDone]

@[simp] theorem State.endRun_mems (s : State) (k result : Nat) :
    (State.endRun s k result).mems = s.mems := by
  unfold State.endRun
  split <;> simp

@[simp] theorem State.synStep_mems (s : State) (active : Bool) (ws : List (Nat × Int × Int)) :
    (s.synStep active ws).1.mems = s.mems := by
  refine foldl_keeps (fun (a : State × List (Nat × List Byte) × Nat) => a.1.mems) _ (fun a w => ?_) ws (s, [], 0)
  split <;> simp

@[simp] theorem State.writeStep_mems (s : State) (k : Nat) (r : CalRun) (x : CalStep) :
    (State.writeStep s k r x).1.mems = s.mems := by
  unfold State.writeStep
  split <;> simp

@[simp] theorem State.calAge_mems (s : State) (k : Nat) :
    (State.calAge s k).2.mems = s.mems := by
  unfold State.calAge
  split <;> simp

@[simp] theorem State.sendFactors_mems (s : State) (ps : List Nat) :
    (State.sendFactors s ps).mems = s.mems := by
  exact State.mems_foldl _ (fun _ _ => by simp) _ _

@[simp] theorem State.takeFactors_mems (s : State) (ps : List Nat) (cause : Nat) :
    (State.takeFactors s ps cause).mems = s.mems := by
  simp [State.takeFactors]

@[simp] theorem State.calStatus_mems (s : State) (k : Nat) :
    (State.calStatus s k).2.mems = s.mems := by
  simp [State.calStatus]

@[simp] theorem State.restoreFactors_mems (s : State) (bs : List (Nat × List Byte)) : (s.restoreFactors bs).mems = s.mems := by
  unfold State.restoreFactors
  split
  · rw [State.mems_foldl]
    exact fun _ _ => rfl
  · simp

@[simp] theorem State.restoreKind_mems (s : State) (source entry k : Nat) :
    (s.restoreKind source entry k).mems = s.mems := by
  unfold State.restoreKind
  rw [State.setKind_mems]
  split
  · simp only []
    split
    · rw [State.mems_foldl _ (fun _ _ => by simp)]
    · split
      · simp
      · split <;> simp
  · split
    · rfl
    · split <;> simp

@[simp] theorem State.markBank_mems (s : State) (b : Nat) (ok : Bool) :
    (State.markBank s b ok).mems = s.mems := by
  simp [State.markBank]

@[simp] theorem State.fwChanged_mems (s : State) (bank cause : Nat) :
    (State.fwChanged s bank cause).mems = s.mems := by
  simp [State.fwChanged]

/-! ### Cascade: the memories -/

@[simp] theorem State.laneEvent_mems (s : State) (h k kind margin : Nat) :
    (State.laneEvent s h k kind margin).mems = s.mems := by
  simp [State.laneEvent]

@[simp] theorem State.laneResults_mems (s : State) (h : Nat) (lanes : List Lane) : (s.laneResults h lanes).mems = s.mems := by
  refine (State.mems_foldl _ (fun a x => ?_) _ _).trans (State.setHop_mems s h _)
  split <;> simp

@[simp] theorem State.setPos_mems (s : State) (p : Nat) (f : Position → Position) :
    (State.setPos s p f).mems = s.mems := rfl

@[simp] theorem State.startTraining_mems (s : State) (h : Nat) :
    (State.startTraining s h).mems = s.mems := by
  unfold State.startTraining
  simp only []
  (repeat' split) <;> simp

@[simp] theorem State.configureWorker_mems (s : State) (p : Nat) (boots : Bool) :
    (State.configureWorker s p boots).mems = s.mems := by
  simp [State.configureWorker]

@[simp] theorem State.lengthen_mems (s : State) :
    (State.lengthen s).mems = s.mems := rfl

@[simp] theorem State.joinOnManager_mems (s : State) (h : Nat) (lanes : List Lane) (x : JoinInfo) :
    (State.joinOnManager s h lanes x).mems = s.mems := by
  unfold State.joinOnManager
  simp only []
  (repeat' split) <;> simp

@[simp] theorem State.flushHeld_mems (s : State) : s.flushHeld.mems = s.mems := by
  unfold State.flushHeld
  have hsent : (s.lcl.events.foldl (fun s r => s.toManager 2 r.bytes) s).mems = s.mems :=
    State.mems_foldl _ (fun _ _ => by simp) _ _
  simp [hsent]

@[simp] theorem State.reportRecord_mems (s : State) :
    (State.reportRecord s).mems = s.mems := by
  simp [State.reportRecord]

@[simp] theorem State.joinOnWorker_mems (s : State) (lanes : List Lane) (x : JoinInfo) :
    (State.joinOnWorker s lanes x).mems = s.mems := by
  simp [State.joinOnWorker]

@[simp] theorem State.countTrigErr_mems (s : State) :
    (State.countTrigErr s).mems = s.mems := rfl

@[simp] theorem State.markSwap_mems (s : State) (due : Nat) :
    (State.markSwap s due).mems = s.mems := by
  unfold State.markSwap
  split <;> simp

@[simp] theorem State.takeLaunch_mems (s : State) (b : List Byte) :
    (State.takeLaunch s b).mems = s.mems := by
  unfold State.takeLaunch
  simp only []
  (repeat' split) <;> simp

@[simp] theorem State.workerMessage_mems (s : State) (b : List Byte) :
    (State.workerMessage s b).mems = s.mems := by
  unfold State.workerMessage
  (repeat' split) <;> simp

@[simp] theorem State.compareRecord_mems (s : State) (src : Nat) (b : List Byte) :
    (State.compareRecord s src b).mems = s.mems := by
  simp [State.compareRecord]

@[simp] theorem State.imageRejected_mems (s : State) (src status : Nat) :
    (State.imageRejected s src status).mems = s.mems := by
  unfold State.imageRejected
  simp only []
  (repeat' split) <;> simp

@[simp] theorem State.managerMessage_mems (s : State) (src : Nat) (b : List Byte) :
    (State.managerMessage s src b).mems = s.mems := by
  unfold State.managerMessage
  (repeat' split) <;> simp

/-! ### Fabric and memory: the memories -/

@[simp] theorem State.declareFailed_mems (s : State) (o cause : Nat) :
    (State.declareFailed s o cause).mems = s.mems := by
  unfold State.declareFailed
  simp only []
  (repeat' split) <;> simp

@[simp] theorem State.pollUnits_mems (s : State) (missed : List Nat) :
    (State.pollUnits s missed).mems = s.mems := by
  exact State.mems_foldl _ (fun _ _ => by simp) _ _

@[simp] theorem State.eccCorrected_mems (s : State) (pool : Nat) :
    (State.eccCorrected s pool).mems = s.mems := rfl

@[simp] theorem State.eccUncorrected_mems (s : State) (pool addr : Nat) :
    (State.eccUncorrected s pool addr).mems = s.mems := by
  simp [State.eccUncorrected]

@[simp] theorem State.watchdogExpire_mems (s : State) (ecc : Bool) :
    (State.watchdogExpire s ecc).mems = s.mems := by
  simp [State.watchdogExpire]

@[simp] theorem State.poolRecordLost_mems (s : State) (addr : Nat) :
    (State.poolRecordLost s addr).mems = s.mems := rfl

@[simp] theorem State.signatureLost_mems (s : State) (i : Nat) :
    (State.signatureLost s i).mems = s.mems := rfl

@[simp] theorem State.eccConsequence_mems (s : State) (pool addr : Nat) (rec : Option NvRecord) :
    (State.eccConsequence s pool addr rec).mems = s.mems := by
  unfold State.eccConsequence
  (repeat' split) <;> simp

@[simp] theorem State.zenithObserved_mems (s : State) :
    (State.zenithObserved s).mems = s.mems := rfl

/-! ### Fronthaul and time: the memories -/

@[simp] theorem State.setPort_mems (s : State) (p : Nat) (f : Port → Port) :
    (State.setPort s p f).mems = s.mems := rfl

@[simp] theorem State.portCount_mems (s : State) (p : Nat) (f : PortCounts → PortCounts) :
    (State.portCount s p f).mems = s.mems := rfl

@[simp] theorem State.iqDropEvent_mems (s : State) (p : Nat) :
    (State.iqDropEvent s p).mems = s.mems := by
  simp [State.iqDropEvent]

@[simp] theorem State.kick_mems (s : State) (p : Nat) :
    (State.kick s p).mems = s.mems := by
  unfold State.kick
  simp only []
  (repeat' split) <;> simp

@[simp] theorem State.enqueue_mems (s : State) (p : Nat) (f : Frame) :
    (State.enqueue s p f).mems = s.mems := by
  simp [State.enqueue]

@[simp] theorem State.takeSeq_mems (s : State) (p pc : Nat) :
    (State.takeSeq s p pc).2.mems = s.mems := rfl

@[simp] theorem State.sendGeneric_mems (s : State) (p cls pc : Nat) (shared : Bool) (rs : List (List Byte)) :
    (State.sendGeneric s p cls pc shared rs).mems = s.mems := by
  simp [State.sendGeneric]

@[simp] theorem State.flushResults_mems (s : State) : s.flushResults.mems = s.mems := by
  refine State.mems_foldl _ (fun a r => ?_) _ _
  split <;> simp

@[simp] theorem State.fhFault_mems (s : State) (p fault : Nat) :
    (State.fhFault s p fault).mems = s.mems := by
  simp [State.fhFault]

@[simp] theorem State.pullRecords_mems (n : Nat) (s : State) : (State.pullRecords n s).mems = s.mems := by
  induction n generalizing s with
  | zero => rfl
  | succ n ih =>
    unfold State.pullRecords
    split
    · simp only []
      split
      · rw [ih]
        simp
      · rfl
    · rfl

@[simp] theorem State.pull_mems (s : State) :
    (State.pull s).mems = s.mems := by
  simp [State.pull]

@[simp] theorem State.masterEvent_mems (s : State) :
    (State.masterEvent s).mems = s.mems := by
  unfold State.masterEvent
  split <;> simp

@[simp] theorem State.loseMaster_mems (s : State) (cause : Nat) :
    (State.loseMaster s cause).mems = s.mems := by
  simp [State.loseMaster]

@[simp] theorem State.rerouteFrames_mems (s : State) (p : Nat) : (s.rerouteFrames p).mems = s.mems := by
  unfold State.rerouteFrames
  extract_lets q all back recs
  split
  · rw [State.flushResults_mems, State.mems_foldl _ (fun _ _ => by simp), State.setPort_mems]
    rfl
  · rw [State.setPort_mems]
    rfl

@[simp] theorem State.linkEvent_mems (s : State) (p : Nat) (up : Bool) (cause : Nat) :
    (State.linkEvent s p up cause).mems = s.mems := by
  simp [State.linkEvent]

@[simp] theorem State.dropLink_mems (s : State) (p cause : Nat) :
    (State.dropLink s p cause).mems = s.mems := by
  simp [State.dropLink]

@[simp] theorem State.controlResult_mems (s : State) (m : RtcMessage) (status : Nat) (applied : List Byte) :
    (State.controlResult s m status applied).mems = s.mems := by
  simp [State.controlResult]

@[simp] theorem State.processRtc_mems (s : State) (m : RtcMessage) :
    (State.processRtc s m).mems = s.mems := by
  unfold State.processRtc
  (repeat' split) <;> simp

@[simp] theorem State.drainIngress_mems (n : Nat) (s : State) : (State.drainIngress n s).mems = s.mems := by
  induction n generalizing s with
  | zero => rfl
  | succ n ih =>
    unfold State.drainIngress
    split
    · split
      · rw [ih]
        simp
      · rfl
    · rfl

@[simp] theorem State.drain_mems (s : State) :
    (State.drain s).mems = s.mems := by
  simp [State.drain]

@[simp] theorem State.receiveRtc_mems (s : State) (m : RtcMessage) :
    (State.receiveRtc s m).mems = s.mems := by
  simp [State.receiveRtc]

@[simp] theorem State.countUnsupported_mems (s : State) (p : Nat) :
    (State.countUnsupported s p).mems = s.mems := rfl

@[simp] theorem State.stepTime_mems (s : State) (offset : Int) :
    (State.stepTime s offset).mems = s.mems := rfl

@[simp] theorem State.servo_mems (s : State) :
    (State.servo s).mems = s.mems := by
  simp [State.servo]

@[simp] theorem State.judgeOffset_mems (s : State) (offset : Int) :
    (State.judgeOffset s offset).mems = s.mems := by
  unfold State.judgeOffset
  simp only []
  (repeat' split) <;> simp

@[simp] theorem State.syncComplete_mems (s : State) (arrival origin correction : Int) :
    (State.syncComplete s arrival origin correction).mems = s.mems := by
  unfold State.syncComplete
  simp only []
  (repeat' split) <;> simp

@[simp] theorem State.selectMaster_mems (s : State) (x : Announce) :
    (State.selectMaster s x).mems = s.mems := by
  simp [State.selectMaster]

/-! ### DMA: the memories -/

@[simp] theorem State.setChannel_mems (s : State) (c : Nat) (ch : Channel) :
    (State.setChannel s c ch).mems = s.mems := rfl

@[simp] theorem State.dmaVector_mems (s : State) (c : Nat) :
    (State.dmaVector s c).mems = s.mems := by
  simp [State.dmaVector]

@[simp] theorem State.dmaProgress_mems (s : State) (c kind : Nat) :
    (State.dmaProgress s c kind).mems = s.mems := by
  simp [State.dmaProgress]

@[simp] theorem State.dmaHalf_mems (s : State) (c : Nat) :
    (State.dmaHalf s c).mems = s.mems := by
  simp [State.dmaHalf]

@[simp] theorem State.dmaFull_mems (s : State) (c : Nat) :
    (State.dmaFull s c).mems = s.mems := by
  simp [State.dmaFull]

@[simp] theorem State.writeDescStatus_mems (s : State) (desc status : Nat) (h : memsWf s.mems = true) :
    memsWf (State.writeDescStatus s desc status).mems = true := by
  unfold State.writeDescStatus
  split <;> simp [h]

@[simp] theorem State.dmaFail_mems (s : State) (c cause addr : Nat) (descRead : Bool) (h : memsWf s.mems = true) :
    memsWf (State.dmaFail s c cause addr descRead).mems = true := by
  unfold State.dmaFail
  simp only []
  (repeat' split) <;> simp [h]

@[simp] theorem State.dmaIdle_mems (s : State) (c cause : Nat) :
    (State.dmaIdle s c cause).mems = s.mems := rfl

@[simp] theorem State.dmaMove_mems (s : State) (c : Nat) (x : Transfer) (n : Nat) (read : List Byte) (h : memsWf s.mems = true) :
    memsWf (State.dmaMove s c x n read).mems = true := by
  unfold State.dmaMove
  split <;> simp [h]

@[simp] theorem State.dmaBegin_mems (s : State) (c : Nat) (x : Transfer) (h : memsWf s.mems = true) :
    memsWf (State.dmaBegin s c x).mems = true := by
  unfold State.dmaBegin
  split <;> simp [h]

@[simp] theorem State.dmaFetch_mems (s : State) (c a : Nat) (read : List Byte) (h : memsWf s.mems = true) :
    memsWf (State.dmaFetch s c a read).mems = true := by
  unfold State.dmaFetch
  simp only []
  (repeat' split) <;> simp [h]

@[simp] theorem State.dmaStart_mems (s : State) (c : Nat) (v : Word) (read : List Byte) (h : memsWf s.mems = true) :
    memsWf (State.dmaStart s c v read).mems = true := by
  unfold State.dmaStart
  simp only []
  (repeat' split) <;> simp [h]

@[simp] theorem State.dmaStop_mems (s : State) (c : Nat) (v : Word) :
    (State.dmaStop s c v).mems = s.mems := by
  simp [State.dmaStop]

/-! ### Host interface: the memories -/

@[simp] theorem State.writeProducer_mems (s : State) (h : memsWf s.mems = true) :
    memsWf (State.writeProducer s).mems = true := by
  simp [State.writeProducer, h]

@[simp] theorem State.ringNotify_mems (s : State) :
    (State.ringNotify s).mems = s.mems := rfl

@[simp] theorem State.writeRecord_mems (s : State) (r : EvRec) (h : memsWf s.mems = true) :
    memsWf (State.writeRecord s r).mems = true := by
  simp [State.writeRecord, h]

@[simp] theorem State.ringTake_mems (s : State) (r : EvRec) (h : memsWf s.mems = true) :
    memsWf (State.ringTake s r).mems = true := by
  unfold State.ringTake
  (repeat' split) <;> simp [h]

@[simp] theorem State.ringTurn_mems (s : State) (h : memsWf s.mems = true) :
    memsWf (State.ringTurn s).mems = true := by
  unfold State.ringTurn
  simp only []
  (repeat' split) <;> simp [h]

@[simp] theorem State.ringTurns_mems (n : Nat) (s : State) (h : memsWf s.mems = true) :
    memsWf (State.ringTurns n s).mems = true := by
  induction n generalizing s with
  | zero => exact h
  | succ n ih => exact ih _ (by simp [h])

@[simp] theorem State.flushEvents_mems (s : State) (h : memsWf s.mems = true) :
    memsWf (State.flushEvents s).mems = true := by
  simp [State.flushEvents, h]

@[simp] theorem State.ringStart_mems (s : State) (h : memsWf s.mems = true) :
    memsWf (State.ringStart s).mems = true := by
  simp [State.ringStart, h]

@[simp] theorem State.writeEvqCtrl_mems (s : State) (v : Word) (h : memsWf s.mems = true) :
    memsWf (State.writeEvqCtrl s v).mems = true := by
  unfold State.writeEvqCtrl
  simp only []
  (repeat' split) <;> simp [h]

@[simp] theorem State.writeEvqCons_mems (s : State) (v : Nat) :
    (State.writeEvqCons s v).mems = s.mems := by
  simp [State.writeEvqCons]

@[simp] theorem State.setMailbox_mems (s : State) (n : Nat) (b : Mailbox) :
    (State.setMailbox s n b).mems = s.mems := rfl

@[simp] theorem State.ring_mems (s : State) (n : Nat) :
    (State.ring s n).mems = s.mems := by
  simp [State.ring]

@[simp] theorem State.release_mems (s : State) (n : Nat) :
    (State.release s n).mems = s.mems := by
  simp [State.release]

@[simp] theorem State.writeArea_mems (s : State) (n o : Nat) (data : List (Option Byte)) :
    (State.writeArea s n o data).mems = s.mems := by
  simp [State.writeArea]

@[simp] theorem State.take_mems (s : State) (n : Nat) :
    (State.take s n).mems = s.mems := by
  simp [State.take]

@[simp] theorem State.takeAll_mems (s : State) (ns : List Nat) :
    (State.takeAll s ns).mems = s.mems := by
  exact State.mems_foldl _ (fun _ _ => by simp) _ _

@[simp] theorem State.writeMsix_mems (s : State) (v k : Nat) (w : Word) :
    (State.writeMsix s v k w).mems = s.mems := by
  simp [State.writeMsix]

@[simp] theorem State.writeDma_mems (s : State) (c o : Nat) (w : Word) (h : memsWf s.mems = true) :
    memsWf (State.writeDma s c o w).mems = true := by
  unfold State.writeDma
  simp only []
  (repeat' split) <;> simp [h]

@[simp] theorem State.hostReset_mems (s : State) (v : Word) (h : memsWf s.mems = true) :
    memsWf (State.hostReset s v).mems = true := by
  unfold State.hostReset
  split <;> simp [h]

@[simp] theorem State.writeReg_mems (s : State) (off : Nat) (w : Word) (h : memsWf s.mems = true) :
    memsWf (s.writeReg off w).mems = true := by
  unfold State.writeReg
  refine memsWf_ite (memsWf_host h _) <| memsWf_ite (State.hostReset_mems _ _ h) <| memsWf_ite (memsWf_host h _) ?_
  iterate 4 refine memsWf_ite (memsWf_ite h (memsWf_evq h _)) ?_
  refine memsWf_ite (State.writeEvqCtrl_mems _ _ h) <| memsWf_ite ?_ <| memsWf_ite (memsWf_evq h _) ?_
  · rwa [State.writeEvqCons_mems]
  iterate 3 refine memsWf_ite (by rwa [State.mems_foldl _ (fun _ _ => by simp)]) ?_
  refine memsWf_ite ?_ (memsWf_ite (State.writeDma_mems _ _ _ _ h) h)
  rwa [State.writeMsix_mems]

@[simp] theorem State.endpointReset_mems (s : State) :
    (State.endpointReset s).mems = s.mems := rfl

/-! ### Relays: the memories -/

@[simp] theorem State.countRelayErr_mems (s : State) (ps : List Nat) :
    (State.countRelayErr s ps).mems = s.mems := rfl

@[simp] theorem State.keepBroadcast_mems (s : State) (r : Running) (own : Reply) (rel : Relay) :
    (State.keepBroadcast s r own rel).mems = s.mems := rfl

@[simp] theorem State.tryFinishRelay_mems (s : State) (r : Running) (own : Option Reply) (rel : Relay) :
    (State.tryFinishRelay s r own rel).mems = s.mems := by
  unfold State.tryFinishRelay
  (repeat' split) <;> simp

/-! ### Power: the memories -/

@[simp] theorem State.riseDelay_mems (s : State) :
    (State.riseDelay s).2.mems = s.mems := rfl

@[simp] theorem State.assertPwrEn_mems (s : State) (t : Nat) :
    (State.assertPwrEn s t).mems = s.mems := rfl

@[simp] theorem State.decideBoot_mems (s : State) (cause : Nat) :
    (State.decideBoot s cause).mems = s.mems := by
  simp [State.decideBoot]

@[simp] theorem State.powerDown_mems (s : State) (granted : Bool) (h : memsWf s.mems = true) :
    memsWf (State.powerDown s granted).mems = true := by
  simp [State.powerDown, h]

@[simp] theorem State.goodTimeout_mems (s : State) (h : memsWf s.mems = true) :
    memsWf (State.goodTimeout s).mems = true := by
  simp [State.goodTimeout, h]

@[simp] theorem State.wakeEvent_mems (s : State) (src : WakeSource) :
    (State.wakeEvent s src).mems = s.mems := by
  simp [State.wakeEvent]

@[simp] theorem State.wakeAsleep_mems (s : State) (src : WakeSource) :
    (State.wakeAsleep s src).mems = s.mems := by
  unfold State.wakeAsleep
  simp only []
  (repeat' split) <;> simp

@[simp] theorem State.wakeAwake_mems (s : State) (src : WakeSource) :
    (State.wakeAwake s src).mems = s.mems := by
  simp [State.wakeAwake]

@[simp] theorem State.wake_mems (s : State) (src : WakeSource) :
    (State.wake s src).mems = s.mems := by
  simp [State.wake]

@[simp] theorem State.countRefusal_mems (s : State) (code pos : Nat) :
    (State.countRefusal s code pos).mems = s.mems := rfl

@[simp] theorem State.forceStandby_mems (s : State) :
    (State.forceStandby s).mems = s.mems := by
  simp [State.forceStandby]

@[simp] theorem State.prepareSleep_mems (s : State) : s.prepareSleep.2.mems = s.mems := by
  unfold State.prepareSleep
  rw [State.nvOwnWrite_mems, State.mems_foldl _ (fun _ _ => by simp)]
  simp

@[simp] theorem State.armWake_mems (s : State) (mask : BitVec 3) (ticks : Nat) :
    (State.armWake s mask ticks).mems = s.mems := rfl

@[simp] theorem State.beginEntry_mems (s : State) (x : SleepPhase) :
    (State.beginEntry s x).mems = s.mems := rfl

@[simp] theorem State.leaveEntry_mems (s : State) (code src : Nat) :
    (State.leaveEntry s code src).mems = s.mems := by
  simp [State.leaveEntry]

@[simp] theorem State.answerChainSleep_mems (s : State) (own : Reply) :
    (State.answerChainSleep s own).mems = s.mems := by
  unfold State.answerChainSleep
  (repeat' split) <;> simp

@[simp] theorem State.chainGo_mems (s : State) (mask : BitVec 3) (ticks : Nat) : (s.chainGo mask ticks).mems = s.mems := by
  unfold State.chainGo
  simp only [State.mems_mk, State.mems_eta, State.prepareSleep_mems, State.answerChainSleep_mems, State.messages_mems,
    State.armWake_mems]

@[simp] theorem State.thermalEvent_mems (s : State) (bit : Nat) (on : Bool) :
    (State.thermalEvent s bit on).mems = s.mems := by
  simp [State.thermalEvent]

@[simp] theorem State.shutdown_mems (s : State) (fault : Bool) :
    (State.shutdown s fault).mems = s.mems := rfl

/-! ### Spares: the memories -/

@[simp] theorem State.failedEvent_mems (s : State) (kind unit action : Nat) :
    (State.failedEvent s kind unit action).mems = s.mems := by
  simp [State.failedEvent]

@[simp] theorem State.countHeldOut_mems (s : State) (kind : Nat) :
    (State.countHeldOut s kind).mems = s.mems := rfl

@[simp] theorem State.holdOut_mems (s : State) (o : Nat) :
    (State.holdOut s o).mems = s.mems := rfl

@[simp] theorem State.switchToSecond_mems (s : State) (k2 : Nat) :
    (State.switchToSecond s k2).mems = s.mems := by
  unfold State.switchToSecond
  split <;> simp

@[simp] theorem State.synFails_mems (s : State) (k : Nat) :
    (State.synFails s k).mems = s.mems := by
  unfold State.synFails
  simp only []
  (repeat' split) <;> simp

@[simp] theorem State.outOfService_mems (s : State) (kind unit : Nat) :
    (State.outOfService s kind unit).mems = s.mems := by
  unfold State.outOfService
  simp only []
  (repeat' split) <;> simp

@[simp] theorem State.noSpareLeft_mems (s : State) (kind unit : Nat) :
    (State.noSpareLeft s kind unit).mems = s.mems := by
  unfold State.noSpareLeft
  simp only []
  (repeat' split) <;> simp

@[simp] theorem State.moveLeases_mems (s : State) (a b : Nat) :
    (State.moveLeases s a b).mems = s.mems := rfl

@[simp] theorem State.installSpare_mems (s : State) (kind unit spare : Nat) :
    (State.installSpare s kind unit spare).mems = s.mems := by
  unfold State.installSpare
  simp only []
  (repeat' split) <;> simp

@[simp] theorem State.bootFailure_mems (s : State) (kind unit : Nat) :
    (State.bootFailure s kind unit).mems = s.mems := by
  simp [State.bootFailure]

@[simp] theorem State.sramFailure_mems (s : State) (unit : Nat) :
    (State.sramFailure s unit).mems = s.mems := by
  simp [State.sramFailure]

@[simp] theorem State.beginReplacement_mems (s : State) (kind unit : Nat) :
    (State.beginReplacement s kind unit).mems = s.mems := by
  unfold State.beginReplacement
  (repeat' split) <;> simp

@[simp] theorem State.startReplacement_mems (s : State) :
    (State.startReplacement s).mems = s.mems := by
  unfold State.startReplacement
  (repeat' split) <;> simp

@[simp] theorem State.ownRecordWrite_mems (s : State) (order : Nat) :
    (State.ownRecordWrite s order).mems = s.mems := rfl

@[simp] theorem State.restorePaths_mems (s : State) (m : Mask64) (dir : Nat) :
    (State.restorePaths s m dir).mems = s.mems := by
  exact State.mems_foldl _ (fun _ _ => by simp) _ _

/-! ### System commands: the memories -/

@[simp] theorem State.startHostOp_mems (s : State) (w : NvWriter) :
    (State.startHostOp s w).mems = s.mems := rfl

@[simp] theorem State.nvWriteEnd_mems (s : State) (r : Running) (out : HostOpEnd) (h : memsWf s.mems = true) :
    memsWf (State.nvWriteEnd s r out).1.mems = true := by
  simp [State.nvWriteEnd, h]

@[simp] theorem State.bankWritten_mems (s : State) (bank cause : Nat) (img : List Byte) (out : HostOpEnd) :
    (State.bankWritten s bank cause img out).1.mems = s.mems := by
  unfold State.bankWritten
  simp only []
  (repeat' split) <;> simp

@[simp] theorem State.hostOpEnd_mems (s : State) (r : Running) (out : HostOpEnd) (h : memsWf s.mems = true) :
    memsWf (State.hostOpEnd s r out).1.mems = true := by
  unfold State.hostOpEnd
  (repeat' split) <;> simp [h]

@[simp] theorem State.relayInstall_mems (s : State) (r : Running) (own : Reply) :
    (State.relayInstall s r own).mems = s.mems := by
  simp [State.relayInstall]

/-! ### Boot and provisioning: the memories -/

@[simp] theorem State.bootFaultAt_mems (s : State) (fault stage : Nat) :
    (State.bootFaultAt s fault stage).mems = s.mems := rfl

@[simp] theorem State.stopBoot_mems (s : State) (fault : Nat) :
    (State.stopBoot s fault).mems = s.mems := rfl

@[simp] theorem State.enterStage_mems (s : State) (stage : Nat) :
    (State.enterStage s stage).mems = s.mems := rfl

@[simp] theorem State.refuseBoot_mems (s : State) (sensor : Bool) (h : memsWf s.mems = true) :
    memsWf (State.refuseBoot s sensor).mems = true := by
  simp [State.refuseBoot, h]

@[simp] theorem State.endStraps_mems (s : State) (x : BootFacts) (h : memsWf s.mems = true) :
    memsWf (State.endStraps s x).mems = true := by
  unfold State.endStraps
  (repeat' split) <;> simp [h]

@[simp] theorem State.endReference_mems (s : State) (x : BootFacts) :
    (State.endReference s x).mems = s.mems := by
  simp [State.endReference]

@[simp] theorem State.endMemory_mems (s : State) (x : BootFacts) : (s.endMemory x).mems = s.mems := by
  unfold State.endMemory
  split
  · simp
  · rw [State.enterStage_mems, State.mems_foldl _ (fun _ _ => by split <;> simp)]
    simp

@[simp] theorem State.endFabric_mems (s : State) (x : BootFacts) :
    (State.endFabric s x).mems = s.mems := by
  unfold State.endFabric
  split <;> simp

@[simp] theorem State.endNvCheck_mems (s : State) (x : BootFacts) :
    (State.endNvCheck s x).mems = s.mems := by
  simp [State.endNvCheck]

@[simp] theorem State.startImage_mems (s : State) (source release : Nat) (img : List Byte) :
    (State.startImage s source release img).mems = s.mems := rfl

@[simp] theorem State.endImage_mems (s : State) :
    (State.endImage s).mems = s.mems := by
  unfold State.endImage
  simp only []
  (repeat' split) <;> simp

@[simp] theorem State.bringUpChain_mems (s : State) :
    (State.bringUpChain s).mems = s.mems := by
  unfold State.bringUpChain
  split <;> simp

@[simp] theorem State.restoreRetired_mems (s : State) :
    (State.restoreRetired s).mems = s.mems := by
  simp [State.restoreRetired]

@[simp] theorem State.chainClock_mems (s : State) :
    (State.chainClock s).mems = s.mems := by
  simp [State.chainClock]

@[simp] theorem State.startClocks_mems (s : State) :
    (State.startClocks s).mems = s.mems := rfl

@[simp] theorem State.readyEvent_mems (s : State) :
    (State.readyEvent s).mems = s.mems := by
  simp [State.readyEvent]

@[simp] theorem State.afterReady_mems (s : State) :
    (State.afterReady s).mems = s.mems := by
  unfold State.afterReady
  split <;> simp

@[simp] theorem State.provisionedEvent_mems (s : State) (step version : Nat) :
    (State.provisionedEvent s step version).mems = s.mems := by
  simp [State.provisionedEvent]

@[simp] theorem State.setReply_mems (s : State) (order : Nat) (rep : Reply) :
    (State.setReply s order rep).mems = s.mems := rfl

@[simp] theorem State.failOwner_mems (s : State) (j : NvJob) (status : Nat) :
    (State.failOwner s j status).mems = s.mems := by
  unfold State.failOwner
  split <;> simp

@[simp] theorem State.sealedRecord_mems (s : State) (p : List Byte) :
    (State.sealedRecord s p).mems = s.mems := by
  simp [State.sealedRecord]

@[simp] theorem State.applyRecord_mems (s : State) (j : NvJob) :
    (State.applyRecord s j).mems = s.mems := by
  unfold State.applyRecord
  split <;> simp

@[simp] theorem State.skipWrites_mems (s : State) :
    (State.skipWrites s).mems = s.mems := by
  unfold State.skipWrites
  split
  all_goals (try rw [State.mems_foldl])
  all_goals simp

@[simp] theorem State.debugWrite_mems (s : State) (a : Nat) (v : Byte) (h : memsWf s.mems = true) :
    memsWf (s.debugWrite a v).mems = true := by
  unfold State.debugWrite
  refine memsWf_ite (memsWf_ite ?_ (memsWf_ite ?_ (memsWf_ite ?_ h))) (memsWf_memByte h _ _)
  · exact memsWf_banks h _ _
  · exact memsWf_banks h _ _
  · exact memsWf_hostAreaByte h _ _

/-! ### Reception: the memories -/

@[simp] theorem State.setContext_mems (s : State) (c : Nat) (x : Context) :
    (State.setContext s c x).mems = s.mems := rfl

@[simp] theorem State.endReception_mems (s : State) (c : Nat) (x : Context) :
    (State.endReception s c x).mems = s.mems := rfl

@[simp] theorem State.pushEnded_mems (s : State) (c : Nat) (x : Context) (status stop : Nat) :
    (State.pushEnded s c x status stop).mems = s.mems := rfl

@[simp] theorem State.dropGrant_mems (s : State) (g : Grant) :
    (State.dropGrant s g).mems = s.mems := rfl

@[simp] theorem State.abandon_mems (s : State) (c : Nat) (x : Context) (time : Nat) :
    (State.abandon s c x time).mems = s.mems := by
  unfold State.abandon
  split <;> simp

@[simp] theorem State.recapture_mems (s : State) (c : Nat) (x : Context) (time : Nat) :
    (State.recapture s c x time).mems = s.mems := by
  simp [State.recapture]

@[simp] theorem State.endDuplicate_mems (s : State) (c : Nat) (x : Context) :
    (State.endDuplicate s c x).mems = s.mems := rfl

@[simp] theorem State.resolveDuplicate_mems (s : State) (c : Nat) (x : Context) :
    (State.resolveDuplicate s c x).mems = s.mems := by
  unfold State.resolveDuplicate
  simp only []
  (repeat' split) <;> simp

@[simp] theorem State.writePool_mems (s : State) (off : Nat) (b : List Byte) (h : memsWf s.mems = true) :
    memsWf (s.writePool off b).mems = true :=
  memsWf_mem (s := { s with mem := memWriteBytes unlisted s.mem (0x11000000 + off) (b.take (poolSize - off)) })
    (memsWf_mem h _ _) _ _

@[simp] theorem State.recordLost_mems (s : State) :
    (State.recordLost s).mems = s.mems := by
  simp [State.recordLost]

@[simp] theorem State.produceRecord_mems (s : State) (e : Ended) (status : Nat) (b : BackEnd) (h : memsWf s.mems = true) :
    memsWf (State.produceRecord s e status b).mems = true := by
  unfold State.produceRecord
  simp only []
  (repeat' split) <;> simp [h]

/-! ### Pre-distortion and tuning: the memories -/

@[simp] theorem State.setDpd_mems (s : State) (p : Nat) (f : DpdPath → DpdPath) :
    (State.setDpd s p f).mems = s.mems := rfl

@[simp] theorem State.obsExpire_mems (s : State) :
    (State.obsExpire s).mems = s.mems := by
  unfold State.obsExpire
  split <;> simp

@[simp] theorem State.noteCapture_mems (s : State) (p : Nat) (nmse : Int) :
    (State.noteCapture s p nmse).mems = s.mems := by
  unfold State.noteCapture
  simp only []
  (repeat' split) <;> simp

@[simp] theorem State.endCapture_mems (s : State) :
    (State.endCapture s).mems = s.mems := by
  simp [State.endCapture]

@[simp] theorem State.judgeMismatch_mems (s : State) (p : Nat) (rl : Int) :
    (State.judgeMismatch s p rl).mems = s.mems := by
  simp [State.judgeMismatch]

@[simp] theorem State.noteMismatch_mems (s : State) (p : Nat) (fwd rev : Int) :
    (State.noteMismatch s p fwd rev).mems = s.mems := by
  unfold State.noteMismatch
  simp only []
  (repeat' split) <;> simp

@[simp] theorem State.rffe_mems (s : State) (bus : Nat) (x : RffeXfer) :
    (State.rffe s bus x).mems = s.mems := rfl

@[simp] theorem State.writeCodes_mems (s : State) (p : Nat) (codes : List (Nat × Nat)) :
    (State.writeCodes s p codes).mems = s.mems := by
  unfold State.writeCodes
  split
  all_goals (try rw [State.mems_foldl])
  all_goals simp

@[simp] theorem State.setTune_mems (s : State) (p : Nat) (f : TunePath → TunePath) :
    (State.setTune s p f).mems = s.mems := rfl

@[simp] theorem State.tunerReadDone_mems (s : State) (p addr : Nat) (v : Nat) (good : Bool) :
    (State.tunerReadDone s p addr v good).mems = s.mems := by
  unfold State.tunerReadDone
  simp only []
  (repeat' split) <;> simp

@[simp] theorem State.xferReply_mems (s : State) (order : Nat) (rep : List Byte → Reply) :
    (State.xferReply s order rep).mems = s.mems := by
  unfold State.xferReply
  (repeat' split) <;> simp

@[simp] theorem State.tuneMeasure_mems (s : State) (p : Nat) (ratio : Int) :
    (State.tuneMeasure s p ratio).mems = s.mems := by
  unfold State.tuneMeasure
  simp only []
  (repeat' split) <;> simp

@[simp] theorem State.weightsChange_mems (s : State) (m : Mask64) (t : Nat) :
    (State.weightsChange s m t).mems = s.mems := rfl

@[simp] theorem State.endTuning_mems (s : State) (w : TuneWindow) (result : Nat) :
    (State.endTuning s w result).mems = s.mems := by
  simp [State.endTuning]

@[simp] theorem State.dpdStatus_mems (s : State) (p : Nat) :
    (State.dpdStatus s p).2.mems = s.mems := by
  unfold State.dpdStatus
  simp only []
  (repeat' split) <;> simp

/-! ### HALO: the memories -/

@[simp] theorem State.scramble_mems (s : State) (n : Nat) (h : memsWf s.mems = true) :
    memsWf (State.scramble s n).mems = true := by
  simp [State.scramble, h]

@[simp] theorem State.openSegment_mems (s : State) (n first : Nat) (h : memsWf s.mems = true) :
    memsWf (State.openSegment s n first).mems = true := by
  simp [State.openSegment, h]

@[simp] theorem State.pulseTrigOut_mems (s : State) (start : Nat) :
    (State.pulseTrigOut s start).mems = s.mems := rfl

@[simp] theorem State.acceptTrigger_mems (s : State) (n stamp sources : Nat) :
    (State.acceptTrigger s n stamp sources).mems = s.mems := by
  simp [State.acceptTrigger]

@[simp] theorem State.endSlot_mems (s : State) (n : Nat) (st : SlotState) (code : Nat) :
    (State.endSlot s n st code).mems = s.mems := by
  simp [State.endSlot]

@[simp] theorem State.nextSegment_mems (s : State) (n : Nat) (h : memsWf s.mems = true) :
    memsWf (State.nextSegment s n).mems = true := by
  simp [State.nextSegment, h]

@[simp] theorem State.stopSlot_mems (s : State) (n : Nat) (freeze : Bool) (st : SlotState) (code mark : Nat)
    (h : memsWf s.mems = true) :
    memsWf (State.stopSlot s n freeze st code mark).mems = true := by
  unfold State.stopSlot
  simp only []
  (repeat' split) <;> simp [h]

@[simp] theorem State.takeSnapshot_mems (s : State) (x : Strobe) (phaseErr : Int) :
    (State.takeSnapshot s x phaseErr).mems = s.mems := rfl

/-! ### HORIZON: the memories -/

@[simp] theorem State.hznOverload_mems (s : State) (n : Nat) :
    (State.hznOverload s n).mems = s.mems := by
  simp [State.hznOverload]

@[simp] theorem State.holdCandidate_mems (s : State) (c : Candidate) :
    (State.holdCandidate s c).mems = s.mems := by
  unfold State.holdCandidate
  (repeat' split) <;> simp

@[simp] theorem State.offerHead_mems (s : State) (h : RawDetection) :
    (State.offerHead s h).mems = s.mems := rfl

@[simp] theorem State.placeHead_mems (s : State) (x : RawDetection × List RawDetection) (order : Nat) :
    (State.placeHead s x order).mems = s.mems := by
  unfold State.placeHead
  simp only []
  (repeat' split) <;> simp

@[simp] theorem State.placeProfile_mems (s : State) (p : Nat) (ds : List RawDetection) :
    (State.placeProfile s p ds).mems = s.mems := by
  exact State.mems_foldl _ (fun _ _ => by simp) _ _

@[simp] theorem State.updateNoise_mems (s : State) (epochs : Nat) (ds : List RawDetection) (powers : List (Nat × Nat)) :
    (State.updateNoise s epochs ds powers).mems = s.mems := by
  unfold State.updateNoise
  split <;> simp

@[simp] theorem State.countSuspended_mems (s : State) (epochs : Nat) :
    (State.countSuspended s epochs).mems = s.mems := rfl

@[simp] theorem State.runHolds_mems (s : State) (n : Nat) :
    (State.runHolds s n).mems = s.mems := rfl

@[simp] theorem State.sampleMap_mems (s : State) : s.sampleMap.mems = s.mems := by
  simp only [State.sampleMap, State.mems_mk, State.mems_eta]

@[simp] theorem State.resumeDetection_mems (s : State) :
    (State.resumeDetection s).mems = s.mems := by
  unfold State.resumeDetection
  split <;> simp

@[simp] theorem State.coarse_mems (s : State) (c : Candidate) :
    (State.coarse s c).2.mems = s.mems := by
  unfold State.coarse
  (repeat' split) <;> simp

@[simp] theorem State.xdevStrobe_mems (s : State) (metric : Int) :
    (State.xdevStrobe s metric).mems = s.mems := by
  simp [State.xdevStrobe]

@[simp] theorem State.grant_mems (s : State) (ctx : Nat) (c : Candidate) (dual handoff : Bool) :
    (State.grant s ctx c dual handoff).mems = s.mems := by
  simp [State.grant]

@[simp] theorem State.noContextEvent_mems (s : State) :
    (State.noContextEvent s).mems = s.mems := by
  simp [State.noContextEvent]

@[simp] theorem State.serveClaim_mems (s : State) (x : Candidate × Bool) :
    (State.serveClaim s x).mems = s.mems := by
  unfold State.serveClaim
  split <;> simp

@[simp] theorem State.judge_mems (s : State) (claims : List (Candidate × Bool)) (handed : List Nat) (c : Candidate) :
    (State.judge s claims handed c).1.mems = s.mems := by
  unfold State.judge
  (repeat' split) <;> simp

@[simp] theorem State.setRunning_mems (s : State) (l : List (Nat × Int)) :
    (State.setRunning s l).mems = s.mems := rfl

@[simp] theorem State.holdEnd_mems (s : State) (running : List (Nat × Int)) : (s.holdEnd running).mems = s.mems := by
  unfold State.holdEnd
  split
  · rfl
  · simp only [State.applySettings_mems, State.noContextEvent_mems]
    rw [State.mems_foldl _ (fun _ _ => by simp)]
    refine (foldl_keeps (fun (a : State × List (Candidate × Bool) × List Nat) => a.1.mems) _ (fun a w => ?_) _ _).trans ?_
    · simp
    · simp

@[simp] theorem State.noiseReading_mems (s : State) (b k : Nat) :
    (State.noiseReading s b k).2.mems = s.mems := by
  unfold State.noiseReading
  simp only []
  (repeat' split) <;> simp

end Sys2Proof.Machine
end

section
/-!
PROOFS. Command rows (family 13): what the effect of each command and of each other row may be.
-/

namespace Sys2Proof.Machine

open Sys2Proof

/-! ### What a command's effect may be (R408) -/

/-- A command's effect from `s`: it keeps the memories' form; ending with a status other than OK it has changed nothing and
does not
wait; and while it waits for its completion the host interface is as before. -/
structure CmdEffect.Sound (s : State) (e : CmdEffect) : Prop where
  mems : memsWf s.mems = true → memsWf e.state.mems = true
  failed : e.reply.status ≠ Status.ok → e.state = s ∧ e.defer = false
  deferred : e.defer = true → e.state.host = s.host

/-- A status alone changes nothing. -/
@[simp] theorem CmdEffect.sound_status (s : State) (st : Nat) : (CmdEffect.status s st).Sound s :=
  ⟨id, fun _ => ⟨rfl, rfl⟩, fun h => absurd h Bool.false_ne_true⟩

/-- A command that ends OK. -/
@[simp] theorem CmdEffect.sound_ok (s t : State) (p : List Byte) :
    (CmdEffect.ok t p).Sound s ↔ (memsWf s.mems = true → memsWf t.mems = true) :=
  ⟨fun h => h.mems, fun h => ⟨h, fun hst => absurd rfl hst, fun h => absurd h Bool.false_ne_true⟩⟩

/-- A command that waits for its completion. -/
@[simp] theorem CmdEffect.sound_later (s t : State) (p : List Byte) :
    (CmdEffect.later t p).Sound s ↔ (memsWf s.mems = true → memsWf t.mems = true) ∧ t.host = s.host :=
  ⟨fun h => ⟨h.mems, h.deferred rfl⟩, fun h => ⟨h.1, fun hst => absurd rfl hst, fun _ => h.2⟩⟩

/-- An outcome whose next state, if any, has its memories in canonical form. -/
def OutcomeWf : Host.Outcome State Fault Refusal → Prop
  | .next t => memsWf t.mems = true
  | _ => True

/-- A next state. -/
@[simp] theorem outcomeWf_next (t : State) : OutcomeWf (.next t) ↔ memsWf t.mems = true := Iff.rfl

/-- A command row: whatever its body leaves. -/
theorem outcomeWf_runCommand {s : State} (sp : CmdSpec) {body : Running → State → CmdEffect} (h : memsWf s.mems = true)
    (hb : ∀ r, memsWf (body r s).state.mems = true) : OutcomeWf (runCommand sp body s) := by
  unfold runCommand State.execute
  split
  · split
    · split
      · simpa using h
      · split
        · simpa using hb _
        · simpa using h
    · exact h
  · exact h

/-- Operations in a row that each keep the form. -/
theorem memsWf_foldl {α : Type} {f : State → α → State} (hf : ∀ a b, memsWf a.mems = true → memsWf (f a b).mems = true)
    (l : List α) {s : State} (h : memsWf s.mems = true) : memsWf (l.foldl f s).mems = true := by
  induction l generalizing s with
  | nil => exact h
  | cons b l ih => exact ih (hf s b h)

/-! ### Filters: effects -/

theorem loadSetBody_sound (r : Running) (s : State) :
    (loadSetBody r s).Sound s := by
  unfold loadSetBody
  simp only []
  split <;> simp

theorem assignBody_sound (r : Running) (s : State) :
    (assignBody r s).Sound s := by
  unfold assignBody
  simp only []
  split <;> simp

theorem filtApplyBody_sound (r : Running) (s : State) :
    (filtApplyBody r s).Sound s := by
  unfold filtApplyBody
  split <;> simp

theorem execFiltApplyInstant_wf (s : State) (hw : memsWf s.mems = true) :
    OutcomeWf (execFiltApplyInstant s) := by
  unfold execFiltApplyInstant
  simp only []
  (repeat' split) <;> simp [hw]

theorem setDetectorBody_sound (r : Running) (s : State) :
    (setDetectorBody r s).Sound s := by
  unfold setDetectorBody
  simp only []
  split <;> simp

theorem execDetectorAssert_wf (t : Nat) (p : Fin 64) (lower : Bool) (level : Int) (s : State) (hw : memsWf s.mems = true) :
    OutcomeWf (execDetectorAssert t p lower level s) := by
  simp [execDetectorAssert, hw]

theorem execDetectorRelease_wf (t : Nat) (p : Fin 64) (lower : Bool) (level : Int) (s : State) (hw : memsWf s.mems = true) :
    OutcomeWf (execDetectorRelease t p lower level s) := by
  simp [execDetectorRelease, hw]

theorem filtGetStatusBody_sound (r : Running) (s : State) :
    (filtGetStatusBody r s).Sound s := by
  simp [filtGetStatusBody]

/-! ### Paths: effects -/

theorem setEnableBody_sound (r : Running) (s : State) :
    (setEnableBody r s).Sound s := by
  unfold setEnableBody
  split <;> simp

theorem execPathRxEnableSettle_wf (p : Fin 64) (s : State) (hw : memsWf s.mems = true) :
    OutcomeWf (execPathRxEnableSettle p s) := by
  unfold execPathRxEnableSettle
  split <;> simp [hw]

theorem setGainBody_sound (r : Running) (s : State) :
    (setGainBody r s).Sound s := by
  unfold setGainBody
  simp only []
  (repeat' split) <;> simp

theorem execGainChangeApply_wf (s : State) (hw : memsWf s.mems = true) :
    OutcomeWf (execGainChangeApply s) := by
  unfold execGainChangeApply
  simp only []
  (repeat' split) <;> simp [hw]

theorem setAgcBody_sound (r : Running) (s : State) :
    (setAgcBody r s).Sound s := by
  unfold setAgcBody
  simp only []
  split <;> simp

theorem execAgcWindowEnd_wf (x : WindowStats) (s : State) (hw : memsWf s.mems = true) :
    OutcomeWf (execAgcWindowEnd x s) := by
  unfold execAgcWindowEnd
  simp only []
  split <;> simp [hw]

theorem setAttenBody_sound (r : Running) (s : State) :
    (setAttenBody r s).Sound s := by
  unfold setAttenBody
  simp only []
  split <;> simp

theorem setFeTimingBody_sound (r : Running) (s : State) :
    (setFeTimingBody r s).Sound s := by
  unfold setFeTimingBody
  simp only []
  split <;> simp

theorem setObsBody_sound (r : Running) (s : State) :
    (setObsBody r s).Sound s := by
  unfold setObsBody
  simp only []
  split <;> simp

theorem pathStatusBody_sound (r : Running) (s : State) :
    (pathStatusBody r s).Sound s := by
  simp [pathStatusBody]

theorem auxAdcConfigBody_sound (r : Running) (s : State) :
    (auxAdcConfigBody r s).Sound s := by
  unfold auxAdcConfigBody
  simp only []
  split <;> simp

theorem auxAdcReadBody_sound (r : Running) (s : State) :
    (auxAdcReadBody r s).Sound s := by
  simp [auxAdcReadBody]

theorem execAuxAdcConversion_wf (t : Nat) (c : Fin 16) (raw : BitVec 12) (s : State) (hw : memsWf s.mems = true) :
    OutcomeWf (execAuxAdcConversion t c raw s) := by
  unfold execAuxAdcConversion
  simp only []
  (repeat' split) <;> simp [hw]

theorem execAuxOpenTest_wf (t : Nat) (c : Fin 16) (up down : BitVec 12) (s : State) (hw : memsWf s.mems = true) :
    OutcomeWf (execAuxOpenTest t c up down s) := by
  unfold execAuxOpenTest
  simp only []
  (repeat' split) <;> simp [hw]

theorem auxDacSetBody_sound (r : Running) (s : State) :
    (auxDacSetBody r s).Sound s := by
  unfold auxDacSetBody
  simp only []
  split <;> simp

theorem auxDacSineBody_sound (r : Running) (s : State) :
    (auxDacSineBody r s).Sound s := by
  unfold auxDacSineBody
  simp only []
  (repeat' split) <;> simp

/-! ### Synthesisers: effects -/

theorem setStateBody_sound (r : Running) (s : State) :
    (setStateBody r s).Sound s := by
  unfold setStateBody
  split <;> simp

theorem execBaseStateChange_wf (s : State) (hw : memsWf s.mems = true) :
    OutcomeWf (execBaseStateChange s) := by
  unfold execBaseStateChange
  simp only []
  (repeat' split) <;> simp [hw]

theorem execRadioTransitionDone_wf (t : Nat) (s : State) (hw : memsWf s.mems = true) :
    OutcomeWf (execRadioTransitionDone t s) := by
  unfold execRadioTransitionDone
  simp only []
  (repeat' split) <;> simp [hw]

theorem setModeBody_sound (r : Running) (s : State) :
    (setModeBody r s).Sound s := by
  unfold setModeBody
  split <;> simp

theorem tuneBody_sound (r : Running) (s : State) :
    (tuneBody r s).Sound s := by
  unfold tuneBody
  simp only []
  split <;> simp

theorem commitBody_sound (r : Running) (s : State) :
    (commitBody r s).Sound s := by
  unfold commitBody
  split <;> simp

theorem execSynCommitInstant_wf (s : State) (hw : memsWf s.mems = true) : OutcomeWf (execSynCommitInstant s) := by
  unfold execSynCommitInstant
  split
  · exact hw
  · rw [outcomeWf_next, State.mems_foldl _ (fun _ _ => by simp)]
    simpa using hw

theorem execSynAcquisitionStart_wf (k : Fin 3) (s : State) (hw : memsWf s.mems = true) :
    OutcomeWf (execSynAcquisitionStart k s) := by
  unfold execSynAcquisitionStart
  simp only []
  (repeat' split) <;> simp [hw]

theorem execSynLock_wf (t : Nat) (k : Fin 3) (band gain tdcNorm kp ki : Nat) (s : State) (hw : memsWf s.mems = true) :
    OutcomeWf (execSynLock t k band gain tdcNorm kp ki s) := by
  unfold execSynLock
  simp only []
  (repeat' split) <;> simp [hw]

theorem execSynUnlock_wf (t : Nat) (k : Fin 3) (s : State) (hw : memsWf s.mems = true) :
    OutcomeWf (execSynUnlock t k s) := by
  unfold execSynUnlock
  simp only []
  (repeat' split) <;> simp [hw]

theorem switchBody_sound (r : Running) (s : State) :
    (switchBody r s).Sound s := by
  unfold switchBody
  split <;> simp

theorem execSynSwitchApply_wf (chain : Bool) (blankNs : Nat) (s : State) (hw : memsWf s.mems = true) :
    OutcomeWf (execSynSwitchApply chain blankNs s) := by
  unfold execSynSwitchApply
  (repeat' split) <;> simp [hw]

theorem execSynSwitchAbandon_wf (s : State) (hw : memsWf s.mems = true) :
    OutcomeWf (execSynSwitchAbandon s) := by
  unfold execSynSwitchAbandon
  simp only []
  (repeat' split) <;> simp [hw]

theorem storeEntryBody_sound (r : Running) (s : State) :
    (storeEntryBody r s).Sound s := by
  unfold storeEntryBody
  simp only []
  split <;> simp

theorem readEntryBody_sound (r : Running) (s : State) :
    (readEntryBody r s).Sound s := by
  unfold readEntryBody
  simp only []
  (repeat' split) <;> simp

theorem setClkoutBody_sound (r : Running) (s : State) :
    (setClkoutBody r s).Sound s := by
  unfold setClkoutBody
  simp only []
  split <;> simp

theorem setReferenceBody_sound (r : Running) (s : State) :
    (setReferenceBody r s).Sound s := by
  unfold setReferenceBody
  simp only []
  split <;> simp

theorem execReferenceLost_wf (t : Nat) (src reason : Fin 2) (s : State) (hw : memsWf s.mems = true) :
    OutcomeWf (execReferenceLost t src reason s) := by
  unfold execReferenceLost
  simp only []
  (repeat' split) <;> simp [hw]

theorem execReferenceValid_wf (t : Nat) (src : Fin 2) (freq : Fin 4) (s : State) (hw : memsWf s.mems = true) :
    OutcomeWf (execReferenceValid t src freq s) := by
  unfold execReferenceValid
  simp only []
  (repeat' split) <;> simp [hw]

theorem execReferenceReacquired_wf (t : Nat) (s : State) (hw : memsWf s.mems = true) :
    OutcomeWf (execReferenceReacquired t s) := by
  unfold execReferenceReacquired
  simp only []
  split <;> simp [hw]

theorem execFreewheelLimit_wf (s : State) (hw : memsWf s.mems = true) :
    OutcomeWf (execFreewheelLimit s) := by
  unfold execFreewheelLimit
  (repeat' split) <;> simp [hw]

theorem synGetStatusBody_sound (r : Running) (s : State) :
    (synGetStatusBody r s).Sound s := by
  simp [synGetStatusBody]

/-! ### Transmission: effects -/

theorem txSubmitBody_sound (r : Running) (s : State) :
    (txSubmitBody r s).Sound s := by
  unfold txSubmitBody
  simp only []
  split <;> simp

theorem cancelRequest_failed {s : State} {id : Nat} (h : (s.cancelRequest id).1 ≠ Status.ok) : (s.cancelRequest id).2 = s := by
  unfold State.cancelRequest at h ⊢
  split
  · rfl
  · split
    · rfl
    · simp_all

theorem txCancelBody_sound (r : Running) (s : State) : (txCancelBody r s).Sound s where
  mems := by simp [txCancelBody, CmdEffect.status]
  failed := fun h => ⟨cancelRequest_failed h, rfl⟩
  deferred := fun h => absurd h Bool.false_ne_true

theorem txSetRampBody_sound (r : Running) (s : State) :
    (txSetRampBody r s).Sound s := by
  unfold txSetRampBody
  simp only []
  split <;> simp

theorem txSetCoexBody_sound (r : Running) (s : State) :
    (txSetCoexBody r s).Sound s := by
  unfold txSetCoexBody
  simp only []
  split <;> simp

theorem txGetStatusBody_sound (r : Running) (s : State) :
    (txGetStatusBody r s).Sound s := by
  simp [txGetStatusBody]

theorem txRegReadBody_sound (r : Running) (s : State) :
    (txRegReadBody r s).Sound s := by
  unfold txRegReadBody
  split <;> simp

theorem regSupersedeBody_sound (r : Running) (s : State) :
    (regSupersedeBody r s).Sound s := by
  unfold regSupersedeBody
  simp only []
  split <;> simp

theorem execTxPreparation_wf (s : State) (hw : memsWf s.mems = true) :
    OutcomeWf (execTxPreparation s) := by
  unfold execTxPreparation
  simp only []
  (repeat' split) <;> simp [hw]

theorem execCoexRequestAssert_wf (s : State) (hw : memsWf s.mems = true) :
    OutcomeWf (execCoexRequestAssert s) := by
  unfold execCoexRequestAssert
  split <;> simp [hw]

theorem execCalYield_wf (s : State) (hw : memsWf s.mems = true) :
    OutcomeWf (execCalYield s) := by
  unfold execCalYield
  simp only []
  split <;> simp [hw]

theorem execTxStateEntry_wf (s : State) (hw : memsWf s.mems = true) :
    OutcomeWf (execTxStateEntry s) := by
  unfold execTxStateEntry
  simp only []
  (repeat' split) <;> simp [hw]

theorem execLaunchDecision_wf (t : Nat) (s : State) (hw : memsWf s.mems = true) :
    OutcomeWf (execLaunchDecision t s) := by
  unfold execLaunchDecision
  simp only []
  (repeat' split) <;> simp [hw]

theorem execTrswTransmit_wf (s : State) (hw : memsWf s.mems = true) :
    OutcomeWf (execTrswTransmit s) := by
  unfold execTrswTransmit
  split <;> simp [hw]

theorem execCoexGrantSample_wf (gnt busy : Bool) (s : State) (hw : memsWf s.mems = true) :
    OutcomeWf (execCoexGrantSample gnt busy s) := by
  unfold execCoexGrantSample
  simp only []
  (repeat' split) <;> simp [hw]

theorem execBurstLaunch_wf (s : State) (hw : memsWf s.mems = true) :
    OutcomeWf (execBurstLaunch s) := by
  unfold execBurstLaunch
  simp only []
  (repeat' split) <;> simp [hw]

theorem execFrameEnd_wf (s : State) (hw : memsWf s.mems = true) :
    OutcomeWf (execFrameEnd s) := by
  unfold execFrameEnd
  split <;> simp [hw]

theorem execBurstRampDownEnd_wf (x : BurstStats) (s : State) (hw : memsWf s.mems = true) :
    OutcomeWf (execBurstRampDownEnd x s) := by
  unfold execBurstRampDownEnd
  simp only []
  (repeat' split) <;> simp [hw]

theorem execTrswReturn_wf (s : State) (hw : memsWf s.mems = true) :
    OutcomeWf (execTrswReturn s) := by
  unfold execTrswReturn
  simp only []
  (repeat' split) <;> simp [hw]

theorem execRxBlankEnd_wf (s : State) (hw : memsWf s.mems = true) :
    OutcomeWf (execRxBlankEnd s) := by
  unfold execRxBlankEnd
  split <;> simp [hw]

theorem execTxLingerExpiry_wf (s : State) (hw : memsWf s.mems = true) :
    OutcomeWf (execTxLingerExpiry s) := by
  simp [execTxLingerExpiry, hw]

theorem execCoexWithdrawal_wf (t : Nat) (busy : Bool) (s : State) (hw : memsWf s.mems = true) :
    OutcomeWf (execCoexWithdrawal t busy s) := by
  unfold execCoexWithdrawal
  simp only []
  split <;> simp [hw]

theorem execDutyHistorySave_wf (s : State) (hw : memsWf s.mems = true) :
    OutcomeWf (execDutyHistorySave s) := by
  unfold execDutyHistorySave
  split <;> simp [hw]

/-! ### Beams: effects -/

theorem setGeometryBody_sound (r : Running) (s : State) :
    (setGeometryBody r s).Sound s := by
  unfold setGeometryBody
  simp only []
  split <;> simp

theorem setGridBody_sound (r : Running) (s : State) :
    (setGridBody r s).Sound s := by
  unfold setGridBody
  simp only []
  split <;> simp

theorem execGridRecomputeDone_wf (t : Nat) (s : State) (hw : memsWf s.mems = true) :
    OutcomeWf (execGridRecomputeDone t s) := by
  unfold execGridRecomputeDone
  split <;> simp [hw]

theorem setRxSourceBody_sound (r : Running) (s : State) :
    (setRxSourceBody r s).Sound s := by
  unfold setRxSourceBody
  simp only []
  split <;> simp

theorem loadBankBody_sound (r : Running) (s : State) :
    (loadBankBody r s).Sound s := by
  unfold loadBankBody
  simp only []
  split <;> simp

theorem setScaleBody_sound (r : Running) (s : State) :
    (setScaleBody r s).Sound s := by
  unfold setScaleBody
  simp only []
  split <;> simp

theorem beamSwapBody_sound (r : Running) (s : State) :
    (beamSwapBody r s).Sound s := by
  unfold beamSwapBody
  simp only []
  split <;> simp

theorem execBeamSwapFreeze_wf (s : State) (hw : memsWf s.mems = true) :
    OutcomeWf (execBeamSwapFreeze s) := by
  unfold execBeamSwapFreeze
  simp only []
  (repeat' split) <;> simp [hw]

theorem execBeamSwapApply_wf (s : State) (hw : memsWf s.mems = true) :
    OutcomeWf (execBeamSwapApply s) := by
  unfold execBeamSwapApply
  split <;> simp [hw]

theorem setAdaptiveBody_sound (r : Running) (s : State) :
    (setAdaptiveBody r s).Sound s := by
  unfold setAdaptiveBody
  simp only []
  split <;> simp

theorem execAdaptiveUpdate_wf (s : State) (hw : memsWf s.mems = true) :
    OutcomeWf (execAdaptiveUpdate s) := by
  simp [execAdaptiveUpdate, hw]

theorem execAdaptiveSolveDone_wf (t : Nat) (few ill : Bool) (sols : List (Nat × List Cplx)) (s : State)
    (hw : memsWf s.mems = true) :
    OutcomeWf (execAdaptiveSolveDone t few ill sols s) := by
  unfold execAdaptiveSolveDone
  simp only []
  (repeat' split) <;> simp [hw]

theorem execSignatureStore_wf (t order : Nat) (mant : List Cplx) (exponent : Nat) (az el : Int) (sigAz sigEl : Nat)
    (s : State) (hw : memsWf s.mems = true) :
    OutcomeWf (execSignatureStore t order mant exponent az el sigAz sigEl s) := by
  unfold execSignatureStore
  simp only []
  (repeat' split) <;> simp [hw]

theorem sigPinBody_sound (r : Running) (s : State) :
    (sigPinBody r s).Sound s := by
  unfold sigPinBody
  simp only []
  split <;> simp

theorem sigReadBody_sound (r : Running) (s : State) :
    (sigReadBody r s).Sound s := by
  unfold sigReadBody
  simp only []
  split <;> simp

theorem execStuckAdc_wf (t : Nat) (p : Fin 64) (s : State) (hw : memsWf s.mems = true) :
    OutcomeWf (execStuckAdc t p s) := by
  unfold execStuckAdc
  simp only []
  split <;> simp [hw]

theorem beamGetStatusBody_sound (r : Running) (s : State) :
    (beamGetStatusBody r s).Sound s := by
  simp [beamGetStatusBody]

/-! ### Calibration: effects -/

theorem execCalStepComplete_wf (t : Nat) (k : Fin 10) (x : CalStep) (s : State) (hw : memsWf s.mems = true) :
    OutcomeWf (execCalStepComplete t k x s) := by
  unfold execCalStepComplete
  extract_lets s0 s1
  have h1 : s1.mems = s.mems := by simp [s1, s0]
  split
  · rwa [outcomeWf_next, h1]
  · split
    · rwa [outcomeWf_next, h1]
    · rw [outcomeWf_next, State.mems_ite, State.endRun_mems, ite_self, State.setKind_mems,
        State.mems_foldl _ (fun _ _ => by simp), State.writeStep_mems, h1]
      exact hw

theorem execCalRunTrigger_wf (t : Nat) (k : Fin 10) (s : State) (hw : memsWf s.mems = true) :
    OutcomeWf (execCalRunTrigger t k s) := by
  unfold execCalRunTrigger
  simp only []
  (repeat' split) <;> simp [hw]

theorem execCalStarved_wf (k : Fin 10) (lacking : Fin 4) (s : State) (hw : memsWf s.mems = true) :
    OutcomeWf (execCalStarved k lacking s) := by
  unfold execCalStarved
  simp only []
  (repeat' split) <;> simp [hw]

theorem execXdevSnapshotEval_wf (t : Nat) (recordOk : Bool) (snr : Int) (inside : Bool) (span : Nat) (parts : List XdevPart)
    (s : State) (hw : memsWf s.mems = true) :
    OutcomeWf (execXdevSnapshotEval t recordOk snr inside span parts s) := by
  unfold execXdevSnapshotEval
  simp only []
  (repeat' split) <;> simp [hw]

theorem execCalAutoStore_wf (t : Nat) (s : State) (hw : memsWf s.mems = true) :
    OutcomeWf (execCalAutoStore t s) := by
  unfold execCalAutoStore
  simp only []
  (repeat' split) <;> simp [hw]

theorem calRunBody_sound (r : Running) (s : State) :
    (calRunBody r s).Sound s := by
  unfold calRunBody
  simp only []
  (repeat' split) <;> simp

theorem setSupervisorBody_sound (r : Running) (s : State) :
    (setSupervisorBody r s).Sound s := by
  unfold setSupervisorBody
  simp only []
  split <;> simp

theorem calGetStatusBody_sound (r : Running) (s : State) : (calGetStatusBody r s).Sound s := by
  unfold calGetStatusBody
  extract_lets x
  have hx : x.2.mems = s.mems :=
    foldl_keeps (fun a : List (List Byte) × State => a.2.mems) _ (fun _ _ => by simp) (List.range 10) ([], s)
  simp [hx]

theorem pathStatsBody_sound (r : Running) (s : State) :
    (pathStatsBody r s).Sound s := by
  simp [pathStatsBody]

theorem calStoreBody_sound (r : Running) (s : State) :
    (calStoreBody r s).Sound s := by
  unfold calStoreBody
  simp only []
  (repeat' split) <;> simp

theorem calRestoreBody_sound (r : Running) (s : State) : (calRestoreBody r s).Sound s := by
  have hm : ∀ (src e : Nat) (l : List Nat), (l.foldl (fun s k => s.restoreKind src e k) s).mems = s.mems :=
    fun src e l => State.mems_foldl _ (fun _ _ => by simp) l s
  unfold calRestoreBody
  simp only []
  split
  · simp
  · simp [hm]

theorem calReadSetBody_sound (r : Running) (s : State) :
    (calReadSetBody r s).Sound s := by
  unfold calReadSetBody
  simp only []
  (repeat' split) <;> simp

theorem setCouplerBody_sound (r : Running) (s : State) :
    (setCouplerBody r s).Sound s := by
  unfold setCouplerBody
  simp only []
  split <;> simp

/-! ### Cascade: effects -/

theorem execHopTraining_wf (t : Nat) (h : Fin 16) (s : State) (hw : memsWf s.mems = true) :
    OutcomeWf (execHopTraining t h s) := by
  unfold execHopTraining
  simp only []
  (repeat' split) <;> simp [hw]

theorem execHopTrainingFail_wf (t : Nat) (h : Fin 16) (lanes : List LaneTrain) (s : State) (hw : memsWf s.mems = true) :
    OutcomeWf (execHopTrainingFail t h lanes s) := by
  unfold execHopTrainingFail
  simp only []
  (repeat' split) <;> simp [hw]

theorem execHopJoin_wf (t : Nat) (h : Fin 16) (lanes : List LaneTrain) (x : JoinInfo) (s : State) (hw : memsWf s.mems = true) :
    OutcomeWf (execHopJoin t h lanes x s) := by
  unfold execHopJoin
  simp only []
  (repeat' split) <;> simp [hw]

theorem execHopRejoin_wf (t : Nat) (h : Fin 15) (s : State) (hw : memsWf s.mems = true) :
    OutcomeWf (execHopRejoin t h s) := by
  unfold execHopRejoin
  simp only []
  (repeat' split) <;> simp [hw]

theorem execDelayMeasurement_wf (t : Nat) (h : Fin 15) (probes : List Probe) (trigPs : Nat) (s : State)
    (hw : memsWf s.mems = true) :
    OutcomeWf (execDelayMeasurement t h probes trigPs s) := by
  unfold execDelayMeasurement
  simp only []
  (repeat' split) <;> simp [hw]

theorem execTimeMessageSend_wf (s : State) (hw : memsWf s.mems = true) :
    OutcomeWf (execTimeMessageSend s) := by
  unfold execTimeMessageSend
  (repeat' split) <;> simp [hw]

theorem execTimeMessageReceive_wf (t : Nat) (device : Int) (mstate : Fin 3) (s : State) (hw : memsWf s.mems = true) :
    OutcomeWf (execTimeMessageReceive t device mstate s) := by
  unfold execTimeMessageReceive
  simp only []
  split <;> simp [hw]

theorem execTimeMessageTimeout_wf (s : State) (hw : memsWf s.mems = true) :
    OutcomeWf (execTimeMessageTimeout s) := by
  unfold execTimeMessageTimeout
  split <;> simp [hw]

theorem execHeartbeatSend_wf (s : State) (hw : memsWf s.mems = true) :
    OutcomeWf (execHeartbeatSend s) := by
  unfold execHeartbeatSend
  (repeat' split) <;> simp [hw]

theorem execHeartbeatTimeout_wf (h : Fin 15) (s : State) (hw : memsWf s.mems = true) :
    OutcomeWf (execHeartbeatTimeout h s) := by
  unfold execHeartbeatTimeout
  (repeat' split) <;> simp [hw]

theorem execLaneLockLoss_wf (t : Nat) (h : Fin 15) (lane : Fin 12) (headers groups : Nat) (s : State)
    (hw : memsWf s.mems = true) :
    OutcomeWf (execLaneLockLoss t h lane headers groups s) := by
  unfold execLaneLockLoss
  simp only []
  (repeat' split) <;> simp [hw]

theorem execTriggerWord_wf (t : Nat) (code : Fin 16) (parityOk : Bool) (s : State) (hw : memsWf s.mems = true) :
    OutcomeWf (execTriggerWord t code parityOk s) := by
  unfold execTriggerWord
  simp only []
  (repeat' split) <;> simp [hw]

theorem execTriggerWordAction_wf (s : State) (hw : memsWf s.mems = true) :
    OutcomeWf (execTriggerWordAction s) := by
  unfold execTriggerWordAction
  (repeat' split) <;> simp [hw]

theorem execTimeMarkSend_wf (s : State) (hw : memsWf s.mems = true) :
    OutcomeWf (execTimeMarkSend s) := by
  unfold execTimeMarkSend
  split <;> simp [hw]

theorem execCut_wf (t : Nat) (received : Bool) (s : State) (hw : memsWf s.mems = true) :
    OutcomeWf (execCut t received s) := by
  unfold execCut
  simp only []
  (repeat' split) <;> simp [hw]

theorem execCascadeMessage_wf (t src dst kind : Nat) (crcOk : Bool) (body : List Byte) (s : State) (hw : memsWf s.mems = true) :
    OutcomeWf (execCascadeMessage t src dst kind crcOk body s) := by
  unfold execCascadeMessage
  simp only []
  (repeat' split) <;> simp [hw]

theorem execWorkerEventRelay_wf (t : Nat) (pos : Fin 16) (bytes : List Byte) (s : State) (hw : memsWf s.mems = true) :
    OutcomeWf (execWorkerEventRelay t pos bytes s) := by
  unfold execWorkerEventRelay
  simp only []
  split <;> simp [hw]

theorem setChainBody_sound (r : Running) (s : State) :
    (setChainBody r s).Sound s := by
  unfold setChainBody
  simp only []
  split <;> simp

theorem lclGetStatusBody_sound (r : Running) (s : State) :
    (lclGetStatusBody r s).Sound s := by
  simp [lclGetStatusBody]

theorem retrainBody_sound (r : Running) (s : State) :
    (retrainBody r s).Sound s := by
  unfold retrainBody
  simp only []
  split <;> simp

theorem getLinkBody_sound (r : Running) (s : State) :
    (getLinkBody r s).Sound s := by
  unfold getLinkBody
  simp only []
  split <;> simp

theorem lastRelayBody_sound (r : Running) (s : State) :
    (lastRelayBody r s).Sound s := by
  unfold lastRelayBody
  simp only []
  (repeat' split) <;> simp

/-! ### Fabric and memory: effects -/

theorem execUnitHandshakeStall_wf (t owner : Nat) (s : State) (hw : memsWf s.mems = true) :
    OutcomeWf (execUnitHandshakeStall t owner s) := by
  simp [execUnitHandshakeStall, hw]

theorem execUnitParityFault_wf (t owner : Nat) (s : State) (hw : memsWf s.mems = true) :
    OutcomeWf (execUnitParityFault t owner s) := by
  simp [execUnitParityFault, hw]

theorem execMaintenanceRingPoll_wf (t : Nat) (missed : List Nat) (s : State) (hw : memsWf s.mems = true) :
    OutcomeWf (execMaintenanceRingPoll t missed s) := by
  simp [execMaintenanceRingPoll, hw]

theorem execUnitReturnToService_wf (t owner : Nat) (s : State) (hw : memsWf s.mems = true) :
    OutcomeWf (execUnitReturnToService t owner s) := by
  unfold execUnitReturnToService
  simp only []
  split <;> simp [hw]

theorem execLeaseRelease_wf (t owner : Nat) (r : Resource) (s : State) (hw : memsWf s.mems = true) :
    OutcomeWf (execLeaseRelease t owner r s) := by
  simp [execLeaseRelease, hw]

theorem execFabricLinkFailure_wf (t : Nat) (axis : Fin 2) (index : Fin 6) (link : Fin 5) (s : State) (hw : memsWf s.mems = true) :
    OutcomeWf (execFabricLinkFailure t axis index link s) := by
  unfold execFabricLinkFailure
  simp only []
  (repeat' split) <;> simp [hw]

theorem execFabricFaultReset_wf (s : State) (hw : memsWf s.mems = true) :
    OutcomeWf (execFabricFaultReset s) := by
  unfold execFabricFaultReset
  split <;> simp [hw]

theorem execFabricSpeedMonitor_wf (t : Nat) (readings : List Nat) (s : State) (hw : memsWf s.mems = true) :
    OutcomeWf (execFabricSpeedMonitor t readings s) := by
  unfold execFabricSpeedMonitor
  split <;> simp [hw]

theorem execMemoryScrub_wf (t : Nat) (pool : Fin 10) (addr : Nat) (outcome : Option Bool) (rec : Option NvRecord)
    (s : State) (hw : memsWf s.mems = true) :
    OutcomeWf (execMemoryScrub t pool addr outcome rec s) := by
  unfold execMemoryScrub
  split <;> simp [hw]

theorem execWatchdogRestart_wf (t : Nat) (s : State) (hw : memsWf s.mems = true) :
    OutcomeWf (execWatchdogRestart t s) := by
  unfold execWatchdogRestart
  simp only []
  split <;> simp [hw]

theorem execWatchdogExpiry_wf (t : Nat) (s : State) (hw : memsWf s.mems = true) :
    OutcomeWf (execWatchdogExpiry t s) := by
  unfold execWatchdogExpiry
  simp only []
  split <;> simp [hw]

theorem execWatchdogReset_wf (s : State) (hw : memsWf s.mems = true) :
    OutcomeWf (execWatchdogReset s) := by
  unfold execWatchdogReset
  split <;> simp [hw]

theorem fabricGetStatusBody_sound (r : Running) (s : State) :
    (fabricGetStatusBody r s).Sound s := by
  simp [fabricGetStatusBody]

theorem memGetEccBody_sound (r : Running) (s : State) :
    (memGetEccBody r s).Sound s := by
  simp [memGetEccBody]

theorem leaseGetBody_sound (r : Running) (s : State) :
    (leaseGetBody r s).Sound s := by
  simp [leaseGetBody]

@[simp] theorem procStatus_mems (s : State) (n p : Nat) : (procStatus s n p).2.mems = s.mems := by
  induction n generalizing s p with
  | zero => rfl
  | succ n ih => exact (ih _ _).trans (State.draw_mems s)

theorem procGetStatusBody_sound (r : Running) (s : State) : (procGetStatusBody r s).Sound s := by
  simp [procGetStatusBody]

/-! ### Fronthaul and time: effects -/

theorem execFhLinkChange_wf (t : Nat) (p : Fin 4) (up : Bool) (cause : Fin 3) (s : State) (hw : memsWf s.mems = true) :
    OutcomeWf (execFhLinkChange t p up cause s) := by
  unfold execFhLinkChange
  simp only []
  (repeat' split) <;> simp [hw]

theorem execFhFrameReceive_wf (t : Nat) (p : Fin 4) (fcsOk : Bool) (length dest etherType : Nat) (fragment : Bool)
    (fec : Fin 3) (s : State) (hw : memsWf s.mems = true) :
    OutcomeWf (execFhFrameReceive t p fcsOk length dest etherType fragment fec s) := by
  unfold execFhFrameReceive
  simp only []
  (repeat' split) <;> simp [hw]

theorem execRtcTransmitRequest_wf (t : Nat) (p : Fin 4) (rtcId seqId : Nat) (body : List Byte) (s : State)
    (hw : memsWf s.mems = true) :
    OutcomeWf (execRtcTransmitRequest t p rtcId seqId body s) := by
  simp [execRtcTransmitRequest, hw]

theorem execRtcBeamSwap_wf (t : Nat) (p : Fin 4) (rtcId seqId : Nat) (body : List Byte) (s : State) (hw : memsWf s.mems = true) :
    OutcomeWf (execRtcBeamSwap t p rtcId seqId body s) := by
  simp [execRtcBeamSwap, hw]

theorem execRtcTransmitCancel_wf (t : Nat) (p : Fin 4) (rtcId seqId : Nat) (body : List Byte) (s : State)
    (hw : memsWf s.mems = true) :
    OutcomeWf (execRtcTransmitCancel t p rtcId seqId body s) := by
  simp [execRtcTransmitCancel, hw]

theorem execEcpriUnsupported_wf (t : Nat) (p : Fin 4) (typ : Nat) (s : State) (hw : memsWf s.mems = true) :
    OutcomeWf (execEcpriUnsupported t p typ s) := by
  unfold execEcpriUnsupported
  simp only []
  split <;> simp [hw]

theorem execEcpriDelayRequest_wf (t : Nat) (p : Fin 4) (action id : Nat) (s : State) (hw : memsWf s.mems = true) :
    OutcomeWf (execEcpriDelayRequest t p action id s) := by
  unfold execEcpriDelayRequest
  simp only []
  (repeat' split) <;> simp [hw]

theorem execEcpriRemoteRequest_wf (t : Nat) (p : Fin 4) (id : Nat) (s : State) (hw : memsWf s.mems = true) :
    OutcomeWf (execEcpriRemoteRequest t p id s) := by
  unfold execEcpriRemoteRequest
  simp only []
  (repeat' split) <;> simp [hw]

theorem execEcpriSyncRequest_wf (t : Nat) (p : Fin 4) (s : State) (hw : memsWf s.mems = true) :
    OutcomeWf (execEcpriSyncRequest t p s) := by
  unfold execEcpriSyncRequest
  simp only []
  split
  · simpa using hw
  · rw [outcomeWf_next, State.enqueue_mems, State.mems_foldl _ (fun _ _ => by simp)]
    simpa using hw

theorem execEcpriFaultAck_wf (t : Nat) (_p : Fin 4) (s : State) (hw : memsWf s.mems = true) :
    OutcomeWf (execEcpriFaultAck t _p s) := by
  simp [execEcpriFaultAck, hw]

theorem execEcpriFaultCease_wf (p : Fin 4) (s : State) (hw : memsWf s.mems = true) :
    OutcomeWf (execEcpriFaultCease p s) := by
  unfold execEcpriFaultCease
  split <;> simp [hw]

theorem execRecordFrameSend_wf (s : State) (hw : memsWf s.mems = true) :
    OutcomeWf (execRecordFrameSend s) := by
  unfold execRecordFrameSend
  split <;> simp [hw]

theorem execOutcomeSend_wf (t : Nat) (s : State) (hw : memsWf s.mems = true) :
    OutcomeWf (execOutcomeSend t s) := by
  unfold execOutcomeSend
  simp only []
  (repeat' split) <;> simp [hw]

theorem execEgressFrameEnd_wf (p : Fin 4) (s : State) (hw : memsWf s.mems = true) :
    OutcomeWf (execEgressFrameEnd p s) := by
  unfold execEgressFrameEnd
  split <;> simp [hw]

theorem execIqFrameComplete_wf (t : Nat) (slot : Fin 32) (count stamp gainEpoch weightEpoch : Nat) (samples : List Cplx)
    (s : State) (hw : memsWf s.mems = true) :
    OutcomeWf (execIqFrameComplete t slot count stamp gainEpoch weightEpoch samples s) := by
  unfold execIqFrameComplete
  simp only []
  (repeat' split) <;> simp [hw]

theorem execIqFrameLaunch_wf (p : Fin 4) (s : State) (hw : memsWf s.mems = true) :
    OutcomeWf (execIqFrameLaunch p s) := by
  unfold execIqFrameLaunch
  simp only []
  split <;> simp [hw]

theorem execPtpSync_wf (t : Nat) (p : Fin 4) (id sport seqId : Nat) (twoStep : Bool) (originPs correctionPs : Int)
    (s : State) (hw : memsWf s.mems = true) :
    OutcomeWf (execPtpSync t p id sport seqId twoStep originPs correctionPs s) := by
  unfold execPtpSync
  simp only []
  (repeat' split) <;> simp [hw]

theorem execPtpFollowUp_wf (t : Nat) (p : Fin 4) (id sport seqId : Nat) (originPs correctionPs : Int) (s : State)
    (hw : memsWf s.mems = true) :
    OutcomeWf (execPtpFollowUp t p id sport seqId originPs correctionPs s) := by
  unfold execPtpFollowUp
  simp only []
  (repeat' split) <;> simp [hw]

theorem execPtpAnnounce_wf (t : Nat) (p : Fin 4) (x : Announce) (s : State) (hw : memsWf s.mems = true) :
    OutcomeWf (execPtpAnnounce t p x s) := by
  unfold execPtpAnnounce
  simp only []
  (repeat' split) <;> simp [hw]

theorem execPtpDelayResp_wf (t : Nat) (p : Fin 4) (id sport seqId : Nat) (receivePs correctionPs : Int) (s : State)
    (hw : memsWf s.mems = true) :
    OutcomeWf (execPtpDelayResp t p id sport seqId receivePs correctionPs s) := by
  unfold execPtpDelayResp
  simp only []
  (repeat' split) <;> simp [hw]

theorem execPtpDelayReqSend_wf (s : State) (hw : memsWf s.mems = true) :
    OutcomeWf (execPtpDelayReqSend s) := by
  unfold execPtpDelayReqSend
  (repeat' split) <;> simp [hw]

theorem execPtpMasterLost_wf (s : State) (hw : memsWf s.mems = true) :
    OutcomeWf (execPtpMasterLost s) := by
  unfold execPtpMasterLost
  split <;> simp [hw]

theorem execHoldoverLimitExpiry_wf (s : State) (hw : memsWf s.mems = true) :
    OutcomeWf (execHoldoverLimitExpiry s) := by
  unfold execHoldoverLimitExpiry
  split <;> simp [hw]

theorem setPortBody_sound (r : Running) (s : State) :
    (setPortBody r s).Sound s := by
  unfold setPortBody
  simp only []
  split <;> simp

theorem setStreamBody_sound (r : Running) (s : State) :
    (setStreamBody r s).Sound s := by
  unfold setStreamBody
  simp only []
  split <;> simp

theorem setRecordsBody_sound (r : Running) (s : State) :
    (setRecordsBody r s).Sound s := by
  unfold setRecordsBody
  simp only []
  split <;> simp

theorem setPtpBody_sound (r : Running) (s : State) :
    (setPtpBody r s).Sound s := by
  unfold setPtpBody
  simp only []
  split <;> simp

theorem fhGetTimeBody_sound (r : Running) (s : State) :
    (fhGetTimeBody r s).Sound s := by
  simp [fhGetTimeBody]

theorem getPortStatusBody_sound (r : Running) (s : State) :
    (getPortStatusBody r s).Sound s := by
  simp [getPortStatusBody]

/-! ### DMA: effects -/

theorem execDmaStart_wf (t : Nat) (c : Fin 8) (v : Word) (read : List Byte) (s : State) (hw : memsWf s.mems = true) :
    OutcomeWf (execDmaStart t c v read s) := by
  unfold execDmaStart
  simp only []
  split <;> simp [hw]

theorem execDmaStop_wf (t : Nat) (c : Fin 8) (v : Word) (s : State) (hw : memsWf s.mems = true) :
    OutcomeWf (execDmaStop t c v s) := by
  unfold execDmaStop
  simp only []
  split <;> simp [hw]

theorem execDmaTransferDone_wf (t : Nat) (c : Fin 8) (read : List Byte) (s : State) (hw : memsWf s.mems = true) :
    OutcomeWf (execDmaTransferDone t c read s) := by
  unfold execDmaTransferDone
  simp only []
  (repeat' split) <;> simp [hw]

theorem execDmaHalfNotify_wf (t : Nat) (c : Fin 8) (read : List Byte) (s : State) (hw : memsWf s.mems = true) :
    OutcomeWf (execDmaHalfNotify t c read s) := by
  unfold execDmaHalfNotify
  simp only []
  (repeat' split) <;> simp [hw]

theorem execDmaDescriptorDone_wf (t : Nat) (c : Fin 8) (read nextDesc : List Byte) (s : State) (hw : memsWf s.mems = true) :
    OutcomeWf (execDmaDescriptorDone t c read nextDesc s) := by
  have h0 : memsWf (s.advance t).mems = true := by simpa using hw
  unfold execDmaDescriptorDone
  extract_lets s0 ch
  split
  · exact h0
  · split
    · exact h0
    · split
      · simp [s0, hw]
      · extract_lets s1 s2 _ s3 s4
        have h4 : memsWf s4.mems = true := by simp [s4, s3, s2, s1, s0, hw]
        split
        · simpa using h4
        · split
          · simpa using h4
          · simp [h4]

theorem execDmaTailRecheck_wf (t : Nat) (c : Fin 8) (tail nextDesc : List Byte) (s : State) (hw : memsWf s.mems = true) :
    OutcomeWf (execDmaTailRecheck t c tail nextDesc s) := by
  unfold execDmaTailRecheck
  simp only []
  (repeat' split) <;> simp [hw]

theorem execDmaError_wf (t : Nat) (c : Fin 8) (cause written addr : Nat) (read : List Byte) (s : State)
    (hw : memsWf s.mems = true) :
    OutcomeWf (execDmaError t c cause written addr read s) := by
  unfold execDmaError
  simp only []
  (repeat' split) <;> simp [hw]

/-! ### Host interface: effects -/

theorem execMbxDoorbellRing_wf (t : Nat) (ringBits : BitVec 4) (s : State) (hw : memsWf s.mems = true) :
    OutcomeWf (execMbxDoorbellRing t ringBits s) := by
  unfold execMbxDoorbellRing
  simp only []
  split
  · rw [outcomeWf_next, State.mems_foldl _ (fun _ _ => by simp)]
    simpa using hw
  · simpa using hw

theorem execMbxResponseRelease_wf (t : Nat) (doneBits : BitVec 4) (s : State) (hw : memsWf s.mems = true) :
    OutcomeWf (execMbxResponseRelease t doneBits s) := by
  unfold execMbxResponseRelease
  simp only []
  split
  · rw [outcomeWf_next, State.mems_foldl _ (fun _ _ => by simp)]
    simpa using hw
  · simpa using hw

theorem execMailboxScan_wf (t : Nat) (s : State) (hw : memsWf s.mems = true) :
    OutcomeWf (execMailboxScan t s) := by
  simp [execMailboxScan, hw]

theorem execRegisterWrite_wf (t off : Nat) (data : List (Option Byte)) (s : State) (hw : memsWf s.mems = true) :
    OutcomeWf (execRegisterWrite t off data s) := by
  have h0 : memsWf (s.advance t).mems = true := by simpa using hw
  unfold execRegisterWrite
  extract_lets s0
  split
  · exact h0
  · split
    · rw [outcomeWf_next, State.writeArea_mems]
      exact h0
    · split
      · exact h0
      · exact memsWf_foldl (fun a p ha => State.writeReg_mems a p.1 p.2 ha) _ h0

theorem execHostReset_wf (t : Nat) (v : Word) (s : State) (hw : memsWf s.mems = true) :
    OutcomeWf (execHostReset t v s) := by
  unfold execHostReset
  simp only []
  split <;> simp [hw]

theorem execEvqEnable_wf (t : Nat) (v : Word) (s : State) (hw : memsWf s.mems = true) :
    OutcomeWf (execEvqEnable t v s) := by
  unfold execEvqEnable
  simp only []
  split <;> simp [hw]

theorem execEvqDisable_wf (t : Nat) (v : Word) (s : State) (hw : memsWf s.mems = true) :
    OutcomeWf (execEvqDisable t v s) := by
  unfold execEvqDisable
  simp only []
  split <;> simp [hw]

theorem execEvqConsWrite_wf (t : Nat) (v : Word) (s : State) (hw : memsWf s.mems = true) :
    OutcomeWf (execEvqConsWrite t v s) := by
  unfold execEvqConsWrite
  simp only []
  split <;> simp [hw]

theorem execMsixVectorUnmask_wf (t : Nat) (v : Fin 32) (s : State) (hw : memsWf s.mems = true) :
    OutcomeWf (execMsixVectorUnmask t v s) := by
  unfold execMsixVectorUnmask
  simp only []
  split <;> simp [hw]

theorem execEventRingWrite_wf (t : Nat) (stall : Bool) (s : State) (hw : memsWf s.mems = true) :
    OutcomeWf (execEventRingWrite t stall s) := by
  unfold execEventRingWrite
  split <;> simp [hw]

theorem execEventNotifyTimer_wf (s : State) (hw : memsWf s.mems = true) :
    OutcomeWf (execEventNotifyTimer s) := by
  unfold execEventNotifyTimer
  split <;> simp [hw]

theorem execPcieCreditReturn_wf (t : Nat) (s : State) (hw : memsWf s.mems = true) :
    OutcomeWf (execPcieCreditReturn t s) := by
  simp [execPcieCreditReturn, hw]

theorem execPcieLinkChange_wf (t : Nat) (up : Bool) (s : State) (hw : memsWf s.mems = true) :
    OutcomeWf (execPcieLinkChange t up s) := by
  unfold execPcieLinkChange
  simp only []
  (repeat' split) <;> simp [hw]

theorem execPcieD3hotChange_wf (t : Nat) (d3hot : Bool) (s : State) (hw : memsWf s.mems = true) :
    OutcomeWf (execPcieD3hotChange t d3hot s) := by
  unfold execPcieD3hotChange
  simp only []
  (repeat' split) <;> simp [hw]

theorem execPerst_wf (t : Nat) (s : State) (hw : memsWf s.mems = true) :
    OutcomeWf (execPerst t s) := by
  simp [execPerst, hw]

theorem execFunctionLevelReset_wf (t : Nat) (s : State) (hw : memsWf s.mems = true) :
    OutcomeWf (execFunctionLevelReset t s) := by
  simp [execFunctionLevelReset, hw]

theorem State.bar2Bytes_mems (s : State) (off : Nat) (l : List (Option Byte)) (h : memsWf s.mems = true) :
    memsWf (s.bar2Bytes off l).mems = true := by
  induction l generalizing s off with
  | nil => exact h
  | cons v r ih =>
    cases v with
    | none => exact ih s _ h
    | some v =>
      unfold State.bar2Bytes
      refine ih _ _ ?_
      split
      · exact memsWf_memByte h _ v
      · exact h

theorem execBar2Write_wf (t off : Nat) (data : List (Option Byte)) (s : State) (hw : memsWf s.mems = true) :
    OutcomeWf (execBar2Write t off data s) := by
  have h0 : memsWf (s.advance t).mems = true := by simpa using hw
  unfold execBar2Write
  simp only []
  split
  · exact h0
  · split
    · exact h0
    · exact State.bar2Bytes_mems _ _ _ h0

/-! ### Relays: effects -/

theorem execRelayResponse_wf (t : Nat) (mbx : Fin 4) (tag pos status : Nat) (payload : List Byte) (s : State)
    (hw : memsWf s.mems = true) :
    OutcomeWf (execRelayResponse t mbx tag pos status payload s) := by
  unfold execRelayResponse
  simp only []
  (repeat' split) <;> simp [hw]

theorem execRelayResend_wf (mbx : Fin 4) (s : State) (hw : memsWf s.mems = true) :
    OutcomeWf (execRelayResend mbx s) := by
  unfold execRelayResend
  (repeat' split) <;> simp [hw]

theorem execRelayTimeout_wf (mbx : Fin 4) (s : State) (hw : memsWf s.mems = true) :
    OutcomeWf (execRelayTimeout mbx s) := by
  unfold execRelayTimeout
  split <;> simp [hw]

@[simp] theorem accept_mems (mbx : Fin 4) (reached : Nat) (s : State) (c : Cmd) :
    (execWorkerCommandReceive.accept mbx reached s c).mems = s.mems := by
  unfold execWorkerCommandReceive.accept
  simp

theorem execWorkerCommandReceive_wf (t : Nat) (mbx : Fin 4) (bytes : List Byte) (reached : Nat) (s : State)
    (hw : memsWf s.mems = true) : OutcomeWf (execWorkerCommandReceive t mbx bytes reached s) := by
  unfold execWorkerCommandReceive
  simp only []
  split
  · simpa using hw
  · split
    · split
      · split <;> simpa using hw
      · simpa using hw
    · simpa using hw

/-! ### Power: effects -/

theorem execVddAonPowerOn_wf (t : Nat) (waddr : BitVec 2) (s : State) (hw : memsWf s.mems = true) :
    OutcomeWf (execVddAonPowerOn t waddr s) := by
  unfold execVddAonPowerOn
  simp only []
  split <;> simp [hw]

theorem execVddAonRemoved_wf (t : Nat) (s : State) (hw : memsWf s.mems = true) :
    OutcomeWf (execVddAonRemoved t s) := by
  simp [execVddAonRemoved, hw]

theorem execPwrGoodRise_wf (t : Nat) (s0 : State) (hw : memsWf s0.mems = true) : OutcomeWf (execPwrGoodRise t s0) := by
  unfold execPwrGoodRise
  extract_lets s
  have hs : memsWf s.mems = true := by simpa [s] using hw
  split
  · exact hs
  · split
    · exact hs
    · split
      · simp [hw]
      · exact hs

theorem execPwrGoodTimeout_wf (s : State) (hw : memsWf s.mems = true) :
    OutcomeWf (execPwrGoodTimeout s) := by
  unfold execPwrGoodTimeout
  split <;> simp [hw]

theorem execPwrGoodFall_wf (t : Nat) (s : State) (hw : memsWf s.mems = true) :
    OutcomeWf (execPwrGoodFall t s) := by
  unfold execPwrGoodFall
  simp only []
  (repeat' split) <;> simp [hw]

theorem execPwrEnRestart_wf (s : State) (hw : memsWf s.mems = true) :
    OutcomeWf (execPwrEnRestart s) := by
  unfold execPwrEnRestart
  (repeat' split) <;> simp [hw]

theorem execResetLAssert_wf (t : Nat) (s : State) (hw : memsWf s.mems = true) :
    OutcomeWf (execResetLAssert t s) := by
  unfold execResetLAssert
  simp only []
  (repeat' split) <;> simp [hw]

theorem execResetLRelease_wf (t : Nat) (role bootsrc : BitVec 2) (s : State) (hw : memsWf s.mems = true) :
    OutcomeWf (execResetLRelease t role bootsrc s) := by
  unfold execResetLRelease
  simp only []
  (repeat' split) <;> simp [hw]

theorem execI2cAddressMatch_wf (t : Nat) (s : State) (hw : memsWf s.mems = true) :
    OutcomeWf (execI2cAddressMatch t s) := by
  simp [execI2cAddressMatch, hw]

theorem execWakeLLow_wf (t : Nat) (low : Bool) (s : State) (hw : memsWf s.mems = true) :
    OutcomeWf (execWakeLLow t low s) := by
  unfold execWakeLLow
  split <;> simp [hw]

theorem execSleepTimerExpiry_wf (s : State) (hw : memsWf s.mems = true) :
    OutcomeWf (execSleepTimerExpiry s) := by
  unfold execSleepTimerExpiry
  split <;> simp [hw]

theorem sleepBody_mems (r : Running) (s : State) : (sleepBody r s).state.mems = s.mems := by
  unfold sleepBody
  simp only []
  split
  · rfl
  · split
    · simp
    · (repeat' split) <;> simp [CmdEffect.ok]

theorem execSleepRequest_wf (t : Nat) (s : State) (hw : memsWf s.mems = true) :
    OutcomeWf (execSleepRequest t s) := by
  unfold execSleepRequest
  simp only []
  (repeat' split) <;> simp [hw]

theorem execSleepPwrEnDrop_wf (s : State) (hw : memsWf s.mems = true) :
    OutcomeWf (execSleepPwrEnDrop s) := by
  unfold execSleepPwrEnDrop
  split <;> simp [hw]

theorem execSleepReadyReport_wf (t : Nat) (pos : Fin 16) (s : State) (hw : memsWf s.mems = true) :
    OutcomeWf (execSleepReadyReport t pos s) := by
  unfold execSleepReadyReport
  simp only []
  (repeat' split) <;> simp [hw]

theorem execSleepReportTimeout_wf (s : State) (hw : memsWf s.mems = true) :
    OutcomeWf (execSleepReportTimeout s) := by
  unfold execSleepReportTimeout
  simp only []
  (repeat' split) <;> simp [hw]

theorem execSleepGo_wf (t : Nat) (s : State) (hw : memsWf s.mems = true) :
    OutcomeWf (execSleepGo t s) := by
  unfold execSleepGo
  simp only []
  split <;> simp [hw]

theorem execSleepAbandon_wf (t : Nat) (s : State) (hw : memsWf s.mems = true) :
    OutcomeWf (execSleepAbandon t s) := by
  unfold execSleepAbandon
  simp only []
  split <;> simp [hw]

theorem execWorkerSleepTimeout_wf (s : State) (hw : memsWf s.mems = true) :
    OutcomeWf (execWorkerSleepTimeout s) := by
  unfold execWorkerSleepTimeout
  split <;> simp [hw]

theorem execThermalSample_wf (tj : Int) (ok : Bool) (s : State) (hw : memsWf s.mems = true) :
    OutcomeWf (execThermalSample tj ok s) := by
  unfold execThermalSample
  split
  · exact hw
  · extract_lets s0 good was h tripped s1 s2
    have h2 : s2.mems = s.mems := by
      refine (State.mems_foldl _ (fun _ _ => by simp) _ _).trans ?_
      simp [s1, s0]
    split
    · simpa [s0] using hw
    · split
      · simpa [h2] using hw
      · rwa [outcomeWf_next, h2]

theorem execTransmitTrip_wf (t : Nat) (s : State) (hw : memsWf s.mems = true) :
    OutcomeWf (execTransmitTrip t s) := by
  unfold execTransmitTrip
  simp only []
  split <;> simp [hw]

theorem execShutdownPowerOff_wf (s : State) (hw : memsWf s.mems = true) :
    OutcomeWf (execShutdownPowerOff s) := by
  unfold execShutdownPowerOff
  split <;> simp [hw]

theorem execThermalHoldoffEnd_wf (s : State) (hw : memsWf s.mems = true) :
    OutcomeWf (execThermalHoldoffEnd s) := by
  unfold execThermalHoldoffEnd
  simp only []
  (repeat' split) <;> simp [hw]

theorem execVcoreRecommend_wf (t : Nat) (s : State) (hw : memsWf s.mems = true) :
    OutcomeWf (execVcoreRecommend t s) := by
  unfold execVcoreRecommend
  simp only []
  (repeat' split) <;> simp [hw]

theorem pwrStatusBody_sound (r : Running) (s : State) :
    (pwrStatusBody r s).Sound s := by
  simp [pwrStatusBody]

theorem getWakeBody_sound (r : Running) (s : State) :
    (getWakeBody r s).Sound s := by
  unfold getWakeBody
  split <;> simp

/-! ### Spares: effects -/

theorem execSpareFailureDeclared_wf (t : Nat) (kind : Fin 9) (unit : Nat) (s : State) (hw : memsWf s.mems = true) :
    OutcomeWf (execSpareFailureDeclared t kind unit s) := by
  unfold execSpareFailureDeclared
  simp only []
  (repeat' split) <;> simp [hw]

theorem execSpareWindowOpen_wf (s : State) (hw : memsWf s.mems = true) :
    OutcomeWf (execSpareWindowOpen s) := by
  unfold execSpareWindowOpen
  (repeat' split) <;> simp [hw]

theorem execMaintenanceWindowEnd_wf (s : State) (hw : memsWf s.mems = true) :
    OutcomeWf (execMaintenanceWindowEnd s) := by
  unfold execMaintenanceWindowEnd
  (repeat' split) <;> simp [hw]

theorem execSpareReplacementDone_wf (t interruptUs : Nat) (s : State) (hw : memsWf s.mems = true) :
    OutcomeWf (execSpareReplacementDone t interruptUs s) := by
  unfold execSpareReplacementDone
  simp only []
  (repeat' split) <;> simp [hw]

theorem execEngineDrainTimeout_wf (s : State) (hw : memsWf s.mems = true) :
    OutcomeWf (execEngineDrainTimeout s) := by
  unfold execEngineDrainTimeout
  simp only []
  (repeat' split) <;> simp [hw]

theorem execSpareWear_wf (t : Nat) (indicator : Fin 5) (kind value : Nat) (s : State) (hw : memsWf s.mems = true) :
    OutcomeWf (execSpareWear t indicator kind value s) := by
  unfold execSpareWear
  simp only []
  split <;> simp [hw]

theorem execServiceRecordUpdate_wf (s : State) (hw : memsWf s.mems = true) :
    OutcomeWf (execServiceRecordUpdate s) := by
  unfold execServiceRecordUpdate
  split <;> simp [hw]

theorem spareStatusBody_sound (r : Running) (s : State) :
    (spareStatusBody r s).Sound s := by
  simp [spareStatusBody]

theorem setWindowBody_sound (r : Running) (s : State) :
    (setWindowBody r s).Sound s := by
  unfold setWindowBody
  simp only []
  (repeat' split) <;> simp

/-! ### Shared operations: effects -/

/-- An internal swap leaves the host interface. -/
@[simp] theorem State.internalSwapAt_host (s : State) (cause t : Nat) : (s.internalSwapAt cause t).host = s.host := by
  unfold State.internalSwapAt
  simp only []
  split
  · rfl
  · split
    · split <;> rfl
    · rfl

@[simp] theorem State.renormLater_host (s : State) (m : Mask64) : (s.renormLater m).host = s.host := by
  simp [State.renormLater, apply_ite State.host]

@[simp] theorem State.writeServiceRecord_host (s : State) : s.writeServiceRecord.host = s.host := by
  simp [State.writeServiceRecord, apply_ite State.host]

@[simp] theorem State.pathRetiredEvent_host (s : State) (p dir st cause : Nat) :
    (s.pathRetiredEvent p dir st cause).host = s.host := by
  simp [State.pathRetiredEvent]

/-- A retirement of paths leaves the host interface. -/
@[simp] theorem State.retirePaths_host (s : State) (m : Mask64) (dir cause : Nat) :
    (s.retirePaths m dir cause).host = s.host := by
  unfold State.retirePaths
  extract_lets rx tx _ noted _ zeroed spent _ _ masked stored
  split
  · rfl
  · have hspent : spent.host = s.host := by simp [spent, zeroed, noted, apply_ite State.host, State.zeroSlices,
    State.discardCaptures]
    have hmasked : masked.host = spent.host := by simp [masked, apply_ite State.host]
    rw [foldl_keeps State.host _ (fun _ _ => by simp), State.writeServiceRecord_host, hmasked, hspent]

/-! ### Spares: effects -/

/-- A restored path leaves the host interface. -/
@[simp] theorem State.restorePaths_host (s : State) (m : Mask64) (dir : Nat) : (s.restorePaths m dir).host = s.host := by
  unfold State.restorePaths
  rw [foldl_keeps State.host _ (fun _ _ => by simp)]

theorem retireBody_sound (r : Running) (s : State) : (retireBody r s).Sound s := by
  unfold retireBody
  simp only []
  split
  · simp
  · rw [CmdEffect.sound_later]
    exact ⟨fun h => by simpa using h, State.retirePaths_host s _ _ _⟩

theorem restoreBody_sound (r : Running) (s : State) : (restoreBody r s).Sound s := by
  unfold restoreBody
  simp only []
  split
  · simp
  · rw [CmdEffect.sound_later]
    exact ⟨fun h => by simpa using h, State.restorePaths_host s _ _⟩

/-! ### System commands: effects -/

theorem echoBody_sound (r : Running) (s : State) :
    (echoBody r s).Sound s := by
  simp [echoBody]

theorem getInfoBody_sound (r : Running) (s : State) :
    (getInfoBody r s).Sound s := by
  simp [getInfoBody]

theorem resetBody_sound (r : Running) (s : State) :
    (resetBody r s).Sound s := by
  unfold resetBody
  split <;> simp

theorem execSysResetDelayExpiry_wf (s : State) (hw : memsWf s.mems = true) :
    OutcomeWf (execSysResetDelayExpiry s) := by
  unfold execSysResetDelayExpiry
  (repeat' split) <;> simp [hw]

theorem eventFilterBody_sound (r : Running) (s : State) :
    (eventFilterBody r s).Sound s := by
  unfold eventFilterBody
  simp only []
  split <;> simp

theorem nvGetInfoBody_sound (r : Running) (s : State) :
    (nvGetInfoBody r s).Sound s := by
  simp [nvGetInfoBody]

theorem nvWriteBody_sound (r : Running) (s : State) : (nvWriteBody r s).Sound s := by
  unfold nvWriteBody
  split
  · exact CmdEffect.sound_status s _
  · simp [State.startHostOp]

theorem fwInstallBody_sound (r : Running) (s : State) : (fwInstallBody r s).Sound s := by
  unfold fwInstallBody
  split
  · exact CmdEffect.sound_status s _
  · simp [State.fwChanged, State.startHostOp]

theorem fwActivateBody_sound (r : Running) (s : State) :
    (fwActivateBody r s).Sound s := by
  unfold fwActivateBody
  split <;> simp

theorem execFwTrialReset_wf (s : State) (hw : memsWf s.mems = true) :
    OutcomeWf (execFwTrialReset s) := by
  unfold execFwTrialReset
  split <;> simp [hw]

theorem fwConfirmBody_sound (r : Running) (s : State) : (fwConfirmBody r s).Sound s := by
  unfold fwConfirmBody
  split
  · exact CmdEffect.sound_status s _
  · split
    · simp
    · simp [State.fwChanged, State.startHostOp, State.markBank]

theorem execDeferredCommandComplete_wf (t : Nat) (mbx : Fin 4) (cascade : Bool) (out : HostOpEnd) (s : State)
    (hw : memsWf s.mems = true) :
    OutcomeWf (execDeferredCommandComplete t mbx cascade out s) := by
  unfold execDeferredCommandComplete
  simp only []
  (repeat' split) <;> simp [hw]

theorem execBarrierRelease_wf (t : Nat) (s : State) (hw : memsWf s.mems = true) :
    OutcomeWf (execBarrierRelease t s) := by
  unfold execBarrierRelease
  simp only []
  (repeat' split) <;> simp [hw]

/-! ### Boot and provisioning: effects -/

theorem execBootStageEnd_wf (t : Nat) (x : BootFacts) (s : State) (hw : memsWf s.mems = true) :
    OutcomeWf (execBootStageEnd t x s) := by
  unfold execBootStageEnd
  simp only []
  (repeat' split) <;> simp [hw]

theorem bootLoadBody_mems (r : Running) (s : State) : (bootLoadBody r s).state.mems = s.mems := by
  unfold bootLoadBody
  simp only []
  (repeat' split) <;> simp [CmdEffect.ok, CmdEffect.status]

theorem execCascadeImageReceive_wf (t : Nat) (image : List Byte) (s : State) (hw : memsWf s.mems = true) :
    OutcomeWf (execCascadeImageReceive t image s) := by
  unfold execCascadeImageReceive
  simp only []
  (repeat' split) <;> simp [hw]

theorem execFirmwareReady_wf (t : Nat) (s : State) (hw : memsWf s.mems = true) :
    OutcomeWf (execFirmwareReady t s) := by
  unfold execFirmwareReady
  simp only []
  (repeat' split) <;> simp [hw]

theorem secGetStateBody_sound (r : Running) (s : State) :
    (secGetStateBody r s).Sound s := by
  simp [secGetStateBody]

theorem setOemKeyBody_sound (r : Running) (s : State) :
    (setOemKeyBody r s).Sound s := by
  unfold setOemKeyBody
  split <;> simp

theorem sealRecordBody_sound (r : Running) (s : State) :
    (sealRecordBody r s).Sound s := by
  unfold sealRecordBody
  simp only []
  split <;> simp

theorem lockDebugBody_sound (r : Running) (s : State) :
    (lockDebugBody r s).Sound s := by
  unfold lockDebugBody
  simp only []
  split <;> simp

theorem execNvRecordWriteDone_wf (t : Nat) (ok : Bool) (s : State) (hw : memsWf s.mems = true) :
    OutcomeWf (execNvRecordWriteDone t ok s) := by
  unfold execNvRecordWriteDone
  simp only []
  split <;> simp [hw]

theorem execTapInstruction_wf (t : Nat) (x : TapInstr) (s : State) (hw : memsWf s.mems = true) :
    OutcomeWf (execTapInstruction t x s) := by
  unfold execTapInstruction
  simp only []
  (repeat' split) <;> simp [hw]

/-! ### Reception: effects -/

theorem execContextClaim_wf (t : Nat) (ctx : Fin 1024) (s : State) (hw : memsWf s.mems = true) :
    OutcomeWf (execContextClaim t ctx s) := by
  unfold execContextClaim
  simp only []
  split <;> simp [hw]

theorem execCaptureHandoff_wf (t : Nat) (ctx : Fin 1024) (s : State) (hw : memsWf s.mems = true) :
    OutcomeWf (execCaptureHandoff t ctx s) := by
  unfold execCaptureHandoff
  simp only []
  (repeat' split) <;> simp [hw]

theorem execContextRelease_wf (t : Nat) (ctx : Fin 1024) (s : State) (hw : memsWf s.mems = true) :
    OutcomeWf (execContextRelease t ctx s) := by
  unfold execContextRelease
  simp only []
  (repeat' split) <;> simp [hw]

theorem execSfdFound_wf (t : Nat) (ctx : Fin 1024) (sfd1 : Bool) (sub : Nat) (s : State) (hw : memsWf s.mems = true) :
    OutcomeWf (execSfdFound t ctx sfd1 sub s) := by
  unfold execSfdFound
  simp only []
  (repeat' split) <;> simp [hw]

theorem execSfdWindowExpiry_wf (t : Nat) (ctx : Fin 1024) (s : State) (hw : memsWf s.mems = true) :
    OutcomeWf (execSfdWindowExpiry t ctx s) := by
  unfold execSfdWindowExpiry
  simp only []
  (repeat' split) <;> simp [hw]

theorem execHeaderDecoded_wf (t : Nat) (ctx : Fin 1024) (phr : PhrInfo) (s : State) (hw : memsWf s.mems = true) :
    OutcomeWf (execHeaderDecoded t ctx phr s) := by
  unfold execHeaderDecoded
  simp only []
  (repeat' split) <;> simp [hw]

theorem execLastAirSymbol_wf (t : Nat) (ctx : Fin 1024) (running : Int) (s : State) (hw : memsWf s.mems = true) :
    OutcomeWf (execLastAirSymbol t ctx running s) := by
  unfold execLastAirSymbol
  simp only []
  (repeat' split) <;> simp [hw]

theorem execLostSync_wf (t : Nat) (ctx : Fin 1024) (running : Int) (s : State) (hw : memsWf s.mems = true) :
    OutcomeWf (execLostSync t ctx running s) := by
  unfold execLostSync
  simp only []
  (repeat' split) <;> simp [hw]

theorem execRecordComplete_wf (t order : Nat) (x : BackEnd) (s : State) (hw : memsWf s.mems = true) :
    OutcomeWf (execRecordComplete t order x s) := by
  unfold execRecordComplete
  simp only []
  (repeat' split) <;> simp [hw]

theorem setControlBody_sound (r : Running) (s : State) :
    (setControlBody r s).Sound s := by
  unfold setControlBody
  simp only []
  split <;> simp

theorem getControlBody_sound (r : Running) (s : State) :
    (getControlBody r s).Sound s := by
  unfold getControlBody
  simp only []
  split <;> simp

theorem dmdCountersBody_sound (r : Running) (s : State) :
    (dmdCountersBody r s).Sound s := by
  simp [dmdCountersBody]

theorem getContextsBody_sound (r : Running) (s : State) :
    (getContextsBody r s).Sound s := by
  simp [getContextsBody]

/-! ### Pre-distortion and tuning: effects -/

theorem execObsSelectionGrant_wf (t : Nat) (m : BitVec 2) (dir : BitVec 1) (s : State) (hw : memsWf s.mems = true) :
    OutcomeWf (execObsSelectionGrant t m dir s) := by
  unfold execObsSelectionGrant
  simp only []
  (repeat' split) <;> simp [hw]

theorem execDpdAdaptCapture_wf (t : Nat) (nmse : List (Nat × Int)) (s : State) (hw : memsWf s.mems = true) :
    OutcomeWf (execDpdAdaptCapture t nmse s) := by
  unfold execDpdAdaptCapture
  simp only []
  split
  · simpa using hw
  · split
    · simpa using hw
    · rw [outcomeWf_next, State.endCapture_mems, State.mems_foldl _ (fun _ _ => by simp)]
      simpa using hw

theorem execDpdSolveDone_wf (t : Nat) (p : Fin 64) (tables : List (List Cplx)) (freqHz : Int) (s : State)
    (hw : memsWf s.mems = true) :
    OutcomeWf (execDpdSolveDone t p tables freqHz s) := by
  unfold execDpdSolveDone
  simp only []
  (repeat' split) <;> simp [hw]

theorem execDpdStale_wf (t : Nat) (p : Fin 64) (s : State) (hw : memsWf s.mems = true) :
    OutcomeWf (execDpdStale t p s) := by
  unfold execDpdStale
  simp only []
  split <;> simp [hw]

theorem execMismatchMeasurement_wf (t : Nat) (readings : List (Nat × Int × Int)) (s : State) (hw : memsWf s.mems = true) :
    OutcomeWf (execMismatchMeasurement t readings s) := by
  unfold execMismatchMeasurement
  extract_lets s0 m mine s1 s2
  have h1 : s1.mems = s.mems := (State.mems_foldl _ (fun _ _ => by simp) _ _).trans (State.advance_mems s t)
  split
  · simpa [s0] using hw
  · rw [outcomeWf_next, State.releaseObs_mems]
    exact (congrArg memsWf h1).trans hw

theorem execRffeTransactionDone_wf (t : Nat) (bus : Fin 16) (data : List Byte) (parityOk : Bool) (s : State)
    (hw : memsWf s.mems = true) :
    OutcomeWf (execRffeTransactionDone t bus data parityOk s) := by
  unfold execRffeTransactionDone
  simp only []
  (repeat' split) <;> simp [hw]

theorem execTunerTrial_wf (t : Nat) (ratios : List (Nat × Int)) (s : State) (hw : memsWf s.mems = true) :
    OutcomeWf (execTunerTrial t ratios s) := by
  unfold execTunerTrial
  extract_lets s0 searching mine s1 s2
  have h1 : s1.mems = s.mems := (State.mems_foldl _ (fun _ _ => by simp) _ _).trans (State.advance_mems s t)
  split
  · simpa [s0] using hw
  · rw [outcomeWf_next, State.releaseObs_mems]
    exact (congrArg memsWf h1).trans hw

theorem execTuneWindowStart_wf (s : State) (hw : memsWf s.mems = true) : OutcomeWf (execTuneWindowStart s) := by
  unfold execTuneWindowStart
  split
  · exact hw
  · split
    · exact hw
    · rw [outcomeWf_next, State.mems_foldl]
      · simpa using hw
      · intro a p
        split
        · rfl
        · exact State.mems_foldl _ (fun _ _ => by simp) _ _

theorem execTuneWindowEnd_wf (t : Nat) (s : State) (hw : memsWf s.mems = true) :
    OutcomeWf (execTuneWindowEnd t s) := by
  unfold execTuneWindowEnd
  simp only []
  (repeat' split) <;> simp [hw]

theorem dpdSetModeBody_sound (r : Running) (s : State) :
    (dpdSetModeBody r s).Sound s := by
  unfold dpdSetModeBody
  simp only []
  split <;> simp

theorem dpdLoadBody_sound (r : Running) (s : State) :
    (dpdLoadBody r s).Sound s := by
  unfold dpdLoadBody
  simp only []
  split <;> simp

theorem dpdReadBody_sound (r : Running) (s : State) :
    (dpdReadBody r s).Sound s := by
  unfold dpdReadBody
  simp only []
  split <;> simp

theorem dpdGetStatusBody_sound (r : Running) (s : State) : (dpdGetStatusBody r s).Sound s := by
  unfold dpdGetStatusBody
  extract_lets x w final
  have hx : x.2.mems = s.mems :=
    foldl_keeps (fun a : List (List Byte) × State => a.2.mems) _ (fun _ _ => by simp) (List.range 64) ([], s)
  simp [final, hx]

theorem setMismatchBody_sound (r : Running) (s : State) :
    (setMismatchBody r s).Sound s := by
  unfold setMismatchBody
  simp only []
  split <;> simp

theorem setTunerMapBody_sound (r : Running) (s : State) :
    (setTunerMapBody r s).Sound s := by
  unfold setTunerMapBody
  simp only []
  split <;> simp

theorem tuneWindowBody_sound (r : Running) (s : State) :
    (tuneWindowBody r s).Sound s := by
  unfold tuneWindowBody
  simp only []
  (repeat' split) <;> simp

theorem setTunerBody_sound (r : Running) (s : State) :
    (setTunerBody r s).Sound s := by
  unfold setTunerBody
  simp only []
  split <;> simp

theorem rffeXferBody_sound (r : Running) (s : State) : (rffeXferBody r s).Sound s := by
  unfold rffeXferBody
  simp only []
  split
  · simp [State.rffe]
  · simp

/-! ### HALO: effects -/

theorem haloArmBody_sound (r : Running) (s : State) : (haloArmBody r s).Sound s := by
  unfold haloArmBody
  split
  · exact CmdEffect.sound_status s _
  · rw [CmdEffect.sound_ok, State.mems_ite, State.askObs_mems, ite_self, State.setSlot_mems]
    exact id

theorem execHaloArmingComplete_wf (slot : Fin 4) (s : State) (hw : memsWf s.mems = true) :
    OutcomeWf (execHaloArmingComplete slot s) := by
  unfold execHaloArmingComplete
  simp only []
  (repeat' split) <;> simp [hw]

theorem execHaloTrigIn_wf (t highNs : Nat) (s : State) (hw : memsWf s.mems = true) :
    OutcomeWf (execHaloTrigIn t highNs s) := by
  unfold execHaloTrigIn
  split <;> simp [hw]

theorem execHaloTriggerAccept_wf (t : Nat) (slot : Fin 4) (s : State) (hw : memsWf s.mems = true) :
    OutcomeWf (execHaloTriggerAccept t slot s) := by
  unfold execHaloTriggerAccept
  simp only []
  (repeat' split) <;> simp [hw]

theorem execTrigOutPulseEnd_wf (s : State) (hw : memsWf s.mems = true) :
    OutcomeWf (execTrigOutPulseEnd s) := by
  unfold execTrigOutPulseEnd
  split <;> simp [hw]

theorem haloTriggerBody_sound (r : Running) (s : State) :
    (haloTriggerBody r s).Sound s := by
  unfold haloTriggerBody
  simp only []
  (repeat' split) <;> simp

theorem writeRing_wf {m : List Host.Cell} (h : Memory.wf unlisted m = true) (base size start : Nat) (data : List Byte) :
    Memory.wf unlisted (writeRing m base size start data) = true := by
  unfold writeRing
  split
  · exact h
  · exact Memory.wf_writeBytes (Memory.wf_writeBytes h _ _) _ _

theorem memsWf_ring {s : State} (h : memsWf s.mems = true) (base size start : Nat) (data : List Byte) :
    memsWf (writeRing s.mem base size start data, s.hostMem, s.nv.hostArea) = true := by
  obtain ⟨⟨hm, hh⟩, hn⟩ := (by simpa only [memsWf, Bool.and_eq_true] using h : (_ ∧ _) ∧ _)
  simp only [memsWf, Bool.and_eq_true]
  exact ⟨⟨writeRing_wf hm _ _ _ _, hh⟩, hn⟩

theorem execSegmentComplete_wf (slot : Fin 4) (data : List Byte) (s : State) (hw : memsWf s.mems = true) :
    OutcomeWf (execSegmentComplete slot data s) := by
  unfold execSegmentComplete
  extract_lets x
  split
  · extract_lets s0 g s1 s2 s3
    have h1 : memsWf s1.mems = true := memsWf_ring (s := s0) (by simpa [s0] using hw) _ _ _ _
    have h3 : memsWf s3.mems = true := by simpa [s3, s2] using h1
    split
    · simpa using h3
    · split
      · simp [h3]
      · exact h3
  · exact hw

theorem execHaloHoldoffEnd_wf (slot : Fin 4) (s : State) (hw : memsWf s.mems = true) :
    OutcomeWf (execHaloHoldoffEnd slot s) := by
  unfold execHaloHoldoffEnd
  simp only []
  (repeat' split) <;> simp [hw]

theorem haloDisarmBody_sound (r : Running) (s : State) : (haloDisarmBody r s).Sound s := by
  unfold haloDisarmBody
  extract_lets n
  split
  · simp
  · split
    · simp
    · rw [CmdEffect.sound_ok]
      exact State.stopSlot_mems s n _ _ _ _

theorem setMaskBody_sound (r : Running) (s : State) :
    (setMaskBody r s).Sound s := by
  unfold setMaskBody
  simp only []
  split <;> simp

theorem execMaskFrameTest_wf (t : Nat) (slot : Fin 4) (receiver : Fin 16) (meas : List (Int × Int)) (s : State)
    (hw : memsWf s.mems = true) :
    OutcomeWf (execMaskFrameTest t slot receiver meas s) := by
  unfold execMaskFrameTest
  simp only []
  (repeat' split) <;> simp [hw]

theorem getCaptureBody_sound (r : Running) (s : State) :
    (getCaptureBody r s).Sound s := by
  unfold getCaptureBody
  split <;> simp

theorem haloReadBody_sound (r : Running) (s : State) :
    (haloReadBody r s).Sound s := by
  unfold haloReadBody
  simp only []
  split <;> simp

theorem snapshotBody_sound (r : Running) (s : State) :
    (snapshotBody r s).Sound s := by
  unfold snapshotBody
  simp only []
  (repeat' split) <;> simp

theorem execSnapshotStrobe_wf (phaseErr : Int) (s : State) (hw : memsWf s.mems = true) :
    OutcomeWf (execSnapshotStrobe phaseErr s) := by
  unfold execSnapshotStrobe
  simp only []
  (repeat' split) <;> simp [hw]

theorem execSnapshotLatchComplete_wf (t : Nat) (s : State) (hw : memsWf s.mems = true) :
    OutcomeWf (execSnapshotLatchComplete t s) := by
  unfold execSnapshotLatchComplete
  simp only []
  (repeat' split) <;> simp [hw]

theorem snapReadBody_sound (r : Running) (s : State) :
    (snapReadBody r s).Sound s := by
  unfold snapReadBody
  simp only []
  (repeat' split) <;> simp

theorem setTrigOutBody_sound (r : Running) (s : State) :
    (setTrigOutBody r s).Sound s := by
  unfold setTrigOutBody
  simp only []
  split <;> simp

/-! ### HORIZON: effects -/

theorem execDetectionResume_wf (s : State) (hw : memsWf s.mems = true) :
    OutcomeWf (execDetectionResume s) := by
  simp [execDetectionResume, hw]

theorem execCandidateHoldEnd_wf (running : List (Nat × Int)) (s : State) (hw : memsWf s.mems = true) :
    OutcomeWf (execCandidateHoldEnd running s) := by
  simp [execCandidateHoldEnd, hw]

theorem execSearchEpoch_wf (t : Nat) (raws : List RawDetection) (powers : List (Nat × Nat)) (sats : Nat) (s : State)
    (hw : memsWf s.mems = true) : OutcomeWf (execSearchEpoch t raws powers sats s) := by
  unfold execSearchEpoch
  extract_lets k n stop s0 span _ _ s1 excluded ds s2 ranked s3 kept s4 s5 s6 s7 s8
  split
  · exact hw
  · have h1 : s1.mems = s.mems := by simp [s1, s0]
    have h2 : s2.mems = s1.mems := State.mems_foldl _ (fun _ _ => by simp) _ _
    have h4 : s4.mems = s2.mems := (State.mems_foldl _ (fun _ _ => by simp) _ _).trans (State.hznOverload_mems s2 _)
    have h5 : s5.mems = s4.mems := by simp [s5]
    have h6 : s6.mems = s5.mems := State.mems_foldl _ (fun _ _ => by simp) _ _
    have h7 : s7.mems = s6.mems := State.mems_foldl _ (fun _ _ => by simp) _ _
    have h8 : s8.mems = s.mems := by simp [s8, h7, h6, h5, h4, h2, h1]
    simpa [h8] using hw

theorem setProfileBody_sound (r : Running) (s : State) :
    (setProfileBody r s).Sound s := by
  unfold setProfileBody
  split <;> simp

theorem setNoiseBody_sound (r : Running) (s : State) :
    (setNoiseBody r s).Sound s := by
  unfold setNoiseBody
  simp only []
  split <;> simp

theorem readNoiseBody_sound (r : Running) (s : State) : (readNoiseBody r s).Sound s := by
  unfold readNoiseBody
  extract_lets b x
  have hx : x.2.mems = s.mems :=
    foldl_keeps (fun a : List (List Byte) × State => a.2.mems) _ (fun _ _ => by simp) (List.range 384) ([], s)
  split
  · simp
  · simp [hx]

theorem hznStatusBody_sound (r : Running) (s : State) :
    (hznStatusBody r s).Sound s := by
  simp [hznStatusBody]

theorem hznCountersBody_sound (r : Running) (s : State) :
    (hznCountersBody r s).Sound s := by
  simp [hznCountersBody]

end Sys2Proof.Machine
end

section
/-!
PROOFS. Every row (family 13): the memories stay canonical, the envelope of a command, a failed command, its response.
-/

namespace Sys2Proof.Machine

open Sys2Proof

/-- Every row leaves the memories in canonical form. -/
theorem exec_wf (c : Instr) {s : State} (hw : memsWf s.mems = true) : OutcomeWf (exec c s) := by
  cases c with
  | sysEcho => exact outcomeWf_runCommand _ hw fun r => (echoBody_sound r s).mems hw
  | sysGetInfo => exact outcomeWf_runCommand _ hw fun r => (getInfoBody_sound r s).mems hw
  | sysReset => exact outcomeWf_runCommand _ hw fun r => (resetBody_sound r s).mems hw
  | sysSetEventFilter => exact outcomeWf_runCommand _ hw fun r => (eventFilterBody_sound r s).mems hw
  | sysNvGetInfo => exact outcomeWf_runCommand _ hw fun r => (nvGetInfoBody_sound r s).mems hw
  | sysNvWrite => exact outcomeWf_runCommand _ hw fun r => (nvWriteBody_sound r s).mems hw
  | sysFwInstall => exact outcomeWf_runCommand _ hw fun r => (fwInstallBody_sound r s).mems hw
  | sysFwActivate => exact outcomeWf_runCommand _ hw fun r => (fwActivateBody_sound r s).mems hw
  | sysFwConfirm => exact outcomeWf_runCommand _ hw fun r => (fwConfirmBody_sound r s).mems hw
  | sysFabricGetStatus => exact outcomeWf_runCommand _ hw fun r => (fabricGetStatusBody_sound r s).mems hw
  | sysMemGetEcc => exact outcomeWf_runCommand _ hw fun r => (memGetEccBody_sound r s).mems hw
  | sysLeaseGet => exact outcomeWf_runCommand _ hw fun r => (leaseGetBody_sound r s).mems hw
  | sysProcGetStatus => exact outcomeWf_runCommand _ hw fun r => (procGetStatusBody_sound r s).mems hw
  | synSetState => exact outcomeWf_runCommand _ hw fun r => (setStateBody_sound r s).mems hw
  | synSetMode => exact outcomeWf_runCommand _ hw fun r => (setModeBody_sound r s).mems hw
  | synTune => exact outcomeWf_runCommand _ hw fun r => (tuneBody_sound r s).mems hw
  | synCommit => exact outcomeWf_runCommand _ hw fun r => (commitBody_sound r s).mems hw
  | synSwitch => exact outcomeWf_runCommand _ hw fun r => (switchBody_sound r s).mems hw
  | synStoreEntry => exact outcomeWf_runCommand _ hw fun r => (storeEntryBody_sound r s).mems hw
  | synReadEntry => exact outcomeWf_runCommand _ hw fun r => (readEntryBody_sound r s).mems hw
  | synSetClkout => exact outcomeWf_runCommand _ hw fun r => (setClkoutBody_sound r s).mems hw
  | synSetReference => exact outcomeWf_runCommand _ hw fun r => (setReferenceBody_sound r s).mems hw
  | synGetStatus => exact outcomeWf_runCommand _ hw fun r => (synGetStatusBody_sound r s).mems hw
  | pathSetEnable => exact outcomeWf_runCommand _ hw fun r => (setEnableBody_sound r s).mems hw
  | pathSetGain => exact outcomeWf_runCommand _ hw fun r => (setGainBody_sound r s).mems hw
  | pathSetAgc => exact outcomeWf_runCommand _ hw fun r => (setAgcBody_sound r s).mems hw
  | pathSetTxAtten => exact outcomeWf_runCommand _ hw fun r => (setAttenBody_sound r s).mems hw
  | pathSetFeTiming => exact outcomeWf_runCommand _ hw fun r => (setFeTimingBody_sound r s).mems hw
  | pathSetObs => exact outcomeWf_runCommand _ hw fun r => (setObsBody_sound r s).mems hw
  | pathGetStatus => exact outcomeWf_runCommand _ hw fun r => (pathStatusBody_sound r s).mems hw
  | pathAuxAdcConfig => exact outcomeWf_runCommand _ hw fun r => (auxAdcConfigBody_sound r s).mems hw
  | pathAuxAdcRead => exact outcomeWf_runCommand _ hw fun r => (auxAdcReadBody_sound r s).mems hw
  | pathAuxDacSet => exact outcomeWf_runCommand _ hw fun r => (auxDacSetBody_sound r s).mems hw
  | pathAuxDacSine => exact outcomeWf_runCommand _ hw fun r => (auxDacSineBody_sound r s).mems hw
  | filtLoadSet => exact outcomeWf_runCommand _ hw fun r => (loadSetBody_sound r s).mems hw
  | filtAssign => exact outcomeWf_runCommand _ hw fun r => (assignBody_sound r s).mems hw
  | filtApply => exact outcomeWf_runCommand _ hw fun r => (filtApplyBody_sound r s).mems hw
  | filtSetDetector => exact outcomeWf_runCommand _ hw fun r => (setDetectorBody_sound r s).mems hw
  | filtGetStatus => exact outcomeWf_runCommand _ hw fun r => (filtGetStatusBody_sound r s).mems hw
  | beamSetGeometry => exact outcomeWf_runCommand _ hw fun r => (setGeometryBody_sound r s).mems hw
  | beamSetGrid => exact outcomeWf_runCommand _ hw fun r => (setGridBody_sound r s).mems hw
  | beamSetRxSource => exact outcomeWf_runCommand _ hw fun r => (setRxSourceBody_sound r s).mems hw
  | beamLoadBank => exact outcomeWf_runCommand _ hw fun r => (loadBankBody_sound r s).mems hw
  | beamSwap => exact outcomeWf_runCommand _ hw fun r => (beamSwapBody_sound r s).mems hw
  | beamSetAdaptive => exact outcomeWf_runCommand _ hw fun r => (setAdaptiveBody_sound r s).mems hw
  | beamSetScale => exact outcomeWf_runCommand _ hw fun r => (setScaleBody_sound r s).mems hw
  | beamSigPin => exact outcomeWf_runCommand _ hw fun r => (sigPinBody_sound r s).mems hw
  | beamSigRead => exact outcomeWf_runCommand _ hw fun r => (sigReadBody_sound r s).mems hw
  | beamGetStatus => exact outcomeWf_runCommand _ hw fun r => (beamGetStatusBody_sound r s).mems hw
  | hznSetProfile => exact outcomeWf_runCommand _ hw fun r => (setProfileBody_sound r s).mems hw
  | hznSetNoise => exact outcomeWf_runCommand _ hw fun r => (setNoiseBody_sound r s).mems hw
  | hznReadNoise => exact outcomeWf_runCommand _ hw fun r => (readNoiseBody_sound r s).mems hw
  | hznGetStatus => exact outcomeWf_runCommand _ hw fun r => (hznStatusBody_sound r s).mems hw
  | hznGetCounters => exact outcomeWf_runCommand _ hw fun r => (hznCountersBody_sound r s).mems hw
  | dmdSetControl => exact outcomeWf_runCommand _ hw fun r => (setControlBody_sound r s).mems hw
  | dmdGetControl => exact outcomeWf_runCommand _ hw fun r => (getControlBody_sound r s).mems hw
  | dmdGetCounters => exact outcomeWf_runCommand _ hw fun r => (dmdCountersBody_sound r s).mems hw
  | dmdGetContexts => exact outcomeWf_runCommand _ hw fun r => (getContextsBody_sound r s).mems hw
  | txSubmit => exact outcomeWf_runCommand _ hw fun r => (txSubmitBody_sound r s).mems hw
  | txCancel => exact outcomeWf_runCommand _ hw fun r => (txCancelBody_sound r s).mems hw
  | txSetRamp => exact outcomeWf_runCommand _ hw fun r => (txSetRampBody_sound r s).mems hw
  | txSetCoex => exact outcomeWf_runCommand _ hw fun r => (txSetCoexBody_sound r s).mems hw
  | txGetStatus => exact outcomeWf_runCommand _ hw fun r => (txGetStatusBody_sound r s).mems hw
  | txRegRead => exact outcomeWf_runCommand _ hw fun r => (txRegReadBody_sound r s).mems hw
  | txRegSupersede => exact outcomeWf_runCommand _ hw fun r => (regSupersedeBody_sound r s).mems hw
  | dpdSetMode => exact outcomeWf_runCommand _ hw fun r => (dpdSetModeBody_sound r s).mems hw
  | dpdLoadTables => exact outcomeWf_runCommand _ hw fun r => (dpdLoadBody_sound r s).mems hw
  | dpdReadTables => exact outcomeWf_runCommand _ hw fun r => (dpdReadBody_sound r s).mems hw
  | dpdGetStatus => exact outcomeWf_runCommand _ hw fun r => (dpdGetStatusBody_sound r s).mems hw
  | dpdSetMismatch => exact outcomeWf_runCommand _ hw fun r => (setMismatchBody_sound r s).mems hw
  | dpdSetTunerMap => exact outcomeWf_runCommand _ hw fun r => (setTunerMapBody_sound r s).mems hw
  | dpdTuneWindow => exact outcomeWf_runCommand _ hw fun r => (tuneWindowBody_sound r s).mems hw
  | dpdSetTuner => exact outcomeWf_runCommand _ hw fun r => (setTunerBody_sound r s).mems hw
  | dpdRffeXfer => exact outcomeWf_runCommand _ hw fun r => (rffeXferBody_sound r s).mems hw
  | calRun => exact outcomeWf_runCommand _ hw fun r => (calRunBody_sound r s).mems hw
  | calSetSupervisor => exact outcomeWf_runCommand _ hw fun r => (setSupervisorBody_sound r s).mems hw
  | calGetStatus => exact outcomeWf_runCommand _ hw fun r => (calGetStatusBody_sound r s).mems hw
  | calGetPathStats => exact outcomeWf_runCommand _ hw fun r => (pathStatsBody_sound r s).mems hw
  | calStore => exact outcomeWf_runCommand _ hw fun r => (calStoreBody_sound r s).mems hw
  | calRestore => exact outcomeWf_runCommand _ hw fun r => (calRestoreBody_sound r s).mems hw
  | calReadSet => exact outcomeWf_runCommand _ hw fun r => (calReadSetBody_sound r s).mems hw
  | calSetCoupler => exact outcomeWf_runCommand _ hw fun r => (setCouplerBody_sound r s).mems hw
  | fhSetPort => exact outcomeWf_runCommand _ hw fun r => (setPortBody_sound r s).mems hw
  | fhSetStream => exact outcomeWf_runCommand _ hw fun r => (setStreamBody_sound r s).mems hw
  | fhSetRecords => exact outcomeWf_runCommand _ hw fun r => (setRecordsBody_sound r s).mems hw
  | fhSetPtp => exact outcomeWf_runCommand _ hw fun r => (setPtpBody_sound r s).mems hw
  | fhGetTime => exact outcomeWf_runCommand _ hw fun r => (fhGetTimeBody_sound r s).mems hw
  | fhGetPortStatus => exact outcomeWf_runCommand _ hw fun r => (getPortStatusBody_sound r s).mems hw
  | lclSetChain => exact outcomeWf_runCommand _ hw fun r => (setChainBody_sound r s).mems hw
  | lclGetStatus => exact outcomeWf_runCommand _ hw fun r => (lclGetStatusBody_sound r s).mems hw
  | lclRetrain => exact outcomeWf_runCommand _ hw fun r => (retrainBody_sound r s).mems hw
  | lclGetLink => exact outcomeWf_runCommand _ hw fun r => (getLinkBody_sound r s).mems hw
  | lclLastRelay => exact outcomeWf_runCommand _ hw fun r => (lastRelayBody_sound r s).mems hw
  | haloArm => exact outcomeWf_runCommand _ hw fun r => (haloArmBody_sound r s).mems hw
  | haloDisarm => exact outcomeWf_runCommand _ hw fun r => (haloDisarmBody_sound r s).mems hw
  | haloTrigger => exact outcomeWf_runCommand _ hw fun r => (haloTriggerBody_sound r s).mems hw
  | haloSetMask => exact outcomeWf_runCommand _ hw fun r => (setMaskBody_sound r s).mems hw
  | haloGetCapture => exact outcomeWf_runCommand _ hw fun r => (getCaptureBody_sound r s).mems hw
  | haloRead => exact outcomeWf_runCommand _ hw fun r => (haloReadBody_sound r s).mems hw
  | haloSnapshot => exact outcomeWf_runCommand _ hw fun r => (snapshotBody_sound r s).mems hw
  | haloSnapRead => exact outcomeWf_runCommand _ hw fun r => (snapReadBody_sound r s).mems hw
  | haloSetTrigOut => exact outcomeWf_runCommand _ hw fun r => (setTrigOutBody_sound r s).mems hw
  | pwrSleep => exact outcomeWf_runCommand _ hw fun r => (sleepBody_mems r s).symm ▸ hw
  | pwrGetStatus => exact outcomeWf_runCommand _ hw fun r => (pwrStatusBody_sound r s).mems hw
  | pwrGetWake => exact outcomeWf_runCommand _ hw fun r => (getWakeBody_sound r s).mems hw
  | spareGetStatus => exact outcomeWf_runCommand _ hw fun r => (spareStatusBody_sound r s).mems hw
  | spareSetWindow => exact outcomeWf_runCommand _ hw fun r => (setWindowBody_sound r s).mems hw
  | spareRetirePath => exact outcomeWf_runCommand _ hw fun r => (retireBody_sound r s).mems hw
  | spareRestorePath => exact outcomeWf_runCommand _ hw fun r => (restoreBody_sound r s).mems hw
  | secBootLoad => exact outcomeWf_runCommand _ hw fun r => (bootLoadBody_mems r s).symm ▸ hw
  | secGetState => exact outcomeWf_runCommand _ hw fun r => (secGetStateBody_sound r s).mems hw
  | secSetOemKey => exact outcomeWf_runCommand _ hw fun r => (setOemKeyBody_sound r s).mems hw
  | secSealRecord => exact outcomeWf_runCommand _ hw fun r => (sealRecordBody_sound r s).mems hw
  | secLockDebug => exact outcomeWf_runCommand _ hw fun r => (lockDebugBody_sound r s).mems hw
  | mbxDoorbellRing t ringBits => exact execMbxDoorbellRing_wf t ringBits s hw
  | mbxResponseRelease t doneBits => exact execMbxResponseRelease_wf t doneBits s hw
  | hostReset t v => exact execHostReset_wf t v s hw
  | dmaStart t c v read => exact execDmaStart_wf t c v read s hw
  | dmaStop t c v => exact execDmaStop_wf t c v s hw
  | evqEnable t v => exact execEvqEnable_wf t v s hw
  | evqDisable t v => exact execEvqDisable_wf t v s hw
  | evqConsWrite t v => exact execEvqConsWrite_wf t v s hw
  | msixVectorUnmask t v => exact execMsixVectorUnmask_wf t v s hw
  | registerWrite t off data => exact execRegisterWrite_wf t off data s hw
  | mailboxScan t => exact execMailboxScan_wf t s hw
  | relayResponse t mbx tag pos status payload => exact execRelayResponse_wf t mbx tag pos status payload s hw
  | relayResend mbx => exact execRelayResend_wf mbx s hw
  | relayTimeout mbx => exact execRelayTimeout_wf mbx s hw
  | workerCommandReceive t mbx bytes reached => exact execWorkerCommandReceive_wf t mbx bytes reached s hw
  | deferredCommandComplete t mbx cascade out => exact execDeferredCommandComplete_wf t mbx cascade out s hw
  | barrierRelease t => exact execBarrierRelease_wf t s hw
  | nvRecordWriteDone t ok => exact execNvRecordWriteDone_wf t ok s hw
  | vddAonPowerOn t waddr => exact execVddAonPowerOn_wf t waddr s hw
  | vddAonRemoved t => exact execVddAonRemoved_wf t s hw
  | pwrGoodRise t => exact execPwrGoodRise_wf t s hw
  | pwrGoodTimeout => exact execPwrGoodTimeout_wf s hw
  | pwrGoodFall t => exact execPwrGoodFall_wf t s hw
  | pwrEnRestart => exact execPwrEnRestart_wf s hw
  | resetLAssert t => exact execResetLAssert_wf t s hw
  | resetLRelease t role bootsrc => exact execResetLRelease_wf t role bootsrc s hw
  | perst t => exact execPerst_wf t s hw
  | functionLevelReset t => exact execFunctionLevelReset_wf t s hw
  | bootStageEnd t x => exact execBootStageEnd_wf t x s hw
  | cascadeImageReceive t image => exact execCascadeImageReceive_wf t image s hw
  | firmwareReady t => exact execFirmwareReady_wf t s hw
  | i2cAddressMatch t => exact execI2cAddressMatch_wf t s hw
  | wakeLLow t low => exact execWakeLLow_wf t low s hw
  | sleepTimerExpiry => exact execSleepTimerExpiry_wf s hw
  | sleepRequest t => exact execSleepRequest_wf t s hw
  | sleepPwrEnDrop => exact execSleepPwrEnDrop_wf s hw
  | sleepReadyReport t pos => exact execSleepReadyReport_wf t pos s hw
  | sleepGo t => exact execSleepGo_wf t s hw
  | sleepAbandon t => exact execSleepAbandon_wf t s hw
  | sleepReportTimeout => exact execSleepReportTimeout_wf s hw
  | workerSleepTimeout => exact execWorkerSleepTimeout_wf s hw
  | thermalSample tj ok => exact execThermalSample_wf tj ok s hw
  | transmitTrip t => exact execTransmitTrip_wf t s hw
  | shutdownPowerOff => exact execShutdownPowerOff_wf s hw
  | thermalHoldoffEnd => exact execThermalHoldoffEnd_wf s hw
  | vcoreRecommend t => exact execVcoreRecommend_wf t s hw
  | fabricSpeedMonitor t readings => exact execFabricSpeedMonitor_wf t readings s hw
  | fabricLinkFailure t axis index link => exact execFabricLinkFailure_wf t axis index link s hw
  | fabricFaultReset => exact execFabricFaultReset_wf s hw
  | memoryScrub t pool addr outcome rec => exact execMemoryScrub_wf t pool addr outcome rec s hw
  | maintenanceRingPoll t missed => exact execMaintenanceRingPoll_wf t missed s hw
  | unitHandshakeStall t owner => exact execUnitHandshakeStall_wf t owner s hw
  | unitReturnToService t owner => exact execUnitReturnToService_wf t owner s hw
  | leaseRelease t owner r => exact execLeaseRelease_wf t owner r s hw
  | watchdogRestart t => exact execWatchdogRestart_wf t s hw
  | watchdogExpiry t => exact execWatchdogExpiry_wf t s hw
  | watchdogReset => exact execWatchdogReset_wf s hw
  | sysResetDelayExpiry => exact execSysResetDelayExpiry_wf s hw
  | fwTrialReset => exact execFwTrialReset_wf s hw
  | referenceLost t src reason => exact execReferenceLost_wf t src reason s hw
  | referenceValid t src freq => exact execReferenceValid_wf t src freq s hw
  | referenceReacquired t => exact execReferenceReacquired_wf t s hw
  | freewheelLimit => exact execFreewheelLimit_wf s hw
  | synAcquisitionStart k => exact execSynAcquisitionStart_wf k s hw
  | synLock t k band gain tdcNorm kp ki => exact execSynLock_wf t k band gain tdcNorm kp ki s hw
  | synUnlock t k => exact execSynUnlock_wf t k s hw
  | synCommitInstant => exact execSynCommitInstant_wf s hw
  | synSwitchApply chain blankNs => exact execSynSwitchApply_wf chain blankNs s hw
  | synSwitchAbandon => exact execSynSwitchAbandon_wf s hw
  | baseStateChange => exact execBaseStateChange_wf s hw
  | radioTransitionDone t => exact execRadioTransitionDone_wf t s hw
  | gainChangeApply => exact execGainChangeApply_wf s hw
  | agcWindowEnd x => exact execAgcWindowEnd_wf x s hw
  | pathRxEnableSettle p => exact execPathRxEnableSettle_wf p s hw
  | auxAdcConversion t c raw => exact execAuxAdcConversion_wf t c raw s hw
  | auxOpenTest t c up down => exact execAuxOpenTest_wf t c up down s hw
  | stuckAdc t p => exact execStuckAdc_wf t p s hw
  | filtApplyInstant => exact execFiltApplyInstant_wf s hw
  | detectorAssert t p lower level => exact execDetectorAssert_wf t p lower level s hw
  | detectorRelease t p lower level => exact execDetectorRelease_wf t p lower level s hw
  | beamSwapFreeze => exact execBeamSwapFreeze_wf s hw
  | beamSwapApply => exact execBeamSwapApply_wf s hw
  | gridRecomputeDone t => exact execGridRecomputeDone_wf t s hw
  | adaptiveUpdate => exact execAdaptiveUpdate_wf s hw
  | adaptiveSolveDone t few ill sols => exact execAdaptiveSolveDone_wf t few ill sols s hw
  | signatureStore t order mant exponent az el sigAz sigEl =>
      exact execSignatureStore_wf t order mant exponent az el sigAz sigEl s hw
  | searchEpoch t raws powers sats => exact execSearchEpoch_wf t raws powers sats s hw
  | detectionResume => exact execDetectionResume_wf s hw
  | candidateHoldEnd running => exact execCandidateHoldEnd_wf running s hw
  | contextClaim t ctx => exact execContextClaim_wf t ctx s hw
  | captureHandoff t ctx => exact execCaptureHandoff_wf t ctx s hw
  | contextRelease t ctx => exact execContextRelease_wf t ctx s hw
  | sfdFound t ctx sfd1 sub => exact execSfdFound_wf t ctx sfd1 sub s hw
  | sfdWindowExpiry t ctx => exact execSfdWindowExpiry_wf t ctx s hw
  | headerDecoded t ctx phr => exact execHeaderDecoded_wf t ctx phr s hw
  | lastAirSymbol t ctx running => exact execLastAirSymbol_wf t ctx running s hw
  | lostSync t ctx running => exact execLostSync_wf t ctx running s hw
  | recordComplete t order x => exact execRecordComplete_wf t order x s hw
  | fhLinkChange t p up cause => exact execFhLinkChange_wf t p up cause s hw
  | fhFrameReceive t p fcsOk length dest etherType fragment fec =>
      exact execFhFrameReceive_wf t p fcsOk length dest etherType fragment fec s hw
  | rtcTransmitRequest t p rtcId seqId body => exact execRtcTransmitRequest_wf t p rtcId seqId body s hw
  | rtcBeamSwap t p rtcId seqId body => exact execRtcBeamSwap_wf t p rtcId seqId body s hw
  | rtcTransmitCancel t p rtcId seqId body => exact execRtcTransmitCancel_wf t p rtcId seqId body s hw
  | ecpriUnsupported t p typ => exact execEcpriUnsupported_wf t p typ s hw
  | ecpriDelayRequest t p action id => exact execEcpriDelayRequest_wf t p action id s hw
  | ecpriRemoteRequest t p id => exact execEcpriRemoteRequest_wf t p id s hw
  | ecpriSyncRequest t p => exact execEcpriSyncRequest_wf t p s hw
  | ecpriFaultAck t p => exact execEcpriFaultAck_wf t p s hw
  | ecpriFaultCease p => exact execEcpriFaultCease_wf p s hw
  | recordFrameSend => exact execRecordFrameSend_wf s hw
  | iqFrameComplete t slot count stamp gainEpoch weightEpoch samples =>
      exact execIqFrameComplete_wf t slot count stamp gainEpoch weightEpoch samples s hw
  | iqFrameLaunch p => exact execIqFrameLaunch_wf p s hw
  | egressFrameEnd p => exact execEgressFrameEnd_wf p s hw
  | outcomeSend t => exact execOutcomeSend_wf t s hw
  | ptpSync t p id sport seqId twoStep originPs correctionPs =>
      exact execPtpSync_wf t p id sport seqId twoStep originPs correctionPs s hw
  | ptpFollowUp t p id sport seqId originPs correctionPs => exact execPtpFollowUp_wf t p id sport seqId originPs correctionPs s hw
  | ptpAnnounce t p x => exact execPtpAnnounce_wf t p x s hw
  | ptpDelayResp t p id sport seqId receivePs correctionPs =>
      exact execPtpDelayResp_wf t p id sport seqId receivePs correctionPs s hw
  | ptpDelayReqSend => exact execPtpDelayReqSend_wf s hw
  | ptpMasterLost => exact execPtpMasterLost_wf s hw
  | holdoverLimitExpiry => exact execHoldoverLimitExpiry_wf s hw
  | txPreparation => exact execTxPreparation_wf s hw
  | coexRequestAssert => exact execCoexRequestAssert_wf s hw
  | calYield => exact execCalYield_wf s hw
  | txStateEntry => exact execTxStateEntry_wf s hw
  | launchDecision t => exact execLaunchDecision_wf t s hw
  | trswTransmit => exact execTrswTransmit_wf s hw
  | coexGrantSample gnt busy => exact execCoexGrantSample_wf gnt busy s hw
  | burstLaunch => exact execBurstLaunch_wf s hw
  | frameEnd => exact execFrameEnd_wf s hw
  | burstRampDownEnd x => exact execBurstRampDownEnd_wf x s hw
  | trswReturn => exact execTrswReturn_wf s hw
  | rxBlankEnd => exact execRxBlankEnd_wf s hw
  | txLingerExpiry => exact execTxLingerExpiry_wf s hw
  | coexWithdrawal t busy => exact execCoexWithdrawal_wf t busy s hw
  | dutyHistorySave => exact execDutyHistorySave_wf s hw
  | obsSelectionGrant t m dir => exact execObsSelectionGrant_wf t m dir s hw
  | dpdAdaptCapture t nmse => exact execDpdAdaptCapture_wf t nmse s hw
  | dpdSolveDone t p tables freqHz => exact execDpdSolveDone_wf t p tables freqHz s hw
  | dpdStale t p => exact execDpdStale_wf t p s hw
  | mismatchMeasurement t readings => exact execMismatchMeasurement_wf t readings s hw
  | tuneWindowStart => exact execTuneWindowStart_wf s hw
  | tunerTrial t ratios => exact execTunerTrial_wf t ratios s hw
  | tuneWindowEnd t => exact execTuneWindowEnd_wf t s hw
  | rffeTransactionDone t bus data parityOk => exact execRffeTransactionDone_wf t bus data parityOk s hw
  | calRunTrigger t k => exact execCalRunTrigger_wf t k s hw
  | calStepComplete t k x => exact execCalStepComplete_wf t k x s hw
  | calStarved k lacking => exact execCalStarved_wf k lacking s hw
  | xdevSnapshotEval t recordOk snr inside span parts => exact execXdevSnapshotEval_wf t recordOk snr inside span parts s hw
  | calAutoStore t => exact execCalAutoStore_wf t s hw
  | hopTraining t h => exact execHopTraining_wf t h s hw
  | hopJoin t h lanes x => exact execHopJoin_wf t h lanes x s hw
  | hopRejoin t h => exact execHopRejoin_wf t h s hw
  | delayMeasurement t h probes trigPs => exact execDelayMeasurement_wf t h probes trigPs s hw
  | timeMessageSend => exact execTimeMessageSend_wf s hw
  | timeMessageReceive t device mstate => exact execTimeMessageReceive_wf t device mstate s hw
  | timeMessageTimeout => exact execTimeMessageTimeout_wf s hw
  | heartbeatSend => exact execHeartbeatSend_wf s hw
  | heartbeatTimeout h => exact execHeartbeatTimeout_wf h s hw
  | laneLockLoss t h lane headers groups => exact execLaneLockLoss_wf t h lane headers groups s hw
  | triggerWord t code parityOk => exact execTriggerWord_wf t code parityOk s hw
  | triggerWordAction => exact execTriggerWordAction_wf s hw
  | cut t received => exact execCut_wf t received s hw
  | cascadeMessage t src dst kind crcOk body => exact execCascadeMessage_wf t src dst kind crcOk body s hw
  | workerEventRelay t pos bytes => exact execWorkerEventRelay_wf t pos bytes s hw
  | eventRingWrite t stall => exact execEventRingWrite_wf t stall s hw
  | eventNotifyTimer => exact execEventNotifyTimer_wf s hw
  | dmaTransferDone t c read => exact execDmaTransferDone_wf t c read s hw
  | dmaHalfNotify t c read => exact execDmaHalfNotify_wf t c read s hw
  | dmaDescriptorDone t c read nextDesc => exact execDmaDescriptorDone_wf t c read nextDesc s hw
  | dmaTailRecheck t c tail nextDesc => exact execDmaTailRecheck_wf t c tail nextDesc s hw
  | dmaError t c cause written addr read => exact execDmaError_wf t c cause written addr read s hw
  | haloArmingComplete slot => exact execHaloArmingComplete_wf slot s hw
  | haloTrigIn t highNs => exact execHaloTrigIn_wf t highNs s hw
  | haloTriggerAccept t slot => exact execHaloTriggerAccept_wf t slot s hw
  | segmentComplete slot data => exact execSegmentComplete_wf slot data s hw
  | haloHoldoffEnd slot => exact execHaloHoldoffEnd_wf slot s hw
  | maskFrameTest t slot receiver meas => exact execMaskFrameTest_wf t slot receiver meas s hw
  | trigOutPulseEnd => exact execTrigOutPulseEnd_wf s hw
  | snapshotStrobe phaseErr => exact execSnapshotStrobe_wf phaseErr s hw
  | snapshotLatchComplete t => exact execSnapshotLatchComplete_wf t s hw
  | spareFailureDeclared t kind unit => exact execSpareFailureDeclared_wf t kind unit s hw
  | spareWindowOpen => exact execSpareWindowOpen_wf s hw
  | spareReplacementDone t interruptUs => exact execSpareReplacementDone_wf t interruptUs s hw
  | engineDrainTimeout => exact execEngineDrainTimeout_wf s hw
  | spareWear t indicator kind value => exact execSpareWear_wf t indicator kind value s hw
  | serviceRecordUpdate => exact execServiceRecordUpdate_wf s hw
  | hopTrainingFail t h lanes => exact execHopTrainingFail_wf t h lanes s hw
  | maintenanceWindowEnd => exact execMaintenanceWindowEnd_wf s hw
  | timeMarkSend => exact execTimeMarkSend_wf s hw
  | unitParityFault t owner => exact execUnitParityFault_wf t owner s hw
  | pcieLinkChange t up => exact execPcieLinkChange_wf t up s hw
  | pcieD3hotChange t d3hot => exact execPcieD3hotChange_wf t d3hot s hw
  | pcieCreditReturn t => exact execPcieCreditReturn_wf t s hw
  | bar2Write t off data => exact execBar2Write_wf t off data s hw
  | tapInstruction t x => exact execTapInstruction_wf t x s hw

/-- Settles O4: the memories of the queue's rest are those of the state, and each row keeps their form. -/
theorem memoriesStayCanonical : Obligations.MemoriesStayCanonical := by
  unfold Obligations.MemoriesStayCanonical
  intro s t hs hstep
  unfold step at hstep
  split at hstep
  · cases hstep
    exact hs
  · rename_i c rest _
    have hc := exec_wf c (s := { s with pending := rest }) hs
    rwa [hstep] at hc

/-! ### Every command row (R399, R408) -/

/-- What a row's effect may change where it ends with a status other than OK: Dawn's record for PWR_SLEEP, the boot fault for
SEC_BOOT_LOAD. -/
structure CmdEffect.Answers (i : Instr) (s : State) (e : CmdEffect) : Prop where
  failed : e.reply.status ≠ Status.ok → e.defer = false ∧
    { e.state with
      dawn := if i = .pwrSleep then s.dawn else e.state.dawn
      boot := if i = .secBootLoad then s.boot else e.state.boot } = s
  deferred : e.defer = true → e.state.host = s.host

/-- An effect that changes nothing where it fails is such an effect for every row. -/
theorem CmdEffect.Sound.answers {s : State} {e : CmdEffect} (h : e.Sound s) (i : Instr) : e.Answers i s where
  failed := fun hst => by
    obtain ⟨hs, hd⟩ := h.failed hst
    refine ⟨hd, ?_⟩
    simp only [hs, ite_self]
  deferred := h.deferred

/-- PWR_SLEEP refused is counted in Dawn's record. -/
theorem sleepBody_answers (r : Running) (s : State) : (sleepBody r s).Answers .pwrSleep s := by
  unfold sleepBody
  simp only []
  split
  · exact (CmdEffect.sound_status s _).answers _
  · split
    · exact ⟨fun _ => ⟨rfl, rfl⟩, fun h => absurd h Bool.false_ne_true⟩
    · (repeat' split) <;> exact ⟨fun h => absurd rfl h, fun h => absurd h Bool.false_ne_true⟩

/-- An image that fails sets the boot fault. -/
theorem bootLoadBody_answers (r : Running) (s : State) : (bootLoadBody r s).Answers .secBootLoad s := by
  unfold bootLoadBody
  simp only []
  split
  · exact (CmdEffect.sound_status s _).answers _
  · split
    · exact (CmdEffect.sound_status s _).answers _
    · split
      · exact ⟨fun _ => ⟨rfl, rfl⟩, fun h => absurd h Bool.false_ne_true⟩
      · exact ⟨fun h => absurd rfl h, fun h => absurd h Bool.false_ne_true⟩

/-- A row runs a body under its envelope, and the body's effects are of the form above. -/
def AnswersRow (p : Instr × CmdSpec) : Prop :=
  ∃ body, (∀ s, exec p.1 s = runCommand p.2 body s) ∧ ∀ r s, (body r s).Answers p.1 s

theorem commandRowsSys_answer : ∀ p ∈ commandRowsSys, AnswersRow p := by
  simp only [commandRowsSys, List.forall_mem_cons]
  exact ⟨⟨echoBody, fun _ => rfl, fun r s => (echoBody_sound r s).answers _⟩,
    ⟨getInfoBody, fun _ => rfl, fun r s => (getInfoBody_sound r s).answers _⟩,
    ⟨resetBody, fun _ => rfl, fun r s => (resetBody_sound r s).answers _⟩,
    ⟨eventFilterBody, fun _ => rfl, fun r s => (eventFilterBody_sound r s).answers _⟩,
    ⟨nvGetInfoBody, fun _ => rfl, fun r s => (nvGetInfoBody_sound r s).answers _⟩,
    ⟨nvWriteBody, fun _ => rfl, fun r s => (nvWriteBody_sound r s).answers _⟩,
    ⟨fwInstallBody, fun _ => rfl, fun r s => (fwInstallBody_sound r s).answers _⟩,
    ⟨fwActivateBody, fun _ => rfl, fun r s => (fwActivateBody_sound r s).answers _⟩,
    ⟨fwConfirmBody, fun _ => rfl, fun r s => (fwConfirmBody_sound r s).answers _⟩,
    ⟨fabricGetStatusBody, fun _ => rfl, fun r s => (fabricGetStatusBody_sound r s).answers _⟩,
    ⟨memGetEccBody, fun _ => rfl, fun r s => (memGetEccBody_sound r s).answers _⟩,
    ⟨leaseGetBody, fun _ => rfl, fun r s => (leaseGetBody_sound r s).answers _⟩,
    ⟨procGetStatusBody, fun _ => rfl, fun r s => (procGetStatusBody_sound r s).answers _⟩,
    by simp⟩

theorem commandRowsSyn_answer : ∀ p ∈ commandRowsSyn, AnswersRow p := by
  simp only [commandRowsSyn, List.forall_mem_cons]
  exact ⟨⟨setStateBody, fun _ => rfl, fun r s => (setStateBody_sound r s).answers _⟩,
    ⟨setModeBody, fun _ => rfl, fun r s => (setModeBody_sound r s).answers _⟩,
    ⟨tuneBody, fun _ => rfl, fun r s => (tuneBody_sound r s).answers _⟩,
    ⟨commitBody, fun _ => rfl, fun r s => (commitBody_sound r s).answers _⟩,
    ⟨switchBody, fun _ => rfl, fun r s => (switchBody_sound r s).answers _⟩,
    ⟨storeEntryBody, fun _ => rfl, fun r s => (storeEntryBody_sound r s).answers _⟩,
    ⟨readEntryBody, fun _ => rfl, fun r s => (readEntryBody_sound r s).answers _⟩,
    ⟨setClkoutBody, fun _ => rfl, fun r s => (setClkoutBody_sound r s).answers _⟩,
    ⟨setReferenceBody, fun _ => rfl, fun r s => (setReferenceBody_sound r s).answers _⟩,
    ⟨synGetStatusBody, fun _ => rfl, fun r s => (synGetStatusBody_sound r s).answers _⟩,
    by simp⟩

theorem commandRowsPath_answer : ∀ p ∈ commandRowsPath, AnswersRow p := by
  simp only [commandRowsPath, List.forall_mem_cons]
  exact ⟨⟨setEnableBody, fun _ => rfl, fun r s => (setEnableBody_sound r s).answers _⟩,
    ⟨setGainBody, fun _ => rfl, fun r s => (setGainBody_sound r s).answers _⟩,
    ⟨setAgcBody, fun _ => rfl, fun r s => (setAgcBody_sound r s).answers _⟩,
    ⟨setAttenBody, fun _ => rfl, fun r s => (setAttenBody_sound r s).answers _⟩,
    ⟨setFeTimingBody, fun _ => rfl, fun r s => (setFeTimingBody_sound r s).answers _⟩,
    ⟨setObsBody, fun _ => rfl, fun r s => (setObsBody_sound r s).answers _⟩,
    ⟨pathStatusBody, fun _ => rfl, fun r s => (pathStatusBody_sound r s).answers _⟩,
    ⟨auxAdcConfigBody, fun _ => rfl, fun r s => (auxAdcConfigBody_sound r s).answers _⟩,
    ⟨auxAdcReadBody, fun _ => rfl, fun r s => (auxAdcReadBody_sound r s).answers _⟩,
    ⟨auxDacSetBody, fun _ => rfl, fun r s => (auxDacSetBody_sound r s).answers _⟩,
    ⟨auxDacSineBody, fun _ => rfl, fun r s => (auxDacSineBody_sound r s).answers _⟩,
    by simp⟩

theorem commandRowsFilt_answer : ∀ p ∈ commandRowsFilt, AnswersRow p := by
  simp only [commandRowsFilt, List.forall_mem_cons]
  exact ⟨⟨loadSetBody, fun _ => rfl, fun r s => (loadSetBody_sound r s).answers _⟩,
    ⟨assignBody, fun _ => rfl, fun r s => (assignBody_sound r s).answers _⟩,
    ⟨filtApplyBody, fun _ => rfl, fun r s => (filtApplyBody_sound r s).answers _⟩,
    ⟨setDetectorBody, fun _ => rfl, fun r s => (setDetectorBody_sound r s).answers _⟩,
    ⟨filtGetStatusBody, fun _ => rfl, fun r s => (filtGetStatusBody_sound r s).answers _⟩,
    by simp⟩

theorem commandRowsBeam_answer : ∀ p ∈ commandRowsBeam, AnswersRow p := by
  simp only [commandRowsBeam, List.forall_mem_cons]
  exact ⟨⟨setGeometryBody, fun _ => rfl, fun r s => (setGeometryBody_sound r s).answers _⟩,
    ⟨setGridBody, fun _ => rfl, fun r s => (setGridBody_sound r s).answers _⟩,
    ⟨setRxSourceBody, fun _ => rfl, fun r s => (setRxSourceBody_sound r s).answers _⟩,
    ⟨loadBankBody, fun _ => rfl, fun r s => (loadBankBody_sound r s).answers _⟩,
    ⟨beamSwapBody, fun _ => rfl, fun r s => (beamSwapBody_sound r s).answers _⟩,
    ⟨setAdaptiveBody, fun _ => rfl, fun r s => (setAdaptiveBody_sound r s).answers _⟩,
    ⟨setScaleBody, fun _ => rfl, fun r s => (setScaleBody_sound r s).answers _⟩,
    ⟨sigPinBody, fun _ => rfl, fun r s => (sigPinBody_sound r s).answers _⟩,
    ⟨sigReadBody, fun _ => rfl, fun r s => (sigReadBody_sound r s).answers _⟩,
    ⟨beamGetStatusBody, fun _ => rfl, fun r s => (beamGetStatusBody_sound r s).answers _⟩,
    by simp⟩

theorem commandRowsHzn_answer : ∀ p ∈ commandRowsHzn, AnswersRow p := by
  simp only [commandRowsHzn, List.forall_mem_cons]
  exact ⟨⟨setProfileBody, fun _ => rfl, fun r s => (setProfileBody_sound r s).answers _⟩,
    ⟨setNoiseBody, fun _ => rfl, fun r s => (setNoiseBody_sound r s).answers _⟩,
    ⟨readNoiseBody, fun _ => rfl, fun r s => (readNoiseBody_sound r s).answers _⟩,
    ⟨hznStatusBody, fun _ => rfl, fun r s => (hznStatusBody_sound r s).answers _⟩,
    ⟨hznCountersBody, fun _ => rfl, fun r s => (hznCountersBody_sound r s).answers _⟩,
    by simp⟩

theorem commandRowsDmd_answer : ∀ p ∈ commandRowsDmd, AnswersRow p := by
  simp only [commandRowsDmd, List.forall_mem_cons]
  exact ⟨⟨setControlBody, fun _ => rfl, fun r s => (setControlBody_sound r s).answers _⟩,
    ⟨getControlBody, fun _ => rfl, fun r s => (getControlBody_sound r s).answers _⟩,
    ⟨dmdCountersBody, fun _ => rfl, fun r s => (dmdCountersBody_sound r s).answers _⟩,
    ⟨getContextsBody, fun _ => rfl, fun r s => (getContextsBody_sound r s).answers _⟩,
    by simp⟩

theorem commandRowsTx_answer : ∀ p ∈ commandRowsTx, AnswersRow p := by
  simp only [commandRowsTx, List.forall_mem_cons]
  exact ⟨⟨txSubmitBody, fun _ => rfl, fun r s => (txSubmitBody_sound r s).answers _⟩,
    ⟨txCancelBody, fun _ => rfl, fun r s => (txCancelBody_sound r s).answers _⟩,
    ⟨txSetRampBody, fun _ => rfl, fun r s => (txSetRampBody_sound r s).answers _⟩,
    ⟨txSetCoexBody, fun _ => rfl, fun r s => (txSetCoexBody_sound r s).answers _⟩,
    ⟨txGetStatusBody, fun _ => rfl, fun r s => (txGetStatusBody_sound r s).answers _⟩,
    ⟨txRegReadBody, fun _ => rfl, fun r s => (txRegReadBody_sound r s).answers _⟩,
    ⟨regSupersedeBody, fun _ => rfl, fun r s => (regSupersedeBody_sound r s).answers _⟩,
    by simp⟩

theorem commandRowsDpd_answer : ∀ p ∈ commandRowsDpd, AnswersRow p := by
  simp only [commandRowsDpd, List.forall_mem_cons]
  exact ⟨⟨dpdSetModeBody, fun _ => rfl, fun r s => (dpdSetModeBody_sound r s).answers _⟩,
    ⟨dpdLoadBody, fun _ => rfl, fun r s => (dpdLoadBody_sound r s).answers _⟩,
    ⟨dpdReadBody, fun _ => rfl, fun r s => (dpdReadBody_sound r s).answers _⟩,
    ⟨dpdGetStatusBody, fun _ => rfl, fun r s => (dpdGetStatusBody_sound r s).answers _⟩,
    ⟨setMismatchBody, fun _ => rfl, fun r s => (setMismatchBody_sound r s).answers _⟩,
    ⟨setTunerMapBody, fun _ => rfl, fun r s => (setTunerMapBody_sound r s).answers _⟩,
    ⟨tuneWindowBody, fun _ => rfl, fun r s => (tuneWindowBody_sound r s).answers _⟩,
    ⟨setTunerBody, fun _ => rfl, fun r s => (setTunerBody_sound r s).answers _⟩,
    ⟨rffeXferBody, fun _ => rfl, fun r s => (rffeXferBody_sound r s).answers _⟩,
    by simp⟩

theorem commandRowsCal_answer : ∀ p ∈ commandRowsCal, AnswersRow p := by
  simp only [commandRowsCal, List.forall_mem_cons]
  exact ⟨⟨calRunBody, fun _ => rfl, fun r s => (calRunBody_sound r s).answers _⟩,
    ⟨setSupervisorBody, fun _ => rfl, fun r s => (setSupervisorBody_sound r s).answers _⟩,
    ⟨calGetStatusBody, fun _ => rfl, fun r s => (calGetStatusBody_sound r s).answers _⟩,
    ⟨pathStatsBody, fun _ => rfl, fun r s => (pathStatsBody_sound r s).answers _⟩,
    ⟨calStoreBody, fun _ => rfl, fun r s => (calStoreBody_sound r s).answers _⟩,
    ⟨calRestoreBody, fun _ => rfl, fun r s => (calRestoreBody_sound r s).answers _⟩,
    ⟨calReadSetBody, fun _ => rfl, fun r s => (calReadSetBody_sound r s).answers _⟩,
    ⟨setCouplerBody, fun _ => rfl, fun r s => (setCouplerBody_sound r s).answers _⟩,
    by simp⟩

theorem commandRowsFh_answer : ∀ p ∈ commandRowsFh, AnswersRow p := by
  simp only [commandRowsFh, List.forall_mem_cons]
  exact ⟨⟨setPortBody, fun _ => rfl, fun r s => (setPortBody_sound r s).answers _⟩,
    ⟨setStreamBody, fun _ => rfl, fun r s => (setStreamBody_sound r s).answers _⟩,
    ⟨setRecordsBody, fun _ => rfl, fun r s => (setRecordsBody_sound r s).answers _⟩,
    ⟨setPtpBody, fun _ => rfl, fun r s => (setPtpBody_sound r s).answers _⟩,
    ⟨fhGetTimeBody, fun _ => rfl, fun r s => (fhGetTimeBody_sound r s).answers _⟩,
    ⟨getPortStatusBody, fun _ => rfl, fun r s => (getPortStatusBody_sound r s).answers _⟩,
    by simp⟩

theorem commandRowsLcl_answer : ∀ p ∈ commandRowsLcl, AnswersRow p := by
  simp only [commandRowsLcl, List.forall_mem_cons]
  exact ⟨⟨setChainBody, fun _ => rfl, fun r s => (setChainBody_sound r s).answers _⟩,
    ⟨lclGetStatusBody, fun _ => rfl, fun r s => (lclGetStatusBody_sound r s).answers _⟩,
    ⟨retrainBody, fun _ => rfl, fun r s => (retrainBody_sound r s).answers _⟩,
    ⟨getLinkBody, fun _ => rfl, fun r s => (getLinkBody_sound r s).answers _⟩,
    ⟨lastRelayBody, fun _ => rfl, fun r s => (lastRelayBody_sound r s).answers _⟩,
    by simp⟩

theorem commandRowsHalo_answer : ∀ p ∈ commandRowsHalo, AnswersRow p := by
  simp only [commandRowsHalo, List.forall_mem_cons]
  exact ⟨⟨haloArmBody, fun _ => rfl, fun r s => (haloArmBody_sound r s).answers _⟩,
    ⟨haloDisarmBody, fun _ => rfl, fun r s => (haloDisarmBody_sound r s).answers _⟩,
    ⟨haloTriggerBody, fun _ => rfl, fun r s => (haloTriggerBody_sound r s).answers _⟩,
    ⟨setMaskBody, fun _ => rfl, fun r s => (setMaskBody_sound r s).answers _⟩,
    ⟨getCaptureBody, fun _ => rfl, fun r s => (getCaptureBody_sound r s).answers _⟩,
    ⟨haloReadBody, fun _ => rfl, fun r s => (haloReadBody_sound r s).answers _⟩,
    ⟨snapshotBody, fun _ => rfl, fun r s => (snapshotBody_sound r s).answers _⟩,
    ⟨snapReadBody, fun _ => rfl, fun r s => (snapReadBody_sound r s).answers _⟩,
    ⟨setTrigOutBody, fun _ => rfl, fun r s => (setTrigOutBody_sound r s).answers _⟩,
    by simp⟩

theorem commandRowsPwr_answer : ∀ p ∈ commandRowsPwr, AnswersRow p := by
  simp only [commandRowsPwr, List.forall_mem_cons]
  exact ⟨⟨sleepBody, fun _ => rfl, sleepBody_answers⟩,
    ⟨pwrStatusBody, fun _ => rfl, fun r s => (pwrStatusBody_sound r s).answers _⟩,
    ⟨getWakeBody, fun _ => rfl, fun r s => (getWakeBody_sound r s).answers _⟩,
    by simp⟩

theorem commandRowsSpare_answer : ∀ p ∈ commandRowsSpare, AnswersRow p := by
  simp only [commandRowsSpare, List.forall_mem_cons]
  exact ⟨⟨spareStatusBody, fun _ => rfl, fun r s => (spareStatusBody_sound r s).answers _⟩,
    ⟨setWindowBody, fun _ => rfl, fun r s => (setWindowBody_sound r s).answers _⟩,
    ⟨retireBody, fun _ => rfl, fun r s => (retireBody_sound r s).answers _⟩,
    ⟨restoreBody, fun _ => rfl, fun r s => (restoreBody_sound r s).answers _⟩,
    by simp⟩

theorem commandRowsSec_answer : ∀ p ∈ commandRowsSec, AnswersRow p := by
  simp only [commandRowsSec, List.forall_mem_cons]
  exact ⟨⟨bootLoadBody, fun _ => rfl, bootLoadBody_answers⟩,
    ⟨secGetStateBody, fun _ => rfl, fun r s => (secGetStateBody_sound r s).answers _⟩,
    ⟨setOemKeyBody, fun _ => rfl, fun r s => (setOemKeyBody_sound r s).answers _⟩,
    ⟨sealRecordBody, fun _ => rfl, fun r s => (sealRecordBody_sound r s).answers _⟩,
    ⟨lockDebugBody, fun _ => rfl, fun r s => (lockDebugBody_sound r s).answers _⟩,
    by simp⟩

/-- Every command row runs a body of that form under its envelope. -/
theorem commandRows_answer : ∀ p ∈ commandRows, AnswersRow p := by
  simp only [commandRows, List.forall_mem_append]
  exact ⟨⟨⟨⟨⟨⟨⟨⟨⟨⟨⟨⟨⟨⟨⟨commandRowsSys_answer, commandRowsSyn_answer⟩, commandRowsPath_answer⟩, commandRowsFilt_answer⟩,
    commandRowsBeam_answer⟩, commandRowsHzn_answer⟩, commandRowsDmd_answer⟩, commandRowsTx_answer⟩, commandRowsDpd_answer⟩,
    commandRowsCal_answer⟩, commandRowsFh_answer⟩, commandRowsLcl_answer⟩, commandRowsHalo_answer⟩, commandRowsPwr_answer⟩,
    commandRowsSpare_answer⟩, commandRowsSec_answer⟩

section
variable {s : State} {sp : CmdSpec} {r : Running}

/-- A command of the host on a device that manages no chain, sent to a position. -/
theorem State.targetCheck_notManager (hc : r.cascade = false) (hr : s.role ≠ .manager) (h0 : r.cmd.target ≠ 0)
    (hall : r.cmd.target ≠ 0xFFFF) : s.targetCheck r = some Status.badParam := by
  cases hrole : s.role with
  | manager => exact absurd hrole hr
  | standalone => simp [State.targetCheck, hc, hrole, h0, hall]
  | worker => simp [State.targetCheck, hc, hrole, h0, hall]
  | invalid => simp [State.targetCheck, hc, hrole, h0, hall]

/-- With the length right, the check of the target comes next, then that of the rule. -/
theorem State.envelopeCheck_of_length (hlo : sp.minLen r.cmd.payload ≤ r.cmd.length) (hhi : r.cmd.length ≤ 4096) :
    s.envelopeCheck sp r = (s.targetCheck r).or (s.ruleCheck sp.rule r) := by
  unfold State.envelopeCheck
  rw [if_neg (by simp [Nat.not_lt.mpr hlo, Nat.not_lt.mpr hhi])]
  cases s.targetCheck r <;> rfl

/-- A STANDALONE device relays nothing. -/
theorem State.relayTargets_standalone (h : s.role = .standalone) : s.relayTargets sp r = [] := by
  simp [State.relayTargets, h]

/-- The response of a command of this device changes the command unit and the host interface alone. -/
theorem State.respond_local (p : Reply) (hc : r.cascade = false) : { s.respond r p with cmd := s.cmd, host := s.host } = s := by
  unfold State.respond
  by_cases ho : r.orphan = true <;> simp [hc, ho]

/-- A frame of the command unit and the host interface over one of Dawn's record and the boot. -/
theorem State.frames_trans {u v w : State} {c d : Prop} [Decidable c] [Decidable d]
    (hu : { u with cmd := v.cmd, host := v.host } = v)
    (hv : { v with dawn := if c then w.dawn else v.dawn, boot := if d then w.boot else v.boot } = w) :
    { u with
      cmd := w.cmd, host := w.host, dawn := if c then w.dawn else u.dawn, boot := if d then w.boot else u.boot } = w := by
  have hcmd : v.cmd = w.cmd := by rw [← hv]
  have hhost : v.host = w.host := by rw [← hv]
  rw [← hu] at hv
  simpa only [hcmd, hhost] using hv

/-- The mailbox of a command once its response is written. -/
theorem State.respond_mailbox (p : Reply) (hc : r.cascade = false) (ho : r.orphan = false) :
    (s.respond r p).host.mailbox r.mbx = { s.host.mailbox r.mbx with
      area := overlay (s.host.mailbox r.mbx).area (responseHeader r.cmd p.status p.payload.length ++ p.payload)
      state := .response } := by
  simp [State.respond, hc, ho, HostIf.mailbox, HostIf.notify, HostIf.sendVector, apply_ite HostIf.mbx]

/-- The Status field of a response. -/
theorem u16_responseHeader_status (c : Cmd) (st len : Nat) (p : List Byte) :
    u16 (responseHeader c st len ++ p) 8 = st % 65536 := by
  simp [responseHeader, le, u16, u8]
  omega

end

/-- Settles O45: each row runs its body under the envelope, and the checks come in the order of R408. -/
theorem commandEnvelope : Obligations.CommandEnvelope := by
  unfold Obligations.CommandEnvelope
  refine ⟨?_, ?_, ?_, ?_, ?_, ?_, ?_, ?_⟩
  · intro p s r st hp ht
    obtain ⟨body, hexec, -⟩ := commandRows_answer p hp
    rw [hexec, runCommand_turnedAway body ht]
  · intro p s hp hn
    obtain ⟨body, hexec, -⟩ := commandRows_answer p hp
    rw [hexec, runCommand_other body fun r hr ho => hn (by rw [hr, Option.map_some, ho])]
  · intro s sp r h
    simp [State.envelopeCheck, h, Status.badParam]
  · intro s sp r hlo hhi hc hr h0 hall
    rw [State.envelopeCheck_of_length hlo hhi, State.targetCheck_notManager hc hr h0 hall]
    rfl
  · intro s sp r hlo hhi hc hr hp hall
    rw [State.envelopeCheck_of_length hlo hhi]
    simp [State.targetCheck, hc, hr, hall, hp, Nat.ne_of_gt hp, Status.badParam]
  · intro s sp r hlo hhi hc hr hp hall hj
    rw [State.envelopeCheck_of_length hlo hhi]
    simp [State.targetCheck, hc, hr, hall, Nat.ne_of_lt hp, Nat.not_lt.mpr (Nat.le_of_lt hp), hj, Status.noDevice]
  · intro s sp r hlo hhi ht hr hrule hall
    rw [State.envelopeCheck_of_length hlo hhi, ht]
    simp [State.ruleCheck, hrule, hr, hall, Status.notPermitted]
  · intro s sp r hlo hhi ht hr hrule
    rw [State.envelopeCheck_of_length hlo hhi, ht]
    simp [State.ruleCheck, hrule, State.isWorker, hr, Status.notPermitted]

/-- Settles O46: a row's effect that failed changed nothing else, one that succeeded has Status 0, and one that waits has left the
mailbox in EXECUTING. -/
theorem failedCommandChangesNothing : Obligations.FailedCommandChangesNothing := by
  unfold Obligations.FailedCommandChangesNothing
  intro p s r hp hrun hrole hc ho hx
  obtain ⟨body, hexec, hans⟩ := commandRows_answer p hp
  obtain ⟨hfailed, hdeferred⟩ := hans r s
  have halone : s.relayTargets p.2 r = [] := State.relayTargets_standalone hrole
  refine ⟨_, (hexec s).trans (runCommand_runs body hrun), fun hresp hst => ?_⟩
  by_cases hd : (body r s).defer = true
  · have hclose : (s.close p.2 r (body r s)).host = s.host := by
      simp [State.close, State.finish, halone, hd, hdeferred hd]
    rw [hclose, hx] at hresp
    cases hresp
  · rw [close_alone halone (Bool.not_eq_true _ ▸ hd)] at hst ⊢
    by_cases hok : (body r s).reply.status = Status.ok
    · rw [State.respond_mailbox _ hc ho] at hst
      exact absurd (by simp [overlay, u16_responseHeader_status, hok, Status.ok]) hst
    · obtain ⟨-, hstate⟩ := hfailed hok
      exact State.frames_trans (State.respond_local _ hc) hstate

/-- Settles O1. -/
theorem stepRunsFrontCommand : Obligations.StepRunsFrontCommand := by
  unfold Obligations.StepRunsFrontCommand
  refine ⟨fun c rest s => rfl, fun s hs => ?_⟩
  rw [step, hs]

/-- Settles O3. -/
theorem memoriesCanonicalAtReset : Obligations.MemoriesCanonicalAtReset := rfl

/-- Settles O2, each register by the value that `readReg` computes. -/
theorem resetValues : Obligations.ResetValues := by
  unfold Obligations.ResetValues
  have hdma : ∀ c : Fin 8, ∀ k : Fin 14, State.reset.readReg (0x2000 + 0x40 * c.val + 4 * k.val) = 0 := by decide
  exact ⟨rfl, rfl, rfl, rfl, rfl, rfl, rfl, rfl, rfl, rfl, rfl, rfl, rfl, rfl, rfl, rfl, rfl, rfl, rfl, rfl, hdma, fun _ => rfl,
    rfl, rfl, rfl, rfl, rfl⟩

/-- Settles O44. -/
theorem commandTable : Obligations.CommandTable := by
  unfold Obligations.CommandTable
  have hknown : (commandRows.map (fun p => p.2.opcode)).all opcodeKnown = true := rfl
  refine ⟨rfl, fun p hp => ?_, rfl, rfl⟩
  exact List.all_eq_true.mp hknown _ (List.mem_map_of_mem hp)

/-! ### The commands of the sys group (R409) -/

section
variable {s : State} {r : Running}

/-- SYS_RESET with its key, scope and delay. -/
theorem resetBody_scheduled (hk : u8 r.cmd.payload 1 = 0xA5) (hlo : 1 ≤ u16 r.cmd.payload 2) (hhi : u16 r.cmd.payload 2 ≤ 1000)
    (hs : u8 r.cmd.payload 0 = 0 ∨ (u8 r.cmd.payload 0 = 1 ∧ s.role = .manager ∧ r.cascade = false ∧
      (r.cmd.target = 0xFFFF ∨ r.cmd.target = s.lcl.position))) :
    resetBody r s = .ok { s with cmd := { s.cmd with
      sysReset := some { due := s.now + u16 r.cmd.payload 2 * 384000000, chain := u8 r.cmd.payload 0 == 1 } } } [] := by
  have hcheck : resetCheck r s = none := by
    rcases hs with h0 | ⟨h1, hr, hc, ht⟩
    · simp [resetCheck, firstFailure, h0, hk, inRange, hlo, hhi]
    · simp [resetCheck, firstFailure, h1, hr, hc, ht, hk, inRange, hlo, hhi]
  unfold resetBody
  rw [hcheck]
  rfl

/-- SYS_RESET of a chain away from its manager. -/
theorem resetBody_notManager (h1 : u8 r.cmd.payload 0 = 1) (hr : s.role ≠ .manager) :
    resetBody r s = .status s Status.notPermitted := by
  have hcheck : resetCheck r s = some Status.notPermitted := by simp [resetCheck, firstFailure, h1, hr]
  rw [resetBody, hcheck]

/-- SYS_RESET without its key. -/
theorem resetBody_noKey (h0 : u8 r.cmd.payload 0 = 0) (hk : u8 r.cmd.payload 1 ≠ 0xA5) :
    resetBody r s = .status s Status.badParam := by
  have hcheck : resetCheck r s = some Status.badParam := by simp [resetCheck, firstFailure, h0, hk]
  rw [resetBody, hcheck]

/-- The entry of a table that lists a function of the indices from 1 on. -/
theorem Tab.get_rangeSucc {α : Type} (f : Nat → α) (d : α) {n k : Nat} (hk : k < n) :
    Tab.get ((List.range n).map (fun j => (j + 1, f (j + 1)))) (k + 1) d = f (k + 1) := by
  have hsplit : (List.range n).map (fun j => (j + 1, f (j + 1))) = ((List.range n).map (· + 1)).map (fun j => (j, f j)) := by
    rw [List.map_map]
    rfl
  rw [Tab.get, hsplit, Tab.find?_map_pair f (List.mem_map.mpr ⟨k, List.mem_range.mpr hk, rfl⟩), Option.getD_some]

end

/-- Settles O49. -/
theorem systemCommands : Obligations.SystemCommands := by
  unfold Obligations.SystemCommands
  refine ⟨?_, ?_, ?_, ?_, ?_, ?_, ?_⟩
  · exact fun s r h => runCommand_effect h rfl
  · exact fun s r h => runCommand_effect h rfl
  · exact fun s r h hk hlo hhi hs => runCommand_effect h (resetBody_scheduled hk hlo hhi hs)
  · exact fun s r h h1 hr => runCommand_status h (resetBody_notManager h1 hr) (by decide)
  · exact fun s r h h0 hk => runCommand_status h (resetBody_noKey h0 hk) (by decide)
  · intro s r h hk
    have hall : (List.range 15).all (fun k => decide (u8 r.cmd.payload (k + 1) ≤ 4)) = true :=
      List.all_eq_true.mpr fun k hm => decide_eq_true (hk ⟨k, List.mem_range.mp hm⟩)
    refine ⟨_, runCommand_effect h (if_pos hall), fun k => ?_, rfl⟩
    exact Tab.get_rangeSucc (fun j => u8 r.cmd.payload j) 0 k.isLt
  · intro s r h
    refine runCommand_effect h ?_
    simp [nvGetInfoBody, State.nvInfo, State.nvTempOk, inRangeZ, b8]

/-! ### The response of a command (R388, R399) -/

section
variable {s : State} {r : Running} {p : Reply}

/-- The bytes of a response at the front of its mailbox area. -/
theorem overlay_take (old new : List Byte) : (overlay old new).take new.length = new := by
  simp [overlay]

/-- A vector that is masked becomes pending. -/
theorem HostIf.sendVector_masked {h : HostIf} {v : Nat} (hm : (h.entry v).control.getLsbD 0 = true) :
    h.sendVector v = { h with msixPending := h.msixPending ||| bitAt 32 v } := if_pos hm

/-- A vector that is not masked is sent with the address and the data of its entry. -/
theorem HostIf.sendVector_open {h : HostIf} {v : Nat} (hm : ¬(h.entry v).control.getLsbD 0 = true) :
    h.sendVector v = { h with sent := h.sent ++
      [⟨v, (h.entry v).addrLo.toNat + 2 ^ 32 * (h.entry v).addrHi.toNat, (h.entry v).data⟩] } := if_neg hm

/-- A notification on a masked vector becomes pending. -/
theorem HostIf.notify_masked {h : HostIf} {v bit : Nat} (hm : (h.entry v).control.getLsbD 0 = true) :
    (h.notify v bit).sent = h.sent ∧ (h.notify v bit).msixPending = h.msixPending ||| bitAt 32 v := by
  rw [HostIf.notify, HostIf.sendVector_masked hm]
  exact ⟨rfl, rfl⟩

/-- A notification on a vector that is not masked is sent. -/
theorem HostIf.notify_open {h : HostIf} {v bit : Nat} (hm : ¬(h.entry v).control.getLsbD 0 = true) :
    (h.notify v bit).sent.length = h.sent.length + 1 ∧ (h.notify v bit).msixPending = h.msixPending := by
  rw [HostIf.notify, HostIf.sendVector_open hm]
  exact ⟨List.length_append, rfl⟩

/-- A response written to its mailbox: the host is notified of it. -/
theorem State.respond_host (hc : r.cascade = false) (ho : r.orphan = false) :
    (s.respond r p).host = HostIf.notify { s.host with mbx := Tab.set s.host.mbx r.mbx { s.host.mailbox r.mbx with
      area := overlay (s.host.mailbox r.mbx).area (responseHeader r.cmd p.status p.payload.length ++ p.payload)
      state := .response } } (1 + r.mbx) (1 + r.mbx) := by
  simp [State.respond, hc, ho]

/-- The vector of a response is sent, or pending where it is masked. -/
theorem State.respond_vector (hc : r.cascade = false) (ho : r.orphan = false) :
    if (s.host.entry (1 + r.mbx)).control.getLsbD 0 = true then
        (s.respond r p).host.sent = s.host.sent ∧
          (s.respond r p).host.msixPending = s.host.msixPending ||| bitAt 32 (1 + r.mbx)
      else (s.respond r p).host.sent.length = s.host.sent.length + 1 ∧
          (s.respond r p).host.msixPending = s.host.msixPending := by
  rw [State.respond_host hc ho]
  by_cases hm : (s.host.entry (1 + r.mbx)).control.getLsbD 0 = true
  · rw [if_pos hm]
    exact HostIf.notify_masked hm
  · rw [if_neg hm]
    exact HostIf.notify_open hm

/-- The other mailboxes. -/
theorem State.respond_mailbox_ne (hc : r.cascade = false) (ho : r.orphan = false) {m : Nat} (hm : m ≠ r.mbx) :
    (s.respond r p).host.mailbox m = s.host.mailbox m := by
  simp [State.respond_host hc ho, HostIf.notify, HostIf.sendVector, HostIf.mailbox, apply_ite HostIf.mbx, hm]

/-- A command with a response is no longer among those without one. -/
theorem State.respond_running : ∀ x ∈ (s.respond r p).cmd.running, x.order ≠ r.order := by
  have hrun : (s.respond r p).cmd.running = (s.cmd.drop r.order).running := by
    unfold State.respond
    by_cases hc : r.cascade = true
    · simp [hc]
    · by_cases ho : r.orphan = true <;> simp [hc, ho]
  intro x hx
  rw [hrun] at hx
  simpa using (List.mem_filter.mp hx).2

end

/-- Settles O47, by the rules of a written response. -/
theorem commandResponse : Obligations.CommandResponse := by
  unfold Obligations.CommandResponse
  have hecho : ∀ (s : State) (r : Running), Runs s r specSysEcho → s.relayTargets specSysEcho r = [] →
      exec .sysEcho s = .next (s.respond r ⟨Status.ok, r.cmd.payload⟩) := fun s r h ht =>
    (runCommand_effect (body := echoBody) h rfl).trans (congrArg _ (close_alone ht rfl))
  refine ⟨?_, ?_, ?_⟩
  · intro s r h ht hc ho
    refine ⟨_, hecho s r h ht, ?_, ?_, ?_, ?_, State.respond_running, fun m hm => State.respond_mailbox_ne hc ho hm,
      State.respond_local _ hc⟩
    · rw [State.respond_mailbox _ hc ho]
      have hlen : 16 + r.cmd.payload.length =
          (responseHeader r.cmd Status.ok r.cmd.payload.length ++ r.cmd.payload).length := by
        simp [responseHeader, zeros]
        omega
      rw [hlen, overlay_take]
      rfl
    · rw [State.respond_mailbox _ hc ho]
    · rw [State.respond_host hc ho]
      rfl
    · exact State.respond_vector hc ho
  · intro s r h ht hc
    refine ⟨_, hecho s r h ht, ?_, ?_⟩
    · simp [State.respond, hc, State.toManager, State.message, responseHeader, zeros, Status.ok]
    · simp [State.respond, hc]
  · intro s r h ht hc ho
    refine ⟨_, hecho s r h ht, ?_⟩
    simp [State.respond, hc, ho]

end Sys2Proof.Machine
end

section
/-!
PROOFS. The host interface (family 13): mailboxes, the event ring, the registers and the resets of the endpoint.
-/

namespace Sys2Proof.Machine

open Sys2Proof

/-- A fold whose every step leaves the value. -/
theorem foldl_fixed_of_mem {α β : Type} {f : α → β → α} {a : α} {l : List β} (h : ∀ b ∈ l, f a b = a) : l.foldl f a = a := by
  induction l with
  | nil => rfl
  | cons b l ih =>
    obtain ⟨hb, hl⟩ := List.forall_mem_cons.mp h
    rw [List.foldl_cons, hb, ih hl]

/-! ### Mailboxes (R387 to R389) -/

section
variable {s : State}

/-- A mailbox that is replaced, and the others. -/
@[simp] theorem State.setMailbox_mailbox (n m : Nat) (b : Mailbox) :
    (s.setMailbox n b).host.mailbox m = if m = n then b else s.host.mailbox m := by
  simp [State.setMailbox, HostIf.mailbox]

/-- What RING does to a mailbox whose bit is written. -/
def Mailbox.ring (b : Mailbox) : Mailbox :=
  if b.state = .idle then { b with state := .pending } else { b with overrun := true }

/-- What a clear of DONE does to a mailbox whose bit is written. -/
def Mailbox.release (b : Mailbox) : Mailbox := if b.state = .response then { b with state := .idle } else b

/-- RING for one mailbox. -/
theorem State.ring_eq (n : Nat) : s.ring n = s.setMailbox n (s.host.mailbox n).ring := by
  unfold State.ring Mailbox.ring
  simp only []
  split <;> rfl

/-- A clear of DONE for one mailbox. -/
theorem State.release_mailbox (n m : Nat) :
    (s.release n).host.mailbox m = if m = n then (s.host.mailbox n).release else s.host.mailbox m := by
  unfold State.release Mailbox.release
  simp only []
  by_cases hr : (s.host.mailbox n).state = .response
  · rw [if_pos hr, if_pos hr, State.setMailbox_mailbox]
  · rw [if_neg hr, if_neg hr]
    split
    · next h => rw [h]
    · rfl

/-- Operations on the mailboxes of a list, each mailbox once. -/
theorem State.foldl_mailbox {f : State → Nat → State} {g : Mailbox → Mailbox}
    (hf : ∀ (s : State) (n m : Nat), (f s n).host.mailbox m = if m = n then g (s.host.mailbox n) else s.host.mailbox m)
    {l : List Nat} (hl : l.Nodup) (m : Nat) :
    (l.foldl f s).host.mailbox m = if m ∈ l then g (s.host.mailbox m) else s.host.mailbox m := by
  induction l generalizing s with
  | nil => simp
  | cons n l ih =>
    obtain ⟨hn, hl⟩ := List.nodup_cons.mp hl
    rw [List.foldl_cons, ih hl, hf]
    by_cases hm : m = n
    · subst hm
      simp [hn]
    · simp [hm]

/-- The set bits of a mask, each once. -/
theorem bitsOf_nodup {w : Nat} (m : BitVec w) : (bitsOf m).Nodup := List.nodup_range.filter _

/-- The state without its mailboxes and its time. -/
def State.sansMailboxes (s : State) : State := { s with host := { s.host with mbx := [] }, now := 0 }

/-- What differs in the mailboxes and the time alone is the state with the other's mailboxes and time. -/
theorem State.frame_of_sansMailboxes {u : State} (h : u.sansMailboxes = s.sansMailboxes) :
    { u with host := { u.host with mbx := s.host.mbx }, now := s.now } = s :=
  show ({ u.sansMailboxes with host := { u.sansMailboxes.host with mbx := s.host.mbx }, now := s.now } : State) = s by
    rw [h]
    rfl

/-- Operations on mailboxes of a list leave everything else. -/
theorem State.foldl_sansMailboxes {f : State → Nat → State} (hf : ∀ s n, (f s n).sansMailboxes = s.sansMailboxes)
    (l : List Nat) (t : Nat) :
    { (l.foldl f (s.advance t)) with
      host := { (l.foldl f (s.advance t)).host with mbx := s.host.mbx }, now := s.now } = s :=
  State.frame_of_sansMailboxes (foldl_keeps State.sansMailboxes f hf l (s.advance t))

/-- The command that a scan takes from mailbox n. -/
def State.takenFrom (s : State) (n : Nat) : Running :=
  { mbx := n, cmd := cmdOf (s.host.mailbox n).area, order := s.cmd.nextOrder, reached := s.now
    phase := if (cmdOf (s.host.mailbox n).area).flags / 2 % 2 = 1 ∧ s.cmd.running ≠ [] then .barrier else .ready }

/-- A taken command of an assigned opcode on a READY device. -/
theorem State.take_known {n : Nat} (hr : s.boot.ready = true) (ho : opcodeKnown (cmdOf (s.host.mailbox n).area).opcode = true) :
    s.take n = { s.setMailbox n { s.host.mailbox n with state := .executing } with
      cmd := { s.cmd with
        running := s.cmd.running ++ [s.takenFrom n]
        nextOrder := s.cmd.nextOrder + 1
        taken := (s.cmd.taken + 1) % 2 ^ 32 } } := by
  unfold State.take State.takenFrom
  simp [State.setMailbox, hr, ho, wrapAdd]

/-- A scan without a PENDING mailbox takes nothing. -/
theorem State.takeAll_none {l : List Nat} (h : ∀ m ∈ l, (s.host.mailbox m).state ≠ .pending) : s.takeAll l = s :=
  foldl_fixed_of_mem fun m hm => if_neg (h m hm)

/-- A scan with one PENDING mailbox takes its command alone. -/
theorem State.takeAll_one {l : List Nat} {n : Nat} (hn : n ∈ l) (hl : l.Nodup) (hr : s.boot.ready = true)
    (ho : opcodeKnown (cmdOf (s.host.mailbox n).area).opcode = true) (hp : (s.host.mailbox n).state = .pending)
    (h : ∀ m ∈ l, m ≠ n → (s.host.mailbox m).state ≠ .pending) : s.takeAll l = s.take n := by
  obtain ⟨a, b, rfl⟩ := List.append_of_mem hn
  have hna : n ∉ a := fun hm => (List.nodup_append.mp hl).2.2 n hm n List.mem_cons_self rfl
  have hb : ∀ m ∈ b, ((s.take n).host.mailbox m).state ≠ .pending := by
    intro m hm
    have hmn : m ≠ n := fun he => (List.nodup_cons.mp (List.nodup_append.mp hl).2.1).1 (he ▸ hm)
    have hs : (s.host.mailbox m).state ≠ .pending := h m (by simp [hm]) hmn
    have hk : (s.take n).host.mailbox m = s.host.mailbox m := by
      rw [State.take_known hr ho]
      exact (State.setMailbox_mailbox n m _).trans (if_neg hmn)
    rwa [hk]
  have ha : s.takeAll a = s := State.takeAll_none fun m hm => h m (by simp [hm]) (ne_of_mem_of_not_mem hm hna)
  calc s.takeAll (a ++ n :: b) = ((s.takeAll a).takeAll (n :: b)) := List.foldl_append
    _ = (s.take n).takeAll b := by rw [ha, State.takeAll, List.foldl_cons, if_pos hp]; rfl
    _ = s.take n := State.takeAll_none hb

/-- A scan of PENDING mailboxes takes their commands in the order of the scan. -/
theorem State.takeAll_order {l : List Nat} (hl : l.Nodup) (hr : s.boot.ready = true)
    (h : ∀ n ∈ l, (s.host.mailbox n).state = .pending ∧ opcodeKnown (cmdOf (s.host.mailbox n).area).opcode = true) :
    (s.takeAll l).cmd.running.map (fun r => r.mbx) = s.cmd.running.map (fun r => r.mbx) ++ l := by
  induction l generalizing s with
  | nil => simp [State.takeAll]
  | cons n l ih =>
    obtain ⟨hn, hl⟩ := List.nodup_cons.mp hl
    obtain ⟨⟨hp, ho⟩, hrest⟩ := List.forall_mem_cons.mp h
    have hkeep : ∀ m ∈ l, (s.take n).host.mailbox m = s.host.mailbox m := by
      intro m hm
      rw [State.take_known hr ho]
      exact (State.setMailbox_mailbox n m _).trans (if_neg (ne_of_mem_of_not_mem hm hn))
    have hready : (s.take n).boot.ready = true := by
      rw [State.take_known hr ho]
      exact hr
    have hrun : (s.take n).cmd.running.map (fun r => r.mbx) = s.cmd.running.map (fun r => r.mbx) ++ [n] := by
      rw [State.take_known hr ho]
      simp [State.takenFrom]
    calc (s.takeAll (n :: l)).cmd.running.map (fun r => r.mbx)
        = ((s.take n).takeAll l).cmd.running.map (fun r => r.mbx) := by
          rw [State.takeAll, List.foldl_cons, if_pos hp]
          rfl
      _ = _ := by
          rw [ih hl hready fun m hm => hkeep m hm ▸ hrest m hm, hrun]
          simp

/-- A scan of a READY device serves the four mailboxes. -/
theorem exec_mailboxScan_ready {t : Nat} (hr : s.boot.ready = true) :
    exec (.mailboxScan t) s = .next ((s.advance t).takeAll [0, 1, 2, 3]) := by
  have hserved : (s.advance t).servedMailboxes = [0, 1, 2, 3] := if_pos hr
  exact congrArg (fun l => Host.Outcome.next ((s.advance t).takeAll l)) hserved

end

/-- Settles O39: each operation on a mailbox by its rule, a scan by the mailboxes that are PENDING. -/
theorem mailboxHandshake : Obligations.MailboxHandshake := by
  unfold Obligations.MailboxHandshake
  refine ⟨?_, ?_, ?_, ?_⟩
  · intro s t b ha
    refine ⟨(bitsOf b).foldl State.ring (s.advance t), if_pos ha, fun n => ?_, ?_⟩
    · rw [State.foldl_mailbox (g := Mailbox.ring) (fun s n m => by rw [State.ring_eq, State.setMailbox_mailbox])
        (bitsOf_nodup b)]
      simp only [mem_bitsOf]
      rfl
    · exact State.foldl_sansMailboxes (fun s n => by rw [State.ring_eq]; rfl) _ _
  · intro s t b ha
    refine ⟨(bitsOf b).foldl State.release (s.advance t), if_pos ha, fun n => ?_, ?_⟩
    · rw [State.foldl_mailbox (fun s n m => State.release_mailbox n m) (bitsOf_nodup b)]
      simp only [mem_bitsOf, Mailbox.release]
      rw [← ite_and]
      rfl
    · refine State.foldl_sansMailboxes (fun s n => ?_) _ _
      unfold State.release
      simp only []
      split <;> rfl
  · intro s t n hr hp hothers ho
    have hscan : exec (.mailboxScan t) s = .next ((s.advance t).take n) := by
      rw [exec_mailboxScan_ready hr, State.takeAll_one (s := s.advance t) (n := n) (l := [0, 1, 2, 3]) ?_ (by decide) hr ho hp]
      · intro m hm hne
        have hm4 : m < 4 := by
          simp only [List.mem_cons, List.not_mem_nil, or_false] at hm
          omega
        exact hothers ⟨m, hm4⟩ fun he => hne (congrArg Fin.val he)
      · have := n.isLt
        simp only [List.mem_cons, List.not_mem_nil, or_false]
        omega
    rw [State.take_known (s := s.advance t) hr ho] at hscan
    refine ⟨_, hscan, ?_, fun m hm => ?_, rfl, rfl⟩
    · exact (State.setMailbox_mailbox _ _ _).trans (if_pos rfl)
    · exact (State.setMailbox_mailbox _ _ _).trans (if_neg hm)
  · intro s t hr hrun h
    refine ⟨_, exec_mailboxScan_ready hr, ?_⟩
    have horder := State.takeAll_order (s := s.advance t) (l := [0, 1, 2, 3]) (by decide) hr fun n hn => ?_
    · rw [horder]
      exact congrArg (fun l : List Running => l.map (fun r => r.mbx) ++ [0, 1, 2, 3]) hrun
    · have hn4 : n < 4 := by
        simp only [List.mem_cons, List.not_mem_nil, or_false] at hn
        omega
      exact h ⟨n, hn4⟩

/-! ### The event ring (R392 to R396) -/

section
variable {s : State} {e : EvRec} {rest : List EvRec}

/-- The ring is as open after time has passed. -/
@[simp] theorem State.ringOpen_advance (t : Nat) : (s.advance t).ringOpen = s.ringOpen := rfl

/-- A turn of the ring with a FATAL event, or with no record owed, takes the front event. -/
theorem State.ringTurn_takes (ho : s.ringOpen = true) (hs : s.evq.store = e :: rest)
    (hd : e.severity = 4 ∨ s.overflowDue = false) :
    s.ringTurn = ({ s with evq := { s.evq with store := rest } } : State).ringTake e := by
  have hdue : (e.severity != 4 && ({ s with evq := { s.evq with store := rest } } : State).overflowDue) = false := by
    rcases hd with h | h
    · simp [h]
    · exact Bool.and_eq_false_imp.mpr fun _ => h
  unfold State.ringTurn
  rw [if_neg (by simp [ho]), hs]
  exact if_neg (by simp [hdue])

/-- A record in its slot and the producer index behind it, before the notification. -/
def State.slotWritten (s : State) (r : EvRec) : State :=
  { s with
    hostMem := memWriteBytes unlisted s.hostMem (s.evq.base.toNat + 32 * (s.evq.prod % s.evq.size)) r.bytes
    evq := { s.evq with
      prod := wrapAdd 32 s.evq.prod 1
      unnotified := s.evq.unnotified + 1
      firstUnnotified := some (s.evq.firstUnnotified.getD s.now) } }.writeProducer

/-- A record is written, then notified as its severity and the moderation say. -/
theorem State.writeRecord_eq : s.writeRecord e =
    if e.severity = 4 then (s.slotWritten e).ringNotify.notify 5 5
    else if s.evq.modCount ≤ s.evq.unnotified + 1 || s.evq.modUs = 0 then (s.slotWritten e).ringNotify
    else s.slotWritten e := rfl

/-- A record that is written: its slot, the producer index, and what stays of the event unit. -/
theorem State.writeRecord_ring : (s.writeRecord e).hostMem =
      memWriteBytes unlisted (memWriteBytes unlisted s.hostMem (s.evq.base.toNat + 32 * (s.evq.prod % s.evq.size)) e.bytes)
        s.evq.prodAddr.toNat (le 4 ((s.evq.prod + 1) % 2 ^ 32)) ∧
    (s.writeRecord e).evq.prod = (s.evq.prod + 1) % 2 ^ 32 ∧ (s.writeRecord e).evq.store = s.evq.store ∧
    (s.writeRecord e).evq.owed = s.evq.owed ∧ (s.writeRecord e).evq.dropped = s.evq.dropped := by
  rw [State.writeRecord_eq]
  split
  · simp [State.ringNotify, State.slotWritten, State.writeProducer, wrapAdd]
  · split <;> simp [State.ringNotify, State.slotWritten, State.writeProducer, wrapAdd]

/-- A FATAL record is notified on vectors 0 and 5. -/
theorem State.writeRecord_fatal (he : e.severity = 4) :
    (s.writeRecord e).host.intStatus = s.host.intStatus ||| bitAt 32 0 ||| bitAt 32 5 := by
  unfold State.writeRecord
  simp only []
  rw [if_pos he]
  rfl

/-- A FATAL event at the front of an open ring. -/
theorem exec_eventRingWrite_fatal {t : Nat} (ho : s.ringOpen = true) (hs : s.evq.store = e :: rest) (he : e.severity = 4) :
    exec (.eventRingWrite t false) s = .next
      (if s.evq.fill < s.evq.size then
          ({ s.advance t with evq := { s.evq with store := rest } } : State).writeRecord e
        else { s.advance t with evq := ({ s.evq with store := rest } : EventRing).noteDrop e }) := by
  have hturn : exec (.eventRingWrite t false) s = .next ((s.advance t).ringTurn) := rfl
  rw [hturn, State.ringTurn_takes (s := s.advance t) ho hs (Or.inl he), State.ringTake, if_pos he]
  rfl

/-- The oldest event of a list that is not FATAL. -/
theorem dropOldest_append {old : EvRec} {before after : List EvRec} (hb : ∀ x ∈ before, x.severity = 4)
    (ho : old.severity ≠ 4) : dropOldest (before ++ old :: after) = some (old, before ++ after) := by
  induction before with
  | nil => exact if_neg ho
  | cons x before ih =>
    obtain ⟨hx, hb⟩ := List.forall_mem_cons.mp hb
    rw [List.cons_append, dropOldest, if_pos hx, ih hb]
    rfl

end

/-- Settles O42: FATAL events at the front of the ring, and in a full pending store. -/
theorem fatalEventTakesReservedSlot : Obligations.FatalEventTakesReservedSlot := by
  unfold Obligations.FatalEventTakesReservedSlot
  refine ⟨?_, ?_, ?_, ?_⟩
  · intro s t e rest ho hs he hf
    have hexec := exec_eventRingWrite_fatal (t := t) ho hs he
    rw [if_pos hf] at hexec
    obtain ⟨hmem, hprod, hstore, howed, _⟩ :=
      State.writeRecord_ring (s := { s.advance t with evq := { s.evq with store := rest } }) (e := e)
    have hint := State.writeRecord_fatal (s := { s.advance t with evq := { s.evq with store := rest } }) he
    refine ⟨_, hexec, hstore, hprod, hmem, ?_, ?_, howed⟩
    · rw [hint]
      simp [bitAt]
    · rw [hint]
      simp [bitAt]
  · intro s t e rest ho hs he hf
    have hexec := exec_eventRingWrite_fatal (t := t) ho hs he
    rw [if_neg (Nat.not_lt.mpr hf)] at hexec
    refine ⟨_, hexec, rfl, rfl, ?_, rfl⟩
    exact if_pos he
  · intro q e hfull he
    have hkeep : q.keep false e = q.noteDrop e := by
      unfold EventRing.keep
      rw [if_neg (by simpa using hfull), if_neg he]
    rw [hkeep]
    exact ⟨rfl, rfl⟩
  · intro q e old before after hq hb ho hfull he
    have hkeep : q.keep false e = { q.noteDrop old with store := before ++ after ++ [e] } := by
      unfold EventRing.keep
      rw [if_neg (by simpa using hfull), if_pos he, hq, dropOldest_append hb ho]
    rw [hkeep]
    exact ⟨rfl, rfl⟩

section
variable {s : State} {e : EvRec} {rest : List EvRec} {t : Nat} {v : Word}

/-- Nothing held, nothing written. -/
theorem State.flushEvents_nil (h : s.evq.store = []) : s.flushEvents = s := by
  rw [State.flushEvents, h]
  rfl

/-- ENABLE as a host write of EVQ_CTRL leaves it. -/
theorem enableWrite_set (v : Word) : ((v &&& 0x00FFFFFF#32) ||| 1#32).getLsbD 0 = true := by simp

/-- SIZE_LOG2 of an enabled ring keeps its value, and ENABLE is cleared. -/
theorem disableWrite_clears (v c : Word) :
    (((v &&& 0x00FFFFFE#32) &&& ~~~0x0000003E#32) ||| (c &&& 0x0000003E#32)).getLsbD 0 = false := by simp

/-- The size of the ring is that of bits 1 to 5 of EVQ_CTRL. -/
theorem EventRing.size_congr {q r : EventRing} (h : ∀ k < 5, q.ctrl.getLsbD (1 + k) = r.ctrl.getLsbD (1 + k)) :
    q.size = r.size := by
  have hn : (q.ctrl >>> 1).toNat % 2 ^ 5 = (r.ctrl >>> 1).toNat % 2 ^ 5 := by
    refine Nat.eq_of_testBit_eq fun k => ?_
    rw [Nat.testBit_mod_two_pow, Nat.testBit_mod_two_pow]
    by_cases hk : k < 5
    · have hbit := h k hk
      rw [BitVec.toNat_ushiftRight, BitVec.toNat_ushiftRight, Nat.testBit_shiftRight, Nat.testBit_shiftRight]
      exact congrArg _ hbit
    · rw [decide_eq_false hk, Bool.false_and, Bool.false_and]
  have hsize : (q.ctrl >>> 1).toNat % 32 = (r.ctrl >>> 1).toNat % 32 := hn
  unfold EventRing.size
  rw [hsize]

/-- A write of EVQ_CTRL that enables the ring of a READY device. -/
theorem State.writeEvqCtrl_enables (he : s.evq.ctrl.getLsbD 0 = false) (hv : v.getLsbD 0 = true) (hr : s.boot.ready = true) :
    s.writeEvqCtrl v = ({ s with evq := { s.evq with ctrl := v } } : State).ringStart := by
  simp only [State.writeEvqCtrl, EventRing.enabled, he, hv, hr, Bool.false_eq_true, if_false, Bool.not_false, Bool.and_true,
    if_true]

/-- A write of EVQ_CTRL that disables the ring keeps its size. -/
theorem State.writeEvqCtrl_disables (he : s.evq.ctrl.getLsbD 0 = true)
    (hv : ((v &&& ~~~0x0000003E#32) ||| (s.evq.ctrl &&& 0x0000003E#32)).getLsbD 0 = false) :
    s.writeEvqCtrl v = { s with evq := { s.evq with
      ctrl := (v &&& ~~~0x0000003E#32) ||| (s.evq.ctrl &&& 0x0000003E#32), running := false } } := by
  simp only [State.writeEvqCtrl, EventRing.enabled, he, hv, Bool.not_true, Bool.not_false, Bool.false_and, Bool.true_and,
    Bool.false_eq_true, if_false, if_true]

/-- EVQ_ENABLE on a READY device with nothing held. -/
theorem exec_evqEnable_ready (ha : s.hostAccess = true) (he : s.evq.enabled = false) (hr : s.boot.ready = true)
    (hs : s.evq.store = []) : exec (.evqEnable t v) s = .next (({ s.advance t with evq := { s.evq with
      ctrl := (v &&& 0x00FFFFFF#32) ||| 1#32, prod := s.evq.cons, running := true, unnotified := 0
      firstUnnotified := none } } : State).writeProducer) := by
  have hexec : exec (.evqEnable t v) s = .next ((s.advance t).writeEvqCtrl ((v &&& 0x00FFFFFF#32) ||| 1#32)) := if_pos ha
  rw [hexec, State.writeEvqCtrl_enables (s := s.advance t) he (enableWrite_set v) hr]
  exact congrArg _ (State.flushEvents_nil hs)

/-- EVQ_DISABLE of an enabled ring. -/
theorem exec_evqDisable_enabled (ha : s.hostAccess = true) (he : s.evq.enabled = true) :
    exec (.evqDisable t v) s = .next { s.advance t with evq := { s.evq with
      ctrl := ((v &&& 0x00FFFFFE#32) &&& ~~~0x0000003E#32) ||| (s.evq.ctrl &&& 0x0000003E#32), running := false } } := by
  have hexec : exec (.evqDisable t v) s = .next ((s.advance t).writeEvqCtrl (v &&& 0x00FFFFFE#32)) := if_pos ha
  rw [hexec, State.writeEvqCtrl_disables (s := s.advance t) he (disableWrite_clears v _)]
  rfl

/-- A turn of an open ring with an event that is not FATAL and no overflow record due. -/
theorem exec_eventRingWrite_plain (ho : s.ringOpen = true) (hs : s.evq.store = e :: rest) (he : e.severity ≠ 4)
    (hd : s.overflowDue = false) : exec (.eventRingWrite t false) s = .next
      (if s.evq.owed = 0 && s.evq.fill < s.evq.size - 4 then
          ({ s.advance t with evq := { s.evq with store := rest } } : State).writeRecord e
        else { s.advance t with evq := ({ s.evq with store := rest } : EventRing).noteDrop e }) := by
  have hturn : exec (.eventRingWrite t false) s = .next ((s.advance t).ringTurn) := rfl
  rw [hturn, State.ringTurn_takes (s := s.advance t) ho hs (Or.inr hd), State.ringTake, if_neg he]
  rfl

/-- A record that is not FATAL is notified at once where MOD_COUNT is 1. -/
theorem State.writeRecord_notified (he : e.severity ≠ 4) (hm : s.evq.modCount = 1) :
    s.writeRecord e = (s.slotWritten e).ringNotify := by
  rw [State.writeRecord_eq, if_neg he, if_pos]
  simp [hm]

end

/-- Settles O41. -/
theorem eventRingWrites : Obligations.EventRingWrites := by
  unfold Obligations.EventRingWrites
  refine ⟨?_, ?_, ?_, ?_, ?_, ?_, ?_⟩
  · intro s t v ha he hr hs
    exact ⟨_, exec_evqEnable_ready ha he hr hs, enableWrite_set v, rfl, rfl, rfl, rfl, rfl⟩
  · intro s t v ha he
    refine ⟨_, exec_evqDisable_enabled ha he, disableWrite_clears v _, rfl, EventRing.size_congr fun k hk => ?_, rfl⟩
    have hcases : k = 0 ∨ k = 1 ∨ k = 2 ∨ k = 3 ∨ k = 4 := by omega
    rcases hcases with rfl | rfl | rfl | rfl | rfl <;> simp
  · intro s t v ha
    have hexec : exec (.evqConsWrite t v) s = .next ((s.advance t).writeEvqCons v.toNat) := if_pos ha
    rw [hexec]
    rfl
  · intro s t e rest ho hs he hw hf hm
    have hexec := exec_eventRingWrite_plain (t := t) ho hs he (by simp [State.overflowDue, hw])
    rw [if_pos (by simp [hw, hf])] at hexec
    obtain ⟨hmem, hprod, hstore, _, hdropped⟩ :=
      State.writeRecord_ring (s := { s.advance t with evq := { s.evq with store := rest } }) (e := e)
    have hnotified := State.writeRecord_notified (s := { s.advance t with evq := { s.evq with store := rest } }) he hm
    refine ⟨_, hexec, hstore, hprod, hmem, ?_, ?_, hdropped, ?_⟩
    · rw [hnotified]
      rfl
    · rw [hnotified]
      rfl
    · rw [hnotified]
      rfl
  · intro s t e rest ho hs he hf
    have hexec := exec_eventRingWrite_plain (t := t) ho hs he (by simp [State.overflowDue, hf])
    rw [if_neg (by simp [hf])] at hexec
    exact ⟨_, hexec, rfl, rfl, rfl, rfl, rfl, rfl⟩
  · intro s t0 h
    have hexec : exec .eventNotifyTimer s = .next ((s.advance (t0 + s.evq.modUs * 384000)).ringNotify) := by
      show execEventNotifyTimer s = _
      rw [execEventNotifyTimer, h]
      rfl
    exact ⟨_, hexec, rfl, rfl, rfl, rfl, rfl⟩
  · intro s t h
    exact congrArg Host.Outcome.next (State.flushEvents_nil h)

/-! ### Resets of the endpoint (R374, R383, R388) -/

section
variable {s : State}

/-- A reset of the endpoint leaves no channel running, and each that ran ends RESET. -/
theorem mem_dmaReset {t : Tab Channel} {p : Nat × Channel} (h : p ∈ dmaReset t) : p.2.state = .idle ∧ p.2.endCause = 5 := by
  obtain ⟨q, _, hq⟩ := List.mem_filterMap.mp h
  split at hq
  · cases hq
  · cases hq
    exact ⟨rfl, rfl⟩

/-- The commands in execution run on. -/
theorem State.endpointReset_cmds :
    s.endpointReset.cmd.running.map (fun r => r.cmd) = s.cmd.running.map (fun r => r.cmd) := by
  rw [State.endpointReset, List.map_map]
  refine List.map_congr_left fun r _ => ?_
  show (if r.cascade then r else { r with orphan := true }).cmd = r.cmd
  split <;> rfl

/-- The responses of the host's commands are discarded. -/
theorem State.endpointReset_orphans : ∀ r ∈ s.endpointReset.cmd.running, r.cascade = false → r.orphan = true := by
  intro r hr hc
  obtain ⟨q, _, rfl⟩ := List.mem_map.mp hr
  by_cases hq : q.cascade = true
  · rw [if_pos hq] at hc
    exact absurd hq (by simp [hc])
  · rw [if_neg hq]

end

/-- Settles O43. -/
theorem linkAndEndpointResets : Obligations.LinkAndEndpointResets := by
  unfold Obligations.LinkAndEndpointResets
  refine ⟨?_, ?_, ?_, ?_, ?_⟩
  · intro s t hw hb hs
    have hexec : exec (.pcieLinkChange t true) s = .next (({ s.advance t with
        host := { s.host with linkUp := true, perstLow := false, credits := true } } : State).flushEvents) :=
      (if_neg (by simp [hb]; exact hw)).trans (if_pos rfl)
    exact hexec.trans (congrArg _ (State.flushEvents_nil hs))
  · intro s t hw hb
    exact (if_neg (by simp [hb]; exact hw)).trans (if_neg Bool.false_ne_true)
  · intro s t hl
    exact (if_neg (by simp [hl])).trans (if_pos rfl)
  · intro s t hl hs
    have hexec : exec (.pcieD3hotChange t false) s = .next (({ s.advance t with
        host := { s.host with d3hot := false } } : State).flushEvents) :=
      (if_neg (by simp [hl])).trans (if_neg Bool.false_ne_true)
    exact hexec.trans (congrArg _ (State.flushEvents_nil hs))
  · intro s t i down h
    have hcmds := State.endpointReset_cmds (s := s.advance t)
    have horphans := State.endpointReset_orphans (s := s.advance t)
    rcases h with ⟨rfl, rfl⟩ | ⟨rfl, rfl⟩
    · exact ⟨_, rfl, rfl, rfl, rfl, rfl, fun _ => rfl, rfl, rfl, rfl, rfl, rfl, rfl, rfl, rfl, rfl, rfl, rfl, hcmds, horphans,
        fun p hp => mem_dmaReset hp, rfl⟩
    · exact ⟨_, rfl, rfl, rfl, rfl, rfl, fun _ => rfl, rfl, rfl, rfl, rfl, rfl, rfl, rfl, rfl, rfl, rfl, rfl, hcmds, horphans,
        fun p hp => mem_dmaReset hp, rfl⟩

/-! ### Host writes of BAR0 and BAR2 (R380, R382, R384, R386, R388) -/

section
variable {s : State}

/-- A host write of one aligned word of a register. -/
theorem exec_registerWrite_word {t off : Nat} {a b c d : Byte} (ha : s.hostAccess = true) (hlo : off < 0x8000)
    (h4 : off % 4 = 0) :
    exec (.registerWrite t off [some a, some b, some c, some d]) s = .next ((s.advance t).writeReg off
      (BitVec.ofNat 32 (a.toNat + 256 * b.toNat + 65536 * c.toNat + 16777216 * d.toNat))) := by
  refine (if_neg ?_).trans ((if_neg ?_).trans (if_neg ?_))
  · exact fun h => absurd ha (by simpa using h)
  · omega
  · simp [h4]

/-- Read-only and reserved words ignore a write. -/
theorem State.writeReg_ignored {off : Nat} (w : Word) (h : off ∈ [0x0000, 0x0004, 0x0008, 0x000C, 0x0010, 0x0018, 0x001C, 0x0214,
    0x0220, 0x0224, 0x0308, 0x0400, 0x1800, 0x3000]) : s.writeReg off w = s := by
  simp only [List.mem_cons, List.not_mem_nil, or_false] at h
  rcases h with rfl | rfl | rfl | rfl | rfl | rfl | rfl | rfl | rfl | rfl | rfl | rfl | rfl | rfl <;> rfl

/-- A write of four bytes holds at most one word, at its offset. -/
theorem wordsOf_four {off : Nat} {data : List (Option Byte)} (h : data.length = 4) : ∀ p ∈ wordsOf off data, p.1 = off := by
  match data, h with
  | [a, b, c, d], _ =>
    cases a <;> cases b <;> cases c <;> cases d <;> simp [wordsOf]

/-- The entry of a vector that was set. -/
@[simp] theorem HostIf.entry_set (h : HostIf) (v w : Nat) (e : MsixEntry) :
    HostIf.entry { h with msix := Tab.set h.msix v e } w = if w = v then e else h.entry w := by
  simp [HostIf.entry]

/-- Vector control written with its mask bit clear, of a vector whose message is pending. -/
theorem State.writeMsix_unmasks {v : Nat} {w : Word} (hw : w.getLsbD 0 = false) (hp : s.host.msixPending.getLsbD v = true) :
    s.writeMsix v 3 w = { s with host := { s.host with
      msix := Tab.set s.host.msix v { s.host.entry v with control := w }
      msixPending := s.host.msixPending &&& ~~~(bitAt 32 v)
      sent := s.host.sent ++ [⟨v, (s.host.entry v).addrLo.toNat + 2 ^ 32 * (s.host.entry v).addrHi.toNat,
        (s.host.entry v).data⟩] } } := by
  have hopen : ¬(HostIf.entry { s.host with
      msix := Tab.set s.host.msix v { s.host.entry v with control := w }
      msixPending := s.host.msixPending &&& ~~~(bitAt 32 v) } v).control.getLsbD 0 = true := by
    rw [HostIf.entry, Tab.get_set, if_pos rfl]
    simp only [hw, Bool.false_eq_true, not_false_eq_true]
  have hsend := HostIf.sendVector_open hopen
  have hwrite : s.writeMsix v 3 w = { s with host := HostIf.sendVector { s.host with
      msix := Tab.set s.host.msix v { s.host.entry v with control := w }
      msixPending := s.host.msixPending &&& ~~~(bitAt 32 v) } v } := by
    refine if_pos ?_
    rw [hp, Bool.and_true]
    exact congrArg (!·) hw
  rw [hwrite, hsend]
  simp [HostIf.entry]

/-- A byte of a list cut or padded to a length. -/
theorem getD_fit {n k : Nat} {p : List Byte} (hk : k < n) : (fit n p).getD k 0#8 = p.getD k 0#8 := by
  rw [fit, List.getD_eq_getElem?_getD, List.getElem?_take_of_lt hk, List.getD_eq_getElem?_getD]
  by_cases hp : k < p.length
  · rw [List.getElem?_append_left hp]
  · rw [List.getElem?_append_right (by omega), List.getElem?_eq_none (l := p) (by omega), zeros, List.getElem?_replicate]
    split <;> rfl

/-- A byte written to the area of an idle mailbox. -/
theorem State.writeArea_idle {n o : Nat} {v : Byte} (hi : (s.host.mailbox n).state = .idle) :
    ∃ area, s.writeArea n o [some v] = s.setMailbox n { s.host.mailbox n with area := area } ∧
      ∀ k < 0x1010, area.getD k 0#8 = if k = o then v else (s.host.mailbox n).area.getD k 0#8 := by
  refine ⟨_, if_pos hi, fun k hk => ?_⟩
  rw [List.getD_eq_getElem?_getD, List.getElem?_map, List.getElem?_range hk, Option.map_some, Option.getD_some, getD_fit hk]
  by_cases ho : o ≤ k
  · rw [if_pos ho]
    obtain ⟨d, rfl⟩ := Nat.exists_eq_add_of_le ho
    rw [Nat.add_sub_cancel_left]
    cases d <;> simp
  · rw [if_neg ho, if_neg (by omega)]

/-- A byte written through BAR2 to a pool that the host may write. -/
theorem exec_bar2Write_byte {t off : Nat} {v : Byte} (ha : s.hostAccess = true)
    (h : off < 0x1000000 ∨ (0x1800000 ≤ off ∧ off < 0x1C00000)) :
    exec (.bar2Write t off [some v]) s = .next { s.advance t with mem := memWrite unlisted s.mem (0x10000000 + off) v } := by
  have hro : bar2ReadOnly off = false := by
    simp only [bar2ReadOnly, Bool.or_eq_false_iff, Bool.and_eq_false_iff, decide_eq_false_iff_not]
    omega
  have haddr : bar2Write? off = some (0x10000000 + off) := by
    unfold bar2Write?
    split
    · rfl
    · exact if_pos (by omega)
  have hexec : exec (.bar2Write t off [some v]) s = .next ((s.advance t).bar2Bytes off [some v]) := by
    refine (if_neg ?_).trans (if_neg ?_)
    · exact fun h => absurd ha (by simpa using h)
    · simp [hro]
  rw [hexec, State.bar2Bytes, haddr]
  rfl

end

/-- Settles O40. -/
theorem hostRegisterWrites : Obligations.HostRegisterWrites := by
  unfold Obligations.HostRegisterWrites
  refine ⟨?_, ?_, ?_, ?_, ?_, ?_⟩
  · intro s t a b c d w ha hw
    subst hw
    exact ⟨exec_registerWrite_word ha (by decide) rfl, exec_registerWrite_word ha (by decide) rfl⟩
  · intro s t data off ha hoff hl
    have hfold : (wordsOf off data).foldl (fun u p => u.writeReg p.1 p.2) (s.advance t) = s.advance t :=
      foldl_fixed_of_mem fun p hp => State.writeReg_ignored _ (by rwa [wordsOf_four hl p hp])
    have haligned : ¬(0x8000 ≤ off ∧ off < 0x10000) ∧ off % 4 = 0 := by
      simp only [List.mem_cons, List.not_mem_nil, or_false] at hoff
      omega
    refine (if_neg ?_).trans ((if_neg haligned.1).trans ((if_neg ?_).trans (congrArg _ hfold)))
    · exact fun h => absurd ha (by simpa using h)
    · simp [haligned.2]
  · intro s t n o v ha ho hi
    have hexec : exec (.registerWrite t (0x8000 + 0x2000 * n.val + o) [some v]) s =
        .next ((s.advance t).writeArea n o [some v]) := by
      have hn := n.isLt
      refine (if_neg ?_).trans ((if_pos ?_).trans ?_)
      · exact fun h => absurd ha (by simpa using h)
      · omega
      · rw [show (0x8000 + 0x2000 * n.val + o - 0x8000) / 0x2000 = n by omega,
          show (0x8000 + 0x2000 * n.val + o) % 0x2000 = o by omega]
    obtain ⟨area, hwrite, harea⟩ := State.writeArea_idle (s := s.advance t) (o := o) (v := v) hi
    rw [hwrite] at hexec
    refine ⟨_, hexec, ?_, ?_, fun k hk hne => ?_, fun m hm => ?_, rfl⟩
    · rw [State.setMailbox_mailbox, if_pos rfl]
      exact hi
    · rw [State.setMailbox_mailbox, if_pos rfl]
      exact (harea o ho).trans (if_pos rfl)
    · rw [State.setMailbox_mailbox, if_pos rfl]
      exact (harea k hk).trans (if_neg hne)
    · exact (State.setMailbox_mailbox _ _ _).trans (if_neg hm)
  · intro s t v ha hp
    have hexec : exec (.msixVectorUnmask t v) s =
        .next ((s.advance t).writeMsix v 3 ((s.host.entry v).control &&& 0xFFFFFFFE#32)) := if_pos ha
    have hclear : ((s.host.entry v).control &&& 0xFFFFFFFE#32).getLsbD 0 = false := by simp
    rw [State.writeMsix_unmasks (s := s.advance t) hclear hp] at hexec
    refine ⟨_, hexec, ?_, ?_, rfl, rfl⟩
    · simp [getLsbD_bitAt]
    · rw [HostIf.entry, Tab.get_set, if_pos rfl]
      exact hclear
  · intro s t off v hwf ha hoff
    refine ⟨_, exec_bar2Write_byte ha hoff, ?_, fun a hne => memRead_write_ne _ _ hne, rfl⟩
    rw [State.memoriesWf, Bool.and_eq_true, Bool.and_eq_true] at hwf
    exact memRead_write_self hwf.1.1 _ _
  · intro s t off data ha hoff
    have hro : bar2ReadOnly off = true := by
      simp only [bar2ReadOnly, Bool.or_eq_true, Bool.and_eq_true, decide_eq_true_eq]
      omega
    exact (if_neg (by simp [ha])).trans (if_pos hro)

end Sys2Proof.Machine
end

section
/-!
PROOFS. The host channels of the DMA engine (family 13).
-/

namespace Sys2Proof.Machine

open Sys2Proof

section
variable {s : State} {c : Nat} {x : Transfer} {t : Nat}

/-- A channel that is replaced, and the others. -/
@[simp] theorem State.setChannel_channel (c d : Nat) (ch : Channel) :
    (s.setChannel c ch).channel d = if d = c then ch else s.channel d := by
  simp [State.channel]

/-- A channel that was replaced. -/
theorem State.setChannel_self (c : Nat) (ch : Channel) : (s.setChannel c ch).channel c = ch := by simp

/-- Without MSIX_EN no vector is sent. -/
theorem State.dmaVector_off (h : (s.channel c).msixEn = false) : s.dmaVector c = s := if_neg (by simp [h])

/-- Without EVENT_EN no progress is raised. -/
theorem State.dmaProgress_off (kind : Nat) (h : (s.channel c).eventEn = false) : s.dmaProgress c kind = s :=
  if_neg (by simp [h])

/-- A half notification without a vector and without an event. -/
theorem State.dmaHalf_quiet (hm : (s.channel c).msixEn = false) (he : (s.channel c).eventEn = false) :
    s.dmaHalf c = s.setChannel c { s.channel c with half := true } := by
  have hvec : (s.setChannel c { s.channel c with half := true }).dmaVector c =
      s.setChannel c { s.channel c with half := true } := State.dmaVector_off (by rw [State.setChannel_self]; exact hm)
  rw [State.dmaHalf, hvec, State.dmaProgress_off]
  rw [State.setChannel_self]
  exact he

/-- A move into device memory. -/
theorem State.dmaMove_device (n : Nat) (read : List Byte) (hd : hostSpace x.dst = false) : s.dmaMove c x n read =
    ({ s with mem := memWriteBytes unlisted s.mem (x.dst + x.offset n) (s.dmaSource x (x.offset n) n read) } : State).setChannel
      c { s.channel c with doneBytes := x.moved + n, job := some { x with moved := x.moved + n } } := by
  simp only [State.dmaMove, hd, Bool.false_eq_true, if_false]
  rfl

/-- A range moved at once starts at its offset 0 whatever the order. -/
theorem Transfer.offset_whole (h : x.moved = 0) : x.offset x.count = 0 := by
  simp [Transfer.offset, h]

/-- Bytes moved between two places of device memory. -/
theorem memRead_moved {m : List Host.Cell} (hw : Memory.wf unlisted m = true) (src dst n : Nat) {k : Nat} (hk : k < n) :
    memRead unlisted (memWriteBytes unlisted m dst (memReadBytes unlisted m src n)) (dst + k) = memRead unlisted m (src + k) := by
  have hlen : k < (memReadBytes unlisted m src n).length := by rwa [memReadBytes_length]
  have hget := memReadBytes_get m src n hk (d := unlisted)
  rw [memRead_writeBytes_in hw _ _ hlen]
  rw [List.getElem?_eq_getElem hlen] at hget
  exact Option.some.inj hget

/-- A transfer that keeps the address rules begins. -/
theorem State.dmaBegin_ok (h : dmaFault x.src x.dst x.count = none) :
    s.dmaBegin c x = s.setChannel c { s.channel c with doneBytes := 0, job := some x } := by
  rw [State.dmaBegin, h]

/-- START in register mode on an idle channel of some COUNT. -/
theorem State.dmaStart_register {v : Word} (read : List Byte) (h1 : v.getLsbD 1 = false) (h2 : v.getLsbD 2 = false)
    (hi : (s.channel c).state = .idle) (hn : 0 < (s.channel c).count)
    (hf : dmaFault (s.channel c).src.toNat (s.channel c).dst.toNat (s.channel c).count = none) :
    ∃ ch : Channel, s.dmaStart c v read = (s.setChannel c ch).setChannel c { ch with doneBytes := 0, job := some {
        src := (s.channel c).src.toNat, dst := (s.channel c).dst.toNat, count := (s.channel c).count
        half := v.getLsbD 3, full := v.getLsbD 4 } } ∧ ch.state = .running ∧ ch.endCause = 0 := by
  have hmode : (v &&& 0x1F7C#32).getLsbD 2 = false := by
    rw [BitVec.getLsbD_and, h2, Bool.false_and]
  have hhalf : (v &&& 0x1F7C#32).getLsbD 3 = v.getLsbD 3 := by
    rw [BitVec.getLsbD_and]
    exact Bool.and_true _
  have hfull : (v &&& 0x1F7C#32).getLsbD 4 = v.getLsbD 4 := by
    rw [BitVec.getLsbD_and]
    exact Bool.and_true _
  refine ⟨{ s.channel c with
    ctrl := v &&& 0x1F7C#32, state := .running, endCause := 0, errCause := 0, doneBytes := 0, cur := 0 }, ?_, rfl, rfl⟩
  unfold State.dmaStart
  rw [if_neg (by simp [hi]; exact h1)]
  simp only [hmode, hhalf, hfull, Bool.false_eq_true, if_false]
  rw [State.dmaBegin_ok hf]
  simp only [State.setChannel_self]
  exact if_neg (by simp; omega)

/-- A move of no byte. -/
theorem State.dmaSource_none (o : Nat) (read : List Byte) : s.dmaSource x o 0 read = [] := by
  unfold State.dmaSource
  split <;> rfl

/-- STATUS of a descriptor in device memory. -/
theorem State.writeDescStatus_device {d : Nat} (status : Nat) (h : hostSpace d = false) :
    s.writeDescStatus d status = { s with mem := memWriteBytes unlisted s.mem (d + 0x16) (le 2 status) } :=
  if_neg (by simp [h])

/-- A register-mode transfer that is done. -/
theorem exec_dmaTransferDone_done {c : Fin 8} (read : List Byte) (hr : (s.channel c).state = .running)
    (hc : (s.channel c).chain = false) (hj : (s.channel c).job = some x) (hf : x.full = false) (hp : s.dmaPoison x = none) :
    exec (.dmaTransferDone t c read) s = .next (((s.advance t).dmaMove c x (x.count - x.moved) read).dmaIdle c 1) := by
  have hj' : ((s.advance t).channel c).job = some x := hj
  have hp' : (s.advance t).dmaPoison x = none := hp
  have hr' : ((s.advance t).channel c).state = .running := hr
  have hc' : ((s.advance t).channel c).chain = false := hc
  show execDmaTransferDone t c read s = _
  simp [execDmaTransferDone, hj', hp', hr', hc', hf]

/-- Half of the bytes of a transfer are written. -/
theorem exec_dmaHalfNotify_due {c : Fin 8} (read : List Byte) (hr : (s.channel c).state = .running)
    (ht : (s.channel c).tailCheck = false) (hj : (s.channel c).job = some x) (hh : x.half = true) (hd : x.halfDone = false)
    (hm : x.moved = 0) (hp : s.dmaPoison x = none) : exec (.dmaHalfNotify t c read) s =
      .next (((s.advance t).dmaMove c { x with halfDone := true } ((x.count + 1) / 2) read).dmaHalf c) := by
  have hj' : ((s.advance t).channel c).job = some x := hj
  have hp' : (s.advance t).dmaPoison x = none := hp
  have hr' : ((s.advance t).channel c).state = .running := hr
  have ht' : ((s.advance t).channel c).tailCheck = false := ht
  show execDmaHalfNotify t c read s = _
  simp [execDmaHalfNotify, hj', hp', hr', ht', hh, hd, hm]

/-- A descriptor whose transfer is done and whose CONTROL ends the chain. -/
theorem exec_dmaDescriptorDone_last {c : Fin 8} (read next : List Byte) (hr : (s.channel c).state = .running)
    (hc : (s.channel c).chain = true) (ht : (s.channel c).tailCheck = false) (hj : (s.channel c).job = some x)
    (hf : x.full = false) (hl : x.last = true) (hp : s.dmaPoison x = none) {u : State}
    (hu : ((s.advance t).dmaMove c x (x.count - x.moved) read).writeDescStatus (s.channel c).cur 1 = u) :
    exec (.dmaDescriptorDone t c read next) s = .next ((u.setChannel c { u.channel c with
      lastDesc := (s.channel c).cur }).setChannel c { u.channel c with lastDesc := (s.channel c).cur, tailCheck := true }) := by
  have hj' : ((s.advance t).channel c).job = some x := hj
  have hp' : (s.advance t).dmaPoison x = none := hp
  have hr' : ((s.advance t).channel c).state = .running := hr
  have hc' : ((s.advance t).channel c).chain = true := hc
  have ht' : ((s.advance t).channel c).tailCheck = false := ht
  have hcur : ((s.advance t).channel c).cur = (s.channel c).cur := rfl
  show execDmaDescriptorDone t c read next s = _
  simp [execDmaDescriptorDone, hj', hp', hr', hc', ht', hf, hl, hcur, hu]

/-- A tail whose CONTROL still ends the chain. -/
theorem exec_dmaTailRecheck_end {c : Fin 8} (tail next : List Byte) (hr : (s.channel c).state = .running)
    (ht : (s.channel c).tailCheck = true) (hd : u16 (s.descBytes (s.channel c).cur tail) 0x14 % 2 = 1) :
    exec (.dmaTailRecheck t c tail next) s = .next
      ((((s.advance t).setChannel c { s.channel c with tailCheck := false }).dmaIdle c 2).dmaProgress c 2) := by
  have hr' : ((s.advance t).channel c).state = .running := hr
  have ht' : ((s.advance t).channel c).tailCheck = true := ht
  have hd' : u16 ((s.advance t).descBytes ((s.advance t).channel c).cur tail) 0x14 % 2 = 1 := hd
  refine (if_neg ?_).trans ((if_neg ?_).trans (if_neg ?_))
  · simp [ht']
  · simp [hr']
  · rw [hd']
    exact Nat.one_ne_zero

/-- A channel after an event. -/
@[simp] theorem State.raiseEvent_channel (typ : Nat) (sev : Severity) (p : List Byte) (c : Nat) :
    (s.raiseEvent typ sev p).channel c = s.channel c := by
  simp [State.channel]

/-- A fault without a descriptor that was read, on a channel that sends no vector. -/
theorem State.dmaFail_plain (cause addr : Nat) (hm : (s.channel c).msixEn = false) : ∃ ch : Channel,
    s.dmaFail c cause addr false = (s.setChannel c ch).raiseEvent 0x0151 .error
      (le 1 c ++ le 1 cause ++ zeros 2 ++ le 4 (s.channel c).doneBytes ++ le 8 addr) ∧
    ch.state = .idle ∧ ch.endCause = 4 ∧ ch.errCause = cause ∧ ch.job = none := by
  refine ⟨{ s.channel c with
    state := .idle, tailCheck := false, endCause := 4, errCause := cause, lastDesc := (s.channel c).cur, job := none }, ?_,
    rfl, rfl, rfl, rfl⟩
  simp only [State.dmaFail, Bool.and_false, Bool.false_eq_true, if_false]
  refine State.dmaVector_off ?_
  rw [State.raiseEvent_channel, State.setChannel_self]
  exact hm

/-- A fault met on a channel without a transfer. -/
theorem exec_dmaError_noJob {c : Fin 8} (cause written addr : Nat) (read : List Byte) (hr : (s.channel c).state = .running)
    (hj : (s.channel c).job = none) :
    exec (.dmaError t c cause written addr read) s = .next ((s.advance t).dmaFail c cause addr false) := by
  have hj' : ((s.advance t).channel c).job = none := hj
  have hr' : ((s.advance t).channel c).state = .running := hr
  show execDmaError t c cause written addr read s = _
  simp [execDmaError, hj', hr']

end

/-- Settles O38: each row by its course, the moves by the laws of device memory. -/
theorem dmaTransfers : Obligations.DmaTransfers := by
  unfold Obligations.DmaTransfers
  refine ⟨?_, ?_, ?_, ?_, ?_, ?_, ?_, ?_, ?_, ?_⟩
  · intro s t c v read ha h0 h1 h2 hi hn hf
    have hexec : exec (.dmaStart t c v read) s = .next ((s.advance t).dmaStart c v read) := if_pos (by
      rw [State.hostAccess_advance, ha, h0]
      rfl)
    obtain ⟨ch, hstart, hrun, hend⟩ := State.dmaStart_register (s := s.advance t) read h1 h2 hi hn hf
    rw [hstart] at hexec
    refine ⟨_, hexec, ?_, ?_, ?_, ?_, fun d hd => ?_, rfl⟩
    · rw [State.setChannel_self]
      exact hrun
    · rw [State.setChannel_self]
      exact hend
    · rw [State.setChannel_self]
    · rw [State.setChannel_self]
      rfl
    · rw [State.setChannel_channel, if_neg hd, State.setChannel_channel, if_neg hd]
      rfl
  · intro s t c v ha h1 h0 hr
    have hexec : exec (.dmaStop t c v) s = .next ((s.advance t).dmaStop c v) := if_pos (by
      rw [State.hostAccess_advance, ha, h1]
      rfl)
    have hr' : ((s.advance t).channel c).state = .running := hr
    refine hexec.trans (congrArg _ (if_pos ?_))
    rw [hr', h0]
    rfl
  · intro s t c read x hw hr hc hj hm hf hsrc hdst hp
    have hexec := exec_dmaTransferDone_done (t := t) read hr hc hj hf hp
    rw [hm, Nat.sub_zero, State.dmaMove_device _ _ hdst, Transfer.offset_whole hm] at hexec
    rw [State.memoriesWf, Bool.and_eq_true, Bool.and_eq_true] at hw
    have hsource : (s.advance t).dmaSource x 0 x.count read = memReadBytes unlisted s.mem x.src x.count :=
      if_neg (by simp [hsrc])
    rw [hsource] at hexec
    refine ⟨_, hexec, ?_, ?_, ?_, ?_, fun k hk => ?_, fun a ha => ?_, rfl⟩
    · exact congrArg Channel.state (State.setChannel_self _ _)
    · exact congrArg Channel.endCause (State.setChannel_self _ _)
    · refine (congrArg Channel.doneBytes (State.setChannel_self _ _)).trans ?_
      rw [State.setChannel_self, hm, Nat.zero_add]
    · exact congrArg Channel.job (State.setChannel_self _ _)
    · exact memRead_moved hw.1.1 x.src x.dst x.count hk
    · refine memRead_writeBytes_out _ _ _ ?_
      rwa [memReadBytes_length]
  · intro s t c read x hr ht hj hh hd hm hmsix hev hsrc hdst hp
    have hexec := exec_dmaHalfNotify_due (t := t) read hr ht hj hh hd hm hp
    rw [State.dmaMove_device (x := { x with halfDone := true }) _ _ hdst, State.dmaHalf_quiet] at hexec
    · simp only [State.setChannel_self] at hexec
      refine ⟨_, hexec, ?_, ?_, ?_, ?_, rfl⟩
      · rw [State.setChannel_self]
      · rw [State.setChannel_self]
        exact hr
      · rw [State.setChannel_self, hm, Nat.zero_add]
      · rw [State.setChannel_self, hm, Nat.zero_add]
    · rw [State.setChannel_self]
      exact hmsix
    · rw [State.setChannel_self]
      exact hev
  · intro s t c read next x hr hc ht hj hn hm hf hl hp hdst hcur
    have hexec := exec_dmaDescriptorDone_last (t := t) read next hr hc ht hj hf hl hp rfl
    rw [hm, hn, State.dmaMove_device _ _ hdst, State.dmaSource_none, State.writeDescStatus_device _ hcur] at hexec
    refine ⟨_, hexec, ?_, ?_, ?_, rfl, rfl⟩
    · rw [State.setChannel_self]
      exact (congrArg Channel.state (State.setChannel_self _ _)).trans hr
    · rw [State.setChannel_self]
    · rw [State.setChannel_self]
  · intro s t c tail next hr ht he hd
    have hexec := exec_dmaTailRecheck_end (t := t) tail next hr ht hd
    rw [State.dmaProgress_off] at hexec
    · refine ⟨_, hexec, ?_, ?_, rfl⟩
      · exact congrArg Channel.state (State.setChannel_self _ _)
      · exact congrArg Channel.endCause (State.setChannel_self _ _)
    · rw [State.dmaIdle, State.setChannel_self, State.setChannel_self]
      exact he
  · intro s t cause addr c read hr hj hm
    obtain ⟨ch, hfail, h1, h2, h3, h4⟩ := State.dmaFail_plain (s := s.advance t) (c := c) cause addr hm
    have hchannel : ((s.advance t).dmaFail c cause addr false).channel c = ch := by
      rw [hfail, State.raiseEvent_channel, State.setChannel_self]
    refine ⟨_, exec_dmaError_noJob cause 0 addr read hr hj, ?_⟩
    rw [hchannel, hfail]
    exact ⟨h1, h2, h3, h4, by simp, by simp⟩
  · intro src dst
    exact if_pos (by decide)
  · intro src dst n hn hs hd
    refine (if_neg (Nat.not_lt.mpr hn)).trans (if_pos ?_)
    exact Bool.and_eq_true_iff.mpr ⟨decide_eq_true hs, decide_eq_true hd⟩
  · intro src dst n h0 hn hs hlo hhi
    have hsrc : hostSpace src = true := decide_eq_true hs
    have hdst : hostSpace dst = false := decide_eq_false (by omega)
    have hform : deviceForm dst = true := decide_eq_true (by omega)
    have hwritable : dmaWritable dst n = false := by
      simp only [dmaWritable, within, Bool.or_eq_false_iff, Bool.and_eq_false_iff, decide_eq_false_iff_not]
      omega
    unfold dmaFault
    rw [if_neg (Nat.not_lt.mpr hn)]
    simp [hsrc, hdst, hform, hwritable]

end Sys2Proof.Machine
end

section
/-!
PROOFS. Stratus, memory protection, leases and the watchdog (family 13).
-/

namespace Sys2Proof.Machine

open Sys2Proof

/-! ### The status commands (R359) -/

section
variable {s : State}

/-- Figures that are drawn change the count of free values alone. -/
theorem procStatus_state (n p : Nat) : (procStatus s n p).2 = { s with free := s.free + n } := by
  induction n generalizing s p with
  | zero => rfl
  | succ n ih =>
    rw [procStatus]
    simp only [ih]
    simp [State.draw, Nat.add_comm, Nat.add_left_comm]

/-- The response of SYS_FABRIC_GET_STATUS. -/
theorem State.fabricStatus_layout : s.fabricStatus.length = 88 ∧ s.fabricStatus.getD 4 0#8 = BitVec.ofNat 8 s.thermal.band ∧
    s.fabricStatus.getD 5 0#8 = BitVec.ofNat 8 s.fab.spared.length := by
  unfold State.fabricStatus
  simp only []
  refine ⟨?_, rfl, rfl⟩
  simp [length_flatMap_of_forall (c := 2) fun v => length_leSat 2 v, zeros]

end

/-- Settles O35. -/
theorem fabricCommands : Obligations.FabricCommands := by
  unfold Obligations.FabricCommands
  refine ⟨?_, ?_, ?_, ?_, ?_, ?_⟩
  · intro s r h hf
    refine runCommand_effect h ?_
    simp [fabricGetStatusBody, flagsClear, hf]
  · intro s r h hf
    refine runCommand_effect h ?_
    simp [fabricGetStatusBody, flagsClear, hf]
  · exact fun s => ⟨rfl, Nat.le_max_left _ _, rfl, State.fabricStatus_layout⟩
  · intro s r h hf
    refine runCommand_effect h ?_
    simp [memGetEccBody, flagsClear, hf, State.eccStatus]
  · intro s r h hf
    refine runCommand_effect h ?_
    simp [leaseGetBody, flagsClear, hf, State.draw]
  · intro s r h hf
    refine runCommand_effect h ?_
    simp [procGetStatusBody, flagsClear, hf, procStatus_state]

/-! ### Units and leases (R351 to R355) -/

section
variable {s : State} {o cause : Nat}

/-- A unit that is replaced, and the others. -/
@[simp] theorem State.setUnit_fabUnit (o d : Nat) (u : FabUnit) :
    (s.setUnit o u).fabUnit d = if d = o then u else s.fabUnit d := by
  simp [State.fabUnit, State.setUnit]

/-- What a unit's record becomes when it is declared failed. -/
def FabUnit.failed (u : FabUnit) (now : Nat) (rev : Revocation) : FabUnit :=
  { u with
    missed := 0, restarting := some rev, revocations := satAdd 16 u.revocations 1
    revoked := (now :: u.revoked).filter (fun t => now < t + 3600 * Config.sec) }

/-- A unit that is no demodulation engine is declared failed. -/
theorem State.declareFailed_unit (hc : ownerClass o ≠ 3) (hr : (s.fabUnit o).restarting = none)
    (hh : (s.fabUnit o).heldOut = false) : ∃ rev : Revocation, s.declareFailed o cause =
      ({ s with
        free := s.free + 1
        fab := { s.fab with
          leases := s.fab.leases.filter (fun l => l.owner != o)
          revocations := wrapAdd 32 s.fab.revocations 1 } } : State).setUnit o ((s.fabUnit o).failed s.now rev) := by
  refine ⟨{ owner := o, cause := cause, decided := s.now
            leases := (s.fab.leases.filter (fun l => l.owner = o)).length + Config.freeNat s.free }, ?_⟩
  exact (if_neg (by simp [hr, hh])).trans (if_neg hc)

/-- One poll that one listed unit missed. -/
theorem exec_maintenanceRingPoll_one {t : Nat} {u : FabUnit} (h : s.fab.units = [(o, u)]) :
    exec (.maintenanceRingPoll t [o]) s = .next (if u.missed ≥ 1 then (s.advance t).declareFailed o 1
      else (s.advance t).setUnit o { u with missed := u.missed + 1 }) := by
  have hunits : s.fab.units.map (fun p => if [o].contains p.1 then p else (p.1, { p.2 with missed := 0 })) =
      s.fab.units := by
    rw [h]
    simp
  have hunit : (s.advance t).fabUnit o = u := by simp [State.fabUnit, Tab.get, Tab.find?, h]
  have hpoll : exec (.maintenanceRingPoll t [o]) s = .next ([o].foldl (fun s o =>
      if (s.fabUnit o).missed ≥ 1 then s.declareFailed o 1
      else s.setUnit o { s.fabUnit o with missed := (s.fabUnit o).missed + 1 }) ({ s.advance t with
        fab := { s.fab with units := s.fab.units.map (fun p =>
          if [o].contains p.1 then p else (p.1, { p.2 with missed := 0 })) } })) := rfl
  rw [hunits] at hpoll
  rw [hpoll, List.foldl_cons, List.foldl_nil]
  exact congrArg (fun v : FabUnit => Host.Outcome.next (if v.missed ≥ 1 then (s.advance t).declareFailed o 1
    else (s.advance t).setUnit o { v with missed := v.missed + 1 })) hunit

/-- A unit returns, or is held out. -/
theorem exec_unitReturnToService_restarting {t : Nat} {r : Revocation} (h : (s.fabUnit o).restarting = some r) :
    ∃ p, exec (.unitReturnToService t o) s = .next (({ (s.advance t).setUnit o
        { s.fabUnit o with restarting := none, heldOut := decide (3 ≤ (s.fabUnit o).revoked.length) } with
      fab := { ((s.advance t).setUnit o
          { s.fabUnit o with restarting := none, heldOut := decide (3 ≤ (s.fabUnit o).revoked.length) }).fab with
        lastRevoked := ((r, decide (3 ≤ (s.fabUnit o).revoked.length)) :: s.fab.lastRevoked).take 16 }
      thermal := { s.thermal with band := bandOf s.thermal.tj } } : State).raiseEvent 0x0141 .warn p) := by
  have h' : ((s.advance t).fabUnit o).restarting = some r := h
  apply Exists.intro
  show execUnitReturnToService t o s = _
  rw [execUnitReturnToService]
  simp only [h']
  rfl

/-- A unit after an event. -/
@[simp] theorem State.raiseEvent_fabUnit (typ : Nat) (sev : Severity) (p : List Byte) (d : Nat) :
    (s.raiseEvent typ sev p).fabUnit d = s.fabUnit d := by
  simp [State.fabUnit]

end

/-- Settles O36. -/
theorem unitRevocation : Obligations.UnitRevocation := by
  unfold Obligations.UnitRevocation
  refine ⟨?_, ?_, ?_, ?_, ?_⟩
  · intro s t owner i hi hc hr hh
    obtain ⟨cause, hexec⟩ : ∃ cause, exec i s = .next ((s.advance t).declareFailed owner cause) := by
      rcases hi with rfl | rfl
      · exact ⟨0, rfl⟩
      · exact ⟨3, rfl⟩
    obtain ⟨rev, hfailed⟩ := State.declareFailed_unit (s := s.advance t) (cause := cause) hc hr hh
    rw [hfailed] at hexec
    refine ⟨_, hexec, rfl, rfl, ?_, ?_, fun o ho => ?_, rfl⟩
    · rw [State.setUnit_fabUnit, if_pos rfl]
      rfl
    · rw [State.setUnit_fabUnit, if_pos rfl]
      rfl
    · rw [State.setUnit_fabUnit, if_neg ho]
      rfl
  · intro s t owner h
    have hexec := exec_maintenanceRingPoll_one (t := t) h
    rw [if_neg (by decide)] at hexec
    refine ⟨_, hexec, ?_, rfl, rfl⟩
    rw [State.setUnit_fabUnit, if_pos rfl]
  · intro s t owner h hc
    have hexec := exec_maintenanceRingPoll_one (t := t) h
    have hunit : (s.advance t).fabUnit owner = { missed := 1 } := by simp [State.fabUnit, Tab.get, Tab.find?, h]
    obtain ⟨rev, hfailed⟩ := State.declareFailed_unit (s := s.advance t) (o := owner) (cause := 1) hc (by rw [hunit])
      (by rw [hunit])
    rw [if_pos (by decide), hfailed] at hexec
    refine ⟨_, hexec, ?_, ?_, rfl⟩
    · rw [State.setUnit_fabUnit, if_pos rfl]
      rfl
    · rw [State.setUnit_fabUnit, if_pos rfl]
      rfl
  · intro s t owner r hr
    obtain ⟨p, hexec⟩ := exec_unitReturnToService_restarting (t := t) hr
    refine ⟨_, hexec, ?_, ?_, ?_, ?_, ?_⟩
    · simp [State.fabUnit, State.setUnit]
    · simp [State.fabUnit, State.setUnit]
    · simp [State.setUnit]
    · simp [bandOf]
    · simp [State.setUnit]
  · exact fun s t owner r => rfl

/-! ### Links, speed and memory protection (R331, R332, R341, R345, R346) -/

section
variable {s : State} {t : Nat}

/-- A record that is held or dropped leaves the FATAL bit. -/
@[simp] theorem EventRing.keep_fatal (q : EventRing) (b : Bool) (e : EvRec) : (q.keep b e).fatal = q.fatal := by
  unfold EventRing.keep
  split
  · rfl
  · split
    · split <;> rfl
    · rfl

/-- An event that leaves for the manager or is held for it leaves the FATAL bit. -/
@[simp] theorem State.workerEvent_fatal (e : EvRec) : (s.workerEvent e).evq.fatal = s.evq.fatal := by
  unfold State.workerEvent
  simp only []
  split
  · rfl
  · split <;> rfl

/-- A FATAL event is remembered. -/
theorem State.raiseEvent_fatal (typ : Nat) (p : List Byte) : (s.raiseEvent typ .fatal p).evq.fatal = true := by
  simp only [State.raiseEvent, Severity.code, Nat.lt_irrefl, decide_false, Bool.false_and, Bool.and_false, Bool.false_eq_true,
    if_false, if_true]
  split
  · rw [State.workerEvent_fatal]
  · exact EventRing.keep_fatal _ _ _

/-- The first failed link of a row or column. -/
theorem exec_fabricLinkFailure_first {axis : Fin 2} {index : Fin 6} (link : Fin 5)
    (h : Tab.find? s.fab.spared (6 * axis.val + index.val) = none) : ∃ p, exec (.fabricLinkFailure t axis index link) s =
      .next (({ s.advance t with fab := { s.fab with
        spared := Tab.set s.fab.spared (6 * axis.val + index.val) link.val } } : State).raiseEvent 0x0143 .notice p) := by
  have h' : Tab.find? (s.advance t).fab.spared (6 * axis.val + index.val) = none := h
  apply Exists.intro
  show execFabricLinkFailure t axis index link s = _
  rw [execFabricLinkFailure]
  simp only [h']
  rfl

/-- The second failed link of a row or column. -/
theorem exec_fabricLinkFailure_second {axis : Fin 2} {index : Fin 6} {link : Fin 5} {first : Nat}
    (h : Tab.find? s.fab.spared (6 * axis.val + index.val) = some first) (hne : first ≠ link.val)
    (hf : s.boot.fabricFaultAt = none) : ∃ p, exec (.fabricLinkFailure t axis index link) s =
      .next { (s.advance t).raiseEvent 0x0144 .fatal p with boot := { s.boot with fabricFaultAt := some (max s.now t) } } := by
  have h' : Tab.find? (s.advance t).fab.spared (6 * axis.val + index.val) = some first := h
  apply Exists.intro
  show execFabricLinkFailure t axis index link s = _
  rw [execFabricLinkFailure]
  simp only [h', if_neg hne]
  rw [if_neg (by simp [hf])]
  simp only [State.raiseEvent_keeps]
  rfl

/-- The lowest of readings that are all at a bound or above. -/
theorem lowestReading_ge {b : Nat} {l : List Nat} (h : ∀ v ∈ l, b ≤ v) (k : Nat) (best : Nat × Nat) (hb : b ≤ best.1) :
    b ≤ (lowestReading l k best).1 := by
  induction l generalizing k best with
  | nil => exact hb
  | cons v l ih =>
    obtain ⟨hv, hl⟩ := List.forall_mem_cons.mp h
    refine ih hl (k + 1) _ ?_
    split
    · exact hv
    · exact hb

/-- A reading at the threshold or above raises nothing. -/
theorem slowLevel_silent {now low thr : Nat} (h : thr ≤ low) (armed : Bool) (above : Option Nat) :
    (slowLevel now low thr armed above).1 = false := by
  rw [slowLevel, if_neg (Nat.not_lt.mpr h)]

/-- An uncorrectable word noted in its pool: counted, its address kept, its word poisoned. -/
def State.eccNoted (s : State) (pool addr : Nat) (eventAt : Option Nat) : State :=
  { s with fab := { s.fab with
    ecc := Tab.set s.fab.ecc pool { Tab.get s.fab.ecc pool {} with
      uncorrected := wrapAdd 32 (Tab.get s.fab.ecc pool {}).uncorrected 1, lastAddress := addr, eventAt := eventAt }
    poison := if pool < 8 && !s.fab.poison.contains (addr - addr % 8) then (addr - addr % 8) :: s.fab.poison
      else s.fab.poison } }

/-- An uncorrectable word is noted, with an event or without. -/
theorem State.eccUncorrected_noted (pool addr : Nat) : ∃ a p, s.eccUncorrected pool addr = s.eccNoted pool addr a ∨
    s.eccUncorrected pool addr = (s.eccNoted pool addr a).raiseEvent 0x0140 .error p := by
  unfold State.eccUncorrected
  extract_lets e due e' w u
  by_cases hd : due = true
  · exact ⟨_, _, Or.inr (if_pos hd)⟩
  · exact ⟨_, [], Or.inl (if_neg hd)⟩

/-- What is noted of an uncorrectable word stands after the event as well. -/
theorem State.eccUncorrected_shows (pool addr : Nat) :
    (Tab.get (s.eccUncorrected pool addr).fab.ecc pool {}).uncorrected = ((Tab.get s.fab.ecc pool {}).uncorrected + 1) % 2 ^ 32 ∧
    (Tab.get (s.eccUncorrected pool addr).fab.ecc pool {}).lastAddress = addr ∧
    (pool < 8 → addr - addr % 8 ∈ (s.eccUncorrected pool addr).fab.poison) ∧
    (s.eccUncorrected pool addr).fab.leases = s.fab.leases ∧ (s.eccUncorrected pool addr).mem = s.mem := by
  obtain ⟨a, p, h⟩ := s.eccUncorrected_noted pool addr
  have hfab : (s.eccUncorrected pool addr).fab = (s.eccNoted pool addr a).fab ∧
      (s.eccUncorrected pool addr).mem = s.mem := by
    rcases h with h | h
    · rw [h]
      exact ⟨rfl, rfl⟩
    · rw [h]
      simp [State.eccNoted]
  rw [hfab.1, hfab.2]
  refine ⟨?_, ?_, fun hp => ?_, rfl, rfl⟩
  · simp [State.eccNoted, wrapAdd]
  · simp [State.eccNoted]
  · by_cases hc : addr - addr % 8 ∈ s.fab.poison <;> simp [State.eccNoted, hp, hc]

end

/-- Settles O37. -/
theorem fabricFaultsAndWatchdog : Obligations.FabricFaultsAndWatchdog := by
  unfold Obligations.FabricFaultsAndWatchdog
  refine ⟨?_, ?_, ?_, ?_, ?_, ?_, ?_, ?_, ?_⟩
  · intro s t axis index link h
    obtain ⟨p, hexec⟩ := exec_fabricLinkFailure_first (t := t) link h
    refine ⟨_, hexec, ?_, fun k hk => ?_, by simp⟩
    · simp
    · simp [hk]
  · intro s t first axis index link h hne hf
    obtain ⟨p, hexec⟩ := exec_fabricLinkFailure_second (t := t) h hne hf
    exact ⟨_, hexec, by simp, State.raiseEvent_fatal _ _, by simp⟩
  · intro s t0 h
    have hexec : exec .fabricFaultReset s = .next ((s.advance (t0 + 384000000)).internalReset none) := by
      show execFabricFaultReset s = _
      rw [execFabricFaultReset, h]
      rfl
    exact ⟨_, hexec, by simp, rfl, by simp, rfl, by simp, by simp⟩
  · intro s t l hl hv
    have hlow : 740 ≤ (lowestReading l 0 (2 ^ 32, 0)).1 := lowestReading_ge hv 0 _ (by decide)
    have hlow' : 700 ≤ (lowestReading l 0 (2 ^ 32, 0)).1 := Nat.le_trans (by decide) hlow
    have hexec : ∃ f : Fabric, exec (.fabricSpeedMonitor t l) s = .next { s.advance t with fab := f } ∧
        f.monitors = (List.range 36).zip l := by
      apply Exists.intro
      refine ⟨?_, ?_⟩
      · show execFabricSpeedMonitor t l s = _
        rw [execFabricSpeedMonitor]
        simp only [hl, slowLevel_silent hlow, slowLevel_silent hlow']
        rfl
      · rfl
    obtain ⟨f, hexec, hf⟩ := hexec
    exact ⟨_, hexec, hf, rfl, rfl⟩
  · intro s t addr pool
    refine ⟨_, rfl, ?_, fun k hk => ?_, rfl⟩
    · simp [State.eccCorrected, wrapAdd]
    · simp [State.eccCorrected, hk]
  · intro s t addr
    obtain ⟨h1, h2, h3, h4, h5⟩ := State.eccUncorrected_shows (s := s.advance t) 5 addr
    exact ⟨_, rfl, h1, h2, h3 (by decide), congrArg _ h4, h5⟩
  · intro s t h
    exact if_neg (by simp [h])
  · intro s t h hb ht
    have hexec : exec (.watchdogExpiry t) s = .next ((s.advance t).watchdogExpire false) := if_pos ⟨hb, ht⟩
    have hexpire : (s.advance t).watchdogExpire false = { (s.advance t).hardAbort with
        boot := { s.boot with watchdogExpired := some (max s.now t), syscEcc := false } } := if_neg (by simp [h])
    rw [hexpire] at hexec
    exact ⟨_, hexec, rfl, rfl, rfl⟩
  · intro s t0 h
    have hexec : exec .watchdogReset s = .next (({ s.advance (t0 + 3840000) with
        dawn := { s.dawn with faultBoots := max s.now (t0 + 3840000) :: s.dawn.faultBoots } } : State).internalReset
          (some (if s.boot.syscEcc then 0x06 else 0x05))) := by
      show execWatchdogReset s = _
      rw [execWatchdogReset, h]
      rfl
    refine ⟨_, hexec, by simp, ?_, by simp, by simp, by simp, by simp, by simp⟩
    rw [State.internalReset_bootCause]
    split <;> rfl

end Sys2Proof.Machine
end

section
/-!
PROOFS. The fronthaul (family 13): ports, the line, records, outcomes and IQ frames.
-/

namespace Sys2Proof.Machine

open Sys2Proof

/-! ### Ports and their line (R417 to R420) -/

section
variable {s : State} {p : Nat} {f : Frame}

/-- A port that is changed, and the others. -/
@[simp] theorem State.setPort_port (p q : Nat) (g : Port → Port) :
    (s.setPort p g).fh.port q = if q = p then g (s.fh.port p) else s.fh.port q := by
  simp [State.setPort, Fh.port]

/-- A port whose counts change, and the others. -/
@[simp] theorem State.portCount_port (p q : Nat) (g : PortCounts → PortCounts) :
    (s.portCount p g).fh.port q =
      if q = p then { s.fh.port p with counts := g (s.fh.port p).counts } else s.fh.port q :=
  State.setPort_port p q _

/-- A change of a port that keeps what the host enabled and the state of the link. -/
theorem State.setPort_portUp {g : Port → Port} (he : ∀ q, (g q).enable = q.enable) (hu : ∀ q, (g q).up = q.up) (k : Nat) :
    (s.setPort p g).portUp k = s.portUp k := by
  unfold State.portUp
  rw [State.setPort_port]
  split
  · next hk =>
    rw [he, hu, hk]
    rfl
  · rfl

/-- No frame waits: the line stays as it is. -/
theorem State.kick_empty (h : (s.fh.port p).queue = []) : s.kick p = s := by
  have hn : nextFrame (s.fh.port p).queue s.now = none := by
    rw [h]
    rfl
  unfold State.kick
  simp only [hn, ite_self]

/-- A busy line stays as it is. -/
theorem State.kick_busy (h : (s.fh.port p).sending.isSome = true) : s.kick p = s := if_pos (by simp [h])

/-- A port that is not up sends nothing. -/
theorem State.kick_down (h : s.portUp p = false) : s.kick p = s := if_pos (by simp [h])

/-- The frame `f` on the line of port p, before PTP notes its departure. -/
def State.taken (s : State) (p : Nat) (f : Frame) : State :=
  let u := s.setPort p (fun q => { q with queue := q.queue.erase f, sending := some f, sendingAt := s.now })
  { u with fh := { u.fh with sent := u.fh.sent ++ [u.departing p f] } }

/-- The ports once a frame is on the line of one. -/
theorem State.taken_port (k : Nat) : (s.taken p f).fh.port k = if k = p then { s.fh.port p with
    queue := (s.fh.port p).queue.erase f, sending := some f, sendingAt := s.now } else s.fh.port k := by
  show (s.setPort p (fun q => { q with queue := q.queue.erase f, sending := some f, sendingAt := s.now })).fh.port k = _
  rw [State.setPort_port]

/-- What PTP notes of a departing frame. -/
def FrameBody.noted (b : FrameBody) (u : TimeUnit) (ps : Int) : TimeUnit :=
  match b with
  | .delayReq n => { u with delayReq := some (n, ps) }
  | _ => u

/-- A free line of a port that is up takes the next frame, which is not late. -/
theorem State.kick_sends (hu : s.portUp p = true) (hs : (s.fh.port p).sending = none)
    (hn : nextFrame (s.fh.port p).queue s.now = some f) (hl : ∀ t, f.launch = some t → s.now ≤ t) :
    s.kick p = { s.taken p f with time := f.body.noted s.time ((s.taken p f).departPs p s.now) } := by
  have hlate : ∀ t, f.launch = some t → ¬t + 4 * Config.us < s.now := fun t ht => by
    have := hl t ht
    omega
  unfold State.kick
  simp only [hs, hu, hn, Option.isSome_none, Bool.not_true, Bool.or_self, Bool.false_eq_true, if_false]
  cases hf : f.launch with
  | none => cases hb : f.body <;> rfl
  | some t => cases hb : f.body <;> exact if_neg (hlate t hf)

/-- A frame that starts on port p at once, which `q` is then: the ports and the frames sent alone change. -/
structure State.Sends (s t : State) (p : Nat) (q : Port) : Prop where
  port : ∀ k, t.fh.port k = if k = p then q else s.fh.port k
  sent : t.fh.sent.length = s.fh.sent.length + 1
  rest : ({ t with fh := { t.fh with ports := s.fh.ports, sent := s.fh.sent } } : State) = s

/-- Beyond the fronthaul nothing changes. -/
theorem State.Sends.frame {t : State} {q : Port} (h : s.Sends t p q) : ({ t with fh := s.fh } : State) = s := by
  have hfh := congrArg (fun x : State => ({ x with fh := s.fh } : State)) h.rest
  exact hfh

/-- The port that sends. -/
theorem State.Sends.same {t : State} {q : Port} (h : s.Sends t p q) : t.fh.port p = q := by
  rw [h.port, if_pos rfl]

/-- A frame queued on a free line of a port that is up starts at once. -/
theorem State.enqueue_sends (hu : s.portUp p = true) (hq : (s.fh.port p).queue = []) (hs : (s.fh.port p).sending = none)
    (hl : f.launch = none) (hb : ∀ n, f.body ≠ .delayReq n) :
    s.Sends (s.enqueue p f) p { s.fh.port p with queue := [], sending := some f, sendingAt := s.now } := by
  have hport : (s.setPort p (fun q => { q with queue := q.queue ++ [f] })).fh.port p = { s.fh.port p with queue := [f] } := by
    rw [State.setPort_port, if_pos rfl, hq]
    rfl
  have hup : (s.setPort p (fun q => { q with queue := q.queue ++ [f] })).portUp p = true :=
    (State.setPort_portUp (by exact fun _ => rfl) (by exact fun _ => rfl) p).trans hu
  have hnext : nextFrame ((s.setPort p (fun q => { q with queue := q.queue ++ [f] })).fh.port p).queue s.now = some f := by
    rw [hport]
    simp [nextFrame, Frame.ready, hl]
  have htime : ∀ (u : TimeUnit) (ps : Int), f.body.noted u ps = u := by
    intro u ps
    unfold FrameBody.noted
    split
    · next n hn => exact absurd hn (hb n)
    · rfl
  have hkick : s.enqueue p f = { (s.setPort p (fun q => { q with queue := q.queue ++ [f] })).taken p f with time := s.time } := by
    rw [State.enqueue, State.kick_sends hup (by rw [hport]; exact hs) hnext (fun t ht => by simp [hl] at ht), htime]
    rfl
  rw [hkick]
  refine ⟨fun k => ?_, ?_, rfl⟩
  · refine (State.taken_port k).trans ?_
    rw [hport]
    by_cases hk : k = p
    · simp [hk]
    · rw [if_neg hk, if_neg hk, State.setPort_port, if_neg hk]
  · exact List.length_append

/-- A type-3 message on a free line starts at once with the SEQ_ID of its content. -/
theorem State.sendGeneric_sends (cls pc : Nat) (shared : Bool) (rs : List (List Byte)) (hu : s.portUp p = true)
    (hq : (s.fh.port p).queue = []) (hs : (s.fh.port p).sending = none) : ∃ n, s.Sends (s.sendGeneric p cls pc shared rs) p
      { s.fh.port p with
        queue := [], sendingAt := s.now
        sending := some { cls := cls, length := n, shared := shared, body := .generic pc (Tab.get (s.fh.port p).seqIds pc 0) rs }
        seqIds := Tab.set (s.fh.port p).seqIds pc ((Tab.get (s.fh.port p).seqIds pc 0 + 1) % 2 ^ 24) } := by
  have hport : (s.takeSeq p pc).2.fh.port p = { s.fh.port p with
      seqIds := Tab.set (s.fh.port p).seqIds pc ((Tab.get (s.fh.port p).seqIds pc 0 + 1) % 2 ^ 24) } := by
    rw [State.takeSeq, State.setPort_port, if_pos rfl]
  have hup : (s.takeSeq p pc).2.portUp p = true :=
    (State.setPort_portUp (by exact fun _ => rfl) (by exact fun _ => rfl) p).trans hu
  have hsend := State.enqueue_sends (f := { (s.takeSeq p pc).2.frameFor p cls
    (rs.foldl (fun n r => n + r.length) 0x18) (.generic pc (s.takeSeq p pc).1 rs) with shared := shared }) hup
    (by rw [hport]; exact hq) (by rw [hport]; exact hs) rfl (fun n => by simp [State.frameFor])
  refine ⟨frameLength (s.fh.port p).vlan (rs.foldl (fun n r => n + r.length) 0x18), fun k => ?_, hsend.sent, ?_⟩
  · refine (hsend.port k).trans ?_
    by_cases hk : k = p
    · rw [if_pos hk, if_pos hk, State.frameFor, hport]
      rfl
    · rw [if_neg hk, if_neg hk, State.takeSeq, State.setPort_port, if_neg hk]
  · exact congrArg (fun x : State => ({ x with fh := { x.fh with ports := s.fh.ports } } : State)) hsend.rest

/-! ### What the egress of a port leaves as it was -/

/-- A port but for what its egress changes: frames, lateness and its event. -/
def Port.settings (q : Port) : Port :=
  { q with
    queue := [], sending := none, sendingAt := 0, counts := { q.counts with iqLate := 0 }, dropSince := 0, lateSince := 0
    dropEventAt := none }

/-- The egress of port p: the other ports, the settings of its own, time but for PTP's note, and what waits stay. -/
structure State.Egress (s t : State) (p : Nat) : Prop where
  other : ∀ k, k ≠ p → t.fh.port k = s.fh.port k
  settings : (t.fh.port p).settings = (s.fh.port p).settings
  now : t.now = s.now
  boot : t.boot = s.boot
  time : ({ t.time with delayReq := none } : TimeUnit) = { s.time with delayReq := none }
  tables : t.fh.streams = s.fh.streams ∧ t.fh.results = s.fh.results ∧ t.fh.ingress = s.fh.ingress

/-- Egress after egress. -/
theorem State.Egress.trans {t u : State} (h : s.Egress t p) (k : t.Egress u p) : s.Egress u p where
  other q hq := (k.other q hq).trans (h.other q hq)
  settings := k.settings.trans h.settings
  now := k.now.trans h.now
  boot := k.boot.trans h.boot
  time := k.time.trans h.time
  tables := ⟨k.tables.1.trans h.tables.1, k.tables.2.1.trans h.tables.2.1, k.tables.2.2.trans h.tables.2.2⟩

/-- No egress. -/
theorem State.Egress.refl : s.Egress s p := ⟨fun _ _ => rfl, rfl, rfl, rfl, rfl, rfl, rfl, rfl⟩

/-- A change of a port that its settings do not show. -/
theorem State.setPort_egress {g : Port → Port} (h : ∀ q, (g q).settings = q.settings) : s.Egress (s.setPort p g) p where
  other k hk := by rw [State.setPort_port, if_neg hk]
  settings := by rw [State.setPort_port, if_pos rfl, h]
  now := rfl
  boot := rfl
  time := rfl
  tables := ⟨rfl, rfl, rfl⟩

/-- An event is no egress. -/
theorem State.raiseEvent_egress (typ : Nat) (sev : Severity) (x : List Byte) : s.Egress (s.raiseEvent typ sev x) p where
  other k _ := by simp
  settings := by simp
  now := by simp
  boot := by simp
  time := by simp
  tables := by simp

/-- EV_FH_IQ_DROP, raised or not. -/
theorem State.iqDropEvent_egress : s.Egress (s.iqDropEvent p) p := by
  unfold State.iqDropEvent
  extract_lets q due
  split
  · refine State.Egress.trans ?_ (State.raiseEvent_egress _ _ _)
    exact State.setPort_egress fun _ => rfl
  · exact State.Egress.refl

/-- A frame on the line, with what PTP notes of it. -/
theorem State.taken_egress (tm : TimeUnit) (h : ({ tm with delayReq := none } : TimeUnit) = { s.time with delayReq := none }) :
    s.Egress { s.taken p f with time := tm } p where
  other k hk := (State.taken_port k).trans (if_neg hk)
  settings := by
    have hport := State.taken_port (s := s) (p := p) (f := f) p
    rw [if_pos rfl] at hport
    have hsettings := congrArg Port.settings hport
    exact hsettings
  now := rfl
  boot := rfl
  time := h
  tables := ⟨rfl, rfl, rfl⟩

/-- A frame that leaves late is counted. -/
theorem State.Egress.late {u : State} (h : s.Egress u p) : s.Egress (((u.portCount p (fun c =>
    { c with iqLate := wrapAdd 32 c.iqLate 1 })).setPort p (fun q =>
      { q with lateSince := q.lateSince + 1 })).iqDropEvent p) p := by
  refine (h.trans ?_).trans State.iqDropEvent_egress
  refine State.Egress.trans (t := u.portCount p (fun c => { c with iqLate := wrapAdd 32 c.iqLate 1 })) ?_ ?_
  · exact State.setPort_egress fun _ => rfl
  · exact State.setPort_egress fun _ => rfl

/-- A frame that leaves in time or late. -/
theorem State.Egress.lateOr {u : State} (h : s.Egress u p) (c : Prop) [Decidable c] : s.Egress (if c then
    ((u.portCount p (fun c => { c with iqLate := wrapAdd 32 c.iqLate 1 })).setPort p
      (fun q => { q with lateSince := q.lateSince + 1 })).iqDropEvent p else u) p := by
  split
  · exact h.late
  · exact h

/-- The port takes its next frame, or not. -/
theorem State.kick_egress : s.Egress (s.kick p) p := by
  unfold State.kick
  extract_lets q
  split
  · exact State.Egress.refl
  · split
    · exact State.Egress.refl
    · next f hf =>
      cases hl : f.launch with
      | none => cases hb : f.body <;> exact State.taken_egress _ rfl
      | some t =>
        cases hb : f.body with
        | delayReq n =>
          exact (State.taken_egress (s := s) (p := p) (f := f)
            { s.time with delayReq := some (n, (s.taken p f).departPs p s.now) } rfl).lateOr (t + 4 * Config.us < s.now)
        | _ => exact (State.taken_egress (s := s) (p := p) (f := f) s.time rfl).lateOr (t + 4 * Config.us < s.now)

/-- A frame is queued. -/
theorem State.enqueue_egress : s.Egress (s.enqueue p f) p := by
  refine State.Egress.trans ?_ State.kick_egress
  exact State.setPort_egress fun _ => rfl

end

/-! ### A port that is down (R420, R426) -/

section
variable {s t : State} {n p : Nat}

/-- What happens beside port n: the port, the straps and time but for PTP's note stay. -/
structure State.Beside (s t : State) (n : Nat) : Prop where
  port : t.fh.port n = s.fh.port n
  boot : t.boot = s.boot
  time : ({ t.time with delayReq := none } : TimeUnit) = { s.time with delayReq := none }

/-- Nothing happens. -/
theorem State.Beside.refl : s.Beside s n := ⟨rfl, rfl, rfl⟩

/-- One after the other. -/
theorem State.Beside.trans {u : State} (h : s.Beside t n) (k : t.Beside u n) : s.Beside u n :=
  ⟨k.port.trans h.port, k.boot.trans h.boot, k.time.trans h.time⟩

/-- Whether port n is up stays. -/
theorem State.Beside.portUp (h : s.Beside t n) : t.portUp n = s.portUp n := by
  unfold State.portUp State.isWorker
  rw [State.role_congr h.boot, h.port]

/-- The egress of another port. -/
theorem State.Egress.beside (h : s.Egress t p) (hn : n ≠ p) : s.Beside t n := ⟨h.other n hn, h.boot, h.time⟩

/-- The port that takes a result is up. -/
theorem State.portUp_of_resultPort {q : Nat} (h : s.resultPort q = some p) : s.portUp p = true := by
  unfold State.resultPort at h
  split at h
  · next hq => cases h; exact hq
  · exact List.find?_some h

/-- A type-3 message of another port. -/
theorem State.sendGeneric_beside (cls pc : Nat) (b : Bool) (rs : List (List Byte)) (hn : n ≠ p) :
    s.Beside (s.sendGeneric p cls pc b rs) n := by
  have hseq : s.Beside (s.takeSeq p pc).2 n := by
    refine ⟨?_, rfl, rfl⟩
    rw [State.takeSeq, State.setPort_port, if_neg hn]
  exact hseq.trans (State.enqueue_egress.beside hn)

/-- The results that have a port leave on ports that are up. -/
theorem State.flushResults_beside (h : s.portUp n = false) : s.Beside s.flushResults n := by
  unfold State.flushResults
  generalize s.fh.results = l
  induction l generalizing s with
  | nil => exact State.Beside.refl
  | cons r l ih =>
    rw [List.foldl_cons]
    cases hp : s.resultPort r.port with
    | none => exact ih h
    | some p =>
      have hne : n ≠ p := by
        rintro rfl
        exact absurd (State.portUp_of_resultPort hp) (by simp [h])
      have hqueue : s.Beside { s with fh := { s.fh with results := s.fh.results.erase r } } n := ⟨rfl, rfl, rfl⟩
      have hstep := hqueue.trans (State.sendGeneric_beside 3 r.pcId r.shared [r.record] hne)
      exact hstep.trans (ih (hstep.portUp.trans h))

/-- Frames queued on a port that is up. -/
theorem State.enqueueAll_beside {o : Nat} (l : List Frame) (hn : n ≠ o) : s.Beside (l.foldl (fun u f => u.enqueue o f) s) n := by
  induction l generalizing s with
  | nil => exact State.Beside.refl
  | cons f l ih => exact (State.enqueue_egress.beside hn).trans ih

/-- A port whose line is freed and whose frames wait elsewhere. -/
def Port.emptied (k : Frame → Bool) (q : Port) : Port := { q with sending := none, queue := q.queue.filter k }

/-- The frames of a port move: its results wait again, and its records leave on the first port that is up. -/
theorem State.rerouteFrames_some {o : Nat} (ho : s.firstPort = some o) : ∃ (rs : List PortResult) (l : List Frame),
    s.rerouteFrames n = (l.foldl (fun u f => u.enqueue o f) (({ s with fh := { s.fh with results := rs } } : State).setPort n
      (Port.emptied (fun f => decide (f.cls ≠ 3) && decide (f.cls ≠ 4))))).flushResults := by
  unfold State.rerouteFrames
  simp only []
  split
  · next o' ho' =>
    obtain rfl : o' = o := Option.some.inj ((show s.firstPort = some o' from ho').symm.trans ho)
    exact ⟨_, _, rfl⟩
  · next ho' => exact absurd ((show s.firstPort = none from ho').symm.trans ho) (by simp)

/-- With no port up the records stay. -/
theorem State.rerouteFrames_none (ho : s.firstPort = none) : ∃ rs : List PortResult, s.rerouteFrames n =
    ({ s with fh := { s.fh with results := rs } } : State).setPort n (Port.emptied (fun f => decide (f.cls ≠ 3))) := by
  unfold State.rerouteFrames
  simp only []
  split
  · next o' ho' => exact absurd ((show s.firstPort = some o' from ho').symm.trans ho) (by simp)
  · exact ⟨_, rfl⟩

/-- The frames of a port that is down move away, and the one on its line is lost. -/
theorem State.rerouteFrames_down (h : s.portUp n = false) : ∃ k, (s.rerouteFrames n).fh.port n = (s.fh.port n).emptied k ∧
    (s.rerouteFrames n).boot = s.boot ∧
      ({ (s.rerouteFrames n).time with delayReq := none } : TimeUnit) = { s.time with delayReq := none } := by
  cases ho : s.firstPort with
  | none =>
    obtain ⟨rs, hreroute⟩ := State.rerouteFrames_none (n := n) ho
    rw [hreroute, State.setPort_port, if_pos rfl]
    exact ⟨_, rfl, rfl, rfl⟩
  | some o =>
    obtain ⟨rs, l, hreroute⟩ := State.rerouteFrames_some (n := n) ho
    have hne : n ≠ o := by
      rintro rfl
      exact absurd (List.find?_some ho) (by simp [h])
    have hset : (({ s with fh := { s.fh with results := rs } } : State).setPort n
        (Port.emptied (fun f => decide (f.cls ≠ 3) && decide (f.cls ≠ 4)))).portUp n = false :=
      (State.setPort_portUp (by exact fun _ => rfl) (by exact fun _ => rfl) n).trans h
    have hall := State.enqueueAll_beside (s := ({ s with fh := { s.fh with results := rs } } : State).setPort n
        (Port.emptied (fun f => decide (f.cls ≠ 3) && decide (f.cls ≠ 4)))) l hne
    have hflush := hall.trans (State.flushResults_beside (hall.portUp.trans hset))
    rw [hreroute]
    refine ⟨fun f => decide (f.cls ≠ 3) && decide (f.cls ≠ 4), hflush.port.trans ?_, hflush.boot, hflush.time⟩
    rw [State.setPort_port, if_pos rfl]
    rfl

/-- A port that loses its master's link: no master, and VALID no longer. -/
theorem State.loseMaster_lost (cause : Nat) (h : s.time.master ≠ none) : (s.loseMaster cause).time.master = none ∧
    (s.loseMaster cause).time.state ≠ .valid ∧ (s.loseMaster cause).fh = s.fh := by
  unfold State.loseMaster
  rw [if_neg (by simpa using h)]
  simp only [State.masterEvent, State.toHoldover, State.raiseEvent_keeps]
  split
  · next hv => simpa using hv
  · simp

/-- Times that differ in PTP's note at most. -/
theorem TimeUnit.eq_but_delayReq {a b : TimeUnit}
    (h : ({ a with delayReq := none } : TimeUnit) = { b with delayReq := none }) : a.master = b.master
      ∧ a.ptpPort = b.ptpPort := by
  have hm := congrArg TimeUnit.master h
  have hp := congrArg TimeUnit.ptpPort h
  exact ⟨hm, hp⟩

/-- A port goes down. -/
theorem State.dropLink_down (cause : Nat) (hu : (s.fh.port n).up = true) :
    ((s.dropLink n cause).fh.port n).up = false ∧ ((s.dropLink n cause).fh.port n).sending = none ∧
    ((s.dropLink n cause).fh.port n).counts.linkDowns = ((s.fh.port n).counts.linkDowns + 1) % 2 ^ 32 ∧
    (n = s.time.ptpPort → (s.dropLink n cause).time.master = none ∧ (s.dropLink n cause).time.state ≠ .valid ∨
      s.time.master = none) := by
  have hdown : ∃ w : State, s.dropLink n cause =
      (if n = (w.rerouteFrames n).time.ptpPort then (w.rerouteFrames n).loseMaster 2 else w.rerouteFrames n) ∧
      w.fh.port n = { s.fh.port n with
        up := false, counts := { (s.fh.port n).counts with linkDowns := wrapAdd 32 (s.fh.port n).counts.linkDowns 1 } } ∧
      w.time = s.time := by
    refine ⟨_, if_neg (by simp [hu]), ?_, ?_⟩
    · simp [State.linkEvent]
    · simp [State.linkEvent]
  obtain ⟨w, hdrop, hport, htime⟩ := hdown
  obtain ⟨k, hreroute, _, hsilent⟩ := State.rerouteFrames_down (s := w) (n := n) (by simp [State.portUp, hport])
  obtain ⟨hmaster, hptp⟩ := TimeUnit.eq_but_delayReq hsilent
  rw [htime] at hmaster hptp
  have hfh : (s.dropLink n cause).fh.port n = (w.fh.port n).emptied k ∧ (n = s.time.ptpPort →
      (s.dropLink n cause).time.master = none ∧ (s.dropLink n cause).time.state ≠ .valid ∨ s.time.master = none) := by
    rw [hdrop, hptp]
    by_cases hm : s.time.master = none
    · have hstay : (w.rerouteFrames n).loseMaster 2 = w.rerouteFrames n := if_pos (by simp [hmaster, hm])
      rw [hstay, ite_self]
      exact ⟨hreroute, fun _ => Or.inr hm⟩
    · obtain ⟨h1, h2, h3⟩ := State.loseMaster_lost (s := w.rerouteFrames n) 2 (by rwa [hmaster])
      by_cases hn : n = s.time.ptpPort
      · rw [if_pos hn, h3]
        exact ⟨hreroute, fun _ => Or.inl ⟨h1, h2⟩⟩
      · rw [if_neg hn]
        exact ⟨hreroute, fun h => absurd h hn⟩
  rw [hfh.1, hport]
  exact ⟨rfl, rfl, rfl, hfh.2⟩

end

/-! ### The commands of Table FH-13 -/

section
variable {s : State} {r : Running}

/-- FH_SET_PORT out of its ranges. -/
theorem setPortBody_badParam (h : 3 < u8 r.cmd.payload 0 ∨ 1 < u8 r.cmd.payload 1 ∨ 1 < u8 r.cmd.payload 2 ∨
    u16 r.cmd.payload 4 % 4096 = 4095 ∨ u8 r.cmd.payload 8 % 2 = 1) : setPortBody r s = .status s Status.badParam := by
  refine if_pos ?_
  rw [Bool.not_eq_true']
  simp only [Bool.and_eq_false_iff, decide_eq_false_iff_not, beq_eq_false_iff_ne]
  omega

/-- FH_SET_PORT within its ranges. -/
theorem setPortBody_ranges (h0 : u8 r.cmd.payload 0 ≤ 3) (h1 : u8 r.cmd.payload 1 ≤ 1) (h2 : u8 r.cmd.payload 2 ≤ 1)
    (h4 : u16 r.cmd.payload 4 % 4096 ≤ 4094) (h8 : u8 r.cmd.payload 8 % 2 = 0) :
    ¬(!(decide (u8 r.cmd.payload 0 ≤ 3) && decide (u8 r.cmd.payload 1 ≤ 1) && decide (u8 r.cmd.payload 2 ≤ 1) &&
      decide (u16 r.cmd.payload 4 % 4096 ≤ 4094) && u8 r.cmd.payload 8 % 2 == 0)) = true := by
  simp [h0, h1, h2, h4, h8]

/-- FH_SET_PORT that enables a port and keeps its FEC. -/
theorem setPortBody_enables (h0 : u8 r.cmd.payload 0 ≤ 3) (h1 : u8 r.cmd.payload 1 = 1)
    (h2 : u8 r.cmd.payload 2 = (if (s.fh.port (u8 r.cmd.payload 0)).fec = true then 1 else 0))
    (h4 : u16 r.cmd.payload 4 % 4096 ≤ 4094) (h8 : u8 r.cmd.payload 8 % 2 = 0) :
    setPortBody r s = .ok (s.setPort (u8 r.cmd.payload 0) (fun q => { q with
      enable := true, fec := (s.fh.port (u8 r.cmd.payload 0)).fec, vlan := u16 r.cmd.payload 4
      srcMac := some (beNat r.cmd.payload 8 6), dstMac := beNat r.cmd.payload 14 6
      boardTxPs := u16 r.cmd.payload 0x14, boardRxPs := u16 r.cmd.payload 0x16 })) [] := by
  have hfec : (u8 r.cmd.payload 2 == 1) = (s.fh.port (u8 r.cmd.payload 0)).fec := by
    rw [h2]
    cases (s.fh.port (u8 r.cmd.payload 0)).fec <;> rfl
  have hen : (u8 r.cmd.payload 1 == 1) = true := beq_iff_eq.mpr h1
  have hle : u8 r.cmd.payload 2 ≤ 1 := by
    rw [h2]
    split <;> decide
  refine (if_neg (setPortBody_ranges h0 (by omega) hle h4 h8)).trans ?_
  simp only [hfec, hen, Bool.not_true, bne_self_eq_false, Bool.false_eq_true, if_false, if_true]

/-- FH_SET_PORT that disables a port: its frames move away before and after. -/
theorem setPortBody_disables (h0 : u8 r.cmd.payload 0 ≤ 3) (h1 : u8 r.cmd.payload 1 = 0) (h2 : u8 r.cmd.payload 2 ≤ 1)
    (h4 : u16 r.cmd.payload 4 % 4096 ≤ 4094) (h8 : u8 r.cmd.payload 8 % 2 = 0) : ∃ w : State,
    setPortBody r s = .ok (w.rerouteFrames (u8 r.cmd.payload 0)) [] ∧ (w.fh.port (u8 r.cmd.payload 0)).enable = false := by
  have hen : (u8 r.cmd.payload 1 == 1) = false := by simp [h1]
  have hbody : setPortBody r s = _ := if_neg (setPortBody_ranges h0 (by omega) h2 h4 h8)
  simp only [hen, Bool.not_false, if_true, Bool.false_eq_true, if_false] at hbody
  refine ⟨_, hbody, ?_⟩
  rw [State.setPort_port, if_pos rfl]

/-- FH_SET_STREAM into the first slot in use. -/
theorem setStreamBody_first (h0 : u8 r.cmd.payload 0 ≤ 31) (h1 : u8 r.cmd.payload 1 = 1)
    (hok : s.streamOk (parseStream r.cmd.payload) = true) (he : (s.fh.port (u8 r.cmd.payload 4)).enable = true)
    (hs : s.fh.streams = []) (hneed : (s.portNeed [(0, parseStream r.cmd.payload)] (u8 r.cmd.payload 4)).1 ≤
        25000000000 * (s.portNeed [(0, parseStream r.cmd.payload)] (u8 r.cmd.payload 4)).2) :
    setStreamBody r s = .ok { s with fh := { s.fh with streams := [(u8 r.cmd.payload 0, parseStream r.cmd.payload)] } }
      (leSat 2 (s.minLatency (parseStream r.cmd.payload)) ++
        leSat 2 (portLoad (s.portNeed [(0, parseStream r.cmd.payload)] (u8 r.cmd.payload 4)))) := by
  unfold setStreamBody
  extract_lets p n x seq streams need
  have hstreams : streams = [(n, x)] := by
    show Tab.set s.fh.streams n { x with seq := (Tab.get s.fh.streams n {}).seq } = [(n, x)]
    rw [hs]
    rfl
  have hslot : need = s.portNeed [(0, x)] (u8 r.cmd.payload 4) := by
    show s.portNeed streams x.port = _
    rw [hstreams]
    rfl
  have hrange : (decide (n ≤ 31) && decide (u8 p 1 ≤ 1) && s.streamOk x) = true := by
    rw [decide_eq_true h0, decide_eq_true (Nat.le_of_eq h1), hok]
    rfl
  have henabled : (s.fh.port x.port).enable = true := he
  rw [hslot, hrange, henabled, decide_eq_true hneed, hstreams]
  rfl

/-- FH_SET_STREAM on a disabled port. -/
theorem setStreamBody_disabled (h0 : u8 r.cmd.payload 0 ≤ 31) (h1 : u8 r.cmd.payload 1 ≤ 1)
    (hok : s.streamOk (parseStream r.cmd.payload) = true) (he : (s.fh.port (u8 r.cmd.payload 4)).enable = false) :
    setStreamBody r s = .status s Status.portDisabled := by
  have hport : (parseStream r.cmd.payload).port = u8 r.cmd.payload 4 := rfl
  unfold setStreamBody
  simp [firstFailure, hport, h0, h1, hok, he]

/-- Nothing waits for a port. -/
theorem State.flushResults_nil (h : s.fh.results = []) : s.flushResults = s := by
  rw [State.flushResults, h]
  rfl

/-- No record waits in the pool. -/
theorem State.pull_nil (h : s.dmd.pool = []) : s.pull = s := by
  rw [State.pull, h]
  rfl

/-- FH_SET_RECORDS with four ports. -/
theorem setRecordsBody_ports (hp : ∀ k : Fin 4, u8 r.cmd.payload k ≤ 3) (h4 : u8 r.cmd.payload 4 ≤ 10)
    (hr : s.fh.results = []) (hd : s.dmd.pool = []) : setRecordsBody r s = .ok { s with fh := { s.fh with
      portOrder := (List.range 4).map (fun k => u8 r.cmd.payload k), recHoldUs := u8 r.cmd.payload 4 } } [] := by
  have hle : ∀ x ∈ (List.range 4).map (fun k => u8 r.cmd.payload k), x ≤ 3 := by
    intro x hx
    obtain ⟨k, hk, rfl⟩ := List.mem_map.mp hx
    exact hp ⟨k, List.mem_range.mp hk⟩
  have hused : ((List.range 4).map (fun k => u8 r.cmd.payload k)).takeWhile (fun x => x != 0xFF) =
      (List.range 4).map (fun k => u8 r.cmd.payload k) := by
    rw [List.takeWhile_eq_self_iff]
    intro x hx
    have := hle x hx
    simp
    omega
  have hall : ((List.range 4).map (fun k => u8 r.cmd.payload k)).all (fun x => decide (x ≤ 3)) = true :=
    List.all_eq_true.mpr fun x hx => decide_eq_true (hle x hx)
  unfold setRecordsBody
  simp only [hused, hall, h4, decide_true, Bool.and_self, Bool.not_true, Bool.false_eq_true, if_false]
  rw [State.flushResults_nil (s := { s with fh := { s.fh with
    portOrder := (List.range 4).map (fun k => u8 r.cmd.payload k), recHoldUs := u8 r.cmd.payload 4 } }) hr, State.pull_nil]
  exact hd

/-- FH_SET_RECORDS with a hold time out of range. -/
theorem setRecordsBody_badParam (h : 10 < u8 r.cmd.payload 4) : setRecordsBody r s = .status s Status.badParam := by
  refine if_pos ?_
  rw [decide_eq_false (Nat.not_le.mpr h), Bool.and_false]
  rfl

/-- The status of one port. -/
theorem State.portStatus_fields (p : Nat) : (s.portStatus p).length = 0x40 ∧
    u8 (s.portStatus p) 0 = (if (s.fh.port p).enable = false then 0 else if (s.fh.port p).up = true then 2 else 1) ∧
    u32 (s.portStatus p) 4 = (s.fh.port p).counts.rxFrames % 2 ^ 32 ∧
    u32 (s.portStatus p) 0xC = (s.fh.port p).counts.rxDiscard % 2 ^ 32 ∧
    u32 (s.portStatus p) 0x14 = (s.fh.port p).counts.txFrames % 2 ^ 32 ∧
    u32 (s.portStatus p) 0x30 = (s.fh.port p).counts.rtcLate % 2 ^ 32 := by
  have hstate : (if (!(s.fh.port p).enable) = true then 0 else if (s.fh.port p).up = true then 2 else 1) % 256 =
      if (s.fh.port p).enable = false then 0 else if (s.fh.port p).up = true then 2 else 1 := by
    cases (s.fh.port p).enable <;> cases (s.fh.port p).up <;> rfl
  simp only [State.portStatus, List.append_assoc]
  refine ⟨by simp [zeros], (u8_le _ _).trans hstate, ?_⟩
  simp [u32_append_of_le, u32_le]

/-- The response of FH_GET_PORT_STATUS. -/
theorem State.portStatusBytes_fields (k : Fin 4) : ((List.range 4).flatMap s.portStatus).length = 0x100 ∧
    bytesAt ((List.range 4).flatMap s.portStatus) (0x40 * k) 0x40 = s.portStatus k := by
  have hlen := fun p => (s.portStatus_fields p).1
  refine ⟨(length_flatMap_of_forall hlen _).trans (by simp), ?_⟩
  have htable := bytesAt_table (p := []) hlen k.isLt
  rwa [List.append_nil] at htable

end

/-! ### Frames and messages that arrive (R417, R419, R422 to R424, R432, R433) -/

section
variable {s : State} {t : Nat} {p : Fin 4}

/-- Whether a port is up after time has passed. -/
@[simp] theorem State.portUp_advance (t p : Nat) : (s.advance t).portUp p = s.portUp p := rfl

/-- A port that comes up, with nothing that waits for it. -/
theorem exec_fhLinkChange_up (c : Fin 3) (hr : s.role ≠ .worker) (he : (s.fh.port p).enable = true)
    (hu : (s.fh.port p).up = false)
    (hl : s.linksStopped = false) (hq : (s.fh.port p).queue = []) (hres : s.fh.results = []) (hd : s.dmd.pool = []) :
    exec (.fhLinkChange t p true c) s = .next (((s.advance t).setPort p (fun q =>
      { q with up := true })).linkEvent p true 4) := by
  have hw : (s.advance t).isWorker = false := beq_eq_false_iff_ne.mpr hr
  have hne : ¬((s.advance t).isWorker || !((s.advance t).fh.port p).enable || ((s.advance t).fh.port p).up == true ||
      (true && (s.advance t).linksStopped)) = true := by
    rw [hw, show ((s.advance t).fh.port p).enable = true from he, show ((s.advance t).fh.port p).up = false from hu,
      show (s.advance t).linksStopped = false from hl]
    decide
  have hexec : exec (.fhLinkChange t p true c) s =
      .next ((((((s.advance t).setPort p (fun q => { q with up := true })).linkEvent p true 4)).flushResults.kick p).pull) :=
    (if_neg hne).trans (if_pos rfl)
  rw [hexec, State.flushResults_nil, State.kick_empty, State.pull_nil]
  · simp [State.linkEvent, hd]
  · simp [State.linkEvent, hq]
  · simp [State.linkEvent, State.setPort, hres]

/-- A port that goes down. -/
theorem exec_fhLinkChange_down (c : Fin 3) (hr : s.role ≠ .worker) (he : (s.fh.port p).enable = true)
    (hu : (s.fh.port p).up = true) :
    exec (.fhLinkChange t p false c) s = .next ((s.advance t).dropLink p c) := by
  have hw : (s.advance t).isWorker = false := beq_eq_false_iff_ne.mpr hr
  refine (if_neg ?_).trans (if_neg Bool.false_ne_true)
  rw [hw, show ((s.advance t).fh.port p).enable = true from he, show ((s.advance t).fh.port p).up = true from hu]
  simp

/-- A frame at a port that is up: its end as FCS, length, address and type decide, where FEC changed nothing. -/
theorem exec_fhFrameReceive_up (ok x : Bool) (len dest ty : Nat) (hu : s.portUp p = true) :
    exec (.fhFrameReceive t p ok len dest ty x 0) s =
      (if !ok then .next ((s.advance t).portCount p (fun c => { c with rxFcsErr := wrapAdd 32 c.rxFcsErr 1 }))
        else if !inRange 64 len 9600 || !(dest == s.fh.srcMac p || (p.val == s.time.ptpPort && dest == s.time.multicast)) ||
            !(ty == 0xAEFE || ty == 0x88F7) || x then
          .next ((s.advance t).portCount p (fun c => { c with rxDiscard := wrapAdd 32 c.rxDiscard 1 }))
        else .next ((s.advance t).portCount p (fun c => { c with rxFrames := wrapAdd 32 c.rxFrames 1 }))) := by
  have hfec : (if !((s.advance t).fh.port p).fec then s.advance t
      else if (0 : Fin 3).val = 1 then (s.advance t).portCount p (fun c => { c with fecCorrected := wrapAdd 32 c.fecCorrected 1 })
      else if (0 : Fin 3).val = 2 then (s.advance t).portCount p
        (fun c => { c with fecUncorrected := wrapAdd 32 c.fecUncorrected 1 })
      else s.advance t) = s.advance t := by
    split
    · rfl
    · rfl
  refine (if_neg (by simp [hu])).trans ?_
  simp only [hfec]
  rfl

/-- The control port takes the one message that waits while a shared entry is free. -/
theorem State.drain_one {m : RtcMessage} (hi : s.fh.ingress = [m]) (hs : s.sharedUsed < 256) :
    s.drain = ({ s with fh := { s.fh with ingress := [] } } : State).processRtc m := by
  rw [State.drain, hi, List.length_singleton, State.drainIngress]
  simp only [hi, hs, if_true]
  rfl

/-- No message waits. -/
theorem State.drain_nil (h : s.fh.ingress = []) : s.drain = s := by
  rw [State.drain, h]
  rfl

/-- A type-2 message that finds room is processed at once. -/
theorem State.receiveRtc_room {m : RtcMessage} (hu : s.portUp m.port = true) (hr : s.boot.ready = true)
    (he : m.seqId / 128 % 2 = 1)
    (hi : s.fh.ingress = []) (hs : s.sharedUsed < 256) (hl : m.body.length ≤ 9000) :
    s.receiveRtc m = (s.advance m.arrived).processRtc m := by
  have hroom : ¬32768 < m.bytes := by
    have : m.bytes ≤ 9100 := by
      simp only [RtcMessage.bytes, frameLength, if_true]
      exact Nat.max_le.mpr ⟨by decide, by omega⟩
    omega
  have hkeep : ({ s.fh with ingress := [] } : Fh) = s.fh := congrArg (fun l => { s.fh with ingress := l }) hi.symm
  have hreceive : s.receiveRtc m = State.drain { s.advance m.arrived with fh := { s.fh with ingress := [m] } } := by
    refine (if_neg (by simp [hu])).trans ((if_neg ?_).trans ?_)
    · simp [hr, he, hi]
      omega
    · rw [show (s.advance m.arrived).fh = s.fh from rfl, hi]
      rfl
  rw [hreceive]
  refine (State.drain_one (s := { s.advance m.arrived with fh := { s.fh with ingress := [m] } }) rfl hs).trans ?_
  show ({ s.advance m.arrived with fh := { s.fh with ingress := [] } } : State).processRtc m = _
  rw [hkeep]
  rfl

/-- A type-2 message before READY or without its E bit. -/
theorem State.receiveRtc_discarded {m : RtcMessage} (hu : s.portUp m.port = true)
    (h : s.boot.ready = false ∨ m.seqId / 128 % 2 = 0) : s.receiveRtc m =
      (s.advance m.arrived).portCount m.port (fun c => { c with rxDiscard := wrapAdd 32 c.rxDiscard 1 }) := by
  refine (if_neg (by simp [hu])).trans (if_pos ?_)
  rcases h with h | h
  · simp [h]
  · simp [h]

/-- The first port that is up, after a change of a port that keeps what the host enabled and the state of the link. -/
theorem State.setPort_firstPort {q : Nat} {g : Port → Port} (he : ∀ x, (g x).enable = x.enable) (hu : ∀ x, (g x).up = x.up) :
    (s.setPort q g).firstPort = s.firstPort := by
  unfold State.firstPort
  simp only [State.setPort_portUp he hu]
  rfl

/-- A result without a port stays. -/
theorem State.flushResults_kept {x : PortResult} (hr : s.fh.results = [x]) (hp : s.resultPort x.port = none) :
    s.flushResults = s := by
  rw [State.flushResults, hr, List.foldl_cons, List.foldl_nil, hp]

/-- A cancellation of a request that is not queued, with no port for its result. -/
theorem State.processRtc_noRequest {m : RtcMessage} (ha : m.action = 3) (hl : m.body.length = 8) (hq : s.tx.queue = [])
    (hr : s.fh.results = []) (hu : s.portUp m.port = false) (hf : s.firstPort = none) : s.processRtc m =
      { s.portCount m.port (fun c => { c with rtcAccepted := wrapAdd 32 c.rtcAccepted 1 }) with
        fh := { (s.portCount m.port (fun c => { c with rtcAccepted := wrapAdd 32 c.rtcAccepted 1 })).fh with
          results := [⟨m.port, 3, true, le 1 3 ++ zeros 1 ++ be 2 Status.noRequest ++ be 2 m.rtcId ++ be 2 m.seqId ++ zeros
            8⟩] } } := by
  have hup : (s.portCount m.port (fun c => { c with rtcAccepted := wrapAdd 32 c.rtcAccepted 1 })).portUp m.port = false :=
    (State.setPort_portUp (by exact fun _ => rfl) (by exact fun _ => rfl) m.port).trans hu
  have hfirst : (s.portCount m.port (fun c => { c with rtcAccepted := wrapAdd 32 c.rtcAccepted 1 })).firstPort = none :=
    (State.setPort_firstPort (by exact fun _ => rfl) (by exact fun _ => rfl)).trans hf
  have hcancel : ∀ id, (s.portCount m.port (fun c => { c with rtcAccepted := wrapAdd 32 c.rtcAccepted 1 })).cancelRequest id =
      (Status.noRequest, s.portCount m.port (fun c => { c with rtcAccepted := wrapAdd 32 c.rtcAccepted 1 })) := by
    intro id
    simp [State.cancelRequest, hq]
  unfold State.processRtc
  simp only [ha, hl, hcancel]
  rw [if_neg (by decide), if_neg (by decide), if_neg (by decide)]
  refine (State.flushResults_kept (x := ⟨m.port, 3, true, le 1 3 ++ zeros 1 ++ be 2 Status.noRequest ++ be 2 m.rtcId ++
    be 2 m.seqId ++ zeros 8⟩) ?_ ?_).trans ?_
  · show s.fh.results ++ _ = _
    rw [hr, ha]
    rfl
  · exact (if_neg (by rw [Bool.not_eq_true]; exact hup)).trans hfirst
  · have hempty : (s.portCount m.port (fun c => { c with rtcAccepted := wrapAdd 32 c.rtcAccepted 1 })).fh.results = [] := hr
    rw [hempty, ha]
    rfl

/-- A fault of a port is noted, whatever frame tells of it. -/
theorem State.fhFault_egress (q fault : Nat) : (s.setPort q (fun x => { x with faults := Tab.set x.faults fault s.now })).Egress
    (s.fhFault q fault) q := by
  unfold State.fhFault
  extract_lets x fresh u
  split
  · exact State.Egress.refl
  · exact State.enqueue_egress

end

/-! ### What leaves: answers, records, outcomes and IQ frames (R254, R419, R426, R428 to R433) -/

section
variable {s : State} {t : Nat} {p : Fin 4}

/-- An unsupported message at a port that is up. -/
theorem exec_ecpriUnsupported_up {ty : Nat} (hu : s.portUp p = true) (h2 : ty ≠ 2) (h5 : ty ≠ 5) (h7 : ty ≠ 7) :
    exec (.ecpriUnsupported t p ty) s = .next (((s.advance t).countUnsupported p).fhFault p 0x400) :=
  if_neg (by simp [hu, h2, h5, h7])

/-- A Request while time is usable. -/
theorem exec_ecpriDelayRequest_answered {a : Nat} (i : Nat) (hu : s.portUp p = true) (ht : s.timeUsable = true) (ha : a ≤ 1) :
    exec (.ecpriDelayRequest t p a i) s = .next ((s.advance t).enqueue p ((s.advance t).frameFor p 1 20
      (.oneWay 2 (i % 256) (psParts ((s.advance t).arrivalPs p t))))) := by
  refine (if_neg (by simp [hu])).trans (if_pos ?_)
  rw [show (s.advance t).timeUsable = true from ht, decide_eq_true ha]
  rfl

/-- A Remote Request while time is usable. -/
theorem exec_ecpriRemoteRequest_answered (i : Nat) (hu : s.portUp p = true) (ht : s.timeUsable = true) :
    exec (.ecpriRemoteRequest t p i) s =
      .next ((s.advance t).enqueue p ((s.advance t).frameFor p 1 20 (.oneWay 0 (i % 256) (0, 0)))) :=
  (if_neg (by simp [hu])).trans (if_pos ht)

/-- A Synchronization Request with no fault raised. -/
theorem exec_ecpriSyncRequest_quiet (hu : s.portUp p = true) (hf : (s.fh.port p).faults = [])
    (hq : (s.fh.port p).queue = []) (hs : (s.fh.port p).sending = none) : exec (.ecpriSyncRequest t p) s =
      .next (((s.advance t).enqueue p ((s.advance t).frameFor p 6 4 (.event 4 0 true))).enqueue p
        (((s.advance t).enqueue p ((s.advance t).frameFor p 6 4 (.event 4 0 true))).frameFor p 6 4 (.event 5 0 true))) := by
  have hfaults : (((s.advance t).enqueue p ((s.advance t).frameFor p 6 4 (.event 4 0 true))).fh.port p).faults = [] := by
    rw [(State.enqueue_sends (s := s.advance t) hu hq hs rfl (by simp [State.frameFor])).same]
    exact hf
  refine (if_neg (by simp [hu])).trans ?_
  simp only [hfaults, List.foldl_nil]

/-- A frame queued behind one on the line waits. -/
theorem State.enqueue_waits {n : Nat} {g : Frame} (f : Frame) (hs : (s.fh.port n).sending = some g) :
    s.enqueue n f = s.setPort n (fun q => { q with queue := q.queue ++ [f] }) := by
  refine State.kick_busy ?_
  rw [State.setPort_port, if_pos rfl, hs]
  rfl

/-- The only fault of a port ceases. -/
theorem exec_ecpriFaultCease_one {f a : Nat} (h : (s.fh.port p).faults = [(f, a)]) : ∃ w : State,
    w = (s.advance (a + Config.sec)).setPort p (fun q => { q with faults := Tab.erase q.faults f }) ∧
    exec (.ecpriFaultCease p) s = .next (if (w.fh.port p).queue.any (fun x => x.cls == 6) then w
      else w.enqueue p (w.frameFor p 6 12 (.event 0 f false))) := by
  refine ⟨_, rfl, ?_⟩
  show execEcpriFaultCease p s = _
  unfold execEcpriFaultCease
  rw [h]
  rfl

/-- The hold time of the frame under assembly is over, and no frame is under assembly. -/
def State.assembled (s : State) (f : RecordFrame) : State :=
  { s.advance (f.since + s.fh.recHoldUs * Config.us) with fh := { s.fh with assembling := none } }

/-- The frame of records leaves once the pool is empty. -/
theorem exec_recordFrameSend_due {f : RecordFrame} {n : Nat} (ha : s.fh.assembling = some f) (hf : s.firstPort = some n)
    (hd : s.dmd.pool = []) (hq : (s.fh.port n).queue = []) (hs : (s.fh.port n).sending = none) :
    exec .recordFrameSend s = .next ((s.assembled f).sendGeneric n 4 1 false f.records) := by
  have hup : s.portUp n = true := List.find?_some hf
  obtain ⟨_, hsend⟩ := State.sendGeneric_sends (s := s.assembled f) 4 1 false f.records hup hq hs
  have hpool : ((s.assembled f).sendGeneric n 4 1 false f.records).dmd.pool = [] :=
    (congrArg (fun x : State => x.dmd.pool) hsend.frame).trans hd
  have hexec : exec .recordFrameSend s = .next ((s.assembled f).sendGeneric n 4 1 false f.records).pull := by
    show execRecordFrameSend s = _
    unfold execRecordFrameSend
    rw [ha, hf]
    simp only [hd, List.isEmpty_nil, if_true]
    rfl
  rw [hexec, State.pull_nil hpool]

/-- The one outcome that waits, of a mailbox request. -/
theorem exec_outcomeSend_mailbox {o : TxOutcome} (ho : s.tx.outcomes = [o]) (hm : o.origin = .mailbox) :
    exec (.outcomeSend t) s = .next (({ s.advance t with tx := { s.tx with outcomes := [] } } : State).raiseEvent 0x0701 .info
      (le 4 o.id ++ le 1 o.outcome ++ le 1 o.cause ++ le 1 o.flags ++ le 1 o.subband ++ leSat 4 o.radiatedNs ++
        leSat 4 o.delayNs)) := by
  have hfind : (s.advance t).tx.outcomes.find? (s.advance t).sendable = some o := by
    rw [show (s.advance t).tx.outcomes = [o] from ho]
    simp [State.sendable, hm]
  show execOutcomeSend t s = _
  unfold execOutcomeSend
  simp only [hfind, hm]
  rw [if_pos (Or.inl trivial), show (s.advance t).tx.outcomes = [o] from ho, List.erase_cons_head]
  rfl

/-- A result whose port is up leaves. -/
theorem State.flushResults_one {x : PortResult} {n : Nat} (hr : s.fh.results = [x]) (hp : s.resultPort x.port = some n) :
    s.flushResults = ({ s with fh := { s.fh with results := [] } } : State).sendGeneric n 3 x.pcId x.shared [x.record] := by
  rw [State.flushResults, hr, List.foldl_cons, List.foldl_nil, hp]
  simp only [hr, List.erase_cons_head]

/-- No outcome and no result waits. -/
def State.outcomesTaken (s : State) (t : Nat) : State :=
  { s.advance t with tx := { s.tx with outcomes := [] }, fh := { s.fh with results := [] } }

/-- The one outcome that waits, of a request of a port that is up. -/
theorem exec_outcomeSend_port {o : TxOutcome} {n : Nat} (ho : s.tx.outcomes = [o]) (hm : o.origin = .port n)
    (he : o.event = false)
    (hu : s.portUp n = true) (hr : s.fh.results = []) (hi : s.fh.ingress = []) (hq : (s.fh.port n).queue = [])
    (hs : (s.fh.port n).sending = none) :
    exec (.outcomeSend t) s = .next ((s.outcomesTaken t).sendGeneric n 3 2 o.shared [o.record]) := by
  have hfind : (s.advance t).tx.outcomes.find? (s.advance t).sendable = some o := by
    rw [show (s.advance t).tx.outcomes = [o] from ho]
    simp [State.sendable, hm, State.resultPort, hu]
  have hflush := State.flushResults_one (n := n) (x := ⟨n, 2, o.shared, o.record⟩) (s := { s.advance t with
    tx := { s.tx with outcomes := [] }
    fh := { s.fh with results := s.fh.results ++ [⟨n, 2, o.shared, o.record⟩] } }) (by rw [hr]; rfl) (if_pos hu)
  obtain ⟨_, hsend⟩ := State.sendGeneric_sends (s := s.outcomesTaken t) 3 2 o.shared [o.record] hu hq hs
  have hingress : ((s.outcomesTaken t).sendGeneric n 3 2 o.shared [o.record]).fh.ingress = [] :=
    (congrArg (fun x : State => x.fh.ingress) hsend.rest).trans hi
  have hexec : exec (.outcomeSend t) s = .next (({ s.advance t with
      tx := { s.tx with outcomes := [] }
      fh := { s.fh with results := s.fh.results ++ [⟨n, 2, o.shared, o.record⟩] } } : State).flushResults.drain) := by
    show execOutcomeSend t s = _
    unfold execOutcomeSend
    simp only [hfind, hm]
    rw [if_neg (by simp [he]), show (s.advance t).tx.outcomes = [o] from ho, List.erase_cons_head]
    rfl
  rw [hexec, hflush]
  exact congrArg Host.Outcome.next (State.drain_nil hingress)

/-- A frame that ends with none behind it. -/
theorem exec_egressFrameEnd_last {f : Frame} (hs : (s.fh.port p).sending = some f) (hq : (s.fh.port p).queue = [])
    (hi : s.fh.ingress = []) : exec (.egressFrameEnd p) s =
      .next ((s.advance ((s.fh.port p).sendingAt + lineTime f.length)).setPort p (fun q =>
        { q with sending := none, counts := { q.counts with txFrames := wrapAdd 32 q.counts.txFrames 1 } })) := by
  have hexec : exec (.egressFrameEnd p) s =
      .next (((s.advance ((s.fh.port p).sendingAt + lineTime f.length)).setPort p (fun q =>
        { q with sending := none, counts := { q.counts with txFrames := wrapAdd 32 q.counts.txFrames 1 } })).kick p).drain := by
    show execEgressFrameEnd p s = _
    unfold execEgressFrameEnd
    rw [hs]
  rw [hexec, State.kick_empty, State.drain_nil]
  · exact hi
  · rw [State.setPort_port, if_pos rfl]
    exact hq

/-- The first timed frame of a port comes to its launch. -/
theorem exec_iqFrameLaunch_one {f : Frame} {a : Nat} (hq : (s.fh.port p).queue = [f]) (hl : f.launch = some a) (ha : s.now < a) :
    exec (.iqFrameLaunch p) s = .next ((s.advance a).kick p) := by
  have hlaunches : (s.fh.port p).queue.filterMap (fun f => f.launch.filter (fun t => decide (s.now < t))) = [a] := by
    rw [hq]
    simp [List.filterMap, hl, Option.filter, ha]
  show execIqFrameLaunch p s = _
  unfold execIqFrameLaunch
  rw [hlaunches]
  rfl

/-- The header of Table FH-7 of a frame of a stream, as far as it lies before the samples. -/
def State.iqHead (s : State) (x : Stream) (stamp ge we : Nat) : List Byte :=
  s.ts64Be stamp ++ be 2 (s.subNs stamp) ++ be 2 x.instants ++ le 1 (x.format + 4 * x.kind) ++
    le 1 (s.iqFlags x { start := stamp, stop := stamp + (x.instants - 1) * x.period + x.period }) ++ le 1 ge ++ le 1 we

/-- The header takes 16 bytes. -/
theorem State.length_iqHead (x : Stream) (stamp ge we : Nat) : (s.iqHead x stamp ge we).length = 16 := by
  simp [State.iqHead, State.ts64Be, be]

/-- A stream whose SEQ_ID has been taken. -/
def State.seqTaken (s : State) (k : Nat) : State :=
  { s with
    fh := { s.fh with
      streams := Tab.set s.fh.streams k { Tab.get s.fh.streams k {} with seq := ((Tab.get s.fh.streams k {}).seq + 1) % 256 } } }

/-- The frame of an IQ frame of a stream. -/
def State.iqFrame (s : State) (k : Nat) (stamp ge we : Nat) (v : List Cplx) : Frame :=
  { s.frameFor (Tab.get s.fh.streams k {}).port (if (Tab.get s.fh.streams k {}).latencyUs = 0 then 5 else 2)
      (4 + 16 + (Tab.get s.fh.streams k {}).sampleBytes)
      (.iq k (Tab.get s.fh.streams k {}).pcId (Tab.get s.fh.streams k {}).seq (s.iqHead (Tab.get s.fh.streams k {}) stamp ge we)
        (iqPack (Tab.get s.fh.streams k {}).format v)) with
    launch := if (Tab.get s.fh.streams k {}).latencyUs = 0 then none
      else some (stamp + ((Tab.get s.fh.streams k {}).instants - 1) * (Tab.get s.fh.streams k {}).period +
        (Tab.get s.fh.streams k {}).latencyUs * Config.us) }

/-- A completed IQ frame of an enabled stream takes its SEQ_ID and is queued, or dropped where it does not fit. -/
theorem exec_iqFrameComplete_ready {k : Fin 32} {x : Stream} {v : List Cplx} (c stamp ge we : Nat)
    (hx : Tab.get s.fh.streams k {} = x)
    (he : x.enable = true) (hu : s.portUp x.port = true) (hn : 0 < x.instants) (hv : v.length = x.samples) :
    exec (.iqFrameComplete t k (c * x.instants) stamp ge we v) s = .next
      (if 65536 < (s.fh.port x.port).iqBytes + s.streamLength x then
          ((((s.advance t).seqTaken k).setPort x.port (fun q => { q with
            dropSince := q.dropSince + 1, counts := { q.counts with iqDropped := wrapAdd 32 q.counts.iqDropped 1 } })).fhFault
              x.port 0x402).iqDropEvent x.port
        else ((s.advance t).seqTaken k).enqueue x.port ((s.advance t).iqFrame k stamp ge we v)) := by
  subst hx
  have hskip : ¬(!(Tab.get (s.advance t).fh.streams k {}).enable || !(s.advance t).portUp (Tab.get
    (s.advance t).fh.streams k {}).port ||
      decide ((Tab.get (s.advance t).fh.streams k {}).instants = 0) ||
      decide (v.length ≠ (Tab.get (s.advance t).fh.streams k {}).samples)) = true := by
    simp [he, hu, hv]
    omega
  refine (if_neg hskip).trans ((if_neg ?_).trans ?_)
  · simp
  · exact (apply_ite Host.Outcome.next (65536 < ((s.advance t).fh.port (Tab.get s.fh.streams k {}).port).iqBytes +
      s.streamLength (Tab.get s.fh.streams k {})) _ _).symm

end

/-! ### The statement -/

section
variable {s : State} {t : Nat} {p : Fin 4}

/-- What a port's egress shows keeps its counts but the late frames, its faults and its link. -/
theorem Port.settings_fields {a b : Port} (h : a.settings = b.settings) :
    a.counts.rxUnsupported = b.counts.rxUnsupported ∧ a.counts.iqDropped = b.counts.iqDropped ∧ a.faults = b.faults := by
  have hu := congrArg (fun q : Port => q.counts.rxUnsupported) h
  have hd := congrArg (fun q : Port => q.counts.iqDropped) h
  have hf := congrArg Port.faults h
  exact ⟨hu, hd, hf⟩

/-- A fault noted with the present time, with the other ports as they were. -/
theorem State.fhFault_notes (q fault : Nat) : Tab.find? ((s.fhFault q fault).fh.port q).faults fault = some s.now ∧
    (s.fhFault q fault).now = s.now ∧ (s.fhFault q fault).fh.streams = s.fh.streams ∧
    ((s.fhFault q fault).fh.port q).counts.rxUnsupported = (s.fh.port q).counts.rxUnsupported ∧
    ((s.fhFault q fault).fh.port q).counts.iqDropped = (s.fh.port q).counts.iqDropped ∧
    ∀ k, k ≠ q → (s.fhFault q fault).fh.port k = s.fh.port k := by
  have hegress := State.fhFault_egress (s := s) q fault
  obtain ⟨hu, hd, hf⟩ := Port.settings_fields hegress.settings
  rw [State.setPort_port, if_pos rfl] at hu hd hf
  refine ⟨?_, hegress.now, hegress.tables.1, hu, hd, fun k hk => ?_⟩
  · rw [hf]
    simp
  · rw [hegress.other k hk, State.setPort_port, if_neg hk]

/-- The counts that FH_GET_PORT_STATUS clears, or not. -/
theorem getPortStatusBody_counts {r : Running} : ∃ u, getPortStatusBody r s = .ok u ((List.range 4).flatMap s.portStatus) ∧
    (u8 r.cmd.payload 0 % 2 = 1 → ∀ k, (u.fh.port k).counts = {}) ∧ (u8 r.cmd.payload 0 % 2 = 0 → u = s) ∧
    ({ u with fh := s.fh } : State) = s := by
  refine ⟨_, rfl, fun h k => ?_, fun h => if_neg (by omega), ?_⟩
  · rw [if_pos h]
    simp only [Fh.port, Tab.get, Tab.find?_mapVals]
    cases Tab.find? s.fh.ports k <;> rfl
  · split <;> rfl

/-- A frame without a launch that is queued on an empty queue changes the fronthaul alone. -/
theorem State.enqueue_frame {n : Nat} {f : Frame} (hq : (s.fh.port n).queue = []) (hl : f.launch = none)
    (hb : ∀ i, f.body ≠ .delayReq i) : ({ s.enqueue n f with fh := s.fh } : State) = s := by
  cases hu : s.portUp n with
  | false =>
    have hdown : (s.setPort n (fun q => { q with queue := q.queue ++ [f] })).portUp n = false :=
      (State.setPort_portUp (by exact fun _ => rfl) (by exact fun _ => rfl) n).trans hu
    rw [State.enqueue, State.kick_down hdown]
    rfl
  | true =>
    cases hs : (s.fh.port n).sending with
    | some g =>
      rw [State.enqueue_waits f hs]
      rfl
    | none => exact (State.enqueue_sends hu hq hs hl hb).frame

/-- What the end of the only fault of a port does. -/
theorem faultCease_effect {u w : State} {f a : Nat} (hw : w = (s.advance (a + Config.sec)).setPort p (fun q =>
      { q with faults := Tab.erase q.faults f })) (hf : (s.fh.port p).faults = [(f, a)])
    (hu : u = if (w.fh.port p).queue.any (fun x => x.cls == 6) then w
      else w.enqueue p (w.frameFor p 6 12 (.event 0 f false))) :
    u.now = max s.now (a + 384000000000) ∧ (u.fh.port p).faults = [] ∧
    (s.portUp p = true → (s.fh.port p).queue = [] → (s.fh.port p).sending = none →
      (u.fh.port p).sending.map (fun x => (x.cls, x.body)) = some (6, .event 0 f false)) ∧
    ((s.fh.port p).queue = [] → { u with now := s.now, fh := s.fh } = s) := by
  have hport : w.fh.port p = { s.fh.port p with faults := [] } := by
    rw [hw, State.setPort_port, if_pos rfl, show ((s.advance (a + Config.sec)).fh.port p).faults = [(f, a)] from hf]
    simp [Tab.erase]
  have hup : w.portUp p = s.portUp p := by
    rw [hw]
    exact State.setPort_portUp (by exact fun _ => rfl) (by exact fun _ => rfl) p
  have hegress : w.Egress u p := by
    rw [hu]
    split
    · exact State.Egress.refl
    · exact State.enqueue_egress
  have hnow : w.now = max s.now (a + 384000000000) := by rw [hw]; rfl
  refine ⟨hegress.now.trans hnow, ?_, fun hs hq hl => ?_, fun hq => ?_⟩
  · rw [(Port.settings_fields hegress.settings).2.2, hport]
  · have hsend := State.enqueue_sends (s := w) (p := p) (f := w.frameFor p 6 12 (.event 0 f false)) (hup.trans hs)
      (by rw [hport]; exact hq) (by rw [hport]; exact hl) rfl (by simp [State.frameFor])
    rw [hu, hport, hq, if_neg (by simp), hsend.same]
    rfl
  · have hframe := State.enqueue_frame (s := w) (n := p) (f := w.frameFor p 6 12 (.event 0 f false)) (by rw [hport]; exact hq) rfl
      (by simp [State.frameFor])
    rw [hu, hport, hq, if_neg (by simp)]
    have hrest := congrArg (fun x : State => ({ x with now := s.now, fh := s.fh } : State)) hframe
    refine hrest.trans ?_
    rw [hw]
    rfl

/-- The frame of a stream without a latency. -/
theorem State.iqFrame_untimed {k : Nat} {x : Stream} (stamp ge we : Nat) (v : List Cplx) (hx : Tab.get s.fh.streams k {} = x)
    (hl : x.latencyUs = 0) : (s.iqFrame k stamp ge we v).launch = none ∧ (s.iqFrame k stamp ge we v).cls = 5 ∧
      (s.iqFrame k stamp ge we v).body = .iq k x.pcId x.seq (s.iqHead x stamp ge we) (iqPack x.format v) := by
  simp only [State.iqFrame, State.frameFor, hx, hl, if_true, and_self]

/-- Beyond the fronthaul only time passes. -/
theorem State.Sends.frame_advance {u : State} {n : Nat} {q : Port} (h : (s.advance t).Sends u n q) :
    ({ u with now := s.now, fh := s.fh } : State) = s := by
  have hframe := congrArg (fun x : State => ({ x with now := s.now } : State)) h.frame
  exact hframe

/-- What the type-3 message of the records under assembly leaves. -/
theorem recordFrame_effect {u : State} {f : RecordFrame} {n l : Nat} (h : (s.assembled f).Sends u n { s.fh.port n with
      queue := [], sendingAt := (s.assembled f).now
      sending := some { cls := 4, length := l, shared := false, body := .generic 1 (Tab.get (s.fh.port n).seqIds 1 0) f.records }
      seqIds := Tab.set (s.fh.port n).seqIds 1 ((Tab.get (s.fh.port n).seqIds 1 0 + 1) % 2 ^ 24) }) :
    u.now = max s.now (f.since + s.fh.recHoldUs * 384000) ∧ u.fh.assembling = none ∧
    (u.fh.port n).sending.map (fun x => (x.cls, x.body)) = some (4, .generic 1 (Tab.get (s.fh.port n).seqIds 1 0) f.records) ∧
    Tab.get (u.fh.port n).seqIds 1 0 = (Tab.get (s.fh.port n).seqIds 1 0 + 1) % 2 ^ 24 ∧
    ({ u with now := s.now, fh := s.fh } : State) = s := by
  have hnow := congrArg State.now h.rest
  have hassembling := congrArg (fun x : State => x.fh.assembling) h.rest
  have hrest := congrArg (fun x : State => ({ x with now := s.now, fh := s.fh } : State)) h.rest
  refine ⟨hnow, hassembling, ?_, ?_, hrest⟩
  · rw [h.same]
    rfl
  · rw [h.same]
    exact (Tab.get_set _ _ _ _ _).trans (if_pos rfl)

/-- What the type-3 message of an outcome leaves. -/
theorem outcome_effect {u : State} {q : Port} {n i l a : Nat} {b : Bool} {record : List Byte} {ids : Tab Nat}
    (h : (s.outcomesTaken t).Sends u n { q with
      queue := [], sendingAt := a, sending := some { cls := 3, length := l, shared := b, body := .generic 2 i [record] }
      seqIds := ids }) :
    u.tx.outcomes = [] ∧ u.fh.results = [] ∧
    (u.fh.port n).sending.map (fun x => (x.cls, x.body)) = some (3, .generic 2 i [record]) ∧ u.evq = s.evq := by
  have hresults := congrArg (fun x : State => x.fh.results) h.rest
  have houtcomes := congrArg (fun x : State => x.tx.outcomes) h.rest
  have hevq := congrArg State.evq h.rest
  refine ⟨houtcomes, hresults, ?_, hevq⟩
  rw [h.same]
  rfl

section
variable {k : Fin 32} {x : Stream} {v : List Cplx} (c stamp ge we : Nat)

/-- The stream whose SEQ_ID has been taken. -/
theorem State.seqTaken_stream (hx : Tab.get s.fh.streams k {} = x) :
    Tab.get ((s.advance t).seqTaken k).fh.streams k {} = { x with seq := (x.seq + 1) % 256 } := by
  refine (Tab.get_set _ _ _ _ _).trans ((if_pos rfl).trans ?_)
  rw [show Tab.get (s.advance t).fh.streams k {} = x from hx]

/-- An IQ frame of a stream without a latency leaves at once on a free line. -/
theorem exec_iqFrameComplete_sends (hx : Tab.get s.fh.streams k {} = x) (he : x.enable = true) (hu : s.portUp x.port = true)
    (hn : 0 < x.instants) (hv : v.length = x.samples) (hl : x.latencyUs = 0) (hq : (s.fh.port x.port).queue = [])
    (hs : (s.fh.port x.port).sending = none) (hlen : s.streamLength x ≤ 65536) :
    ∃ u, exec (.iqFrameComplete t k (c * x.instants) stamp ge we v) s = .next u ∧
      Tab.get u.fh.streams k {} = { x with seq := (x.seq + 1) % 256 } ∧
      (∃ h, (u.fh.port x.port).sending.map (fun f => (f.cls, f.body)) = some (5, .iq k x.pcId x.seq h (iqPack x.format v)) ∧
        h.length = 16) ∧ ({ u with now := s.now, fh := s.fh } : State) = s := by
  have hempty : (s.fh.port x.port).iqBytes = 0 := by
    rw [Port.iqBytes, hq]
    rfl
  have hfit : ¬65536 < (s.fh.port x.port).iqBytes + s.streamLength x := by omega
  obtain ⟨hlaunch, hcls, hbody⟩ := State.iqFrame_untimed (s := s.advance t) (k := k) (x := x) stamp ge we v hx hl
  have hsend := State.enqueue_sends (s := (s.advance t).seqTaken k) (p := x.port) (f := (s.advance t).iqFrame k stamp ge we v)
    hu hq hs hlaunch (by simp [hbody])
  have hstreams := congrArg (fun y : State => Tab.get y.fh.streams k.val ({} : Stream)) hsend.rest
  have hrest := congrArg (fun y : State => ({ y with now := s.now, fh := s.fh } : State)) hsend.rest
  refine ⟨_, (exec_iqFrameComplete_ready c stamp ge we hx he hu hn hv).trans (congrArg _ (if_neg hfit)),
    hstreams.trans (State.seqTaken_stream hx), ⟨(s.advance t).iqHead x stamp ge we, ?_, State.length_iqHead _ _ _ _⟩, hrest⟩
  rw [hsend.same, Option.map_some, hcls, hbody]

/-- An IQ frame that does not fit is dropped whole and counted. -/
theorem exec_iqFrameComplete_drops (hx : Tab.get s.fh.streams k {} = x) (he : x.enable = true) (hu : s.portUp x.port = true)
    (hn : 0 < x.instants) (hv : v.length = x.samples) (hlen : 65536 < (s.fh.port x.port).iqBytes + s.streamLength x) :
    ∃ u, exec (.iqFrameComplete t k (c * x.instants) stamp ge we v) s = .next u ∧
      Tab.get u.fh.streams k {} = { x with seq := (x.seq + 1) % 256 } ∧
      (u.fh.port x.port).counts.iqDropped = ((s.fh.port x.port).counts.iqDropped + 1) % 2 ^ 32 ∧
      Tab.find? (u.fh.port x.port).faults 0x402 = some u.now := by
  refine ⟨_, (exec_iqFrameComplete_ready c stamp ge we hx he hu hn hv).trans (congrArg _ (if_pos hlen)), ?_⟩
  have hdrop := State.iqDropEvent_egress (p := x.port) (s := (((s.advance t).seqTaken k).setPort x.port (fun q => { q with
    dropSince := q.dropSince + 1, counts := { q.counts with iqDropped := wrapAdd 32 q.counts.iqDropped 1 } })).fhFault
      x.port 0x402)
  obtain ⟨hfault, hnow, hstreams, _, hcount, _⟩ := State.fhFault_notes (s := ((s.advance t).seqTaken k).setPort x.port
    (fun q => { q with
      dropSince := q.dropSince + 1, counts := { q.counts with iqDropped := wrapAdd 32 q.counts.iqDropped 1 } })) x.port 0x402
  obtain ⟨_, hd, hf⟩ := Port.settings_fields hdrop.settings
  refine ⟨?_, ?_, ?_⟩
  · rw [hdrop.tables.1, hstreams]
    exact State.seqTaken_stream hx
  · rw [hd, hcount, State.setPort_port, if_pos rfl]
    rfl
  · rw [hf, hdrop.now, hnow]
    exact hfault

end

/-- A timed frame leaves at its launch. -/
theorem exec_iqFrameLaunch_sends {f : Frame} (hq : (s.fh.port p).queue = [f]) (hl : f.launch = some t) (hlt : s.now < t)
    (hu : s.portUp p = true) (hs : (s.fh.port p).sending = none) : ∃ u, exec (.iqFrameLaunch p) s = .next u ∧ u.now = t ∧
      (u.fh.port p).sending = some f ∧ (u.fh.port p).queue = [] ∧ u.fh.sent.length = s.fh.sent.length + 1 := by
  have hnow : (s.advance t).now = t := Nat.max_eq_right (Nat.le_of_lt hlt)
  have hqueue : ((s.advance t).fh.port p).queue = [f] := hq
  have hnext : nextFrame ((s.advance t).fh.port p).queue (s.advance t).now = some f := by
    rw [hqueue, hnow]
    simp [nextFrame, Frame.ready, hl]
  have hlate : ∀ a, f.launch = some a → (s.advance t).now ≤ a := by
    intro a ha
    rw [hnow]
    exact Nat.le_of_eq (Option.some.inj (hl.symm.trans ha))
  have hport := State.taken_port (s := s.advance t) (p := p) (f := f) p
  rw [if_pos rfl, hqueue, List.erase_cons_head] at hport
  refine ⟨_, exec_iqFrameLaunch_one hq hl hlt, ?_⟩
  rw [State.kick_sends (s := s.advance t) hu hs hnext hlate]
  refine ⟨hnow, ?_, ?_, List.length_append⟩
  · exact congrArg Port.sending hport
  · exact congrArg Port.queue hport

end

/-- Settles O53. -/
theorem fronthaulTraffic : Obligations.FronthaulTraffic := by
  unfold Obligations.FronthaulTraffic
  refine ⟨?_, ?_, ?_, ?_, ?_, ?_, ?_, ?_, ?_, ?_, ?_, ?_, ?_, ?_, ?_, ?_, ?_, ?_, ?_, ?_, ?_, ?_, ?_, ?_, ?_, ?_, ?_, ?_, ?_, ?_,
    ?_, ?_, ?_, ?_, ?_, ?_, ?_, ?_⟩
  · intro s r h h0 h1 h2 h4 h8
    refine ⟨_, runCommand_effect h (setPortBody_enables h0 h1 h2 h4 h8), ?_, fun p hp => ?_, rfl⟩
    · rw [State.setPort_port, if_pos rfl]
    · rw [State.setPort_port, if_neg hp]
  · exact fun s r h hp => runCommand_status h (setPortBody_badParam hp) (by decide)
  · intro s r h h0 h1 h2 h4 h8
    obtain ⟨w, hbody, hen⟩ := setPortBody_disables (s := s) h0 h1 h2 h4 h8
    have hdown : w.portUp (u8 r.cmd.payload 0) = false := by simp [State.portUp, hen]
    obtain ⟨k, hport, _⟩ := State.rerouteFrames_down hdown
    refine ⟨_, runCommand_effect h hbody, ?_, ?_, ?_⟩
    · rw [hport]
      exact hen
    · rw [hport]
      rfl
    · simp [State.portUp, hport, Port.emptied, hen]
  · exact fun s r h h0 h1 hok he hs hneed => runCommand_effect h (setStreamBody_first h0 h1 hok he hs hneed)
  · exact fun s r h h0 h1 hok he => runCommand_status h (setStreamBody_disabled h0 h1 hok he) (by decide)
  · exact fun s r h hp h4 hr hd => runCommand_effect h (setRecordsBody_ports hp h4 hr hd)
  · exact fun s r h h4 => runCommand_status h (setRecordsBody_badParam h4) (by decide)
  · intro s r h
    obtain ⟨u, hbody, hclear, hkeep, hframe⟩ := getPortStatusBody_counts (s := s) (r := r)
    refine ⟨_, _, runCommand_effect h hbody, (State.portStatusBytes_fields (s := s) 0).1, fun k => ?_, hkeep, hframe⟩
    · obtain ⟨_, f0, f4, fC, f14, f30⟩ := State.portStatus_fields (s := s) k
      have hat := (State.portStatusBytes_fields (s := s) k).2
      refine ⟨?_, ?_, ?_, ?_, ?_, fun h0 => hclear h0 k⟩
      · exact (u8_entry hat (k := 0) (by decide)).trans f0
      · exact (u32_entry hat (k := 0x4) (by decide)).trans f4
      · exact (u32_entry hat (k := 0xC) (by decide)).trans fC
      · exact (u32_entry hat (k := 0x14) (by decide)).trans f14
      · exact (u32_entry hat (k := 0x30) (by decide)).trans f30
  · exact fun s t p c hr he hu hl hq hres hd => exec_fhLinkChange_up c hr he hu hl hq hres hd
  · intro s t p c hr he hu
    obtain ⟨h1, h2, h3, h4⟩ := State.dropLink_down (s := s.advance t) (n := p) c hu
    exact ⟨_, exec_fhLinkChange_down c hr he hu, h1, h2, h3, h4⟩
  · intro s t p up c hu
    refine if_pos ?_
    rw [show ((s.advance t).fh.port p).up = up from hu]
    simp
  · intro s t len ty p hu h64 h9600 hty
    refine (exec_fhFrameReceive_up true false len _ ty hu).trans ((if_neg (by decide)).trans (if_neg ?_))
    rcases hty with rfl | rfl
    · simp [inRange, h64, h9600]
    · simp [inRange, h64, h9600]
  · exact fun s t len dest ty p x hu => exec_fhFrameReceive_up false x len dest ty hu
  · intro s t len dest ty p x hu hx
    refine (exec_fhFrameReceive_up true x len dest ty hu).trans ((if_neg (by decide)).trans (if_pos ?_))
    simp only [inRange, Bool.or_eq_true, Bool.not_eq_true', Bool.and_eq_false_iff, decide_eq_false_iff_not, beq_eq_false_iff_ne,
      Bool.or_eq_false_iff]
    rcases hx with hx | hx | hx | hx
    · exact Or.inl (Or.inl (Or.inl (Or.inl (Nat.not_le.mpr hx))))
    · exact Or.inl (Or.inl (Or.inl (Or.inr (Nat.not_le.mpr hx))))
    · exact Or.inl (Or.inr hx)
    · exact Or.inr hx
  · exact fun s t rid sid p b hu hr he hi hs hl => congrArg Host.Outcome.next (State.receiveRtc_room hu hr he hi hs hl)
  · exact fun s t rid sid p b hu hr he hi hs hl => congrArg Host.Outcome.next (State.receiveRtc_room hu hr he hi hs hl)
  · exact fun s t rid sid p b hu hr he hi hs hl => congrArg Host.Outcome.next (State.receiveRtc_room hu hr he hi hs hl)
  · exact fun s t rid sid p b hu h => congrArg Host.Outcome.next (State.receiveRtc_discarded hu h)
  · intro s m ha hl hq hr hu hf
    rw [State.processRtc_noRequest ha hl hq hr hu hf]
    refine ⟨rfl, rfl, ?_⟩
    have hport := State.portCount_port (s := s) m.port m.port (fun c => { c with rtcAccepted := wrapAdd 32 c.rtcAccepted 1 })
    exact (congrArg (fun q : Port => q.counts.rtcAccepted) (hport.trans (if_pos rfl)))
  · intro s t ty p hu h2 h5 h7
    obtain ⟨hfault, hnow, _, hcount, _, hother⟩ := State.fhFault_notes (s := (s.advance t).countUnsupported p) p 0x400
    refine ⟨_, exec_ecpriUnsupported_up hu h2 h5 h7, ?_, ?_, ?_, fun q hq => ?_⟩
    · rw [hcount, State.countUnsupported, State.portCount_port, if_pos rfl]
      rfl
    · rw [hnow]
      exact hfault
    · exact hnow
    · have hne : q.val ≠ p.val := fun hval => hq (Fin.ext hval)
      rw [hother q hne, State.countUnsupported, State.portCount_port, if_neg hne]
      rfl
  · intro s t a i p hu ht ha hq hs
    have hsend := State.enqueue_sends (s := s.advance t) (f := (s.advance t).frameFor p 1 20
      (.oneWay 2 (i % 256) (psParts ((s.advance t).arrivalPs p t)))) hu hq hs rfl (by simp [State.frameFor])
    refine ⟨_, exec_ecpriDelayRequest_answered i hu ht ha, ?_, ?_, hsend.sent, fun q hq => ?_, hsend.frame_advance⟩
    · rw [hsend.same]
    · rw [hsend.same]
      rfl
    · rw [hsend.port, if_neg fun hval => hq (Fin.ext hval)]
      rfl
  · intro s t a i p hu h
    refine (if_neg (by simp [hu])).trans (if_neg ?_)
    rcases h with h | h
    · rw [show (s.advance t).timeUsable = false from h]
      simp
    · simp [h]
  · intro s t i p hu ht hq hs
    have hsend := State.enqueue_sends (s := s.advance t) (f := (s.advance t).frameFor p 1 20 (.oneWay 0 (i % 256) (0, 0)))
      hu hq hs rfl (by simp [State.frameFor])
    refine ⟨_, exec_ecpriRemoteRequest_answered i hu ht, ?_, hsend.frame_advance⟩
    rw [hsend.same]
    rfl
  · intro s t i p hu ht
    exact (if_neg (by simp [hu])).trans (if_neg (by simp [show (s.advance t).timeUsable = false from ht]))
  · intro s t p hu hq hs hf
    have hsend := State.enqueue_sends (s := s.advance t) (f := (s.advance t).frameFor p 6 4 (.event 4 0 true)) hu hq hs rfl
      (by simp [State.frameFor])
    refine ⟨_, exec_ecpriSyncRequest_quiet hu hf hq hs, ?_, ?_, ?_⟩
    · rw [State.enqueue_waits (g := (s.advance t).frameFor p 6 4 (.event 4 0 true)) _ (by rw [hsend.same]), State.setPort_port,
        if_pos rfl, hsend.same]
      rfl
    · rw [State.enqueue_waits (g := (s.advance t).frameFor p 6 4 (.event 4 0 true)) _ (by rw [hsend.same]), State.setPort_port,
        if_pos rfl, hsend.same]
      rfl
    · rw [State.enqueue_waits (g := (s.advance t).frameFor p 6 4 (.event 4 0 true)) _ (by rw [hsend.same])]
      exact hsend.frame_advance
  · exact fun _ _ _ => rfl
  · intro s p f a hf
    obtain ⟨w, hw, hexec⟩ := exec_ecpriFaultCease_one hf
    exact ⟨_, hexec, faultCease_effect hw hf rfl⟩
  · intro s f p ha hfp hd hq hs
    have hup : s.portUp p = true := List.find?_some hfp
    obtain ⟨n, hsend⟩ := State.sendGeneric_sends (s := s.assembled f) (p := p) 4 1 false f.records hup hq hs
    exact ⟨_, exec_recordFrameSend_due ha hfp hd hq hs, recordFrame_effect hsend⟩
  · intro s h
    show execRecordFrameSend s = _
    unfold execRecordFrameSend
    rw [h]
  · exact fun s t o ho hm => exec_outcomeSend_mailbox ho hm
  · intro s t o p ho hm he hu hq hs hr hi
    obtain ⟨n, hsend⟩ := State.sendGeneric_sends (s := s.outcomesTaken t) (p := p) 3 2 o.shared [o.record] hu hq hs
    exact ⟨_, exec_outcomeSend_port ho hm he hu hr hi hq hs, outcome_effect hsend⟩
  · intro s t h
    have hnone : (s.advance t).tx.outcomes.find? (s.advance t).sendable = none := by
      rw [show (s.advance t).tx.outcomes = [] from h]
      rfl
    show execOutcomeSend t s = _
    unfold execOutcomeSend
    simp only [hnone]
  · exact fun s p f hs hq hi => exec_egressFrameEnd_last hs hq hi
  · intro s p h
    show execEgressFrameEnd p s = _
    unfold execEgressFrameEnd
    rw [h]
  · intro s t stamp ge we k c x v hx he _ hu hn hv hl hq hs hlen
    exact exec_iqFrameComplete_sends c stamp ge we hx he hu hn hv hl hq hs hlen
  · intro s t stamp ge we k c x v hx he _ hu hn hv hlen
    exact exec_iqFrameComplete_drops c stamp ge we hx he hu hn hv hlen
  · intro s p f t hq hl hlt hu hs
    exact exec_iqFrameLaunch_sends hq hl hlt hu hs
  · intro s p h
    show execIqFrameLaunch p s = _
    unfold execIqFrameLaunch
    rw [h]
    rfl

end Sys2Proof.Machine
end

section
/-!
PROOFS. Device time (family 13): the transitions of its state, PTP messages and the commands.
-/

namespace Sys2Proof.Machine

open Sys2Proof

/-! ### The time state (R436, R437) -/

section
variable {s : State} {o : Int}

/-- Entry into INVALID: the counter runs on, nothing that waits is left to radiate. -/
theorem State.toInvalid_keeps (cause : Nat) : (s.toInvalid cause).time.state = .invalid ∧
    (s.toInvalid cause).time.base = s.time.base ∧ (s.toInvalid cause).time.ratePpb = s.time.ratePpb ∧
    (s.toInvalid cause).now = s.now := by
  unfold State.toInvalid
  split
  · next h => exact ⟨h, rfl, rfl, rfl⟩
  · obtain ⟨_, hnow, htime, _⟩ := State.keeps_of_course (s.endAll_course Launch.waiting 0x06 0x51)
    have hbase := congrArg TimeUnit.base htime
    have hrate := congrArg TimeUnit.ratePpb htime
    simp only [State.raiseEvent_keeps]
    exact ⟨rfl, hbase, hrate, hnow⟩

/-- Entry into INVALID ends every queued request that does not radiate. -/
theorem State.toInvalid_queue (cause : Nat) (h : s.time.state ≠ .invalid) :
    ((s.toInvalid cause).tx.queue.all fun b => b.phase.radiating) = true := by
  have hqueue : (s.toInvalid cause).tx.queue = (s.endAll Launch.waiting 0x06 0x51).tx.queue := by
    unfold State.toInvalid
    rw [if_neg h]
    simp only [State.raiseEvent_keeps]
    rfl
  rw [hqueue, List.all_eq_true]
  intro b hb
  have hwaits := (s.mem_queue_endAll hb).2
  simpa [Launch.waiting] using hwaits

/-- VALID to HOLDOVER: the state and its counts change, and an event tells of it. -/
theorem State.toHoldover_valid (cause : Nat) (h : s.time.state = .valid) : (s.toHoldover cause).time =
    { s.time with state := .holdover, holdoverAt := some s.now, lockCount := 0, bigCount := 0 } ∧
    (s.toHoldover cause).now = s.now ∧ (s.toHoldover cause).tx = s.tx := by
  have hne : ¬s.time.state ≠ .valid := not_not.mpr h
  unfold State.toHoldover
  rw [if_neg hne]
  simp only [State.raiseEvent_keeps, and_self]

/-- To VALID. -/
theorem State.toValid_state : s.toValid.time.state = .valid := by
  unfold State.toValid
  simp only [State.raiseEvent_keeps]

/-- The servo sets the rate alone. -/
theorem State.servo_keeps : s.servo.time.state = s.time.state ∧ s.servo.time.lockCount = s.time.lockCount ∧
    s.servo.time.bigCount = s.time.bigCount ∧ s.servo.time.steps = s.time.steps ∧ s.servo.radio = s.radio := by
  unfold State.servo
  split
  · exact ⟨rfl, rfl, rfl, rfl, rfl⟩
  · exact ⟨rfl, rfl, rfl, rfl, rfl⟩

/-- A master that is lost while time is VALID. -/
theorem State.loseMaster_valid (cause : Nat) (hm : s.time.master ≠ none) (hv : s.time.state = .valid) :
    (s.loseMaster cause).time = { s.time with
      master := none, pathDelayPs := none, masterToSlavePs := none, wait := none, delayReq := none, stepped := false
      state := .holdover, holdoverAt := some s.now, lockCount := 0, bigCount := 0 } ∧
    (s.loseMaster cause).now = s.now ∧ (s.loseMaster cause).tx = s.tx := by
  unfold State.loseMaster
  rw [if_neg (by simpa using hm)]
  obtain ⟨htime, hnow, htx⟩ := State.toHoldover_valid (s := State.masterEvent { s with time := { s.time with
      master := none, pathDelayPs := none, masterToSlavePs := none, wait := none, delayReq := none
      lockCount := 0, bigCount := 0, stepped := false } }) cause (by simp [State.masterEvent, hv])
  refine ⟨htime.trans ?_, hnow.trans ?_, htx.trans ?_⟩
  · simp only [State.masterEvent, State.raiseEvent_keeps]
  · simp only [State.masterEvent, State.raiseEvent_keeps]
  · simp only [State.masterEvent, State.raiseEvent_keeps]

/-! ### What an offset does (Table FH-11) -/

/-- INVALID, not stepped: the first offset steps time. -/
theorem State.judgeOffset_steps (hi : s.time.state = .invalid) (hs : s.time.stepped = false) :
    s.judgeOffset o = ({ s with time := { s.time with offsetPs := o } } : State).stepTime o := by
  unfold State.judgeOffset
  simp only [hi, hs, Bool.not_false, if_true]

/-- INVALID and stepped: offsets within LOCK_NS are counted up to VALID. -/
theorem State.judgeOffset_invalid (hi : s.time.state = .invalid) (hs : s.time.stepped = true) :
    ∃ u : State, s.judgeOffset o = (if 16 ≤ s.time.counted o then u.toValid else u) ∧ u.time.state = .invalid ∧
      u.time.lockCount = s.time.counted o := by
  refine ⟨({ s with time := { s.time with offsetPs := o, lockCount := s.time.counted o } } : State).servo, ?_, ?_, ?_⟩
  · unfold State.judgeOffset
    simp only [hi, hs, Bool.not_true, Bool.false_eq_true, if_false]
  · rw [State.servo_keeps.1, hi]
  · rw [State.servo_keeps.2.1]

/-- VALID: an offset above the threshold is counted, and the fourth in a row makes time INVALID. -/
theorem State.judgeOffset_valid_big (hv : s.time.state = .valid) (hb : 1000 * s.time.stepThresholdNs < o.natAbs) :
    s.judgeOffset o = (if 4 ≤ s.time.bigCount + 1 then
      ({ s with time := { s.time with offsetPs := o, bigCount := s.time.bigCount + 1 } } : State).toInvalid 2
      else { s with time := { s.time with offsetPs := o, bigCount := s.time.bigCount + 1 } }) := by
  unfold State.judgeOffset
  simp only [hv, hb, decide_true, if_true]

/-- VALID: an offset up to the threshold. -/
theorem State.judgeOffset_valid_small (hv : s.time.state = .valid) (hb : o.natAbs ≤ 1000 * s.time.stepThresholdNs) :
    s.judgeOffset o = ({ s with time := { s.time with offsetPs := o, bigCount := 0 } } : State).servo := by
  unfold State.judgeOffset
  simp only [hv, Nat.not_lt.mpr hb, decide_false, Bool.false_eq_true, if_false]

/-- HOLDOVER: an offset above the threshold. -/
theorem State.judgeOffset_holdover_big (hh : s.time.state = .holdover) (hb : 1000 * s.time.stepThresholdNs < o.natAbs) :
    s.judgeOffset o = ({ s with time := { s.time with offsetPs := o } } : State).toInvalid 2 := by
  unfold State.judgeOffset
  simp only [hh, hb, decide_true, if_true]

/-- HOLDOVER: an offset up to the threshold. -/
theorem State.judgeOffset_holdover_small (hh : s.time.state = .holdover) (hb : o.natAbs ≤ 1000 * s.time.stepThresholdNs) :
    ∃ u : State, s.judgeOffset o = (if 16 ≤ s.time.counted o ∧ s.radio.clock = .locked then u.toValid else u) ∧
      u.time.state = .holdover ∧ u.time.lockCount = s.time.counted o := by
  refine ⟨({ s with time := { s.time with offsetPs := o, lockCount := s.time.counted o } } : State).servo, ?_, ?_, ?_⟩
  · unfold State.judgeOffset
    simp only [hh, Nat.not_lt.mpr hb, decide_false, Bool.false_eq_true, if_false, State.servo_keeps]
  · rw [State.servo_keeps.1, hh]
  · rw [State.servo_keeps.2.1]

/-- An offset within LOCK_NS counts. -/
theorem TimeUnit.counted_small {u : TimeUnit} (h : o.natAbs ≤ 1000 * u.lockNs) : u.counted o = u.lockCount + 1 := if_pos h

/-- An offset beyond LOCK_NS starts the count again. -/
theorem TimeUnit.counted_large {u : TimeUnit} (h : 1000 * u.lockNs < o.natAbs) : u.counted o = 0 := if_neg (Nat.not_le.mpr h)

/-- Time that has been stepped at now is the offset away from what it was, to the nearest unit. -/
theorem State.stepTime_device : ∃ n : Int, (s.stepTime o).time.deviceAt s.now = s.deviceNow - n ∧ 1000 * n - 384 * o ≤ 500 ∧
    384 * o - 1000 * n ≤ 500 := by
  have hnear := roundDiv_nearest (o * 384) (b := 1000) (by decide)
  refine ⟨roundDiv (o * 384) 1000, ?_, by omega, by omega⟩
  simp [State.stepTime, State.rebase, TimeUnit.deviceAt]
  rfl

end

/-! ### PTP messages (R435, R436) -/

section
variable {s : State} {t : Nat} {p : Fin 4} {id sp n : Nat} {o c : Int}

/-- A message of another port, or without a master. -/
theorem State.fromMaster_other (h : p.val ≠ s.time.ptpPort ∨ s.time.master = none) : s.fromMaster p id sp = false := by
  unfold State.fromMaster
  rcases h with h | h
  · simp [h]
  · simp [h]

/-- A Sync that is not the master's. -/
theorem exec_ptpSync_ignored (two : Bool) (h : s.fromMaster p id sp = false) :
    exec (.ptpSync t p id sp n two o c) s = .next (s.advance t) :=
  if_pos (by rw [show (s.advance t).fromMaster p id sp = false from h]; rfl)

/-- A two-step Sync waits for its Follow_Up. -/
theorem exec_ptpSync_twoStep (h : s.fromMaster p id sp = true) : exec (.ptpSync t p id sp n true o c) s =
    .next { s.advance t with time := { s.time with
      syncAt := max s.now t, wait := some { seqId := n, arrivalPs := s.arrivalPs p t, correctionPs := c } } } :=
  if_neg (by rw [show (s.advance t).fromMaster p id sp = true from h]; decide)

/-- A one-step Sync is complete. -/
theorem exec_ptpSync_oneStep (h : s.fromMaster p id sp = true) : exec (.ptpSync t p id sp n false o c) s =
    .next (({ s.advance t with time := { s.time with syncAt := max s.now t } } : State).syncComplete (s.arrivalPs p t) o c) :=
  if_neg (by rw [show (s.advance t).fromMaster p id sp = true from h]; decide)

/-- A Sync before a path delay is known. -/
theorem State.syncComplete_noDelay (a : Int) (h : s.time.pathDelayPs = none) : s.syncComplete a o c =
    { s with time := { s.time with masterToSlavePs := some (a - o - c), wait := none } } := by
  unfold State.syncComplete
  simp only [h]

/-- A Sync once a path delay is known gives an offset. -/
theorem State.syncComplete_delay (a : Int) {d : Int} (h : s.time.pathDelayPs = some d) : s.syncComplete a o c =
    ({ s with time := { s.time with masterToSlavePs := some (a - o - c), wait := none } } : State).judgeOffset
      (a - o - c - s.time.asymmetryPs - d) := by
  unfold State.syncComplete
  simp only [h]

/-- A Follow_Up of the Sync that waits. -/
theorem exec_ptpFollowUp_waited {w : SyncWait} (h : s.fromMaster p id sp = true) (hw : s.time.wait = some w) (hn : w.seqId = n) :
    exec (.ptpFollowUp t p id sp n o c) s = .next ((s.advance t).syncComplete w.arrivalPs o (w.correctionPs + c)) := by
  show execPtpFollowUp t p id sp n o c s = _
  unfold execPtpFollowUp
  simp only [show (s.advance t).fromMaster p id sp = true from h, show (s.advance t).time.wait = some w from hw, hn, if_true]

/-- A Follow_Up that no Sync waits for. -/
theorem exec_ptpFollowUp_ignored (hw : s.time.wait = none) : exec (.ptpFollowUp t p id sp n o c) s = .next (s.advance t) := by
  show execPtpFollowUp t p id sp n o c s = _
  unfold execPtpFollowUp
  simp only [show (s.advance t).time.wait = none from hw]
  cases (s.advance t).fromMaster p id sp <;> rfl

/-- An Announce at the PTP port of the domain. -/
theorem exec_ptpAnnounce_heard {x : Announce} (hp : s.time.ptpPort = p) (hu : s.portUp p = true) (hd : x.domain = s.time.domain) :
    exec (.ptpAnnounce t p x) s = (match s.time.master with
      | none => .next ((s.advance t).selectMaster x)
      | some m =>
        if m.id = x.id ∧ m.port = x.sport then .next { s.advance t with time := { s.time with
          master := some (announced x), announceAt := max s.now t, announceLog := x.logInterval } }
        else if Config.betterMaster s.time.profile s.time.localPriority m.dataset x.dataset then
          .next (((s.advance t).selectMaster x).toHoldover 1)
        else .next (s.advance t)) := by
  refine if_neg ?_
  rw [show (s.advance t).time.ptpPort = p.val from hp, show (s.advance t).portUp p = true from hu, hd]
  simp

/-- The master that is selected, and what its selection leaves. -/
theorem State.selectMaster_selects (x : Announce) : ∃ u : State, s.selectMaster x = u.raiseEvent 0x0A05 .info
      (be 8 x.id ++ le 2 x.sport ++ le 1 x.clockClass ++ zeros 5) ∧ u.time.master = some (announced x) ∧
    u.time.state = s.time.state ∧ u.time.lockCount = 0 ∧ u.time.pathDelayPs = none ∧ u.now = s.now ∧
    ({ u with time := s.time } : State) = s :=
  ⟨{ s with time := { s.time with
      master := some (announced x), announceAt := s.now, announceLog := x.logInterval, syncAt := s.now
      pathDelayPs := none, masterToSlavePs := none, wait := none, delayReq := none
      lockCount := 0, bigCount := 0, stepped := false } }, rfl, rfl, rfl, rfl, rfl, rfl, rfl⟩

/-- An Announce of another port or domain. -/
theorem exec_ptpAnnounce_ignored {x : Announce} (h : p.val ≠ s.time.ptpPort ∨ x.domain ≠ s.time.domain) :
    exec (.ptpAnnounce t p x) s = .next (s.advance t) := by
  refine if_pos ?_
  rcases h with h | h
  · exact Or.inl h
  · exact Or.inr (Or.inr h)

/-- The Delay_Resp of the outstanding Delay_Req. -/
theorem exec_ptpDelayResp_answers {a sent m2s : Int} (h : s.fromMaster p id sp = true) (hd : s.time.delayReq = some (n, sent))
    (hm : s.time.masterToSlavePs = some m2s) : exec (.ptpDelayResp t p id sp n a c) s = .next { s.advance t with
      time := { s.time with pathDelayPs := some (roundDiv (m2s + (a - sent - c)) 2), delayReq := none } } := by
  show execPtpDelayResp t p id sp n a c s = _
  unfold execPtpDelayResp
  simp only [show (s.advance t).fromMaster p id sp = true from h, show (s.advance t).time.delayReq = some (n, sent) from hd,
    show (s.advance t).time.masterToSlavePs = some m2s from hm, if_true]
  rw [← hm]
  rfl

/-- A Delay_Resp with no Delay_Req outstanding. -/
theorem exec_ptpDelayResp_ignored {a : Int} (h : s.time.delayReq = none) :
    exec (.ptpDelayResp t p id sp n a c) s = .next (s.advance t) := by
  show execPtpDelayResp t p id sp n a c s = _
  unfold execPtpDelayResp
  simp only [show (s.advance t).time.delayReq = none from h]
  cases (s.advance t).fromMaster p id sp <;> rfl

/-- A Delay_Req on a free line leaves at once, and PTP notes its departure. -/
theorem State.enqueue_delayReq {q : Nat} {f : Frame} (hu : s.portUp q = true) (hq : (s.fh.port q).queue = [])
    (hs : (s.fh.port q).sending = none) (hl : f.launch = none) (hb : f.body = .delayReq n) :
    (s.enqueue q f).time = { s.time with delayReq := some (n, (s.enqueue q f).departPs q s.now) } ∧
    ((s.enqueue q f).fh.port q).sending = some f ∧ (s.enqueue q f).now = s.now ∧
    ({ s.enqueue q f with time := s.time, fh := s.fh } : State) = s := by
  have hport : (s.setPort q (fun x => { x with queue := x.queue ++ [f] })).fh.port q = { s.fh.port q with queue := [f] } := by
    rw [State.setPort_port, if_pos rfl, hq]
    rfl
  have hup : (s.setPort q (fun x => { x with queue := x.queue ++ [f] })).portUp q = true :=
    (State.setPort_portUp (by exact fun _ => rfl) (by exact fun _ => rfl) q).trans hu
  have hnext : nextFrame ((s.setPort q (fun x => { x with queue := x.queue ++ [f] })).fh.port q).queue s.now = some f := by
    rw [hport]
    simp [nextFrame, Frame.ready, hl]
  have hkick := State.kick_sends hup (by rw [hport]; exact hs) hnext (fun t ht => by simp [hl] at ht)
  rw [hb] at hkick
  rw [State.enqueue, hkick]
  refine ⟨rfl, ?_, rfl, rfl⟩
  have htaken := State.taken_port (s := s.setPort q (fun x => { x with queue := x.queue ++ [f] })) (p := q) (f := f) q
  rw [if_pos rfl] at htaken
  exact congrArg Port.sending htaken

/-- The PTP Delay_Req is prepared: its interval is over and it has its sequence id. -/
def State.delayReqDue (s : State) : State :=
  let u := match s.time.delayReqAt with | some t => s.advance (t + logUnits s.time.delayReqLog) | none => s
  { u with time := { u.time with delayReqAt := some u.now, delayReqSeq := (u.time.delayReqSeq + 1) % 65536 } }

/-- What the preparation changes. -/
theorem State.delayReqDue_time : s.delayReqDue.time = { s.time with
      delayReqAt := some s.delayReqDue.now, delayReqSeq := (s.time.delayReqSeq + 1) % 65536 } ∧
    ({ s.delayReqDue with now := s.now, time := s.time } : State) = s := by
  unfold State.delayReqDue
  cases s.time.delayReqAt <;> exact ⟨rfl, rfl⟩

/-- The preparation leaves the ports. -/
theorem State.delayReqDue_ports : s.delayReqDue.fh = s.fh ∧ ∀ q, s.delayReqDue.portUp q = s.portUp q := by
  unfold State.delayReqDue
  cases s.time.delayReqAt <;> exact ⟨rfl, fun _ => rfl⟩

/-- PTP_DELAY_REQ_SEND with a master on a port that is up. -/
theorem exec_ptpDelayReqSend_sends (hm : s.time.master ≠ none) (hu : s.portUp s.time.ptpPort = true) :
    exec .ptpDelayReqSend s = .next (s.delayReqDue.enqueue s.time.ptpPort
      { cls := 1, length := frameLength (s.fh.port s.time.ptpPort).vlan 40, body := .delayReq s.time.delayReqSeq }) := by
  refine (if_neg (by simp [hm, hu])).trans ?_
  unfold State.delayReqDue
  cases s.time.delayReqAt <;> rfl

/-- PTP_MASTER_LOST with a master. -/
theorem exec_ptpMasterLost_lost (hm : s.time.master ≠ none) : exec .ptpMasterLost s =
    .next ((s.advance (min (s.time.announceAt + 3 * logUnits s.time.announceLog) (s.time.syncAt + Config.sec))).loseMaster 0) :=
  if_neg (by simpa using hm)

/-- HOLDOVER_LIMIT_EXPIRY in HOLDOVER on a device that keeps time. -/
theorem exec_holdoverLimitExpiry_due {a : Nat} (hr : s.role ≠ .worker) (hh : s.time.state = .holdover)
    (ha : s.time.holdoverAt = some a) :
    exec .holdoverLimitExpiry s = .next ((s.advance (a + s.time.holdoverLimitS * Config.sec)).toInvalid 0) := by
  have hw : s.isWorker = false := beq_eq_false_iff_ne.mpr hr
  show execHoldoverLimitExpiry s = _
  unfold execHoldoverLimitExpiry
  rw [hw, hh, ha]

/-- HOLDOVER_LIMIT_EXPIRY out of HOLDOVER. -/
theorem exec_holdoverLimitExpiry_other (hh : s.time.state ≠ .holdover) : exec .holdoverLimitExpiry s = .next s := by
  show execHoldoverLimitExpiry s = _
  unfold execHoldoverLimitExpiry
  split
  · next h _ => exact absurd h hh
  · rfl

end

/-! ### The commands (R441) -/

section
variable {s : State} {r : Running}

/-- The time unit with the parameters of FH_SET_PTP but the port. -/
def TimeUnit.withPtp (u : TimeUnit) (p : List Byte) : TimeUnit :=
  { u with
    profile := u8 p 1, domain := u8 p 2, dest := u8 p 3, localPriority := u8 p 4, delayReqLog := s8 p 5
    lockNs := u16 p 6, stepThresholdNs := u32 p 8, holdoverLimitS := u32 p 12, asymmetryPs := s32 p 16 }

/-- FH_SET_PTP that keeps the port. -/
theorem setPtpBody_same (hr : ptpRanges r.cmd.payload = true) (h0 : u8 r.cmd.payload 0 ≤ 3)
    (he : (s.fh.port (u8 r.cmd.payload 0)).enable = true) (hp : s.time.ptpPort = u8 r.cmd.payload 0) :
    setPtpBody r s = .ok { s with time := s.time.withPtp r.cmd.payload } [] := by
  have h255 : u8 r.cmd.payload 0 ≠ 255 := by omega
  unfold setPtpBody
  simp only [hr, he, Bool.or_true, firstFailure_pass, firstFailure_nil, h255, hp, ne_eq, not_true_eq_false, false_and, if_false]
  rw [← hp]
  rfl

/-- FH_SET_PTP out of its ranges. -/
theorem setPtpBody_badParam (hr : ptpRanges r.cmd.payload = false) : setPtpBody r s = .status s Status.badParam := by
  unfold setPtpBody
  simp only [hr, firstFailure_fail]

/-- FH_SET_PTP of a disabled port. -/
theorem setPtpBody_disabled (hr : ptpRanges r.cmd.payload = true) (h0 : u8 r.cmd.payload 0 ≤ 3)
    (he : (s.fh.port (u8 r.cmd.payload 0)).enable = false) : setPtpBody r s = .status s Status.portDisabled := by
  have h255 : (u8 r.cmd.payload 0 == 255) = false := beq_eq_false_iff_ne.mpr (by omega)
  unfold setPtpBody
  simp only [hr, he, h255, Bool.or_self, firstFailure_pass, firstFailure_fail]

/-- FH_SET_PTP that moves the port loses the master. -/
theorem setPtpBody_moves (hr : ptpRanges r.cmd.payload = true) (h0 : u8 r.cmd.payload 0 ≤ 3)
    (he : (s.fh.port (u8 r.cmd.payload 0)).enable = true) (h3 : s.time.ptpPort ≤ 3) (hp : s.time.ptpPort ≠ u8 r.cmd.payload 0) :
    setPtpBody r s = .ok { s.loseMaster 2 with
      time := { (s.loseMaster 2).time.withPtp r.cmd.payload with ptpPort := u8 r.cmd.payload 0 } } [] := by
  have h255 : u8 r.cmd.payload 0 ≠ 255 := by omega
  have hold : s.time.ptpPort ≠ 255 := by omega
  unfold setPtpBody
  simp only [hr, he, Bool.or_true, firstFailure_pass, firstFailure_nil, h255, hp, hold, ne_eq, not_false_eq_true, and_self,
    if_true,
    if_false]
  rfl

/-- FH_SET_PTP with 0xFF: time INVALID, no master. -/
theorem setPtpBody_off (hr : ptpRanges r.cmd.payload = true) (h0 : u8 r.cmd.payload 0 = 255) : ∃ u : State,
    setPtpBody r s = .ok { u with time := { u.time.withPtp r.cmd.payload with ptpPort := 255 } } [] ∧
    u.time.state = .invalid ∧ u.time.master = none ∧ u.time.base = s.time.base ∧ u.time.ratePpb = s.time.ratePpb := by
  obtain ⟨hstate, hbase, hrate, _⟩ := State.toInvalid_keeps (s := s) 3
  have hbody : setPtpBody r s = .ok { (if (s.toInvalid 3).time.master.isSome then
      State.masterEvent ({ s.toInvalid 3 with time := { (s.toInvalid 3).time with
        master := none, pathDelayPs := none, masterToSlavePs := none, wait := none, delayReq := none } })
      else s.toInvalid 3) with time := { (if (s.toInvalid 3).time.master.isSome then
      State.masterEvent ({ s.toInvalid 3 with time := { (s.toInvalid 3).time with
        master := none, pathDelayPs := none, masterToSlavePs := none, wait := none, delayReq := none } })
      else s.toInvalid 3).time.withPtp r.cmd.payload with ptpPort := 255 } } [] := by
    unfold setPtpBody
    simp only [hr, h0, beq_self_eq_true, Bool.true_or, firstFailure_pass, firstFailure_nil, if_true]
    rfl
  refine ⟨_, hbody, ?_⟩
  split
  · simp only [State.masterEvent, State.raiseEvent_keeps]
    exact ⟨hstate, trivial, hbase, hrate⟩
  · next h => exact ⟨hstate, by simpa using h, hbase, hrate⟩

/-- A saturated value in 32 bits of two's complement reads back. -/
theorem s32_leS_sat32 (v : Int) (p : List Byte) : s32 (leS 4 (sat32 v) ++ p) 0 = sat32 v := by
  have hlo : -2147483648 ≤ sat32 v := by
    unfold sat32
    split_ifs <;> omega
  have hhi : sat32 v ≤ 2147483647 := by
    unfold sat32
    split_ifs <;> omega
  rw [s32, leS, u32_le, show (sat32 v).emod (2 ^ (8 * 4)) = sat32 v % 4294967296 from rfl]
  unfold signed
  split_ifs <;> omega

/-- A signed field past the first field. -/
theorem s32_append_of_le {l : List Byte} (p : List Byte) {o : Nat} (h : l.length ≤ o) : s32 (l ++ p) o = s32 p (o - l.length) :=
  congrArg (signed 32) (u32_append_of_le p h)

/-- The layout of FH_GET_TIME. -/
theorem State.timeStatus_fields : s.timeStatus.length = 0x2C ∧
    u8 s.timeStatus 0xC = (match s.time.state with | .invalid => 0 | .valid => 1 | .holdover => 2) ∧
    u16 s.timeStatus 0x1A = s.time.steps % 65536 ∧ s32 s.timeStatus 0x1C = sat32 s.time.offsetPs ∧
    s32 s.timeStatus 0x20 = sat32 (s.time.pathDelayPs.getD 0) ∧
    (s.time.state ≠ .holdover → u32 s.timeStatus 0x28 = 0) := by
  simp only [State.timeStatus, List.append_assoc]
  refine ⟨by simp [be], ?_, ?_, ?_, ?_, fun hh => ?_⟩
  · cases s.time.state <;> rfl
  · simp [u16_append_of_le, u16_le, be]
  · simp [s32_append_of_le, s32_leS_sat32, be]
  · simp [s32_append_of_le, s32_leS_sat32, be]
  · have hheld : u32 (leSat 4 0) 0 = 0 := rfl
    cases hs : s.time.state with
    | holdover => exact absurd hs hh
    | invalid => simp [u32_append_of_le, be, hheld]
    | valid => simp [u32_append_of_le, be, hheld]

/-- FH_GET_TIME without a master. -/
theorem State.timeStatus_noMaster (hm : s.time.master = none) :
    u32 s.timeStatus 0x10 = 0 ∧ u32 s.timeStatus 0x14 = 0 ∧ u8 s.timeStatus 0xD = 0 := by
  have hid : be 8 0 = le 4 0 ++ le 4 0 := rfl
  simp only [State.timeStatus, List.append_assoc, hm, hid]
  refine ⟨?_, ?_, ?_⟩
  · simp [u32_append_of_le, u32_le]
  · simp [u32_append_of_le, u32_le]
  · simp [u8_append_of_le, u8_le]

end

/-- Settles O54. -/
theorem deviceTime : Obligations.DeviceTime := by
  unfold Obligations.DeviceTime
  refine ⟨?_, ?_, ?_, ?_, ?_, ?_, ?_, ?_, ?_, ?_, ?_, ?_, ?_, ?_, ?_, ?_, ?_, ?_, ?_, ?_, ?_, ?_, ?_, ?_, ?_, ?_, ?_, ?_, ?_⟩
  · exact fun s r h hr h0 he hp => runCommand_effect h (setPtpBody_same hr h0 he hp)
  · exact fun s r h hr => runCommand_status h (setPtpBody_badParam hr) (by decide)
  · exact fun s r h hr h0 he => runCommand_status h (setPtpBody_disabled hr h0 he) (by decide)
  · intro s r h hr h0 he h3 hp hm hv
    obtain ⟨htime, _, htx⟩ := State.loseMaster_valid 2 hm hv
    refine ⟨_, runCommand_effect h (setPtpBody_moves hr h0 he h3 hp), ?_⟩
    rw [htime]
    exact ⟨rfl, rfl, rfl, rfl, rfl, htx⟩
  · intro s r h hr h0
    obtain ⟨u, hbody, hstate, hmaster, hbase, hrate⟩ := setPtpBody_off (s := s) hr h0
    exact ⟨_, runCommand_effect h hbody, hstate, hmaster, rfl, hbase, hrate⟩
  · intro s r h
    obtain ⟨hlen, hstate, hsteps, hoffset, hdelay, hheld⟩ := s.timeStatus_fields
    exact ⟨_, runCommand_effect h rfl, hlen, hstate, s.timeStatus_noMaster, hsteps, hoffset, hdelay, hheld⟩
  · exact fun s t id sp n p two o c h => exec_ptpSync_ignored two (State.fromMaster_other h)
  · exact fun s t id sp n p o c h => exec_ptpSync_twoStep h
  · intro s t id sp n p o c h hd
    exact (exec_ptpSync_oneStep h).trans (congrArg Host.Outcome.next (State.syncComplete_noDelay _ hd))
  · intro s t id sp n p o c d h hd
    exact ⟨_, (exec_ptpSync_oneStep h).trans (congrArg Host.Outcome.next (State.syncComplete_delay _ hd)),
      rfl, rfl, rfl, rfl, rfl, rfl⟩
  · intro s t id sp n p o c w h hw hn hd
    exact (exec_ptpFollowUp_waited h hw hn).trans (congrArg Host.Outcome.next (State.syncComplete_noDelay _ hd))
  · exact fun s t id sp n p o c hw => exec_ptpFollowUp_ignored hw
  · intro s o hi hs _
    obtain ⟨n, hn, hlo, hhi⟩ := State.stepTime_device (s := { s with time := { s.time with offsetPs := o } }) (o := o)
    rw [State.judgeOffset_steps hi hs]
    exact ⟨n, hn, hlo, hhi, hi, rfl, rfl, rfl⟩
  · intro s o hi hs ho
    obtain ⟨u, hjudge, hstate, hcount⟩ := State.judgeOffset_invalid (o := o) hi hs
    rw [hjudge, TimeUnit.counted_small ho]
    by_cases h15 : 15 ≤ s.time.lockCount
    · rw [if_pos (by omega), if_pos h15]
      exact ⟨State.toValid_state, fun h => by omega⟩
    · rw [if_neg (by omega), if_neg h15]
      exact ⟨hstate, fun _ => hcount.trans (TimeUnit.counted_small ho)⟩
  · intro s o hv hs hlock hbig
    cases hst : s.time.state with
    | valid => exact absurd hst hv
    | invalid =>
      obtain ⟨u, hjudge, hstate, hcount⟩ := State.judgeOffset_invalid (o := o) hst hs
      rw [hjudge, TimeUnit.counted_large hlock, if_neg (by decide)]
      exact ⟨hstate, hcount.trans (TimeUnit.counted_large hlock)⟩
    | holdover =>
      obtain ⟨u, hjudge, hstate, hcount⟩ := State.judgeOffset_holdover_small (o := o) hst hbig
      rw [hjudge, TimeUnit.counted_large hlock, if_neg (by simp)]
      exact ⟨hstate, hcount.trans (TimeUnit.counted_large hlock)⟩
  · intro s o hv hb
    rw [State.judgeOffset_valid_big hv hb]
    obtain ⟨hstate, hbase, hrate, _⟩ := State.toInvalid_keeps
      (s := { s with time := { s.time with offsetPs := o, bigCount := s.time.bigCount + 1 } }) 2
    by_cases h3 : 3 ≤ s.time.bigCount
    · rw [if_pos (by omega), if_pos h3]
      exact ⟨hstate, hbase, hrate⟩
    · rw [if_neg (by omega), if_neg h3]
      exact ⟨hv, rfl, rfl⟩
  · intro s o hv hb
    rw [State.judgeOffset_valid_small hv hb]
    obtain ⟨hstate, _, hbig, hsteps, _⟩ := State.servo_keeps (s := { s with time :=
      { s.time with offsetPs := o, bigCount := 0 } })
    exact ⟨hstate.trans hv, hbig, hsteps⟩
  · intro s o hh hb
    rw [State.judgeOffset_holdover_big hh hb]
    exact (State.toInvalid_keeps _).1
  · intro s o hh hb hl
    obtain ⟨u, hjudge, hstate, _⟩ := State.judgeOffset_holdover_small (o := o) hh hb
    have hsixteen : 16 ≤ s.time.lockCount + 1 ↔ 15 ≤ s.time.lockCount := by omega
    rw [hjudge, TimeUnit.counted_small hl]
    simp only [hsixteen]
    split
    · exact State.toValid_state
    · exact hstate
  · intro s t p x hp hu hd hm
    obtain ⟨u, hselect, hmaster, hstate, hlock, hdelay, _, hframe⟩ := State.selectMaster_selects (s := s.advance t) x
    have hrest := congrArg (fun y : State => ({ y with now := s.now } : State)) hframe
    refine ⟨u, ?_, hmaster, hstate, hlock, hdelay, hrest⟩
    rw [exec_ptpAnnounce_heard hp hu hd, hm, hselect]
  · intro s t p x m hp hu hd hm hother hv
    obtain ⟨u, hselect, hmaster, hstate, _⟩ := State.selectMaster_selects (s := s.advance t) x
    have hexec := exec_ptpAnnounce_heard (t := t) hp hu hd
    rw [hm] at hexec
    simp only [if_neg (not_and_or.mpr hother)] at hexec
    by_cases hb : Config.betterMaster s.time.profile s.time.localPriority m.dataset x.dataset = true
    · rw [if_pos hb] at hexec
      refine ⟨_, hexec, ?_⟩
      rw [if_pos hb, hselect]
      obtain ⟨htime, _⟩ := State.toHoldover_valid (s := u.raiseEvent 0x0A05 .info
        (be 8 x.id ++ le 2 x.sport ++ le 1 x.clockClass ++ zeros 5)) 1 (by simpa [hstate] using hv)
      rw [htime]
      refine ⟨rfl, ?_⟩
      simp [hmaster, announced]
    · rw [if_neg hb] at hexec
      refine ⟨_, hexec, ?_⟩
      rw [if_neg hb]
  · exact fun s t p x h => exec_ptpAnnounce_ignored h
  · exact fun s t id sp n p a c sent m2s h hd hm => exec_ptpDelayResp_answers h hd hm
  · exact fun s t id sp n p a c h => exec_ptpDelayResp_ignored h
  · intro s hm _ hu hq hs
    obtain ⟨hdue, hframe⟩ := State.delayReqDue_time (s := s)
    obtain ⟨hfh, hup⟩ := State.delayReqDue_ports (s := s)
    obtain ⟨htime, hsending, hnow, hrest⟩ := State.enqueue_delayReq (s := s.delayReqDue) (n := s.time.delayReqSeq)
      (f := { cls := 1, length := frameLength (s.fh.port s.time.ptpPort).vlan 40, body := .delayReq s.time.delayReqSeq })
      ((hup _).trans hu) (by rw [hfh]; exact hq) (by rw [hfh]; exact hs) rfl rfl
    have hother := congrArg (fun x : State => ({ x with now := s.now, time := s.time, fh := s.fh } : State)) hrest
    have hkeep := congrArg (fun x : State => ({ x with fh := s.fh } : State)) hframe
    refine ⟨_, exec_ptpDelayReqSend_sends hm hu, ?_, ?_, ?_, ?_, hother.trans hkeep⟩
    · rw [htime, hdue]
    · rw [htime, hnow]
    · rw [htime, hdue, hnow]
    · rw [hsending]
      rfl
  · exact fun s hm => ⟨if_pos (by simp [hm]), if_pos (by simp [hm])⟩
  · intro s hm hv hl
    obtain ⟨htime, hnow, htx⟩ := State.loseMaster_valid (s := s.advance (min (s.time.announceAt + 3 * logUnits s.time.announceLog)
      (s.time.syncAt + Config.sec))) 0 hm hv
    have hunits : logUnits s.time.announceLog = 384000000000 * 2 ^ s.time.announceLog.toNat := if_pos hl
    refine ⟨_, exec_ptpMasterLost_lost hm, ?_, ?_, ?_, ?_, ?_, ?_, htx⟩
    · rw [htime]
    · rw [htime]
    · rw [htime, hnow]
    · rw [hnow, hunits]
      rfl
    · rw [htime]
      rfl
    · rw [htime]
      rfl
  · intro s a hr hh ha
    have hexec := exec_holdoverLimitExpiry_due hr hh ha
    obtain ⟨hstate, hbase, hrate, hnow⟩ := State.toInvalid_keeps (s := s.advance (a + s.time.holdoverLimitS * Config.sec)) 0
    refine ⟨_, hexec, hstate, hnow, hbase, hrate, State.toInvalid_queue 0 ?_⟩
    rw [show (s.advance (a + s.time.holdoverLimitS * Config.sec)).time.state = .holdover from hh]
    decide
  · exact fun s hh => exec_holdoverLimitExpiry_other hh

end Sys2Proof.Machine
end

section
/-!
PROOFS. Halo (family 14), capture slots: arming, triggers, segments, stopping and reading.
-/

namespace Sys2Proof.Machine

open Sys2Proof

/-! ### Slots -/

section
variable {s : State} {n : Nat} {f : HaloSlot → HaloSlot}

/-- A slot that is changed, and the others. -/
@[simp] theorem State.setSlot_slot (k : Nat) :
    (s.setSlot n f).halo.slot k = if k = n then f (s.halo.slot n) else s.halo.slot k := by
  simp [State.setSlot, Halo.slot]

/-- The slot itself. -/
theorem State.setSlot_same : (s.setSlot n f).halo.slot n = f (s.halo.slot n) := by simp

/-- Another slot. -/
theorem State.setSlot_other {k : Nat} (hk : k ≠ n) : (s.setSlot n f).halo.slot k = s.halo.slot k := by simp [hk]

/-! ### Arming (R443 to R446) -/

/-- HALO_ARM that no check refuses. -/
theorem haloArmCheck_ok {r : Running} (ha : armRanges r.cmd.payload s.isWorker = true)
    (hr : (s.halo.slot (u8 r.cmd.payload 0)).state.running = false) (ho : s.armedSlots (u8 r.cmd.payload 0) = [])
    (hn : (haloCfg r.cmd.payload).need ≤ 98304) : haloArmCheck r s = none := by
  have hfit : (haloCfg r.cmd.payload).need ≤ 32 * (1920000 / Config.masterClock) := hn
  unfold haloArmCheck
  simp only [ha, hr, ho, Bool.not_false, List.all_nil, List.foldl_nil, firstFailure_pass, hfit, decide_true, firstFailure_nil]

/-- The slot that HALO_ARM arms. -/
def State.armed (s : State) (p : List Byte) : State :=
  s.setSlot (u8 p 0) (fun _ =>
    { state := .arming, cfg := haloCfg p, armDue := s.nextSample (kindPeriod (u8 p 1))
      patternTrue := (haloCfg p).patternHolds s.pattern })

/-- HALO_ARM of a slot that does not run. -/
theorem haloArmBody_arms {r : Running} (hc : haloArmCheck r s = none) : haloArmBody r s =
    .ok (if u8 r.cmd.payload 1 = 3 then (s.armed r.cmd.payload).askObs .halo else s.armed r.cmd.payload) [] := by
  unfold haloArmBody
  rw [hc]
  rfl

/-- The observation selection has been asked for. -/
theorem State.askObs_asks (u : ObsUser) : u ∈ (s.askObs u).path.obsWaiting ∧ (s.askObs u).halo = s.halo ∧
    ({ s.askObs u with path := s.path } : State) = s := by
  unfold State.askObs
  split
  · next h => exact ⟨by simpa using h, rfl, rfl⟩
  · exact ⟨List.mem_append_right _ (List.mem_singleton.mpr rfl), rfl, rfl⟩

/-- HALO_ARM that a check refuses. -/
theorem haloArmBody_refused {r : Running} {st : Nat} (hc : haloArmCheck r s = some st) : haloArmBody r s = .status s st := by
  unfold haloArmBody
  rw [hc]

/-- HALO_ARM out of its ranges. -/
theorem haloArmCheck_badParam {r : Running} (ha : armRanges r.cmd.payload s.isWorker = false) :
    haloArmCheck r s = some Status.badParam := by
  unfold haloArmCheck
  simp only [ha, firstFailure_fail]

/-- HALO_ARM of a slot that runs. -/
theorem haloArmCheck_busy {r : Running} (ha : armRanges r.cmd.payload s.isWorker = true)
    (hr : (s.halo.slot (u8 r.cmd.payload 0)).state.running = true) : haloArmCheck r s = some Status.busy := by
  unfold haloArmCheck
  simp only [ha, hr, Bool.not_true, firstFailure_pass, firstFailure_fail]

/-- HALO_ARM beside one armed slot. -/
theorem haloArmCheck_other {r : Running} {k : Nat} {x : HaloSlot} (ha : armRanges r.cmd.payload s.isWorker = true)
    (hr : (s.halo.slot (u8 r.cmd.payload 0)).state.running = false) (ho : s.armedSlots (u8 r.cmd.payload 0) = [(k, x)]) :
    haloArmCheck r s = firstFailure
      [(decide (x.cfg.offset + x.cfg.length ≤ u32 r.cmd.payload 4) ||
          decide (u32 r.cmd.payload 4 + u32 r.cmd.payload 8 ≤ x.cfg.offset), Status.regionOverlap),
        (decide ((haloCfg r.cmd.payload).need + x.cfg.need ≤ 98304), Status.capRate)] := by
  unfold haloArmCheck
  simp only [ha, hr, ho, Bool.not_false, firstFailure_pass, List.all_cons, List.all_nil, Bool.and_true, List.foldl_cons,
    List.foldl_nil]
  rfl

/-- HALO_ARM whose region overlaps another slot's. -/
theorem haloArmCheck_overlap {r : Running} {k : Nat} {x : HaloSlot} (ha : armRanges r.cmd.payload s.isWorker = true)
    (hr : (s.halo.slot (u8 r.cmd.payload 0)).state.running = false) (ho : s.armedSlots (u8 r.cmd.payload 0) = [(k, x)])
    (h1 : x.cfg.offset < u32 r.cmd.payload 4 + u32 r.cmd.payload 8) (h2 : u32 r.cmd.payload 4 < x.cfg.offset + x.cfg.length) :
    haloArmCheck r s = some Status.regionOverlap := by
  rw [haloArmCheck_other ha hr ho, decide_eq_false (Nat.not_le.mpr h2), decide_eq_false (Nat.not_le.mpr h1)]
  rfl

/-- HALO_ARM that needs more than the port of the pool takes. -/
theorem haloArmCheck_capRate {r : Running} {k : Nat} {x : HaloSlot} (ha : armRanges r.cmd.payload s.isWorker = true)
    (hr : (s.halo.slot (u8 r.cmd.payload 0)).state.running = false) (ho : s.armedSlots (u8 r.cmd.payload 0) = [(k, x)])
    (h1 : x.cfg.offset + x.cfg.length ≤ u32 r.cmd.payload 4) (h2 : 98304 < (haloCfg r.cmd.payload).need + x.cfg.need) :
    haloArmCheck r s = some Status.capRate := by
  rw [haloArmCheck_other ha hr ho, decide_eq_true h1, decide_eq_false (Nat.not_le.mpr h2)]
  rfl

/-- A segment's instants lie within its part of the region. -/
theorem HaloCfg.instants_le (c : HaloCfg) : c.instants * c.instantBytes ≤ c.segBytes := by
  unfold HaloCfg.instants
  split
  · simp
  · exact Nat.div_mul_le_self _ _

/-- A segment that is opened. -/
theorem State.openSegment_slot (first k : Nat) : (s.openSegment n first).halo.slot k =
    if k = n then { s.halo.slot n with state := .filling, trigger := none, firstSample := first } else s.halo.slot k := by
  rw [State.openSegment, State.setSlot_slot]
  rfl

/-- Opening a segment writes its bytes of the pool alone. -/
theorem State.openSegment_mem (first : Nat) {a : Nat} (h : a < capturePool + (s.halo.slot n).cfg.offset +
      (s.halo.slot n).done * (s.halo.slot n).cfg.segBytes ∨ capturePool + (s.halo.slot n).cfg.offset +
      ((s.halo.slot n).done + 1) * (s.halo.slot n).cfg.segBytes ≤ a) :
    memRead unlisted (s.openSegment n first).mem a = memRead unlisted s.mem a := by
  have hfit := (s.halo.slot n).cfg.instants_le
  refine memRead_writeBytes_out _ _ _ (h.imp_right fun hr => ?_)
  rw [length_le]
  rw [Nat.succ_mul] at hr
  omega

/-- HALO_ARMING_COMPLETE of a slot without the observation selection. -/
theorem exec_haloArmingComplete_due {n : Fin 4} (hs : (s.halo.slot n).state = .arming) (hk : (s.halo.slot n).cfg.kind ≠ 3) :
    exec (.haloArmingComplete n) s = .next ((s.advance (s.halo.slot n).armDue).openSegment n (s.halo.slot n).armDue) :=
  (if_neg (not_not.mpr hs)).trans (if_neg hk)

/-- HALO_ARMING_COMPLETE of the slot that holds the observation selection. -/
theorem exec_haloArmingComplete_obs {n : Fin 4} (hs : (s.halo.slot n).state = .arming) (hk : (s.halo.slot n).cfg.kind = 3)
    (ho : s.halo.obsSlot = some n.val) : exec (.haloArmingComplete n) s =
      .next ((s.advance (s.path.obsSince + 2 * Config.us)).openSegment n
        ((s.advance (s.path.obsSince + 2 * Config.us)).sampleAt (s.advance (s.path.obsSince + 2 * Config.us)).now 625)) :=
  (if_neg (not_not.mpr hs)).trans ((if_pos hk).trans (if_pos ho))

end

/-! ### Triggers (R449 to R453) -/

section
variable {s : State} {t : Nat} {n : Fin 4}

/-- What the present says about a slot once its offers have been judged. -/
def State.judged (s : State) (t : Nat) : State := { s.advance t with halo := { s.halo with offers := [] } }

/-- HALO_TRIGGER_ACCEPT with the judgement of a stamp and its sources. -/
def State.judgeTrigger (s : State) (n stamp sources : Nat) : State :=
  match (s.halo.slot n).state with
  | .filling =>
    if (s.halo.slot n).firstSample + (s.halo.slot n).cfg.pre * kindPeriod (s.halo.slot n).cfg.kind ≤ stamp then
      s.acceptTrigger n stamp sources
    else s.setSlot n (fun x => { x with ignored := wrapAdd 32 x.ignored 1 })
  | .post | .holdoff =>
    if (s.halo.slot n).cfg.byCount then s.setSlot n (fun x => { x with heldOff := wrapAdd 32 x.heldOff 1, held := x.held + 1 })
    else s
  | _ => s

/-- The offers of a slot that were decided on the earliest clock, where no other offer waits. -/
theorem exec_haloTriggerAccept_judges {o : TrigOffer} {l now : List TrigOffer} {c stamp sources : Nat}
    (hmine : s.halo.offers.filter (fun x => x.slot == n.val) = o :: l)
    (hclock : l.foldl (fun m x => Nat.min m x.decidedAt) o.decidedAt = c)
    (hnow : (o :: l).filter (fun x => x.decidedAt == c) = now)
    (hrest : s.halo.offers.filter (fun x => !(x.slot == n.val && x.decidedAt == c)) = [])
    (hstamp : now.foldl (fun m x => Nat.min m x.stamp) (now.headD o).stamp = stamp)
    (hsources : now.foldl (fun m x => m ||| 2 ^ x.source) 0 = sources) :
    exec (.haloTriggerAccept t n) s = .next ((s.judged t).judgeTrigger n stamp sources) := by
  have hmine' : (s.advance t).halo.offers.filter (fun x => x.slot == n.val) = o :: l := hmine
  have hrest' : (s.advance t).halo.offers.filter (fun x => !(x.slot == n.val && x.decidedAt == c)) = [] := hrest
  have hslot : ({ (s.advance t).halo with offers := [] } : Halo).slot n = s.halo.slot n := rfl
  have hjudged : (s.judged t).halo.slot n = s.halo.slot n := rfl
  show execHaloTriggerAccept t n s = _
  unfold execHaloTriggerAccept State.judgeTrigger
  simp only [hmine', hclock, hnow, hrest', hstamp, hsources, hslot, hjudged]
  cases (s.halo.slot n).state with
  | filling => exact (apply_ite Host.Outcome.next _ _ _).symm
  | post => exact (apply_ite Host.Outcome.next _ _ _).symm
  | holdoff => exact (apply_ite Host.Outcome.next _ _ _).symm
  | _ => rfl

/-- One offer, of the slot. -/
theorem exec_haloTriggerAccept_one {o : TrigOffer} (ho : s.halo.offers = [o]) (hn : o.slot = n.val) :
    exec (.haloTriggerAccept t n) s = .next ((s.judged t).judgeTrigger n o.stamp (2 ^ o.source)) := by
  refine exec_haloTriggerAccept_judges (o := o) (l := []) (now := [o]) (c := o.decidedAt) ?_ rfl ?_ ?_ (Nat.min_self _)
    (Nat.zero_or _)
  · simp [ho, hn]
  · simp
  · simp [ho, hn]

/-- Two offers of the slot that were decided on one clock. -/
theorem exec_haloTriggerAccept_two {a b : TrigOffer} (ho : s.halo.offers = [a, b]) (ha : a.slot = n.val) (hb : b.slot = n.val)
    (hd : a.decidedAt = b.decidedAt) (hle : b.stamp ≤ a.stamp) :
    exec (.haloTriggerAccept t n) s = .next ((s.judged t).judgeTrigger n b.stamp (2 ^ a.source ||| 2 ^ b.source)) := by
  refine exec_haloTriggerAccept_judges (o := a) (l := [b]) (now := [a, b]) (c := a.decidedAt) ?_ ?_ ?_ ?_ ?_ ?_
  · simp [ho, ha, hb]
  · exact (congrArg (Nat.min _) hd.symm).trans (Nat.min_self _)
  · simp [hd]
  · simp [ho, ha, hb, hd]
  · exact (congrArg (Nat.min · b.stamp) (Nat.min_self a.stamp)).trans (Nat.min_eq_right hle)
  · exact congrArg (· ||| 2 ^ b.source) (Nat.zero_or _)

/-- A trigger late enough for the segment that fills is accepted. -/
theorem State.judgeTrigger_accepts {stamp : Nat} (sources : Nat) (hs : (s.halo.slot n).state = .filling)
    (hle : (s.halo.slot n).firstSample + (s.halo.slot n).cfg.pre * kindPeriod (s.halo.slot n).cfg.kind ≤ stamp) :
    s.judgeTrigger n stamp sources = s.acceptTrigger n stamp sources := by
  unfold State.judgeTrigger
  simp only [hs, if_pos hle]

/-- A trigger too early for the segment that fills is counted. -/
theorem State.judgeTrigger_early {stamp : Nat} (sources : Nat) (hs : (s.halo.slot n).state = .filling)
    (hlt : stamp < (s.halo.slot n).firstSample + (s.halo.slot n).cfg.pre * kindPeriod (s.halo.slot n).cfg.kind) :
    s.judgeTrigger n stamp sources = s.setSlot n (fun x => { x with ignored := wrapAdd 32 x.ignored 1 }) := by
  unfold State.judgeTrigger
  simp only [hs, if_neg (Nat.not_le.mpr hlt)]

/-- A trigger in the hold-off by count is held off. -/
theorem State.judgeTrigger_heldOff (stamp sources : Nat) (hs : (s.halo.slot n).state = .holdoff)
    (hc : (s.halo.slot n).cfg.byCount = true) : s.judgeTrigger n stamp sources =
      s.setSlot n (fun x => { x with heldOff := wrapAdd 32 x.heldOff 1, held := x.held + 1 }) := by
  unfold State.judgeTrigger
  simp only [hs, hc, if_true]

/-- The slot whose trigger is fixed. -/
def State.triggered (s : State) (n stamp sources : Nat) : State :=
  s.setSlot n (fun x => { x with state := .post, trigger := some (stamp, sources), held := 0 })

/-- An accepted trigger that nothing else follows. -/
theorem State.acceptTrigger_alone {n : Nat} (stamp sources : Nat) (hc : (s.halo.slot n).cfg.cascadeOut = false)
    (hm : s.halo.trigOutMask.getLsbD n = false) : s.acceptTrigger n stamp sources = s.triggered n stamp sources := by
  have hcascade : ((s.triggered n stamp sources).halo.slot n).cfg.cascadeOut = false := by
    rw [State.triggered, State.setSlot_same]
    exact hc
  have hmask : (s.triggered n stamp sources).halo.trigOutMask.getLsbD n = false := hm
  unfold State.acceptTrigger
  simp only [State.triggered] at hcascade hmask
  simp only [hmask, hcascade, Bool.false_eq_true, if_false, Bool.not_false, if_true]
  rfl

/-- An accepted trigger, with TRIG_OUT and the cascade, as far as the slots and the offers show it. -/
theorem State.acceptTrigger_halo {n : Nat} (stamp sources : Nat) :
    (s.acceptTrigger n stamp sources).halo.slots = (s.triggered n stamp sources).halo.slots ∧
    (s.acceptTrigger n stamp sources).halo.offers = s.halo.offers := by
  have hout : ∀ c : Prop, ∀ _ : Decidable c, ∀ a, (if c then (s.triggered n stamp sources).pulseTrigOut a
      else s.triggered n stamp sources).halo.slots = (s.triggered n stamp sources).halo.slots ∧
      (if c then (s.triggered n stamp sources).pulseTrigOut a else s.triggered n stamp sources).halo.offers = s.halo.offers := by
    intro c _ a
    split <;> exact ⟨rfl, rfl⟩
  unfold State.acceptTrigger
  extract_lets u timed v
  have hv : v.halo.slots = (s.triggered n stamp sources).halo.slots ∧ v.halo.offers = s.halo.offers := hout _ _ _
  split
  · exact hv
  · split
    · exact hv
    · split
      · exact hv
      · exact hv

/-- The start of a word of the trigger bus lies at or after the present. -/
theorem State.sendWord_start (code : Nat) {a : Nat} (ha : a ≤ s.now) : ∃ w, (s.sendWord code s.now).1 = w ∧ a ≤ w ∧
    (s.sendWord code s.now).2.lcl.words = s.lcl.words ++ [(code, w)] := by
  refine ⟨_, rfl, ?_, rfl⟩
  have hsample := s.le_sampleAt (max s.now s.now) (g := Config.masterClock) (by decide)
  exact (ha.trans (Nat.le_max_left _ _)).trans (hsample.trans (Nat.le_max_left _ _))

/-- An accepted trigger of a manager's slot with TRIG_OUT and the cascade: the pulse starts at once, and a word leaves. -/
theorem State.acceptTrigger_cascades {n : Nat} (stamp sources : Nat) (hsrc : sources &&& 0x34 = 0)
    (hc : (s.halo.slot n).cfg.cascadeOut = true) (hm : s.halo.trigOutMask.getLsbD n = true) (hr : s.role = .manager) :
    s.acceptTrigger n stamp sources =
      (((s.triggered n stamp sources).pulseTrigOut s.now).sendTimed 2 s.now).2 := by
  have hcascade : (((s.triggered n stamp sources).pulseTrigOut s.now).halo.slot n).cfg.cascadeOut = true := by
    show ((s.triggered n stamp sources).halo.slot n).cfg.cascadeOut = true
    rw [State.triggered, State.setSlot_same]
    exact hc
  have hmask : (s.triggered n stamp sources).halo.trigOutMask.getLsbD n = true := hm
  unfold State.acceptTrigger
  simp only [State.triggered] at hcascade hmask
  simp only [hmask, hsrc, if_true]
  refine (if_neg ?_).trans (if_pos hr)
  rw [Bool.not_eq_true', Bool.not_eq_false]
  exact hcascade

end

/-! ### Segments and hold-off (R447, R448, R452) -/

section
variable {s : State} {n : Fin 4} {data : List Byte} {t src : Nat}

/-- The instant at which a slot's segment is complete. -/
def State.segmentDue (s : State) (n t : Nat) : State := s.advance (t + (s.halo.slot n).cfg.post)

/-- The record of the segment of a slot that is complete. -/
def State.doneSegment (s : State) (n t src : Nat) : HaloSeg :=
  (s.segmentDue n t).segmentOf (s.halo.slot n) t src (s.halo.slot n).cfg.instants 0

/-- A slot whose segment is complete: its samples are in the pool, and its record is kept. -/
def State.segmentDone (s : State) (n t src : Nat) (data : List Byte) : State :=
  let g := s.doneSegment n t src
  let base := capturePool + (s.halo.slot n).cfg.offset + (s.halo.slot n).done * (s.halo.slot n).cfg.segBytes
  ({ s.segmentDue n t with mem := writeRing s.mem base g.bytes g.oldest (data.take g.bytes) } : State).setSlot n (fun y =>
    { y with
      state := .holdoff, segs := Tab.set y.segs (s.halo.slot n).done (s.doneSegment n t src)
      done := (s.halo.slot n).done + 1 })

/-- EV_HALO_SEGMENT of a slot whose segment is complete. -/
def State.segmentEvent (s : State) (n t src : Nat) (data : List Byte) : State :=
  (s.segmentDone n t src data).raiseEvent 0x0C01 .info
    (le 1 n ++ le 1 (s.halo.slot n).done ++ le 1 src ++ zeros 5 ++ (s.segmentDone n t src data).ts64Bytes t)

/-- SEGMENT_COMPLETE of a slot whose trigger is accepted. -/
theorem exec_segmentComplete_done (hs : (s.halo.slot n).state = .post) (ht : (s.halo.slot n).trigger = some (t, src)) :
    exec (.segmentComplete n data) s = .next (
      if (s.halo.slot n).cfg.segments ≤ (s.halo.slot n).done + 1 then (s.segmentEvent n t src data).endSlot n .done 5
      else if (s.segmentEvent n t src data).holdoffOver (s.halo.slot n) t then (s.segmentEvent n t src data).nextSegment n
      else s.segmentEvent n t src data) := by
  show execSegmentComplete n data s = _
  unfold execSegmentComplete
  simp only [hs, ht]
  rw [apply_ite Host.Outcome.next, apply_ite Host.Outcome.next]
  rfl

/-- SEGMENT_COMPLETE of a slot without an accepted trigger. -/
theorem exec_segmentComplete_other (hs : (s.halo.slot n).state ≠ .post) : exec (.segmentComplete n data) s = .next s := by
  show execSegmentComplete n data s = _
  unfold execSegmentComplete
  simp only []
  split
  · next h _ => exact absurd h hs
  · rfl

/-- The slot whose segment is complete. -/
theorem State.segmentDone_slot : (s.segmentDone n t src data).halo.slot n = { s.halo.slot n with
    state := .holdoff, segs := Tab.set (s.halo.slot n).segs (s.halo.slot n).done (s.doneSegment n t src)
    done := (s.halo.slot n).done + 1 } :=
  State.setSlot_same

/-- The observation selection is given back: the slots stay. -/
theorem State.releaseObs_slots (u : ObsUser) : (s.releaseObs u).halo.slots = s.halo.slots := by
  unfold State.releaseObs
  split
  · rfl
  · rfl

/-- What the end of a slot does to the observation selection. -/
def State.obsReturned (s : State) (n : Nat) : State :=
  if (s.halo.slot n).cfg.kind ≠ 3 then s
  else if s.halo.obsSlot = some n then
    if (s.releaseObs .halo).halo.slots.any (fun p => p.2.state == .arming && p.2.cfg.kind == 3) then
      (s.releaseObs .halo).askObs .halo
    else s.releaseObs .halo
  else if s.halo.slots.any (fun p => p.2.state == .arming && p.2.cfg.kind == 3) then s
  else { s with path := { s.path with obsWaiting := s.path.obsWaiting.filter (fun v => !(v == .halo)) } }

/-- The observation selection is given back: the slots stay. -/
theorem State.obsReturned_slots (k : Nat) : (s.obsReturned k).halo.slots = s.halo.slots := by
  unfold State.obsReturned
  split
  · rfl
  · split
    · split
      · rw [(State.askObs_asks _).2.1, State.releaseObs_slots]
      · exact State.releaseObs_slots _
    · split
      · rfl
      · rfl

/-- A slot in its last state, with no offer left. -/
def State.slotEnded (s : State) (k : Nat) (st : SlotState) : State :=
  let u := s.setSlot k (fun x => { x with state := st, trigger := none })
  { u with halo := { u.halo with offers := u.halo.offers.filter (fun o => o.slot != k) } }

/-- The end of a slot, with its event. -/
theorem State.endSlot_eq (k : Nat) (st : SlotState) (code : Nat) : ∃ p, s.endSlot k st code =
    ((s.slotEnded k st).obsReturned k).raiseEvent 0x0C02 .notice p := ⟨_, rfl⟩

/-- The end of a slot, as far as the slot shows it. -/
theorem State.endSlot_slot (k : Nat) (st : SlotState) (code : Nat) :
    (s.endSlot k st code).halo.slot k = { s.halo.slot k with state := st, trigger := none } := by
  obtain ⟨p, hend⟩ := s.endSlot_eq k st code
  have hhalo : (s.endSlot k st code).halo.slots = (s.slotEnded k st).halo.slots := by
    rw [hend]
    simp only [State.raiseEvent_keeps, State.obsReturned_slots]
  have hslot := State.setSlot_same (s := s) (n := k) (f := fun x => { x with state := st, trigger := none })
  rw [Halo.slot, hhalo]
  exact hslot

/-- The hold-off by time ends. -/
theorem exec_haloHoldoffEnd_time (hs : (s.halo.slot n).state = .holdoff) (ht : (s.halo.slot n).trigger = some (t, src))
    (hc : (s.halo.slot n).cfg.byCount = false) : exec (.haloHoldoffEnd n) s =
      .next ((s.advance (t + (s.halo.slot n).cfg.holdoff * Config.ns)).nextSegment n) := by
  have hover : (s.advance (t + (s.halo.slot n).cfg.holdoff * Config.ns)).holdoffOver (s.halo.slot n) t = true := by
    rw [State.holdoffOver, hc]
    exact decide_eq_true (Nat.le_max_right _ _)
  show execHaloHoldoffEnd n s = _
  unfold execHaloHoldoffEnd
  simp only [hs, ht, hc, Bool.false_eq_true, if_false, hover, if_true]

/-- The hold-off by count goes on. -/
theorem exec_haloHoldoffEnd_count (hs : (s.halo.slot n).state = .holdoff) (ht : (s.halo.slot n).trigger = some (t, src))
    (hc : (s.halo.slot n).cfg.byCount = true) (hh : (s.halo.slot n).held < (s.halo.slot n).cfg.holdoff) :
    exec (.haloHoldoffEnd n) s = .next s := by
  have hover : s.holdoffOver (s.halo.slot n) t = false := by
    rw [State.holdoffOver, hc]
    exact decide_eq_false (Nat.not_le.mpr hh)
  show execHaloHoldoffEnd n s = _
  unfold execHaloHoldoffEnd
  simp only [hs, ht, hc, if_true, hover, Bool.false_eq_true, if_false]

end

/-! ### Stopping and reading (R454) -/

section
variable {s : State} {k : Nat} {r : Running}

/-- A slot that is stopped without a freeze forgets its segments. -/
theorem State.stopSlot_forgets (st : SlotState) (code : Nat) : ((s.stopSlot k false st code 0).halo.slot k).state = st ∧
    ((s.stopSlot k false st code 0).halo.slot k).done = 0 ∧ ((s.stopSlot k false st code 0).halo.slot k).segs = [] := by
  unfold State.stopSlot
  simp only [Bool.not_false, if_true, State.endSlot_slot, State.setSlot_same, and_self]

/-- The flags of a segment hold those that it is given. -/
theorem State.segmentOf_flags (x : HaloSlot) (t src c extra : Nat) {b : Nat} (h : extra.testBit b = true) :
    (s.segmentOf x t src c extra).flags.testBit b = true := by
  simp [State.segmentOf, h]

/-- A slot that is stopped with a freeze after its trigger keeps its segment, marked. -/
theorem State.stopSlot_keeps (st : SlotState) (code : Nat) {t src : Nat} (hs : (s.halo.slot k).state = .post)
    (ht : (s.halo.slot k).trigger = some (t, src)) : ∃ g, ((s.stopSlot k true st code 0).halo.slot k).state = st ∧
      ((s.stopSlot k true st code 0).halo.slot k).done = (s.halo.slot k).done + 1 ∧
      Tab.find? ((s.stopSlot k true st code 0).halo.slot k).segs (s.halo.slot k).done = some g ∧ g.flags.testBit 5 = true := by
  unfold State.stopSlot
  simp only [hs, ht, Bool.not_true, Bool.false_eq_true, if_false, if_true, State.endSlot_slot, State.setSlot_same, or_true,
    reduceCtorEq, true_and]
  refine ⟨_, (Tab.find?_set _ _ _ _).trans (if_pos rfl), State.segmentOf_flags _ _ _ _ _ (by decide)⟩

/-- HALO_DISARM of a slot that runs. -/
theorem haloDisarmBody_stops (h3 : u8 r.cmd.payload 0 ≤ 3) (hr : (s.halo.slot (u8 r.cmd.payload 0)).state.running = true) :
    haloDisarmBody r s = .ok (s.stopSlot (u8 r.cmd.payload 0) (u8 r.cmd.payload 1 % 2 == 1) .disarmed 7 0) [] :=
  (if_neg (Nat.not_lt.mpr h3)).trans (if_neg (by rw [hr]; decide))

/-- HALO_DISARM of a slot that does not run. -/
theorem haloDisarmBody_idle (h3 : u8 r.cmd.payload 0 ≤ 3) (hr : (s.halo.slot (u8 r.cmd.payload 0)).state.running = false) :
    haloDisarmBody r s = .ok s [] :=
  (if_neg (Nat.not_lt.mpr h3)).trans (if_pos (by rw [hr]; rfl))

/-- One segment of HALO_GET_CAPTURE takes 32 bytes. -/
theorem State.segBytesOf_length (g : HaloSeg) : (s.segBytesOf g).length = 32 := by simp [State.segBytesOf]

/-- The layout of HALO_GET_CAPTURE. -/
theorem State.captureStatus_fields : (s.captureStatus k).length = 16 + 32 * (s.halo.slot k).cfg.segments ∧
    u8 (s.captureStatus k) 0 = (s.halo.slot k).state.code ∧ u8 (s.captureStatus k) 3 = (s.halo.slot k).done % 256 ∧
    u32 (s.captureStatus k) 4 = (s.halo.slot k).ignored % 2 ^ 32 ∧
    u32 (s.captureStatus k) 8 = (s.halo.slot k).heldOff % 2 ^ 32 ∧
    u32 (s.captureStatus k) 12 = (s.halo.slot k).cfg.instants % 2 ^ 32 := by
  have hcode : (s.halo.slot k).state.code % 256 = (s.halo.slot k).state.code := by
    cases (s.halo.slot k).state <;> rfl
  refine ⟨?_, (u8_le _ _).trans hcode, ?_⟩
  · rw [State.captureStatus, List.length_append, length_flatMap_of_forall (c := 32)]
    · simp
      omega
    · intro j
      split
      · exact State.segBytesOf_length _
      · exact List.length_replicate
  · simp only [State.captureStatus, List.append_assoc]
    simp [u8_append_of_le, u8_le, u32_append_of_le, u32_le]

end

/-- Settles O55. -/
theorem haloCapture : Obligations.HaloCapture := by
  unfold Obligations.HaloCapture
  refine ⟨?_, ?_, ?_, ?_, ?_, ?_, ?_, ?_, ?_, ?_, ?_, ?_, ?_, ?_, ?_, ?_, ?_, ?_, ?_, ?_, ?_, ?_, ?_, ?_, ?_, ?_, ?_⟩
  · intro s r h ha hr ho hn hk
    have hbody := haloArmBody_arms (haloArmCheck_ok ha hr ho hn)
    rw [if_neg hk] at hbody
    exact runCommand_effect h hbody
  · intro s r h ha hr ho hn hk
    have hbody := haloArmBody_arms (haloArmCheck_ok ha hr ho hn)
    rw [if_pos hk] at hbody
    obtain ⟨hasks, hhalo, hframe⟩ := (s.armed r.cmd.payload).askObs_asks .halo
    refine ⟨_, runCommand_effect h hbody, ?_, ?_, hasks, ?_⟩
    · rw [hhalo, State.armed, State.setSlot_same]
    · rw [hhalo, State.armed, State.setSlot_same]
    · have hkeep := congrArg (fun x : State => ({ x with halo := s.halo, path := s.path } : State)) hframe
      exact hkeep
  · exact fun s r h ha => runCommand_status h (haloArmBody_refused (haloArmCheck_badParam ha)) (by decide)
  · exact fun s r h ha hr => runCommand_status h (haloArmBody_refused (haloArmCheck_busy ha hr)) (by decide)
  · intro s r n x h ha hr ho h1 h2
    exact runCommand_status h (haloArmBody_refused (haloArmCheck_overlap ha hr ho h1 h2)) (by decide)
  · intro s r n x h ha hr ho h1 h2
    exact runCommand_status h (haloArmBody_refused (haloArmCheck_capRate ha hr ho h1 h2)) (by decide)
  · intro s n hs hk
    refine ⟨_, exec_haloArmingComplete_due hs hk, rfl, ?_, fun k hk => ?_, fun a ha => ?_, rfl⟩
    · exact (State.openSegment_slot _ _).trans (if_pos rfl)
    · exact (State.openSegment_slot _ _).trans (if_neg hk)
    · exact State.openSegment_mem (s := s.advance (s.halo.slot n).armDue) _ ha
  · intro s n hs hk ho
    refine ⟨_, exec_haloArmingComplete_obs hs hk ho, rfl, ?_, ?_, rfl⟩
    · rw [State.openSegment_slot, if_pos rfl]
    · rw [State.openSegment_slot, if_pos rfl]
      rfl
  · exact fun s n hs => if_pos hs
  · intro s t n o ho hn hs hle hc hm
    have hexec := exec_haloTriggerAccept_one (t := t) ho hn
    rw [State.judgeTrigger_accepts (s := s.judged t) _ hs hle, State.acceptTrigger_alone (s := s.judged t) _ _ hc hm] at hexec
    exact ⟨_, hexec, rfl, rfl, State.setSlot_same, fun k hk => State.setSlot_other hk, rfl⟩
  · intro s t n a b ho ha hb hd hle hs hfirst
    have hexec := exec_haloTriggerAccept_two (t := t) ho ha hb hd hle
    rw [State.judgeTrigger_accepts (s := s.judged t) _ hs hfirst] at hexec
    obtain ⟨hslots, hoffers⟩ := State.acceptTrigger_halo (s := s.judged t) (n := n) b.stamp (2 ^ a.source ||| 2 ^ b.source)
    refine ⟨_, hexec, ?_, hoffers⟩
    rw [Halo.slot, hslots]
    exact congrArg HaloSlot.trigger (State.setSlot_same (s := s.judged t) (n := n))
  · intro s t n o ho hn hs hlt
    have hexec := exec_haloTriggerAccept_one (t := t) ho hn
    rw [State.judgeTrigger_early (s := s.judged t) _ hs hlt] at hexec
    exact ⟨_, hexec, State.setSlot_same, rfl, rfl⟩
  · intro s t n o ho hn hs hc
    have hexec := exec_haloTriggerAccept_one (t := t) ho hn
    rw [State.judgeTrigger_heldOff (s := s.judged t) _ _ hs hc] at hexec
    exact ⟨_, hexec, State.setSlot_same, rfl⟩
  · intro s t n o ho hn hs hle hsrc hc hm hr
    have hexec := exec_haloTriggerAccept_one (t := t) ho hn
    rw [hsrc, State.judgeTrigger_accepts (s := s.judged t) _ hs hle,
      State.acceptTrigger_cascades (s := s.judged t) _ _ (by decide) hc hm hr] at hexec
    obtain ⟨w, _, hle, hwords⟩ := State.sendWord_start
      (s := ((s.judged t).triggered n o.stamp (2 ^ 3)).pulseTrigOut (s.judged t).now) 2 (Nat.le_refl _)
    exact ⟨_, w, hexec, rfl, rfl, hwords, hle⟩
  · intro s n data t src hs ht hdone hc hheld
    have hexec := exec_segmentComplete_done (data := data) hs ht
    have hover : (s.segmentEvent n t src data).holdoffOver (s.halo.slot n) t = false := by
      rw [State.holdoffOver, hc, State.segmentEvent]
      simp only [State.raiseEvent_keeps]
      exact decide_eq_false (Nat.not_le.mpr hheld)
    rw [if_neg (by omega), hover, if_neg Bool.false_ne_true] at hexec
    exact ⟨s.segmentDone n t src data, s.doneSegment n t src, hexec, rfl, State.segmentDone_slot, rfl, rfl, rfl, rfl, rfl, rfl⟩
  · intro s n data t src hs ht hdone
    have hexec := exec_segmentComplete_done (data := data) hs ht
    rw [if_pos (by omega)] at hexec
    have hslot : (s.segmentEvent n t src data).halo.slot n = (s.segmentDone n t src data).halo.slot n := by
      rw [State.segmentEvent]
      simp only [State.raiseEvent_keeps]
    refine ⟨_, hexec, ?_, ?_, ?_⟩
    · rw [State.endSlot_slot]
    · rw [State.endSlot_slot, hslot, State.segmentDone_slot]
      exact hdone
    · rw [State.endSlot_slot]
  · exact fun s n data hs => exec_segmentComplete_other hs
  · intro s n t src hs ht hc
    exact ⟨_, exec_haloHoldoffEnd_time hs ht hc, rfl, (State.openSegment_slot _ _).trans (if_pos rfl), rfl⟩
  · exact fun s n t src hs ht hc hh => exec_haloHoldoffEnd_count hs ht hc hh
  · intro s r h h3 hr h1
    have hbody := haloDisarmBody_stops h3 hr
    rw [show (u8 r.cmd.payload 1 % 2 == 1) = false from beq_eq_false_iff_ne.mpr (by omega)] at hbody
    exact ⟨_, runCommand_effect h hbody, State.stopSlot_forgets _ _⟩
  · intro s r h h3 hs ht h1
    have hbody := haloDisarmBody_stops h3 (s := s) (by rw [hs]; rfl)
    rw [show (u8 r.cmd.payload 1 % 2 == 1) = true from beq_iff_eq.mpr h1] at hbody
    obtain ⟨⟨t, src⟩, htrigger⟩ := Option.isSome_iff_exists.mp ht
    obtain ⟨g, hkeeps⟩ := State.stopSlot_keeps .disarmed 7 hs htrigger
    exact ⟨_, g, runCommand_effect h hbody, hkeeps⟩
  · exact fun s r h h3 hr => runCommand_effect h (haloDisarmBody_idle h3 hr)
  · exact fun s r h h3 => runCommand_status h (if_pos h3) (by decide)
  · intro s r h h3
    exact ⟨_, runCommand_effect h (if_pos h3), State.captureStatus_fields⟩
  · exact fun s r h h3 => runCommand_status h (if_neg (Nat.not_le.mpr h3)) (by decide)
  · intro s r h h1 h2 h3
    refine runCommand_effect h (if_pos ?_)
    rw [inRange, decide_eq_true h1, decide_eq_true h2, decide_eq_true h3]
    rfl
  · intro s r h hbad
    refine runCommand_status h (if_neg ?_) (by decide)
    simp only [inRange, Bool.and_eq_true, decide_eq_true_eq]
    omega

end Sys2Proof.Machine
end

section
/-!
PROOFS. Halo (family 14), triggers, TRIG_OUT, masks and snapshots.
-/

namespace Sys2Proof.Machine

open Sys2Proof

/-! ### Offers and TRIG_OUT (R449, R453) -/

section
variable {s : State} {r : Running}

/-- An offer to the only slot, which runs and selects the source. -/
theorem State.offer_one {n : Nat} {x : HaloSlot} (source stamp : Nat) (b : Bool) (hs : s.halo.slots = [(n, x)])
    (hr : x.state.running = true) (ht : x.cfg.trig.getLsbD source = true) :
    (s.offer source stamp b (fun _ _ => true)).halo.offers = s.halo.offers ++
      [{ slot := n, stamp := stamp, source := source, decidedAt := s.now, scheduled := b }] := by
  simp [State.offer, hs, hr, ht]

/-- An offer to the only slot, which does not select the source. -/
theorem State.offer_unselected {n : Nat} {x : HaloSlot} (source stamp : Nat) (b : Bool) (hs : s.halo.slots = [(n, x)])
    (ht : x.cfg.trig.getLsbD source = false) : (s.offer source stamp b (fun _ _ => true)).halo = s.halo := by
  have hnone : s.halo.slots.filter (fun p => p.2.state.running && p.2.cfg.trig.getLsbD source && true) = [] := by
    simp only [hs, List.filter_cons, ht, Bool.and_false, Bool.false_and, Bool.false_eq_true, if_false, List.filter_nil]
  unfold State.offer
  simp only [hnone, List.map_nil, List.append_nil]

/-- A bit of the slot mask of HALO_TRIGGER. -/
theorem slotMask_bit {v : Nat} (h : v ≤ 15) (n : Nat) : (BitVec.ofNat 4 v).getLsbD n = ((v / 2 ^ n) % 2 == 1) := by
  rw [BitVec.getLsbD_ofNat, Nat.testBit_eq_decide_div_mod_eq]
  by_cases hn : n < 4
  · simp [hn, beq_eq_decide]
  · have hsmall : v / 2 ^ n = 0 := by
      refine Nat.div_eq_of_lt (Nat.lt_of_lt_of_le (Nat.lt_of_le_of_lt h (by decide : 15 < 2 ^ 4)) ?_)
      exact Nat.pow_le_pow_right (by decide) (Nat.not_lt.mp hn)
    simp [hn, hsmall]

/-- HALO_TRIGGER within its ranges. -/
theorem haloTriggerBody_offers (h0 : u8 r.cmd.payload 0 ≤ 15) {b : Bool} (hb : (u8 r.cmd.payload 1 % 2 == 1) = b)
    (ht : b = true ∨ s.timeUsable = true) : haloTriggerBody r s = .ok (s.offer 5
      (s.dueInstant r b (s.instantOf r.cmd.payload 8) lead100 Config.masterClock) (!b)
      (fun n _ => (u8 r.cmd.payload 0 / 2 ^ n) % 2 == 1)) [] := by
  have htime : ¬(!b && !s.timeUsable) = true := by
    rcases ht with h | h
    · simp [h]
    · simp [h]
  have hmask : (fun (n : Nat) (_ : HaloCfg) => (BitVec.ofNat 4 (u8 r.cmd.payload 0)).getLsbD n) =
      fun n _ => (u8 r.cmd.payload 0 / 2 ^ n) % 2 == 1 := funext fun n => funext fun _ => slotMask_bit h0 n
  unfold haloTriggerBody
  simp only [hb, hmask]
  exact (if_neg (Nat.not_lt.mpr h0)).trans (if_neg htime)

/-- HALO_TRIGGER at a time while time is unusable. -/
theorem haloTriggerBody_timeInvalid (h0 : u8 r.cmd.payload 0 ≤ 15) (h1 : u8 r.cmd.payload 1 % 2 = 0)
    (ht : s.timeUsable = false) : haloTriggerBody r s = .status s Status.timeInvalid := by
  refine (if_neg (Nat.not_lt.mpr h0)).trans (if_pos ?_)
  rw [ht, h1]
  rfl

/-- An instant that is far enough ahead. -/
theorem State.dueInstant_ahead {d : Int} (h : s.time.deviceAt (r.reached + 38400000) ≤ d) :
    s.dueInstant r false d lead100 Config.masterClock = s.sampleAt (s.time.localOf d) 625 := by
  have hsoon : s.tooSoon r d lead100 = false := decide_eq_false (Int.not_lt.mpr h)
  rw [State.dueInstant, hsoon]
  rfl

/-! ### Masks (R455, R456) -/

/-- HALO_SET_MASK within its ranges. -/
theorem setMaskBody_loads (h0 : u8 r.cmd.payload 0 ≤ 3) (h1 : u8 r.cmd.payload 1 ≤ 1) (h3 : 1 ≤ u8 r.cmd.payload 3)
    (h32 : u8 r.cmd.payload 3 ≤ 32) (ha : u8 r.cmd.payload 1 = 1 ∨ u8 r.cmd.payload 4 ≤ 6)
    (hs : ∀ i, i < u8 r.cmd.payload 3 → s32 r.cmd.payload (8 + 12 * i) ≤ s32 r.cmd.payload (8 + 12 * i + 4)) :
    setMaskBody r s = .ok { s with halo := { s.halo with
      masks := Tab.set s.halo.masks (u8 r.cmd.payload 0)
        { envelope := u8 r.cmd.payload 1 == 1, action := BitVec.ofNat 3 (u8 r.cmd.payload 2), avgLog2 := u8 r.cmd.payload 4
          segs := (List.range (u8 r.cmd.payload 3)).map (maskSeg r.cmd.payload) } } } [] := by
  refine if_pos ?_
  have hall : ((List.range (u8 r.cmd.payload 3)).map (maskSeg r.cmd.payload)).all
    (fun g => decide (g.start ≤ g.stop)) = true := by
    rw [List.all_map, List.all_eq_true]
    exact fun i hi => decide_eq_true (hs i (List.mem_range.mp hi))
  rw [hall]
  simp only [inRange, h0, h1, h3, h32, decide_true, Bool.and_true, Bool.true_and, Bool.or_eq_true, beq_iff_eq, decide_eq_true_eq]
  exact ha

/-- HALO_SET_MASK out of its ranges. -/
theorem setMaskBody_badParam (h : 3 < u8 r.cmd.payload 0 ∨ 1 < u8 r.cmd.payload 1 ∨ u8 r.cmd.payload 3 = 0 ∨
    32 < u8 r.cmd.payload 3 ∨ s32 r.cmd.payload 12 < s32 r.cmd.payload 8 ∨
    (u8 r.cmd.payload 1 = 0 ∧ 6 < u8 r.cmd.payload 4)) : setMaskBody r s = .status s Status.badParam := by
  refine if_neg fun hok => ?_
  simp only [inRange, Bool.and_eq_true, decide_eq_true_eq, Bool.or_eq_true, beq_iff_eq, List.all_map, List.all_eq_true,
    Function.comp_apply] at hok
  obtain ⟨⟨⟨⟨h0, h1⟩, h3, h32⟩, ha⟩, hs⟩ := hok
  have hfirst : s32 r.cmd.payload 8 ≤ s32 r.cmd.payload 12 := hs 0 (List.mem_range.mpr h3)
  omega

/-- A mask of one segment that a measurement meets. -/
theorem HaloMask.firstFail_none {m : HaloMask} {g : MaskSeg} {hi lo : Int} (hm : m.segs = [g]) (hh : hi ≤ g.upper)
    (hl : m.envelope = false ∨ g.lower ≤ lo) : m.firstFail [(hi, lo)] = none := by
  have hlow : ¬(m.envelope && decide (lo < g.lower)) = true := by
    rcases hl with h | h
    · simp [h]
    · simp [h]
  have hexcess : m.excess g (hi, lo) = none := (if_neg (Int.not_lt.mpr hh)).trans (if_neg hlow)
  simp [HaloMask.firstFail, hm, hexcess]

/-- A mask of one segment that a measurement exceeds. -/
theorem HaloMask.firstFail_above {m : HaloMask} {g : MaskSeg} {hi lo : Int} (hm : m.segs = [g]) (hh : g.upper < hi) :
    m.firstFail [(hi, lo)] = some (0, hi - g.upper) := by
  have hexcess : m.excess g (hi, lo) = some (hi - g.upper) := if_pos hh
  simp [HaloMask.firstFail, hm, hexcess]

end

section
variable {s : State} {t : Nat} {n : Fin 4} {k : Fin 16} {m : HaloMask} {meas : List (Int × Int)}

/-- A measurement that meets the slot's mask. -/
theorem exec_maskFrameTest_met (hm : Tab.find? s.halo.masks (s.halo.slot n).cfg.maskId = some m) (hf : m.firstFail meas = none) :
    exec (.maskFrameTest t n k meas) s = .next (s.advance t) := by
  have hmask : Tab.find? (s.advance t).halo.masks ((s.advance t).halo.slot n).cfg.maskId = some m := hm
  show execMaskFrameTest t n k meas s = _
  unfold execMaskFrameTest
  simp only [hmask, hf]

/-- The slot's samples of a receiver are tested. -/
def State.testing (s : State) (n k : Nat) : Bool :=
  ((s.halo.slot n).state == .filling || (s.halo.slot n).state == .post || (s.halo.slot n).state == .holdoff) &&
    (s.halo.slot n).cfg.kind == 3 && (s.halo.slot n).cfg.sources.getLsbD k

/-- EV_HALO_MASK is due: none has been raised within the last second. -/
def State.maskEventDue (s : State) (m : HaloMask) : Bool :=
  m.action.getLsbD 0 && (match m.eventAt with | none => true | some a => decide (a + Config.sec ≤ s.now))

/-- The mask's event, noted with the present time. -/
def State.maskNoted (s : State) (n : Nat) (m : HaloMask) : State :=
  { s with halo := { s.halo with masks := Tab.set s.halo.masks (s.halo.slot n).cfg.maskId { m with eventAt := some s.now } } }

/-- EV_HALO_MASK of a slot's receiver. -/
def State.maskEvent (s : State) (n k : Nat) (m : HaloMask) (g : Nat) (e : Int) : State :=
  (s.maskNoted n m).raiseEvent 0x0C03 .warn (le 1 (s.halo.slot n).cfg.maskId ++ le 1 k ++ le 1 g ++ zeros 1 ++
    leSat 2 e.toNat ++ zeros 2 ++ (s.maskNoted n m).ts64Bytes s.now)

/-- The actions of a mask that fails, after its event. -/
def State.maskActs (s : State) (n : Nat) (x : HaloSlot) (m : HaloMask) : State :=
  if m.action.getLsbD 2 then
    (if m.action.getLsbD 1 && x.cfg.trig.getLsbD 6 then
      s.setSlot n (fun y => { y with trigger := y.trigger.map (fun q =>
        (q.1, q.2 ||| 0x40)) }) else s).stopSlot n true .frozen 6 0x40
  else if m.action.getLsbD 1 then s.offer 6 s.now false (fun i _ => i == n)
  else s

/-- A measurement that fails the slot's mask. -/
theorem exec_maskFrameTest_fails {g : Nat} {e : Int} (hm : Tab.find? s.halo.masks (s.halo.slot n).cfg.maskId = some m)
    (hf : m.firstFail meas = some (g, e)) : exec (.maskFrameTest t n k meas) s = .next (
      if !s.testing n k then s.advance t
      else State.maskActs (if (s.advance t).maskEventDue m then (s.advance t).maskEvent n k m g e else s.advance t) n
        (s.halo.slot n) m) := by
  have hmask : Tab.find? (s.advance t).halo.masks ((s.advance t).halo.slot n).cfg.maskId = some m := hm
  show execMaskFrameTest t n k meas s = _
  unfold execMaskFrameTest
  simp only [hmask, hf]
  have htesting : ((((s.advance t).halo.slot n).state == .filling || ((s.advance t).halo.slot n).state == .post ||
      ((s.advance t).halo.slot n).state == .holdoff) && ((s.advance t).halo.slot n).cfg.kind == 3 &&
      ((s.advance t).halo.slot n).cfg.sources.getLsbD k) = s.testing n k := rfl
  simp only [htesting]
  cases s.testing n k with
  | false => rfl
  | true =>
    unfold State.maskActs
    by_cases h2 : m.action.getLsbD 2 = true
    · simp only [h2, if_true]
      rfl
    · by_cases h1 : m.action.getLsbD 1 = true
      · simp only [h2, h1, if_true, if_false]
        rfl
      · simp only [h2, h1, if_false]
        rfl

end

/-! ### A frozen slot (R454, R456) -/

section
variable {s : State} {n : Nat}

/-- The observation selection is given back: the offers stay. -/
theorem State.obsReturned_offers : (s.obsReturned n).halo.offers = s.halo.offers := by
  have hrelease : (s.releaseObs .halo).halo.offers = s.halo.offers := by
    unfold State.releaseObs
    split
    · rfl
    · rfl
  unfold State.obsReturned
  split
  · rfl
  · split
    · split
      · rw [(State.askObs_asks _).2.1, hrelease]
      · exact hrelease
    · split
      · rfl
      · rfl

/-- A slot that ends has no offer left. -/
theorem State.endSlot_offers (st : SlotState) (code : Nat) : ∀ o ∈ (s.endSlot n st code).halo.offers, o.slot ≠ n := by
  obtain ⟨p, hend⟩ := s.endSlot_eq n st code
  have hoffers : (s.endSlot n st code).halo.offers = s.halo.offers.filter (fun o => o.slot != n) := by
    rw [hend]
    simp only [State.raiseEvent_keeps, State.obsReturned_offers]
    rfl
  intro o ho
  rw [hoffers, List.mem_filter] at ho
  simpa using ho.2

/-- A slot that a mask freezes after its trigger keeps its segment, marked with the freeze and the mask. -/
theorem State.stopSlot_freezes {t src : Nat} (hs : (s.halo.slot n).state = .post) (ht : (s.halo.slot n).trigger = some (t, src)) :
    ∃ q, ((s.stopSlot n true .frozen 6 0x40).halo.slot n).state = .frozen ∧
      Tab.find? ((s.stopSlot n true .frozen 6 0x40).halo.slot n).segs (s.halo.slot n).done = some q ∧
      q.flags.testBit 5 = true ∧ q.flags.testBit 6 = true ∧ q.sources = src ∧
      ∀ o ∈ (s.stopSlot n true .frozen 6 0x40).halo.offers, o.slot ≠ n := by
  unfold State.stopSlot
  simp only [hs, ht, Bool.not_true, Bool.false_eq_true, if_false, if_true, State.endSlot_slot, State.setSlot_same, or_true,
    reduceCtorEq, true_and, Tab.find?_mapVals, Tab.find?_set, Option.map_some, Option.some.injEq, OfNat.ofNat_ne_zero]
  refine ⟨_, rfl, ?_, ?_, rfl, State.endSlot_offers _ _⟩
  · rw [Nat.testBit_or, State.segmentOf_flags _ _ _ _ _ (by decide)]
    rfl
  · rw [Nat.testBit_or, State.segmentOf_flags _ _ _ _ _ (by decide)]
    rfl

end

/-! ### Snapshots (R457 to R459) -/

section
variable {s : State} {r : Running}

/-- HALO_SNAPSHOT at once on a STANDALONE device. -/
theorem snapshotBody_standalone (hr : s.role = .standalone) (hc : r.cascade = false) (h0 : u8 r.cmd.payload 0 % 2 = 1)
    (hp : s.halo.pinned < 4) :
    snapshotBody r s = .ok (s.strobe (s.nextSample 625) 0 true false) (s.ts64Bytes (s.nextSample 625)) := by
  have himm : (u8 r.cmd.payload 0 % 2 == 1) = true := beq_iff_eq.mpr h0
  unfold snapshotBody
  simp only [hr, hc, himm, Nat.not_le.mpr hp, Bool.false_and, Bool.false_eq_true, Bool.not_true, if_false, reduceCtorEq,
    false_and]
  rfl

/-- HALO_SNAPSHOT of a chain at once on its manager: the word's action instant is the strobe. -/
theorem snapshotBody_chain (hr : s.role = .manager) (hc : r.cascade = false) (ht : r.cmd.target = 0xFFFF)
    (h0 : u8 r.cmd.payload 0 % 2 = 1) (hp : s.halo.pinned < 4) : ∃ w, snapshotBody r s = .ok
      (({ s with lcl := { s.lcl with words := s.lcl.words ++ [(1, w)] } } : State).strobe (w + 384000) 0 true false)
      (s.ts64Bytes (w + 384000)) := by
  have himm : (u8 r.cmd.payload 0 % 2 == 1) = true := beq_iff_eq.mpr h0
  have hbody : snapshotBody r s = .ok ((s.sendWord 1 (s.nextSample 625 - Config.us)).2.strobe
      ((s.sendWord 1 (s.nextSample 625 - Config.us)).1 + Config.us) 0 true false)
      (s.ts64Bytes ((s.sendWord 1 (s.nextSample 625 - Config.us)).1 + Config.us)) := by
    unfold snapshotBody
    simp only [hr, hc, ht, himm, Nat.not_le.mpr hp, Bool.false_and, Bool.false_eq_true, Bool.not_true, if_false, and_self,
      if_true]
    rfl
  exact ⟨_, hbody⟩

/-- HALO_SNAPSHOT relayed to all, before its strobe. -/
theorem snapshotBody_relayed (hc : r.cascade = true) (ht : r.cmd.target = 0xFFFF) (hp : s.halo.pinned < 4)
    (hs : s.halo.snaps = []) : snapshotBody r s = .ok { s with halo := { s.halo with
      pinAt := s.halo.pinAt ++ [(u32 r.cmd.payload 8, u32 r.cmd.payload 12)] } } (bytesAt r.cmd.payload 8 8) := by
  unfold snapshotBody Halo.pinStamp
  simp only [hc, ht, hs, Nat.not_le.mpr hp, decide_true, Bool.and_self, if_true, if_false, List.any_nil, Bool.false_eq_true]

/-- HALO_SNAPSHOT at a time while time is unusable. -/
theorem snapshotBody_timeInvalid (hc : r.cascade = false) (h0 : u8 r.cmd.payload 0 % 2 = 0) (ht : s.timeUsable = false) :
    snapshotBody r s = .status s Status.timeInvalid := by
  have himm : (u8 r.cmd.payload 0 % 2 == 1) = false := beq_eq_false_iff_ne.mpr (by omega)
  unfold snapshotBody
  simp only [hc, himm, ht, Bool.false_and, Bool.false_eq_true, Bool.not_false, Bool.and_self, if_false, if_true]

/-- HALO_SNAPSHOT at once with four snapshots pinned. -/
theorem snapshotBody_noResource (h0 : u8 r.cmd.payload 0 % 2 = 1) (hp : 4 ≤ s.halo.pinned) :
    snapshotBody r s = .status s Status.noResource := by
  have himm : (u8 r.cmd.payload 0 % 2 == 1) = true := beq_iff_eq.mpr h0
  unfold snapshotBody
  simp only [himm, hp, if_true, Bool.not_true, Bool.false_and, Bool.false_eq_true, if_false, ite_self]

/-- The only strobe is taken. -/
theorem State.erase_strobe {x : Strobe} (hx : s.halo.strobes = [x]) : (s.advance x.due).halo.strobes.erase x = [] := by
  rw [show (s.advance x.due).halo.strobes = [x] from hx, List.erase_cons_head]

/-- The only strobe falls due with no snapshot in the store. -/
theorem exec_snapshotStrobe_latches {phase : Int} {x : Strobe} (hx : s.halo.strobes = [x]) (hs : s.halo.snaps = []) :
    exec (.snapshotStrobe phase) s = .next
      (({ s.advance x.due with halo := { s.halo with strobes := [] } } : State).takeSnapshot x phase) := by
  show execSnapshotStrobe phase s = _
  unfold execSnapshotStrobe
  simp only [hx, List.foldl_nil, State.erase_strobe hx]
  split
  · next h => exact absurd (hs.symm.trans h) (by simp)
  · rfl

/-- The only strobe falls due while the last snapshot has not latched everywhere. -/
theorem exec_snapshotStrobe_merges {phase : Int} {x : Strobe} {y : Snapshot} (hx : s.halo.strobes = [x]) (hs : s.halo.snaps = [y])
    (hy : y.late = none) : exec (.snapshotStrobe phase) s = .next { s.advance x.due with halo := { s.halo with
      strobes := [], snaps := [{ y with merged := true }], snapMerged := min (s.halo.snapMerged + 1) 65535 } } := by
  show execSnapshotStrobe phase s = _
  unfold execSnapshotStrobe
  simp only [hx, List.foldl_nil, State.erase_strobe hx, show (s.advance x.due).halo.snaps = [y] from hs]
  exact if_pos (show y.late.isNone = true by rw [hy]; rfl)

/-- What the first snapshot of the store holds. -/
theorem State.takeSnapshot_first (x : Strobe) (phase : Int) (hs : s.halo.snaps = []) (hp : s.halo.pinAt = []) : ∃ y,
    (s.takeSnapshot x phase).halo.snaps = [y] ∧ y.id = s.halo.nextSnap ∧ y.origin = x.origin ∧ y.pinned = x.pin ∧
    y.strobe = x.due ∧ y.late = none ∧ (y.seconds, y.nanos) = s.ts64 x.due := by
  have hsnaps : (s.takeSnapshot x phase).halo.snaps = addSnapshot s.halo.snaps _ := rfl
  rw [hs] at hsnaps
  exact ⟨_, hsnaps, rfl, rfl, by simp [hs, hp], rfl, rfl, rfl⟩

/-- A new snapshot overwrites the oldest of eight where that is not pinned. -/
theorem addSnapshot_overwrites {x n : Snapshot} {l : List Snapshot} (hl : l.length = 7) (hx : x.pinned = false) :
    addSnapshot (l ++ [x]) n = n :: (l ++ [x]).filter (fun y => y.id != x.id) := by
  have hfull : ¬(l ++ [x]).length < 8 := by simp [hl]
  have hfind : (l ++ [x]).reverse.find? (fun y => !y.pinned) = some x := by simp [hx]
  rw [addSnapshot, if_neg hfull, hfind]

/-- The clockless fields of a snapshot. -/
theorem State.snapLate_fields : s.snapLate.length = 32 ∧ u32 s.snapLate 12 = s.evq.prod % 2 ^ 32 := by
  simp only [State.snapLate, List.append_assoc]
  refine ⟨by simp [zeros], ?_⟩
  simp [u32_append_of_le, u32_le]

/-- The newest snapshot latches its clockless fields. -/
theorem exec_snapshotLatchComplete_latches {t : Nat} {y : Snapshot} {l : List Snapshot} (hs : s.halo.snaps = y :: l)
    (hy : y.late = none) : exec (.snapshotLatchComplete t) s = .next { s.advance t with halo := { s.halo with
      snaps := { y with late := some (s.advance t).snapLate, spread := ((s.advance t).now - y.strobe) / 384 } :: l } } := by
  show execSnapshotLatchComplete t s = _
  unfold execSnapshotLatchComplete
  simp only [show (s.advance t).halo.snaps = y :: l from hs, hy, Option.isSome_none, Bool.false_eq_true, if_false]
  rfl

/-- HALO_SNAP_READ of the only snapshot by its id, with release. -/
theorem snapReadBody_releases {y : Snapshot} (h0 : u8 r.cmd.payload 0 = 0) (h1 : u8 r.cmd.payload 1 % 2 = 1)
    (hs : s.halo.snaps = [y]) (hy : y.id = u16 r.cmd.payload 2) : snapReadBody r s = .ok { s with halo := { s.halo with
      snaps := [{ y with pinned := false }] } } y.encode := by
  unfold snapReadBody
  simp [h0, h1, hs, hy]

/-- HALO_SNAP_READ of the only snapshot by its stamp. -/
theorem snapReadBody_byStamp {y : Snapshot} (h0 : u8 r.cmd.payload 0 = 1) (h1 : u8 r.cmd.payload 1 % 2 = 0)
    (hs : s.halo.snaps = [y]) (ha : y.seconds = u32 r.cmd.payload 8) (hb : y.nanos = u32 r.cmd.payload 12) :
    snapReadBody r s = .ok s y.encode := by
  unfold snapReadBody
  simp [h0, h1, hs, ha, hb]

/-- HALO_SNAP_READ with an empty store. -/
theorem snapReadBody_gone (h0 : u8 r.cmd.payload 0 ≤ 1) (hs : s.halo.snaps = []) :
    snapReadBody r s = .status s Status.snapGone := by
  unfold snapReadBody
  simp [h0, hs]

end

/-- Settles O56. -/
theorem haloTriggersAndSnapshots : Obligations.HaloTriggersAndSnapshots := by
  unfold Obligations.HaloTriggersAndSnapshots
  refine ⟨?_, ?_, ?_, ?_, ?_, ?_, ?_, ?_, ?_, ?_, ?_, ?_, ?_, ?_, ?_, ?_, ?_, ?_, ?_, ?_, ?_, ?_, ?_, ?_, ?_, ?_, ?_, ?_, ?_,
    ?_, ?_⟩
  · exact fun s t h hh => if_pos hh
  · intro s t h hh
    refine ⟨_, if_neg (Nat.not_lt.mpr hh), rfl, fun n x hs hr ht => ?_, fun n x hs ht => ?_, rfl, rfl⟩
    · exact State.offer_one (s := s.advance t) 3 _ false hs hr ht
    · exact State.offer_unselected (s := s.advance t) 3 _ false hs ht
  · exact fun s r h h0 h1 => runCommand_effect h (haloTriggerBody_offers h0 (beq_iff_eq.mpr h1) (Or.inl rfl))
  · intro s r h h0 h1 ht hd
    have hbody := haloTriggerBody_offers (b := false) h0 (beq_eq_false_iff_ne.mpr (by omega)) (Or.inr ht)
    rw [State.dueInstant_ahead hd] at hbody
    exact runCommand_effect h hbody
  · exact fun s r h h0 h1 ht => runCommand_status h (haloTriggerBody_timeInvalid h0 h1 ht) (by decide)
  · exact fun s r h h0 => runCommand_status h (if_pos h0) (by decide)
  · intro s r h h0 hlo hhi
    refine runCommand_effect h (if_pos ?_)
    rw [inRange, decide_eq_true h0, decide_eq_true hlo, decide_eq_true hhi]
    rfl
  · intro s r h hbad
    refine runCommand_status h (if_neg ?_) (by decide)
    simp only [inRange, Bool.and_eq_true, decide_eq_true_eq]
    omega
  · intro s t h
    show execTrigOutPulseEnd s = _
    unfold execTrigOutPulseEnd
    rw [h]
    rfl
  · intro s h
    show execTrigOutPulseEnd s = _
    unfold execTrigOutPulseEnd
    rw [h]
  · exact fun s r h h0 h1 h3 h32 ha hs => runCommand_effect h (setMaskBody_loads h0 h1 h3 h32 ha hs)
  · exact fun s r h hbad => runCommand_status h (setMaskBody_badParam hbad) (by decide)
  · exact fun s t n k m g hi lo hm hg hh hl => exec_maskFrameTest_met hm (HaloMask.firstFail_none hg hh hl)
  · intro s t n k m g hi lo hm hg hh ha he hs hk hr
    have hexec := exec_maskFrameTest_fails (t := t) (n := n) (k := k) hm (HaloMask.firstFail_above (lo := lo) hg hh)
    have htest : s.testing n k = true := by simp [State.testing, hs, hk, hr]
    have hdue : (s.advance t).maskEventDue m = true := by simp [State.maskEventDue, ha, he]
    have hacts : ∀ u : State, u.maskActs n (s.halo.slot n) m = u := by
      intro u
      simp [State.maskActs, ha]
    rw [htest, hdue, if_neg (by decide), if_pos rfl, hacts] at hexec
    exact ⟨(s.advance t).maskNoted n m, hexec, rfl, (Tab.find?_set _ _ _ _).trans (if_pos rfl), rfl, rfl⟩
  · intro s t n k m g hi lo a hm hg hh ha he hlt
    have hexec := exec_maskFrameTest_fails (t := t) (n := n) (k := k) hm (HaloMask.firstFail_above (lo := lo) hg hh)
    have hdue : (s.advance t).maskEventDue m = false := by
      have hwait : ¬a + Config.sec ≤ (s.advance t).now := Nat.not_le.mpr hlt
      simp only [State.maskEventDue, he, hwait, decide_false, Bool.and_false]
    have hacts : ∀ u : State, u.maskActs n (s.halo.slot n) m = u := by
      intro u
      simp [State.maskActs, ha]
    rw [hdue, if_neg Bool.false_ne_true, hacts, ite_self] at hexec
    exact hexec
  · intro s t n k m g hi lo hm hg hh ha hs hk hr
    have hexec := exec_maskFrameTest_fails (t := t) (n := n) (k := k) hm (HaloMask.firstFail_above (lo := lo) hg hh)
    have htest : s.testing n k = true := by simp [State.testing, hs, hk, hr]
    have hdue : (s.advance t).maskEventDue m = false := by simp [State.maskEventDue, ha]
    have hacts : ∀ u : State, u.maskActs n (s.halo.slot n) m = u.offer 6 u.now false (fun i _ => i == n.val) := by
      intro u
      simp [State.maskActs, ha]
    rw [htest, hdue, if_neg (by decide), if_neg Bool.false_ne_true, hacts] at hexec
    exact hexec
  · intro s t n k m g hi lo c hm hg hh ha hs hc h6 hk hr
    have hexec := exec_maskFrameTest_fails (t := t) (n := n) (k := k) hm (HaloMask.firstFail_above (lo := lo) hg hh)
    have htest : s.testing n k = true := by simp [State.testing, hs, hk, hr]
    have hdue : (s.advance t).maskEventDue m = false := by simp [State.maskEventDue, ha]
    have hacts : ∀ u : State, u.maskActs n (s.halo.slot n) m =
        (u.setSlot n (fun y => { y with trigger := y.trigger.map (fun q =>
          (q.1, q.2 ||| 0x40)) })).stopSlot n true .frozen 6 0x40 := by
      intro u
      simp [State.maskActs, ha, h6]
    rw [htest, hdue, if_neg (by decide), if_neg Bool.false_ne_true, hacts] at hexec
    have hslot := State.setSlot_same (s := s.advance t) (n := n)
      (f := fun y => { y with trigger := y.trigger.map (fun q => (q.1, q.2 ||| 0x40)) })
    have htrigger : ((s.advance t).halo.slot n).trigger = some c := hc
    obtain ⟨q, hstate, hseg, h5, h6, hsources, hoffers⟩ := State.stopSlot_freezes (t := c.1) (src := c.2 ||| 0x40)
      (s := (s.advance t).setSlot n (fun y => { y with trigger := y.trigger.map (fun q => (q.1, q.2 ||| 0x40)) })) (n := n)
      (by rw [hslot]; exact hs) (by rw [hslot, htrigger]; rfl)
    rw [hslot] at hseg
    exact ⟨_, q, hexec, hstate, hseg, h5, h6, hsources, hoffers⟩
  · exact fun s r h hr hc h0 hp => runCommand_effect h (snapshotBody_standalone hr hc h0 hp)
  · intro s r h hr hc ht h0 hp
    obtain ⟨w, hbody⟩ := snapshotBody_chain hr hc ht h0 hp
    exact ⟨_, w, runCommand_effect h hbody, rfl, rfl, rfl⟩
  · exact fun s r h hc ht hp hs => runCommand_effect h (snapshotBody_relayed hc ht hp hs)
  · exact fun s r h hc h0 ht => runCommand_status h (snapshotBody_timeInvalid hc h0 ht) (by decide)
  · exact fun s r h h0 hp => runCommand_status h (snapshotBody_noResource h0 hp) (by decide)
  · intro s phase x hx hs hp
    obtain ⟨y, hsnaps, hid, horigin, hpin, hstrobe, hlate, hstamp⟩ := State.takeSnapshot_first
      (s := { s.advance x.due with halo := { s.halo with strobes := [] } }) x phase hs hp
    exact ⟨_, y, exec_snapshotStrobe_latches hx hs, rfl, rfl, hsnaps, hid, horigin, hpin, hstrobe, hlate, hstamp, rfl, rfl, rfl⟩
  · exact fun s phase x y hx hs hy => exec_snapshotStrobe_merges hx hs hy
  · intro s phase h
    show execSnapshotStrobe phase s = _
    unfold execSnapshotStrobe
    rw [h]
  · intro x n l hl hx
    rw [addSnapshot_overwrites hl hx]
    refine ⟨?_, by simp⟩
    have hle := List.length_filter_le (fun y : Snapshot => y.id != x.id) l
    simp only [List.filter_append, List.filter_cons, bne_self_eq_false, Bool.false_eq_true, if_false, List.filter_nil,
      List.append_nil, List.length_cons]
    omega
  · intro s t y l hs hy
    obtain ⟨hlen, hprod⟩ := State.snapLate_fields (s := s.advance t)
    exact ⟨_, _, exec_snapshotLatchComplete_latches hs hy, hlen, rfl, rfl, hprod, rfl⟩
  · exact fun s r y h h0 h1 hs hy => runCommand_effect h (snapReadBody_releases h0 h1 hs hy)
  · exact fun s r y h h0 h1 hs ha hb => runCommand_effect h (snapReadBody_byStamp h0 h1 hs ha hb)
  · exact fun s r h h0 hs => runCommand_status h (snapReadBody_gone h0 hs) (by decide)
  · exact fun s r h h0 => runCommand_status h (if_pos h0) (by decide)

end Sys2Proof.Machine
end

section
/-!
PROOFS. Sleep and temperature (family 15).
-/

namespace Sys2Proof.Machine

open Sys2Proof

/-! ### What the preparation of sleep leaves (R472) -/

section
variable {s : State}

/-- Receptions that end leave the fronthaul. -/
theorem State.abortReceptions_fh (cause : Nat) : (s.abortReceptions cause).fh = s.fh := by
  have hframe := congrArg State.fh (s.abortContexts_frame (fun _ => true) cause 0xFF)
  exact hframe

/-- A transition that begins leaves the fronthaul. -/
theorem State.pursue_fh : s.pursue.fh = s.fh := by
  unfold State.pursue
  dsimp only
  split
  · rfl
  · split
    · rfl
    · split
      · split
        · rw [State.abortReceptions_fh]
        · rfl
      · split
        · rw [State.abortReceptions_fh]
        · rfl

/-- No request ends where none is queued. -/
theorem State.endAll_none (sel : Launch → Bool) (outcome cause : Nat) (h : s.tx.queue = []) :
    s.endAll sel outcome cause = s.lingerCheck := by
  rw [State.endAll, h]
  rfl

/-- Leaving TX leaves the fronthaul. -/
theorem State.lingerCheck_fh : s.lingerCheck.fh = s.fh := by
  unfold State.lingerCheck
  dsimp only
  rw [apply_ite State.fh, State.pursue_fh]
  exact ite_self _

/-- A base state that has been taken, before the radio moves. -/
def State.based (s : State) (c : BaseChange) : State :=
  { s with radio := { s.radio with base := c.base, linger := c.linger, pending := none } }

/-- The base state STANDBY with no request queued: the device leaves TX and the radio moves. -/
theorem State.baseTakesEffect_standby {c : BaseChange} (hb : c.base = .standby) (h : s.tx.queue = []) : s.baseTakesEffect c =
    ({ (s.based c).lingerCheck with radio := { (s.based c).lingerCheck.radio with wantTx := false, lingerFrom := none } } :
      State).pursue := by
  have hend := State.endAll_none (s := s.based c) (fun b => !b.phase.radiating) 0x01 0x02 h
  unfold State.baseTakesEffect
  simp only [hb]
  unfold State.based at hend ⊢
  simp only [hb] at hend ⊢
  rw [hend]

/-- The base state STANDBY leaves time, and with no request queued the fronthaul. -/
theorem State.forceStandby_keeps (h : s.tx.queue = []) : s.forceStandby.time = s.time ∧ s.forceStandby.fh = s.fh := by
  unfold State.forceStandby
  dsimp only
  split
  · exact ⟨rfl, rfl⟩
  · rw [State.baseTakesEffect_standby rfl h, (State.pursue_keeps _).2.1, State.pursue_fh]
    obtain ⟨_, _, htime, _⟩ := State.keeps_of_course (State.lingerCheck_course (s := s.based
      { base := .standby, linger := s.radio.linger, due := .atT5, scheduled := false }))
    exact ⟨htime, State.lingerCheck_fh⟩

/-- A port that is down stays as it is. -/
theorem State.dropLink_idle {p : Nat} (cause : Nat) (h : (s.fh.port p).up = false) : s.dropLink p cause = s :=
  if_pos (by rw [h]; rfl)

/-- The preparation of sleep with no request queued and no port up leaves time INVALID. -/
theorem State.prepareSleep_invalid (hq : s.tx.queue = []) (hp : ∀ p : Fin 4, (s.fh.port p).up = false) :
    s.prepareSleep.2.time.state = .invalid := by
  have hqueue : s.loseTime.tx.queue = [] := by
    have htx : s.loseTime.tx = (s.endAll Launch.waiting 0x06 0x51).tx := rfl
    rw [htx, State.endAll_none _ _ _ hq, State.lingerCheck_tx, hq]
  have hfh : s.loseTime.fh = s.fh := by
    have hlost : s.loseTime.fh = (s.endAll Launch.waiting 0x06 0x51).fh := rfl
    rw [hlost, State.endAll_none _ _ _ hq, State.lingerCheck_fh]
  obtain ⟨htime, hports⟩ := State.forceStandby_keeps hqueue
  have hdrop : (List.range 4).foldl (fun s p => s.dropLink p 3) s.loseTime.forceStandby = s.loseTime.forceStandby := by
    refine foldl_fixed_of_mem fun p hp4 => State.dropLink_idle 3 ?_
    rw [hports, hfh]
    exact hp ⟨p, List.mem_range.mp hp4⟩
  have hprepared : s.prepareSleep.2 = s.loseTime.forceStandby.nvOwnWrite .dutyHistory [] :=
    congrArg (fun u : State => u.nvOwnWrite .dutyHistory []) hdrop
  obtain ⟨l, hwrite⟩ := s.loseTime.forceStandby.nvOwnWrite_queue .dutyHistory []
  rw [hprepared, hwrite]
  show s.loseTime.forceStandby.time.state = .invalid
  rw [htime]
  rfl

/-! ### PWR_SLEEP and its refusers (R475, Table PWR-3) -/

variable {r : Running}

/-- The checks of PWR_SLEEP. -/
def State.sleepCheck (s : State) (p : List Byte) : Option Nat :=
  firstFailure
    [(decide (u16 p 2 ≤ 60000) && (!(BitVec.ofNat 3 (u8 p 0)).getLsbD 1 || decide (1 ≤ u32 p 4)), Status.badParam),
      (s.thermal.sleep == .awake && !s.dawn.asleep, Status.busy)]

/-- The bit of the sleep timer in the mask of PWR_SLEEP. -/
theorem wakeMask_timer (v : Nat) : (BitVec.ofNat 3 v).getLsbD 1 = decide (v / 2 % 2 = 1) := by
  rw [BitVec.getLsbD_ofNat, Nat.testBit_eq_decide_div_mod_eq]
  rfl

/-- PWR_SLEEP that no check refuses. -/
theorem State.sleepCheck_ok (hg : u16 r.cmd.payload 2 ≤ 60000) (ht : u8 r.cmd.payload 0 / 2 % 2 = 0 ∨ 1 ≤ u32 r.cmd.payload 4)
    (ha : s.thermal.sleep = .awake) (hd : s.dawn.asleep = false) : s.sleepCheck r.cmd.payload = none := by
  have htimer : (!(BitVec.ofNat 3 (u8 r.cmd.payload 0)).getLsbD 1 || decide (1 ≤ u32 r.cmd.payload 4)) = true := by
    rw [wakeMask_timer]
    rcases ht with h | h
    · simp [h]
    · simp [h]
  simp only [State.sleepCheck, hg, htimer, ha, hd, decide_true, Bool.and_self, beq_self_eq_true, Bool.not_false,
    firstFailure_pass, firstFailure_nil]

/-- PWR_SLEEP out of its ranges. -/
theorem State.sleepCheck_badParam (h : 60000 < u16 r.cmd.payload 2 ∨ (u8 r.cmd.payload 0 / 2 % 2 = 1 ∧ u32 r.cmd.payload 4 = 0)) :
    s.sleepCheck r.cmd.payload = some Status.badParam := by
  have hrange : (decide (u16 r.cmd.payload 2 ≤ 60000) &&
      (!(BitVec.ofNat 3 (u8 r.cmd.payload 0)).getLsbD 1 || decide (1 ≤ u32 r.cmd.payload 4))) = false := by
    rw [wakeMask_timer]
    rcases h with h | ⟨h, h0⟩
    · simp [Nat.not_le.mpr h]
    · simp [h, h0]
  simp only [State.sleepCheck, hrange, firstFailure_fail]

/-- PWR_SLEEP that a check refuses. -/
theorem sleepBody_status {st : Nat} (h : s.sleepCheck r.cmd.payload = some st) : sleepBody r s = .status s st := by
  unfold State.sleepCheck at h
  unfold sleepBody
  simp only [h]

/-- PWR_SLEEP that a refuser refuses. -/
theorem sleepBody_refused {c : Nat} (h : s.sleepCheck r.cmd.payload = none)
    (hr : s.refuser r (u16 r.cmd.payload 2 * Config.ms) = some c) : sleepBody r s =
      { state := s.countRefusal c s.position, reply := ⟨Status.sleepRefused, sleepPayload c s.position⟩ } := by
  unfold State.sleepCheck at h
  unfold sleepBody
  simp only [h, hr]

/-- PWR_SLEEP of a device alone. -/
theorem sleepBody_alone (h : s.sleepCheck r.cmd.payload = none) (hr : s.refuser r (u16 r.cmd.payload 2 * Config.ms) = none)
    (hm : s.role ≠ .manager) (hc : r.cascade = false) : sleepBody r s = .ok
      ((s.armWake (BitVec.ofNat 3 (u8 r.cmd.payload 0)) (u32 r.cmd.payload 4)).prepareSleep.2.beginEntry
        (.preparing (BitVec.ofNat 3 (u8 r.cmd.payload 0)) (u32 r.cmd.payload 4) (s.tx.queue.filter Launch.waiting).length))
      (sleepPayload 0 0xFF) := by
  unfold State.sleepCheck at h
  unfold sleepBody
  simp only [h, hr, hm, hc, false_and, if_false, Bool.false_eq_true]
  rfl

/-- PWR_SLEEP of a chain on its manager. -/
theorem sleepBody_chain (h : s.sleepCheck r.cmd.payload = none) (hr : s.refuser r (u16 r.cmd.payload 2 * Config.ms) = none)
    (hm : s.role = .manager) (ht : r.cmd.target = 0xFFFF) (hw : s.joinedWorkers ≠ []) : sleepBody r s = .ok
      (s.beginEntry (.collecting (BitVec.ofNat 3 (u8 r.cmd.payload 0)) (u32 r.cmd.payload 4) (u16 r.cmd.payload 2)
        s.joinedWorkers s.now)) (sleepPayload 0 0xFF) := by
  unfold State.sleepCheck at h
  unfold sleepBody
  simp only [h, hr, hm, ht, hw, ne_eq, not_false_eq_true, and_self, if_true]

/-- A mailbox of the host that is not idle refuses. -/
theorem State.refuser_mailbox (g : Nat) {n : Fin 4} (hc : r.cascade = false) (hn : n.val ≠ r.mbx)
    (hs : (s.host.mailbox n).state ≠ .idle) : s.refuser r g = some 1 := by
  have hbusy : ((List.range 4).all fun n => (n == r.mbx && !r.cascade) || (s.host.mailbox n).state == .idle) = false := by
    rw [List.all_eq_false]
    refine ⟨n, List.mem_range.mpr n.isLt, ?_⟩
    simp [hn, hs]
  rw [State.refuser, hbusy, firstFailure_fail]

/-- A check that fails where its condition holds. -/
theorem firstFailure_not (b : Bool) (st : Nat) (l : List (Bool × Nat)) :
    firstFailure ((!b, st) :: l) = if b then some st else firstFailure l := by
  cases b <;> rfl

/-- The refusers but the mailboxes, in their order. -/
theorem State.refuser_others (g : Nat)
    (hm : ∀ n : Fin 4, (s.host.mailbox n).state = .idle ∨ (n.val = r.mbx ∧ r.cascade = false)) :
    s.refuser r g = (if s.launchGuard g then some 2
      else if s.dma.any (fun p => p.2.state != .idle) then some 3
      else if s.nv.writer != .idle || !s.nv.queue.isEmpty then some 4
      else if s.workerAwake r then some 5
      else if s.dawn.wakePending != 0#3 || (s.dawn.wakeMask.getLsbD 2 && s.pins.wakeLow) then some 6
      else if s.thermal.sensorOk then none else some 7) := by
  have hidle : ((List.range 4).all fun n => (n == r.mbx && !r.cascade) || (s.host.mailbox n).state == .idle) = true := by
    rw [List.all_eq_true]
    intro n hn
    rcases hm ⟨n, List.mem_range.mp hn⟩ with h | ⟨h, hc⟩
    · simp only [h, beq_self_eq_true, Bool.or_true]
    · have hmbx : n = r.mbx := h
      simp [hmbx, hc]
  have hdma : (s.dma.all fun p => p.2.state == .idle) = !s.dma.any (fun p => p.2.state != .idle) := by
    simp [List.not_any_eq_all_not, bne]
  have hnv : (s.nv.writer == .idle && s.nv.queue.isEmpty) = !(s.nv.writer != .idle || !s.nv.queue.isEmpty) := by
    simp [bne]
  have hwake : (s.dawn.wakePending == 0#3 && !(s.dawn.wakeMask.getLsbD 2 && s.pins.wakeLow)) =
      !(s.dawn.wakePending != 0#3 || (s.dawn.wakeMask.getLsbD 2 && s.pins.wakeLow)) := by
    simp [bne]
  rw [State.refuser, hidle, hdma, hnv, hwake]
  simp only [firstFailure_pass, firstFailure_not]
  rfl

end

/-! ### The grant, refusals in sleep entry and the chain (R472, R473, R476) -/

section
variable {s : State}

/-- A record in the ring leaves Dawn. -/
theorem State.writeRecord_dawn (e : EvRec) : (s.writeRecord e).dawn = s.dawn := by
  unfold State.writeRecord State.writeProducer State.ringNotify
  dsimp only
  split
  · simp
  · split <;> simp

/-- An event taken from the store leaves Dawn. -/
theorem State.ringTake_dawn (e : EvRec) : (s.ringTake e).dawn = s.dawn := by
  unfold State.ringTake
  split <;> split <;> simp [State.writeRecord_dawn]

/-- A turn of the ring leaves Dawn. -/
theorem State.ringTurn_dawn : s.ringTurn.dawn = s.dawn := by
  unfold State.ringTurn
  split
  · rfl
  · split
    · rfl
    · dsimp only
      split <;> simp [State.takeOverflow, State.ringTake_dawn, State.writeRecord_dawn]

/-- Writing the held events leaves Dawn. -/
theorem State.flushEvents_dawn : s.flushEvents.dawn = s.dawn := by
  have hturns : ∀ (n : Nat) (u : State), (State.ringTurns n u).dawn = u.dawn := by
    intro n
    induction n with
    | zero => exact fun _ => rfl
    | succ n ih => exact fun u => (ih u.ringTurn).trans State.ringTurn_dawn
  exact hturns _ s

/-- EV_PWR_SLEEP has been written. -/
def State.sleepTold (s : State) (m : BitVec 3) (ticks ended : Nat) : State :=
  (s.raiseEvent 0x0D01 .notice (le 1 m.toNat ++ zeros 1 ++ leSat 2 ended ++ le 4 (if m.getLsbD 1 then ticks else 0) ++
    zeros 8)).flushEvents

/-- EV_PWR_SLEEP leaves Dawn. -/
theorem State.sleepTold_dawn (m : BitVec 3) (ticks ended : Nat) : (s.sleepTold m ticks ended).dawn = s.dawn := by
  rw [State.sleepTold, State.flushEvents_dawn]
  simp only [State.raiseEvent_keeps]

/-- SLEEP_REQUEST once the radio rests and nothing waits for the non-volatile memory. -/
theorem exec_sleepRequest_asks {t ticks ended : Nat} {m : BitVec 3} (hp : s.thermal.sleep = .preparing m ticks ended)
    (hr : s.radio.state = .standby) (hm : s.radio.moving = none) (hd : s.dawn.dropAt = none) (hq : s.nv.queue = []) :
    exec (.sleepRequest t) s = (match s.dawn.entryWake with
      | some src => .next (((s.advance t).sleepTold m ticks ended).leaveEntry 8 src.code)
      | none => .next { (s.advance t).sleepTold m ticks ended with dawn := { ((s.advance t).sleepTold m ticks ended).dawn with
          grantAt := some ((s.advance t).sleepTold m ticks ended).now, slept := false, sleptTicks := 0
          dropAt := some (((s.advance t).sleepTold m ticks ended).now + 10 * Config.us) } }) := by
  have hpreparing : (s.advance t).thermal.sleep = .preparing m ticks ended := hp
  have hdawn : ((s.advance t).sleepTold m ticks ended).dawn.entryWake = s.dawn.entryWake :=
    congrArg Dawn.entryWake (State.sleepTold_dawn m ticks ended)
  have hready : ¬((s.advance t).radio.state ≠ .standby ∨ (s.advance t).radio.moving.isSome ∨
      (s.advance t).dawn.dropAt.isSome ∨ (s.advance t).nv.queue ≠ []) := by
    rw [show (s.advance t).radio.state = .standby from hr, show (s.advance t).radio.moving = none from hm,
      show (s.advance t).dawn.dropAt = none from hd, show (s.advance t).nv.queue = [] from hq]
    simp
  show execSleepRequest t s = _
  unfold execSleepRequest
  simp only [hpreparing]
  refine (if_neg hready).trans ?_
  rw [← hdawn]
  rfl

/-- SLEEP_REQUEST before the radio rests in STANDBY. -/
theorem exec_sleepRequest_early {t : Nat} (hr : s.radio.state ≠ .standby) : exec (.sleepRequest t) s = .next (s.advance t) := by
  show execSleepRequest t s = _
  unfold execSleepRequest
  dsimp only
  split
  · exact if_pos (Or.inl hr)
  · rfl

/-- Entry that is left, before its event. -/
def State.entryLeft (s : State) (c : Nat) : State :=
  { s.countRefusal c s.position with
    thermal := { s.thermal with sleep := .awake }, dawn := { (s.countRefusal c s.position).dawn with entryWake := none } }

/-- SLEEP_PWR_EN_DROP. -/
theorem exec_sleepPwrEnDrop_drops {t : Nat} (h : s.dawn.dropAt = some t) :
    exec .sleepPwrEnDrop s = .next ((s.advance t).powerDown true) := by
  show execSleepPwrEnDrop s = _
  unfold execSleepPwrEnDrop
  rw [h]

/-- The reports that are missing after one has come. -/
theorem exec_sleepReadyReport_collects {t ticks guard since : Nat} {m : BitVec 3} {p : Fin 16} {ws : List Nat}
    (h : s.thermal.sleep = .collecting m ticks guard ws since) : exec (.sleepReadyReport t p) s =
      .next (if (s.unreported (ws.filter (fun q => q != p.val))).isEmpty then (s.advance t).chainGo m ticks
        else { s.advance t with thermal := { s.thermal with
          sleep := .collecting m ticks guard (s.unreported (ws.filter (fun q => q != p.val))) since } }) := by
  have hcollecting : (s.advance t).thermal.sleep = .collecting m ticks guard ws since := h
  show execSleepReadyReport t p s = _
  unfold execSleepReadyReport
  simp only [hcollecting]
  exact (apply_ite Host.Outcome.next ((s.unreported (ws.filter (fun q => q != p.val))).isEmpty = true) _ _).symm

/-- A joined worker that has not reported. -/
theorem State.unreported_one {q : Nat} (h : (s.lcl.pos q).state = .joined) : s.unreported [q] = [q] := by
  simp [State.unreported, h]

/-- Messages leave the commands in execution, Dawn and the thermal unit. -/
theorem State.messages_dawn (ps : List Nat) (kind : Nat) (body : List Byte) : (s.messages ps kind body).dawn = s.dawn ∧
    (s.messages ps kind body).cmd = s.cmd ∧ (s.messages ps kind body).now = s.now ∧
    (s.messages ps kind body).thermal = s.thermal := by
  unfold State.messages
  induction ps generalizing s with
  | nil => exact ⟨rfl, rfl, rfl, rfl⟩
  | cons p ps ih => exact ih

/-- The manager's entry for its chain, abandoned. -/
def State.chainAbandoned (s : State) (pos : Nat) : State :=
  { (s.countRefusal 5 pos).messages s.joinedWorkers 5 (le 1 19) with
    thermal := { ((s.countRefusal 5 pos).messages s.joinedWorkers 5 (le 1 19)).thermal with sleep := .awake }
    dawn := { ((s.countRefusal 5 pos).messages s.joinedWorkers 5 (le 1 19)).dawn with entryWake := none } }

/-- SLEEP_REPORT_TIMEOUT with one worker missing and no command to answer. -/
theorem exec_sleepReportTimeout_abandons {ticks guard since q : Nat} {m : BitVec 3}
    (h : s.thermal.sleep = .collecting m ticks guard [q] since) (hj : (s.lcl.pos q).state = .joined) (hc : s.cmd.running = []) :
    exec .sleepReportTimeout s = .next ((s.advance (since + 100 * Config.ms)).chainAbandoned q) := by
  have hmissing : (s.advance (since + 100 * Config.ms)).unreported [q] = [q] := State.unreported_one hj
  have hnone : ((s.advance (since + 100 * Config.ms)).chainAbandoned q).answerChainSleep
      ⟨Status.partialDone, sleepPayload 5 q⟩ = (s.advance (since + 100 * Config.ms)).chainAbandoned q := by
    have hrunning : ((s.advance (since + 100 * Config.ms)).chainAbandoned q).cmd.running = [] := by
      rw [State.chainAbandoned, (State.messages_dawn _ _ _).2.1]
      exact hc
    rw [State.answerChainSleep, hrunning]
    rfl
  show execSleepReportTimeout s = _
  unfold execSleepReportTimeout
  simp only [h, hmissing]
  refine (if_neg (by simp)).trans ?_
  rw [← hnone, List.foldl_cons, List.foldl_nil, show Nat.max 0 q = q from Nat.max_eq_right (Nat.zero_le q)]
  rfl

/-- SLEEP_GO, SLEEP_ABANDON and WORKER_SLEEP_TIMEOUT of a prepared worker. -/
theorem exec_sleepGo_prepared {t ticks ended since : Nat} {m : BitVec 3} (h : s.thermal.sleep = .prepared m ticks ended since) :
    exec (.sleepGo t) s = .next { s.advance t with thermal := { s.thermal with sleep := .preparing m ticks ended } } ∧
    exec (.sleepAbandon t) s = .next ((s.advance t).leaveEntry 5 0) ∧
    exec .workerSleepTimeout s = .next ((s.advance (since + 200 * Config.ms)).leaveEntry 5 0) := by
  have hprepared : (s.advance t).thermal.sleep = .prepared m ticks ended since := h
  refine ⟨?_, ?_, ?_⟩
  · show execSleepGo t s = _
    unfold execSleepGo
    simp only [hprepared]
    rfl
  · show execSleepAbandon t s = _
    unfold execSleepAbandon
    simp only [hprepared]
  · show execWorkerSleepTimeout s = _
    unfold execWorkerSleepTimeout
    simp only [h]

/-- The same of a device that is awake. -/
theorem exec_sleepGo_awake {t : Nat} (h : s.thermal.sleep = .awake) : exec (.sleepGo t) s = .next (s.advance t) ∧
    exec (.sleepAbandon t) s = .next (s.advance t) ∧ exec .workerSleepTimeout s = .next s ∧
    exec .sleepReportTimeout s = .next s := by
  have hawake : (s.advance t).thermal.sleep = .awake := h
  refine ⟨?_, ?_, ?_, ?_⟩
  · show execSleepGo t s = _
    unfold execSleepGo
    simp only [hawake]
  · show execSleepAbandon t s = _
    unfold execSleepAbandon
    simp only [hawake]
  · show execWorkerSleepTimeout s = _
    unfold execWorkerSleepTimeout
    simp only [h]
  · show execSleepReportTimeout s = _
    unfold execSleepReportTimeout
    simp only [h]

end

/-! ### Temperature (R478 to R482) -/

section
variable {h : Thermal} {tj : Int} {t : Nat} {s : State}

/-- A condition that is set below its clear threshold and clear above its set threshold. -/
theorem condNext_eq (on set clear : Bool) : condNext on set clear = if on then !clear else set := rfl

/-- The counters and the history of a sample. -/
theorem Thermal.sample_counts : (h.sample tj t).history = (h.tj :: h.history).take 1000 ∧ (h.sample tj t).tj = tj ∧
    (h.sample tj t).tjMax = max h.tjMax tj ∧ (h.sample tj t).tripDue = h.tripDue ∧ (h.sample tj t).trips = h.trips := by
  refine ⟨rfl, rfl, ?_, rfl, rfl⟩
  show (if h.tjMax < tj then tj else h.tjMax) = max h.tjMax tj
  split
  · next hlt => exact (max_eq_right (Int.le_of_lt hlt)).symm
  · next hle => exact (max_eq_left (Int.not_lt.mp hle)).symm

/-- The conditions of the temperature itself. -/
theorem Thermal.sample_conditions :
    (h.sample tj t).warn = (if h.warn = true then decide (9800 ≤ tj) else decide (10000 ≤ tj)) ∧
    (h.sample tj t).throttle = (if h.throttle = true then decide (10300 ≤ tj) else decide (10600 ≤ tj)) ∧
    (h.sample tj t).trip = (if h.trip = true then decide (10800 ≤ tj ∨ h.belowTrip < 999) else decide (11200 ≤ tj)) := by
  have hwarn : (h.sample tj t).warn = if h.warn then !decide (tj < 9800) else decide (10000 ≤ tj) := rfl
  have hthrottle : (h.sample tj t).throttle = if h.throttle then !decide (tj < 10300) else decide (10600 ≤ tj) := rfl
  have htrip : (h.sample tj t).trip = if h.trip then !decide (1000 ≤ if tj < 10800 then h.belowTrip + 1 else 0)
      else decide (11200 ≤ tj) := rfl
  refine ⟨?_, ?_, ?_⟩
  · rw [hwarn, ← decide_not, decide_eq_decide.mpr Int.not_lt]
  · rw [hthrottle, ← decide_not, decide_eq_decide.mpr Int.not_lt]
  · have hbelow : (¬1000 ≤ if tj < 10800 then h.belowTrip + 1 else 0) ↔ 10800 ≤ tj ∨ h.belowTrip < 999 := by
      split <;> omega
    rw [htrip, ← decide_not, decide_eq_decide.mpr hbelow]

/-- The rate of rise that a sample leaves. -/
theorem Thermal.sample_rate : (h.sample tj t).rate = (match h.history[998]? with | some v => tj - v | none => 0) := by
  have hrate : (h.sample tj t).rate = (match ((h.tj :: h.history).take 1000)[999]? with | some v => tj - v | none => 0) := rfl
  rw [hrate, List.getElem?_take_of_lt (by decide)]
  rfl

/-- The conditions of the rate of rise. -/
theorem Thermal.sample_rateConditions {q : Int} (hq : (h.sample tj t).rate = q) :
    (h.sample tj t).rateWarn = (if h.rateWarn = true then decide (200 < q ∨ h.underTwo < 3999)
      else decide (200 < q ∧ 3999 ≤ h.overTwo)) ∧
    (h.sample tj t).rateTrip = (if h.rateTrip = true then decide (200 < q ∨ h.underTwo < 3999) || (h.sample tj t).trip
      else decide (600 < q ∧ 999 ≤ h.overSix)) := by
  have hwarn : (h.sample tj t).rateWarn = if h.rateWarn then
      !decide (4000 ≤ if (h.sample tj t).rate ≤ 200 then h.underTwo + 1 else 0)
      else decide (4000 ≤ if 200 < (h.sample tj t).rate then h.overTwo + 1 else 0) := rfl
  have htrip : (h.sample tj t).rateTrip = if h.rateTrip then
      !(decide (4000 ≤ if (h.sample tj t).rate ≤ 200 then h.underTwo + 1 else 0) && !(h.sample tj t).trip)
      else decide (1000 ≤ if 600 < (h.sample tj t).rate then h.overSix + 1 else 0) := rfl
  have hunder : (¬4000 ≤ if q ≤ 200 then h.underTwo + 1 else 0) ↔ 200 < q ∨ h.underTwo < 3999 := by
    split <;> omega
  have htwo : (4000 ≤ if 200 < q then h.overTwo + 1 else 0) ↔ 200 < q ∧ 3999 ≤ h.overTwo := by
    split <;> omega
  have hsix : (1000 ≤ if 600 < q then h.overSix + 1 else 0) ↔ 600 < q ∧ 999 ≤ h.overSix := by
    split <;> omega
  rw [hq] at hwarn htrip
  rw [hwarn, htrip, Bool.not_and, Bool.not_not, ← decide_not, decide_eq_decide.mpr hunder, decide_eq_decide.mpr htwo,
    decide_eq_decide.mpr hsix]
  exact ⟨rfl, rfl⟩

end

/-! ### A sample of the temperature (R478, R480, R481) -/

section
variable {s : State} {tj : Int}

/-- The device when the next sample is taken. -/
def State.sampling (s : State) : State := s.advance (s.thermal.sampledAt + Config.ms)

/-- The thermal unit after a good reading, with the trip that it starts. -/
def State.sampled (s : State) (tj : Int) : Thermal :=
  let h := s.thermal.sample tj s.sampling.now
  let tripped := (h.trip || h.rateTrip) && !(s.thermal.trip || s.thermal.rateTrip)
  { h with tripDue := h.tripDue || tripped, trips := if tripped then satAdd 16 h.trips 1 else h.trips }

/-- EV_PWR_THERMAL for each condition that changes. -/
def State.thermalEvents (s : State) (was now : List Bool) : State :=
  (List.range 5).foldl (fun u k => if now.getD k false != was.getD k false then u.thermalEvent k (now.getD k false) else u) s

/-- A sample of a device whose boot is past the ROM, with no shutdown. -/
theorem exec_thermalSample_judges (ok : Bool) (hb : 1 < s.boot.stage) (hd : s.dawn.shutdownAt = none) :
    exec (.thermalSample tj ok) s = (if !s.thermal.plausible tj ok || decide (12000 ≤ tj) then
      .next (({ s.sampling with thermal := { s.thermal with sampledAt := s.sampling.now } } : State).shutdown
        (!s.thermal.plausible tj ok))
      else
        let u := ({ s.sampling with thermal := s.sampled tj } : State).thermalEvents s.thermal.conditions
          (s.thermal.sample tj s.sampling.now).conditions
        if u.spare.recordDue && u.nvTempOk then
          .next (({ u with spare := { u.spare with recordDue := false } } : State).nvEnqueue { record := .serviceRecord })
        else .next u) :=
  if_neg (by simp [hd, Nat.not_le.mpr hb])

/-- A sample before the boot or in a shutdown. -/
theorem exec_thermalSample_ignored (ok : Bool) (h : s.boot.stage ≤ 1 ∨ s.dawn.shutdownAt.isSome = true) :
    exec (.thermalSample tj ok) s = .next s := if_pos h

/-- A sample of a good reading below the limit of the hardware, with no service record that waits. -/
theorem exec_thermalSample_good (hb : 1 < s.boot.stage) (hd : s.dawn.shutdownAt = none) (hp : s.thermal.plausible tj true = true)
    (hlt : tj < 12000) (hr : s.spare.recordDue = false)
    (hk : (({ s.sampling with thermal := s.sampled tj } : State).thermalEvents s.thermal.conditions
      (s.thermal.sample tj s.sampling.now).conditions).spare = s.spare) : exec (.thermalSample tj true) s = .next
      (({ s.sampling with thermal := s.sampled tj } : State).thermalEvents s.thermal.conditions
        (s.thermal.sample tj s.sampling.now).conditions) := by
  have hgood : (!s.thermal.plausible tj true || decide (12000 ≤ tj)) = false := by
    rw [hp, decide_eq_false (Int.not_le.mpr hlt)]
    rfl
  rw [exec_thermalSample_judges true hb hd, hgood, if_neg Bool.false_ne_true]
  refine if_neg ?_
  rw [hk, hr]
  exact Bool.false_ne_true

/-- A good reading with less than 1,000 samples before it and no condition of the rate. -/
theorem Thermal.sample_young {h : Thermal} {t : Nat} (hl : h.history.length < 999) (hw : h.rateWarn = false)
    (ht : h.rateTrip = false) : (h.sample tj t).rate = 0 ∧ (h.sample tj t).rateWarn = false ∧
      (h.sample tj t).rateTrip = false := by
  have hrate : (h.sample tj t).rate = 0 := by
    rw [Thermal.sample_rate, List.getElem?_eq_none (by omega)]
  obtain ⟨hwarn, htrip⟩ := Thermal.sample_rateConditions hrate
  refine ⟨hrate, ?_, ?_⟩
  · rw [hwarn, hw]
    rfl
  · rw [htrip, ht]
    rfl

/-- The five conditions of a unit, one by one. -/
theorem Thermal.conditions_eq {h : Thermal} {a b c d e : Bool} (hc : h.conditions = [a, b, c, d, e]) :
    h.warn = a ∧ h.throttle = b ∧ h.trip = c ∧ h.rateWarn = d ∧ h.rateTrip = e := by
  simpa [Thermal.conditions] using hc

/-- The conditions of a sample below the first threshold. -/
theorem Thermal.sample_cold {h : Thermal} {t : Nat} (hc : h.conditions = [false, false, false, false, false])
    (hl : h.history.length < 999) (htj : tj < 10000) :
    (h.sample tj t).conditions = [false, false, false, false, false] := by
  obtain ⟨hw, hth, htr, hrw, hrt⟩ := Thermal.conditions_eq hc
  obtain ⟨_, hrateWarn, hrateTrip⟩ := Thermal.sample_young (tj := tj) (t := t) hl hrw hrt
  obtain ⟨hwarn, hthrottle, htrip⟩ := Thermal.sample_conditions (h := h) (tj := tj) (t := t)
  rw [Thermal.conditions, hrateWarn, hrateTrip, hwarn, hthrottle, htrip, hw, hth, htr]
  have h1 : ¬10000 ≤ tj := by omega
  have h2 : ¬10600 ≤ tj := by omega
  have h3 : ¬11200 ≤ tj := by omega
  simp [h1, h2, h3]

/-- The conditions of a sample between the first and the second threshold. -/
theorem Thermal.sample_warm {h : Thermal} {t : Nat} (hc : h.conditions = [false, false, false, false, false])
    (hl : h.history.length < 999) (hlo : 10000 ≤ tj) (hhi : tj < 10600) :
    (h.sample tj t).conditions = [true, false, false, false, false] := by
  obtain ⟨hw, hth, htr, hrw, hrt⟩ := Thermal.conditions_eq hc
  obtain ⟨_, hrateWarn, hrateTrip⟩ := Thermal.sample_young (tj := tj) (t := t) hl hrw hrt
  obtain ⟨hwarn, hthrottle, htrip⟩ := Thermal.sample_conditions (h := h) (tj := tj) (t := t)
  rw [Thermal.conditions, hrateWarn, hrateTrip, hwarn, hthrottle, htrip, hw, hth, htr]
  have h2 : ¬10600 ≤ tj := by omega
  have h3 : ¬11200 ≤ tj := by omega
  simp [hlo, h2, h3]

/-- The conditions of a sample at the trip. -/
theorem Thermal.sample_hot {h : Thermal} {t : Nat} (hc : h.conditions = [true, true, false, false, false])
    (hl : h.history.length < 999) (hlo : 11200 ≤ tj) : (h.sample tj t).conditions = [true, true, true, false, false] := by
  obtain ⟨hw, hth, htr, hrw, hrt⟩ := Thermal.conditions_eq hc
  obtain ⟨_, hrateWarn, hrateTrip⟩ := Thermal.sample_young (tj := tj) (t := t) hl hrw hrt
  obtain ⟨hwarn, hthrottle, htrip⟩ := Thermal.sample_conditions (h := h) (tj := tj) (t := t)
  rw [Thermal.conditions, hrateWarn, hrateTrip, hwarn, hthrottle, htrip, hw, hth, htr]
  have h1 : 9800 ≤ tj := by omega
  have h2 : 10300 ≤ tj := by omega
  simp [h1, h2, hlo]

/-- What a good reading leaves of a unit without a trip. -/
theorem State.sampled_fields {a b c d e : Bool} (hc : (s.thermal.sample tj s.sampling.now).conditions = [a, b, c, d, e])
    (hw : (s.thermal.trip || s.thermal.rateTrip) = false) : (s.sampled tj).conditions = [a, b, c, d, e] ∧
    (s.sampled tj).tj = tj ∧ (s.sampled tj).tripDue = (s.thermal.tripDue || (c || e)) ∧
    (s.sampled tj).trips = (if c || e then min (s.thermal.trips + 1) 65535 else s.thermal.trips) ∧
    (s.sampled tj).rate = (s.thermal.sample tj s.sampling.now).rate := by
  obtain ⟨_, _, htrip, _, hrate⟩ := Thermal.conditions_eq hc
  refine ⟨hc, rfl, ?_, ?_, rfl⟩
  · simp only [State.sampled, htrip, hrate, hw, Bool.not_false, Bool.and_true]
    rfl
  · simp only [State.sampled, htrip, hrate, hw, Bool.not_false, Bool.and_true]
    rfl

/-- No condition changes. -/
theorem State.thermalEvents_none (l : List Bool) : s.thermalEvents l l = s := by
  unfold State.thermalEvents
  exact foldl_fixed_of_mem fun k _ => if_neg (by simp)

/-- A reading that is not plausible. -/
theorem Thermal.plausible_false {h : Thermal} {ok : Bool} (hbad : ok = false ∨ tj < -6000 ∨ 15000 < tj ∨ 1000 < tj - h.tj ∨
    1000 < h.tj - tj) : h.plausible tj ok = false := by
  unfold Thermal.plausible inRangeZ
  simp only [Bool.and_eq_false_iff, decide_eq_false_iff_not]
  rcases hbad with h | h | h | h
  · exact Or.inl (Or.inl h)
  · exact Or.inl (Or.inr (Or.inl (by omega)))
  · exact Or.inl (Or.inr (Or.inr (by omega)))
  · exact Or.inr (by omega)

end

/-! ### VDD_CORE and the responses (R465, R485, R486) -/

section
variable {s : State}

/-- The voltages that can be recommended. -/
def vcoreSteps : List Nat := (List.range 16).map (fun k => 700 + 10 * k)

/-- The steps of the recommended voltage. -/
theorem mem_vcoreSteps {v : Nat} : v ∈ vcoreSteps ↔ 700 ≤ v ∧ v ≤ 850 ∧ v % 10 = 0 := by
  rw [vcoreSteps, List.mem_map]
  constructor
  · rintro ⟨k, hk, rfl⟩
    have := List.mem_range.mp hk
    omega
  · rintro ⟨hlo, hhi, hten⟩
    exact ⟨(v - 700) / 10, List.mem_range.mpr (by omega), by omega⟩

/-- The voltages rise. -/
theorem vcoreSteps_rising : vcoreSteps.Pairwise (· < ·) := by decide

/-- The recommended VDD_CORE is the lowest step that reaches the speed, or the highest step. -/
theorem vcoreFor_lowest (n : Nat) : vcoreFor n ∈ vcoreSteps ∧
    (vcoreFor n = 850 ∨ 740 ≤ Config.projectedSpeed n 110 (vcoreFor n)) ∧
    ∀ k ∈ vcoreSteps, k < vcoreFor n → ¬740 ≤ Config.projectedSpeed n 110 k := by
  have hdef : vcoreFor n = (vcoreSteps.find? (fun mv => decide (740 ≤ Config.projectedSpeed n 110 mv))).getD 850 := rfl
  cases hf : vcoreSteps.find? (fun mv => decide (740 ≤ Config.projectedSpeed n 110 mv)) with
  | none =>
    rw [hf] at hdef
    rw [hdef]
    refine ⟨by decide, Or.inl rfl, fun k hk _ => ?_⟩
    simpa using List.find?_eq_none.mp hf k hk
  | some v =>
    rw [hf] at hdef
    rw [hdef]
    obtain ⟨hspeed, before, after, hsplit, hslow⟩ := List.find?_eq_some_iff_append.mp hf
    refine ⟨List.mem_of_find?_eq_some hf, Or.inr (by simpa using hspeed), fun k hk hlt => ?_⟩
    have hrising : (before ++ v :: after).Pairwise (· < ·) := hsplit ▸ vcoreSteps_rising
    have hafter := (List.pairwise_cons.mp (List.pairwise_append.mp hrising).2.1).1
    rw [hsplit, List.mem_append, List.mem_cons] at hk
    rcases hk with hk | rfl | hk
    · simpa using hslow k hk
    · exact absurd hlt (Nat.lt_irrefl _)
    · exact absurd hlt (Nat.lt_asymm (hafter k hk))

/-- A signed 16-bit field past the first field. -/
theorem s16_append_of_le {l : List Byte} (p : List Byte) {o : Nat} (h : l.length ≤ o) : s16 (l ++ p) o = s16 p (o - l.length) :=
  congrArg (signed 16) (u16_append_of_le p h)

/-- A signed 16-bit field at the front. -/
theorem s16_leS_front (v : Int) (p : List Byte) : s16 (leS 2 v ++ p) 0 = s16 (leS 2 v) 0 := rfl

/-- The layout of PWR_GET_STATUS. -/
theorem State.pwrStatus_fields : s.pwrStatus.length = 16 ∧ u8 s.pwrStatus 0 = (if s.radio.state = .standby then 3 else 4) ∧
    s16 s.pwrStatus 2 = s16 (leS 2 s.thermal.tj) 0 ∧ u16 s.pwrStatus 8 = s.thermal.vcoreMv % 65536 ∧
    u8 s.pwrStatus 10 = s.thermal.band % 256 ∧ u8 s.pwrStatus 11 = s.dawn.wakePending.toNat ∧
    u16 s.pwrStatus 12 = s.thermal.trips % 65536 := by
  have hwake := s.dawn.wakePending.isLt
  simp only [State.pwrStatus, List.append_assoc]
  refine ⟨by simp [zeros], ?_, ?_, ?_, ?_, ?_, ?_⟩
  · split <;> rfl
  · simp [s16_append_of_le, s16_leS_front]
  · simp [u16_append_of_le, u16_le]
  · simp [u8_append_of_le, u8_le]
  · simp [u8_append_of_le, u8_le]
    omega
  · simp [u16_append_of_le, u16_le]

/-- The layout of PWR_GET_WAKE. -/
theorem State.wakeRecord_fields : s.wakeRecord.length = 80 ∧ u8 s.wakeRecord 0 = s.dawn.bootCause.toNat ∧
    u8 s.wakeRecord 1 = s.dawn.sourcesSeen.toNat ∧ u8 s.wakeRecord 2 = s.dawn.prior.toNat ∧
    u8 s.wakeRecord 3 = s.dawn.wakeMask.toNat ∧ u32 s.wakeRecord 4 = s.dawn.sleptTicks % 2 ^ 32 ∧
    u32 s.wakeRecord 8 = s.dawnCount % 2 ^ 32 ∧ u16 s.wakeRecord 12 = s.dawn.refusals % 65536 ∧
    (∀ e ∈ s.dawn.log.head?, u8 s.wakeRecord 16 = e.code % 256 ∧ u8 s.wakeRecord 17 = e.position % 256 ∧
      u32 s.wakeRecord 20 = e.ticks % 2 ^ 32) := by
  have hentry : ∀ k, (refusalBytes s.dawn.log k).length = 8 := by
    intro k
    unfold refusalBytes
    split
    · simp [zeros]
    · exact List.length_replicate
  have hlog : (List.range 8).flatMap (refusalBytes s.dawn.log) = refusalBytes s.dawn.log 0 ++
      [1, 2, 3, 4, 5, 6, 7].flatMap (refusalBytes s.dawn.log) := rfl
  have hcause := s.dawn.bootCause.isLt
  have hsources := s.dawn.sourcesSeen.isLt
  have hprior := s.dawn.prior.isLt
  have hmask := s.dawn.wakeMask.isLt
  refine ⟨?_, ?_, ?_, ?_, ?_, ?_, ?_, ?_, fun e he => ?_⟩
  · rw [State.wakeRecord, List.length_append, length_flatMap_of_forall hentry]
    simp [zeros]
  · exact (u8_le _ _).trans (Nat.mod_eq_of_lt hcause)
  · simp only [State.wakeRecord, List.append_assoc]
    simp [u8_append_of_le, u8_le]
    omega
  · simp only [State.wakeRecord, List.append_assoc]
    simp [u8_append_of_le, u8_le]
    omega
  · simp only [State.wakeRecord, List.append_assoc]
    simp [u8_append_of_le, u8_le]
    omega
  · simp only [State.wakeRecord, List.append_assoc]
    simp [u32_append_of_le, u32_le]
  · simp only [State.wakeRecord, List.append_assoc]
    simp [u32_append_of_le, u32_le]
  · simp only [State.wakeRecord, List.append_assoc]
    simp [u16_append_of_le, u16_le]
  · have hfirst : refusalBytes s.dawn.log 0 = le 1 e.code ++ le 1 e.position ++ zeros 2 ++ le 4 e.ticks := by
      rw [refusalBytes, ← List.head?_eq_getElem?, Option.mem_def.mp he]
    simp only [State.wakeRecord, hlog, hfirst, List.append_assoc]
    simp [u8_append_of_le, u32_append_of_le, u8_le, u32_le]

end

/-- Settles O58. -/
theorem sleepAndTemperature : Obligations.SleepAndTemperature := by
  unfold Obligations.SleepAndTemperature
  refine ⟨?_, ?_, ?_, ?_, ?_, ?_, ?_, ?_, ?_, ?_, ?_, ?_, ?_, ?_, ?_, ?_, ?_, ?_, ?_, ?_, ?_, ?_, ?_, ?_, ?_, ?_, ?_, ?_, ?_, ?_,
    ?_, ?_, ?_, ?_, ?_, ?_, ?_, ?_, ?_, ?_⟩
  · intro s r h hm hc hg ht ha hd hr
    exact runCommand_effect h (sleepBody_alone (State.sleepCheck_ok hg ht ha hd) hr hm hc)
  · exact fun s m n => ⟨rfl, rfl⟩
  · exact fun s hq hp => State.prepareSleep_invalid hq hp
  · intro s r c h hg ht ha hd hr
    have hexec : exec .pwrSleep s = _ :=
      runCommand_effect h (sleepBody_refused (State.sleepCheck_ok hg ht ha hd) hr)
    rw [hexec]
    exact congrArg Host.Outcome.next (close_failed (show Status.sleepRefused ≠ Status.ok by decide) rfl)
  · exact fun s r h hbad => runCommand_status h (sleepBody_status (State.sleepCheck_badParam hbad)) (by decide)
  · exact fun s c p => ⟨rfl, rfl⟩
  · exact fun s r g n hc hn hs => State.refuser_mailbox g hc hn hs
  · exact fun s r g hm => State.refuser_others g hm
  · intro s r h hm ht hw hg htimer ha hd hr
    exact runCommand_effect h (sleepBody_chain (State.sleepCheck_ok hg htimer ha hd) hr hm ht hw)
  · intro s t ticks ended m hp hr hm hd hq he
    have hexec := exec_sleepRequest_asks (t := t) hp hr hm hd hq
    rw [he] at hexec
    exact ⟨_, rfl, hexec⟩
  · intro s t ticks ended m src hp hr hm hd hq he
    have hexec := exec_sleepRequest_asks (t := t) hp hr hm hd hq
    rw [he] at hexec
    exact hexec
  · exact fun s c x => ⟨s.entryLeft c, rfl, rfl, rfl, rfl, rfl⟩
  · exact fun s t hr => exec_sleepRequest_early hr
  · intro s t h
    exact ⟨_, exec_sleepPwrEnDrop_drops h, rfl, rfl, rfl, rfl, rfl, rfl, rfl, rfl, rfl, rfl, rfl, rfl⟩
  · intro s h
    show execSleepPwrEnDrop s = _
    unfold execSleepPwrEnDrop
    rw [h]
  · intro s t ticks guard since m p h
    have hexec := exec_sleepReadyReport_collects (t := t) (p := p) h
    rw [if_pos (by simp [State.unreported])] at hexec
    exact hexec
  · intro s t ticks guard since q m p h hq hj
    have hexec := exec_sleepReadyReport_collects (t := t) (p := p) h
    have hleft : [p.val, q].filter (fun x => x != p.val) = [q] := by simp [hq]
    rw [hleft, State.unreported_one hj] at hexec
    exact hexec
  · exact fun s m ticks => ⟨_, rfl⟩
  · intro s ticks guard since q m h hj hc
    obtain ⟨hdawn, _, hnow, _⟩ := State.messages_dawn (s := (s.advance (since + 100 * Config.ms)).countRefusal 5 q)
      (s.advance (since + 100 * Config.ms)).joinedWorkers 5 (le 1 19)
    refine ⟨_, exec_sleepReportTimeout_abandons h hj hc, hnow, rfl, ?_, ?_, ?_, ?_⟩
    · exact congrArg Dawn.refusals hdawn
    · have hlog := congrArg (fun d : Dawn => d.log.head?.map (fun e => (e.code, e.position))) hdawn
      exact hlog
    · have hdrop := congrArg Dawn.dropAt hdawn
      exact hdrop
    · have hmask := congrArg Dawn.wakeMask hdawn
      exact hmask
  · exact fun s h => (exec_sleepGo_awake (t := 0) h).2.2.2
  · exact fun s t ticks ended since m h => (exec_sleepGo_prepared h).1
  · exact fun s t h => (exec_sleepGo_awake h).1
  · exact fun s t ticks ended since m h => (exec_sleepGo_prepared h).2.1
  · exact fun s t h => (exec_sleepGo_awake h).2.1
  · exact fun s ticks ended since m h => (exec_sleepGo_prepared (t := 0) h).2.2
  · exact fun s h => (exec_sleepGo_awake (t := 0) h).2.2.1
  · intro h tj t
    obtain ⟨hwarn, hthrottle, htrip⟩ := Thermal.sample_conditions (h := h) (tj := tj) (t := t)
    obtain ⟨_, htj, hmax, _⟩ := Thermal.sample_counts (h := h) (tj := tj) (t := t)
    exact ⟨hwarn, hthrottle, htrip, htj, hmax⟩
  · intro h tj t v hv
    have hrate : (h.sample tj t).rate = tj - v := by rw [Thermal.sample_rate, hv]
    exact ⟨hrate, Thermal.sample_rateConditions hrate⟩
  · exact fun s tj ok h => exec_thermalSample_ignored ok h
  · intro s tj hb hd hp hlt hc hl hr
    have hcold := Thermal.sample_cold (tj := tj) (t := s.sampling.now) hc hl hlt
    obtain ⟨_, _, htr, _, hrt⟩ := Thermal.conditions_eq hc
    obtain ⟨hconds, htj, _⟩ := State.sampled_fields (s := s) hcold (by rw [htr, hrt]; rfl)
    have hevents : ({ s.sampling with thermal := s.sampled tj } : State).thermalEvents s.thermal.conditions
        (s.thermal.sample tj s.sampling.now).conditions = { s.sampling with thermal := s.sampled tj } := by
      rw [hc, hcold]
      exact State.thermalEvents_none _
    have hexec := exec_thermalSample_good hb hd hp (by omega) hr (by rw [hevents]; rfl)
    rw [hevents] at hexec
    exact ⟨_, hexec, rfl, htj, hconds, rfl, rfl⟩
  · intro s tj hb hd hp hlo hhi hc hl hr
    have hwarm := Thermal.sample_warm (tj := tj) (t := s.sampling.now) hc hl hlo hhi
    obtain ⟨_, _, htr, hrw, hrt⟩ := Thermal.conditions_eq hc
    obtain ⟨hconds, htj, hdue, _, hrate⟩ := State.sampled_fields (s := s) hwarm (by rw [htr, hrt]; rfl)
    have hevents : ({ s.sampling with thermal := s.sampled tj } : State).thermalEvents s.thermal.conditions
        (s.thermal.sample tj s.sampling.now).conditions = ({ s.sampling with thermal := s.sampled tj } : State).thermalEvent
          0 true := by
      rw [hc, hwarm]
      rfl
    have hexec := exec_thermalSample_good hb hd hp (by omega) hr
      (by rw [hevents, State.thermalEvent]; simp only [State.raiseEvent_keeps]; rfl)
    rw [hevents, State.thermalEvent, htj, hrate, (Thermal.sample_young hl hrw hrt).1] at hexec
    refine ⟨{ s.sampling with thermal := s.sampled tj }, hexec, hconds, hdue.trans (Bool.or_false _), rfl⟩
  · intro s tj hb hd hp hlo hhi hc hl hr
    have hhot := Thermal.sample_hot (tj := tj) (t := s.sampling.now) hc hl hlo
    obtain ⟨_, _, htr, hrw, hrt⟩ := Thermal.conditions_eq hc
    obtain ⟨hconds, htj, hdue, htrips, hrate⟩ := State.sampled_fields (s := s) hhot (by rw [htr, hrt]; rfl)
    have hevents : ({ s.sampling with thermal := s.sampled tj } : State).thermalEvents s.thermal.conditions
        (s.thermal.sample tj s.sampling.now).conditions = ({ s.sampling with thermal := s.sampled tj } : State).thermalEvent
          2 true := by
      rw [hc, hhot]
      rfl
    have hexec := exec_thermalSample_good hb hd hp (by omega) hr
      (by rw [hevents, State.thermalEvent]; simp only [State.raiseEvent_keeps]; rfl)
    rw [hevents, State.thermalEvent, htj, hrate, (Thermal.sample_young hl hrw hrt).1] at hexec
    refine ⟨{ s.sampling with thermal := s.sampled tj }, hexec, hconds, hdue.trans (Bool.or_true _), htrips, rfl⟩
  · intro s tj hb hd hp hlo
    have hexec := exec_thermalSample_judges (s := s) (tj := tj) true hb hd
    rw [hp, decide_eq_true hlo] at hexec
    exact ⟨_, hexec.trans (if_pos rfl), rfl, rfl, rfl⟩
  · intro s tj ok hb hd hbad
    have hexec := exec_thermalSample_judges (s := s) (tj := tj) ok hb hd
    rw [Thermal.plausible_false hbad] at hexec
    exact ⟨_, hexec.trans (if_pos rfl), rfl, rfl, rfl⟩
  · exact fun s t h => if_neg (by rw [show (s.advance t).thermal.tripDue = true from h]; decide)
  · exact fun s t h => if_pos (by rw [show (s.advance t).thermal.tripDue = false from h]; rfl)
  · intro s t h
    refine (if_neg (by rw [show (s.advance t).boot.ready = true from h]; decide)).trans ?_
    exact (apply_ite Host.Outcome.next (vcoreFor s.lowestSpeed = s.thermal.vcoreMv) _ _).symm
  · intro n
    obtain ⟨hmem, hspeed, hlowest⟩ := vcoreFor_lowest n
    obtain ⟨hlo, hhi, hten⟩ := mem_vcoreSteps.mp hmem
    refine ⟨hlo, hhi, hten, hspeed, ?_⟩
    rintro ⟨k, hk, hlt, hkten, hkspeed⟩
    exact hlowest k (mem_vcoreSteps.mpr ⟨hk, by omega, hkten⟩) hlt hkspeed
  · exact fun s r h => ⟨_, runCommand_effect h rfl, State.pwrStatus_fields⟩
  · intro s r h
    have hbody : getWakeBody r s = .ok (if u8 r.cmd.payload 0 % 2 = 1 then
        { s with dawn := { s.dawn with prior := 0#4, sourcesSeen := 0#3, wakePending := 0#3 } } else s) s.wakeRecord :=
      (apply_ite (fun u => CmdEffect.ok u s.wakeRecord) (u8 r.cmd.payload 0 % 2 = 1) _ _).symm
    exact ⟨_, runCommand_effect h hbody, State.wakeRecord_fields⟩

end Sys2Proof.Machine
end

section
/-!
PROOFS. Start-up, provisioning and the debug port (family 15).
-/

namespace Sys2Proof.Machine

open Sys2Proof

/-! ### The boot stages (R482, R488 to R494) -/

section
variable {s : State} {t : Nat} {x : BootFacts}

/-- A boot stage ends only in the boot, while no shutdown is under way, and then by its number. -/
theorem exec_bootStageEnd_at {n : Nat} (hs : s.boot.stage = n) (hlo : n ≠ 0) (hhi : n < 10) (hd : s.dawn.shutdownAt = none) :
    exec (.bootStageEnd t x) s =
      if x.romEcc then .next ((s.advance t).stopBoot 0x03)
      else if n = 1 then .next ((s.advance t).endStraps x)
      else if n = 2 then .next ((s.advance t).endReference x)
      else if n = 3 then .next ((s.advance t).endMemory x)
      else if n = 4 then .next ((s.advance t).endFabric x)
      else if n = 5 then .next ((s.advance t).endNvCheck x)
      else if n = 6 then .next (s.advance t).endImage
      else .next (s.advance t) := by
  change execBootStageEnd t x s = _
  simp only [execBootStageEnd, show (s.advance t).boot.stage = n from hs,
    show (s.advance t).dawn.shutdownAt = none from hd, Option.isSome_none]
  exact if_neg (not_or.mpr ⟨hlo, not_or.mpr ⟨by omega, Bool.false_ne_true⟩⟩)

/-- Stage STRAPS with a reading in range and no refusal: the straps and the watchdog history decide. -/
theorem State.endStraps_cool (hok : x.sensorOk = true) (hlo : -6000 ≤ x.tj) (hhi : x.tj < 11200) :
    s.endStraps x =
      let u := { s with thermal := { s.thermal with
        tj := x.tj, tjMax := x.tj, sampledAt := s.now, band := bandOf x.tj, history := [] } }
      if !s.strapsValid then u.stopBoot 0x01 else if watchdogLoop s.dawn.faultBoots then u.stopBoot 0x08
      else u.enterStage 0x02 := by
  have hin : inRangeZ (-6000) x.tj 15000 = true := by
    simp only [inRangeZ, Bool.and_eq_true, decide_eq_true_eq]; omega
  unfold State.endStraps
  simp only [hok, hin, Bool.and_self, Bool.not_true]
  exact (if_neg (by decide)).trans (if_neg (by omega))

/-- Fewer than three watchdog boots are no loop. -/
theorem watchdogLoop_short {l : List Nat} (h : l.length < 3) : watchdogLoop l = false := by
  match l, h with
  | [], _ => rfl
  | [_], _ => rfl
  | [_, _], _ => rfl

/-- The strap combinations of Table BALL-3 that are none. -/
theorem State.strapsValid_false (h : s.role = .invalid ∨ (s.role = .worker ∧ s.boot.bootsrc = 2#2) ∨
    (s.role = .standalone ∧ s.boot.bootsrc = 3#2) ∨ (s.role = .manager ∧ s.boot.bootsrc = 3#2)) : s.strapsValid = false := by
  unfold State.strapsValid
  rcases h with h | ⟨h, hb⟩ | ⟨h, hb⟩ | ⟨h, hb⟩
  · rw [h]
  all_goals rw [h, hb]; rfl

/-- Which code a boot refusal logs. -/
theorem State.refuseBoot_dawn (sensor : Bool) :
    (s.refuseBoot sensor).dawn.power = .sleep ∧ (s.refuseBoot sensor).dawn.pwrEn = false ∧
    (s.refuseBoot sensor).dawn.refusals = min (s.dawn.refusals + 1) 65535 ∧
    (s.refuseBoot sensor).dawn.log.head?.map (fun e => e.code) = some (if sensor then 7 else 9) ∧
    (s.refuseBoot sensor).dawn.prior = (if sensor then s.dawn.prior ||| 4#4 else s.dawn.prior) ∧
    (s.refuseBoot sensor).dawn.holdoffEnd = (if sensor then some (s.now + dawnSpan 61440) else s.dawn.holdoffEnd) ∧
    (s.refuseBoot sensor).now = s.now := by
  cases sensor <;> exact ⟨rfl, rfl, rfl, rfl, rfl, rfl, rfl⟩

/-- A reading out of range, or a sensor that fails its check, refuses the boot. -/
theorem State.endStraps_noSensor (h : x.sensorOk = false ∨ x.tj < -6000 ∨ 15000 < x.tj) :
    s.endStraps x = s.refuseBoot true := by
  refine if_pos ?_
  simp only [Bool.not_eq_true', Bool.and_eq_false_iff, inRangeZ, decide_eq_false_iff_not, not_le]
  exact h

/-- A device too hot to start refuses the boot. -/
theorem State.endStraps_hot (hok : x.sensorOk = true) (hlo : 11200 ≤ x.tj) (hhi : x.tj ≤ 15000) :
    s.endStraps x = s.refuseBoot false := by
  have hin : inRangeZ (-6000) x.tj 15000 = true := by
    simp only [inRangeZ, Bool.and_eq_true, decide_eq_true_eq]; omega
  unfold State.endStraps
  simp only [hok, hin, Bool.and_self, Bool.not_true]
  exact (if_neg (by decide)).trans (if_pos hlo)

/-- The crystal serves a device that is no worker. -/
theorem State.crystal_usable (c : Bool) : (c && !s.isWorker) = true ↔ c = true ∧ s.role ≠ .worker := by
  simp [State.isWorker]

/-- A reference was found: the crystal where it serves, else REF_IN. -/
theorem State.endReference_found (h : (x.crystal = true ∧ s.role ≠ .worker) ∨ x.refIn ≠ 0) :
    ∃ u, s.endReference x = u ∧ u.boot = { s.boot with stage := 3, fault := 0 } ∧
      u.radio.refSource = (if x.crystal = true ∧ s.role ≠ .worker then 0 else 1) ∧
      { u with boot := s.boot, radio := s.radio } = s := by
  have hfound : (x.crystal && !s.isWorker || x.refIn.val != 0) = true := by
    rw [Bool.or_eq_true, State.crystal_usable, bne_iff_ne]
    exact h.imp_right (fun h e => h (Fin.ext e))
  have hsource : (if (x.crystal && !s.isWorker) = true then 0 else 1) =
      if x.crystal = true ∧ s.role ≠ .worker then 0 else (1 : Nat) := if_congr (State.crystal_usable _) rfl rfl
  exact ⟨_, if_pos hfound, rfl, hsource, rfl⟩

/-- With no reference the ROM waits in its stage. -/
theorem State.endReference_none (h : x.crystal = false ∨ s.role = .worker) (hr : x.refIn = 0) :
    (s.endReference x).boot.stage = 2 ∧ (s.endReference x).boot.fault = 2 := by
  have hcrystal : (x.crystal && !s.isWorker) = false := by
    rw [Bool.eq_false_iff, ne_eq, State.crystal_usable]
    rintro ⟨hc, hw⟩
    exact h.elim (by rw [hc]; decide) hw
  have hnone : ¬ (x.crystal && !s.isWorker || x.refIn.val != 0) = true := by rw [hcrystal, hr]; decide
  have hend : s.endReference x = State.bootFaultAt _ 0x02 0x02 := if_neg hnone
  rw [hend]
  exact ⟨rfl, rfl⟩

/-- Without failed units MEMORY ends in FABRIC. -/
theorem State.endMemory_boot (hr : x.repaired = true) (hu : x.units = []) : (s.endMemory x).boot = { s.boot with
    stage := 4, fault := 0, nvFailed := if x.mapOk then s.boot.nvFailed else s.boot.nvFailed + 1 } := by
  simp only [State.endMemory, hr, hu, List.foldl_nil, Bool.not_true]
  rfl

/-- NV_CHECK goes on by the boot source. -/
theorem State.endNvCheck_goes : (s.endNvCheck x).boot = { s.boot with
      stage := if s.boot.bootsrc = 2#2 then 7 else if s.boot.bootsrc = 3#2 then 8 else 6
      fault := 0, nvFailed := s.boot.nvFailed + x.badRecords.length, keyFault := s.keyFaulty } ∧
    (s.endNvCheck x).nv = { s.nv with bad := x.badRecords } ∧ { s.endNvCheck x with boot := s.boot, nv := s.nv } = s := by
  unfold State.endNvCheck
  dsimp only
  split
  · exact ⟨rfl, rfl, rfl⟩
  · split <;> exact ⟨rfl, rfl, rfl⟩

/-- The image that the device was shipped with is authentic. -/
theorem Bank.check_shipped {b : Bank} {role : Role} (h : b.shipped = true) : b.check role = none := by
  have hvalid : b.valid = true := (Bool.and_eq_true _ _ ▸ h : b.valid = true ∧ _).1
  simp [Bank.check, hvalid, h]

/-- A bank that is not valid is not authentic. -/
theorem Bank.check_invalid {b : Bank} {role : Role} (h : b.valid = false) : b.check role = some Status.imageInvalid := by
  simp [Bank.check, h]

/-- Without a trial mark the first bank of the strap order starts when it holds the shipped image. -/
theorem State.endImage_first (hm : s.dawn.trialMark = none) (hb : (s.nv.bank s.firstBank).shipped = true) :
    ∃ u, s.endImage = u ∧ u.boot.stage = 9 ∧ u.boot.source = s.firstBank ∧
      u.boot.release = (s.nv.bank s.firstBank).release ∧ u.boot.trial = false ∧ u.boot.bankFailed = none ∧
      { u with boot := s.boot } = s := by
  have hpick : s.bankOrder.find? (fun b => ((s.nv.bank b).check s.role).isNone) = some s.firstBank := by
    simp [State.bankOrder, hm, Bank.check_shipped hb]
  have hmark : { s.dawn with trialMark := none } = s.dawn := by rw [← hm]
  unfold State.endImage
  simp only [hpick, hm]
  refine ⟨_, rfl, rfl, rfl, rfl, rfl, if_pos (Or.inl rfl), ?_⟩
  exact congrArg (fun d => { s with dawn := d }) hmark

/-- The trial mark's bank starts when it holds the shipped image, and the mark is cleared. -/
theorem State.endImage_trial {b : Nat} (hm : s.dawn.trialMark = some b) (hb : (s.nv.bank b).shipped = true) :
    ∃ u, s.endImage = u ∧ u.boot.stage = 9 ∧ u.boot.source = b ∧ u.boot.trial = true ∧
      u.dawn = { s.dawn with trialMark := none } := by
  have hpick : s.bankOrder.find? (fun b => ((s.nv.bank b).check s.role).isNone) = some b := by
    simp [State.bankOrder, hm, Bank.check_shipped hb]
  unfold State.endImage
  simp only [hpick, hm]
  exact ⟨_, rfl, rfl, rfl, beq_self_eq_true _, rfl⟩

/-- With no valid bank a worker stops, and any other device waits for the host. -/
theorem State.endImage_none (ha : s.nv.bankA.valid = false) (hb : s.nv.bankB.valid = false) :
    s.endImage.boot.fault = 6 ∧ s.endImage.boot.stage = (if s.role = .worker then 0xFF else 7) := by
  have hcheck (b : Nat) : ((s.nv.bank b).check s.role).isNone = false := by
    unfold Nv.bank
    split
    · rw [Bank.check_invalid ha]; rfl
    · rw [Bank.check_invalid hb]; rfl
  have hpick : s.bankOrder.find? (fun b => ((s.nv.bank b).check s.role).isNone) = none := by
    simp [List.find?_eq_none, hcheck]
  have hworker : s.isWorker = decide (s.role = .worker) := rfl
  unfold State.endImage
  simp only [hpick]
  rw [show State.isWorker { s with dawn := { s.dawn with trialMark := none } } = _ from hworker]
  by_cases hw : s.role = .worker
  · rw [if_pos hw, decide_eq_true hw]
    exact ⟨rfl, rfl⟩
  · rw [if_neg hw, decide_eq_false hw]
    exact ⟨rfl, rfl⟩

/-- A second failed link of an axis is a boot fault. -/
theorem State.endFabric_second {a i l m : Nat} (hx : x.links = [(a, i, l), (a, i, m)]) (hne : l ≠ m)
    (hs : s.fab.spared = []) : s.endFabric x = s.stopBoot 5 := by
  have hlinks : spareLinks s.fab.spared x.links = none := by
    simp [hx, hs, spareLinks, Tab.find?_nil, Tab.find?_set, hne]
  simp only [State.endFabric, hlinks]

end

/-! ### The images that a host or a manager sends (R493, R495, R496) -/

section
variable {s : State} {r : Running}

/-- A failed authentication never has status OK. -/
theorem State.stagedStatus_ne_ok {off len st : Nat} (h : s.stagedStatus off len = some st) : st ≠ Status.ok := by
  have hbad {p : List Byte} {role : Role} (h : authenticate p role = some st) : st ≠ Status.ok := by
    unfold authenticate at h
    split at h
    · rw [← Option.some.inj h]; decide
    · split at h
      · rw [← Option.some.inj h]; decide
      · cases h
  unfold State.stagedStatus at h
  split at h
  · rw [← Option.some.inj h]; decide
  · exact hbad h

/-- The range of a staged image (Table BOOT-4). -/
theorem bootLoadRange_iff {off len : Nat} : (off % 4096 == 0 && inRange 4096 len 1048576 && decide
    (off + len ≤ 0x400000)) = true ↔
    off % 4096 = 0 ∧ (4096 ≤ len ∧ len ≤ 1048576) ∧ off + len ≤ 0x400000 := by
  simp [inRange, and_assoc]

/-- SEC_BOOT_LOAD with a good range hangs on the staged image. -/
theorem bootLoadBody_staged (hs : s.boot.stage = 7) (ho : u32 r.cmd.payload 0 % 4096 = 0)
    (hlo : 4096 ≤ u32 r.cmd.payload 4) (hhi : u32 r.cmd.payload 4 ≤ 1048576)
    (hend : u32 r.cmd.payload 0 + u32 r.cmd.payload 4 ≤ 0x400000) :
    bootLoadBody r s = match s.stagedStatus (u32 r.cmd.payload 0) (u32 r.cmd.payload 4) with
      | some st => .status (s.bootFaultAt 0x07 0x07) st
      | none =>
        let img := imageBytes (memReadBytes unlisted s.mem (0x11800000 + u32 r.cmd.payload 0) (u32 r.cmd.payload 4))
        .ok (s.startImage 2 (imageRelease img) img) [] := by
  unfold bootLoadBody
  rw [if_neg (not_not.mpr hs), bootLoadRange_iff.mpr ⟨ho, ⟨hlo, hhi⟩, hend⟩]
  cases s.stagedStatus (u32 r.cmd.payload 0) (u32 r.cmd.payload 4) <;> rfl

/-- SEC_BOOT_LOAD turns a bad range away. -/
theorem bootLoadBody_range (hs : s.boot.stage = 7) (h : u32 r.cmd.payload 0 % 4096 ≠ 0 ∨ u32 r.cmd.payload 4 < 4096 ∨
    1048576 < u32 r.cmd.payload 4) : bootLoadBody r s = .status s Status.badParam := by
  unfold bootLoadBody
  refine (if_neg (not_not.mpr hs)).trans (if_pos ?_)
  rw [Bool.not_eq_true', Bool.eq_false_iff, ne_eq, bootLoadRange_iff]
  omega

/-- A worker in WAIT_CASCADE that receives an image starts it, or reports why not. -/
theorem exec_cascadeImageReceive_worker {t : Nat} {b : List Byte} (hr : s.role = .worker) (hs : s.boot.stage = 8) :
    ∃ u, exec (.cascadeImageReceive t b) s = .next u ∧
      u.boot.stage = (if authenticate b .worker = none then 9 else 8) ∧
      u.boot.fault = (if authenticate b .worker = none then 0 else 7) ∧
      (authenticate b .worker = none → u.boot.source = 3 ∧ u.lcl = s.lcl) ∧
      (authenticate b .worker ≠ none → u.lcl.sent.length = s.lcl.sent.length + 1) := by
  change ∃ u, execCascadeImageReceive t b s = .next u ∧ _
  have hwait : ¬ (!(s.advance t).isWorker || decide ((s.advance t).boot.stage ≠ 0x08)) = true := by
    rw [show (s.advance t).isWorker = true from beq_iff_eq.mpr hr, show (s.advance t).boot.stage = 8 from hs]
    decide
  simp only [execCascadeImageReceive, show (s.advance t).role = .worker from hr]
  rw [if_neg hwait]
  cases authenticate b .worker with
  | none => exact ⟨_, rfl, rfl, rfl, fun _ => ⟨rfl, rfl⟩, fun h => absurd rfl h⟩
  | some st => exact ⟨_, rfl, rfl, rfl, fun h => (nomatch h), fun _ => List.length_append⟩

end

/-! ### READY (R92, R415) -/

section
variable {s : State}

/-- The chain comes up without time passing. -/
@[simp] theorem State.bringUpChain_now : s.bringUpChain.now = s.now := by
  unfold State.bringUpChain
  split <;> rfl

/-- The retirements come back without time passing. -/
@[simp] theorem State.restoreRetired_now : s.restoreRetired.now = s.now := by
  unfold State.restoreRetired
  split <;> rfl

/-- The clock output of a chain takes no time. -/
@[simp] theorem State.chainClock_now : s.chainClock.now = s.now := by
  unfold State.chainClock
  split <;> rfl

/-- Starting the clocks takes no time. -/
@[simp] theorem State.startClocks_now : s.startClocks.now = s.now := rfl

/-- The duty history comes back without time passing. -/
@[simp] theorem State.restoreDuty_now : s.restoreDuty.now = s.now := by
  unfold State.restoreDuty State.regFault
  cases s.storedRecord <;> simp [apply_ite State.now]

/-- EV_SYS_READY takes no time. -/
@[simp] theorem State.readyEvent_now : s.readyEvent.now = s.now := by
  simp [State.readyEvent]

/-- The events after EV_SYS_READY take no time. -/
@[simp] theorem State.afterReady_now : s.afterReady.now = s.now := by
  cases h : s.boot.bankFailed <;> simp [State.afterReady, h, State.wakeEvent, apply_ite State.now]

/-- A report of the record changes the cascade's messages alone. -/
theorem State.reportRecord_frame : { s.reportRecord with evq := s.evq, lcl := s.lcl } = s := by
  unfold State.reportRecord
  split <;> rfl

/-- A record in the ring takes no time. -/
@[simp] theorem State.writeRecord_now (e : EvRec) : (s.writeRecord e).now = s.now := by
  unfold State.writeRecord State.writeProducer State.ringNotify
  dsimp only
  split
  · simp
  · split <;> simp

/-- A turn of the ring takes no time. -/
@[simp] theorem State.ringTurn_now : s.ringTurn.now = s.now := by
  unfold State.ringTurn State.ringTake
  split
  · rfl
  · split
    · rfl
    · simp [apply_ite State.now, State.takeOverflow]

/-- The start of the ring takes no time. -/
@[simp] theorem State.ringStart_now : s.ringStart.now = s.now := by
  have hturns : ∀ (n : Nat) (u : State), (State.ringTurns n u).now = u.now := by
    intro n
    induction n with
    | zero => exact fun _ => rfl
    | succ n ih => exact fun u => (ih u.ringTurn).trans State.ringTurn_now
  exact hturns _ _

/-- FIRMWARE_READY ends the stage FIRMWARE. -/
theorem exec_firmwareReady_boot {t : Nat} (hs : s.boot.stage = 9) :
    ∃ u, exec (.firmwareReady t) s = .next u ∧ u.boot.stage = 10 ∧ u.boot.ready = true ∧ u.now = max s.now t := by
  change ∃ u, execFirmwareReady t s = .next u ∧ _
  have hreport (u : State) : u.reportRecord.now = u.now := (State.keeps_of_frame State.reportRecord_frame).1
  refine ⟨_, by simp only [execFirmwareReady, State.advance_frame, hs]; rfl, ?_⟩
  split <;> simp [hreport, State.advance]

end

/-! ### The provisioning commands (R497, R498) -/

section
variable {s : State} {r : Running}

/-- A status other than OK is the whole of the response. -/
theorem close_status {sp : CmdSpec} {st : Nat} (h : st ≠ Status.ok) : s.close sp r (.status s st) = s.respond r ⟨st, []⟩ :=
  close_failed h rfl

/-- A payload of the length of a record is taken whole. -/
theorem fit_of_length {n : Nat} {p : List Byte} (h : p.length = n) : fit n p = p := by
  rw [fit, ← h, List.take_left]

/-- SEC_GET_STATE gives Table SEC-2. -/
theorem State.secState_fields : s.secState.length = 40 ∧
    u8 s.secState 0 = (if s.fuses.oemKeyHash.isSome then 1 else 0) + (if s.fuses.sealBit then 2 else 0) +
      (if s.fuses.debugLock then 4 else 0) + (if s.boot.keyFault then 8 else 0) ∧
    u8 s.secState 1 = s.boot.lastFault % 256 ∧ u16 s.secState 2 = min s.boot.nvFailed 65535 ∧
    u32 s.secState 4 = s.tx.version % 2 ^ 32 := by
  have hbits : ∀ a b c d : Bool, ((if a then 1 else 0) + (if b then 2 else 0) + (if c then 4 else 0) +
      (if d then 8 else 0)) % 256 = (if a then 1 else 0) + (if b then 2 else 0) + (if c then 4 else 0) +
      (if d then 8 else (0 : Nat)) := by decide
  simp only [State.secState, List.append_assoc]
  simp [u8_append_of_le, u8_le, u16_append_of_le, u16_le, u32_append_of_le, u32_le, hbits, leSat]

/-- SEC_SEAL_RECORD with its key provisioned and its seal open: the checks that are left, in the order of R498. -/
theorem sealRecordBody_eq (hk : s.fuses.oemKeyHash.isSome = true) (hs : s.fuses.sealBit = false)
    (hl : r.cmd.payload.length = 608) : sealRecordBody r s =
    if recordWhole r.cmd.payload = false then .status s Status.badParam
    else if s.recordSigned r.cmd.payload = false ∨ s.boot.keyFault = true then .status s Status.authFail
    else if s.nvTempOk = false then .status s Status.tempRange
    else .later (s.nvEnqueue { record := .sealRecord, data := r.cmd.payload, owner := some r.order }) [] := by
  simp only [sealRecordBody, State.sealCheck, recordLen, fit_of_length hl, hk, hs]
  cases recordWhole r.cmd.payload <;> cases s.recordSigned r.cmd.payload <;> cases s.boot.keyFault <;>
    cases s.nvTempOk <;> rfl

/-- SEC_SEAL_RECORD with its key provisioned and its seal open. -/
theorem exec_secSealRecord (h : Runs s r specSecSealRecord) (hk : s.fuses.oemKeyHash.isSome = true)
    (hs : s.fuses.sealBit = false) (hl : r.cmd.payload.length = 608) :
    exec .secSealRecord s = .next (if recordWhole r.cmd.payload = false then s.respond r ⟨3, []⟩
      else if s.recordSigned r.cmd.payload = false ∨ s.boot.keyFault = true then s.respond r ⟨9, []⟩
      else if s.nvTempOk = false then s.respond r ⟨6, []⟩
      else s.close specSecSealRecord r (.later { s with nv := { s.nv with
        queue := s.nv.queue ++ [{ record := .sealRecord, data := r.cmd.payload, owner := some r.order }] } } [])) := by
  refine (runCommand_effect h (sealRecordBody_eq hk hs hl)).trans (congrArg Host.Outcome.next ?_)
  rw [apply_ite (s.close _ r), apply_ite (s.close _ r), apply_ite (s.close _ r), close_status (by decide),
    close_status (by decide), close_status (by decide)]
  rfl

/-- SEC_LOCK_DEBUG's checks after its confirmation byte, in the order of R498. -/
theorem lockDebugBody_eq (hc : u8 r.cmd.payload 0 = 0xA5) (hm : s.role ≠ .manager) : lockDebugBody r s =
    if s.fuses.debugLock = true then .status s Status.notPermitted
    else if s.fuses.oemKeyHash = none ∨ s.fuses.sealBit = false then .status s Status.provisionIncomplete
    else if u64 r.cmd.payload 8 ≠ Config.uid.toNat then .status s Status.badParam
    else if s.nvTempOk = false then .status s Status.tempRange
    else .later (s.nvEnqueue { record := .debugLock, owner := some r.order }) [] := by
  have hmanager : (s.role == .manager) = false := beq_eq_false_iff_ne.mpr hm
  simp only [lockDebugBody, hc, hmanager]
  by_cases hu : u64 r.cmd.payload 8 = Config.uid.toNat
  · rw [beq_iff_eq.mpr hu, if_neg (not_not.mpr hu)]
    cases s.fuses.debugLock <;> cases s.fuses.oemKeyHash <;> cases s.fuses.sealBit <;> cases s.nvTempOk <;> rfl
  · rw [beq_eq_false_iff_ne.mpr hu, if_pos hu]
    cases s.fuses.debugLock <;> cases s.fuses.oemKeyHash <;> cases s.fuses.sealBit <;> rfl

/-- SEC_LOCK_DEBUG with its confirmation byte, away from a manager. -/
theorem exec_secLockDebug (h : Runs s r specSecLockDebug) (hc : u8 r.cmd.payload 0 = 0xA5) (hm : s.role ≠ .manager) :
    exec .secLockDebug s = .next (if s.fuses.debugLock = true then s.respond r ⟨4, []⟩
      else if s.fuses.oemKeyHash = none ∨ s.fuses.sealBit = false then s.respond r ⟨0x0F02, []⟩
      else if u64 r.cmd.payload 8 ≠ Config.uid.toNat then s.respond r ⟨3, []⟩
      else if s.nvTempOk = false then s.respond r ⟨6, []⟩
      else s.close specSecLockDebug r (.later { s with nv := { s.nv with
        queue := s.nv.queue ++ [{ record := .debugLock, owner := some r.order }] } } [])) := by
  refine (runCommand_effect h (lockDebugBody_eq hc hm)).trans (congrArg Host.Outcome.next ?_)
  rw [apply_ite (s.close _ r), apply_ite (s.close _ r), apply_ite (s.close _ r), apply_ite (s.close _ r),
    close_status (by decide), close_status (by decide), close_status (by decide), close_status (by decide)]
  rfl

/-- SEC_LOCK_DEBUG without its confirmation, or sent to a chain. -/
theorem lockDebugBody_turnedAway (h : u8 r.cmd.payload 0 ≠ 0xA5 ∨ (s.role = .manager ∧ r.cmd.target = 0xFFFF)) :
    lockDebugBody r s = .status s Status.badParam := by
  have hcheck : (u8 r.cmd.payload 0 == 0xA5 && !(s.role == .manager && r.cmd.target == 0xFFFF)) = false := by
    rcases h with hc | ⟨hm, ht⟩
    · rw [beq_eq_false_iff_ne.mpr hc]; rfl
    · rw [hm, ht, beq_self_eq_true, Bool.and_eq_false_iff]; exact Or.inr rfl
  simp only [lockDebugBody, hcheck, firstFailure_fail]

end

/-! ### Record writes (R405, R483, R498) -/

section
variable {s : State} {t : Nat} {ok : Bool}

/-- A record write that another command has not overtaken: applied when it verifies, failed when it does not. -/
theorem exec_nvRecordWriteDone_cons {j : NvJob} {rest : List NvJob} (hq : s.nv.queue = j :: rest)
    (ht : s.stepTaken j.record = false) : exec (.nvRecordWriteDone t ok) s =
      .next (if ok then State.applyRecord { s.advance t with nv := { s.nv with queue := rest } } j
        else State.failOwner { s.advance t with nv := { s.nv with queue := rest } } j (recordFailure j.record)).skipWrites := by
  change execNvRecordWriteDone t ok s = _
  simp only [execNvRecordWriteDone, show (s.advance t).nv.queue = j :: rest from hq]
  have htaken : State.stepTaken { s.advance t with nv := { (s.advance t).nv with queue := rest } } j.record = false := ht
  rw [htaken]
  rfl

/-- At a temperature for writing, no queued write is skipped. -/
theorem State.skipWrites_cool (h : s.nvTempOk = true) : s.skipWrites = s := if_pos h

/-- EV_SEC_PROVISIONED skips no write. -/
theorem State.skipWrites_provisioned (h : s.nvTempOk = true) (step v : Nat) :
    (s.provisionedEvent step v).skipWrites = s.provisionedEvent step v := by
  refine State.skipWrites_cool ?_
  rw [State.nvTempOk, State.provisionedEvent, (s.raiseEvent_keeps _ _ _).2.2.2.2.2.2.2.2.2.2.2.2.1]
  exact h

/-- A table of empty histories has no slots. -/
theorem Tab.get_allDefault {α β : Type} (f : β → Nat × α) (d : α) (l : List β) (hf : ∀ x, (f x).2 = d) (i : Nat) :
    Tab.get (l.map f) i d = d := by
  induction l with
  | nil => rfl
  | cons x l ih =>
    simp only [List.map_cons, Tab.get, Tab.find?]
    split
    · exact hf x
    · exact ih

/-- A report of the record leaves what is stored, the sub-bands' histories and the temperature. -/
theorem State.reportRecord_keeps_stored : s.reportRecord.nv = s.nv ∧ s.reportRecord.fuses = s.fuses ∧
    s.reportRecord.thermal = s.thermal ∧ s.reportRecord.tx = s.tx := by
  obtain ⟨-, -, -, -, -, -, -, hnv, -, hfuses, -, -, hthermal, -, -, -, -, -, -, -, -, -, -, -, htx, -⟩ :=
    State.keeps_of_frame s.reportRecord_frame
  exact ⟨hnv, hfuses, hthermal, htx⟩

/-- A sealed record is stored, its seal is burned, and every sub-band starts with an empty duty history. -/
theorem State.sealedRecord_keeps (p : List Byte) :
    (s.sealedRecord p).nv = { s.nv with regRecord := some p } ∧ (s.sealedRecord p).fuses.sealBit = true ∧
    (s.sealedRecord p).thermal = s.thermal ∧ ∀ i, (Tab.get (s.sealedRecord p).tx.duty i {}).slots = [] := by
  simp only [State.sealedRecord, State.reportRecord_keeps_stored, State.provisionedEvent, State.raiseEvent_keeps, true_and]
  exact fun i => congrArg DutyHistory.slots (Tab.get_allDefault (fun n => (n, ({} : DutyHistory))) _ _ (fun _ => rfl) i)

/-- The seal's write stores the record, burns the seal and empties the queue. -/
theorem exec_nvRecordWriteDone_seal {k : List Byte} {o : Option Nat}
    (hq : s.nv.queue = [{ record := .sealRecord, data := k, owner := o }]) (hs : s.fuses.sealBit = false)
    (ht : s.nvTempOk = true) : ∃ u, exec (.nvRecordWriteDone t true) s = .next u ∧ u.nv.regRecord = some k ∧
      u.fuses.sealBit = true ∧ u.nv.queue = [] ∧ ∀ i, (Tab.get u.tx.duty i {}).slots = [] := by
  obtain ⟨hnv, hseal, hthermal, hduty⟩ := State.sealedRecord_keeps (s := { s.advance t with
    nv := { s.nv with queue := [], bad := s.nv.bad.filter (fun r => r != .sealRecord) } }) k
  have hwhole := State.skipWrites_cool (s := State.sealedRecord { s.advance t with
    nv := { s.nv with queue := [], bad := s.nv.bad.filter (fun r => r != .sealRecord) } } k) (by
      rw [State.nvTempOk, hthermal]; exact ht)
  refine ⟨_, (exec_nvRecordWriteDone_cons hq hs).trans (congrArg Host.Outcome.next hwhole), ?_, hseal, ?_, hduty⟩
  · rw [hnv]
  · rw [hnv]

/-- The write of the OEM key stores it and commits its hash. -/
theorem exec_nvRecordWriteDone_key {k : List Byte} {o : Option Nat}
    (hq : s.nv.queue = [{ record := .oemKey, data := k, owner := o }]) (hk : s.fuses.oemKeyHash = none)
    (ht : s.nvTempOk = true) : exec (.nvRecordWriteDone t true) s = .next (State.provisionedEvent { s.advance t with
      nv := { s.nv with queue := [], bad := s.nv.bad.filter (fun r => r != .oemKey), oemKey := some k }
      fuses := { s.fuses with oemKeyHash := some (sha256 k) } } 0 0) := by
  have htaken : s.stepTaken .oemKey = false := by rw [State.stepTaken, hk]; rfl
  refine (exec_nvRecordWriteDone_cons hq htaken).trans (congrArg Host.Outcome.next ?_)
  exact State.skipWrites_provisioned (s := { s.advance t with
    nv := { s.nv with queue := [], bad := s.nv.bad.filter (fun r => r != .oemKey), oemKey := some k }
    fuses := { s.fuses with oemKeyHash := some (sha256 k) } }) ht 0 0

/-- The write of the debug lock burns its fuse. -/
theorem exec_nvRecordWriteDone_lock {k : List Byte} {o : Option Nat}
    (hq : s.nv.queue = [{ record := .debugLock, data := k, owner := o }]) (hl : s.fuses.debugLock = false)
    (ht : s.nvTempOk = true) : exec (.nvRecordWriteDone t true) s = .next (State.provisionedEvent { s.advance t with
      nv := { s.nv with queue := [], bad := s.nv.bad.filter (fun r => r != .debugLock) }
      fuses := { s.fuses with debugLock := true } } 2 0) := by
  refine (exec_nvRecordWriteDone_cons hq hl).trans (congrArg Host.Outcome.next ?_)
  exact State.skipWrites_provisioned (s := { s.advance t with
    nv := { s.nv with queue := [], bad := s.nv.bad.filter (fun r => r != .debugLock) }
    fuses := { s.fuses with debugLock := true } }) ht 2 0

/-- The one deferred command gets the reply that its completion will write. -/
theorem State.setReply_deferred {r : Running} {p : Reply} (rep : Reply) (hr : s.cmd.running = [r])
    (hp : r.phase = .deferred p) : s.setReply r.order rep =
      { s with cmd := { s.cmd with running := [{ r with phase := .deferred rep }] } } := by
  simp [State.setReply, hr, hp]

/-- A key whose fuses do not verify ends its command FUSE_FAIL. -/
theorem exec_nvRecordWriteDone_fuseFail {k : List Byte} {r : Running} {p : Reply}
    (hq : s.nv.queue = [{ record := .oemKey, data := k, owner := some r.order }]) (hk : s.fuses.oemKeyHash = none)
    (ht : s.nvTempOk = true) (hr : s.cmd.running = [r]) (hp : r.phase = .deferred p) :
    exec (.nvRecordWriteDone t false) s = .next { s.advance t with
      nv := { s.nv with queue := [] }
      cmd := { s.cmd with running := [{ r with phase := .deferred ⟨0x0F03, []⟩ }] } } := by
  have htaken : s.stepTaken .oemKey = false := by rw [State.stepTaken, hk]; rfl
  have hreply := State.setReply_deferred (s := { s.advance t with nv := { s.nv with queue := [] } }) ⟨0x0F03, []⟩ hr hp
  refine (exec_nvRecordWriteDone_cons hq htaken).trans (congrArg Host.Outcome.next ?_)
  exact (congrArg State.skipWrites hreply).trans (State.skipWrites_cool ht)

/-- A write of the device's own is skipped at a temperature that keeps it from starting. -/
theorem State.skipWrites_own {j : NvJob} (h : s.nvTempOk = false) (hq : s.nv.queue = [j]) (ho : j.owner = none)
    (hj : j.record ≠ .serviceRecord) : s.skipWrites = { s with nv := { s.nv with queue := [] } } := by
  simp [State.skipWrites, h, hq, State.failOwner, ho, hj]

/-- The chain settings are stored, and the write behind them is skipped. -/
theorem exec_nvRecordWriteDone_skips {j : NvJob} (hq : s.nv.queue = [{ record := .chainSettings, data := [1#8] }, j])
    (ho : j.owner = none) (hj : j.record = .dutyHistory) (ht : s.nvTempOk = false) :
    ∃ u, exec (.nvRecordWriteDone t true) s = .next u ∧ u.nv.expected = 1 ∧ u.nv.queue = [] ∧ u.nv.duty = s.nv.duty := by
  have hskip := State.skipWrites_own (s := { s.advance t with
    nv := { s.nv with queue := [j], bad := s.nv.bad.filter (fun r => r != .chainSettings), expected := 1 } })
    ht rfl ho (by rw [hj]; decide)
  exact ⟨_, (exec_nvRecordWriteDone_cons hq rfl).trans (congrArg Host.Outcome.next hskip), rfl, rfl, rfl⟩

end

/-! ### Start-up and provisioning (O59) -/

/-- Every instruction but the four of R499 is one that the debug lock stops. -/
theorem standardTap_false {x : TapInstr} (hb : x ≠ .bypass) (hi : x ≠ .idcode) (hs : x ≠ .sample) (he : x ≠ .extest) :
    standardTap x = false := by
  cases x with
  | bypass => exact absurd rfl hb
  | idcode => exact absurd rfl hi
  | sample => exact absurd rfl hs
  | extest => exact absurd rfl he
  | readMemory _ | writeMemory _ _ | readFuses | burnFuse _ => rfl

/-- Settles O59: the boot stages by number, the image loads, READY, the provisioning commands, their record writes and the
debug port. -/
theorem startUpAndProvisioning : Obligations.StartUpAndProvisioning := by
  unfold Obligations.StartUpAndProvisioning
  refine ⟨?_, ?_, ?_, ?_, ?_, ?_, ?_, ?_, ?_, ?_, ?_, ?_, ?_, ?_, ?_, ?_, ?_, ?_, ?_, ?_, ?_, ?_, ?_, ?_, ?_, ?_, ?_, ?_, ?_,
    ?_, ?_, ?_, ?_, ?_, ?_, ?_, ?_, ?_, ?_, ?_, ?_, ?_⟩
  · intro s t x hs hd hecc hok hlo hhi hstraps hlen
    have hexec := exec_bootStageEnd_at (t := t) (x := x) hs (by decide) (by decide) hd
    rw [hecc, State.endStraps_cool hok hlo hhi, show (s.advance t).strapsValid = true from hstraps,
      show (s.advance t).dawn.faultBoots = s.dawn.faultBoots from rfl, watchdogLoop_short hlen] at hexec
    exact ⟨_, hexec, rfl, rfl, rfl, rfl, rfl⟩
  · intro s t x hs hd hecc hok hlo hhi hbad
    have hexec := exec_bootStageEnd_at (t := t) (x := x) hs (by decide) (by decide) hd
    rw [hecc, State.endStraps_cool hok hlo hhi, show (s.advance t).strapsValid = false from
      State.strapsValid_false hbad] at hexec
    exact ⟨_, hexec, rfl, rfl, rfl⟩
  · intro s t a b c x hs hd hecc hok hlo hhi hstraps hboots hac
    have hexec := exec_bootStageEnd_at (t := t) (x := x) hs (by decide) (by decide) hd
    have hloop : watchdogLoop [a, b, c] = true := by
      have hspan : c + 600 * Config.sec = c + 230400000000000 := rfl
      simp [watchdogLoop, hspan, hac]
    rw [hecc, State.endStraps_cool hok hlo hhi, show (s.advance t).strapsValid = true from hstraps,
      show (s.advance t).dawn.faultBoots = _ from hboots, hloop] at hexec
    exact ⟨_, hexec, rfl, rfl⟩
  · intro s t x hs hd hecc hok hlo hhi
    have hexec := exec_bootStageEnd_at (t := t) (x := x) hs (by decide) (by decide) hd
    rw [hecc, State.endStraps_hot hok hlo hhi] at hexec
    obtain ⟨hpower, hen, hcount, hlog, hprior, hhold, -⟩ := (s.advance t).refuseBoot_dawn false
    exact ⟨_, hexec, hpower, hen, hcount, hlog, hprior, hhold⟩
  · intro s t x hs hd hecc hbad
    have hexec := exec_bootStageEnd_at (t := t) (x := x) hs (by decide) (by decide) hd
    rw [hecc, State.endStraps_noSensor hbad] at hexec
    obtain ⟨hpower, hen, hcount, hlog, hprior, hhold, hnow⟩ := (s.advance t).refuseBoot_dawn true
    exact ⟨_, hexec, hpower, hen, hcount, hlog, hprior, by rw [hhold, hnow]; rfl⟩
  · intro s t x hs hd hecc href
    have hexec := exec_bootStageEnd_at (t := t) (x := x) hs (by decide) (by decide) hd
    obtain ⟨u, hend, hboot, hsource, hrest⟩ := State.endReference_found (s := s.advance t) href
    rw [hecc, hend] at hexec
    have hframe := congrArg (fun v : State => { v with now := s.now }) hrest
    exact ⟨u, hexec, hboot, hsource, hframe⟩
  · intro s t x hs hd hecc hno href
    have hexec := exec_bootStageEnd_at (t := t) (x := x) hs (by decide) (by decide) hd
    rw [hecc] at hexec
    obtain ⟨hstage, hfault⟩ := State.endReference_none (s := s.advance t) hno href
    exact ⟨_, hexec, hstage, hfault⟩
  · intro s t x hs hd hecc
    have hexec := exec_bootStageEnd_at (t := t) (x := x) hs (by decide) (by decide) hd
    rw [hecc] at hexec
    refine hexec.trans (congrArg Host.Outcome.next (show (s.advance t).endMemory x = _ from ?_))
    cases hr : x.repaired with
    | false => simp [State.endMemory, hr]
    | true => rfl
  · exact fun s x => State.endMemory_boot
  · intro s t x hs hd hecc hx
    have hexec := exec_bootStageEnd_at (t := t) (x := x) hs (by decide) (by decide) hd
    rw [hecc] at hexec
    refine hexec.trans (congrArg Host.Outcome.next ?_)
    simp only [State.endFabric, hx, spareLinks]
  · intro s t a i l m x hs hd hecc hx hne hspared
    have hexec := exec_bootStageEnd_at (t := t) (x := x) hs (by decide) (by decide) hd
    rw [hecc] at hexec
    exact hexec.trans (congrArg Host.Outcome.next (State.endFabric_second hx hne hspared))
  · intro s t x hs hd hecc
    have hexec := exec_bootStageEnd_at (t := t) (x := x) hs (by decide) (by decide) hd
    rw [hecc] at hexec
    obtain ⟨hboot, hnv, hrest⟩ := State.endNvCheck_goes (s := s.advance t) (x := x)
    have hframe := congrArg (fun v : State => { v with now := s.now }) hrest
    exact ⟨_, hexec, hboot, hnv, hframe⟩
  · intro s t x hs hd hecc hmark hbank
    have hexec := exec_bootStageEnd_at (t := t) (x := x) hs (by decide) (by decide) hd
    obtain ⟨u, hend, hstage, hsource, hrelease, htrial, hfailed, hrest⟩ := State.endImage_first (s := s.advance t) hmark hbank
    rw [hecc, hend] at hexec
    have hframe := congrArg (fun v : State => { v with now := s.now }) hrest
    exact ⟨u, hexec, hstage, hsource, hrelease, htrial, hfailed, hframe⟩
  · intro s t b x hs hd hecc hmark hbank
    have hexec := exec_bootStageEnd_at (t := t) (x := x) hs (by decide) (by decide) hd
    obtain ⟨u, hend, hstage, hsource, htrial, hdawn⟩ := State.endImage_trial (s := s.advance t) hmark hbank
    rw [hecc, hend] at hexec
    exact ⟨u, hexec, hstage, hsource, htrial, hdawn⟩
  · intro s t x hs hd hecc ha hb
    have hexec := exec_bootStageEnd_at (t := t) (x := x) hs (by decide) (by decide) hd
    rw [hecc] at hexec
    obtain ⟨hfault, hstage⟩ := State.endImage_none (s := s.advance t) ha hb
    exact ⟨_, hexec, hfault, hstage⟩
  · intro s t x hlo hhi hd hecc
    have hexec := exec_bootStageEnd_at (t := t) (x := x) rfl (by omega) hhi hd
    rw [hecc] at hexec
    exact hexec
  · intro s t x h
    exact if_pos (h.imp_right Or.inl)
  · intro s r h hs
    exact runCommand_status h (if_pos hs) (by decide)
  · intro s r h hs hbad
    exact runCommand_status h (bootLoadBody_range hs hbad) (by decide)
  · intro s r h hs ho hlo hhi hend
    have hbody := bootLoadBody_staged hs ho hlo hhi hend
    refine ⟨fun st hst => ?_, fun hst => ?_⟩
    · rw [hst] at hbody
      have hfault : s.bootFaultAt 0x07 0x07 = { s with boot := { s.boot with fault := 7, lastFault := 7 } } :=
        congrArg (fun n => { s with boot := { s.boot with fault := 7, lastFault := 7, stage := n } }) hs.symm
      have hstatus : bootLoadBody r s = .status { s with boot := { s.boot with fault := 7, lastFault := 7 } } st :=
        hbody.trans (congrArg (fun u => CmdEffect.status u st) hfault)
      exact (runCommand_effect h hstatus).trans
        (congrArg Host.Outcome.next (close_failed (State.stagedStatus_ne_ok hst) rfl))
    · rw [hst] at hbody
      exact ⟨_, runCommand_effect h hbody, rfl, rfl, rfl, rfl⟩
  · exact fun s t b => exec_cascadeImageReceive_worker
  · intro s t b h
    refine if_pos ?_
    rw [Bool.or_eq_true, Bool.not_eq_true', decide_eq_true_eq]
    exact h.imp_left beq_eq_false_iff_ne.mpr
  · exact fun s t => exec_firmwareReady_boot
  · exact fun s t h => if_pos h
  · exact fun s r h => ⟨_, runCommand_effect h rfl, State.secState_fields⟩
  · intro s r h hk
    have hnone : s.fuses.oemKeyHash.isNone = false := by rw [← Option.not_isSome, hk]; rfl
    exact runCommand_status h (by rw [setOemKeyBody, hnone]; rfl) (by decide)
  · intro s r h hk ht
    exact runCommand_status h (by rw [setOemKeyBody, hk, ht]; rfl) (by decide)
  · intro s r h hk ht
    exact runCommand_effect h (by rw [setOemKeyBody, hk, ht]; rfl)
  · intro s r h hk
    exact runCommand_status h (by simp only [sealRecordBody, State.sealCheck, hk]; rfl) (by decide)
  · intro s r h hk hs
    exact runCommand_status h (by simp only [sealRecordBody, State.sealCheck, hk, hs]; rfl) (by decide)
  · exact fun s r => exec_secSealRecord
  · exact fun s r h hbad => runCommand_status h (lockDebugBody_turnedAway hbad) (by decide)
  · exact fun s r => exec_secLockDebug
  · exact fun s t k o => exec_nvRecordWriteDone_key
  · exact fun s t k o => exec_nvRecordWriteDone_lock
  · exact fun s t k o => exec_nvRecordWriteDone_seal
  · intro s t o k r hq hk ht hr ho hp
    exact exec_nvRecordWriteDone_fuseFail (ho ▸ hq) hk ht hr hp
  · exact fun s t j => exec_nvRecordWriteDone_skips
  · intro s t ok hq
    change execNvRecordWriteDone t ok s = _
    simp only [execNvRecordWriteDone, show (s.advance t).nv.queue = [] from hq]
  · intro s t hp
    refine if_neg ?_
    rw [show (s.advance t).pins.pwrGood = true from hp]
    simp [standardTap]
  · intro s t x hl hb hi hs he
    refine if_pos ?_
    rw [show (s.advance t).fuses.debugLock = true from hl, standardTap_false hb hi hs he,
      Bool.or_eq_true]
    exact Or.inr rfl
  · intro s t a v hp hl ha
    have hrun : ¬ (!(s.advance t).pins.pwrGood || ((s.advance t).fuses.debugLock && !standardTap (.writeMemory a v))) = true := by
      rw [show (s.advance t).pins.pwrGood = true from hp, show (s.advance t).fuses.debugLock = false from hl]
      simp
    have hmem : (s.advance t).debugWrite a v = { s.advance t with mem := memWrite unlisted s.mem a v } :=
      if_neg (by omega)
    refine (if_neg hrun).trans ?_
    rw [hmem]

end Sys2Proof.Machine
end

section
/-!
PROOFS. Spares and service life (family 15).
-/

namespace Sys2Proof.Machine

open Sys2Proof

/-! ### The status (R516) -/

section
variable {s : State} {r : Running}

/-- A 64-bit field past a front of known length. -/
theorem u64_append_of_le {l p : List Byte} {o : Nat} (h : l.length ≤ o) : u64 (l ++ p) o = u64 p (o - l.length) := by
  rw [u64, u64, u32_append_of_le p h, u32_append_of_le p (Nat.le_add_right_of_le h), Nat.sub_add_comm h]

/-- A 64-bit field at the front. -/
theorem u64_le (v : Nat) (p : List Byte) : u64 (le 8 v ++ p) 0 = v % 2 ^ 64 := by
  simp only [u64, u32, u16, u8, le, List.cons_append, List.nil_append, List.getD_cons_zero, List.getD_cons_succ,
    BitVec.toNat_ofNat, Nat.zero_add]
  omega

/-- The eight bytes of a kind in SPARE_GET_STATUS. -/
def State.kindStatus (s : State) (k : Nat) : List Byte :=
  leSat 2 (s.totalOf k) ++ leSat 2 (s.usedOf k) ++ leSat 2 (Tab.get s.spare.heldOut k 0) ++
    leSat 1 (s.spare.waiting.filter (fun w => w.1 == k)).length ++ zeros 1

/-- Every kind has eight bytes. -/
theorem State.length_kindStatus (k : Nat) : (s.kindStatus k).length = 8 := by
  simp [State.kindStatus, zeros]

/-- The inventory of a kind that the status counts as units. -/
theorem State.spareStatus_total {k : Nat} (hlo : 4 ≤ k) (hk : k < 9) :
    u16 s.spareStatus (8 * k) = min (spareTotal k) 65535 := by
  have htotal : s.totalOf k = spareTotal k := by
    unfold State.totalOf
    rw [if_neg (by omega), if_neg (by omega), if_neg (by omega), if_neg (by omega)]
  have hentry : bytesAt s.spareStatus (8 * k) 8 = s.kindStatus k := by
    simp only [State.spareStatus, List.append_assoc]
    exact (bytesAt_table (f := s.kindStatus) (fun k => s.length_kindStatus k) hk)
  rw [u16_entry_front hentry (by decide), State.kindStatus, htotal]
  simp only [List.append_assoc, u16_leSat]

/-- The service record and the window in SPARE_GET_STATUS. -/
theorem State.spareStatus_fields : s.spareStatus.length = 0x74 ∧
    u64 s.spareStatus 0x48 = s.spare.rxRetired.toNat ∧ u64 s.spareStatus 0x50 = s.spare.txRetired.toNat ∧
    u32 s.spareStatus 0x58 = s.nv.hours % 2 ^ 32 ∧
    u8 s.spareStatus 0x71 = (match s.spare.window with | none => 0 | some w => if w.opened then 2 else 1) := by
  have hkinds : ((List.range 9).flatMap s.kindStatus).length = 72 :=
    length_flatMap_of_forall (fun k => s.length_kindStatus k) _
  have hours : ((List.range 5).flatMap (fun j => le 4 (Tab.get s.nv.tjHours j 0))).length = 20 :=
    length_flatMap_of_forall (fun j => length_le 4 _) _
  have hwindow : (match s.spare.window with | none => 0 | some w => if w.opened then 2 else 1) % 256 =
      (match s.spare.window with | none => 0 | some w => if w.opened then 2 else (1 : Nat)) := by
    cases s.spare.window with
    | none => rfl
    | some w => exact Nat.mod_eq_of_lt (by dsimp only; split <;> decide)
  have hrx := s.spare.rxRetired.isLt
  have htx := s.spare.txRetired.isLt
  have hlayout : s.spareStatus = (List.range 9).flatMap s.kindStatus ++ (le 8 s.spare.rxRetired.toNat ++
      (le 8 s.spare.txRetired.toNat ++ (le 4 s.nv.hours ++
      ((List.range 5).flatMap (fun j => le 4 (Tab.get s.nv.tjHours j 0)) ++
      (le 1 ((List.range 5).foldl (fun n i => if s.spare.wear.any (fun k => k / 256 == i) then n + 2 ^ i else n) 0) ++
      (le 1 (match s.spare.window with | none => 0 | some w => if w.opened then 2 else 1) ++ zeros 2)))))) := by
    simp only [State.spareStatus, List.append_assoc]
    rfl
  rw [hlayout]
  refine ⟨?_, ?_, ?_, ?_, ?_⟩
  · simp [hkinds, hours, zeros]
  · simp [u64_append_of_le, u64_le, hkinds, Nat.mod_eq_of_lt hrx]
  · simp [u64_append_of_le, u64_le, hkinds, Nat.mod_eq_of_lt htx]
  · simp [u32_append_of_le, u32_le, hkinds]
  · simp [u8_append_of_le, u8_le, hkinds, hours, hwindow]

end

/-! ### The window and the retirements (R507, R511, R512) -/

section
variable {s : State} {r : Running}

/-- SPARE_SET_WINDOW without CANCEL and of a good duration: what the time and the standing window decide. -/
theorem setWindowBody_eq (h10 : u8 r.cmd.payload 10 % 2 = 0) (hlo : 10 ≤ u16 r.cmd.payload 8)
    (hhi : u16 r.cmd.payload 8 ≤ 1000) : setWindowBody r s =
    if s.timeUsable = false then .status s Status.timeInvalid
    else if s.spare.window.isSome then .status s Status.busy
    else .ok { s with spare := { s.spare with window := some {
      start := s.dueInstant r false (s.instantOf r.cmd.payload 0) lead100 Config.outSample
      durationMs := u16 r.cmd.payload 8, scheduled := true } } } [] := by
  have hrange : inRange 10 (u16 r.cmd.payload 8) 1000 = true := by simp [inRange, hlo, hhi]
  simp only [setWindowBody, hrange]
  rw [if_neg (by omega)]
  cases s.timeUsable <;> cases s.spare.window <;> rfl

/-- SPARE_SET_WINDOW with a duration out of range. -/
theorem setWindowBody_duration (h10 : u8 r.cmd.payload 10 % 2 = 0)
    (h : u16 r.cmd.payload 8 < 10 ∨ 1000 < u16 r.cmd.payload 8) : setWindowBody r s = .status s Status.badParam := by
  have hrange : inRange 10 (u16 r.cmd.payload 8) 1000 = false := by simp [inRange]; omega
  simp only [setWindowBody, hrange]
  rw [if_neg (by omega)]
  rfl

/-- A start that is far enough ahead. -/
theorem State.dueInstant_window {d : Int} (h : s.time.deviceAt (r.reached + 38400000) ≤ d) :
    s.dueInstant r false d lead100 Config.outSample = s.sampleAt (s.time.localOf d) 10000 := by
  have hsoon : s.tooSoon r d lead100 = false := decide_eq_false (Int.not_lt.mpr h)
  rw [State.dueInstant, hsoon]
  rfl

/-- A renormalisation that falls due touches no retirement. -/
@[simp] theorem State.renormLater_spare (m : Mask64) : (s.renormLater m).spare = s.spare := by
  unfold State.renormLater State.internalSwapAt
  dsimp only
  split
  · rfl
  · split
    · rfl
    · split
      · split <;> rfl
      · rfl

/-- Paths newly retired together with those retired before. -/
theorem Mask64.or_new (a m : Mask64) : a ||| (m &&& ~~~a) = a ||| m := by
  ext i
  simp only [BitVec.getElem_or, BitVec.getElem_and, BitVec.getElem_not]
  cases a[i] <;> cases m[i] <;> rfl

/-- Retired paths without those restored. -/
theorem Mask64.and_not_both (a m : Mask64) : a &&& ~~~(m &&& a) = a &&& ~~~m := by
  ext i
  simp only [BitVec.getElem_and, BitVec.getElem_not]
  cases a[i] <;> cases m[i] <;> rfl

/-- The paths that a retirement takes out of a direction. -/
def newlyRetired (on : Bool) (m old : Mask64) : Mask64 := if on then m &&& ~~~old else 0#64

/-- What is retired after it. -/
theorem or_newlyRetired (on : Bool) (m old : Mask64) : old ||| newlyRetired on m old = if on then old ||| m else old := by
  cases on
  · exact BitVec.or_zero
  · exact Mask64.or_new old m

/-- A retirement marks its paths in its directions. -/
theorem State.retirePaths_spare (m : Mask64) (dir cause : Nat) :
    (s.retirePaths m dir cause).spare.rxRetired = s.spare.rxRetired ||| newlyRetired (dir % 2 = 1) m s.spare.rxRetired ∧
    (s.retirePaths m dir cause).spare.txRetired =
      s.spare.txRetired ||| newlyRetired (dir / 2 % 2 = 1) m s.spare.txRetired := by
  have hdir : ∀ (c : Prop) [Decidable c] (old : Mask64), (if c then m &&& ~~~old else 0#64) = newlyRetired c m old :=
    fun c _ old => (if_congr decide_eq_true_iff.symm rfl rfl)
  unfold State.retirePaths
  simp only [hdir]
  generalize newlyRetired (dir % 2 = 1) m s.spare.rxRetired = rx
  generalize newlyRetired (dir / 2 % 2 = 1) m s.spare.txRetired = tx
  split
  · rename_i h
    rw [h.1, h.2, BitVec.or_zero, BitVec.or_zero]
    exact ⟨rfl, rfl⟩
  · simp [apply_ite State.spare, State.zeroSlices, State.discardCaptures_keeps]

/-- A restoration clears its paths in its directions, and no mask comes back. -/
theorem State.restorePaths_keeps (m : Mask64) (dir : Nat) :
    (s.restorePaths m dir).spare.rxRetired =
      s.spare.rxRetired &&& ~~~(if dir % 2 = 1 then m &&& s.spare.rxRetired else 0#64) ∧
    (s.restorePaths m dir).spare.txRetired =
      s.spare.txRetired &&& ~~~(if dir / 2 % 2 = 1 then m &&& s.spare.txRetired else 0#64) ∧
    (s.restorePaths m dir).path.rxMask = s.path.rxMask ∧ (s.restorePaths m dir).path.txMask = s.path.txMask := by
  have hevents (f : Nat → Nat) (ks : List Nat) (u : State) :
      ((ks.foldl (fun u p => u.pathRetiredEvent p (f p) 0 1) u).spare,
        (ks.foldl (fun u p => u.pathRetiredEvent p (f p) 0 1) u).path) = (u.spare, u.path) :=
    foldl_keeps (fun u : State => (u.spare, u.path)) _ (fun u p => by simp [State.pathRetiredEvent]) ks u
  simp only [State.restorePaths, (Prod.mk.inj (hevents _ _ _)).1, (Prod.mk.inj (hevents _ _ _)).2, and_self]

/-- SPARE_RESTORE_PATH of a path whose slice is lost. -/
theorem restoreBody_lost (h : mask64 r.cmd.payload 0 &&& s.spare.sliceLost ≠ 0#64) :
    restoreBody r s = .status s Status.noSpare := by
  simp only [restoreBody, beq_eq_false_iff_ne.mpr h, firstFailure_fail]

/-- SPARE_RESTORE_PATH of paths whose slices are there. -/
theorem restoreBody_stores (h : mask64 r.cmd.payload 0 &&& s.spare.sliceLost = 0#64) (ht : s.nvTempOk = true) :
    restoreBody r s = .later ((s.restorePaths (mask64 r.cmd.payload 0) (u8 r.cmd.payload 8 % 4)).ownRecordWrite r.order) [] := by
  simp only [restoreBody, h, ht]
  rfl

end

/-! ### Declared failures (R502, R505, R506) -/

section
variable {s : State} {t unit : Nat}

/-- A declared failure of a unit that does not wait yet: out of service, then a spare for a window or none. -/
theorem exec_spareFailureDeclared_unit {kind : Fin 9} (hk : 4 ≤ kind.val) (hw : (kind.val, unit) ∉ s.spare.waiting) :
    exec (.spareFailureDeclared t kind unit) s =
      let u := (s.advance t).outOfService kind unit
      if u.spareFree kind then
        .next (State.failedEvent { u with spare := { u.spare with waiting := u.spare.waiting ++ [(kind.val, unit)] } }
          kind unit 1).startReplacement
      else .next ((u.noSpareLeft kind unit).failedEvent kind unit 2) := by
  have hwaits : ¬ (s.advance t).spare.waiting.contains (kind.val, unit) = true := by
    rw [List.contains_iff_mem]
    exact hw
  refine (if_neg (by omega)).trans ?_
  refine (if_neg (by omega)).trans ?_
  refine (if_neg (by omega)).trans ?_
  exact if_neg hwaits

/-- A unit that waits already: nothing is declared again. -/
theorem exec_spareFailureDeclared_waits {kind : Fin 9} (hk : 4 ≤ kind.val) (hw : (kind.val, unit) ∈ s.spare.waiting) :
    exec (.spareFailureDeclared t kind unit) s = .next (s.advance t) := by
  refine (if_neg (by omega)).trans ?_
  refine (if_neg (by omega)).trans ?_
  refine (if_neg (by omega)).trans ?_
  exact if_pos (List.contains_iff_mem.mpr hw)

/-- Dropping held candidates leaves the spares. -/
theorem State.dropHeld_spare (p : Nat) : (s.dropHeld p).spare = s.spare := by
  unfold State.dropHeld
  dsimp only
  split <;> rfl

/-- A bank out of service is no longer a working bank. -/
theorem State.outOfService_bank (b : Nat) :
    (s.outOfService 5 b).spare = { s.spare with banks := s.spare.banks.filter (fun x => x != b) } := by
  have hdrops : s.outOfService 5 b =
      match State.bankProfile { s with spare := { s.spare with banks := s.spare.banks.filter (fun x => x != b) } } b with
      | some q => State.dropHeld { s with spare := { s.spare with banks := s.spare.banks.filter (fun x => x != b) } } q
      | none => { s with spare := { s.spare with banks := s.spare.banks.filter (fun x => x != b) } } := rfl
  rw [hdrops]
  split
  · exact State.dropHeld_spare _
  · rfl

/-- Without a window no replacement starts. -/
theorem State.startReplacement_closed (h : s.spare.window = none) : s.startReplacement = s := by
  unfold State.startReplacement
  rw [h]

/-- A failed bank with a spare left waits for a window. -/
theorem exec_spareFailureDeclared_bank {b : Nat} (hw : (5, b) ∉ s.spare.waiting) (hwindow : s.spare.window = none)
    (hfree : s.spareFree 5 = true) : ∃ u : State, exec (.spareFailureDeclared t 5 b) s = .next (u.failedEvent 5 b 1) ∧
      u.spare.waiting = s.spare.waiting ++ [(5, b)] ∧ u.spare.banks = s.spare.banks.filter (fun x => x != b) ∧
      u.spare.used = s.spare.used := by
  have hspare := State.outOfService_bank (s := s.advance t) b
  have hfree' : ((s.advance t).outOfService 5 b).spareFree 5 = true := by
    rw [State.spareFree, State.sparesUsed, hspare]
    exact hfree
  have hclosed : ((s.advance t).outOfService 5 b).spare.window = none := by rw [hspare]; exact hwindow
  refine ⟨{ (s.advance t).outOfService 5 b with spare := { ((s.advance t).outOfService 5 b).spare with
    waiting := ((s.advance t).outOfService 5 b).spare.waiting ++ [(5, b)] } }, ?_, ?_, ?_, ?_⟩
  · refine (exec_spareFailureDeclared_unit (kind := 5) (by decide) hw).trans ((if_pos hfree').trans ?_)
    exact congrArg Host.Outcome.next (State.startReplacement_closed (by simp [State.failedEvent, hclosed]))
  · rw [hspare]; rfl
  · rw [hspare]; rfl
  · rw [hspare]; rfl

/-- A failed processor with no spare left is held out. -/
theorem exec_spareFailureDeclared_processor {p : Nat} (hw : (7, p) ∉ s.spare.waiting) (hused : s.sparesUsed 7 = 2) :
    ∃ u : State, exec (.spareFailureDeclared t 7 p) s = .next (u.failedEvent 7 p 2) ∧
      Tab.get u.spare.heldOut 7 0 = Tab.get s.spare.heldOut 7 0 + 1 ∧ (u.fabUnit (0x200 + p)).heldOut = true ∧
      u.spare.waiting = s.spare.waiting ∧ { u with now := s.now, spare := s.spare, fab := s.fab } = s := by
  have hnone : ¬ ((s.advance t).holdOut (0x200 + p)).spareFree 7 = true := by
    simp only [State.spareFree, show ((s.advance t).holdOut (0x200 + p)).sparesUsed 7 = 2 from hused, spareTotal,
      decide_eq_true_eq, List.getD_cons_succ, List.getD_cons_zero]
    omega
  refine ⟨((s.advance t).holdOut (0x200 + p)).countHeldOut 7,
    (exec_spareFailureDeclared_unit (kind := 7) (by decide) hw).trans (if_neg hnone), ?_, ?_, rfl, rfl⟩
  · simp [State.countHeldOut, State.holdOut, State.setUnit, State.advance]
  · have hunit := congrArg FabUnit.heldOut (State.setUnit_fabUnit (s := s.advance t) (0x200 + p) (0x200 + p)
      { (s.advance t).fabUnit (0x200 + p) with heldOut := true })
    rw [if_pos rfl] at hunit
    exact hunit

end

/-! ### Windows and replacements (R507 to R509) -/

section
variable {s : State} {w : Maintenance}

/-- START of the window. -/
theorem exec_spareWindowOpen_opens (hw : s.spare.window = some w) (ho : w.opened = false) : exec .spareWindowOpen s =
    .next (State.startReplacement { s.advance w.start with
      spare := { s.spare with window := some { w with opened := true } } }) := by
  change execSpareWindowOpen s = _
  rw [execSpareWindowOpen, hw]
  exact if_neg (by rw [ho]; decide)

/-- With no unit that may be replaced, no replacement starts. -/
theorem State.startReplacement_none (hw : s.spare.window = some w)
    (h : (replaceOrder s.spare.waiting).find? (fun x => decide (w.turn ≤ x.1) && s.fitsWindow w x.1) = none) :
    s.startReplacement = s := by
  unfold State.startReplacement
  rw [hw]
  cases s.spare.current with
  | some c => rfl
  | none =>
    dsimp only
    rw [h]
    split <;> rfl

/-- A processor's replacement ends before the window where 2 ms do. -/
theorem State.fitsWindow_processor : s.fitsWindow w 7 = decide (s.now + 768000000 < w.start + w.durationMs * 384000000) := rfl

/-- With no unit that waits, no replacement starts. -/
theorem State.startReplacement_idle (hw : s.spare.window = some w) (hwait : s.spare.waiting = []) : s.startReplacement = s :=
  State.startReplacement_none hw (by rw [hwait]; rfl)

/-- A processor's replacement that would end after the window does not start. -/
theorem State.startReplacement_late {p : Nat} (hw : s.spare.window = some w) (hwait : s.spare.waiting = [(7, p)])
    (hlate : w.start + w.durationMs * 384000000 ≤ s.now + 768000000) : s.startReplacement = s := by
  have hfits : ¬ (decide (w.turn ≤ 7) && s.fitsWindow w 7) = true := by
    rw [State.fitsWindow_processor, decide_eq_false (Nat.not_lt.mpr hlate), Bool.and_false]
    decide
  refine State.startReplacement_none hw ?_
  rw [hwait]
  exact List.find?_cons_of_neg hfits

/-- The one processor that waits is replaced in the open window. -/
theorem State.startReplacement_processor {p : Nat} (hw : s.spare.window = some w) (ho : w.opened = true) (ht : w.turn ≤ 7)
    (hc : s.spare.current = none) (hwait : s.spare.waiting = [(7, p)])
    (hfit : s.now + 768000000 < w.start + w.durationMs * 384000000) : s.startReplacement = { s with spare := { s.spare with
      waiting := [], current := some { kind := 7, unit := p, spare := 16 + s.sparesUsed 7, since := s.now }
      window := some { w with turn := 7 } } } := by
  have hfits : (decide (w.turn ≤ 7) && s.fitsWindow w 7) = true := by
    rw [State.fitsWindow_processor, decide_eq_true ht, decide_eq_true hfit]
    rfl
  have hfirst : (replaceOrder s.spare.waiting).find? (fun x => decide (w.turn ≤ x.1) && s.fitsWindow w x.1) = some (7, p) := by
    rw [hwait]
    exact List.find?_cons_of_pos hfits
  have hleft : s.spare.waiting.filter (fun x => x != (7, p)) = [] := by simp [hwait]
  unfold State.startReplacement
  simp only [hw, hc, hfirst, hleft]
  exact if_neg (by rw [ho]; decide)

/-- A processor's replacement that ends: the spare serves in its slot and holds its leases. -/
theorem State.installSpare_processor {p spare : Nat} (hp : p < 16) (hm : s.spare.procMap = []) :
    s.installSpare 7 p spare = State.moveLeases { s with spare := { s.spare with
      used := Tab.set s.spare.used 7 (s.sparesUsed 7 + 1), procMap := [(p, spare)] } } (0x200 + p) (0x200 + spare) := by
  have hslot (u : State) (h : u.spare.procMap = []) : u.processorSlot p = p := by
    simp [State.processorSlot, h, hp]
  have hset : Tab.set s.spare.procMap p spare = [(p, spare)] := by rw [hm]; rfl
  have hstep := hslot { s with spare := { s.spare with used := Tab.set s.spare.used 7 (s.sparesUsed 7 + 1) } } hm
  change State.moveLeases (if State.processorSlot { s with spare := _ } p < 16 then _ else _) (0x200 + p) (0x200 + spare) = _
  rw [hstep, if_pos hp]
  exact congrArg (fun t => State.moveLeases { s with spare := { s.spare with
    used := Tab.set s.spare.used 7 (s.sparesUsed 7 + 1), procMap := t } } (0x200 + p) (0x200 + spare)) hset

/-- No lease stays with the owner whose leases moved. -/
theorem State.moveLeases_owner {a b : Nat} : ∀ l ∈ (s.moveLeases a b).fab.leases, l.owner ≠ a ∨ b = a := by
  intro l hl
  obtain ⟨m, -, rfl⟩ := List.mem_map.mp hl
  split
  · exact (eq_or_ne b a).symm
  · exact Or.inl ‹_›

/-- EV_SPARE_REPLACED of a replacement has been raised. -/
def State.toldReplaced (s : State) (c : Replacement) (us : Nat) : State :=
  s.raiseEvent 0x0E02 .notice (le 1 c.kind ++ le 1 c.unit ++ le 1 c.spare ++ zeros 1 ++
    le 4 (Nat.min us (interruptMax c.kind)) ++ s.ts64Bytes s.now)

/-- The replacement in progress ends once its work is done. -/
theorem exec_spareReplacementDone_ends {t us : Nat} {c : Replacement} (hc : s.spare.current = some c)
    (ht : c.since ≤ max s.now t) (hready : (s.advance t).replacementReady c = true) : exec (.spareReplacementDone t us) s =
      .next ((State.installSpare { s.advance t with spare := { s.spare with current := none } } c.kind c.unit
        c.spare).toldReplaced c us).startReplacement := by
  have hdone : ¬ ((s.advance t).now < c.since ∨ (s.advance t).replacementReady c = false) := by
    rw [hready]
    exact not_or.mpr ⟨Nat.not_lt.mpr ht, by decide⟩
  change execSpareReplacementDone t us s = _
  simp only [execSpareReplacementDone, show (s.advance t).spare.current = some c from hc]
  exact if_neg hdone

/-- SPARE_REPLACEMENT_DONE of a processor. -/
theorem exec_spareReplacementDone_processor {t us : Nat} {c : Replacement} (hc : s.spare.current = some c) (hk : c.kind = 7)
    (ht : c.since ≤ max s.now t) (hw : s.spare.window = none) (hu : c.unit < 16) (hm : s.spare.procMap = []) :
    ∃ u : State, exec (.spareReplacementDone t us) s = .next (u.raiseEvent 0x0E02 .notice
        (le 1 7 ++ le 1 c.unit ++ le 1 c.spare ++ zeros 1 ++ le 4 (min us 2000) ++ u.ts64Bytes u.now)) ∧
      u.spare.current = none ∧ u.sparesUsed 7 = s.sparesUsed 7 + 1 ∧ u.spare.procMap = [(c.unit, c.spare)] ∧
      (∀ l ∈ u.fab.leases, l.owner ≠ 0x200 + c.unit ∨ c.spare = c.unit) := by
  obtain ⟨kind, unit, spare, since⟩ := c
  obtain rfl : kind = 7 := hk
  have hinstall := State.installSpare_processor (s := { s.advance t with spare := { s.spare with current := none } })
    (spare := spare) hu hm
  generalize hv : State.moveLeases _ (0x200 + unit) (0x200 + spare) = v at hinstall
  have hexec := (exec_spareReplacementDone_ends (us := us) hc ht rfl).trans (congrArg (fun u : State =>
    Host.Outcome.next (u.toldReplaced { kind := 7, unit := unit, spare := spare, since := since } us).startReplacement) hinstall)
  have hwindow : v.spare.window = none := by rw [← hv]; exact hw
  rw [State.startReplacement_closed (by simp [State.toldReplaced, hwindow])] at hexec
  subst hv
  refine ⟨_, hexec, rfl, ?_, rfl, ?_⟩
  · exact (Tab.get_set s.spare.used 7 7 _ 0).trans (if_pos rfl)
  · exact fun l hl => (State.moveLeases_owner l hl).imp_right Nat.add_left_cancel

/-- ENGINE_DRAIN_TIMEOUT of an engine that serves its own index. -/
theorem exec_engineDrainTimeout_own {c : Replacement} (hc : s.spare.current = some c) (hk : c.kind = 8) (hu : c.unit < 32)
    (hm : s.spare.engineMap = []) : exec .engineDrainTimeout s =
      .next (if (s.advance (c.since + 768000000)).engineActive c.unit
        then (s.advance (c.since + 768000000)).abortEngine c.unit else s.advance (c.since + 768000000)) := by
  have hserved : (s.advance (c.since + 2 * Config.ms)).engineServed c.unit = some c.unit := by
    have hmap : (s.advance (c.since + 2 * Config.ms)).spare.engineMap = [] := hm
    rw [State.engineServed, hmap]
    exact if_pos ⟨hu, rfl⟩
  change execEngineDrainTimeout s = _
  simp only [execEngineDrainTimeout, hc, hserved]
  exact if_neg (not_not.mpr hk)

end

/-! ### Wear and hours (R513, R514) -/

section
variable {s : State} {t k v : Nat}

/-- SPARE_WEAR of the spare sectors: raised once per boot, once 36 are in use. -/
theorem exec_spareWear_sectors : exec (.spareWear t 3 k v) s =
    if !s.boot.ready || s.spare.wear.contains 769 || !decide (36 ≤ s.nv.spareUsed) then .next (s.advance t)
    else .next (State.raiseEvent { s.advance t with spare := { s.spare with wear := 769 :: s.spare.wear } } 0x0E04 .notice
      ([3#8, 1#8, 0#8, 0#8] ++ zeros 12)) := by
  have hkind : wearKind (3 : Fin 5) k = 1 := rfl
  have hholds : (s.advance t).wearHolds (3 : Fin 5) k v = decide (36 ≤ s.nv.spareUsed) := rfl
  have hvalue : ∀ u : State, u.wearValue (3 : Fin 5) v = 0 := fun _ => rfl
  change execSpareWear t 3 k v s = _
  simp only [execSpareWear, hkind, hholds, hvalue]
  rfl

/-- The hour that ends is counted where the temperature allows. -/
theorem exec_serviceRecordUpdate_hour (h : s.boot.ready = true) : exec .serviceRecordUpdate s =
    .next (State.nvOwnWrite { s.advance (s.spare.hourAt + 1382400000000000) with
      spare := { s.spare with hourAt := s.spare.hourAt + 1382400000000000 } } .serviceRecord
      (le 1 1 ++ le 1 (hoursBand s.thermal.tj))) :=
  if_neg (by rw [h]; decide)

end

/-! ### Spares and service life (O60) -/

/-- Settles O60: failures and windows by kind, the replacements, the retirements, wear and hours, clause by clause. -/
theorem sparesAndServiceLife : Obligations.SparesAndServiceLife := by
  unfold Obligations.SparesAndServiceLife
  refine ⟨?_, ?_, ?_, ?_, ?_, ?_, ?_, ?_, ?_, ?_, ?_, ?_, ?_, ?_, ?_, ?_, ?_, ?_, ?_, ?_, ?_, ?_, ?_, ?_, ?_, ?_, ?_, ?_, ?_,
    ?_, ?_, ?_⟩
  · intro s r h
    obtain ⟨hlen, hrx, htx, hours, hwindow⟩ := s.spareStatus_fields
    have htotal {k : Nat} (hlo : 4 ≤ k) (hk : k < 9) := State.spareStatus_total (s := s) hlo hk
    exact ⟨_, runCommand_effect h rfl, hlen, hrx, htx, hours, hwindow, htotal (k := 4) (by decide) (by decide),
      htotal (k := 5) (by decide) (by decide), htotal (k := 6) (by decide) (by decide),
      htotal (k := 7) (by decide) (by decide), htotal (k := 8) (by decide) (by decide)⟩
  · intro s r h h10 hlo hhi ht hw hahead
    have hbody := setWindowBody_eq (s := s) (r := r) h10 hlo hhi
    rw [ht, hw, State.dueInstant_window hahead] at hbody
    exact runCommand_effect h hbody
  · exact fun s r h h10 => runCommand_effect h (if_pos h10)
  · exact fun s r h h10 hbad => runCommand_status h (setWindowBody_duration h10 hbad) (by decide)
  · intro s r h h10 hlo hhi ht
    exact runCommand_status h ((setWindowBody_eq h10 hlo hhi).trans (if_pos ht)) (by decide)
  · intro s r h h10 hlo hhi ht hw
    have hbody := setWindowBody_eq (s := s) (r := r) h10 hlo hhi
    rw [ht, hw] at hbody
    exact runCommand_status h hbody (by decide)
  · exact fun s r h ht => runCommand_effect h (if_neg (by rw [ht]; decide))
  · exact fun s r h ht => runCommand_status h (if_pos (by rw [ht]; decide)) (by decide)
  · intro s m dir cause hd
    obtain ⟨hrx, htx⟩ := State.retirePaths_spare (s := s) m dir cause
    have hhigh : dir / 2 % 2 = dir / 2 := by omega
    rw [hrx, htx, or_newlyRetired, or_newlyRetired, hhigh]
    simp only [decide_eq_true_eq, and_self]
  · exact fun s r h hlost => runCommand_status h (restoreBody_lost hlost) (by decide)
  · exact fun s r h hlost ht => runCommand_effect h (restoreBody_stores hlost ht)
  · intro s m dir hd
    obtain ⟨hrx, htx, hrxMask, htxMask⟩ := State.restorePaths_keeps (s := s) m dir
    have hhigh : dir / 2 % 2 = dir / 2 := by omega
    have hclear (c : Prop) [Decidable c] (old : Mask64) :
        old &&& ~~~(if c then m &&& old else 0#64) = if c then old &&& ~~~m else old := by
      split
      · exact Mask64.and_not_both old m
      · exact BitVec.and_allOnes
    rw [hrx, htx, hclear, hclear, hhigh]
    exact ⟨rfl, rfl, hrxMask, htxMask⟩
  · exact fun s t u => ⟨rfl, rfl⟩
  · exact fun s t m hm => congrArg Host.Outcome.next (if_pos hm)
  · exact fun s t b => exec_spareFailureDeclared_bank
  · exact fun s t p => exec_spareFailureDeclared_processor
  · exact fun s t u k => exec_spareFailureDeclared_waits
  · intro s w hw ho hwait
    refine (exec_spareWindowOpen_opens hw ho).trans (congrArg Host.Outcome.next ?_)
    exact State.startReplacement_idle (w := { w with opened := true }) rfl hwait
  · intro s w p hw ho hturn hc hwait hfit
    refine ⟨_, (exec_spareWindowOpen_opens hw ho).trans (congrArg Host.Outcome.next
      (State.startReplacement_processor (w := { w with opened := true }) rfl rfl (hturn.trans_le (by decide))
        hc hwait hfit)), rfl, rfl, rfl, rfl, rfl⟩
  · intro s w p hw ho hc hwait hfit
    refine (exec_spareWindowOpen_opens hw ho).trans (congrArg Host.Outcome.next ?_)
    exact State.startReplacement_late (w := { w with opened := true }) rfl hwait hfit
  · intro s hw
    refine ⟨?_, ?_⟩
    · change execSpareWindowOpen s = _
      rw [execSpareWindowOpen, hw]
    · change execMaintenanceWindowEnd s = _
      rw [execMaintenanceWindowEnd, hw]
  · intro s w hw ho
    change execMaintenanceWindowEnd s = _
    rw [execMaintenanceWindowEnd, hw]
    exact if_neg (by rw [ho]; decide)
  · exact fun s t us c => exec_spareReplacementDone_processor
  · intro s t us hc
    change execSpareReplacementDone t us s = _
    simp only [execSpareReplacementDone, show (s.advance t).spare.current = none from hc]
  · intro s t us c hc ht
    change execSpareReplacementDone t us s = _
    simp only [execSpareReplacementDone, show (s.advance t).spare.current = some c from hc]
    exact if_pos (Or.inl ht)
  · exact fun s c => exec_engineDrainTimeout_own
  · intro s hc
    change execEngineDrainTimeout s = _
    rw [execEngineDrainTimeout, hc]
  · intro s t k v hready hnew hused
    refine exec_spareWear_sectors.trans (if_neg ?_)
    rw [hready, List.contains_eq_mem, decide_eq_false hnew, decide_eq_true hused]
    decide
  · intro s t k v h
    refine exec_spareWear_sectors.trans (if_pos ?_)
    rw [Bool.or_eq_true, Bool.or_eq_true, List.contains_iff_mem, Bool.not_eq_true',
      Bool.not_eq_true', decide_eq_false_iff_not, Nat.not_le]
    exact h.imp_left Or.inr
  · exact fun s hready ht => (exec_serviceRecordUpdate_hour hready).trans (congrArg Host.Outcome.next (if_pos ht))
  · exact fun s hready ht => (exec_serviceRecordUpdate_hour hready).trans
      (congrArg Host.Outcome.next (if_neg (Bool.eq_false_iff.mp ht)))
  · exact fun s h => if_pos (by rw [h]; rfl)

end Sys2Proof.Machine
end
